-- ==== Sys2Proof/Word.lean ====
section
/-! DEFINITION. The word types of the model: a register is 32 bits wide (spec/02 R31), a byte of a store is 8 bits
wide (spec/00 R5). -/

namespace Sys2Proof

/-- A register word (spec/02 R31: every register access is 32 bits wide). -/
abbrev Word := BitVec 32

/-- A byte of SRAM, of the flash, of the pattern or of NVS (spec/00 R5). -/
abbrev Byte := BitVec 8

end Sys2Proof
end

