-- ==== Sys2Proof/Messages.lean ====
section
/-! DEFINITION. What crosses the edges of the block: requesters, seam flits, frames, ring messages and the other traffic
that commands bring in and the hub sends out. -/

namespace Sys2Proof

/-- Who accesses registers: firmware on a hart, the SPI target, the PCIe upstream function (spec/02 R27). -/
inductive Requester where
  | hart (h : Fin 4)
  | spi
  | pcie
  /-- The hub itself: its pattern loader, and a write that has crossed the seam.  It sends no commands: no command from
  outside names it (WellFormed). -/
  | hub
  deriving DecidableEq, Repr

/-- The two dies (spec/01 R12). -/
inductive Die where
  | bolt
  | spool
  deriving DecidableEq, Repr

/-- A flit without its TYPE, which the command fixes: channel, sequence number, data and CRC (spec/02 R39). -/
structure FlitBody where
  ch : BitVec 4
  seq : BitVec 8
  data : BitVec 64
  crc : BitVec 16
  deriving DecidableEq, Repr

/-- The configurable units of spec/02 R35: each has a CTRL, a STATUS and a REFUSE register. -/
inductive HUnit where
  | pat | clk
  | lanePort (n : Fin 8)
  | tun | swb | sch | altBaste | altAlarm | rng
  | aud | audTdm (t : Fin 16)
  | stc | stcCh (c : Fin 128) | stcCvu (u : Fin 144)
  | pcb | pcbQuad (q : Fin 3) | pcbLink (l : Fin 32)
  | dpe | dpeDp (q : Fin 3) | dpeEth (q : Fin 3)
  | key | cnt | nts
  | tcp | tcpPort (n : Fin 6)
  | usb
  | gate (n : Fin 7)
  | lanRule (r : Fin 32)
  | tmp
  deriving DecidableEq, Repr

/-- The header of a tunnel frame without its check HCRC (spec/06 R131). -/
structure Hdr where
  tunnel : BitVec 12
  cls : BitVec 3
  kind : BitVec 4
  seq : BitVec 16
  length : BitVec 14
  src : BitVec 8
  dst : BitVec 8
  buddy : Bool
  path : Bool
  ctOk : Bool
  enc : Bool
  gen : BitVec 2
  last : Bool
  resv : Bool
  svc : BitVec 39
  deriving DecidableEq, Repr

/-- A tunnel frame: header and payload bytes; the checks follow from them (spec/06 R131). -/
structure Frame where
  hdr : Hdr
  payload : List Byte
  deriving DecidableEq, Repr

/-- Bits received on a lane as they stand on the line, tack bits included, first bit first (spec/05 R108), and the rows that
the local row clock has read from the port's elastic buffer since bits last arrived on the port (spec/04 R93). -/
structure LineRx where
  lane : Fin 20
  bits : List Bool
  reads : Nat
  deriving DecidableEq, Repr

/-- The same without the lane. -/
structure RxBits where
  bits : List Bool
  reads : Nat
  deriving DecidableEq, Repr

/-- The address of a read; for a spool register, whether the answer came back before anything befell the seam (spec/02 R43). -/
structure ReadAt where
  addr : Word
  delivered : Bool
  deriving DecidableEq, Repr

/-- A place in a BAR of the management function: BAR 0 or BAR 2, and the offset in it (spec/13 R294). -/
structure BarAt where
  bar2 : Bool
  offset : Word
  deriving DecidableEq, Repr

/-- How far a step of the pattern loader came: its source could not be read; the spool writes of it that reached the spool die
before the seam failed, none where all do (spec/03 R63, R68). -/
structure StepReport where
  readFails : Bool
  landed : Option Nat
  deriving DecidableEq, Repr

/-- Bits in error in the row of one word of a frame (spec/07 R165, R166). -/
structure RowError where
  word : Nat
  bits : Nat
  deriving DecidableEq, Repr

/-- The end of a port's copy, with the error of the row that was read on the way. -/
structure CopyEnd where
  port : Fin 12
  row : RowError
  deriving DecidableEq, Repr

/-- The loss-of-signal flags of a module, by lane (spec/05 R128). -/
structure ModLos where
  rx : BitVec 4
  tx : BitVec 4
  deriving DecidableEq, Repr

/-- The transmitter's line and video frame times in ns (spec/14 R318). -/
structure TxVideo where
  lineNs : Nat
  frameNs : Nat
  deriving DecidableEq, Repr

/-- The rate and the lanes (0: 1, 1: 2, 2: 4) to which a DisplayPort link has trained (spec/08 R499). -/
structure DpTrained where
  rate : Fin 4
  lanes : Fin 3
  deriving DecidableEq, Repr

/-- A Dock port, and a time in ms that has passed there. -/
structure PortMs where
  port : Fin 6
  ms : Nat
  deriving DecidableEq, Repr

/-- A gate, and a time in ms that has passed there. -/
structure GateMs where
  gate : Fin 7
  ms : Nat
  deriving DecidableEq, Repr

/-- A gate, and the voltage of its shunt in µV (spec/17 R376). -/
structure GateShunt where
  gate : Fin 7
  uV : Nat
  deriving DecidableEq, Repr

/-- The impedances in kΩ that the moisture test measures at the four pins (spec/15 R332). -/
structure PinKohm where
  cc1 : Nat
  cc2 : Nat
  sbu1 : Nat
  sbu2 : Nat
  deriving DecidableEq, Repr

/-- The termination that each CC pin's reading matches: 0 none, 1 Ra, 2 Rd, 3 Rp (spec/15 R332). -/
structure CcTerms where
  term1 : Fin 4
  term2 : Fin 4
  deriving DecidableEq, Repr

/-- A device's address on a USB bus and an endpoint of it (spec/16 R364). -/
structure UsbEndpoint where
  addr : Fin 128
  ep : Fin 16
  deriving DecidableEq, Repr

/-- A tamper sensor's reading, and whether its condition stays (spec/19 R424). -/
structure TamperReading where
  present : Bool
  value : Nat
  deriving DecidableEq, Repr

/-- A stitch, tack bits removed: marker and payload as scrambled (spec/05 R100). -/
structure Stitch where
  marker : BitVec 16
  payload : BitVec 512
  deriving DecidableEq, Repr

/-- A TIME message (spec/04 R83); times are ns × 256 + sub-ns. -/
structure TimeMsg where
  tTx : BitVec 72
  echoT1 : BitVec 72
  echoT2 : BitVec 72
  cycle : BitVec 32
  hops : BitVec 8
  master : BitVec 8
  epoch : BitVec 16
  sync : BitVec 3
  deriving DecidableEq, Repr

/-- A transaction-layer packet, decoded as the PCI Express Base Specification lays it out, beside its bytes (spec/13 R295,
R298; assumption log 20). -/
structure Tlp where
  /-- 0 posted, 1 non-posted, 2 completion: the sub-channel it travels on. -/
  kind : Fin 3
  /-- Requester ID and tag. -/
  req : BitVec 16
  tag : BitVec 10
  addr : BitVec 64
  /-- Data bytes it carries, and the bytes of completion data it asks for. -/
  data : Nat
  asks : Nat
  /-- A completion that ends its request: the last byte, or an error status. -/
  ends : Bool
  /-- A completion with an error status. -/
  err : Bool
  /-- Relaxed or ID-Based Ordering lets a completion pass a posted request. -/
  relaxed : Bool
  /-- Part of a locked sequence; Memory Read Lock itself; the Unlock message. -/
  locked : Bool
  lockRead : Bool
  unlock : Bool
  /-- Malformed, or routed to another downstream port, or read from PCB memory with an uncorrectable error. -/
  bad : Bool
  p2p : Bool
  ecc : Bool
  bytes : List Byte
  deriving DecidableEq, Repr

/-- The timing of a received DisplayPort stream (spec/14 R315): the fields of a descriptor, the link symbol clock in Hz, the lanes to
which the link has trained (0: 1, 1: 2, 2: 4) and the pixel FORMAT byte. -/
structure DpTiming where
  htotal : BitVec 16
  hstart : BitVec 16
  hwidth : BitVec 16
  hsync : BitVec 16
  vtotal : BitVec 16
  vstart : BitVec 16
  vheight : BitVec 16
  vsync : BitVec 16
  mvid : BitVec 24
  nvid : BitVec 24
  misc0 : BitVec 8
  misc1 : BitVec 8
  vtNs : BitVec 64
  symClk : Nat
  lanes : Fin 3
  format : BitVec 8
  deriving DecidableEq, Repr

/-- How a register access ended (spec/02 R30, R31, R43): done, access error, not token holder, seam down. -/
inductive Access where
  | done
  | error
  | notHolder
  | seamDown
  deriving DecidableEq, Repr

/-- A USB Power Delivery message that a Dock port sends (spec/15 R329): the messages whose sending the spec decides. -/
inductive PdMsg where
  | sourceCaps (pdos : List Word)
  /-- Object position, current in 10 mA, Capability Mismatch. -/
  | request (pos : Nat) (curr : Nat) (mismatch : Bool)
  | accept
  | reject
  | wait
  | psRdy
  | softReset
  | hardReset
  | prSwap
  | drSwap
  | vconnSwap
  | frSwap
  /-- Discovery of the partner (SOP) or of the cable (SOP'). -/
  | discover (cable : Bool)
  | enterMode
  | exitMode
  | vdmAck (objects : List Word)
  | vdmNak
  | vdmBusy
  deriving DecidableEq, Repr

/-- What a Dock port does at its CC wires and its regulator (spec/15). -/
inductive TypecAct where
  | openCc
  /-- Rp presented: 0 Default USB, 1 1.5 A, 2 3.0 A (R331). -/
  | presentRp (adv : Nat)
  | presentRd
  /-- The regulator's setpoint in mV; its setpoint frozen (R348). -/
  | regulator (mv : Nat)
  | freeze
  /-- The FR_Swap signal (R343). -/
  | frSignal
  /-- A moisture test starts (R332). -/
  | moistureTest
  deriving DecidableEq, Repr

/-- What the USB hub does at its wires (spec/16). -/
inductive UsbOut where
  /-- The upstream pull-up. -/
  | pull (up : Bool)
  | sof (frame : Nat) (uframe : Nat)
  /-- The answer to a split: 0 ACK or data, 1 NAK, 2 STALL, 3 ERROR, 4 NYET, with toggle and data. -/
  | split (port : Nat) (hs : Nat) (toggle : Bool) (data : List Byte)
  /-- A transaction on a far port's bus: PID, address, endpoint, toggle, data. -/
  | bus (port : Nat) (pid addr ep : Nat) (toggle : Bool) (data : List Byte)
  /-- A Dock port's bus: 0 reset, 1 suspended, 2 resumed; far says the proxy drives it. -/
  | port (far : Bool) (port : Nat) (what : Nat)
  /-- The hub signals resume upstream. -/
  | resumeUp
  /-- A mailbox reply on EP1 IN, with its notice on EP2. -/
  | reply (bytes : List Byte)
  /-- An isochronous IN packet: the samples of each channel. -/
  | isoIn (samples : List (List Nat))
  | feedback (v : Nat)
  /-- A pipe of the internal host starts its transfer: its CFG and CFG2 words, the SETUP bytes, the bytes that go out. -/
  | pipe (p : Nat) (cfg cfg2 : Word) (setup data : List Byte)
  /-- The device function answers GET_DESCRIPTOR of the device with these identities. -/
  | ids (vid pid bcd : Nat)
  /-- The device function answers a control request that it does not serve with STALL. -/
  | stall
  deriving DecidableEq, Repr

/-- What the hub sends out of the block or does at its edges; State keeps the list, newest first. -/
inductive Output where
  /-- The end of a register access for its requester. -/
  | access (who : Requester) (status : Access) (data : Word)
  /-- The status byte of an SPI transaction with its read data (spec/02 R30). -/
  | spiStatus (status : Nat) (data : Word)
  /-- A flit sent over the seam by a die. -/
  | flit (die : Die) (type : Nat) (ch : Nat) (seq : Nat) (data : Nat)
  /-- An MSI-X message on a vector, through the table entry of that number (spec/02 R38; spec/13 R294). -/
  | msix (vector : Nat) (entry : List Byte)
  /-- The interrupt line of a PLIC context to its hart changes level (spec/02 R37). -/
  | contextLine (context : Nat) (high : Bool)
  /-- A hart starts at an address, or jumps there from the boot ROM (spec/02 R26). -/
  | hartStart (h : Nat) (pc : Nat)
  /-- Bytes written to host memory by the PCIe management function (spec/20 R437). -/
  | hostWrite (addr : Nat) (bytes : List Byte)
  /-- A received CTRL message handed to its owner: port, KIND, message bits (spec/05 R106). -/
  | ctrl (port : Nat) (kind : Nat) (msg : Nat)
  /-- The line bits of a stitch sent on a lane, tack bits included, first bit first (spec/05 R100 to R102, R108). -/
  | line (lane : Nat) (bits : List Bool)
  /-- A frame delivered to the adapter behind a local port. -/
  | local (port : Nat) (f : Frame)
  /-- A frame that a service hands to the adapter of its entry (spec/06 R146, R155). -/
  | service (entry : Nat) (f : Frame)
  /-- A RING_CTRL frame handed to the ring engine, by the trunk it came on. -/
  | ring (port : Nat) (f : Frame)
  /-- A FRAY reaching the adapter behind a local port (spec/06 R151). -/
  | frayLocal (port : Nat) (tunnel : Nat) (seq : Nat)
  /-- A module manager drives its pins or bus: 0 reset pulse, 1 read, 2 write, with offset and data (spec/05 R128, R129). -/
  | modBus (t : Nat) (op : Nat) (offset : Nat) (data : Nat)
  /-- A PRBS generator inverts one bit of its output (spec/05 R126). -/
  | prbsFlip (lane : Nat)
  /-- A lane's line carries a PRBS pattern alone from here on: the register its sequence starts from (spec/05 R125); none:
  no pattern any more. -/
  | prbsOn (lane : Nat) (poly : Nat) (reg : Option Nat)
  /-- ModSelL, and LPMode, of a trunk's module driven to a level (spec/05 R127, R128). -/
  | modSel (t : Nat) (selected : Bool)
  | lpMode (t : Nat) (high : Bool)
  /-- A pulse on PPS_OUT (spec/04). -/
  | ppsOut
  /-- A TDM port sends a frame, on swapped BCLK edges or not: by bit period FSYNC, none where the partner drives it, and DOUT, none where
  it is at high impedance (spec/11 R260). -/
  | tdm (t : Nat) (inverted : Bool) (bits : List (Option Bool × Option Bool))
  /-- A TDM port stops with DOUT low (spec/11 R281). -/
  | tdmLow (t : Nat)
  /-- A TLP sent onto the PCIe link of a quad: sub-channel, requester, tag, error status, bytes. -/
  | tlp (q kind req tag : Nat) (err : Bool) (bytes : List Byte)
  /-- A control record handed to a bridge link (spec/13 R299). -/
  | pcbControl (l : Nat) (body : List Byte)
  /-- The far end holds its PCIe link in Hot Reset or disabled (spec/13 R308). -/
  | pcieHold (q : Nat) (reset disable : Bool)
  /-- A downstream port reports: 0 Uncorrectable Internal Error, 1 Unexpected Completion advisory, 2 hot-plug event. -/
  | pcieReport (l : Nat) (what : Nat)
  /-- An Ethernet frame sent by a MAC, with its FCS (spec/14 R322, R323). -/
  | eth (mac : Nat) (bytes : List Byte)
  /-- A display transmitter sends a video frame: the segments of each line, none for black; no lines for a black frame
  (spec/14 R318). -/
  | dpVideo (q : Nat) (lines : List (List (Option (List Byte))))
  /-- A secondary data packet sent to the display. -/
  | dpSdp (q : Nat) (bytes : List Byte)
  /-- An AUX answer to the video source: 0 reply with bytes, 1 AUX_DEFER, 2 AUX_NACK, 3 from the own DPCD; and 4, a request
  sent on to the display (spec/14 R320). -/
  | aux (q : Nat) (what : Nat) (bytes : List Byte)
  /-- The receiver's HPD pin driven, or an IRQ_HPD pulse (spec/14 R320). -/
  | hpdPin (q : Nat) (high : Bool)
  | hpdIrq (q : Nat)
  /-- PGn_GATE and PGn_PRE of a gate: the main FET off (0), ramped at `dvdt` × 0.1 V/ms (1) or fully on (2); the precharge FET
on (spec/17 R370, R374). -/
  | gatePins (n drive dvdt : Nat) (pre : Bool)
  /-- A PD message sent by a Dock port, and what a Dock port does at its wires (spec/15). -/
  | pd (port : Nat) (m : PdMsg)
  | typec (port : Nat) (act : TypecAct)
  | usb (o : UsbOut)
  /-- Traffic a flit brought to the spool die's or the bolt die's unit. -/
  | deliver (die : Die) (type : Nat) (ch : Nat) (data : Nat)
  deriving DecidableEq, Repr

end Sys2Proof
end

