-- ==== Sys2Proof/Syntax.lean ====
section
/-! DEFINITION. The commands of the block: one constructor per row of spec/opcode_table.json, with the operands that the
row's event carries (who writes, which value, which frame or message arrived, what was measured). -/

namespace Sys2Proof

/-- The commands the block takes, in the order of spec/opcode_table.json. -/
inductive Instr where
  /-- REG_WRITE (R6): a write of `width` bytes of `value` at `addr`; for a spool register `delivered` says whether the REG_WR flit reached the spool die before anything befell the seam. -/
  | regWrite (who : Requester) (addr : Word) (value : Word) (width : Nat) (delivered : Bool)
  /-- LO_READ (R32): a read of a _LO register. -/
  | loRead (who : Requester) (a : ReadAt)
  /-- LO_WRITE (R33): a write of the _LO register at `addr`. -/
  | loWrite (who : Requester) (addr : Word) (value : Word)
  /-- HI_WRITE (R33): a write of the _HI register at `addr`. -/
  | hiWrite (who : Requester) (addr : Word) (value : Word)
  /-- HART_RELEASE (R26): a write of TOP_HART_RELEASE. -/
  | hartRelease (who : Requester) (value : Word)
  /-- TOKEN_RELEASE (R28): a write of TOP_HOST_TOKEN with RELEASE set and NEXT `next`. -/
  | tokenRelease (who : Requester) (next : Fin 4)
  /-- TOKEN_REQUEST (R27): a write of TOP_HOST_TOKEN with the request bits given. -/
  | tokenRequest (who : Requester) (reqSpi reqPcie : Bool)
  /-- TOKEN_DENY (R27): a write of TOP_HOST_TOKEN with DENY set. -/
  | tokenDeny (who : Requester)
  /-- HOST_HB_BEAT (R28): a write of TOP_HOST_HB with BEAT set and PERIOD_MS `period`. -/
  | hostHbBeat (who : Requester) (period : BitVec 16)
  /-- HOST_HB_LAPSE (R28): the heartbeat timer is looked at, `sinceBeatMs` after the last beat. -/
  | hostHbLapse (sinceBeatMs : Nat)
  /-- SPI_WRITE (R30): command 0x02 on the SPI target. -/
  | spiWrite (addr : Word) (value : Word) (delivered : Bool)
  /-- SPI_READ (R30): command 0x0B on the SPI target. -/
  | spiRead (a : ReadAt)
  /-- PCIE_BAR_ACCESS (R294): an access through BAR 0 or BAR 2 of the management function. -/
  | pcieBarAccess (place : BarAt) (write : Bool) (value : Word) (width : Nat) (delivered : Bool)
  /-- UNIT_ENABLE (R35): a write of the unit's CTRL with ENABLE 1 (the other fields from `value`). -/
  | unitEnable (who : Requester) (u : HUnit) (value : Word)
  /-- CHECK_DONE (R35): the unit's consistency check ends. -/
  | checkDone (u : HUnit)
  /-- UNIT_DISABLE (R35): a write of the unit's CTRL with ENABLE 0 (the other fields from `value`). -/
  | unitDisable (who : Requester) (u : HUnit) (value : Word)
  /-- UNIT_STOPPED (R35): the unit's stop is finished. -/
  | unitStopped (u : HUnit)
  /-- IDLE_FLIT (R39): an IDLE flit arrives at a die. -/
  | idleFlit (die : Die) (f : FlitBody)
  /-- REG_WR_FLIT (R39): a REG_WR flit arrives at the spool die. -/
  | regWrFlit (f : FlitBody)
  /-- REG_RD_FLIT (R39): a REG_RD flit arrives at the spool die. -/
  | regRdFlit (f : FlitBody)
  /-- REG_RESP_FLIT (R39): a REG_RESP flit arrives at the bolt die. -/
  | regRespFlit (f : FlitBody)
  /-- PD_MSG_FLIT (R39): a PD_MSG flit arrives at a die. -/
  | pdMsgFlit (die : Die) (f : FlitBody)
  /-- USB_FLIT (R39): a USB flit arrives at a die. -/
  | usbFlit (die : Die) (f : FlitBody)
  /-- EVENT_FLIT (R39): an EVENT flit arrives at the bolt die. -/
  | eventFlit (f : FlitBody)
  /-- NVS_REQ_FLIT (R39): an NVS_REQ flit arrives at the spool die. -/
  | nvsReqFlit (f : FlitBody)
  /-- NVS_DATA_FLIT (R39): an NVS_DATA flit arrives at a die. -/
  | nvsDataFlit (die : Die) (f : FlitBody)
  /-- SWITCH_FLIT (R40): a SWITCH flit arrives at a die. -/
  | switchFlit (die : Die) (f : FlitBody)
  /-- ACK_FLIT (R41): an ACK flit arrives at a die; SEQ names the last flit acknowledged. -/
  | ackFlit (die : Die) (f : FlitBody)
  /-- NAK_FLIT (R41): a NAK flit arrives at a die; SEQ names the first bad flit. -/
  | nakFlit (die : Die) (f : FlitBody)
  /-- FLIT_ACK_TIMEOUT (R41): the oldest unacknowledged flit of a die has waited 64 flit times. -/
  | flitAckTimeout (die : Die)
  /-- SEAM_RX_TIMEOUT (R41): 256 flit times with no valid flit received at a die. -/
  | seamRxTimeout (die : Die)
  /-- SEAM_RETRAIN_TIMER (R42): the 1 ms retrain timer ticks. -/
  | seamRetrainTimer
  /-- RETRAIN (R42): a write of SEAM_CTRL with RETRAIN set. -/
  | retrain (who : Requester)
  /-- SEAM_RETRAIN_DONE (R42): a retrain ends; `downUs` is the length of the down period in µs. -/
  | seamRetrainDone (success : Bool) (downUs : Nat)
  /-- PAT_LOAD_START (R63): a write of PAT_CTRL with ENABLE 1 (the other fields from `value`). -/
  | patLoadStart (who : Requester) (value : Word)
  /-- PAT_ABANDON (R66): a write of PAT_CTRL with ENABLE 0 while a load runs (the other fields from `value`). -/
  | patAbandon (who : Requester) (value : Word)
  /-- PAT_RESUME (R68): the loader finds the seam up again. -/
  | patResume
  /-- ROOT_PLL_LOCK (R79): the root PLL locks. -/
  | rootPllLock
  /-- PCIE_REF_CHECK (R80): a 10 µs window measured PCIE_REFCLKq at `ppmOff` ppm from 100 MHz (above 300: out of tolerance or absent). -/
  | pcieRefCheck (q : Fin 3) (ppmOff : Nat)
  /-- CYCLE_BOUNDARY (R82): Ring time reaches k × 125,000 ns and cycle k begins. -/
  | cycleBoundary
  /-- TIME_RX (R84): a TIME message arrives on a trunk at own ring time `t4`. -/
  | timeRx (p : Fin 2) (m : TimeMsg) (t4 : BitVec 72)
  /-- TIME_SOURCE_LOST (R85): a trunk's TIME messages have stopped. -/
  | timeSourceLost (p : Fin 2)
  /-- TIME_FAULT (R86): the offset has been above 1 µs for 8 consecutive cycles. -/
  | timeFault
  /-- HOLDOVER_LONG (R86): 8,000 cycles have passed in HOLDOVER. -/
  | holdoverLong
  /-- PPS_EDGE (R91): an edge of PPS_IN at own ring time `t`. -/
  | ppsEdge (t : BitVec 72) (falling : Bool)
  /-- PPS_LOST (R91): the 1.5 s wait for a PPS edge is looked at, at own ring time `t`. -/
  | ppsLost (t : BitVec 72)
  /-- REFCLK_LOST (R95): the spool die detects that REFCLK is lost. -/
  | refclkLost
  /-- PLL_UNLOCK (R95): the root PLL unlocks. -/
  | pllUnlock
  /-- REFCLK_RETURN (R96): REFCLK has been present and within tolerance for 10 ms. -/
  | refclkReturn
  /-- FRAME_STITCH_RX (R142): the line bits of a later FRAME stitch arrive on a lane. -/
  | frameStitchRx (l : Fin 20) (r : RxBits)
  /-- IDLE_STITCH_RX (R116): the line bits of an IDLE stitch arrive on a lane. -/
  | idleStitchRx (l : Fin 20) (r : RxBits)
  /-- CTRL_STITCH_RX (R106): the line bits of a CTRL stitch arrive on a lane. -/
  | ctrlStitchRx (t : LineRx)
  /-- ALIGN_RX (R114): the line bits of an ALIGN stitch arrive on a lane: those left over before it, those of its marker and those of its payload, tack bits among them; rows that the local row clock has read since bits last arrived on the port. -/
  | alignRx (l : Fin 20) (before marker payload : List Bool) (reads : Nat)
  /-- KEEPALIVE_RX (R120): the line bits of a KEEPALIVE stitch arrive on a lane. -/
  | keepaliveRx (t : LineRx)
  /-- SIGNAL_LOSS (R113): the signal detector of a lane has reported no signal for 100 ns. -/
  | signalLoss (l : Fin 20)
  /-- ALIGN_TX (R104): an ALIGN row is due on a port unit. -/
  | alignTx (p : Fin 8)
  /-- KEEPALIVE_TX (R105): a KEEPALIVE is due on a lane position. -/
  | keepaliveTx (p : Fin 8) (pos : Fin 4)
  /-- IDLE_ROW_TX (R107): the scheduler offers no row. -/
  | idleRowTx (p : Fin 8)
  /-- ALIGN_INTERVAL_END (R111): an ALIGN interval sent by a port unit ends. -/
  | alignIntervalEnd (p : Fin 8)
  /-- SIGNAL_STABLE (R120): a signal has been detected on every lane for 1 ms. -/
  | signalStable (p : Fin 8)
  /-- CDR_LOCK (R120): clock recovery has locked on every lane. -/
  | cdrLock (p : Fin 8)
  /-- EQ_DONE (R117): equalisation is complete; `eyes` holds for each lane position the eye widths measured at CTLE codes 0 to 15. -/
  | eqDone (p : Fin 8) (eyes : List (List Nat))
  /-- BRING_TIMEOUT (R121): the time limit of the present bring-up state has passed. -/
  | bringTimeout (p : Fin 8)
  /-- FAULT_RETRY (R120): 1 ms in FAULT has passed. -/
  | faultRetry (p : Fin 8)
  /-- CLOSING_DONE (R120): the closing KEEPALIVE stitches have been sent. -/
  | closingDone (p : Fin 8)
  /-- PORT_DISABLE (R124): a write of LANE_PORTn_CTRL with ENABLE 0. -/
  | portDisable (who : Requester) (p : Fin 8) (value : Word)
  /-- DOCK_WINDOW_END (R123): the present bring-up window of a dock port ends. -/
  | dockWindowEnd (p : Fin 8)
  /-- DFE_TAP_STEP (R118): unit intervals of the adaptation of tap k + 1 pass; `signs`: in each, whether e and d[n − k] are positive. -/
  | dfeTapStep (l : Fin 20) (k : Fin 12) (signs : List (Bool × Bool))
  /-- LOAD (R119): a write of LANEn_DFE_CTRL with LOAD 1. -/
  | dfeLoad (who : Requester) (l : Fin 20) (value : Word)
  /-- PRBS_CTRL_WRITE (R125): a write of LANEn_PRBS_CTRL. -/
  | prbsCtrlWrite (who : Requester) (l : Fin 20) (value : Word)
  /-- INJECT (R126): a write of LANEn_PRBS_CTRL with INJECT 1. -/
  | prbsInject (who : Requester) (l : Fin 20) (value : Word)
  /-- CLEAR (R126): a write of LANEn_PRBS_CTRL with CLEAR 1. -/
  | prbsClear (who : Requester) (l : Fin 20) (value : Word)
  /-- PRBS_LOCK (R126): raw bits arrive at a lane's checker: those that seed it, then those up to lock. -/
  | prbsLock (l : Fin 20) (seed bits : List Bool)
  /-- PRBS_LOST (R126): raw bits arrive at a lane's checker, and the last of them, with which it loses lock. -/
  | prbsLost (l : Fin 20) (bits last : List Bool)
  /-- MOD_PRESENT (R128): MODPRS_N has been low for 10 ms. -/
  | modPresent (t : Fin 2)
  /-- MOD_READY_POLL (R128): the 10 ms read of data-not-ready. -/
  | modReadyPoll (t : Fin 2) (notReady : Bool)
  /-- MOD_REMOVED (R128): MODPRS_N has been high for 10 ms. -/
  | modRemoved (t : Fin 2)
  /-- MOD_POLL (R128): a poll reads the loss-of-signal flags and the temperature; `intN`: INT_N is low; `more`: another byte of the poll follows on the bus. -/
  | modPoll (t : Fin 2) (intN : Bool) (los : ModLos) (temp : BitVec 16) (more : Bool)
  /-- RESET (R128): a write of LANE_MODt_CTRL with RESET 1. -/
  | modReset (who : Requester) (t : Fin 2) (value : Word)
  /-- MOD_CMD_READ (R129): a write of LANE_MODt_CMD with GO 1 and WRITE 0. -/
  | modCmdRead (who : Requester) (t : Fin 2) (offset : BitVec 8)
  /-- MOD_CMD_WRITE (R129): a write of LANE_MODt_CMD with GO 1 and WRITE 1. -/
  | modCmdWrite (who : Requester) (t : Fin 2) (offset : BitVec 8)
  /-- MOD_CMD_DONE (R129): the module transaction ends; `data` is the byte read. -/
  | modCmdDone (t : Fin 2) (ack : Bool) (data : BitVec 8)
  /-- FRAME_RX (R140): the line bits of the first FRAME stitch of a frame arrive on a lane. -/
  | frameRx (t : LineRx)
  /-- RELIABLE_DATA_RX (R146): a RELIABLE_DATA frame reaches the ARQ of its tunnel. -/
  | reliableDataRx (f : Frame)
  /-- RELIABLE_ACK_RX (R148): a RELIABLE_ACK frame reaches the ARQ of its tunnel. -/
  | reliableAckRx (f : Frame)
  /-- RETRANSMIT_TIMEOUT (R149): the retransmit timer of an entry is looked at; `bits` bits of a row read are in error. -/
  | retransmitTimeout (entry : Fin 1024) (bits : Nat)
  /-- FRAY_RX (R152): the line bits of a FRAY stitch arrive on a lane. -/
  | frayRx (t : LineRx)
  /-- DATAGRAM_RX (R155): a DATAGRAM frame reaches its sink. -/
  | datagramRx (f : Frame)
  /-- KNOT_RX (R155): a KNOT reaches its sink. -/
  | knotRx (f : Frame)
  /-- KNOT_TIMEOUT (R155): the knot timer of a bucket is looked at. -/
  | knotTimeout (entry : Fin 1024) (bucket : Fin 64)
  /-- TUN_COMMIT (R157): a write of TUN_COMMIT. -/
  | tunCommit (who : Requester) (index : BitVec 10) (atCycle : Bool)
  /-- INVALIDATE (R157): a write of TUN_COMMIT with INVALIDATE. -/
  | invalidate (who : Requester) (index : BitVec 10) (atCycle : Bool)
  /-- COMMIT_EFFECT (R157): the 16 BUS_CLK cycles of a commit without AT_CYCLE end. -/
  | commitEffect (entry : Fin 1024)
  /-- PROGRESS_TIMER (R159): the progress timer is looked at, `ms` after the last record. -/
  | progressTimer (ms : Nat)
  /-- READY_LIST_ADMIT (R163): the ready list has refilled for `clocks` CORE_CLK cycles; the header waiting on a port is looked at. -/
  | readyListAdmit (port : Fin 12) (clocks : Nat)
  /-- SCRUB_READ (R167): the scrubber reads its row in a bank and finds `bits` bits in error. -/
  | scrubRead (bank : Fin 16) (bits : Nat)
  /-- CREDIT_RX (R176): a CREDIT message arrives on a port. -/
  | creditRx (port : Fin 8) (msg : BitVec 504)
  /-- CREDIT_STALL (R174): the head frame of a class has waited for credit. -/
  | creditStall (port : Fin 8) (cls : Fin 8)
  /-- PAUSE_REPEAT (R178): the repeat timer of PAUSE is looked at. -/
  | pauseRepeat
  /-- PAUSE_RX (R178): a PAUSE message arrives on a port. -/
  | pauseRx (port : Fin 8) (msg : BitVec 504)
  /-- COPY_DONE (R179): the copy on a port's wire is complete. -/
  | copyDone (c : CopyEnd)
  /-- RESIDUE_EXPIRY (R180): the residue timers are looked at. -/
  | residueExpiry
  /-- CUT_THROUGH_START (R182): a copy that waits for its threshold on a port is looked at. -/
  | cutThroughStart (port : Fin 12)
  /-- DRAIN_DONE (R185): the drain counter of an entry is looked at. -/
  | drainDone (entry : Fin 1024)
  /-- ARM (R165): a write of SWB_ECC_INJECT. -/
  | eccArm (who : Requester) (value : Word)
  /-- TOKEN_ADD (R197): 64 CORE_CLK cycles have passed. -/
  | tokenAdd
  /-- PLACEMENT_FIXED (R201): the first unfixed placement of a port comes within LEAD_NS; the error of a row of its frame, and `link` bits in error in the link-memory entry of that word's cell. -/
  | placementFixed (port : Fin 12) (row : RowError) (link : Nat)
  /-- PLACEMENT_START (R194): the start instant of a port's first placement comes. -/
  | placementStart (port : Fin 12)
  /-- SAMP_CLEAR (R208): a write of SCH_SAMP_CTRL. -/
  | sampClear (who : Requester) (value : Word)
  /-- PLAN_CHECK_DONE (R215): the check of the basted bank, or of the alarm bank, ends. -/
  | planCheckDone (alarm : Bool)
  /-- CMD_PLAN_WRITE (R220): a write of ALT_CMD_PLAN. -/
  | cmdPlanWrite (who : Requester) (value : Word)
  /-- SEW (R221): a write of ALT_CMD with OP SEW. -/
  | altSew (who : Requester)
  /-- UNPICK (R224): a write of ALT_CMD with OP UNPICK. -/
  | altUnpick (who : Requester)
  /-- ALARM (R226): a write of ALT_CMD with OP ALARM. -/
  | altAlarm (who : Requester)
  /-- POLL (R220): a write of ALT_CMD with OP POLL. -/
  | altPoll (who : Requester)
  /-- ALARM_CMD (R226): an alarm command that waits is looked at, `ms` after the commit of the wake. -/
  | alarmCmd (ms : Nat)
  /-- READY_RX (R220): a READY arrives. -/
  | readyRx (f : Frame)
  /-- SEW_RX (R222): a normal SEW arrives. -/
  | sewRx (f : Frame)
  /-- ALARM_SEW_RX (R227): an alarm SEW arrives. -/
  | alarmSewRx (f : Frame)
  /-- UNPICK_RX (R224): an UNPICK arrives. -/
  | unpickRx (f : Frame)
  /-- REPORT_RX (R222): a REPORT arrives. -/
  | reportRx (f : Frame)
  /-- POLL_RX (R220): a POLL arrives. -/
  | pollRx (f : Frame)
  /-- RING_CTRL_RX (R235): a RING_CTRL frame arrives on a trunk. -/
  | ringCtrlRx (port : Fin 2) (f : Frame)
  /-- BEACON_RX (R238): a BEACON arrives on a trunk. -/
  | beaconRx (port : Fin 2) (f : Frame)
  /-- ANNOUNCE_RX (R242): an ANNOUNCE arrives on a trunk. -/
  | announceRx (port : Fin 2) (f : Frame)
  /-- ANNOUNCE_TIMER (R242): the ANNOUNCE timer is looked at. -/
  | announceTimer
  /-- EDGE_RX (R248): an EDGE arrives on a trunk. -/
  | edgeRx (port : Fin 2) (f : Frame)
  /-- EDGE_EXPIRE (R248): the ages of the edge list are looked at. -/
  | edgeExpire
  /-- CLAIM_RX (R239): a CLAIM arrives on a trunk. -/
  | claimRx (port : Fin 2) (f : Frame)
  /-- BEACON_LOSS (R239): the wait for a BEACON is looked at. -/
  | beaconLoss
  /-- CLAIM_WAIT_EXPIRY (R239): the wait of a candidate is looked at. -/
  | claimWaitExpiry
  /-- ROLLCALL_RX (R243): a ROLLCALL arrives on a trunk. -/
  | rollcallRx (port : Fin 2) (f : Frame)
  /-- TAKEN_RX (R243): a TAKEN arrives. -/
  | takenRx (f : Frame)
  /-- ROLLCALL_END (R243): the quiet time of a roll call is looked at. -/
  | rollcallEnd
  /-- JOIN_REQ_RX (R244): a JOIN_REQ arrives. -/
  | joinReqRx (f : Frame)
  /-- JOIN_ACK_RX (R244): a JOIN_ACK arrives. -/
  | joinAckRx (f : Frame)
  /-- JOIN_RETRY (R253): the wait for a JOIN_ACK is looked at. -/
  | joinRetry
  /-- HEAL_RX (R252): a HEAL arrives. -/
  | healRx (f : Frame)
  /-- OPENING_RX (R251): an OPENING arrives. -/
  | openingRx (f : Frame)
  /-- OPEN_DRAIN_END (R251): At the end of cycle N + OPEN_DRAIN the departing node clears its trunk enables. -/
  | openDrainEnd
  /-- NAK_RX (R238): a NAK arrives. -/
  | nakRx (f : Frame)
  /-- MSG_RX (R235): a MSG arrives. -/
  | msgRx (f : Frame)
  /-- FORGET_RX (R242): a FORGET arrives. -/
  | forgetRx (f : Frame)
  /-- ROLLCALL (R243): a write of RNG_CMD with OP ROLLCALL. -/
  | ringRollcall (who : Requester)
  /-- RESIGN (R240): a write of RNG_CMD with OP RESIGN. -/
  | ringResign (who : Requester)
  /-- OPEN (R251): a write of RNG_CMD with OP OPEN. -/
  | openRing (who : Requester)
  /-- HEAL (R252): a write of RNG_CMD with OP HEAL. -/
  | ringHeal (who : Requester)
  /-- FORGET (R242): a write of RNG_CMD with OP FORGET. -/
  | ringForget (who : Requester)
  /-- MSG_SEND (R235): a write of RNG_TX_CTRL. -/
  | msgSend (who : Requester) (value : Word)
  /-- RX_POP (R235): a write of RNG_RX_POP with POP. -/
  | rxPop (who : Requester)
  /-- BUDDY_SINGLE (R250): the supervision of a BUDDY entry is looked at. -/
  | buddySingle (entry : Fin 1024)
  /-- TDM_MASTER_FRAME (R261): a master port begins frame `i` of the cycle; `data` holds the input slots. -/
  | tdmMasterFrame (t : Fin 16) (i : Fin 24) (data : List (BitVec 36))
  /-- TDM_FSYNC (R262): an FSYNC edge of a slave port at ring time `e` in 1/256 ns; `data` holds the input slots. -/
  | tdmFsync (t : Fin 16) (e : BitVec 72) (data : List (BitVec 36))
  /-- TDM_LOST (R263): no FSYNC edge has come for 4 frame periods. -/
  | tdmLost (t : Fin 16)
  /-- AUD_FRAME_RX (R268): an audio frame delivered at P8 under a sink entry. -/
  | audFrameRx (entry : Fin 1024) (f : Frame)
  /-- MIX_READ (R270): the read of a remote channel's sample that plays at position `i` of cycle `cyc`; `bad`: it finds an uncorrectable error. -/
  | mixRead (ch : Fin 1024) (cyc : BitVec 32) (i : Fin 24) (bad : Bool)
  /-- MIX_SAMPLE (R273): the engine computes sample `i` of the present cycle on the PLAY or the SEND timeline. -/
  | mixSample (i : Fin 24) (send : Bool)
  /-- DET_INTEGRATION_END (R279): a detector's integration ends. -/
  | detIntegrationEnd (d : Fin 64)
  /-- VALUE_HI_WRITE (R285): a write of STC_CHc_VALUE_HI. -/
  | valueHiWrite (who : Requester) (c : Fin 128) (value : Word)
  /-- STATE_RX (R286): a STATE frame delivered at P9 under a sink entry. -/
  | stateRx (entry : Fin 1024) (f : Frame)
  /-- STATE_STALE (R287): the supervision time of a consumer is looked at. -/
  | stateStale (c : Fin 128)
  /-- CVU_DATA (R291): a write of STC_CVUu_DATA. -/
  | cvuData (who : Requester) (u : Fin 144) (value : Word)
  /-- FEED_BYTE (R291): a write of STC_CVUu_CMD with FEED_BYTE 1. -/
  | cvuFeedByte (who : Requester) (u : Fin 144) (value : Word)
  /-- START (R291): a write of STC_CVUu_CMD with START 1. -/
  | cvuStart (who : Requester) (u : Fin 144) (value : Word)
  /-- COMPARE (R291): a write of STC_CVUu_CMD with COMPARE 1. -/
  | cvuCompare (who : Requester) (u : Fin 144) (value : Word)
  /-- CVU_ALIVE (R291): a write of STC_CVUu_ALIVE. -/
  | cvuAlive (who : Requester) (u : Fin 144) (value : Word)
  /-- TLP_RX (R302): a TLP arrives from the PCIe link of quad `q`, routed to bridge link `l`. -/
  | tlpRx (q : Fin 3) (l : Fin 32) (t : Tlp)
  /-- TLP_TO_TUNNEL (R300): the next TLP of a bridge link may enter the tunnel. -/
  | tlpToTunnel (l : Fin 32)
  /-- PCB_RECORDS_RX (R298): a bridge frame is delivered; `tlps` are its TLPs as decoded, in order. -/
  | pcbRecordsRx (entry : Fin 1024) (f : Frame) (tlps : List Tlp)
  /-- PACK_TIMEOUT (R298): PACK_NS has passed since the first record of the frame being packed. -/
  | packTimeout (l : Fin 32)
  /-- LINK_STATE_RX (R299): a LINK_STATE control record arrives. -/
  | linkStateRx (l : Fin 32) (flags : BitVec 8) (speed : BitVec 8) (width : BitVec 8)
  /-- PCB_CREDIT_RX (R300): a CREDIT control record arrives. -/
  | pcbCreditRx (l : Fin 32) (rec0 rec1 : BitVec 32)
  /-- APPLIED_RX (R305): an APPLIED control record arrives. -/
  | appliedRx (l : Fin 32) (disposed : BitVec 32)
  /-- FAULT_RX (R305): a FAULT control record arrives. -/
  | faultRx (l : Fin 32) (cause : BitVec 8) (first : BitVec 32) (count : BitVec 32) (addr : BitVec 64)
  /-- COMPLETION_TIMEOUT (R303): CTO has passed for an open request. -/
  | completionTimeout (l : Fin 32) (req : BitVec 16) (tag : BitVec 10)
  /-- PCIE_LINK_CHANGE (R308): the PCIe link of a quad changes state. -/
  | pcieLinkChange (q : Fin 3) (up : Bool) (speed : BitVec 3) (width : BitVec 3) (ltssm : BitVec 6)
  /-- DOWNSTREAM_RESET (R308): the host sets or ends a reset or Link Disable of a downstream port. -/
  | downstreamReset (l : Fin 32) (reset : Bool) (disable : Bool)
  /-- DP_VIDEO_FRAME (R315): the receiver of DP quad `q` begins a video frame; `sdps` are its secondary data packets, true for an InfoFrame. -/
  | dpVideoFrame (q : Fin 3) (t : DpTiming) (sdps : List (Bool × List Byte))
  /-- DP_LINE (R315): an active line has been received: its components in stream order. -/
  | dpLine (q : Fin 3) (line : BitVec 16) (comps : List Nat)
  /-- DP_FRAME_RX (R318): a display frame is delivered to the transmitter. -/
  | dpFrameRx (entry : Fin 1024) (f : Frame)
  /-- DP_TX_VSYNC (R317): the transmitter's own vertical sync: its ring time, its line and video frame time, and what its link has trained to. -/
  | dpTxVsync (q : Fin 3) (own : BitVec 64) (video : TxVideo) (link : DpTrained)
  /-- DP_NO_VIDEO (R318): 4 video frame periods have passed without a pixel frame. -/
  | dpNoVideo (q : Fin 3)
  /-- HPD_RISE (R319): the display's HPD, the IRQ_HPD pulses received, and the EDID read at the rise. -/
  | hpdRise (q : Fin 3) (high : Bool) (irqs : BitVec 8) (ok : Bool) (edid : List Byte)
  /-- AUX_REQUEST (R320): an AUX request of the video source; `offset` is the place an EDID read starts at. -/
  | auxRequest (q : Fin 3) (native : Bool) (write : Bool) (addr : BitVec 20) (offset : BitVec 9) (len : BitVec 5) (raw : List Byte)
  /-- AUX_REPLY_RX (R320): an AUX tunnel frame is delivered: a reply at the source's side; at the display's side a request, which the display answers with `reply`. -/
  | auxReplyRx (entry : Fin 1024) (f : Frame) (reply : List Byte)
  /-- AUX_TIMEOUT (R320): `ms` ms have passed since the request was forwarded. -/
  | auxTimeout (q : Fin 3) (ms : Nat)
  /-- ETH_RX (R322): an Ethernet frame arrives at a MAC: its bytes, and the FCS behind them. -/
  | ethRx (m : Fin 12) (bytes : List Byte) (fcs : BitVec 32)
  /-- ETH_AGE (R325): a second of the ageing clock. -/
  | ethAge
  /-- GO (R325): a write of DPE_LEARN_FLUSH. -/
  | learnGo (who : Requester) (value : Word)
  /-- DRP_TOGGLE (R330): the time has passed since an unattached DRP port last changed its termination. -/
  | drpToggle (x : PortMs)
  /-- ATTACH (R330): an attach is confirmed after the CC debounce: the port's power role, the CC in use, and what the moisture test measures at the pins. -/
  | attach (p : Fin 6) (asSink : Bool) (orient : Bool) (z : PinKohm) (t : CcTerms)
  /-- DETACH (R330): CC opens on an attached port. -/
  | detach (p : Fin 6)
  /-- DETACH_DECLARE (R348): CC has stayed open for `ms` ms. -/
  | detachDeclare (p : Fin 6) (ms : Nat)
  /-- MOISTURE_TEST (R332): a moisture test ends with what it measured at the pins. -/
  | moistureTest (p : Fin 6) (z : PinKohm) (t : CcTerms)
  /-- MOISTURE_TIMER (R332): a second passes on a wet port. -/
  | moistureTimer (p : Fin 6)
  /-- REQUEST_RX (R335): a Request arrives: object position, operating current in 10 mA, and whether it comes in EPR mode. -/
  | requestRx (p : Fin 6) (pos : Nat) (curr : Nat) (epr : Bool)
  /-- PS_RDY (R335): the power of a contract or of a role swap is ready: PS_RDY is sent or received. -/
  | psRdy (p : Fin 6)
  /-- SOURCE_CAPABILITIES_RX (R336): Source_Capabilities arrive. -/
  | sourceCapabilitiesRx (p : Fin 6) (pdos : List Word)
  /-- SWAP_RX (R337): a PR_Swap, or with `data` a DR_Swap, arrives. -/
  | swapRx (p : Fin 6) (data : Bool)
  /-- ASK_ANSWER (R337): a write of TCP_PORTn_ASK. -/
  | askAnswer (who : Requester) (p : Fin 6) (value : Word)
  /-- WAIT_RX (R338): Wait arrives. -/
  | waitRx (p : Fin 6)
  /-- WAIT_RETRY (R338): `ms` ms have passed since the Wait, or since the Reject of a USB upstream port's DR_Swap. -/
  | waitRetry (p : Fin 6) (ms : Nat)
  /-- VCONN_SWAP_RX (R342): a VCONN_Swap arrives. -/
  | vconnSwapRx (p : Fin 6)
  /-- FR_SWAP_SIGNAL (R343): the FR_Swap signal is seen. -/
  | frSwapSignal (p : Fin 6)
  /-- ENTER_MODE_RX (R340): Enter Mode for the Elrek mode arrives; `half` says that the entry is at half rate only. -/
  | enterModeRx (p : Fin 6) (half : Bool)
  /-- EXIT_MODE_RX (R341): Exit Mode arrives. -/
  | exitModeRx (p : Fin 6)
  /-- DISCOVER_RX (R339): Discover Identity (0), SVIDs (1) or Modes (2) arrives. -/
  | discoverRx (p : Fin 6) (what : Fin 3)
  /-- HARD_RESET_RX (R350): a Hard Reset arrives. -/
  | hardResetRx (p : Fin 6)
  /-- SENDER_RESPONSE_TIMEOUT (R346): tSenderResponse passes after Source_Capabilities without a fitting Request. -/
  | senderResponseTimeout (p : Fin 6)
  /-- BUDGET_COMMIT (R345): a write of TCP_BUDGET_CMD. -/
  | budgetCommit (who : Requester) (value : Word)
  /-- TCP_PORT_HOLD (R349): a write of TCP_PORTn_CTRL that clears ENABLE. -/
  | tcpPortHold (who : Requester) (p : Fin 6) (value : Word)
  /-- CMD_DETACH (R349): a write of TCP_PORTn_CMD with OP 1. -/
  | cmdDetach (who : Requester) (p : Fin 6)
  /-- PR_SWAP (R337): a write of TCP_PORTn_CMD with OP 2. -/
  | prSwap (who : Requester) (p : Fin 6)
  /-- DR_SWAP (R331): a write of TCP_PORTn_CMD with OP 3. -/
  | drSwap (who : Requester) (p : Fin 6)
  /-- VCONN_SWAP (R342): a write of TCP_PORTn_CMD with OP 4. -/
  | vconnSwap (who : Requester) (p : Fin 6)
  /-- HARD_RESET (R346): a write of TCP_PORTn_CMD with OP 5. -/
  | hardReset (who : Requester) (p : Fin 6)
  /-- SEND_CAPS (R334): a write of TCP_PORTn_CMD with OP 6. -/
  | sendCaps (who : Requester) (p : Fin 6)
  /-- ENTER (R340): a write of TCP_PORTn_CMD with OP 7. -/
  | enterMode (who : Requester) (p : Fin 6)
  /-- EXIT (R341): a write of TCP_PORTn_CMD with OP 8. -/
  | exitMode (who : Requester) (p : Fin 6)
  /-- USB_BUS_RESET (R368): the upstream host resets the bus. -/
  | usbBusReset
  /-- USB_UPSTREAM_CONNECT (R354): the conditions of the upstream connection are looked at again. -/
  | usbUpstreamConnect
  /-- RUN (R354): a write of USB_HC_CTRL. -/
  | hostRun (who : Requester) (value : Word)
  /-- PIPE_GO (R357): a write of USB_PIPEp_CMD with GO, and with SETUP where `setup` holds. -/
  | pipeGo (who : Requester) (p : Fin 16) (setup : Bool)
  /-- ABORT (R357): a write of USB_PIPEp_CMD with ABORT. -/
  | pipeAbort (who : Requester) (p : Fin 16)
  /-- PIPE_DONE (R357): a transfer ends: RESULT, bytes moved, data read, and the endpoints (direction × 16 + number) of the interface that a SetInterface named. -/
  | pipeDone (p : Fin 16) (result : Fin 4) (bytes : Nat) (data : List Byte) (eps : List (Fin 32))
  /-- DEV_SETUP (R361): a SETUP stage reaches the device function, or the status stage of its request completes. -/
  | devSetup (setup : List Byte) (status : Bool)
  /-- MBX_RX (R360): a bulk OUT transfer to EP1 is complete. -/
  | mbxRx (bytes : List Byte)
  /-- POP (R360): a write of USB_MBX_RX_POP. -/
  | mbxPop (who : Requester) (value : Word)
  /-- TX_GO (R360): a write of USB_MBX_TX_CTRL. -/
  | txGo (who : Requester) (value : Word)
  /-- MBX_TX_DONE (R360): the host has read the reply and its notice. -/
  | mbxTxDone
  /-- ISO_OUT_PACKET (R359): an isochronous OUT packet: for each sample the channels' W-bit values. -/
  | isoOutPacket (samples : List (List Nat))
  /-- ISO_IN_PACKET (R359): the host asks for an isochronous IN packet. -/
  | isoInPacket
  /-- AUD_FEEDBACK (R359): 8 micro-frames have passed; the frame number of the upstream host's last SOF. -/
  | audFeedback (frame : Fin 2048)
  /-- START_SPLIT (R364): a start-split for a device behind hub port k + 1: type 0 control, 1 isochronous, 2 bulk, 3 interrupt; PID 0 SETUP, 1 OUT, 2 IN; the IN endpoints of an interface that a SetInterface names. -/
  | startSplit (k : Fin 6) (addr : Fin 128) (ep : Fin 16) (typ : Fin 4) (pid : Fin 3) (low : Bool) (toggle : Bool) (data : List Byte) (eps : List (Fin 16))
  /-- COMPLETE_SPLIT (R364): a complete-split. -/
  | completeSplit (k : Fin 6) (addr : Fin 128) (ep : Fin 16) (typ : Fin 4) (pid : Fin 3)
  /-- TRANSACTION_RX (R364): a TRANSACTION record arrives at the far end for Dock port j; the IN endpoints of an interface that a SetInterface names; the device's handshake (0 ACK or data, 1 NAK, 2 STALL, 3 ERROR), toggle and data on its bus. -/
  | transactionRx (j : Fin 6) (tag : BitVec 16) (at' : UsbEndpoint) (typ : Fin 4) (pid : Fin 3) (toggle : Bool) (data : List Byte) (eps : List (Fin 16)) (hs : Fin 4) (rtoggle : Bool) (rdata : List Byte)
  /-- RESULT_RX (R364): a RESULT record arrives at the near end for hub port k + 1. -/
  | resultRx (k : Fin 6) (tag : BitVec 16) (ep : Fin 16) (hs : Fin 4) (toggle : Bool) (prefetch : Bool) (gen : Byte) (data : List Byte)
  /-- REMOTE_RESULT_TIMEOUT (R364): `ms` ms have passed since a TRANSACTION was sent. -/
  | remoteResultTimeout (k : Fin 6) (tag : BitVec 16) (ms : Nat)
  /-- PREFETCH_POLL (R365): the proxy's poll of an interrupt IN endpoint brings a packet. -/
  | prefetchPoll (j : Fin 6) (ep : Fin 16) (toggle : Bool) (data : List Byte)
  /-- EVENT_RX (R367): an EVENT record arrives at the far end of Dock port n, or at the near end of hub port n + 1. -/
  | eventRx (far : Bool) (n : Fin 6) (ev : Fin 9)
  /-- INPUT_WINDOW (R372): a gate's input voltage is measured, in mV. -/
  | inputWindow (n : Fin 7) (vin : Nat)
  /-- UV_RIDE_END (R373): the time has passed in RIDE. -/
  | uvRideEnd (x : GateMs)
  /-- INSERT_DONE (R374): the time has passed in INSERT with the input inside its windows without a break. -/
  | insertDone (x : GateMs)
  /-- PRECHARGE_DONE (R374): the output reaches `vout` mV during PRECHARGE. -/
  | prechargeDone (n : Fin 7) (vout : Nat)
  /-- PRE_SHORT_CHECK (R374): the output of a gate in PRECHARGE is looked at: its voltage in mV, the time since PRECHARGE began in µs. -/
  | preShortCheck (n : Fin 7) (vout : Nat) (aUs : Nat)
  /-- PRE_TIMEOUT (R374): the output of a gate in PRECHARGE in mV, and the time since PRECHARGE began in µs. -/
  | preTimeout (n : Fin 7) (vout : Nat) (aUs : Nat)
  /-- RAMP_DONE (R374): the output in mV and the gate–source voltage in 0.1 V are measured at the end of a rise. -/
  | rampDone (n : Fin 7) (vout : Nat) (vgs : Nat)
  /-- RAMP_TIMEOUT (R374): the time has passed in RAMP; the attempt time in µs. -/
  | rampTimeout (x : GateMs) (aUs : Nat)
  /-- PGOOD_FALL (R374): the output or the gate–source voltage of a gate with power-good has fallen. -/
  | pgoodFall (n : Fin 7) (vout : Nat) (vgs : Nat) (aUs : Nat)
  /-- FRS_TIMEOUT (R375): 100 µs have passed in FAST_START. -/
  | frsTimeout (n : Fin 7)
  /-- FAST_TRIP (R376): the comparator sees a shunt voltage; the attempt time in µs. -/
  | fastTrip (x : GateShunt) (aUs : Nat)
  /-- I2T_UPDATE (R376): a 10 µs interval ends: the mean current in 10 mA and the attempt time in µs. -/
  | i2tUpdate (n : Fin 7) (i : Nat) (aUs : Nat)
  /-- RETRY_WAIT_END (R377): the retry wait has run out. -/
  | retryWaitEnd (n : Fin 7)
  /-- PGOOD_HELD (R377): power-good has been held for 1 s without a break. -/
  | pgoodHeld (n : Fin 7)
  /-- REMOVAL (R378): the input has been absent, or the port detached, for that time without a break. -/
  | gateRemoval (x : GateMs)
  /-- GATE_CMD_CLEAR (R377): a write of PGT_GATEn_CMD with CLEAR. -/
  | gateCmdClear (who : Requester) (n : Fin 7)
  /-- DISCHARGE (R377): a write of PGT_GATEn_CMD with DISCHARGE. -/
  | gateDischarge (who : Requester) (n : Fin 7)
  /-- GATE_ON_WRITE (R374): a write of PGT_GATEn_CTRL.ON. -/
  | gateOnWrite (who : Requester) (n : Fin 7) (turnOn : Bool)
  /-- POWER_ON (R386): VDD_AON powers on; `straps` are BOOT_SRC, MASTER_OK, TEST_N as the board ties them. -/
  | powerOn (straps : BitVec 4)
  /-- BROWN_OUT (R478): VDD_AON or VDD_SPOOL falls below its threshold with `words` words of the NVS write in progress written. -/
  | brownOut (words : Nat)
  /-- PWR_CMD_RUN (R388): a write of PWR_CMD with TARGET 1. -/
  | pwrCmdRun (who : Requester) (cores : Bool)
  /-- PWR_CMD_QUIET (R388): a write of PWR_CMD with TARGET 2. -/
  | pwrCmdQuiet (who : Requester) (cores : Bool)
  /-- PWR_CMD_STANDBY (R389): a write of PWR_CMD with TARGET 3. -/
  | pwrCmdStandby (who : Requester) (cores : Bool)
  /-- PWR_CMD_OFF (R388): a write of PWR_CMD with TARGET 4. -/
  | pwrCmdOff (who : Requester) (cores : Bool)
  /-- STANDBY_BOLT_OFF (R389): the bolt die is quiesced and NVS has written what waited. -/
  | standbyBoltOff
  /-- BOLT_OFF_HOLD_END (R390): 5 ms have passed since PG0_GOOD fell. -/
  | boltOffHoldEnd
  /-- GO_READY (R391): a write of PWR_READY with GO, `us` after the decision to wake. -/
  | goReady (who : Requester) (us : Nat)
  /-- WAKE_LATE_READY (R391): a wake is looked at, `us` after its start. -/
  | wakeLateReady (us : Nat)
  /-- LANTERN_CYCLE (R395): a 1 ms cycle of the lantern samples the 16 ADC channels and the loop resistances of the 8 contacts. -/
  | lanternCycle (adc : List (BitVec 12)) (ohms : List Nat)
  /-- WAKE_N_RELEASE (R400): the time of WAKE_N is looked at. -/
  | wakeNRelease
  /-- WAKE_CLEAR (R400): a write of LAN_WAKE with CLEAR. -/
  | wakeClear (who : Requester)
  /-- DERIVE (R411): a write of KEY_OP_GO with op DERIVE. -/
  | keyDerive (who : Requester)
  /-- GENERATE (R411): a write of KEY_OP_GO with op GENERATE. -/
  | keyGenerate (who : Requester)
  /-- AGREE (R411): a write of KEY_OP_GO with op AGREE. -/
  | keyAgree (who : Requester)
  /-- SIGN (R411): a write of KEY_OP_GO with op SIGN. -/
  | keySign (who : Requester)
  /-- SEAL (R411): a write of KEY_OP_GO with op SEAL. -/
  | keySeal (who : Requester)
  /-- UNSEAL (R411): a write of KEY_OP_GO with op UNSEAL. -/
  | keyUnseal (who : Requester)
  /-- PUBLIC (R411): a write of KEY_OP_GO with op PUBLIC. -/
  | keyPublic (who : Requester)
  /-- ATTEST (R414): a write of KEY_OP_GO with op ATTEST. -/
  | keyAttest (who : Requester)
  /-- ERASE (R413): a write of KEY_OP_GO with op ERASE. -/
  | keyErase (who : Requester)
  /-- OP_DONE (R412): the running key operation ends. -/
  | opDone
  /-- BLOW_OWNER (R404): a write of KEY_LC_CMD with BLOW_OWNER. -/
  | lcBlowOwner (who : Requester)
  /-- DEPLOY (R404): a write of KEY_LC_CMD with DEPLOY. -/
  | lcDeploy (who : Requester)
  /-- RETIRE (R404): a write of KEY_LC_CMD with RETIRE. -/
  | lcRetire (who : Requester)
  /-- MR_EXTEND (R406): a write of KEY_MR_EXT. -/
  | mrExtend (who : Requester) (value : Word)
  /-- MR1 (R406): a write of KEY_MR_LOCK with MR1. -/
  | mrLock1 (who : Requester)
  /-- KEY_AGREE_RX (R417): a KEY_AGREE fragment arrives on a trunk. -/
  | keyAgreeRx (port : Fin 2) (msg : BitVec 504)
  /-- KEY_AGREE_TIMEOUT (R418): the time in KEY is looked at after `ms` ms. -/
  | keyAgreeTimeout (port : Fin 2) (ms : Nat)
  /-- TAMPER_EVENT (R423): a tamper sensor reads a value. -/
  | tamperEvent (sensor : Fin 6) (r : TamperReading)
  /-- TMP_CLEAR (R424): a write of TMP_CLEAR; its GO, bit 0, is 1. -/
  | tmpClear (who : Requester) (value : Word)
  /-- COUNTER_CLEAR (R432): a write of CNT_CMD with CLEAR set. -/
  | counterClear (who : Requester)
  /-- COUNTER_LOAD (R432): a write of CNT_CMD with LOAD set. -/
  | counterLoad (who : Requester)
  /-- CLEAR_GROUP (R432): a write of CNT_CMD with CLEAR_GROUP set. -/
  | clearGroup (who : Requester) (group : Fin 8)
  /-- COUNTER_WRAP (R431): the event that makes a counter at its greatest value wrap. -/
  | counterWrap (id : Fin 3800)
  /-- SAMPLE_PERIOD (R434): the watched hart counter reaches a multiple of PERIOD at an instruction address. -/
  | samplePeriod (h : Fin 4) (pc : BitVec 64)
  /-- DUMP_NOW (R435): a write of CNT_DUMP_NOW with GO set. -/
  | dumpNow (who : Requester)
  /-- DUMP_DONE (R437): the dump in progress has been written. -/
  | dumpDone
  /-- NVS_SNAPSHOT (R438): a write of CNT_NVS_CTRL with GO set and COUNT `count`. -/
  | nvsSnapshot (who : Requester) (count : BitVec 8)
  /-- FLT_SW_RECORD (R445): a write of FLT_SW_CMD with GO set. -/
  | fltSwRecord (who : Requester) (code : BitVec 16)
  /-- NVS_WRITE_DONE (R440): the NVS controller ends one write. -/
  | nvsWriteDone
  /-- WIPE_LOG (R453): a write of NVS_CMD with WIPE_LOG set. -/
  | wipeLog (who : Requester)
  /-- WIPE_PROG (R453): a write of NVS_CMD with WIPE_PROG set. -/
  | wipeProg (who : Requester)
  /-- NTS_GO (R457): a write of NTS_CMD with GO. -/
  | ntsGo (who : Requester)
  /-- TEST_FRAME_RX (R459): a TEST frame is delivered at P11. -/
  | testFrameRx (f : Frame)
  /-- NTS_ABORT (R461): a write of NTS_CMD with ABORT. -/
  | ntsAbort (who : Requester)
  /-- BOOT_ROM (R466): hart 0 runs the boot ROM; `timeoutA` and `timeoutB` say that the QSPI read of a copy times out. -/
  | bootRom (timeoutA timeoutB : Bool)
  /-- BOOT_IMAGE_VALIDATE (R467): the boot ROM finds the token back with firmware and validates the delivered image, or offers the token again. -/
  | bootImageValidate
  /-- PAT_STEP_COMPLETE (R63): the loader ends the work of its next step, or as much of step 5 as went before the seam failed; `us` is the time since the wake began; `readFails` says that the source timed out or gave an uncorrectable error. -/
  | patStepComplete (us : Nat) (report : StepReport)
  /-- ETH_LINK_CHANGE (R322): the link of a MAC changes. -/
  | ethLinkChange (m : Fin 12) (up : Bool)
  /-- SWAP_ANSWER_RX (R331): the port's own swap request or Request receives Accept or Reject. -/
  | swapAnswerRx (p : Fin 6) (accept : Bool)
  /-- VDM_ACK_RX (R340): the answer to a discovery of the partner (0: its Elrek mode VDO) or of the cable (1: its e-marker), or to Enter Mode (2); `ok` says ACK. -/
  | vdmAckRx (p : Fin 6) (what : Fin 3) (ok : Bool) (vdo : Word) (speed : Fin 8) (fiveA : Bool) (eprOk : Bool)
  /-- DOWNSTREAM_PORT_CHANGE (R368): at Dock port n a device disconnects (0), connects at low (1), full (2) or high speed (3), or signals remote wake (4). -/
  | downstreamPortChange (far : Bool) (n : Fin 6) (what : Fin 5)
  /-- USB_SUSPEND_RESUME (R368): the upstream host suspends or resumes the bus. -/
  | usbSuspendResume (suspend : Bool)
  /-- HUB_CLASS_REQUEST (R353): the host sets or clears a feature of hub port k (0: of the hub), numbered as USB 2.0 numbers it. -/
  | hubClassRequest (k : Fin 8) (set : Bool) (feature : Nat)
  /-- REMOTE_RESET_DONE (R367): the proxy's 10 ms bus reset of Dock port j ends. -/
  | remoteResetDone (j : Fin 6)
  /-- REMOTE_DISCONNECT_TIMER (R367): the seam has been down for 10 ms. -/
  | remoteDisconnectTimer
  /-- DISCHARGE_DONE (R377): the output of a discharging gate in mV. -/
  | dischargeDone (n : Fin 7) (vout : Nat)
  deriving DecidableEq, Repr

end Sys2Proof
end

