-- ==== Sys2Proof/WellFormed.lean ====
section
/-! DEFINITION. Which terms are commands that the world outside can send: the hub itself is no sender, an access has a width that
a bus has, a frame's LENGTH is that of its payload, the lantern's lists have one item for each channel and contact, a USB setup
packet has 8 bytes, a mailbox message at most 512. -/

namespace Sys2Proof

/-- A requester outside the hub's own logic (spec/02 R27). -/
def Requester.external : Requester → Bool
  | .hub => false
  | _ => true

/-- The access widths of a bus, in bytes (spec/02 R31 takes 4 and refuses the others). -/
def okWidth (n : Nat) : Bool := n = 1 || n = 2 || n = 4 || n = 8

/-- LENGTH counts the payload bytes (spec/06 R131). -/
def Frame.ok (f : Frame) : Bool := decide (f.hdr.length.toNat = f.payload.length)

/-- A command that can arrive. -/
def Instr.wf : Instr → Bool
  | .regWrite who _ _ width _ => who.external && okWidth width
  | .loRead who _ => who.external
  | .loWrite who _ _ => who.external
  | .hiWrite who _ _ => who.external
  | .hartRelease who _ => who.external
  | .tokenRelease who _ => who.external
  | .tokenRequest who _ _ => who.external
  | .tokenDeny who => who.external
  | .hostHbBeat who _ => who.external
  | .hostHbLapse _ => true
  | .spiWrite _ _ _ => true
  | .spiRead _ => true
  | .pcieBarAccess _ _ _ width _ => okWidth width
  | .unitEnable who _ _ => who.external
  | .checkDone _ => true
  | .unitDisable who _ _ => who.external
  | .unitStopped _ => true
  | .idleFlit _ _ => true
  | .regWrFlit _ => true
  | .regRdFlit _ => true
  | .regRespFlit _ => true
  | .pdMsgFlit _ _ => true
  | .usbFlit _ _ => true
  | .eventFlit _ => true
  | .nvsReqFlit _ => true
  | .nvsDataFlit _ _ => true
  | .switchFlit _ _ => true
  | .ackFlit _ _ => true
  | .nakFlit _ _ => true
  | .flitAckTimeout _ => true
  | .seamRxTimeout _ => true
  | .seamRetrainTimer => true
  | .retrain who => who.external
  | .seamRetrainDone _ _ => true
  | .patLoadStart who _ => who.external
  | .patAbandon who _ => who.external
  | .patResume => true
  | .rootPllLock => true
  | .pcieRefCheck _ _ => true
  | .cycleBoundary => true
  | .timeRx _ _ _ => true
  | .timeSourceLost _ => true
  | .timeFault => true
  | .holdoverLong => true
  | .ppsEdge _ _ => true
  | .ppsLost _ => true
  | .refclkLost => true
  | .pllUnlock => true
  | .refclkReturn => true
  | .frameStitchRx _ _ => true
  | .idleStitchRx _ _ => true
  | .ctrlStitchRx _ => true
  | .alignRx _ _ _ _ _ => true
  | .keepaliveRx _ => true
  | .signalLoss _ => true
  | .alignTx _ => true
  | .keepaliveTx _ _ => true
  | .idleRowTx _ => true
  | .alignIntervalEnd _ => true
  | .signalStable _ => true
  | .cdrLock _ => true
  | .eqDone _ _ => true
  | .bringTimeout _ => true
  | .faultRetry _ => true
  | .closingDone _ => true
  | .portDisable who _ _ => who.external
  | .dockWindowEnd _ => true
  | .dfeTapStep _ _ _ => true
  | .dfeLoad who _ _ => who.external
  | .prbsCtrlWrite who _ _ => who.external
  | .prbsInject who _ _ => who.external
  | .prbsClear who _ _ => who.external
  | .prbsLock _ _ _ => true
  | .prbsLost _ _ _ => true
  | .modPresent _ => true
  | .modReadyPoll _ _ => true
  | .modRemoved _ => true
  | .modPoll _ _ _ _ _ => true
  | .modReset who _ _ => who.external
  | .modCmdRead who _ _ => who.external
  | .modCmdWrite who _ _ => who.external
  | .modCmdDone _ _ _ => true
  | .frameRx _ => true
  | .reliableDataRx f => f.ok
  | .reliableAckRx f => f.ok
  | .retransmitTimeout _ _ => true
  | .frayRx _ => true
  | .datagramRx f => f.ok
  | .knotRx f => f.ok
  | .knotTimeout _ _ => true
  | .tunCommit who _ _ => who.external
  | .invalidate who _ _ => who.external
  | .commitEffect _ => true
  | .progressTimer _ => true
  | .readyListAdmit _ _ => true
  | .scrubRead _ _ => true
  | .creditRx _ _ => true
  | .creditStall _ _ => true
  | .pauseRepeat => true
  | .pauseRx _ _ => true
  | .copyDone _ => true
  | .residueExpiry => true
  | .cutThroughStart _ => true
  | .drainDone _ => true
  | .eccArm who _ => who.external
  | .tokenAdd => true
  | .placementFixed _ _ _ => true
  | .placementStart _ => true
  | .sampClear who _ => who.external
  | .planCheckDone _ => true
  | .cmdPlanWrite who _ => who.external
  | .altSew who => who.external
  | .altUnpick who => who.external
  | .altAlarm who => who.external
  | .altPoll who => who.external
  | .alarmCmd _ => true
  | .readyRx f => f.ok
  | .sewRx f => f.ok
  | .alarmSewRx f => f.ok
  | .unpickRx f => f.ok
  | .reportRx f => f.ok
  | .pollRx f => f.ok
  | .ringCtrlRx _ f => f.ok
  | .beaconRx _ f => f.ok
  | .announceRx _ f => f.ok
  | .announceTimer => true
  | .edgeRx _ f => f.ok
  | .edgeExpire => true
  | .claimRx _ f => f.ok
  | .beaconLoss => true
  | .claimWaitExpiry => true
  | .rollcallRx _ f => f.ok
  | .takenRx f => f.ok
  | .rollcallEnd => true
  | .joinReqRx f => f.ok
  | .joinAckRx f => f.ok
  | .joinRetry => true
  | .healRx f => f.ok
  | .openingRx f => f.ok
  | .openDrainEnd => true
  | .nakRx f => f.ok
  | .msgRx f => f.ok
  | .forgetRx f => f.ok
  | .ringRollcall who => who.external
  | .ringResign who => who.external
  | .openRing who => who.external
  | .ringHeal who => who.external
  | .ringForget who => who.external
  | .msgSend who _ => who.external
  | .rxPop who => who.external
  | .buddySingle _ => true
  | .tdmMasterFrame _ _ _ => true
  | .tdmFsync _ _ _ => true
  | .tdmLost _ => true
  | .audFrameRx _ f => f.ok
  | .mixRead _ _ _ _ => true
  | .mixSample _ _ => true
  | .detIntegrationEnd _ => true
  | .valueHiWrite who _ _ => who.external
  | .stateRx _ f => f.ok
  | .stateStale _ => true
  | .cvuData who _ _ => who.external
  | .cvuFeedByte who _ _ => who.external
  | .cvuStart who _ _ => who.external
  | .cvuCompare who _ _ => who.external
  | .cvuAlive who _ _ => who.external
  | .tlpRx _ _ _ => true
  | .tlpToTunnel _ => true
  | .pcbRecordsRx _ f _ => f.ok
  | .packTimeout _ => true
  | .linkStateRx _ _ _ _ => true
  | .pcbCreditRx _ _ _ => true
  | .appliedRx _ _ => true
  | .faultRx _ _ _ _ _ => true
  | .completionTimeout _ _ _ => true
  | .pcieLinkChange _ _ _ _ _ => true
  | .downstreamReset _ _ _ => true
  | .dpVideoFrame _ _ _ => true
  | .dpLine _ _ _ => true
  | .dpFrameRx _ f => f.ok
  | .dpTxVsync _ _ _ _ => true
  | .dpNoVideo _ => true
  | .hpdRise _ _ _ _ _ => true
  | .auxRequest _ _ _ _ _ _ _ => true
  | .auxReplyRx _ f _ => f.ok
  | .auxTimeout _ _ => true
  | .ethRx _ _ _ => true
  | .ethAge => true
  | .learnGo who _ => who.external
  | .drpToggle _ => true
  | .attach _ _ _ _ _ => true
  | .detach _ => true
  | .detachDeclare _ _ => true
  | .moistureTest _ _ _ => true
  | .moistureTimer _ => true
  | .requestRx _ _ _ _ => true
  | .psRdy _ => true
  | .sourceCapabilitiesRx _ _ => true
  | .swapRx _ _ => true
  | .askAnswer who _ _ => who.external
  | .waitRx _ => true
  | .waitRetry _ _ => true
  | .vconnSwapRx _ => true
  | .frSwapSignal _ => true
  | .enterModeRx _ _ => true
  | .exitModeRx _ => true
  | .discoverRx _ _ => true
  | .hardResetRx _ => true
  | .senderResponseTimeout _ => true
  | .budgetCommit who _ => who.external
  | .tcpPortHold who _ _ => who.external
  | .cmdDetach who _ => who.external
  | .prSwap who _ => who.external
  | .drSwap who _ => who.external
  | .vconnSwap who _ => who.external
  | .hardReset who _ => who.external
  | .sendCaps who _ => who.external
  | .enterMode who _ => who.external
  | .exitMode who _ => who.external
  | .usbBusReset => true
  | .usbUpstreamConnect => true
  | .hostRun who _ => who.external
  | .pipeGo who _ _ => who.external
  | .pipeAbort who _ => who.external
  | .pipeDone _ _ _ _ _ => true
  | .devSetup setup _ => decide (setup.length = 8)
  | .mbxRx bytes => decide (bytes.length ≤ 512)
  | .mbxPop who _ => who.external
  | .txGo who _ => who.external
  | .mbxTxDone => true
  | .isoOutPacket _ => true
  | .isoInPacket => true
  | .audFeedback _ => true
  | .startSplit _ _ _ _ _ _ _ _ _ => true
  | .completeSplit _ _ _ _ _ => true
  | .transactionRx _ _ _ _ _ _ _ _ _ _ _ => true
  | .resultRx _ _ _ _ _ _ _ _ => true
  | .remoteResultTimeout _ _ _ => true
  | .prefetchPoll _ _ _ _ => true
  | .eventRx _ _ _ => true
  | .inputWindow _ _ => true
  | .uvRideEnd _ => true
  | .insertDone _ => true
  | .prechargeDone _ _ => true
  | .preShortCheck _ _ _ => true
  | .preTimeout _ _ _ => true
  | .rampDone _ _ _ => true
  | .rampTimeout _ _ => true
  | .pgoodFall _ _ _ _ => true
  | .frsTimeout _ => true
  | .fastTrip _ _ => true
  | .i2tUpdate _ _ _ => true
  | .retryWaitEnd _ => true
  | .pgoodHeld _ => true
  | .gateRemoval _ => true
  | .gateCmdClear who _ => who.external
  | .gateDischarge who _ => who.external
  | .gateOnWrite who _ _ => who.external
  | .powerOn _ => true
  | .brownOut _ => true
  | .pwrCmdRun who _ => who.external
  | .pwrCmdQuiet who _ => who.external
  | .pwrCmdStandby who _ => who.external
  | .pwrCmdOff who _ => who.external
  | .standbyBoltOff => true
  | .boltOffHoldEnd => true
  | .goReady who _ => who.external
  | .wakeLateReady _ => true
  | .lanternCycle adc ohms => decide (adc.length = 16) && decide (ohms.length = 8)
  | .wakeNRelease => true
  | .wakeClear who => who.external
  | .keyDerive who => who.external
  | .keyGenerate who => who.external
  | .keyAgree who => who.external
  | .keySign who => who.external
  | .keySeal who => who.external
  | .keyUnseal who => who.external
  | .keyPublic who => who.external
  | .keyAttest who => who.external
  | .keyErase who => who.external
  | .opDone => true
  | .lcBlowOwner who => who.external
  | .lcDeploy who => who.external
  | .lcRetire who => who.external
  | .mrExtend who _ => who.external
  | .mrLock1 who => who.external
  | .keyAgreeRx _ _ => true
  | .keyAgreeTimeout _ _ => true
  | .tamperEvent _ _ => true
  | .tmpClear who _ => who.external
  | .counterClear who => who.external
  | .counterLoad who => who.external
  | .clearGroup who _ => who.external
  | .counterWrap _ => true
  | .samplePeriod _ _ => true
  | .dumpNow who => who.external
  | .dumpDone => true
  | .nvsSnapshot who _ => who.external
  | .fltSwRecord who _ => who.external
  | .nvsWriteDone => true
  | .wipeLog who => who.external
  | .wipeProg who => who.external
  | .ntsGo who => who.external
  | .testFrameRx f => f.ok
  | .ntsAbort who => who.external
  | .bootRom _ _ => true
  | .bootImageValidate => true
  | .patStepComplete _ _ => true
  | .ethLinkChange _ _ => true
  | .swapAnswerRx _ _ => true
  | .vdmAckRx _ _ _ _ _ _ _ => true
  | .downstreamPortChange _ _ _ => true
  | .usbSuspendResume _ => true
  | .hubClassRequest _ _ _ => true
  | .remoteResetDone _ => true
  | .remoteDisconnectTimer => true
  | .dischargeDone _ _ => true

end Sys2Proof
end

