-- ==== Sys2Proof/Decode.lean ====
section
/-! DEFINITION. Table words: spec/opcode_table.json gives no row any bits, so no word spells a command. -/

namespace Sys2Proof

/-- The command that a word of the table's bits spells: none, the table gives none (it is total and refuses every word). -/
def decodeTableWord (_nbits _w : Nat) : Option Instr := none

end Sys2Proof
end

