-- ==== Sys2Proof/Machine/Bits.lean ====
section
/-! DEFINITION. Bit fields of a register word, saturation, signed values, byte order, check codes and sparse stores:
the plain helpers every chapter uses. -/

namespace Sys2Proof.Machine

/-- The place of a field: the address of its register, its lowest bit and its width. -/
structure Fld where
  reg : Nat
  lsb : Nat
  width : Nat
  deriving DecidableEq, Repr

/-- Access types of spec/00 R6. -/
inductive Acc where
  | rw | ro | w1c | w1s | wo | sc | rwe
  deriving DecidableEq, Repr

/-- Whether a register is a half of a _LO/_HI pair (spec/02 R32, R33). -/
inductive Half where
  | none | lo | hi
  deriving DecidableEq, Repr

/-- A field of a register table: lowest bit, width, access type, and the limits a written value is stored within. -/
structure FieldDef where
  lsb : Nat
  width : Nat
  acc : Acc
  lo : Nat
  hi : Nat
  deriving DecidableEq, Repr

/-- A field stored as written. -/
def FieldDef.f (lsb width : Nat) (acc : Acc) : FieldDef := ⟨lsb, width, acc, 0, 2 ^ width - 1⟩

/-- A field whose written value is stored within limits. -/
def FieldDef.fc (lsb width : Nat) (acc : Acc) (lo hi : Nat) : FieldDef := ⟨lsb, width, acc, lo, hi⟩

/-- A register (or an array of them): address of the first, (stride, count) of each dimension, the CTRL register whose
ENABLE judges its RWE fields (address, stride per dimension; address 0: none), its half, reset word and fields. -/
structure RegDef where
  base : Nat
  dims : List (Nat × Nat)
  own : Nat × List Nat
  half : Half
  reset : Nat
  fields : List FieldDef
  deriving DecidableEq, Repr

/-- The value of `width` bits of `w` from bit `lsb` (spec/00 R5: bit 0 is the least significant). -/
def getBits (w : Word) (lsb width : Nat) : Nat := (w.extractLsb' lsb width).toNat

/-- `w` with `width` bits from bit `lsb` replaced by `v`. -/
def setBits (w : Word) (lsb width v : Nat) : Word :=
  (w &&& ~~~ ((BitVec.allOnes width).setWidth 32 <<< lsb)) ||| ((BitVec.ofNat width v).setWidth 32 <<< lsb)

/-- Bit `i` of a natural number. -/
def bit (n i : Nat) : Bool := n / 2 ^ i % 2 = 1

/-- 1 for true, 0 for false. -/
def b2n (b : Bool) : Nat := if b then 1 else 0

/-- `width` bits of a natural number from bit `lsb`. -/
def slice (n lsb width : Nat) : Nat := n / 2 ^ lsb % 2 ^ width

/-- `n` with bit `i` set. -/
def setBit (n i : Nat) : Nat := if bit n i then n else n + 2 ^ i

/-- `n` with bit `i` cleared. -/
def clrBit (n i : Nat) : Nat := if bit n i then n - 2 ^ i else n

/-- The nearer limit of a range. -/
def clamp (lo hi v : Nat) : Nat := if v < lo then lo else if hi < v then hi else v

/-- A sum that saturates at `2 ^ width - 1`. -/
def satAdd (width a b : Nat) : Nat := min (a + b) (2 ^ width - 1)

/-- The two's-complement value of the low `width` bits of `n`. -/
def toSigned (width n : Nat) : Int :=
  let m := n % 2 ^ width
  if m < 2 ^ (width - 1) then (m : Int) else (m : Int) - (2 ^ width : Nat)

/-- The two's-complement coding of `i` in `width` bits, wrapping. -/
def ofSigned (width : Nat) (i : Int) : Nat := (i % (2 ^ width : Nat)).toNat

/-- The two's-complement coding of `i` in `width` bits, saturating at the ends of the range. -/
def satSigned (width : Nat) (i : Int) : Nat :=
  let m : Int := (2 ^ (width - 1) : Nat)
  ofSigned width (if i < -m then -m else if i > m - 1 then m - 1 else i)

/-- Later-than between cycle numbers, modulo 2^32 (spec/04 R82): `a` is later than `b`. -/
def later (a b : Nat) : Bool :=
  let d := (a + 2 ^ 32 - b % 2 ^ 32) % 2 ^ 32
  decide (0 < d) && decide (d < 2 ^ 31)

/-- A number as `n` bytes, least significant first (spec/00 R5). -/
def leBytes : Nat → Nat → List Byte
  | 0, _ => []
  | n + 1, v => BitVec.ofNat 8 v :: leBytes n (v / 256)

/-- The number that bytes spell, least significant first (spec/00 R5). -/
def ofLe : List Byte → Nat
  | [] => 0
  | b :: bs => b.toNat + 256 * ofLe bs

/-- `n` bytes of a list from offset `o`; bytes beyond its end read as 0. -/
def bytesAt (bs : List Byte) (o n : Nat) : List Byte :=
  let t := (bs.drop o).take n
  t ++ List.replicate (n - t.length) 0

/-- The number in `n` bytes of a list from offset `o`. -/
def leAt (bs : List Byte) (o n : Nat) : Nat := ofLe (bytesAt bs o n)

/-- Bits of a number, most significant of `n` first. -/
def msbBits : Nat → Nat → List Bool
  | 0, _ => []
  | n + 1, v => bit v n :: msbBits n v

/-- Bits of a number, least significant of `n` first. -/
def lsbBits : Nat → Nat → List Bool
  | 0, _ => []
  | n + 1, v => (v % 2 = 1) :: lsbBits n (v / 2)

/-- One bit through a cyclic check register of `width` bits, most significant bit first. -/
def crcStep (width poly : Nat) (r : Nat) (b : Bool) : Nat :=
  let top := bit r (width - 1)
  let r' := r * 2 % 2 ^ width
  if top != b then r' ^^^ poly else r'

/-- A cyclic check over bits. -/
def crcBits (width poly init : Nat) (bs : List Bool) : Nat := bs.foldl (crcStep width poly) init

/-- One bit through a reflected cyclic check register. -/
def crcStepR (poly : Nat) (r : Nat) (b : Bool) : Nat :=
  let low := decide (r % 2 = 1)
  let r' := r / 2
  if low != b then r' ^^^ poly else r'

/-- CRC-32C of spec/06 R135 over bytes: reflected polynomial 0x82F63B78, initial value and final XOR all ones. -/
def crc32c (bs : List Byte) : Nat :=
  (bs.foldl (fun r b => (lsbBits 8 b.toNat).foldl (crcStepR 0x82F63B78) r) 0xFFFFFFFF) ^^^ 0xFFFFFFFF

/-- CRC-32 of spec/12 R288 over bytes: reflected polynomial 0xEDB88320, initial value and final XOR all ones. -/
def crc32 (bs : List Byte) : Nat :=
  (bs.foldl (fun r b => (lsbBits 8 b.toNat).foldl (crcStepR 0xEDB88320) r) 0xFFFFFFFF) ^^^ 0xFFFFFFFF

/-- CRC-16 of spec/02 R39 and of frame headers: polynomial 0x1021, initial value 0xFFFF, most significant bit first. -/
def crc16 (bs : List Bool) : Nat := crcBits 16 0x1021 0xFFFF bs

/-- CRC-16 over bytes, the most significant bit of each byte first. -/
def crc16Bytes (bs : List Byte) : Nat := crc16 (bs.flatMap fun b => msbBits 8 b.toNat)

/-- The value stored under a key of a store kept in rising order of keys. -/
def lookupKey {α : Type} (k : Nat) : List (Nat × α) → Option α
  | [] => none
  | (a, v) :: t => if a = k then some v else lookupKey k t

/-- A store with the entries of a key removed. -/
def eraseKey {α : Type} (k : Nat) : List (Nat × α) → List (Nat × α)
  | [] => []
  | (a, v) :: t => if a = k then eraseKey k t else (a, v) :: eraseKey k t

/-- A store with a value put under a key, in rising order of keys. -/
def insertKey {α : Type} (k : Nat) (v : α) : List (Nat × α) → List (Nat × α)
  | [] => [(k, v)]
  | (a, x) :: t =>
    if k < a then (k, v) :: (a, x) :: t
    else if a = k then (k, v) :: t
    else (a, x) :: insertKey k v t

/-- Keys strictly rising. -/
def sortedKeys {α : Type} : List (Nat × α) → Bool
  | [] => true
  | [_] => true
  | (a, _) :: (b, y) :: t => decide (a < b) && sortedKeys ((b, y) :: t)

/-- A store read with a default for unlisted keys. -/
def getKey {α : Type} (d : α) (k : Nat) (l : List (Nat × α)) : α := (lookupKey k l).getD d

/-- A store written, keeping its canonical form: a value equal to what an unlisted key reads as is not listed. -/
def putKey {α : Type} [DecidableEq α] (d : α) (k : Nat) (v : α) (l : List (Nat × α)) : List (Nat × α) :=
  if v = d then eraseKey k l else insertKey k v l

/-- Replace element `i` of a list. -/
def setAt {α : Type} (l : List α) (i : Nat) (v : α) : List α := l.set i v

/-- Element `i` of a list, or a default. -/
def getAt {α : Type} (d : α) (l : List α) (i : Nat) : α := l.getD i d

/-- The number of bits set among the low `n` bits. -/
def popCount : Nat → Nat → Nat
  | 0, _ => 0
  | n + 1, v => v % 2 + popCount n (v / 2)

/-- The least number below `n` that satisfies a test. -/
def findFirst (p : Nat → Bool) (n : Nat) : Option Nat := (List.range n).find? p

/-- The instance of an array register that an offset selects: index per dimension. -/
def dimIndex : List (Nat × Nat) → Nat → Option (List Nat)
  | [], 0 => some []
  | [], _ + 1 => none
  | (st, n) :: ds, o =>
    if o / st < n then (dimIndex ds (o % st)).map (o / st :: ·) else none

/-- The instance of a register that an address selects. -/
def RegDef.index (r : RegDef) (a : Nat) : Option (List Nat) :=
  if a < r.base then none else dimIndex r.dims (a - r.base)

/-- The address of the CTRL register that judges the RWE fields of an instance; 0 where there is none. -/
def RegDef.owner (r : RegDef) (ix : List Nat) : Nat :=
  r.own.1 + ((r.own.2.zip ix).map fun p => p.1 * p.2).sum

end Sys2Proof.Machine
end

