-- ==== Sys2Proof/Machine/RegMap.lean ====
section
/-! DEFINITION. The access rules of every register, block by block: base address, array dimensions (stride, count), the
CTRL register whose ENABLE judges its RWE fields (with its strides), the half of a _LO/_HI pair, the reset word, and its
fields (lowest bit, width, access type; `fc` also the limits a write is stored within).  Fields marked P, S or X in the
tables reset to 0 here (DESIGN CHOICE, assumption log 2). -/

namespace Sys2Proof.Machine

/-- Registers of block TOP. -/
def regsTop : List RegDef := [
  ⟨0x40000010, [], (0, []), .none, 0x1, [.f 0 1 .ro, .f 1 3 .w1s]⟩, -- TOP_HART_RELEASE (R26)
  ⟨0x40000018, [], (0, []), .lo, 0x0, [.f 0 32 .rw]⟩, -- TOP_HART_ENTRY_LO (R26)
  ⟨0x4000001C, [], (0, []), .hi, 0x0, [.f 0 32 .rw]⟩, -- TOP_HART_ENTRY_LO (R26)
  ⟨0x40000100, [], (0, []), .none, 0x0, [.f 0 2 .ro, .f 4 2 .rw, .f 8 1 .wo, .f 12 1 .w1s, .f 13 1 .w1s, .f 16 1 .wo, .f 24 8 .ro]⟩, -- TOP_HOST_TOKEN (R29)
  ⟨0x40000104, [], (0, []), .none, 0x64, [.fc 0 16 .rw 1 1000, .f 31 1 .wo]⟩, -- TOP_HOST_HB (R29)
  ⟨0x40000108, [], (0, []), .none, 0xFFFF0000, [.f 0 16 .ro, .f 16 16 .ro]⟩, -- TOP_REFUSE (R29)
  ⟨0x40000200, [], (0, []), .none, 0x0, [.f 0 2 .ro, .f 2 1 .ro, .f 3 1 .ro, .f 4 4 .ro, .f 8 1 .ro, .f 16 8 .ro]⟩, -- TOP_BOOT_STATUS (R473)
  ⟨0x40000204, [], (0, []), .none, 0x0, [.f 0 19 .rw]⟩, -- TOP_BOOT_IMAGE (R473)
  ⟨0x40000208, [], (0, []), .none, 0x5121D9A, [.f 0 16 .ro, .f 16 16 .ro]⟩, -- TOP_BOOT_PCIE_ID (R473)
  ⟨0x40000110, [], (0, []), .lo, 0x0, [.f 1 31 .rw]⟩, -- TOP_HOST_INT_MASK_LO (R38)
  ⟨0x40000114, [], (0, []), .hi, 0x0, [.f 0 32 .rw]⟩ -- TOP_HOST_INT_MASK_HI (R38)
]

/-- Registers of block SEAM. -/
def regsSeam : List RegDef := [
  ⟨0x41000100, [], (0, []), .none, 0x1, [.f 0 1 .rw, .f 1 1 .sc]⟩, -- SEAM_CTRL (R44)
  ⟨0x41000104, [], (0, []), .none, 0x0, [.f 0 1 .ro, .f 1 1 .ro]⟩, -- SEAM_STATUS (R44)
  ⟨0x41000108, [], (0, []), .none, 0x0, [.f 0 32 .ro]⟩, -- SEAM_RETRY_CNT (R44)
  ⟨0x4100010C, [], (0, []), .none, 0x0, [.f 0 16 .ro]⟩, -- SEAM_DOWN_CNT (R44)
  ⟨0x41000110, [], (0, []), .none, 0x0, [.f 0 5 .ro]⟩, -- SEAM_LOST_WR (R44)
  ⟨0x41000114, [], (0, []), .none, 0x0, [.f 0 32 .ro]⟩ -- SEAM_LOST_WR_ADDR (R44)
]

/-- Registers of block PAT. -/
def regsPat : List RegDef := [
  ⟨0x40100100, [], (0x40100100, []), .none, 0x0, [.f 0 1 .rw, .f 1 1 .rwe, .f 2 2 .rwe, .f 4 28 .rwe]⟩, -- PAT_CTRL (R75)
  ⟨0x40100104, [], (0, []), .none, 0x0, [.f 0 2 .ro, .f 2 1 .ro, .f 3 4 .ro, .f 7 1 .ro, .f 8 2 .ro, .f 10 1 .ro]⟩, -- PAT_STATUS (R75)
  ⟨0x40100108, [], (0, []), .none, 0xFFFF0000, [.f 0 16 .ro, .f 16 16 .ro]⟩, -- PAT_REFUSE (R75)
  ⟨0x4010010C, [], (0, []), .none, 0xFFFF0000, [.f 0 16 .ro, .f 16 16 .ro]⟩, -- PAT_UNIT_REASON (R75)
  ⟨0x40100110, [], (0x40100100, []), .none, 0x0, [.f 0 32 .rwe]⟩, -- PAT_SRC_ADDR (R75)
  ⟨0x40100114, [], (0, []), .none, 0xFFFFFFFF, [.f 0 32 .ro]⟩, -- PAT_ERR_OFFSET (R75)
  ⟨0x40100118, [], (0, []), .none, 0x0, [.f 0 32 .ro]⟩, -- PAT_SERIAL (R75)
  ⟨0x4010011C, [], (0, []), .none, 0x0, [.f 0 32 .ro]⟩, -- PAT_SITE (R75)
  ⟨0x40100120, [(0x4, 12)], (0, []), .none, 0x0, [.f 0 32 .ro]⟩, -- PAT_DIGEST0–PAT_DIGEST11 (R75)
  ⟨0x40100150, [], (0, []), .none, 0x0, [.f 0 32 .ro]⟩, -- PAT_FLOOR (R75)
  ⟨0x40100154, [], (0, []), .none, 0x0, [.f 0 4 .rw]⟩, -- PAT_FWDATA_SEL (R75)
  ⟨0x40100158, [], (0, []), .none, 0xFFFFFFFF, [.f 0 32 .ro]⟩, -- PAT_FWDATA_OFFSET (R75)
  ⟨0x4010015C, [], (0, []), .none, 0x0, [.f 0 32 .ro]⟩, -- PAT_FWDATA_LEN (R75)
  ⟨0x40100160, [], (0, []), .none, 0x0, [.f 0 1 .ro, .f 1 1 .ro, .f 2 1 .ro]⟩, -- PAT_WARM (R75)
  ⟨0x40100164, [], (0, []), .none, 0x0, [.f 0 32 .ro]⟩ -- PAT_WARM_LEN (R75)
]

/-- Registers of block CLK. -/
def regsClk : List RegDef := [
  ⟨0x40200100, [], (0x40200100, []), .none, 0x0, [.f 0 1 .rw, .f 1 1 .rwe, .f 2 1 .rwe, .f 3 1 .rw, .f 4 28 .rwe]⟩, -- CLK_CTRL (R96)
  ⟨0x40200104, [], (0, []), .none, 0x0, [.f 0 2 .ro, .f 2 1 .ro, .f 3 3 .ro, .f 6 1 .ro, .f 7 1 .ro, .f 8 1 .ro, .f 9 3 .ro, .f 12 1 .ro]⟩, -- CLK_STATUS (R96)
  ⟨0x40200108, [], (0, []), .none, 0xFFFF0000, [.f 0 16 .ro, .f 16 16 .ro]⟩, -- CLK_REFUSE (R96)
  ⟨0x40200110, [], (0, []), .lo, 0x0, [.f 0 32 .ro]⟩, -- CLK_RT_NS_LO (R96)
  ⟨0x40200114, [], (0, []), .hi, 0x0, [.f 0 32 .ro]⟩, -- CLK_RT_NS_HI (R96)
  ⟨0x40200118, [], (0, []), .none, 0x0, [.f 0 8 .ro]⟩, -- CLK_RT_SUB (R96)
  ⟨0x4020011C, [], (0, []), .none, 0x0, [.f 0 32 .ro]⟩, -- CLK_CYCLE (R96)
  ⟨0x40200120, [], (0x40200100, []), .lo, 0x0, [.f 0 32 .rwe]⟩, -- CLK_RT_LOAD_LO (R96)
  ⟨0x40200124, [], (0x40200100, []), .hi, 0x0, [.f 0 32 .rwe]⟩, -- CLK_RT_LOAD_HI (R96)
  ⟨0x40200128, [], (0, []), .none, 0x0, [.f 0 32 .ro]⟩, -- CLK_RATE (R96)
  ⟨0x4020012C, [], (0, []), .none, 0x0, [.f 0 32 .ro]⟩, -- CLK_OFFSET (R96)
  ⟨0x40200130, [], (0, []), .none, 0xFF, [.f 0 8 .ro, .f 8 8 .ro]⟩, -- CLK_HOPS (R96)
  ⟨0x40200134, [], (0, []), .none, 0x0, [.f 0 32 .ro]⟩, -- CLK_DELAY_E (R96)
  ⟨0x40200138, [], (0, []), .none, 0x0, [.f 0 32 .ro]⟩, -- CLK_DELAY_W (R96)
  ⟨0x4020013C, [], (0, []), .none, 0x0, [.f 0 16 .rw]⟩, -- CLK_ASYM_E (R96)
  ⟨0x40200140, [], (0, []), .none, 0x0, [.f 0 16 .rw]⟩, -- CLK_ASYM_W (R96)
  ⟨0x40200144, [], (0x40200100, []), .none, 0x14A6, [.f 0 4 .rwe, .f 4 4 .rwe, .f 8 8 .rwe, .f 16 16 .rwe]⟩, -- CLK_SERVO (R96)
  ⟨0x40200148, [], (0, []), .none, 0x0, [.f 0 32 .rw]⟩, -- CLK_PPS_OFFSET (R96)
  ⟨0x4020014C, [], (0, []), .none, 0x0, [.f 0 32 .ro]⟩, -- CLK_PPS_ERR (R96)
  ⟨0x40200150, [], (0, []), .none, 0x0, [.f 0 16 .ro, .f 16 16 .ro]⟩, -- CLK_EB_E (R96)
  ⟨0x40200154, [], (0, []), .none, 0x0, [.f 0 16 .ro, .f 16 16 .ro]⟩, -- CLK_EB_W (R96)
  ⟨0x40200158, [], (0, []), .none, 0x0, [.f 0 16 .ro, .f 16 16 .ro]⟩, -- CLK_SLIP_CNT (R96)
  ⟨0x4020015C, [], (0, []), .none, 0x0, [.f 0 16 .rw]⟩ -- CLK_CYCLE_INT (R96)
]

/-- Registers of block LANE. -/
def regsLane : List RegDef := [
  ⟨0x40300100, [], (0, []), .none, 0x84074, [.fc 0 16 .rw 0 49200, .fc 16 4 .rw 1 15]⟩, -- LANE_TACK_CFG (R129)
  ⟨0x40300104, [], (0, []), .none, 0x0, [.f 0 8 .ro, .f 8 8 .ro]⟩, -- LANE_PORT_SUMMARY (R129)
  ⟨0x40301000, [(0x40, 8)], (0x40301000, [0x40]), .none, 0x0, [.f 0 1 .rw, .f 1 1 .rwe, .f 2 1 .rwe, .f 3 29 .rwe]⟩, -- LANE_PORTn_CTRL (R129)
  ⟨0x40301004, [(0x40, 8)], (0, []), .none, 0x0, [.f 0 2 .ro, .f 2 1 .ro, .f 3 4 .ro, .f 7 1 .ro, .f 8 1 .ro, .f 9 4 .ro]⟩, -- LANE_PORTn_STATUS (R129)
  ⟨0x40301008, [(0x40, 8)], (0, []), .none, 0xFFFF0000, [.f 0 16 .ro, .f 16 16 .ro]⟩, -- LANE_PORTn_REFUSE (R129)
  ⟨0x4030100C, [(0x40, 8)], (0, []), .none, 0x0, [.f 0 16 .ro, .f 16 4 .ro]⟩, -- LANE_PORTn_ATTEMPT (R129)
  ⟨0x40301010, [(0x40, 8)], (0, []), .none, 0x0, [.f 0 4 .ro, .f 4 2 .ro, .f 6 2 .ro, .f 8 1 .ro, .f 9 1 .ro, .f 10 1 .ro]⟩, -- LANE_PORTn_PARTNER (R129)
  ⟨0x40301014, [(0x40, 8)], (0, []), .none, 0x0, [.f 0 32 .ro]⟩, -- LANE_PORTn_SKEW (R129)
  ⟨0x40301018, [(0x40, 8)], (0, []), .none, 0x0, [.f 0 16 .ro, .f 16 16 .ro]⟩, -- LANE_PORTn_TACK_MAX (R129)
  ⟨0x4030101C, [(0x40, 8)], (0, []), .none, 0x0, [.f 0 24 .ro]⟩, -- LANE_PORTn_TRUE_RATE (R129)
  ⟨0x40301020, [(0x40, 8)], (0, []), .none, 0x0, [.f 0 16 .ro, .f 16 16 .ro]⟩, -- LANE_PORTn_DOWN_CNT (R129)
  ⟨0x40301024, [(0x40, 8)], (0, []), .none, 0x0, [.f 0 16 .ro, .f 16 16 .ro]⟩, -- LANE_PORTn_CTRL_DROP (R129)
  ⟨0x40301028, [(0x40, 8)], (0, []), .none, 0x0, [.f 0 24 .ro]⟩, -- LANE_PORTn_RX_RATE (R129)
  ⟨0x40302000, [(0x40, 2)], (0, []), .none, 0x85, [.f 0 1 .rw, .f 1 1 .sc, .f 2 1 .rw, .f 3 1 .rw, .f 4 8 .rw]⟩, -- LANE_MODt_CTRL (R129)
  ⟨0x40302004, [(0x40, 2)], (0, []), .none, 0x0, [.f 0 1 .ro, .f 1 1 .ro, .f 2 1 .ro, .f 4 4 .ro, .f 8 4 .ro, .f 12 16 .ro]⟩, -- LANE_MODt_STATUS (R129)
  ⟨0x40302008, [(0x40, 2)], (0, []), .none, 0x0, [.f 0 8 .rw, .f 8 1 .rw, .f 9 1 .sc]⟩, -- LANE_MODt_CMD (R129)
  ⟨0x4030200C, [(0x40, 2)], (0, []), .none, 0x0, [.f 0 8 .rw, .f 8 1 .ro]⟩, -- LANE_MODt_DATA (R129)
  ⟨0x40304000, [(0x100, 20)], (0, []), .none, 0x0, [.f 0 1 .ro, .f 1 1 .ro, .f 2 1 .ro, .f 3 1 .ro, .f 4 2 .ro, .f 6 1 .ro, .f 7 1 .ro]⟩, -- LANEn_STATUS (R129)
  ⟨0x40304004, [(0x100, 20)], (0, []), .none, 0x0, [.f 0 4 .rw, .f 4 4 .rw, .f 8 5 .rw, .f 13 1 .rw]⟩, -- LANEn_TX (R129)
  ⟨0x40304008, [(0x100, 20)], (0, []), .none, 0x18, [.f 0 4 .rw, .f 4 1 .rw, .f 8 4 .ro]⟩, -- LANEn_RX (R129)
  ⟨0x4030400C, [(0x100, 20)], (0, []), .none, 0xA0, [.f 0 1 .rw, .f 1 1 .sc, .fc 2 4 .rw 4 12, .f 6 2 .rw, .f 8 1 .ro]⟩, -- LANEn_DFE_CTRL (R129)
  ⟨0x40304010, [(0x100, 20), (0x4, 4)], (0, []), .none, 0x0, [.f 0 24 .ro]⟩, -- LANEn_DFE_TAP0–3 (R129)
  ⟨0x40304020, [(0x100, 20), (0x4, 4)], (0, []), .none, 0x0, [.f 0 24 .rw]⟩, -- LANEn_DFE_PRE0–3 (R129)
  ⟨0x40304030, [(0x100, 20)], (0, []), .none, 0xC, [.f 0 1 .rw, .f 1 1 .rw, .f 2 2 .rw, .f 4 1 .sc, .f 5 1 .sc, .f 6 1 .rw]⟩, -- LANEn_PRBS_CTRL (R129)
  ⟨0x40304034, [(0x100, 20)], (0, []), .none, 0x0, [.f 0 1 .ro, .f 1 1 .ro]⟩, -- LANEn_PRBS_STATUS (R129)
  ⟨0x40304038, [(0x100, 20)], (0, []), .lo, 0x0, [.f 0 32 .ro]⟩, -- LANEn_PRBS_ERR_LO/HI (R129)
  ⟨0x4030403C, [(0x100, 20)], (0, []), .hi, 0x0, [.f 0 16 .ro]⟩, -- LANEn_PRBS_ERR_LO/HI (R129)
  ⟨0x40304040, [(0x100, 20)], (0, []), .lo, 0x0, [.f 0 32 .ro]⟩, -- LANEn_PRBS_BITS_LO/HI (R129)
  ⟨0x40304044, [(0x100, 20)], (0, []), .hi, 0x0, [.f 0 16 .ro]⟩, -- LANEn_PRBS_BITS_LO/HI (R129)
  ⟨0x40304048, [(0x100, 20)], (0, []), .lo, 0x0, [.f 0 32 .ro]⟩, -- LANEn_IDLE_ERR_LO/HI (R129)
  ⟨0x4030404C, [(0x100, 20)], (0, []), .hi, 0x0, [.f 0 16 .ro]⟩, -- LANEn_IDLE_ERR_LO/HI (R129)
  ⟨0x40304050, [(0x100, 20)], (0, []), .lo, 0x0, [.f 0 32 .ro]⟩, -- LANEn_IDLE_BITS_LO/HI (R129)
  ⟨0x40304054, [(0x100, 20)], (0, []), .hi, 0x0, [.f 0 16 .ro]⟩, -- LANEn_IDLE_BITS_LO/HI (R129)
  ⟨0x40304058, [(0x100, 20)], (0, []), .none, 0x0, [.f 0 32 .ro]⟩, -- LANEn_CHK_ERR (R129)
  ⟨0x4030405C, [(0x100, 20)], (0, []), .none, 0x0, [.f 0 16 .ro, .f 16 16 .ro]⟩, -- LANEn_TACK (R129)
  ⟨0x40304060, [(0x100, 20)], (0, []), .none, 0x0, [.f 0 31 .rw]⟩, -- LANEn_SCR_SEED (R129)
  ⟨0x40304064, [(0x100, 20)], (0, []), .none, 0x0, [.f 0 16 .ro]⟩ -- LANEn_SCR_ERR (R129)
]

/-- Registers of block TUN. -/
def regsTun : List RegDef := [
  ⟨0x40400100, [], (0x40400100, []), .none, 0x0, [.f 0 1 .rw, .f 1 31 .rwe]⟩, -- TUN_CTRL (R160)
  ⟨0x40400104, [], (0, []), .none, 0x0, [.f 0 2 .ro, .f 2 1 .ro, .f 3 11 .ro]⟩, -- TUN_STATUS (R160)
  ⟨0x40400108, [], (0, []), .none, 0xFFFF0000, [.f 0 16 .ro, .f 16 16 .ro]⟩, -- TUN_REFUSE (R160)
  ⟨0x40400110, [], (0, []), .none, 0x1008, [.fc 0 6 .rw 1 63, .f 8 8 .rw, .f 16 8 .rw]⟩, -- TUN_ARQ_CFG (R160)
  ⟨0x40400114, [], (0, []), .none, 0x8, [.fc 0 8 .rw 1 255]⟩, -- TUN_KNOT_CFG (R160)
  ⟨0x40400118, [], (0, []), .none, 0x0, [.f 0 7 .ro, .f 16 16 .ro]⟩, -- TUN_HOLD (R160)
  ⟨0x40400120, [], (0, []), .none, 0x0, [.f 0 10 .rw]⟩, -- TUN_SHADOW_SEL (R160)
  ⟨0x40400124, [(0x4, 3)], (0, []), .none, 0x0, [.f 0 32 .rw]⟩, -- TUN_SHADOW0–2 (R160)
  ⟨0x40400130, [], (0, []), .none, 0x10004, [.f 0 32 .rw]⟩, -- TUN_SHADOW3 (R160)
  ⟨0x40400140, [], (0, []), .none, 0x0, [.f 0 10 .wo, .f 16 1 .wo, .f 17 1 .wo]⟩, -- TUN_COMMIT (R160)
  ⟨0x40400144, [], (0, []), .none, 0x0, [.f 0 16 .ro, .f 16 10 .ro, .f 26 1 .ro]⟩, -- TUN_COMMIT_STATUS (R160)
  ⟨0x40400150, [], (0, []), .none, 0x0, [.f 0 10 .rw]⟩, -- TUN_VIEW_SEL (R160)
  ⟨0x40400154, [(0x4, 4)], (0, []), .none, 0x0, [.f 0 32 .ro]⟩, -- TUN_VIEW0–3 (R160)
  ⟨0x40400164, [], (0, []), .none, 0x0, [.f 0 1 .ro, .f 1 2 .ro, .f 3 2 .ro, .f 5 1 .ro, .f 6 1 .ro]⟩, -- TUN_VIEW_STATE (R160)
  ⟨0x40400168, [], (0, []), .none, 0x0, [.f 0 16 .ro, .f 16 16 .ro]⟩, -- TUN_VIEW_TX (R160)
  ⟨0x4040016C, [], (0, []), .none, 0x0, [.f 0 16 .ro, .f 16 4 .ro]⟩, -- TUN_VIEW_RX (R160)
  ⟨0x40400170, [], (0, []), .none, 0x0, [.f 0 10 .ro, .f 16 16 .ro]⟩, -- TUN_DEAD (R160)
  ⟨0x40400180, [], (0, []), .none, 0x0, [.f 0 16 .ro, .f 16 16 .ro]⟩, -- TUN_FRAY_MADE (R160)
  ⟨0x40400184, [], (0, []), .none, 0x0, [.f 0 16 .ro, .f 16 16 .ro]⟩, -- TUN_FRAY_MADE2 (R160)
  ⟨0x40400188, [], (0, []), .none, 0x0, [.f 0 16 .ro, .f 16 16 .ro]⟩, -- TUN_FRAY_FWD (R160)
  ⟨0x4040018C, [], (0, []), .none, 0x0, [.f 0 16 .ro, .f 16 16 .ro]⟩, -- TUN_DROP (R160)
  ⟨0x40400200, [(0x10, 12)], (0, []), .none, 0x0, [.f 0 16 .ro, .f 16 16 .ro]⟩, -- TUN_RXERRp (R160)
  ⟨0x40400204, [(0x10, 12)], (0, []), .none, 0x0, [.f 0 16 .ro, .f 16 16 .ro]⟩, -- TUN_RXERRp_B (R160)
  ⟨0x40400208, [(0x10, 12)], (0, []), .none, 0x0, [.f 0 16 .ro, .f 16 16 .ro]⟩ -- TUN_RXERRp_C (R160)
]

/-- Registers of block SWB. -/
def regsSwb : List RegDef := [
  ⟨0x40500100, [], (0x40500100, []), .none, 0x6, [.f 0 1 .rw, .f 1 1 .rw, .f 2 1 .rwe, .f 3 29 .rwe]⟩, -- SWB_CTRL (R187)
  ⟨0x40500104, [], (0, []), .none, 0x0, [.f 0 2 .ro, .f 2 1 .ro, .f 3 1 .ro, .f 4 1 .ro]⟩, -- SWB_STATUS (R187)
  ⟨0x40500108, [], (0, []), .none, 0xFFFF0000, [.f 0 16 .ro, .f 16 16 .ro]⟩, -- SWB_REFUSE (R187)
  ⟨0x40500110, [], (0, []), .none, 0x0, [.f 0 18 .ro]⟩, -- SWB_FREE (R187)
  ⟨0x40500114, [], (0, []), .none, 0x0, [.f 0 18 .ro]⟩, -- SWB_SHARED (R187)
  ⟨0x40500118, [], (0, []), .none, 0x0, [.f 0 18 .ro]⟩, -- SWB_SHARED_FREE (R187)
  ⟨0x4050011C, [], (0x40500100, []), .none, 0x800, [.f 0 18 .rwe, .f 18 14 .rwe]⟩, -- SWB_FREE_LOW (R187)
  ⟨0x40500120, [], (0x40500100, []), .none, 0x1000, [.f 0 18 .rwe, .f 18 14 .rwe]⟩, -- SWB_FREE_HIGH (R187)
  ⟨0x40500124, [], (0, []), .none, 0x4003F, [.f 0 6 .rw, .fc 8 16 .rw 1 65535]⟩, -- SWB_PAUSE_CFG (R187)
  ⟨0x40500128, [], (0, []), .none, 0x8, [.fc 0 8 .rw 1 255]⟩, -- SWB_MC_CFG (R187)
  ⟨0x4050012C, [], (0, []), .none, 0x4, [.fc 0 4 .rw 2 15]⟩, -- SWB_CT_CFG (R187)
  ⟨0x40500130, [], (0, []), .none, 0x8, [.fc 0 8 .rw 1 255]⟩, -- SWB_CREDIT_CFG (R187)
  ⟨0x40500134, [], (0, []), .none, 0x28, [.fc 0 10 .rw 10 1000]⟩, -- SWB_SCRUB_CFG (R187)
  ⟨0x40500138, [], (0, []), .none, 0x0, [.f 0 18 .ro, .f 18 14 .ro]⟩, -- SWB_SCRUB_STATUS (R187)
  ⟨0x4050013C, [], (0, []), .none, 0x0, [.f 0 16 .ro, .f 16 16 .ro]⟩, -- SWB_ECC_CNT (R187)
  ⟨0x40500140, [], (0, []), .none, 0x0, [.f 0 2 .rw, .f 2 1 .sc]⟩, -- SWB_ECC_INJECT (R187)
  ⟨0x40500144, [], (0, []), .none, 0x0, [.f 0 11 .ro]⟩, -- SWB_RETIRE (R187)
  ⟨0x40500148, [], (0, []), .none, 0x0, [.f 0 18 .ro]⟩, -- SWB_RETIRE_LAST (R187)
  ⟨0x40500150, [], (0, []), .none, 0x0, [.f 0 10 .rw]⟩, -- SWB_DRAIN_SEL (R187)
  ⟨0x40500154, [], (0, []), .none, 0x0, [.f 0 2 .ro, .f 2 1 .ro, .f 4 18 .ro]⟩, -- SWB_DRAIN (R187)
  ⟨0x40500160, [], (0, []), .none, 0x0, [.f 0 10 .rw, .f 10 2 .rw]⟩, -- SWB_QVIEW_SEL (R187)
  ⟨0x40500164, [], (0, []), .none, 0x0, [.f 0 18 .ro]⟩, -- SWB_QVIEW (R187)
  ⟨0x40500168, [], (0, []), .none, 0x0, [.f 0 18 .ro]⟩, -- SWB_QVIEW_FR (R187)
  ⟨0x40501000, [(0x4, 96)], (0x40500100, [0x0]), .none, 0x0, [.f 0 18 .rwe, .f 18 4 .rwe, .f 22 10 .rwe]⟩, -- SWB_RESi (R187)
  ⟨0x40501200, [(0x4, 96)], (0, []), .none, 0x0, [.f 0 18 .ro, .f 18 4 .ro]⟩, -- SWB_RES_LIVEi (R187)
  ⟨0x40501400, [(0x4, 96)], (0, []), .none, 0x0, [.f 0 18 .ro]⟩, -- SWB_OCCi (R187)
  ⟨0x40501600, [(0x4, 64)], (0x40500100, [0x0]), .none, 0x0, [.f 0 18 .rwe, .f 18 14 .rwe]⟩, -- SWB_LANDj (R187)
  ⟨0x40501700, [(0x4, 64)], (0, []), .none, 0x0, [.f 0 18 .ro]⟩, -- SWB_LAND_LIVEj (R187)
  ⟨0x40501800, [(0x4, 64)], (0, []), .none, 0x0, [.f 0 18 .ro]⟩, -- SWB_LAND_HELDj (R187)
  ⟨0x40501900, [(0x4, 64)], (0, []), .none, 0x0, [.f 0 18 .ro]⟩, -- SWB_CREDIT_AVAILj (R187)
  ⟨0x40501A00, [(0x10, 12)], (0, []), .none, 0x0, [.f 0 16 .ro, .f 16 16 .ro]⟩, -- SWB_CTp (R187)
  ⟨0x40501A04, [(0x10, 12)], (0, []), .none, 0x0, [.f 0 16 .ro]⟩, -- SWB_CTp_B (R187)
  ⟨0x40501A08, [(0x10, 12)], (0, []), .none, 0x0, [.f 0 12 .ro, .f 12 10 .ro, .f 22 10 .ro]⟩, -- SWB_MCp (R187)
  ⟨0x40501A0C, [(0x10, 12)], (0, []), .none, 0x0, [.f 0 16 .ro, .f 16 16 .ro]⟩ -- SWB_DROPp (R187)
]

/-- Registers of block SCH. -/
def regsSch : List RegDef := [
  ⟨0x40600100, [], (0x40600100, []), .none, 0x6, [.f 0 1 .rw, .f 1 1 .rw, .f 2 1 .rwe, .f 3 29 .rwe]⟩, -- SCH_CTRL (R208)
  ⟨0x40600104, [], (0, []), .none, 0x0, [.f 0 2 .ro, .f 2 1 .ro, .f 3 1 .ro, .f 4 1 .ro]⟩, -- SCH_STATUS (R208)
  ⟨0x40600108, [], (0, []), .none, 0xFFFF0000, [.f 0 16 .ro, .f 16 16 .ro]⟩, -- SCH_REFUSE (R208)
  ⟨0x40600110, [], (0, []), .none, 0x7D0, [.fc 0 12 .rw 500 4000]⟩, -- SCH_STAGE_CFG (R208)
  ⟨0x40600114, [], (0, []), .none, 0x7, [.fc 0 4 .rw 0 12]⟩, -- SCH_SAMPLE_CFG (R208)
  ⟨0x40600118, [], (0, []), .none, 0x0, [.f 0 16 .ro, .f 16 16 .ro]⟩, -- SCH_UNDO_CNT (R208)
  ⟨0x4060011C, [], (0, []), .none, 0x0, [.f 0 3 .ro, .f 16 12 .ro]⟩, -- SCH_UNDO_LAST (R208)
  ⟨0x40600120, [], (0, []), .none, 0x0, [.f 0 32 .ro]⟩, -- SCH_UNDO_CYCLE (R208)
  ⟨0x40600124, [], (0, []), .none, 0x0, [.f 0 32 .ro]⟩, -- SCH_PREEMPT_END (R208)
  ⟨0x40600200, [], (0, []), .none, 0x0, [.f 0 10 .rw, .f 10 2 .rw]⟩, -- SCH_ENT_SEL (R208)
  ⟨0x40600204, [], (0, []), .none, 0x0, [.f 0 23 .ro]⟩, -- SCH_ENT_POL_TOKENS (R208)
  ⟨0x40600208, [], (0, []), .none, 0x0, [.f 0 23 .ro]⟩, -- SCH_ENT_SHP_TOKENS (R208)
  ⟨0x4060020C, [], (0, []), .none, 0x0, [.f 0 17 .ro]⟩, -- SCH_ENT_DEFICIT (R208)
  ⟨0x40600210, [], (0, []), .none, 0x0, [.f 0 16 .ro, .f 16 16 .ro]⟩, -- SCH_ENT_POL (R208)
  ⟨0x40600214, [], (0, []), .none, 0x0, [.f 0 12 .ro, .f 12 1 .ro]⟩, -- SCH_ENT_STAGE (R208)
  ⟨0x40600220, [], (0, []), .none, 0x0, [.f 0 18 .ro]⟩, -- SCH_SAMP_DEPTH_MIN (R208)
  ⟨0x40600224, [], (0, []), .none, 0x0, [.f 0 18 .ro]⟩, -- SCH_SAMP_DEPTH_MAX (R208)
  ⟨0x40600228, [], (0, []), .none, 0x0, [.f 0 24 .ro]⟩, -- SCH_SAMP_DELAY_MIN (R208)
  ⟨0x4060022C, [], (0, []), .none, 0x0, [.f 0 24 .ro]⟩, -- SCH_SAMP_DELAY_MAX (R208)
  ⟨0x40600230, [], (0, []), .none, 0x0, [.f 0 1 .rw, .f 1 1 .sc]⟩, -- SCH_SAMP_CTRL (R208)
  ⟨0x40600240, [(0x4, 16)], (0, []), .none, 0x0, [.f 0 32 .ro]⟩, -- SCH_SAMP_BIN0–15 (R208)
  ⟨0x40601000, [(0x40, 12)], (0x40600100, [0x0]), .none, 0x7800, [.f 0 8 .rwe, .f 8 7 .rwe, .f 15 17 .rwe]⟩, -- SCH_PORTp_CFG (R208)
  ⟨0x40601004, [(0x40, 12)], (0, []), .none, 0x0, [.f 0 24 .ro]⟩, -- SCH_PORTp_RATE (R208)
  ⟨0x40601008, [(0x40, 12)], (0, []), .none, 0x0, [.f 0 24 .ro]⟩, -- SCH_PORTp_BOOK (R208)
  ⟨0x4060100C, [(0x40, 12)], (0, []), .none, 0x0, [.f 0 13 .ro, .f 16 16 .ro]⟩, -- SCH_PORTp_STAGE (R208)
  ⟨0x40601010, [(0x40, 12), (0x4, 7)], (0, []), .none, 0x0, [.f 0 16 .ro, .f 16 16 .ro]⟩, -- SCH_PORTp_GUARD0–6 (R208)
  ⟨0x4060102C, [(0x40, 12)], (0, []), .none, 0x0, [.f 0 16 .ro, .f 16 16 .ro]⟩, -- SCH_PORTp_PRESS (R208)
  ⟨0x40601030, [(0x40, 12)], (0, []), .none, 0x0, [.f 0 16 .ro, .f 16 16 .ro]⟩, -- SCH_PORTp_HOLD (R208)
  ⟨0x40601034, [(0x40, 12)], (0, []), .none, 0x0, [.f 0 16 .ro]⟩ -- SCH_PORTp_CL7 (R208)
]

/-- Registers of block ALT. -/
def regsAlt : List RegDef := [
  ⟨0x40700100, [], (0x40700100, []), .none, 0x0, [.f 0 1 .rw, .f 1 31 .rwe]⟩, -- ALT_BASTE_CTRL (R232)
  ⟨0x40700104, [], (0, []), .none, 0x0, [.f 0 2 .ro, .f 2 1 .ro, .f 3 1 .ro, .f 4 1 .ro]⟩, -- ALT_BASTE_STATUS (R232)
  ⟨0x40700108, [], (0, []), .none, 0xFFFF0000, [.f 0 16 .ro, .f 16 16 .ro]⟩, -- ALT_BASTE_REFUSE (R232)
  ⟨0x4070010C, [], (0, []), .none, 0x0, [.f 0 32 .ro]⟩, -- ALT_BASTE_DIGEST (R232)
  ⟨0x40700110, [], (0x40700110, []), .none, 0x0, [.f 0 1 .rw, .f 1 31 .rwe]⟩, -- ALT_ALARM_CTRL (R232)
  ⟨0x40700114, [], (0, []), .none, 0x0, [.f 0 2 .ro, .f 2 1 .ro, .f 3 1 .ro, .f 4 1 .ro]⟩, -- ALT_ALARM_STATUS (R232)
  ⟨0x40700118, [], (0, []), .none, 0xFFFF0000, [.f 0 16 .ro, .f 16 16 .ro]⟩, -- ALT_ALARM_REFUSE (R232)
  ⟨0x4070011C, [], (0, []), .none, 0x0, [.f 0 32 .ro]⟩, -- ALT_ALARM_DIGEST (R232)
  ⟨0x40700120, [], (0, []), .none, 0x0, [.f 0 32 .ro]⟩, -- ALT_SEWN_PLAN (R232)
  ⟨0x40700124, [], (0, []), .none, 0x0, [.f 0 32 .ro]⟩, -- ALT_SEWN_CYCLE (R232)
  ⟨0x40700128, [], (0, []), .none, 0x0, [.f 0 3 .ro]⟩, -- ALT_PENDING (R232)
  ⟨0x4070012C, [], (0, []), .none, 0x0, [.f 0 32 .ro]⟩, -- ALT_PENDING_TARGET (R232)
  ⟨0x40700130, [], (0, []), .none, 0x0, [.f 0 32 .ro]⟩, -- ALT_PENDING_PLAN (R232)
  ⟨0x40700134, [], (0, []), .none, 0x0, [.f 0 32 .rw]⟩, -- ALT_ALARM_PLAN (R232)
  ⟨0x40700140, [], (0, []), .none, 0x0, [.f 0 32 .rw]⟩, -- ALT_CMD_PLAN (R232)
  ⟨0x40700144, [], (0, []), .none, 0x0, [.f 0 32 .rw]⟩, -- ALT_CMD_TARGET (R232)
  ⟨0x40700148, [], (0, []), .none, 0x0, [.f 0 3 .wo]⟩, -- ALT_CMD (R232)
  ⟨0x4070014C, [], (0, []), .none, 0xFFFF0000, [.f 0 16 .ro, .f 16 16 .ro]⟩, -- ALT_CMD_STATUS (R232)
  ⟨0x40700150, [], (0, []), .none, 0x8, [.fc 0 8 .rw 8 255]⟩, -- ALT_SEW_CFG (R232)
  ⟨0x40700160, [], (0, []), .none, 0x0, [.f 0 16 .ro, .f 16 16 .ro]⟩, -- ALT_SEW_CNT (R232)
  ⟨0x40700164, [], (0, []), .none, 0x0, [.f 0 16 .ro, .f 16 16 .ro]⟩, -- ALT_SEW_CNT2 (R232)
  ⟨0x40700168, [], (0, []), .none, 0x0, [.f 0 16 .ro, .f 16 16 .ro]⟩, -- ALT_MSG_DROP (R232)
  ⟨0x4070016C, [], (0, []), .none, 0x0, [.f 0 16 .ro, .f 16 16 .ro]⟩, -- ALT_KNOT (R232)
  ⟨0x40700200, [], (0, []), .none, 0x0, [.f 1 31 .rw]⟩, -- ALT_PART0, no address 0 (R232)
  ⟨0x40700204, [(0x4, 6)], (0, []), .none, 0x0, [.f 0 32 .rw]⟩, -- ALT_PARTk (R232)
  ⟨0x4070021C, [], (0, []), .none, 0x0, [.f 0 27 .rw]⟩, -- ALT_PART7, no address above 250 (R232)
  ⟨0x40700220, [(0x4, 8)], (0, []), .none, 0x0, [.f 0 32 .ro]⟩, -- ALT_READYk (R232)
  ⟨0x40700240, [(0x4, 8)], (0, []), .none, 0x0, [.f 0 32 .ro]⟩, -- ALT_ACKk (R232)
  ⟨0x40700260, [(0x4, 8)], (0, []), .none, 0x0, [.f 0 32 .ro]⟩, -- ALT_LATEk (R232)
  ⟨0x40700280, [], (0, []), .none, 0x0, [.f 0 8 .rw]⟩, -- ALT_REPORT_SEL (R232)
  ⟨0x40700284, [], (0, []), .none, 0x0, [.f 0 16 .ro, .f 16 16 .ro]⟩, -- ALT_REPORT (R232)
  ⟨0x40700288, [], (0, []), .none, 0x0, [.f 0 32 .ro]⟩, -- ALT_REPORT_DIGEST (R232)
  ⟨0x40700300, [], (0, []), .none, 0x0, [.f 0 10 .rw, .f 10 1 .rw]⟩, -- ALT_CHECK_SEL (R232)
  ⟨0x40700304, [], (0, []), .none, 0x0, [.f 0 24 .ro, .f 24 4 .ro]⟩, -- ALT_CHECK_DELAY (R232)
  ⟨0x40700308, [], (0, []), .none, 0x0, [.f 0 4 .rw, .f 4 3 .rw]⟩, -- ALT_CHECK_PC_SEL (R232)
  ⟨0x4070030C, [], (0, []), .none, 0x0, [.f 0 24 .ro]⟩, -- ALT_CHECK_SERVICE (R232)
  ⟨0x40700310, [], (0, []), .none, 0x0, [.f 0 24 .ro]⟩ -- ALT_CHECK_DEMAND (R232)
]

/-- Registers of block RNG. -/
def regsRng : List RegDef := [
  ⟨0x40800100, [], (0x40800100, []), .none, 0x6, [.f 0 1 .rw, .f 1 1 .rwe, .f 2 1 .rw, .f 3 1 .rw, .f 4 28 .rwe]⟩, -- RNG_CTRL (R254)
  ⟨0x40800104, [], (0, []), .none, 0x0, [.f 0 2 .ro, .f 2 1 .ro, .f 3 2 .ro, .f 5 3 .ro, .f 8 2 .ro, .f 10 1 .ro, .f 11 1 .ro, .f 12 1 .ro]⟩, -- RNG_STATUS (R254)
  ⟨0x40800108, [], (0, []), .none, 0xFFFF0000, [.f 0 16 .ro, .f 16 16 .ro]⟩, -- RNG_REFUSE (R254)
  ⟨0x40800110, [], (0, []), .none, 0x0, [.f 0 8 .ro, .f 8 2 .ro]⟩, -- RNG_ADDR (R254)
  ⟨0x40800114, [], (0, []), .none, 0x0, [.f 0 16 .ro, .f 16 8 .ro]⟩, -- RNG_EPOCH (R254)
  ⟨0x40800118, [], (0, []), .none, 0x2080844, [.fc 0 4 .rw 2 15, .fc 4 4 .rw 2 15, .fc 8 8 .rw 6 255, .fc 16 8 .rw 8 255, .f 24 4 .rw]⟩, -- RNG_CFG (R254)
  ⟨0x4080011C, [], (0, []), .none, 0x81010, [.fc 0 8 .rw 1 255, .fc 8 8 .rw 1 255, .fc 16 8 .rw 1 255]⟩, -- RNG_CFG2 (R254)
  ⟨0x40800120, [], (0, []), .none, 0x0, [.f 0 3 .wo]⟩, -- RNG_CMD (R254)
  ⟨0x40800124, [], (0, []), .none, 0x0, [.f 0 8 .rw, .f 8 1 .rw]⟩, -- RNG_CMD_ARG (R254)
  ⟨0x40800128, [], (0, []), .none, 0xFFFF0000, [.f 0 16 .ro, .f 16 16 .ro]⟩, -- RNG_CMD_STATUS (R254)
  ⟨0x4080012C, [], (0, []), .none, 0x0, [.f 0 8 .ro, .f 8 8 .ro, .f 16 8 .ro]⟩, -- RNG_NEIGH (R254)
  ⟨0x40800130, [], (0, []), .none, 0x0, [.f 0 4 .rw]⟩, -- RNG_EDGE_SEL (R254)
  ⟨0x40800134, [], (0, []), .none, 0x0, [.f 0 8 .ro, .f 8 1 .ro, .f 9 3 .ro, .f 12 1 .ro]⟩, -- RNG_EDGE (R254)
  ⟨0x40800138, [], (0, []), .none, 0x0, [.f 0 32 .ro]⟩, -- RNG_EDGE_CYCLE (R254)
  ⟨0x40800140, [], (0, []), .none, 0x0, [.f 0 8 .rw]⟩, -- RNG_MAP_SEL (R254)
  ⟨0x40800144, [], (0, []), .none, 0xFFFF, [.f 0 8 .ro, .f 8 8 .ro, .f 16 1 .ro]⟩, -- RNG_MAP (R254)
  ⟨0x40800148, [(0x4, 4)], (0, []), .none, 0x0, [.f 0 32 .ro]⟩, -- RNG_MAP_UID0–3 (R254)
  ⟨0x40800158, [], (0, []), .none, 0x0, [.f 0 32 .ro]⟩, -- RNG_MAP_SEEN (R254)
  ⟨0x40800180, [], (0, []), .none, 0x0, [.f 0 16 .ro, .f 16 16 .ro]⟩, -- RNG_DROP (R254)
  ⟨0x40800184, [], (0, []), .none, 0x0, [.f 0 10 .ro, .f 10 10 .ro, .f 20 12 .ro]⟩, -- RNG_DROP2 (R254)
  ⟨0x40800188, [], (0, []), .none, 0x0, [.f 0 12 .ro, .f 12 8 .ro, .f 20 12 .ro]⟩, -- RNG_CUT (R254)
  ⟨0x4080018C, [], (0, []), .none, 0x0, [.f 0 16 .ro, .f 16 16 .ro]⟩, -- RNG_CUT2 (R254)
  ⟨0x40800190, [], (0, []), .none, 0x0, [.f 0 16 .ro, .f 16 16 .ro]⟩, -- RNG_NAK (R254)
  ⟨0x40800194, [], (0, []), .none, 0x0, [.f 0 8 .ro, .f 8 8 .ro, .f 16 16 .ro]⟩, -- RNG_NAK_LAST (R254)
  ⟨0x40800200, [], (0, []), .none, 0x0, [.f 0 8 .rw, .f 8 7 .rw, .f 15 1 .rw, .f 16 1 .sc]⟩, -- RNG_TX_CTRL (R254)
  ⟨0x40800204, [], (0, []), .none, 0x0, [.f 0 16 .ro, .f 16 16 .ro]⟩, -- RNG_TX_STATUS (R254)
  ⟨0x40800210, [(0x4, 24)], (0, []), .none, 0x0, [.f 0 32 .rw]⟩, -- RNG_TX_DATA0–23 (R254)
  ⟨0x40800280, [], (0, []), .none, 0x0, [.f 0 5 .ro, .f 5 7 .ro, .f 12 8 .ro, .f 20 1 .ro, .f 21 11 .ro]⟩, -- RNG_RX_STATUS (R254)
  ⟨0x40800284, [], (0, []), .none, 0x0, [.f 0 1 .wo]⟩, -- RNG_RX_POP (R254)
  ⟨0x40800290, [(0x4, 24)], (0, []), .none, 0x0, [.f 0 32 .ro]⟩, -- RNG_RX_DATA0–23 (R254)
  ⟨0x40800300, [], (0, []), .none, 0x0, [.f 0 10 .rw]⟩, -- RNG_BUDDY_SEL (R254)
  ⟨0x40800304, [], (0, []), .none, 0x0, [.f 0 16 .ro, .f 16 16 .ro]⟩, -- RNG_BUDDY (R254)
  ⟨0x40800308, [], (0, []), .none, 0x0, [.f 0 1 .ro, .f 1 1 .ro]⟩, -- RNG_BUDDY_STATE (R254)
  ⟨0x4080030C, [], (0, []), .none, 0x0, [.f 0 32 .ro]⟩ -- RNG_BUDDY_SINCE (R254)
]

/-- Registers of block AUD. -/
def regsAud : List RegDef := [
  ⟨0x40900100, [], (0x40900100, []), .none, 0x0, [.f 0 1 .rw, .f 1 1 .rwe, .f 2 1 .rw, .f 3 29 .rwe]⟩, -- AUD_CTRL (R281)
  ⟨0x40900104, [], (0, []), .none, 0x0, [.f 0 2 .ro, .f 2 1 .ro]⟩, -- AUD_STATUS (R281)
  ⟨0x40900108, [], (0, []), .none, 0xFFFF0000, [.f 0 16 .ro, .f 16 16 .ro]⟩, -- AUD_REFUSE (R281)
  ⟨0x40900110, [], (0, []), .none, 0x0, [.f 0 2 .ro, .f 2 5 .ro, .f 8 8 .ro]⟩, -- AUD_CFG (R281)
  ⟨0x40900114, [], (0, []), .none, 0x844, [.fc 0 4 .rw 0 8, .fc 4 4 .rw 1 12, .fc 8 8 .rw 1 255]⟩, -- AUD_MIX_CFG (R281)
  ⟨0x40900118, [], (0, []), .none, 0x0, [.f 0 16 .ro, .f 16 16 .ro]⟩, -- AUD_MIX_STAT (R281)
  ⟨0x4090011C, [], (0, []), .none, 0x0, [.f 0 16 .ro, .f 16 16 .ro]⟩, -- AUD_LATE (R281)
  ⟨0x40900120, [], (0, []), .none, 0x0, [.f 0 16 .ro, .f 16 16 .ro]⟩, -- AUD_FORMAT (R281)
  ⟨0x40900130, [], (0, []), .none, 0x0, [.f 0 10 .rw]⟩, -- AUD_RCH_SEL (R281)
  ⟨0x40900134, [], (0, []), .none, 0x1, [.f 0 1 .rw]⟩, -- AUD_RCH_CFG (R281)
  ⟨0x40900138, [], (0, []), .none, 0x0, [.f 0 10 .ro, .f 10 1 .ro, .f 11 1 .ro, .f 12 2 .ro]⟩, -- AUD_RCH_STATUS (R281)
  ⟨0x4090013C, [], (0, []), .none, 0x0, [.f 0 32 .ro]⟩, -- AUD_RCH_CONCEALED (R281)
  ⟨0x40900140, [], (0, []), .none, 0x0, [.f 0 16 .ro, .f 16 16 .ro]⟩, -- AUD_RCH_USED (R281)
  ⟨0x40900150, [], (0, []), .none, 0x0, [.f 0 9 .rw]⟩, -- AUD_OUT_SEL (R281)
  ⟨0x40900154, [], (0, []), .none, 0x0, [.f 0 32 .ro]⟩, -- AUD_OUT_CLIP (R281)
  ⟨0x40900180, [], (0, []), .lo, 0x0, [.f 0 32 .ro]⟩, -- AUD_DET_LOW_LO (R281)
  ⟨0x40900184, [], (0, []), .hi, 0x0, [.f 0 32 .ro]⟩, -- AUD_DET_LOW_HI (R281)
  ⟨0x40900800, [(0x10, 64)], (0, []), .none, 0x640, [.f 0 3 .rw, .f 3 10 .rw]⟩, -- AUD_GENg_CFG (R281)
  ⟨0x40900804, [(0x10, 64)], (0, []), .none, 0x3E8, [.f 0 17 .rw]⟩, -- AUD_GENg_FREQ (R281)
  ⟨0x40900808, [(0x10, 64)], (0, []), .none, 0x0, [.f 0 16 .rw, .f 16 16 .rw]⟩, -- AUD_GENg_CADENCE (R281)
  ⟨0x40901000, [(0x20, 16)], (0x40901000, [0x20]), .none, 0x60880, [.f 0 1 .rw, .f 1 1 .rwe, .f 2 6 .rwe, .f 8 6 .rwe, .f 14 2 .rwe, .f 16 1 .rwe, .f 17 1 .rwe, .f 18 1 .rwe, .f 19 1 .rw, .f 20 12 .rwe]⟩, -- AUD_TDMt_CTRL (R281)
  ⟨0x40901004, [(0x20, 16)], (0, []), .none, 0x0, [.f 0 2 .ro, .f 2 1 .ro, .f 3 2 .ro]⟩, -- AUD_TDMt_STATUS (R281)
  ⟨0x40901008, [(0x20, 16)], (0, []), .none, 0xFFFF0000, [.f 0 16 .ro, .f 16 16 .ro]⟩, -- AUD_TDMt_REFUSE (R281)
  ⟨0x4090100C, [(0x20, 16)], (0, []), .none, 0x0, [.f 0 16 .ro, .f 16 16 .ro]⟩, -- AUD_TDMt_CNT (R281)
  ⟨0x40901010, [(0x20, 16)], (0, []), .none, 0x0, [.f 0 16 .ro]⟩, -- AUD_TDMt_CNT2 (R281)
  ⟨0x40901800, [(0x20, 64)], (0, []), .none, 0x4E20000, [.f 0 11 .rw, .f 11 1 .rw, .f 12 17 .rw]⟩, -- AUD_DETd_CFG (R281)
  ⟨0x40901804, [(0x20, 64)], (0, []), .none, 0x1840, [.fc 0 11 .rw 8 1024, .fc 11 4 .rw 1 15]⟩, -- AUD_DETd_CFG2 (R281)
  ⟨0x40901808, [(0x20, 64)], (0, []), .none, 0x0, [.f 0 32 .rw]⟩, -- AUD_DETd_THR_LOW (R281)
  ⟨0x4090180C, [(0x20, 64)], (0, []), .none, 0xFFFFFFFF, [.f 0 32 .rw]⟩, -- AUD_DETd_THR_HIGH (R281)
  ⟨0x40901810, [(0x20, 64)], (0, []), .lo, 0x0, [.f 0 32 .ro]⟩, -- AUD_DETd_MAG_LO (R281)
  ⟨0x40901814, [(0x20, 64)], (0, []), .hi, 0x0, [.f 0 4 .ro]⟩, -- AUD_DETd_MAG_HI (R281)
  ⟨0x40901818, [(0x20, 64)], (0, []), .none, 0x0, [.f 0 2 .ro]⟩, -- AUD_DETd_STATUS (R281)
  ⟨0x4090181C, [(0x20, 64)], (0, []), .none, 0x0, [.f 0 32 .ro]⟩, -- AUD_DETd_CYCLE (R281)
  ⟨0x40902000, [(0x4, 512)], (0x40900100, [0x0]), .none, 0x1999A0, [.f 0 1 .rwe, .f 1 1 .rw, .f 2 1 .rw, .f 3 1 .rwe, .f 4 24 .rw, .f 28 4 .rwe]⟩, -- AUD_OUTo (R281)
  ⟨0x40902800, [(0x4, 512)], (0, []), .none, 0x147D0, [.fc 0 12 .rw 0 4000, .fc 12 6 .rw 0 40, .f 18 1 .rw]⟩, -- AUD_PILOTo (R281)
  ⟨0x40904000, [(0x40, 512), (0x8, 8)], (0, []), .none, 0x0, [.f 0 11 .rw, .f 11 2 .rw, .f 13 1 .rw, .f 14 1 .rw, .f 15 7 .rw]⟩, -- AUD_TERMo_u (R281)
  ⟨0x40904004, [(0x40, 512), (0x8, 8)], (0, []), .none, 0x100000, [.f 0 24 .rw]⟩, -- AUD_GAINo_u (R281)
  ⟨0x4090C000, [(0x10, 512), (0x4, 4)], (0, []), .none, 0x43200000, [.f 0 2 .rw, .f 2 1 .rw, .f 3 7 .rw, .f 10 6 .rw, .f 16 1 .ro, .f 20 7 .rw, .f 27 4 .rw]⟩ -- AUD_LAYERo_L (R281)
]

/-- Registers of block STC. -/
def regsStc : List RegDef := [
  ⟨0x40A00100, [], (0x40A00100, []), .none, 0x0, [.f 0 1 .rw, .f 1 31 .rwe]⟩, -- STC_CTRL (R292)
  ⟨0x40A00104, [], (0, []), .none, 0x0, [.f 0 2 .ro, .f 2 1 .ro]⟩, -- STC_STATUS (R292)
  ⟨0x40A00108, [], (0, []), .none, 0xFFFF0000, [.f 0 16 .ro, .f 16 16 .ro]⟩, -- STC_REFUSE (R292)
  ⟨0x40A00110, [], (0, []), .none, 0x0, [.f 0 16 .ro]⟩, -- STC_FORMAT (R292)
  ⟨0x40A00120, [(0x4, 4)], (0, []), .none, 0x0, [.f 0 32 .w1c]⟩, -- STC_SUSPECTk (R292)
  ⟨0x40A00140, [(0x4, 5)], (0, []), .none, 0x0, [.f 0 32 .w1c]⟩, -- STC_MISMATCHk (R292)
  ⟨0x40A01000, [(0x40, 128)], (0x40A01000, [0x40]), .none, 0x0, [.f 0 1 .rw, .f 1 31 .rwe]⟩, -- STC_CHc_CTRL (R292)
  ⟨0x40A01004, [(0x40, 128)], (0, []), .none, 0x0, [.f 0 2 .ro, .f 2 1 .ro, .f 3 1 .ro, .f 4 1 .ro, .f 5 1 .ro, .f 6 1 .ro, .f 7 1 .ro, .f 8 1 .ro]⟩, -- STC_CHc_STATUS (R292)
  ⟨0x40A01008, [(0x40, 128)], (0, []), .none, 0xFFFF0000, [.f 0 16 .ro, .f 16 16 .ro]⟩, -- STC_CHc_REFUSE (R292)
  ⟨0x40A0100C, [(0x40, 128)], (0x40A01000, [0x40]), .none, 0x1010, [.f 0 2 .rwe, .f 2 2 .rwe, .f 4 8 .rwe, .f 12 8 .rwe, .f 20 8 .rwe, .f 28 1 .rwe, .f 29 1 .rwe, .f 30 2 .rwe]⟩, -- STC_CHc_CFG (R292)
  ⟨0x40A01010, [(0x40, 128)], (0x40A01000, [0x40]), .none, 0x30000, [.f 0 16 .rwe, .f 16 4 .rwe, .f 20 4 .rwe, .f 24 8 .rwe]⟩, -- STC_CHc_CFG2 (R292)
  ⟨0x40A01014, [(0x40, 128)], (0, []), .lo, 0x0, [.f 0 32 .rw]⟩, -- STC_CHc_VALUE_LO (R292)
  ⟨0x40A01018, [(0x40, 128)], (0, []), .hi, 0x0, [.f 0 32 .rw]⟩, -- STC_CHc_VALUE_HI (R292)
  ⟨0x40A0101C, [(0x40, 128)], (0, []), .lo, 0x0, [.f 0 32 .ro]⟩, -- STC_CHc_PRES_LO (R292)
  ⟨0x40A01020, [(0x40, 128)], (0, []), .hi, 0x0, [.f 0 32 .ro]⟩, -- STC_CHc_PRES_HI (R292)
  ⟨0x40A01024, [(0x40, 128)], (0, []), .lo, 0x0, [.f 0 32 .rw]⟩, -- STC_CHc_SAFE_LO (R292)
  ⟨0x40A01028, [(0x40, 128)], (0, []), .hi, 0x0, [.f 0 32 .rw]⟩, -- STC_CHc_SAFE_HI (R292)
  ⟨0x40A0102C, [(0x40, 128)], (0, []), .none, 0x0, [.f 0 8 .ro, .f 8 8 .ro, .f 16 8 .ro]⟩, -- STC_CHc_ALIVE (R292)
  ⟨0x40A01030, [(0x40, 128)], (0, []), .none, 0x0, [.f 0 16 .ro, .f 16 16 .ro]⟩, -- STC_CHc_CNT (R292)
  ⟨0x40A01034, [(0x40, 128)], (0, []), .none, 0x0, [.f 0 16 .ro, .f 16 16 .ro]⟩, -- STC_CHc_CNT2 (R292)
  ⟨0x40A01038, [(0x40, 128)], (0, []), .none, 0x0, [.f 0 16 .ro, .f 16 16 .ro]⟩, -- STC_CHc_CNT3 (R292)
  ⟨0x40A0103C, [(0x40, 128)], (0, []), .none, 0x0, [.f 0 32 .ro]⟩, -- STC_CHc_LAST_CYCLE (R292)
  ⟨0x40A04000, [(0x40, 144)], (0x40A04000, [0x40]), .none, 0x0, [.f 0 1 .rw, .f 1 31 .rwe]⟩, -- STC_CVUu_CTRL (R292)
  ⟨0x40A04004, [(0x40, 144)], (0, []), .none, 0x0, [.f 0 2 .ro, .f 2 1 .ro, .f 3 2 .ro, .f 5 2 .ro]⟩, -- STC_CVUu_STATUS (R292)
  ⟨0x40A04008, [(0x40, 144)], (0, []), .none, 0xFFFF0000, [.f 0 16 .ro, .f 16 16 .ro]⟩, -- STC_CVUu_REFUSE (R292)
  ⟨0x40A0400C, [(0x40, 144)], (0x40A04000, [0x40]), .none, 0xD, [.f 0 2 .rwe, .f 2 1 .rwe, .f 3 8 .rwe, .f 11 21 .rwe]⟩, -- STC_CVUu_CFG (R292)
  ⟨0x40A04010, [(0x40, 144)], (0, []), .none, 0x0, [.f 0 32 .wo]⟩, -- STC_CVUu_DATA (R292)
  ⟨0x40A04014, [(0x40, 144)], (0, []), .none, 0x0, [.f 0 8 .wo, .f 8 1 .wo, .f 9 1 .wo, .f 10 1 .wo]⟩, -- STC_CVUu_CMD (R292)
  ⟨0x40A04018, [(0x40, 144)], (0, []), .none, 0x0, [.f 0 32 .ro]⟩, -- STC_CVUu_RESULT (R292)
  ⟨0x40A0401C, [(0x40, 144)], (0, []), .none, 0x0, [.f 0 32 .rw]⟩, -- STC_CVUu_EXPECT (R292)
  ⟨0x40A04020, [(0x40, 144)], (0, []), .none, 0x0, [.f 0 8 .wo, .f 8 8 .ro, .f 16 8 .ro]⟩, -- STC_CVUu_ALIVE (R292)
  ⟨0x40A04024, [(0x40, 144)], (0, []), .none, 0x0, [.f 0 16 .ro, .f 16 16 .ro]⟩, -- STC_CVUu_CNT (R292)
  ⟨0x40A04028, [(0x40, 144)], (0, []), .none, 0x0, [.f 0 16 .ro]⟩ -- STC_CVUu_CNT2 (R292)
]

/-- Registers of block PCB. -/
def regsPcb : List RegDef := [
  ⟨0x40B00100, [], (0x40B00100, []), .none, 0x0, [.f 0 1 .rw, .f 1 31 .rwe]⟩, -- PCB_CTRL (R310)
  ⟨0x40B00104, [], (0, []), .none, 0x0, [.f 0 2 .ro, .f 2 1 .ro]⟩, -- PCB_STATUS (R310)
  ⟨0x40B00108, [], (0, []), .none, 0xFFFF0000, [.f 0 16 .ro, .f 16 16 .ro]⟩, -- PCB_REFUSE (R310)
  ⟨0x40B00110, [], (0, []), .none, 0xC8, [.fc 0 10 .rw 0 1000]⟩, -- PCB_CFG (R310)
  ⟨0x40B00114, [], (0x40B00100, []), .none, 0x0, [.f 0 16 .rwe, .f 16 16 .rwe]⟩, -- PCB_ID (R310)
  ⟨0x40B00118, [], (0x40B00100, []), .none, 0x0, [.f 0 8 .rwe, .f 8 24 .rwe]⟩, -- PCB_ID2 (R310)
  ⟨0x40B00120, [], (0, []), .none, 0x0, [.f 0 6 .rw, .f 6 10 .rw]⟩, -- PCB_CFG_SEL (R310)
  ⟨0x40B00124, [], (0, []), .none, 0x0, [.f 0 32 .ro]⟩, -- PCB_CFG_DATA (R310)
  ⟨0x40B00130, [], (0, []), .none, 0x0, [.f 0 16 .ro]⟩, -- PCB_FAULT_CNT (R310)
  ⟨0x40B00134, [], (0, []), .none, 0x0, [.f 0 5 .ro, .f 5 3 .ro, .f 8 24 .ro]⟩, -- PCB_FAULT_LAST (R310)
  ⟨0x40B00138, [], (0, []), .lo, 0x0, [.f 0 32 .ro]⟩, -- PCB_FAULT_ADDR_LO (R310)
  ⟨0x40B0013C, [], (0, []), .hi, 0x0, [.f 0 32 .ro]⟩, -- PCB_FAULT_ADDR_HI (R310)
  ⟨0x40B00140, [], (0, []), .none, 0x0, [.f 0 16 .ro]⟩, -- PCB_UNEXP (R310)
  ⟨0x40B00200, [], (0, []), .none, 0x0, [.f 0 6 .rw]⟩, -- PCB_LEDGER_SEL (R310)
  ⟨0x40B00204, [], (0, []), .none, 0x0, [.f 0 5 .ro, .f 5 3 .ro, .f 8 24 .ro]⟩, -- PCB_LEDGER_INFO (R310)
  ⟨0x40B00208, [], (0, []), .none, 0x0, [.f 0 32 .ro]⟩, -- PCB_LEDGER_FIRST (R310)
  ⟨0x40B0020C, [], (0, []), .none, 0x0, [.f 0 32 .ro]⟩, -- PCB_LEDGER_COUNT (R310)
  ⟨0x40B00210, [], (0, []), .lo, 0x0, [.f 0 32 .ro]⟩, -- PCB_LEDGER_ADDR_LO (R310)
  ⟨0x40B00214, [], (0, []), .hi, 0x0, [.f 0 32 .ro]⟩, -- PCB_LEDGER_ADDR_HI (R310)
  ⟨0x40B00218, [], (0, []), .none, 0x0, [.f 0 7 .ro, .f 16 16 .ro]⟩, -- PCB_LEDGER_STATUS (R310)
  ⟨0x40B01000, [(0x40, 3)], (0x40B01000, [0x40]), .none, 0x0, [.f 0 1 .rw, .f 1 31 .rwe]⟩, -- PCBq_CTRL (R310)
  ⟨0x40B01004, [(0x40, 3)], (0, []), .none, 0x0, [.f 0 2 .ro, .f 2 1 .ro, .f 3 1 .ro, .f 4 3 .ro, .f 7 3 .ro, .f 10 6 .ro, .f 16 1 .ro]⟩, -- PCBq_STATUS (R310)
  ⟨0x40B01008, [(0x40, 3)], (0, []), .none, 0xFFFF0000, [.f 0 16 .ro, .f 16 16 .ro]⟩, -- PCBq_REFUSE (R310)
  ⟨0x40B0100C, [(0x40, 3)], (0x40B01000, [0x40]), .none, 0x0, [.f 0 12 .rwe, .f 12 20 .rwe]⟩, -- PCBq_CPL_POOL (R310)
  ⟨0x40B01010, [(0x40, 3)], (0, []), .none, 0x0, [.f 0 12 .ro]⟩, -- PCBq_MEM (R310)
  ⟨0x40B01014, [(0x40, 3)], (0, []), .none, 0x0, [.f 0 16 .ro, .f 16 16 .ro]⟩, -- PCBq_ERR (R310)
  ⟨0x40B01018, [(0x40, 3)], (0, []), .none, 0x0, [.f 0 16 .ro]⟩, -- PCBq_DOWN (R310)
  ⟨0x40B02000, [(0x40, 32)], (0x40B02000, [0x40]), .none, 0x0, [.f 0 1 .rw, .f 1 31 .rwe]⟩, -- PCB_LNKl_CTRL (R310)
  ⟨0x40B02004, [(0x40, 32)], (0, []), .none, 0x0, [.f 0 2 .ro, .f 2 1 .ro, .f 3 1 .ro, .f 4 3 .ro, .f 7 3 .ro, .f 10 1 .ro, .f 11 1 .ro]⟩, -- PCB_LNKl_STATUS (R310)
  ⟨0x40B02008, [(0x40, 32)], (0, []), .none, 0xFFFF0000, [.f 0 16 .ro, .f 16 16 .ro]⟩, -- PCB_LNKl_REFUSE (R310)
  ⟨0x40B0200C, [(0x40, 32)], (0x40B02000, [0x40]), .none, 0x3E80000, [.f 0 10 .rwe, .f 10 6 .rwe, .f 16 13 .rwe, .f 29 3 .rwe]⟩, -- PCB_LNKl_CFG (R310)
  ⟨0x40B02010, [(0x40, 32)], (0x40B02000, [0x40]), .none, 0x8020040, [.f 0 11 .rwe, .f 11 11 .rwe, .f 22 9 .rwe, .f 31 1 .rwe]⟩, -- PCB_LNKl_BUF (R310)
  ⟨0x40B02014, [(0x40, 32)], (0, []), .none, 0x0, [.f 0 9 .ro, .f 16 9 .ro]⟩, -- PCB_LNKl_OPEN (R310)
  ⟨0x40B02018, [(0x40, 32)], (0, []), .none, 0x0, [.f 0 32 .ro]⟩, -- PCB_LNKl_PSENT (R310)
  ⟨0x40B0201C, [(0x40, 32)], (0, []), .none, 0x0, [.f 0 32 .ro]⟩, -- PCB_LNKl_PDISP (R310)
  ⟨0x40B02020, [(0x40, 32)], (0, []), .none, 0x0, [.f 0 32 .ro]⟩, -- PCB_LNKl_PFAIL (R310)
  ⟨0x40B02024, [(0x40, 32)], (0, []), .none, 0x0, [.f 0 16 .ro, .f 16 16 .ro]⟩, -- PCB_LNKl_CNT (R310)
  ⟨0x40B02028, [(0x40, 32)], (0, []), .none, 0x0, [.f 0 16 .ro, .f 16 16 .ro]⟩, -- PCB_LNKl_CNT2 (R310)
  ⟨0x40B0202C, [(0x40, 32)], (0, []), .none, 0x0, [.f 0 12 .ro, .f 12 20 .ro]⟩, -- PCB_LNKl_CREDIT (R310)
  ⟨0x40B02030, [(0x40, 32)], (0, []), .none, 0x0, [.f 0 16 .ro, .f 16 16 .ro]⟩ -- PCB_LNKl_STALL (R310)
]

/-- Registers of block DPE. -/
def regsDpe : List RegDef := [
  ⟨0x40C00100, [], (0x40C00100, []), .none, 0x0, [.f 0 1 .rw, .f 1 31 .rwe]⟩, -- DPE_CTRL (R326)
  ⟨0x40C00104, [], (0, []), .none, 0x0, [.f 0 2 .ro, .f 2 1 .ro]⟩, -- DPE_STATUS (R326)
  ⟨0x40C00108, [], (0, []), .none, 0xFFFF0000, [.f 0 16 .ro, .f 16 16 .ro]⟩, -- DPE_REFUSE (R326)
  ⟨0x40C00110, [], (0, []), .none, 0x1012C, [.f 0 16 .rw, .f 16 1 .rw]⟩, -- DPE_LEARN_CFG (R326)
  ⟨0x40C00114, [], (0, []), .none, 0x0, [.f 0 13 .ro, .f 16 16 .ro]⟩, -- DPE_LEARN_STAT (R326)
  ⟨0x40C00118, [], (0, []), .none, 0x0, [.f 0 16 .ro, .f 16 16 .ro]⟩, -- DPE_LEARN_STAT2 (R326)
  ⟨0x40C0011C, [], (0, []), .none, 0x0, [.f 0 10 .rw, .f 10 1 .rw, .f 11 1 .sc]⟩, -- DPE_LEARN_FLUSH (R326)
  ⟨0x40C01000, [(0x40, 3)], (0x40C01000, [0x40]), .none, 0x16, [.f 0 1 .rw, .f 1 2 .rwe, .f 3 2 .rwe, .f 5 1 .rwe, .f 6 1 .rwe, .f 7 7 .rwe, .f 14 18 .rwe]⟩, -- DPE_DPq_CTRL (R326)
  ⟨0x40C01004, [(0x40, 3)], (0, []), .none, 0x0, [.f 0 2 .ro, .f 2 1 .ro, .f 3 1 .ro, .f 4 1 .ro, .f 5 1 .ro, .f 6 1 .ro]⟩, -- DPE_DPq_STATUS (R326)
  ⟨0x40C01008, [(0x40, 3)], (0, []), .none, 0xFFFF0000, [.f 0 16 .ro, .f 16 16 .ro]⟩, -- DPE_DPq_REFUSE (R326)
  ⟨0x40C0100C, [(0x40, 3)], (0, []), .none, 0x0, [.f 0 27 .ro]⟩, -- DPE_DPq_DRATE (R326)
  ⟨0x40C01010, [(0x40, 3)], (0, []), .none, 0x0, [.f 0 16 .ro, .f 16 16 .ro]⟩, -- DPE_DPq_TIMING (R326)
  ⟨0x40C01014, [(0x40, 3)], (0, []), .none, 0x0, [.f 0 32 .ro]⟩, -- DPE_DPq_ERR (R326)
  ⟨0x40C01018, [(0x40, 3)], (0, []), .none, 0x0, [.f 0 16 .ro, .f 16 16 .ro]⟩, -- DPE_DPq_CNT (R326)
  ⟨0x40C0101C, [(0x40, 3)], (0, []), .none, 0x0, [.f 0 16 .ro, .f 16 16 .ro]⟩, -- DPE_DPq_CNT2 (R326)
  ⟨0x40C01020, [(0x40, 3)], (0, []), .none, 0x8, [.fc 0 8 .rw 1 255]⟩, -- DPE_DPq_AUX (R326)
  ⟨0x40C01800, [(0x40, 3)], (0x40C01800, [0x40]), .none, 0x8, [.f 0 1 .rw, .f 1 2 .rwe, .f 3 1 .rwe, .f 4 28 .rwe]⟩, -- DPE_ETHq_CTRL (R326)
  ⟨0x40C01804, [(0x40, 3)], (0, []), .none, 0x0, [.f 0 2 .ro, .f 2 1 .ro, .f 3 4 .ro]⟩, -- DPE_ETHq_STATUS (R326)
  ⟨0x40C01808, [(0x40, 3)], (0, []), .none, 0xFFFF0000, [.f 0 16 .ro, .f 16 16 .ro]⟩, -- DPE_ETHq_REFUSE (R326)
  ⟨0x40C02000, [(0x20, 12)], (0, []), .none, 0x0, [.f 0 10 .rw, .f 10 1 .rw]⟩, -- DPE_MACm_DEFAULT (R326)
  ⟨0x40C02004, [(0x20, 12)], (0, []), .none, 0x0, [.f 0 16 .ro, .f 16 16 .ro]⟩, -- DPE_MACm_CNT (R326)
  ⟨0x40C02008, [(0x20, 12)], (0, []), .none, 0x0, [.f 0 16 .ro, .f 16 16 .ro]⟩, -- DPE_MACm_CNT2 (R326)
  ⟨0x40C0200C, [(0x20, 12)], (0, []), .none, 0x0, [.f 0 16 .ro]⟩, -- DPE_MACm_CNT3 (R326)
  ⟨0x40C03000, [(0x100, 3), (0x4, 64)], (0x40C01800, [0x40, 0x0]), .none, 0x0, [.f 0 12 .rwe, .f 12 2 .rwe, .f 14 10 .rwe, .f 24 1 .rwe, .f 25 1 .rwe, .f 26 6 .rwe]⟩ -- DPE_VMAPq_v (R326)
]

/-- Registers of block TCP. -/
def regsTcp : List RegDef := [
  ⟨0x50000100, [], (0x50000100, []), .none, 0x0, [.f 0 1 .rw, .f 1 31 .rwe]⟩, -- TCP_CTRL (R350)
  ⟨0x50000104, [], (0, []), .none, 0x0, [.f 0 2 .ro, .f 2 1 .ro, .f 3 1 .ro, .f 4 1 .ro]⟩, -- TCP_STATUS (R350)
  ⟨0x50000108, [], (0, []), .none, 0xFFFF0000, [.f 0 16 .ro, .f 16 16 .ro]⟩, -- TCP_REFUSE (R350)
  ⟨0x50000110, [], (0x50000100, []), .none, 0x0, [.f 0 13 .rwe, .f 13 19 .rwe]⟩, -- TCP_BOARD (R350)
  ⟨0x50000114, [], (0x50000100, []), .none, 0x0, [.f 0 16 .rwe, .f 16 16 .rwe]⟩, -- TCP_ALT_ID (R350)
  ⟨0x50000118, [], (0, []), .none, 0x0, [.f 0 1 .wo]⟩, -- TCP_BUDGET_CMD (R350)
  ⟨0x5000011C, [], (0, []), .none, 0xFFFF0000, [.f 0 16 .ro, .f 16 16 .ro]⟩, -- TCP_BUDGET_RESULT (R350)
  ⟨0x50000120, [], (0, []), .none, 0x0, [.f 0 6 .w1c]⟩, -- TCP_EVENT_PORTS (R350)
  ⟨0x50000124, [], (0, []), .none, 0x0, [.f 0 13 .ro]⟩, -- TCP_LIVE_SUM (R350)
  ⟨0x50000140, [(0x4, 6)], (0, []), .none, 0x0, [.f 0 10 .rw]⟩, -- TCP_BSTAGEn (R350)
  ⟨0x50000160, [(0x4, 6)], (0, []), .none, 0x0, [.f 0 10 .ro, .f 10 10 .ro]⟩, -- TCP_BLIVEn (R350)
  ⟨0x50001000, [(0x100, 6)], (0x50001000, [0x100]), .none, 0x0, [.f 0 1 .rw, .f 1 2 .rwe, .f 3 2 .rwe, .f 5 1 .rwe, .f 6 1 .rwe, .f 7 1 .rwe, .f 8 1 .rwe, .f 9 1 .ro, .f 10 1 .rwe, .f 11 21 .rwe]⟩, -- TCP_PORTn_CTRL (R350)
  ⟨0x50001004, [(0x100, 6)], (0, []), .none, 0x0, [.f 0 2 .ro, .f 2 1 .ro, .f 3 4 .ro, .f 7 1 .ro, .f 8 1 .ro, .f 9 1 .ro, .f 10 2 .ro, .f 12 1 .ro, .f 13 1 .ro, .f 14 1 .ro, .f 15 1 .ro, .f 16 1 .ro]⟩, -- TCP_PORTn_STATUS (R350)
  ⟨0x50001008, [(0x100, 6)], (0, []), .none, 0xFFFF0000, [.f 0 16 .ro, .f 16 16 .ro]⟩, -- TCP_PORTn_REFUSE (R350)
  ⟨0x5000100C, [(0x100, 6)], (0, []), .none, 0x0, [.f 0 2 .rw, .f 2 2 .rw]⟩, -- TCP_PORTn_POLICY (R350)
  ⟨0x50001010, [(0x100, 6)], (0, []), .none, 0x0, [.f 0 2 .ro, .f 2 1 .wo, .f 3 1 .wo]⟩, -- TCP_PORTn_ASK (R350)
  ⟨0x50001014, [(0x100, 6)], (0, []), .none, 0x324B2864, [.fc 0 10 .rw 10 1000, .f 10 6 .rw, .fc 16 8 .rw 50 100, .fc 24 7 .rw 30 70]⟩, -- TCP_PORTn_TMR (R350)
  ⟨0x50001018, [(0x100, 6)], (0, []), .none, 0xC86A, [.fc 0 5 .rw 10 20, .fc 5 4 .rw 1 15, .fc 9 10 .rw 10 1000]⟩, -- TCP_PORTn_TMR2 (R350)
  ⟨0x5000101C, [(0x100, 6)], (0, []), .none, 0x0, [.f 0 4 .wo]⟩, -- TCP_PORTn_CMD (R350)
  ⟨0x50001020, [(0x100, 6)], (0, []), .none, 0xFFFF0000, [.f 0 16 .ro, .f 16 16 .ro]⟩, -- TCP_PORTn_CMD_STATUS (R350)
  ⟨0x50001024, [(0x100, 6)], (0x50001000, [0x100]), .none, 0x0, [.f 0 10 .rwe, .f 10 10 .rwe, .f 20 12 .rwe]⟩, -- TCP_PORTn_SINK (R350)
  ⟨0x50001030, [(0x100, 6), (0x4, 11)], (0x50001000, [0x100, 0x0]), .none, 0x0, [.f 0 32 .rwe]⟩, -- TCP_PORTn_PDO0–10 (R350)
  ⟨0x50001060, [(0x100, 6)], (0, []), .none, 0x0, [.f 0 10 .ro, .f 10 10 .ro, .f 20 4 .ro, .f 24 1 .ro]⟩, -- TCP_PORTn_CONTRACT (R350)
  ⟨0x50001064, [(0x100, 6)], (0, []), .none, 0x0, [.f 0 1 .ro, .f 1 3 .ro, .f 4 1 .ro, .f 5 1 .ro]⟩, -- TCP_PORTn_CABLE (R350)
  ⟨0x50001068, [(0x100, 6)], (0, []), .none, 0x0, [.f 0 32 .ro]⟩, -- TCP_PORTn_PARTNER_VDO (R350)
  ⟨0x5000106C, [(0x100, 6)], (0, []), .none, 0x0, [.f 0 10 .ro, .f 10 2 .ro, .f 12 4 .ro]⟩, -- TCP_PORTn_MOIST (R350)
  ⟨0x50001070, [(0x100, 6)], (0, []), .none, 0x0, [.f 0 16 .ro, .f 16 16 .ro]⟩, -- TCP_PORTn_CNT (R350)
  ⟨0x50001074, [(0x100, 6)], (0, []), .none, 0x0, [.f 0 16 .ro, .f 16 16 .ro]⟩, -- TCP_PORTn_CNT2 (R350)
  ⟨0x50001078, [(0x100, 6)], (0, []), .none, 0x0, [.f 0 16 .ro, .f 16 16 .ro]⟩, -- TCP_PORTn_CNT3 (R350)
  ⟨0x5000107C, [(0x100, 6)], (0, []), .none, 0x0, [.f 0 16 .ro, .f 16 16 .ro]⟩ -- TCP_PORTn_CNT4 (R350)
]

/-- Registers of block USB. -/
def regsUsb : List RegDef := [
  ⟨0x50100100, [], (0x50100100, []), .none, 0x0, [.f 0 1 .rw, .f 1 31 .rwe]⟩, -- USB_CTRL (R368)
  ⟨0x50100104, [], (0, []), .none, 0x0, [.f 0 2 .ro, .f 2 1 .ro, .f 3 1 .ro, .f 4 1 .ro]⟩, -- USB_STATUS (R368)
  ⟨0x50100108, [], (0, []), .none, 0xFFFF0000, [.f 0 16 .ro, .f 16 16 .ro]⟩, -- USB_REFUSE (R368)
  ⟨0x50100110, [], (0x50100100, []), .none, 0x0, [.f 0 3 .rwe, .f 3 29 .rwe]⟩, -- USB_CFG (R368)
  ⟨0x50100114, [], (0x50100100, []), .none, 0x0, [.f 0 16 .rwe, .f 16 16 .rwe]⟩, -- USB_ID (R368)
  ⟨0x50100118, [], (0x50100100, []), .none, 0x0, [.f 0 16 .rwe, .f 16 16 .rwe]⟩, -- USB_ID2 (R368)
  ⟨0x5010011C, [], (0, []), .none, 0x0, [.f 0 3 .ro, .f 3 11 .ro]⟩, -- USB_FRAME (R368)
  ⟨0x50100120, [], (0, []), .none, 0x14, [.fc 0 8 .rw 1 255]⟩, -- USB_RMT_CFG (R368)
  ⟨0x50101020, [(0x20, 6)], (0x50100100, [0x0]), .none, 0x0, [.f 0 1 .rwe, .f 1 10 .rwe, .f 11 21 .rwe]⟩, -- USB_PORTk_CFG (R368)
  ⟨0x50101024, [(0x20, 6)], (0, []), .none, 0x0, [.f 0 1 .ro, .f 1 2 .ro, .f 3 1 .ro, .f 4 1 .ro, .f 5 1 .ro, .f 6 1 .ro, .f 7 1 .ro]⟩, -- USB_PORTk_STATUS (R368)
  ⟨0x50101028, [(0x20, 6)], (0, []), .none, 0x0, [.f 0 16 .ro, .f 16 16 .ro]⟩, -- USB_PORTk_CNT (R368)
  ⟨0x5010102C, [(0x20, 6)], (0, []), .none, 0x0, [.f 0 12 .ro, .f 12 10 .ro, .f 22 10 .ro]⟩, -- USB_PORTk_CNT2 (R368)
  ⟨0x50102000, [], (0, []), .none, 0x0, [.f 0 7 .ro, .f 7 1 .ro, .f 8 2 .ro, .f 10 2 .ro, .f 12 1 .ro, .f 13 1 .ro]⟩, -- USB_DEV_STATUS (R368)
  ⟨0x50102004, [], (0, []), .none, 0x0, [.f 0 16 .ro, .f 16 16 .ro]⟩, -- USB_DEV_CNT (R368)
  ⟨0x50102100, [], (0, []), .none, 0x0, [.f 0 3 .ro, .f 3 10 .ro, .f 13 1 .ro, .f 14 1 .w1c]⟩, -- USB_MBX_STATUS (R368)
  ⟨0x50102104, [], (0, []), .none, 0x0, [.f 0 1 .wo]⟩, -- USB_MBX_RX_POP (R368)
  ⟨0x50102108, [], (0, []), .none, 0x0, [.f 0 10 .rw, .f 10 1 .sc]⟩, -- USB_MBX_TX_CTRL (R368)
  ⟨0x50102200, [(0x4, 128)], (0, []), .none, 0x0, [.f 0 32 .ro]⟩, -- USB_MBX_RXD0–127 (R368)
  ⟨0x50102400, [(0x4, 128)], (0, []), .none, 0x0, [.f 0 32 .rw]⟩, -- USB_MBX_TXD0–127 (R368)
  ⟨0x50102800, [], (0, []), .none, 0x0, [.f 0 5 .ro, .f 5 5 .ro]⟩, -- USB_AUD_STATUS (R368)
  ⟨0x50102804, [], (0, []), .none, 0x0, [.f 0 32 .ro]⟩, -- USB_AUD_FB (R368)
  ⟨0x50102808, [], (0, []), .none, 0x0, [.f 0 16 .ro]⟩, -- USB_AUD_CNT (R368)
  ⟨0x50103000, [], (0, []), .none, 0x0, [.f 0 1 .rw]⟩, -- USB_HC_CTRL (R368)
  ⟨0x50103004, [], (0, []), .none, 0x1, [.f 0 1 .ro]⟩, -- USB_HC_STATUS (R368)
  ⟨0x50103100, [(0x20, 16)], (0, []), .none, 0x60100000, [.f 0 7 .rw, .f 7 4 .rw, .f 11 1 .rw, .f 12 2 .rw, .f 14 11 .rw, .f 25 4 .rw, .f 29 2 .rw]⟩, -- USB_PIPEp_CFG (R368)
  ⟨0x50103104, [(0x20, 16)], (0, []), .none, 0x0, [.f 0 7 .rw, .f 7 3 .rw]⟩, -- USB_PIPEp_CFG2 (R368)
  ⟨0x50103108, [(0x20, 16)], (0, []), .none, 0x0, [.f 0 16 .rw, .f 16 16 .rw]⟩, -- USB_PIPEp_BUF (R368)
  ⟨0x5010310C, [(0x20, 16)], (0, []), .none, 0x0, [.f 0 1 .wo, .f 1 1 .wo, .f 2 1 .wo]⟩, -- USB_PIPEp_CMD (R368)
  ⟨0x50103110, [(0x20, 16)], (0, []), .none, 0x0, [.f 0 1 .ro, .f 1 1 .ro, .f 2 2 .ro, .f 4 16 .ro]⟩ -- USB_PIPEp_STATUS (R368)
]

/-- Registers of block PGT. -/
def regsPgt : List RegDef := [
  ⟨0x50200100, [], (0, []), .none, 0x0, [.f 0 1 .ro, .f 1 1 .ro, .f 2 1 .ro, .f 3 1 .ro]⟩, -- PGT_STATUS (R383)
  ⟨0x50200104, [], (0, []), .none, 0x0, [.f 0 7 .w1c]⟩, -- PGT_EVENT_GATES (R383)
  ⟨0x50201000, [], (0x50201000, []), .none, 0x3, [.f 0 1 .rw, .f 1 1 .rw, .f 2 1 .rwe, .f 3 1 .rwe, .f 4 1 .rwe, .f 5 1 .rwe, .f 6 1 .rwe, .f 7 25 .rwe]⟩, -- PGT_GATEn_CTRL (R383)
  ⟨0x50201080, [(0x80, 6)], (0x50201080, [0x80]), .none, 0x0, [.f 0 1 .rw, .f 1 1 .rw, .f 2 1 .rwe, .f 3 1 .rwe, .f 4 1 .rwe, .f 5 1 .rwe, .f 6 1 .rwe, .f 7 25 .rwe]⟩, -- PGT_GATEn_CTRL (R383)
  ⟨0x50201004, [], (0, []), .none, 0x0, [.f 0 2 .ro, .f 2 1 .ro, .f 3 4 .ro, .f 7 1 .ro, .f 8 1 .ro, .f 9 1 .ro, .f 10 1 .ro, .f 11 4 .ro]⟩, -- PGT_GATEn_STATUS (R383)
  ⟨0x50201084, [(0x80, 6)], (0, []), .none, 0x0, [.f 0 2 .ro, .f 2 1 .ro, .f 3 4 .ro, .f 7 1 .ro, .f 8 1 .ro, .f 9 1 .ro, .f 10 1 .ro, .f 11 4 .ro]⟩, -- PGT_GATEn_STATUS (R383)
  ⟨0x50201008, [], (0, []), .none, 0xFFFF0000, [.f 0 16 .ro, .f 16 16 .ro]⟩, -- PGT_GATEn_REFUSE (R383)
  ⟨0x50201088, [(0x80, 6)], (0, []), .none, 0xFFFF0000, [.f 0 16 .ro, .f 16 16 .ro]⟩, -- PGT_GATEn_REFUSE (R383)
  ⟨0x5020100C, [], (0x50201000, []), .none, 0x14058, [.f 0 10 .rwe, .f 10 10 .rwe, .f 20 12 .rwe]⟩, -- PGT_GATEn_WIN_UV (R383)
  ⟨0x5020108C, [(0x80, 6)], (0x50201080, [0x80]), .none, 0x14058, [.f 0 10 .rwe, .f 10 10 .rwe, .f 20 12 .rwe]⟩, -- PGT_GATEn_WIN_UV (R383)
  ⟨0x50201010, [], (0x50201000, []), .none, 0x98A76, [.f 0 10 .rwe, .f 10 10 .rwe, .f 20 12 .rwe]⟩, -- PGT_GATEn_WIN_OV (R383)
  ⟨0x50201090, [(0x80, 6)], (0x50201080, [0x80]), .none, 0x98A76, [.f 0 10 .rwe, .f 10 10 .rwe, .f 20 12 .rwe]⟩, -- PGT_GATEn_WIN_OV (R383)
  ⟨0x50201014, [], (0x50201000, []), .none, 0x323E8064, [.f 0 12 .rwe, .f 12 12 .rwe, .f 24 8 .rwe]⟩, -- PGT_GATEn_TIMING (R383)
  ⟨0x50201094, [(0x80, 6)], (0x50201080, [0x80]), .none, 0x323E8064, [.f 0 12 .rwe, .f 12 12 .rwe, .f 24 8 .rwe]⟩, -- PGT_GATEn_TIMING (R383)
  ⟨0x50201018, [], (0x50201000, []), .none, 0xA1900A, [.f 0 10 .rwe, .f 10 10 .rwe, .f 20 7 .rwe, .f 27 5 .rwe]⟩, -- PGT_GATEn_RAMP (R383)
  ⟨0x50201098, [(0x80, 6)], (0x50201080, [0x80]), .none, 0xA0500A, [.f 0 10 .rwe, .f 10 10 .rwe, .f 20 7 .rwe, .f 27 5 .rwe]⟩, -- PGT_GATEn_RAMP (R383)
  ⟨0x5020101C, [], (0x50201000, []), .none, 0xFA03E8, [.f 0 13 .rwe, .f 13 16 .rwe, .f 29 3 .rwe]⟩, -- PGT_GATEn_LIMIT (R383)
  ⟨0x5020109C, [(0x80, 6)], (0x50201080, [0x80]), .none, 0xFA03E8, [.f 0 13 .rwe, .f 13 16 .rwe, .f 29 3 .rwe]⟩, -- PGT_GATEn_LIMIT (R383)
  ⟨0x50201020, [], (0x50201000, []), .none, 0x32, [.f 0 14 .rwe, .f 14 18 .rwe]⟩, -- PGT_GATEn_I2T (R383)
  ⟨0x502010A0, [(0x80, 6)], (0x50201080, [0x80]), .none, 0x32, [.f 0 14 .rwe, .f 14 18 .rwe]⟩, -- PGT_GATEn_I2T (R383)
  ⟨0x50201024, [], (0x50201000, []), .none, 0x7D06400, [.f 0 8 .rwe, .f 8 10 .rwe, .f 18 10 .rwe, .f 28 4 .rwe]⟩, -- PGT_GATEn_RETRY (R383)
  ⟨0x502010A4, [(0x80, 6)], (0x50201080, [0x80]), .none, 0x7D06400, [.f 0 8 .rwe, .f 8 10 .rwe, .f 18 10 .rwe, .f 28 4 .rwe]⟩, -- PGT_GATEn_RETRY (R383)
  ⟨0x50201028, [], (0, []), .none, 0x0, [.f 0 1 .wo, .f 1 1 .wo]⟩, -- PGT_GATEn_CMD (R383)
  ⟨0x502010A8, [(0x80, 6)], (0, []), .none, 0x0, [.f 0 1 .wo, .f 1 1 .wo]⟩, -- PGT_GATEn_CMD (R383)
  ⟨0x5020102C, [], (0, []), .none, 0x0, [.f 0 10 .ro, .f 10 10 .ro, .f 20 8 .ro]⟩, -- PGT_GATEn_VMEAS (R383)
  ⟨0x502010AC, [(0x80, 6)], (0, []), .none, 0x0, [.f 0 10 .ro, .f 10 10 .ro, .f 20 8 .ro]⟩, -- PGT_GATEn_VMEAS (R383)
  ⟨0x50201030, [], (0, []), .none, 0x0, [.f 0 13 .ro, .f 13 7 .ro]⟩, -- PGT_GATEn_IMEAS (R383)
  ⟨0x502010B0, [(0x80, 6)], (0, []), .none, 0x0, [.f 0 13 .ro, .f 13 7 .ro]⟩, -- PGT_GATEn_IMEAS (R383)
  ⟨0x50201034, [], (0, []), .none, 0x0, [.f 0 8 .ro, .f 8 24 .ro]⟩, -- PGT_GATEn_ATTEMPT (R383)
  ⟨0x502010B4, [(0x80, 6)], (0, []), .none, 0x0, [.f 0 8 .ro, .f 8 24 .ro]⟩, -- PGT_GATEn_ATTEMPT (R383)
  ⟨0x50201038, [], (0, []), .none, 0x0, [.f 0 20 .ro]⟩, -- PGT_GATEn_WAIT (R383)
  ⟨0x502010B8, [(0x80, 6)], (0, []), .none, 0x0, [.f 0 20 .ro]⟩, -- PGT_GATEn_WAIT (R383)
  ⟨0x5020103C, [], (0, []), .none, 0x0, [.f 0 16 .ro, .f 16 16 .ro]⟩, -- PGT_GATEn_CNT (R383)
  ⟨0x502010BC, [(0x80, 6)], (0, []), .none, 0x0, [.f 0 16 .ro, .f 16 16 .ro]⟩, -- PGT_GATEn_CNT (R383)
  ⟨0x50201040, [], (0, []), .none, 0x0, [.f 0 16 .ro, .f 16 16 .ro]⟩, -- PGT_GATEn_CNT2 (R383)
  ⟨0x502010C0, [(0x80, 6)], (0, []), .none, 0x0, [.f 0 16 .ro, .f 16 16 .ro]⟩, -- PGT_GATEn_CNT2 (R383)
  ⟨0x50201044, [], (0, []), .none, 0x0, [.f 0 16 .ro, .f 16 16 .ro]⟩, -- PGT_GATEn_CNT3 (R383)
  ⟨0x502010C4, [(0x80, 6)], (0, []), .none, 0x0, [.f 0 16 .ro, .f 16 16 .ro]⟩ -- PGT_GATEn_CNT3 (R383)
]

/-- Registers of block PWR. -/
def regsPwr : List RegDef := [
  ⟨0x50300100, [], (0, []), .none, 0x0, [.f 0 3 .wo, .f 3 1 .wo]⟩, -- PWR_CMD (R400)
  ⟨0x50300104, [], (0, []), .none, 0xFFFF0000, [.f 0 16 .ro, .f 16 16 .ro]⟩, -- PWR_CMD_STATUS (R400)
  ⟨0x50300108, [], (0, []), .none, 0x392, [.f 0 3 .ro, .f 3 3 .ro, .f 6 1 .ro, .f 7 1 .ro, .f 8 1 .ro, .f 9 1 .ro, .f 10 3 .ro, .f 13 3 .ro]⟩, -- PWR_STATUS (R400)
  ⟨0x5030010C, [], (0, []), .none, 0x0, [.f 0 1 .wo]⟩, -- PWR_READY (R400)
  ⟨0x50300110, [], (0, []), .none, 0x0, [.f 0 20 .ro]⟩, -- PWR_WAKE_TIME (R400)
  ⟨0x50300114, [], (0, []), .none, 0x0, [.f 0 16 .ro, .f 16 16 .ro]⟩ -- PWR_CNT (R400)
]

/-- Registers of block LAN. -/
def regsLan : List RegDef := [
  ⟨0x50400100, [], (0, []), .none, 0x0, [.f 0 1 .ro, .f 1 1 .ro, .f 2 9 .ro]⟩, -- LAN_STATUS (R401)
  ⟨0x50400104, [], (0, []), .none, 0x64, [.f 0 8 .rw, .f 8 1 .ro, .f 9 1 .wo]⟩, -- LAN_WAKE (R401)
  ⟨0x50400108, [], (0, []), .none, 0x0, [.f 0 16 .ro, .f 16 16 .ro]⟩, -- LAN_EVT_CNT (R401)
  ⟨0x50400110, [], (0, []), .none, 0x0, [.f 0 8 .ro, .f 8 8 .ro]⟩, -- LAN_CONTACTS (R401)
  ⟨0x50400200, [(0x4, 8)], (0, []), .none, 0x0, [.f 0 3 .rw, .f 3 1 .rw, .f 4 1 .rw, .f 5 1 .rw]⟩, -- LAN_STANDk (R401)
  ⟨0x50400220, [], (0, []), .none, 0x0, [.f 0 8 .w1c]⟩, -- LAN_STAND_FIRED (R401)
  ⟨0x50401000, [(0x10, 16)], (0, []), .none, 0x3, [.fc 0 3 .rw 0 6]⟩, -- LAN_ADCc_CFG (R401)
  ⟨0x50401004, [(0x10, 16)], (0, []), .none, 0x0, [.f 0 12 .ro, .f 16 12 .ro]⟩, -- LAN_ADCc_VALUE (R401)
  ⟨0x50401800, [(0x10, 8)], (0, []), .none, 0x140, [.f 0 1 .rw, .f 1 1 .rw, .f 2 2 .rw, .fc 4 8 .rw 1 255]⟩, -- LAN_CONi_CFG (R401)
  ⟨0x50401804, [(0x10, 8)], (0, []), .none, 0x0, [.f 0 1 .ro, .f 1 1 .ro, .f 2 2 .ro, .f 4 16 .ro]⟩, -- LAN_CONi_STATUS (R401)
  ⟨0x50401808, [(0x10, 8)], (0, []), .none, 0x0, [.f 0 16 .ro, .f 16 16 .ro]⟩, -- LAN_CONi_CNT (R401)
  ⟨0x50402000, [(0x20, 32)], (0x50402000, [0x20]), .none, 0x0, [.f 0 1 .rw, .f 1 31 .rwe]⟩, -- LAN_RULEr_CTRL (R401)
  ⟨0x50402004, [(0x20, 32)], (0, []), .none, 0x0, [.f 0 2 .ro, .f 2 1 .ro, .f 3 1 .ro, .f 4 1 .ro]⟩, -- LAN_RULEr_STATUS (R401)
  ⟨0x50402008, [(0x20, 32)], (0, []), .none, 0xFFFF0000, [.f 0 16 .ro, .f 16 16 .ro]⟩, -- LAN_RULEr_REFUSE (R401)
  ⟨0x5040200C, [(0x20, 32)], (0x50402000, [0x20]), .none, 0x0, [.f 0 6 .rwe, .f 6 3 .rwe, .f 9 1 .rwe, .f 10 5 .rwe, .f 15 1 .rwe, .f 16 1 .rwe, .f 17 1 .rwe, .f 18 3 .rwe, .f 21 1 .rwe, .f 22 10 .rwe]⟩, -- LAN_RULEr_CFG (R401)
  ⟨0x50402010, [(0x20, 32)], (0x50402000, [0x20]), .none, 0x0, [.f 0 12 .rwe, .f 12 12 .rwe, .f 24 8 .rwe]⟩, -- LAN_RULEr_THR (R401)
  ⟨0x50402014, [(0x20, 32)], (0x50402000, [0x20]), .none, 0x0, [.f 0 16 .rwe, .f 16 16 .rwe]⟩, -- LAN_RULEr_HOLD (R401)
  ⟨0x50402018, [(0x20, 32)], (0, []), .none, 0x0, [.f 0 16 .ro, .f 16 16 .ro]⟩ -- LAN_RULEr_CNT (R401)
]

/-- Registers of block KEY. -/
def regsKey : List RegDef := [
  ⟨0x40D00100, [], (0x40D00100, []), .none, 0x0, [.f 0 1 .rw, .f 1 31 .rwe]⟩, -- KEY_CTRL (R426)
  ⟨0x40D00104, [], (0, []), .none, 0x0, [.f 0 2 .ro, .f 2 1 .ro, .f 3 2 .ro, .f 5 1 .ro, .f 6 1 .ro, .f 7 1 .ro, .f 8 1 .ro, .f 9 1 .ro]⟩, -- KEY_STATUS (R426)
  ⟨0x40D00108, [], (0, []), .none, 0xFFFF0000, [.f 0 16 .ro, .f 16 16 .ro]⟩, -- KEY_REFUSE (R426)
  ⟨0x40D00110, [(0x4, 4)], (0, []), .none, 0x0, [.f 0 32 .ro]⟩, -- KEY_UID0–3 (R426)
  ⟨0x40D00120, [(0x4, 12)], (0, []), .none, 0x0, [.f 0 32 .ro]⟩, -- KEY_OWNER0–11 (R426)
  ⟨0x40D00150, [], (0, []), .none, 0x0, [.f 0 2 .rw]⟩, -- KEY_MR_SEL (R426)
  ⟨0x40D00154, [(0x4, 12)], (0, []), .none, 0x0, [.f 0 32 .ro]⟩, -- KEY_MR_WORD0–11 (R426)
  ⟨0x40D00184, [], (0, []), .none, 0x0, [.f 0 32 .ro]⟩, -- KEY_MR_CNT (R426)
  ⟨0x40D00188, [], (0, []), .none, 0x0, [.f 0 1 .ro, .f 1 1 .w1s]⟩, -- KEY_MR_LOCK (R426)
  ⟨0x40D0018C, [], (0, []), .none, 0x0, [.f 0 2 .rw, .f 2 1 .sc]⟩, -- KEY_MR_EXT (R426)
  ⟨0x40D00190, [(0x4, 12)], (0, []), .none, 0x0, [.f 0 32 .rw]⟩, -- KEY_MR_DIGEST0–11 (R426)
  ⟨0x40D001C0, [], (0, []), .none, 0x0, [.f 0 32 .ro]⟩, -- KEY_ATT_CNT (R426)
  ⟨0x40D001C4, [], (0, []), .none, 0x0, [.f 0 16 .ro, .f 16 2 .ro]⟩, -- KEY_MR_STATUS (R426)
  ⟨0x40D00200, [], (0, []), .none, 0x0, [.f 0 6 .rw, .f 6 7 .rw, .f 13 2 .rw, .f 15 4 .rw, .f 19 4 .rw]⟩, -- KEY_OP_CFG (R426)
  ⟨0x40D00204, [], (0, []), .none, 0x0, [.f 0 32 .rw]⟩, -- KEY_OP_IN (R426)
  ⟨0x40D00208, [], (0, []), .none, 0x0, [.f 0 24 .rw]⟩, -- KEY_OP_LEN (R426)
  ⟨0x40D0020C, [], (0, []), .none, 0x0, [.f 0 32 .rw]⟩, -- KEY_OP_OUT (R426)
  ⟨0x40D00210, [], (0, []), .none, 0x0, [.f 0 4 .wo]⟩, -- KEY_OP_GO (R426)
  ⟨0x40D00214, [], (0, []), .none, 0x0, [.f 0 16 .ro, .f 16 4 .ro, .f 20 1 .ro]⟩, -- KEY_OP_STATUS (R426)
  ⟨0x40D00218, [], (0, []), .none, 0x0, [.f 0 24 .ro]⟩, -- KEY_OP_OUTLEN (R426)
  ⟨0x40D00220, [], (0, []), .none, 0x0, [.f 0 2 .wo]⟩, -- KEY_LC_CMD (R426)
  ⟨0x40D00224, [], (0, []), .none, 0x0, [.f 0 16 .ro]⟩, -- KEY_LC_STATUS (R426)
  ⟨0x40D00300, [], (0, []), .none, 0x0, [.f 0 6 .rw]⟩, -- KEY_SLOT_SEL (R426)
  ⟨0x40D00304, [], (0, []), .none, 0x0, [.f 0 2 .ro, .f 2 2 .ro, .f 4 4 .ro, .f 8 4 .ro, .f 12 7 .ro, .f 19 6 .ro]⟩, -- KEY_SLOT_INFO (R426)
  ⟨0x40D00310, [], (0, []), .lo, 0x0, [.f 0 32 .ro]⟩, -- KEY_VALID_LO/HI (R426)
  ⟨0x40D00314, [], (0, []), .hi, 0x0, [.f 0 32 .ro]⟩, -- KEY_VALID_LO/HI (R426)
  ⟨0x40D00318, [], (0, []), .lo, 0x0, [.f 0 32 .w1c]⟩, -- KEY_REVOKED_LO/HI (R426)
  ⟨0x40D0031C, [], (0, []), .hi, 0x0, [.f 0 32 .w1c]⟩, -- KEY_REVOKED_LO/HI (R426)
  ⟨0x40D00500, [(0x4, 24)], (0, []), .none, 0x0, [.f 0 32 .ro]⟩, -- KEY_DEVPUB0–23 (R426)
  ⟨0x40D00560, [(0x4, 24)], (0, []), .none, 0x0, [.f 0 32 .ro]⟩, -- KEY_DEVCERT0–23 (R426)
  ⟨0x40D01000, [(0x40, 2)], (0, []), .none, 0x14, [.f 0 1 .rw, .fc 1 8 .rw 2 255]⟩, -- KEY_LINKt_CFG (R426)
  ⟨0x40D01004, [(0x40, 2)], (0, []), .none, 0x0, [.f 0 2 .ro, .f 2 4 .ro, .f 6 1 .ro, .f 7 1 .ro]⟩, -- KEY_LINKt_STATUS (R426)
  ⟨0x40D01008, [(0x40, 2), (0x4, 4)], (0, []), .none, 0x0, [.f 0 32 .ro]⟩, -- KEY_LINKt_PEER_UID0–3 (R426)
  ⟨0x40D01018, [(0x40, 2)], (0, []), .none, 0x0, [.f 0 16 .ro, .f 16 16 .ro]⟩, -- KEY_LINKt_CNT (R426)
  ⟨0x40D0101C, [(0x40, 2)], (0, []), .none, 0x0, [.f 0 16 .ro, .f 16 16 .ro]⟩, -- KEY_LINKt_CNT2 (R426)
  ⟨0x40D01020, [(0x40, 2)], (0, []), .none, 0x0, [.f 0 16 .ro, .f 16 16 .ro]⟩ -- KEY_LINKt_CNT3 (R426)
]

/-- Registers of block TMP. -/
def regsTmp : List RegDef := [
  ⟨0x50500100, [], (0x50500100, []), .none, 0x1, [.f 0 1 .rw, .f 1 31 .rwe]⟩, -- TMP_CTRL (R427)
  ⟨0x50500104, [], (0, []), .none, 0x0, [.f 0 2 .ro, .f 2 1 .ro, .f 3 1 .ro, .f 4 1 .ro, .f 5 6 .ro]⟩, -- TMP_STATUS (R427)
  ⟨0x50500108, [], (0, []), .none, 0xFFFF0000, [.f 0 16 .ro, .f 16 16 .ro]⟩, -- TMP_REFUSE (R427)
  ⟨0x50500110, [], (0x50500100, []), .none, 0xF000, [.f 0 12 .rwe, .f 12 6 .rwe, .f 18 14 .rwe]⟩, -- TMP_RESP (R427)
  ⟨0x50500114, [], (0x50500100, []), .none, 0x1E, [.f 0 8 .rwe, .f 8 24 .rwe]⟩, -- TMP_VOLT (R427)
  ⟨0x50500118, [], (0x50500100, []), .none, 0x78CE, [.f 0 8 .rwe, .f 8 8 .rwe, .f 16 16 .rwe]⟩, -- TMP_TEMP (R427)
  ⟨0x5050011C, [], (0x50500100, []), .none, 0x2, [.f 0 4 .rwe, .f 4 28 .rwe]⟩, -- TMP_CLK (R427)
  ⟨0x50500120, [(0x4, 2)], (0x50500100, [0x0]), .none, 0x0, [.f 0 1 .rwe, .f 1 1 .rwe, .f 2 16 .rwe, .f 18 14 .rwe]⟩, -- TMP_MESHn_CFG (R427)
  ⟨0x50500130, [], (0, []), .none, 0x0, [.f 0 6 .w1c]⟩, -- TMP_EVENTS (R427)
  ⟨0x50500134, [], (0, []), .none, 0x0, [.f 0 1 .wo]⟩, -- TMP_CLEAR (R427)
  ⟨0x50500138, [], (0, []), .none, 0x0, [.f 0 3 .ro, .f 3 2 .ro, .f 5 2 .ro, .f 7 25 .ro]⟩, -- TMP_LAST (R427)
  ⟨0x5050013C, [], (0, []), .none, 0x0, [.f 0 16 .ro, .f 16 16 .ro]⟩, -- TMP_CNT (R427)
  ⟨0x50500140, [], (0, []), .none, 0x0, [.f 0 8 .ro]⟩ -- TMP_TEMP_NOW (R427)
]

/-- Registers of block CNT. -/
def regsCnt : List RegDef := [
  ⟨0x40E00100, [], (0x40E00100, []), .none, 0x0, [.f 0 1 .rw, .f 1 1 .rwe, .f 2 1 .rw, .f 3 29 .rwe]⟩, -- CNT_CTRL (R450)
  ⟨0x40E00104, [], (0, []), .none, 0x0, [.f 0 2 .ro, .f 2 1 .ro, .f 3 1 .ro]⟩, -- CNT_STATUS (R450)
  ⟨0x40E00108, [], (0, []), .none, 0xFFFF0000, [.f 0 16 .ro, .f 16 16 .ro]⟩, -- CNT_REFUSE (R450)
  ⟨0x40E00110, [], (0x40E00100, []), .none, 0x1F40, [.f 0 24 .rwe, .f 24 8 .rwe]⟩, -- CNT_DUMP_PERIOD (R450)
  ⟨0x40E00114, [], (0x40E00100, []), .none, 0x0, [.f 0 24 .rwe, .f 24 8 .rwe]⟩, -- CNT_DUMP_PHASE (R450)
  ⟨0x40E00118, [], (0x40E00100, []), .lo, 0x0, [.f 0 32 .rwe]⟩, -- CNT_DUMP_BASE_LO (R450)
  ⟨0x40E0011C, [], (0x40E00100, []), .hi, 0x0, [.f 0 32 .rwe]⟩, -- CNT_DUMP_BASE_HI (R450)
  ⟨0x40E00120, [], (0x40E00100, []), .none, 0x4, [.f 0 8 .rwe, .f 8 6 .rwe, .f 14 18 .rwe]⟩, -- CNT_DUMP_RING (R450)
  ⟨0x40E00124, [], (0, []), .none, 0x0, [.f 0 8 .ro]⟩, -- CNT_DUMP_WR (R450)
  ⟨0x40E00128, [], (0, []), .none, 0x0, [.f 0 8 .rw]⟩, -- CNT_DUMP_RD (R450)
  ⟨0x40E0012C, [], (0, []), .none, 0x0, [.f 0 32 .ro]⟩, -- CNT_DUMP_SEQ (R450)
  ⟨0x40E00130, [], (0, []), .none, 0x0, [.f 0 16 .ro, .f 16 16 .ro]⟩, -- CNT_DUMP_SKIP (R450)
  ⟨0x40E00134, [], (0, []), .none, 0x0, [.f 0 1 .sc]⟩, -- CNT_DUMP_NOW (R450)
  ⟨0x40E00140, [], (0, []), .none, 0x0, [.f 0 12 .rw]⟩, -- CNT_SEL (R450)
  ⟨0x40E00144, [], (0, []), .lo, 0x0, [.f 0 32 .ro]⟩, -- CNT_VAL_LO (R450)
  ⟨0x40E00148, [], (0, []), .hi, 0x0, [.f 0 16 .ro]⟩, -- CNT_VAL_HI (R450)
  ⟨0x40E0014C, [], (0, []), .none, 0x0, [.f 0 1 .wo, .f 1 1 .wo, .f 2 1 .wo, .f 3 3 .wo]⟩, -- CNT_CMD (R450)
  ⟨0x40E00150, [], (0, []), .lo, 0x0, [.f 0 32 .rw]⟩, -- CNT_LOAD_LO (R450)
  ⟨0x40E00154, [], (0, []), .hi, 0x0, [.f 0 16 .rw]⟩, -- CNT_LOAD_HI (R450)
  ⟨0x40E00158, [], (0, []), .none, 0x0, [.f 0 8 .w1c]⟩, -- CNT_WRAP (R450)
  ⟨0x40E0015C, [], (0, []), .none, 0x0, [.f 0 16 .ro]⟩, -- CNT_SAMP_LOST (R450)
  ⟨0x40E00160, [(0x4, 128)], (0, []), .none, 0x0, [.f 0 16 .rw, .f 16 1 .rw]⟩, -- CNT_EVSELj (R450)
  ⟨0x40E00360, [(0x4, 32)], (0x40E00100, [0x0]), .none, 0x0, [.f 0 10 .rwe, .f 10 2 .rwe, .f 12 20 .rwe]⟩, -- CNT_QSELq (R450)
  ⟨0x40E00400, [(0x10, 4)], (0, []), .none, 0x0, [.f 0 3 .rw, .f 3 1 .rw]⟩, -- CNT_SAMPh_CFG (R450)
  ⟨0x40E00404, [(0x10, 4)], (0, []), .none, 0x100000, [.f 0 32 .rw]⟩, -- CNT_SAMPh_PERIOD (R450)
  ⟨0x40E00408, [(0x10, 4)], (0, []), .lo, 0x0, [.f 0 32 .ro]⟩, -- CNT_SAMPh_PC_LO (R450)
  ⟨0x40E0040C, [(0x10, 4)], (0, []), .hi, 0x0, [.f 0 32 .ro]⟩, -- CNT_SAMPh_PC_HI (R450)
  ⟨0x40E00500, [], (0, []), .none, 0x0, [.f 0 1 .sc, .f 1 8 .rw]⟩, -- CNT_NVS_CTRL (R450)
  ⟨0x40E00600, [(0x4, 125)], (0, []), .none, 0x0, [.f 0 12 .rw, .f 16 12 .rw]⟩ -- CNT_NVS_IDk (R450)
]

/-- Registers of block FLT. -/
def regsFlt : List RegDef := [
  ⟨0x40F00110, [], (0, []), .none, 0x0, [.f 0 7 .ro, .f 16 16 .ro]⟩, -- FLT_HELD (R451)
  ⟨0x40F00114, [], (0, []), .none, 0x0, [.f 0 12 .ro]⟩, -- FLT_LOG_NEXT (R451)
  ⟨0x40F00118, [], (0, []), .none, 0x0, [.f 0 32 .ro]⟩, -- FLT_LOG_SEQ (R451)
  ⟨0x40F0011C, [], (0, []), .none, 0x0, [.f 0 13 .ro]⟩, -- FLT_LOG_COUNT (R451)
  ⟨0x40F00120, [], (0, []), .none, 0x0, [.f 0 16 .ro, .f 16 8 .ro]⟩, -- FLT_LAST (R451)
  ⟨0x40F00130, [(0x4, 10)], (0, []), .none, 0x0, [.f 0 32 .rw]⟩, -- FLT_SW0–9 (R451)
  ⟨0x40F00158, [], (0, []), .none, 0x0, [.f 0 16 .wo, .f 16 1 .wo]⟩, -- FLT_SW_CMD (R451)
  ⟨0x40F0015C, [], (0, []), .none, 0x0, [.f 0 16 .ro]⟩ -- FLT_SW_STATUS (R451)
]

/-- Registers of block NVS. -/
def regsNvs : List RegDef := [
  ⟨0x50600100, [], (0, []), .none, 0x0, [.f 0 1 .ro, .f 1 1 .ro, .f 16 16 .ro]⟩, -- NVS_STATUS (R452)
  ⟨0x50600104, [], (0, []), .none, 0x0, [.f 0 16 .ro]⟩, -- NVS_ERR (R452)
  ⟨0x50600108, [], (0, []), .none, 0x0, [.f 0 32 .ro]⟩, -- NVS_WR_CNT (R452)
  ⟨0x5060010C, [], (0, []), .none, 0x0, [.f 0 1 .wo, .f 1 1 .wo]⟩, -- NVS_CMD (R452)
  ⟨0x50600110, [], (0, []), .none, 0x0, [.f 0 16 .ro]⟩ -- NVS_CMD_STATUS (R452)
]

/-- Registers of block NTS. -/
def regsNts : List RegDef := [
  ⟨0x41100100, [], (0x41100100, []), .none, 0x0, [.f 0 1 .rw, .f 1 31 .rwe]⟩, -- NTS_CTRL (R462)
  ⟨0x41100104, [], (0, []), .none, 0x0, [.f 0 2 .ro, .f 2 1 .ro, .f 3 1 .ro, .f 4 5 .ro]⟩, -- NTS_STATUS (R462)
  ⟨0x41100108, [], (0, []), .none, 0xFFFF0000, [.f 0 16 .ro, .f 16 16 .ro]⟩, -- NTS_REFUSE (R462)
  ⟨0x41100110, [], (0, []), .none, 0x0, [.f 0 32 .rw]⟩, -- NTS_START (R462)
  ⟨0x41100114, [], (0, []), .none, 0x0, [.f 0 1 .wo, .f 1 1 .wo]⟩, -- NTS_CMD (R462)
  ⟨0x41100118, [], (0, []), .none, 0xFFFF0000, [.f 0 16 .ro, .f 16 16 .ro]⟩, -- NTS_CMD_STATUS (R462)
  ⟨0x4110011C, [], (0, []), .none, 0x0, [.f 0 16 .ro, .f 16 2 .ro]⟩, -- NTS_RUN_STATUS (R462)
  ⟨0x41100120, [], (0x41100100, []), .none, 0x0, [.f 0 32 .rwe]⟩, -- NTS_REPORT_ADDR (R462)
  ⟨0x41100124, [(0x4, 8)], (0, []), .none, 0x0, [.f 0 32 .rw]⟩, -- NTS_NONCE0–7 (R462)
  ⟨0x41100144, [], (0, []), .none, 0x0, [.f 0 8 .ro, .f 8 8 .ro, .f 16 8 .ro]⟩, -- NTS_SUMMARY (R462)
  ⟨0x41102000, [(0x10, 32)], (0, []), .none, 0x0, [.f 0 3 .ro, .f 16 16 .ro]⟩, -- NTS_RESs (R462)
  ⟨0x41102004, [(0x10, 32)], (0, []), .lo, 0x0, [.f 0 32 .ro]⟩, -- NTS_RESs_VALUE_LO (R462)
  ⟨0x41102008, [(0x10, 32)], (0, []), .hi, 0x0, [.f 0 32 .ro]⟩, -- NTS_RESs_VALUE_HI (R462)
  ⟨0x4110200C, [(0x10, 32)], (0, []), .none, 0x0, [.f 0 32 .ro]⟩, -- NTS_RESs_VALUE2 (R462)
  ⟨0x41101000, [(0x10, 32), (0x4, 4)], (0x41100100, [0x0, 0x0]), .none, 0x0, [.f 0 32 .rwe]⟩ -- NTS_STEPs_w (R455)
]

end Sys2Proof.Machine
end

