-- ==== Sys2Proof/Config.lean ====
section
/-! DEFINITION. What the spec leaves open and the model keeps open: constants with no body, of which nothing can be
proved but what holds of every value. -/

namespace Sys2Proof

/-- Free values: the result of a step that the spec leaves undefined or does not state, numbered by a counter of State
(assumption log 3). -/
opaque Config.freeNat : Nat → Nat

/-- The key stream of AES-256-GCM for a key and an IV, by byte (spec/19 R420 names the cipher and defines no part of it;
assumption log 9). -/
opaque Config.gcmStream : List Byte → List Byte → Nat → Byte

/-- The tag of AES-256-GCM: key, IV, authenticated data, ciphertext (assumption log 9). -/
opaque Config.gcmTag : List Byte → List Byte → List Byte → List Byte → List Byte

/-- SHA-384 and HMAC-SHA-384 (key, message), which spec/03 and spec/19 name and do not define (assumption log 9). -/
opaque Config.sha384 : List Byte → List Byte
opaque Config.hmac384 : List Byte → List Byte → List Byte

/-- P-384: the public point of a private key, the x-coordinate shared with a point, an ECDSA signature (private key,
digest, random number), its verification (public point, digest, signature); spec/19 names the curve and its algorithms
(assumption log 9). -/
opaque Config.ecPublic : Nat → List Byte
opaque Config.ecShared : Nat → List Byte → List Byte
opaque Config.ecSign : Nat → List Byte → Nat → List Byte
opaque Config.ecVerify : List Byte → List Byte → List Byte → Bool
/-- The TRNG's health test at the enable of KEY fails (spec/19 R427): a physical result, free (assumption log 3). -/
opaque Config.trngFails : Nat → Bool

/-- Ndevocia's manufacturing public key, against which DEVCERT is checked (spec/19 R409; assumption log 9). -/
opaque Config.makerKey : List Byte

/-- Audio: whether an inexact quotient (numerator, denominator) is rounded up where spec/11 states no rounding; the phase of a
generator (KIND, FREQ) at sample index 0; a sample of a noise (KIND, FREQ, ATT, index); a pilot's level (LEVEL) within its ±0.05 dB; a
detector's error (FREQ, ring rate, samples) within its tolerance (assumption log 18). -/
opaque Config.roundUp : Int → Nat → Bool
opaque Config.genPhase : Nat → Nat → Nat
opaque Config.noise : Nat → Nat → Nat → Nat → Nat
opaque Config.pilotTrim : Nat → Nat
opaque Config.magError : Nat → Nat → List Int → Nat

/-- The bytes of a completion the hub makes itself: requester ID, tag, status (1 Unsupported Request, 4 Completer Abort),
bytes left.  The PCI Express Base Specification lays them out (assumption log 20). -/
opaque Config.completion : Nat → Nat → Nat → Nat → List Byte

end Sys2Proof
end

