-- ==== Sys2Proof/Machine/State.lean ====
section
/-! DEFINITION. The state of the hub: the registers of both dies, what the bolt die and the spool die hold beside them,
the stores, the outputs sent and the commands waiting. -/

namespace Sys2Proof.Machine

/-- Why a command ends in a fault. -/
inductive Fault where
  /-- An access to the peripheral window 0x4200_0000 (QSPI, I2C, UART, GPIO and watchdog registers), whose registers the
  spec does not describe.  Raised by REG_WRITE, LO_READ, LO_WRITE, HI_WRITE, SPI_READ, SPI_WRITE and PCIE_BAR_ACCESS; safe:
  the model stops where the hub goes on. -/
  | peripheralWindow
  deriving DecidableEq, Repr

/-- Why a command is refused. -/
inductive Refusal where
  /-- The command has no meaning yet; raised by its arm of exec; safe. -/
  | notModelled (mnemonic : String)
  deriving DecidableEq, Repr

/-- A byte store in canonical form: addresses strictly rising, no listed byte equal to what an unlisted one reads as. -/
abbrev Mem := List Host.Cell

/-- A latch of a _LO/_HI pair: requester, block, address of the register that the value is for (read: the latched register; write:
the _LO register), value held (spec/02 R32, R33). -/
structure Latch where
  who : Nat
  blk : Nat
  pair : Nat
  val : Word
  deriving DecidableEq, Repr

/-- A flit in a replay buffer and how often it was sent (spec/02 R41). -/
structure TxFlit where
  type : Nat
  ch : Nat
  seq : Nat
  data : Nat
  sends : Nat
  deriving DecidableEq, Repr

/-- One die's end of the seam: next SEQ, replay buffer (oldest first, at most 128 flits), SEQ expected next; the control flits and
the SWITCH flits that wait for a place in it, each as TYPE, CH, DATA, oldest first (spec/02 R40, R41). -/
structure SeamEnd where
  nextSeq : Nat
  replay : List TxFlit
  expect : Nat
  control : List (Nat × Nat × Nat)
  switch : List (Nat × Nat × Nat)
  deriving DecidableEq, Repr

def SeamEnd.reset : SeamEnd := ⟨0, [], 0, [], []⟩

/-- The PLIC: priorities of sources, enables and thresholds of the 8 contexts, sources claimed (spec/02 R37). -/
structure Plic where
  priority : List Nat
  enable : List Nat
  threshold : List Nat
  claimed : Nat
  deriving DecidableEq, Repr

def Plic.reset : Plic := ⟨List.replicate 64 0, List.replicate 8 0, List.replicate 8 0, 0⟩

/-- The control complex and the bolt die's end of the seam. -/
structure Control where
  rdLatch : List Latch
  wrLatch : List Latch
  /-- Harts that have been started, bit h for hart h. -/
  hartsOn : Nat
  plic : Plic
  /-- Sources pending at the last look, for the MSI-X messages. -/
  pendPrev : Nat
  /-- Interrupt lines of the PLIC contexts at the last look, bit c for context c (R37). -/
  lines : Nat
  /-- Levels of the peripheral sources 48 to 57, bit s for source s (R37; free from cycle to cycle, assumption log 66). -/
  periph : Nat
  seam : SeamEnd
  /-- Addresses of the spool register writes sent and not known to be applied, oldest first. -/
  wrSent : List Nat
  /-- Reads of spool registers sent and not answered, oldest first: requester, address (R43). -/
  rdSent : List (Requester × Nat)
  /-- Spool INT_STATUS words as the bolt die last heard them: (block ID, word). -/
  intCopy : List (Nat × Nat)
  /-- State of each power gate and contract of each Dock port as the last snapshot gave them: STATUS words by number (R42). -/
  gateCopy : List (Nat × Nat)
  contractCopy : List (Nat × Nat)
  /-- Flits of the snapshot of R42 that have not arrived. -/
  snapLeft : Nat
  /-- The seam was declared down and has not recovered (R41). -/
  down : Bool
  deriving DecidableEq, Repr

def Control.reset : Control where
  rdLatch := []
  wrLatch := []
  hartsOn := 0
  plic := Plic.reset
  pendPrev := 0
  lines := 0
  periph := 0
  seam := SeamEnd.reset
  wrSent := []
  rdSent := []
  intCopy := []
  gateCopy := []
  contractCopy := []
  snapLeft := 0
  down := false

/-- A write of NVS waiting for the controller (spec/20 R439 to R449). -/
inductive NvsOp where
  /-- A fault-log record: TYPE, SOURCE, CODE, CYCLE and payload; it takes its SEQ when written. -/
  | log (type source code cycle : Nat) (payload : List Byte)
  /-- A progress record: first slot, number of copies, SOURCE, CYCLE and payload. -/
  | progress (slot copies source cycle : Nat) (payload : List Byte)
  /-- An identity item: offset of its copy A, its content before WSEQ. -/
  | identity (offset : Nat) (content : List Byte)
  /-- A RELIABLE delivery-table entry: entry index and its 14 payload bytes. -/
  | delivery (entry : Nat) (payload : List Byte)
  /-- A retire-table word: its number and the cell. -/
  | retire (n cell : Nat)
  /-- Warm-image bytes. -/
  | warm (addr : Nat) (bytes : List Byte)
  /-- Counter-snapshot bytes. -/
  | snapshot (addr : Nat) (bytes : List Byte)
  deriving DecidableEq, Repr


/-- A section of the pattern: TYPE, INSTANCE, FLAGS, OFFSET in the bytes read, LENGTH, DIGEST (spec/03 R48). -/
structure Section where
  type : Nat
  inst : Nat
  flags : Nat
  offset : Nat
  length : Nat
  digest : List Byte
  /-- The source holds the section; a warm image leaves some out (R72). -/
  stored : Bool
  deriving DecidableEq, Repr

/-- The structure a load brings in force (spec/03 R52 to R56). -/
structure Structure where
  /-- TRUNK_EN. -/
  trunkEn : Nat
  /-- QMODE0 to QMODE2. -/
  qmode : List Nat
  /-- MEDIA_E, MEDIA_W. -/
  media : List Nat
  /-- PRESENT mask. -/
  present : Nat
  /-- HOST_PATHS. -/
  hostPaths : Nat
  /-- TRUNK_ENC. -/
  trunkEnc : Nat
  /-- FLAGS of SECURITY. -/
  secFlags : Nat
  /-- KEY_SLOTS. -/
  keySlots : Nat
  sampleRate : Nat
  playoutD : Nat
  addrMode : Nat
  fixedAddr : Nat
  /-- PINMUX entries: (ball, FUNC, PAD). -/
  pins : List (Nat × Nat × Nat)
  /-- PRIORITY of the header. -/
  priority : Nat
  siteId : Nat
  serial : Nat
  deriving DecidableEq, Repr

/-- No structure: nothing enabled, every block counted as present (spec/03 R53). -/
def Structure.none : Structure :=
  ⟨0, [5, 5, 5], [0, 0], 2 ^ 64 - 1, 0, 0, 0, 0, 0, 0, 0, 0, [], 0, 0, 0⟩

/-- The pattern loader's own state (spec/03 R61 to R75). -/
structure Loader where
  /-- A load is running. -/
  active : Bool
  /-- The source bytes as read at step 1. -/
  image : List Byte
  sections : List Section
  /-- The structure parsed at step 3. -/
  parsed : Structure
  /-- Enable requests queued at step 5: (directory index, unit). -/
  queued : List (Nat × HUnit)
  /-- ENABLE was written 0; the load is abandoned at the next section boundary. -/
  abandon : Bool
  /-- The structure in force. -/
  inForce : Structure
  /-- A full load has committed since PG0_GOOD rose (spec/22 R467). -/
  committed : Bool
  /-- A planned opening was announced by this load (R64). -/
  opened : Bool
  /-- A structure is in force: set as step 5 begins, cleared by a refusal or abandonment from there on (R19, R66). -/
  holds : Bool
  /-- TOTAL_LEN of the source, which a load from SRAM guards (R62). -/
  total : Nat
  /-- Step 5 has begun. -/
  begun : Bool
  /-- The manifest digest, and whether no owner key hash was blown (R49, R50). -/
  digest : List Byte
  unowned : Bool
  /-- The FW_DATA sections of the structure in force: INSTANCE, offset in the source, length (R51). -/
  fw : List (Nat × Nat × Nat)
  /-- Records that step 5 has still to write, in order: directory index, ADDR, DATA; ADDR 0 marks the start of a section (R63, R68). -/
  todo : List (Nat × Nat × Nat)
  /-- Records whose writes are on their way over the seam (R68). -/
  flight : List (Nat × Nat × Nat)
  /-- ENABLE of KEY as it stood when the records began to be written (R58). -/
  keyEnable : Bool
  deriving DecidableEq, Repr

def Loader.reset : Loader :=
  ⟨false, [], [], Structure.none, [], false, Structure.none, false, false, false, 0, false, [], false, [], [], [], false⟩


/-- A trunk's timing exchange (spec/04 R83 to R85): last message and its arrival, delays kept, cycles since the last. -/
structure TrunkTime where
  /-- T_TX of the last TIME message received, in 1/256 ns; sent back as ECHO_T1. -/
  lastTx : Nat
  /-- Own ring time at its reception; sent back as ECHO_T2. -/
  lastAt : Nat
  /-- The last delays kept, newest first, at most 64, in 1/256 ns. -/
  delays : List Int
  /-- Cycles since the last TIME message. -/
  since : Nat
  hops : Nat
  master : Nat
  epoch : Nat
  sync : Nat
  /-- A TIME message has arrived and its stream has not stopped. -/
  live : Bool
  /-- T_TX and own root ticks at arrival of the last messages, newest first, at most 65: the frequency measurement (R86). -/
  meas : List (Nat × Nat)
  deriving DecidableEq, Repr

def TrunkTime.reset : TrunkTime := ⟨0, 0, [], 0, 255, 0, 0, 0, false, []⟩

/-- The ring-time unit (spec/04 R86 to R91). -/
structure TimeSync where
  /-- East, west. -/
  trunks : List TrunkTime
  /-- Ring time beyond CLK_RT_SUB, in units of 2^-40 × 0.04 ns (R81). -/
  frac : Nat
  /-- Root ticks counted while the unit runs, and those counted as the cycle began. -/
  ticks : Nat
  cycleTicks : Nat
  /-- The last consecutive delays on the source, newest first, at most 16 (R86). -/
  run : List Int
  /-- Sum of the offsets since the last step, for the integral gain of CLK_SERVO. -/
  integral : Int
  /-- ACQUIRE has stepped ring time. -/
  stepped : Bool
  /-- Consecutive cycles with |offset| at most 2 ns. -/
  inside : Nat
  /-- Consecutive cycles with |offset| above 1 µs. -/
  outside : Nat
  /-- Cycles in HOLDOVER without a source. -/
  holdover : Nat
  /-- The trunk followed as source: none, 0 east, 1 west. -/
  source : Option Nat
  /-- Ring time of the last PPS edge, in 1/256 ns. -/
  ppsLast : Option Nat
  /-- Consecutive valid PPS edges. -/
  ppsGood : Nat
  /-- Ring time from which the 1.5 s wait for an edge counts. -/
  ppsWait : Nat
  /-- Root ticks at the last PPS edge, the frequency ratio that the edges measured, the error still to be slewed out (1/256 ns). -/
  ppsTicks : Nat
  ppsRatio : Int
  ppsLeft : Int
  /-- Glitches counted (R91). -/
  ppsGlitches : Nat
  deriving DecidableEq, Repr

def TimeSync.reset : TimeSync where
  trunks := [TrunkTime.reset, TrunkTime.reset]
  frac := 0
  ticks := 0
  cycleTicks := 0
  run := []
  integral := 0
  stepped := false
  inside := 0
  outside := 0
  holdover := 0
  source := none
  ppsLast := none
  ppsGood := 0
  ppsWait := 0
  ppsTicks := 0
  ppsRatio := 0
  ppsLeft := 0
  ppsGlitches := 0

/-- A row-scope stitch as a lane's receiver hands it to deskew: TYPE and SEQ read, whether CHK holds, the payload
descrambled (spec/05 R114, R115). -/
structure RowStitch where
  type : Nat
  seq : Nat
  ok : Bool
  data : BitVec 512
  deriving DecidableEq, Repr

/-- What a raw PRBS checker holds (spec/05 R126): its register, the bits it has been seeded with, the error-free bits in a
row, the errors among the last 256 bits, newest first. -/
structure PrbsChk where
  reg : Nat
  seen : Nat
  run : Nat
  window : List Bool
  deriving DecidableEq, Repr

def PrbsChk.reset : PrbsChk := ⟨0, 0, 0, []⟩

/-- What one lane holds beside its registers (spec/05). -/
structure LaneSt where
  /-- Transmit scrambler, 31 bits (R102). -/
  txScr : Nat
  /-- Last line bit sent and the length of its run (R108). -/
  txLast : Bool
  txRun : Nat
  /-- Tack bits sent in this ALIGN interval. -/
  txTacks : Nat
  /-- Line bits sent since the transmitter started, for the lane's run-ahead (R105). -/
  txBits : Nat
  /-- Rows since the last KEEPALIVE on this lane, and whether one went in this ALIGN interval (R105). -/
  keepGap : Nat
  keepSent : Bool
  /-- Last bit received on the raw line and the length of its run (R108). -/
  rawLast : Bool
  rawRun : Nat
  /-- Bits received without their tack bits: of the stitch in progress, or the last ones of the search for lock (R113). -/
  rxBits : List Bool
  /-- Bit position of the search, and the positions and polarities that hold, with their consecutive good stitches (R113). -/
  phase : Nat
  cands : List (Nat × Bool × Nat)
  /-- ROW of the last valid ALIGN, and the row stitches received after it (R114). -/
  alignRow : Option Nat
  alignAge : Nat
  /-- Row stitches that wait for deskew, oldest first, and those without a match yet since the last ALIGN (R114). -/
  fifo : List RowStitch
  /-- Tack bits removed so far in the received ALIGN interval in progress (R112). -/
  tackNow : Nat
  /-- Descrambler state predicted; none before the first valid ALIGN (R114). -/
  rxScr : Option Nat
  /-- Consecutive stitches with valid CHK and TYPE, and with a failing CHK (R113). -/
  rxGood : Nat
  rxBad : Nat
  /-- Consecutive valid KEEPALIVE stitches with RX_STATE 6 to 9 and compatible parameters (R120). -/
  kaGood : Nat
  /-- Tack bits removed in the last received ALIGN interval (R112). -/
  rxTacks : Nat
  /-- Taps kept as last good, as in LANEn_DFE_TAP0 to TAP3 (R119). -/
  goodTaps : List Word
  /-- Unit intervals counted towards the next vote, and the vote counter, of each of the twelve taps (R118). -/
  votes : List (Nat × Int)
  /-- A CHK failure occurred in this ALIGN interval. -/
  intervalBad : Bool
  /-- Rows since the last CTRL stitch on this lane (R106). -/
  ctrlGap : Nat
  /-- The raw PRBS checker (R126). -/
  prbs : PrbsChk
  deriving DecidableEq, Repr

def LaneSt.reset : LaneSt where
  txScr := 0
  txLast := false
  txRun := 0
  txTacks := 0
  txBits := 0
  keepGap := 0
  keepSent := false
  rawLast := false
  rawRun := 0
  rxBits := []
  phase := 0
  cands := []
  alignRow := none
  alignAge := 0
  fifo := []
  tackNow := 0
  rxScr := none
  rxGood := 0
  rxBad := 0
  kaGood := 0
  rxTacks := 0
  goodTaps := [0, 0, 0, 0]
  votes := List.replicate 12 (0, 0)
  intervalBad := false
  ctrlGap := 128
  prbs := PrbsChk.reset

/-- A frame arriving on a port (spec/06 R140 to R142). -/
structure Ingress where
  hdr : Hdr
  /-- FRAME stitches of the frame, and how many arrived. -/
  need : Nat
  got : Nat
  /-- Frame bytes received, as on the line. -/
  data : List Byte
  /-- A stitch after the first failed CHK, or lock was lost. -/
  errored : Bool
  /-- The buffered frame this arrival fills; none: discarded while it arrives. -/
  store : Option Nat
  /-- The header waits for the ready list (spec/07 R163). -/
  waiting : Bool
  /-- IV of an encrypted frame (spec/19 R420). -/
  iv : List Byte
  /-- CLASS as received, whose credit the frame took, and the landing credit that returns when the frame has arrived in full
  (spec/07 R169, R176). -/
  rxCls : Nat
  owed : Nat
  deriving DecidableEq, Repr

/-- How long the head frame of a class has waited for credit (spec/07 R174): its identity, the cycles, whether CREDIT_STALL was
raised for it. -/
structure CreditWait where
  frame : Nat
  cycles : Nat
  told : Bool
  deriving DecidableEq, Repr

/-- What one port unit holds beside its registers (spec/05, spec/07 R174 to R178). -/
structure PortSt where
  /-- Row number of the row being sent, and the slots of it already sent. -/
  row : Nat
  slot : Nat
  /-- Wraps of ROW since the port entered UP (spec/19 R420). -/
  wraps : Nat
  /-- CTRL messages waiting: KIND, message bits [511:8] (R106). -/
  ctrlQ : List (Nat × Nat)
  /-- Consecutive ALIGN intervals at or below ALLOW (R111). -/
  calm : Nat
  /-- The partner has reported 7, 8 or 9 since this port entered UP (R120). -/
  partnerUp : Bool
  /-- SEQ of the row stitches received in the current row, and consecutive rows in which lanes disagreed (R114). -/
  rxSeqs : List Nat
  rxSlips : Nat
  /-- Row number received, counted from ALIGN, for ROWCOUNT. -/
  rxRow : Nat
  rxWraps : Nat
  /-- The lanes are deskewed; the valid ALIGN stitches of the row in progress, and the consecutive ALIGN rows with one absent
  (R114). -/
  deskewed : Bool
  rowAligns : Nat
  alignMissed : Nat
  /-- Fill of the elastic buffer in rows; the row in progress is dropped; it holds only IDLE stitches so far; its stitches
  and those of the row before it (spec/04 R93). -/
  ebFill : Nat
  ebDrop : Bool
  ebIdle : Bool
  rowNow : List RowStitch
  rowLast : List RowStitch
  ing : Option Ingress
  /-- Discarding FRAME stitches (R141). -/
  hunting : Bool
  /-- Dock window: 0 and 1 full rate, 2 half rate (R123). -/
  window : Nat
  /-- The transmitter sends stitches (R120). -/
  sending : Bool
  /-- Per class: cells the partner granted, sent; cells granted to the partner, accounted for (spec/07 R174). -/
  granted : List Nat
  sent : List Nat
  grant : List Nat
  recv : List Nat
  /-- Landing credit withheld for a shrink, per class (spec/07 R173). -/
  withheld : List Nat
  /-- Classes stopped by PAUSE and rows left (spec/07 R178). -/
  pauseMask : Nat
  pauseRows : Nat
  /-- The wait of each class's head frame for credit (spec/07 R174). -/
  stall : List (Option CreditWait)
  /-- RING_CTRL frames that wait for the next frame boundary or for credit, oldest first (spec/08 R190). -/
  cl7 : List Frame
  /-- Copy on the wire: frame and queue. -/
  onWire : Option (Nat × Nat)
  /-- FRAME stitches of it sent, and the IV of its first stitch on a keyed hop. -/
  wireSent : Nat
  wireIv : List Byte
  deriving DecidableEq, Repr

def PortSt.reset : PortSt where
  row := 0
  slot := 0
  wraps := 0
  ctrlQ := []
  calm := 0
  partnerUp := false
  rxSeqs := []
  rxSlips := 0
  rxRow := 0
  rxWraps := 0
  deskewed := false
  rowAligns := 0
  alignMissed := 0
  ebFill := 4
  ebDrop := false
  ebIdle := true
  rowNow := []
  rowLast := []
  ing := none
  hunting := false
  window := 0
  sending := false
  granted := List.replicate 8 0
  sent := List.replicate 8 0
  grant := List.replicate 8 0
  recv := List.replicate 8 0
  withheld := List.replicate 8 0
  pauseMask := 0
  pauseRows := 0
  stall := List.replicate 8 none
  cl7 := []
  onWire := none
  wireSent := 0
  wireIv := []

/-- What a module manager holds beside its registers (spec/05 R128, R129). -/
structure ModSt where
  /-- MODPRS_N low as debounced. -/
  inserted : Bool
  /-- Milliseconds since the module was reset, while READY is awaited. -/
  waitMs : Nat
  /-- A command transaction is on the bus: offset, write, data. -/
  cmd : Option (Nat × Bool × Nat)
  /-- A poll is on the bus; a command waits for it (R129). -/
  polling : Bool
  goWait : Option (Nat × Bool × Nat)
  /-- A poll waits for the command on the bus: what it reads (R129). -/
  pollWait : Option (Bool × Nat × Nat × Nat)
  /-- A read of data-not-ready waits for it: what it finds (R129). -/
  readyWait : Option Bool
  /-- Level of the LPMode pin (R128). -/
  lp : Bool
  deriving DecidableEq, Repr

def ModSt.reset : ModSt := ⟨false, 0, none, false, none, none, none, true⟩

/-- The SEQ record of a sink that is not RELIABLE (spec/06 R143): per PATH the SEQs seen, newest first. -/
structure SeqRec where
  /-- GEN of the frames recorded; none before the first. -/
  gen : Option Nat
  /-- GEN of the frames before that. -/
  oldGen : Option Nat
  /-- Highest SEQ from east and from west. -/
  high : List (Option Nat)
  /-- SEQs below the highest that have not come, per PATH, within 64. -/
  missing : List (List Nat)
  /-- BUDDY: highest SEQ by either path and SEQs below it that came by neither. -/
  top : Option Nat
  lacking : List Nat
  deriving DecidableEq, Repr

def SeqRec.reset : SeqRec := ⟨none, none, [none, none], [[], []], none, []⟩

/-- A hold list of a DATAGRAM bucket (spec/06 R155). -/
structure Hold where
  bucket : Nat
  frames : List Frame
  /-- Cycles since the list was opened. -/
  age : Nat
  deriving DecidableEq, Repr

/-- What the hub holds for one tunnel entry beside its shadow words (spec/06). -/
structure Entry where
  valid : Bool
  /-- Words 0 to 3 (R160). -/
  w0 : Nat
  w1 : Nat
  w2 : Nat
  w3 : Nat
  gen : Nat
  /-- GEN of the last frame received (R158). -/
  lastGen : Nat
  /-- Old generation still draining: its number, its words, frames left (spec/07 R185). -/
  drain : Option (Nat × List Nat × Nat)
  /-- Commit waiting for its effect: INVALIDATE, AT_CYCLE, the words copied (R157). -/
  pending : Option (Bool × Bool × List Nat)
  dead : Bool
  /-- Sender (R145). -/
  una : Nat
  nxt : Nat
  /-- Receiver (R146). -/
  rcvNxt : Nat
  held : List (Nat × Frame)
  /-- SRC of the last data frame received. -/
  lastSrc : Nat
  /-- Credit records that its acknowledgements carry, sub-channels 0 to 7 (spec/13 R300). -/
  credits : List Nat
  /-- Those that its last acknowledgement carried. -/
  creditsTold : List Nat
  /-- Frames received since the last acknowledgement (R147). -/
  sinceAck : Nat
  /-- Consecutive expiries, cycles since the timer started (R149). -/
  expiries : Nat
  timer : Nat
  /-- The latest BITMAP with its base RCV_NXT (R149). -/
  bitmap : Nat
  /-- SEQs resent on an acknowledgement since the last expiry (R148). -/
  resent : List Nat
  /-- Retransmit buffer: SEQ and the frame as sent (R145). -/
  retx : List (Nat × Frame)
  seqs : SeqRec
  /-- CUR_PATH of buckets that have switched, with the SEQ up to which frames belong to the old path (R155). -/
  curPath : List (Nat × Nat × Nat)
  /-- CUR_PATH of buckets that have not switched: the PATH of their first frame (assumption log 12). -/
  basePath : List (Nat × Nat)
  /-- Per bucket + 64 × PATH: data frames received since the previous knot (R155). -/
  rxCount : List (Nat × Nat)
  holds : List Hold
  /-- Per bucket + 64 × path: data frames sent since the previous knot, SEQ of the last (R153). -/
  txCount : List (Nat × Nat × Nat)
  /-- Data frames held at the adapter by the policing bucket, oldest first (spec/08 R198). -/
  waiting : List Frame
  /-- The oldest of them has been tested and counted in EXCESS (spec/08 R198). -/
  heldCounted : Bool
  /-- Its buckets have pins of their own, or had until the last exchange of roles (spec/09 R231). -/
  perBucket : Bool
  /-- Policing and shaping TOKENS in 2^-24 byte and the remainders of their additions (spec/08 R197). -/
  polTok : Int
  polRem : Nat
  shpTok : Int
  shpRem : Nat
  /-- Frames discarded and in excess by policing (SCH_ENT_POL). -/
  polDrop : Nat
  polExcess : Nat
  /-- Buddy supervision: good copies by path, cycle of the last copy by path, SINGLE, silent path (spec/10 R250). -/
  fromPath : List Nat
  lastPath : List Nat
  single : Bool
  silent : Nat
  /-- Buckets steered away from their pin by a repair (spec/10 R248). -/
  repaired : List Nat
  /-- Copies are sent both ways until the ring reads CLOSED (spec/10 R248). -/
  bothWays : Bool
  deriving DecidableEq, Repr

def Entry.reset : Entry where
  valid := false
  w0 := 0
  w1 := 0
  w2 := 0
  w3 := 0
  gen := 0
  lastGen := 0
  drain := none
  pending := none
  dead := false
  una := 0
  nxt := 0
  rcvNxt := 0
  held := []
  lastSrc := 0
  credits := List.replicate 8 0
  creditsTold := List.replicate 8 0
  sinceAck := 0
  expiries := 0
  timer := 0
  bitmap := 0
  resent := []
  retx := []
  seqs := SeqRec.reset
  curPath := []
  basePath := []
  rxCount := []
  holds := []
  txCount := []
  waiting := []
  heldCounted := false
  perBucket := false
  polTok := 0
  polRem := 0
  shpTok := 0
  shpRem := 0
  polDrop := 0
  polExcess := 0
  fromPath := [0, 0]
  lastPath := [0, 0]
  single := false
  silent := 0
  repaired := []
  bothWays := false

/-- The domain a frame's cells are charged to (spec/07 R169). -/
inductive Domain where
  | landing (e c : Nat)
  | anchor (p c : Nat)
  | retx (entry : Nat)
  deriving DecidableEq, Repr

/-- Where a copy of a frame stands. -/
inductive CopyState where
  | queued
  | placed
  /-- On the wire. -/
  | sending
  /-- Waits at its start instant for the cut-through threshold. -/
  | threshold
  /-- On the wire ahead of reception. -/
  | cutting
  deriving DecidableEq, Repr

/-- One copy of a buffered frame: its queue (entry and generation × 4 + 0 east, 1 west, 2 local), egress port, state, whether
its wait at a gate was counted, and when it was appended to its queue: cycle, ps in the cycle. -/
structure Copy where
  queue : Nat
  port : Nat
  st : CopyState
  held : Bool
  cyc : Nat
  ps : Nat
  /-- It spilled while it waited for its threshold: it goes as a stored frame (spec/08 R202). -/
  whole : Bool
  deriving DecidableEq, Repr

/-- A frame in the shared buffer (spec/07 R163). -/
structure Stored where
  frame : Frame
  /-- Entry index and the generation matched at ingress. -/
  entry : Nat
  gen : Nat
  /-- Numbers of its cells, head first. -/
  cells : List Nat
  domain : Domain
  /-- Cycle of arrival, and time in the cycle (ps). -/
  cycle : Nat
  atPs : Nat
  /-- Ingress port. -/
  ingress : Nat
  /-- Received in full and checked. -/
  complete : Bool
  /-- FRAME stitches received, and of the whole frame. -/
  got : Nat
  need : Nat
  /-- Copies not yet sent: the residue bitmap. -/
  copies : List Copy
  /-- Cycles since the end of the cycle in which the first copy completed (R180). -/
  residue : Option Nat
  poisoned : Bool
  /-- The shaping bucket was charged for it (spec/08 R199): the amount. -/
  shaped : Option Nat
  /-- Held by a RELIABLE receiver for reordering (spec/06 R146). -/
  held : Bool
  deriving DecidableEq, Repr

/-- The switch core (spec/07). -/
structure Switch where
  /-- Frames by identity number. -/
  frames : List (Nat × Stored)
  nextId : Nat
  /-- Runs of free cells: first cell, length. -/
  freeCells : List (Nat × Nat)
  /-- Cells on the ready list (R163). -/
  ready : Nat
  /-- Retired cells, and cells to retire when free (R168). -/
  retired : List Nat
  failing : List Nat
  /-- Retransmit reserve of each RELIABLE entry with SOURCE, cells (R172). -/
  retxReserve : List (Nat × Nat)
  /-- Retransmit reserve held, per entry. -/
  retxHeld : List (Nat × Nat)
  /-- Injection armed: bits to flip in the next data write (R165). -/
  injectBits : Option Nat
  /-- Rows in error: cell × 16 + bank, number of bits. -/
  badRows : List (Nat × Nat)
  /-- Frames of local adapters whose headers wait for the ready list, oldest first (R163). -/
  waitLocal : List Stored
  /-- Reserves that grow as shared cells become free (R173): number i of a class reserve or 96 + j of a landing reserve, and its
  target in cells. -/
  growth : List (Nat × Nat)
  deriving DecidableEq, Repr

def Switch.reset : Switch := ⟨[], 0, [(0, 196608)], 512, [], [], [], [], none, [], [], []⟩

/-- A queue of an entry on one egress port (spec/07 R164, spec/08 R196): frames not placed, DEFICIT, on the active list. -/
structure Queue where
  frames : List Nat
  deficit : Nat
  active : Bool
  deriving DecidableEq, Repr

def Queue.reset : Queue := ⟨[], 0, false⟩

/-- One placement in a slot list (spec/08 R201): cycle, start and length in ps, frame, queue, class, counted length, the
queue's DEFICIT before it, its place in the order of placing, fixed. -/
structure Placement where
  cycle : Nat
  start : Nat
  len : Nat
  frame : Nat
  queue : Nat
  cls : Nat
  cl : Nat
  deficit : Nat
  ord : Nat
  isFixed : Bool
  deriving DecidableEq, Repr

/-- The slot list of one cycle as built (spec/08 R200, R201): the physical bank used, none for the bare plan; the gate list in
use as (END_NS, OPEN); the cycle was counted in SHORT. -/
structure SlotList where
  cycle : Nat
  bank : Option Nat
  gates : List (Nat × Nat)
  short : Bool
  deriving DecidableEq, Repr

/-- One port's scheduler (spec/08): placements in order of start, active lists by class (the head has its quantum or
not), cycle up to which lists are built, the lists built; placements whose start has come and whose copies wait for the
cut-through threshold (spec/08 R202). -/
structure PortSched where
  slots : List Placement
  active : List (List Nat)
  visiting : List Bool
  built : Option Nat
  lists : List SlotList
  late : List Placement
  deriving DecidableEq, Repr

def PortSched.reset : PortSched := ⟨[], List.replicate 7 [], List.replicate 7 false, none, [], []⟩

/-- The schedulers (spec/08). -/
structure Sched where
  ports : List PortSched
  /-- Queues by entry × 4 + queue. -/
  queues : List (Nat × Queue)
  /-- Time since the cycle began, ps, as far as commands have shown it (assumption log 10). -/
  now : Nat
  /-- Offset of the next token addition from the start of the cycle, ps (R197). -/
  tokNext : Nat
  /-- Number of the next placement in the order of placing (R204). -/
  nextOrd : Nat
  /-- Ports rebuilt after an undo whose rebuild is not complete, and the highest cause (R205). -/
  rebuild : Option Nat
  deriving DecidableEq, Repr

def Sched.reset : Sched := ⟨List.replicate 12 PortSched.reset, [], 0, 0, 0, none⟩

/-- A pending change of plan (spec/09 R222 to R227): plan, target cycle, origin. -/
structure Change where
  plan : Nat
  target : Nat
  origin : Nat
  deriving DecidableEq, Repr

/-- The result of a plan check for one bank (spec/09 R218). -/
structure CheckResult where
  /-- Per entry: D and its port. -/
  delays : List (Nat × Nat × Nat)
  /-- Per port × 8 + class: service and demand per cycle. -/
  service : List (Nat × Nat × Nat)
  deriving DecidableEq, Repr

/-- What a plan check holds from its start (spec/09 R215): the tunnel entries live then, and SHAPE.RATE of each in the bank then
sewn, where one was. -/
structure CheckBase where
  entries : List (Nat × Entry)
  rates : List (Nat × Nat)
  deriving DecidableEq, Repr

/-- Allotment (spec/09). -/
structure Allot where
  /-- Words of the three physical banks, by offset / 4. -/
  banks : List (List (Nat × Word))
  /-- Physical bank in the roles SEWN, BASTED, ALARM. -/
  roles : List Nat
  /-- Physical banks that have passed a check; the SEWN role without one is the bare plan (R214). -/
  checked : List Bool
  sew : Option Change
  unpick : Option Change
  /-- Alarm sew: its change at max(N, R + 4). -/
  alarm : Option Change
  alarmUnpick : Option Change
  /-- Own messages resent every cycle: payload and last cycle (R219). -/
  resend : List (List Byte × Nat)
  /-- OP, PLAN and CYCLE of messages acted on, and the cycle in which the first copy came (R219). -/
  seen : List (Nat × Nat × Nat × Nat)
  /-- UNPICKs that found nothing to undo, while their target lies ahead (R225). -/
  unpicks : List Change
  /-- An alarm SEW that came while its plan was in force with no unpick pending, while its target lies ahead (R228). -/
  again : Option Change
  /-- Per sender: REASON and DETAIL word, DIGEST (R220). -/
  reports : List (Nat × Nat × Nat)
  /-- Check results of the basted and the alarm bank. -/
  checks : List CheckResult
  /-- What the checks of the basted and the alarm bank hold from their start. -/
  bases : List CheckBase
  /-- Target of the sew that runs alarm pre-emption (spec/08 R206). -/
  preempt : Option Nat
  /-- Plan of that sew. -/
  preemptPlan : Nat
  /-- Reports owed until a trunk is UP again (spec/10 R254): origin, plan, RESULT. -/
  owed : List (Nat × Nat × Nat)
  deriving DecidableEq, Repr

def Allot.reset : Allot where
  banks := [[], [], []]
  roles := [0, 1, 2]
  checked := [false, false, false]
  sew := none
  unpick := none
  alarm := none
  alarmUnpick := none
  resend := []
  seen := []
  unpicks := []
  again := none
  reports := []
  checks := [⟨[], []⟩, ⟨[], []⟩]
  bases := [⟨[], []⟩, ⟨[], []⟩]
  preempt := none
  preemptPlan := 0
  owed := []

/-- An edge of the edge list (spec/10 R248): node, side (0 east, 1 west), cause, cycle since which it holds, lost
neighbour, cycles since it was refreshed. -/
structure Edge where
  node : Nat
  side : Nat
  cause : Nat
  since : Nat
  far : Nat
  age : Nat
  deriving DecidableEq, Repr

/-- A census entry (spec/10 R242): UID and cycle of the last ANNOUNCE. -/
structure Census where
  uid : Nat
  seen : Nat
  deriving DecidableEq, Repr

/-- A HEAL waiting for its target (spec/10 R252). -/
structure HealWait where
  endA : Nat
  sideA : Nat
  endB : Nat
  sideB : Nat
  target : Nat
  deriving DecidableEq, Repr

/-- A message in the mailbox (spec/10 R235). -/
structure Mail where
  src : Nat
  toMaster : Bool
  data : List Byte
  deriving DecidableEq, Repr

/-- The ring engine (spec/10). -/
structure Ring where
  census : List (Nat × Census)
  /-- Hops east and west to each address, absent: unknown (R246). -/
  he : List (Nat × Nat)
  hw : List (Nat × Nat)
  edges : List Edge
  /-- Own trunks: the edge each holds; none: a member link (R247). -/
  own : List (Option Edge)
  /-- Cycles for which the edge list has been empty (R248). -/
  quiet : Nat
  /-- SRC (or 2^8 + UID), SEQ and cycle of the frames received in the last 16 cycles, and whether they were acted on (R236). -/
  seen : List (Nat × Nat × Nat × Bool)
  /-- SEQ of the next RING_CTRL frame (R234). -/
  seq : Nat
  /-- Cycles since a BEACON of the own epoch or later (R239). -/
  beaconAge : Nat
  /-- Claiming: NEW_EPOCH and cycles without a better claim. -/
  claim : Option (Nat × Nat)
  /-- A better claim to which this node gave way: PRIORITY, UID, cycles since it was heard. -/
  better : Option (Nat × Nat × Nat)
  /-- Roll call: ROLL_ID, cycles since the last new TAKEN; ROLL_ID of the next one. -/
  roll : Option (Nat × Nat)
  rollId : Nat
  /-- Cycles since the JOIN_REQ was sent (R253). -/
  joinWait : Option Nat
  /-- No JOIN_REQ until a trunk comes up again or a pattern loads (R244). -/
  joinBlocked : Bool
  heals : List HealWait
  /-- Openings heard: node, sides + 4 × RESIGN, target, in effect. -/
  openings : List (Nat × Nat × Nat × Bool)
  /-- The own opening: target N, REASON, RESIGN. -/
  opening : Option (Nat × Nat × Bool)
  mail : List Mail
  /-- The last TO_MASTER or FROM_MASTER frame sent but a BEACON: 0 sent, 1 its retry sent, 2 refused again and waiting for a BEACON
  (R238). -/
  lastBound : Option (Frame × Nat)
  /-- Own BEACON must be sent with the current epoch. -/
  cyclesSinceAnnounce : Nat
  /-- UID learned for an unaddressed roll-call join: address taken, its ROLL_ID. -/
  taken : Option Nat
  /-- Sources that the ring-wide OPEN view steers; cycle in which an edge first became known. -/
  openKnown : Bool
  /-- Own sides healed, until an edge is known again: copies against the pin are discarded there (R252). -/
  healed : List Nat
  /-- MASTER_OK strap (R239). -/
  masterOk : Bool
  /-- The node resigned: it does not stand until it hears a BEACON (R240). -/
  noStand : Bool
  deriving DecidableEq, Repr

def Ring.reset : Ring where
  census := []
  he := []
  hw := []
  edges := []
  own := [none, none]
  quiet := 0
  seen := []
  seq := 0
  beaconAge := 0
  claim := none
  better := none
  roll := none
  rollId := 0
  joinWait := none
  joinBlocked := false
  heals := []
  openings := []
  opening := none
  mail := []
  lastBound := none
  cyclesSinceAnnounce := 0
  taken := none
  openKnown := false
  healed := []
  masterOk := false
  noStand := false

/-- A gain that ramps linearly (spec/11 R273): from, to, samples done, samples in all. -/
structure Ramp where
  frm : Int
  goal : Int
  pos : Nat
  len : Nat
  deriving DecidableEq, Repr

/-- A remote channel (spec/11 R269 to R271). -/
structure Remote where
  /-- AUD_RCH_CFG.CONCEAL. -/
  decay : Bool
  /-- Previous sample, and the concealment signal under a crossfade. -/
  prev : Int
  under : Int
  /-- Next crossfade weight in units of 2^-RAMP_SHIFT; 0: none runs. -/
  fade : Nat
  /-- The previous sample was concealed. -/
  missing : Bool
  /-- A sample was concealed in this cycle; consecutive such cycles; CONCEALING. -/
  hid : Bool
  run : Nat
  concealing : Bool
  origin : Nat
  samples : Nat
  fromPath : List Nat
  /-- Cycle and position of the last sample read. -/
  lastRead : Option (Nat × Nat)
  deriving DecidableEq, Repr

def Remote.reset : Remote := ⟨true, 0, 0, 0, false, false, 0, false, 0, 0, [0, 0], none⟩

/-- A pilot detector (spec/11 R278, R279). -/
structure Detector where
  /-- CFG word and CYCLES that the running integration took; none: not running. -/
  cfg : Option (Nat × Nat)
  /-- Its samples, newest first, and cycles done. -/
  xs : List Int
  done : Nat
  /-- Class of the last integration and how many agreed. -/
  cls : Nat
  agree : Nat
  deriving DecidableEq, Repr

def Detector.reset : Detector := ⟨none, [], 0, 0, 0⟩

/-- The audio engine (spec/11). Samples are 36-bit words; a sample index is n modulo 2^14. -/
structure Audio where
  /-- Captured TDM inputs: index × 512 + input. -/
  inputs : List (Nat × Nat)
  /-- Slave ports: index expected next and consecutive frames that had it (R263). -/
  expect : List (Option Nat)
  runs : List Nat
  /-- Breaks of slips and losses that GAP_BEFORE marks: port, index of the first sample after the break. -/
  slips : List (Nat × Nat)
  /-- Playout memory: (channel × 32 + PCYCLE modulo 32) × 8 + trio, its 128-bit word (R268). -/
  trios : List (Nat × Nat)
  /-- Remote channels that differ from their reset state. -/
  remotes : List (Nat × Remote)
  /-- Remote samples read for playout: index × 1,024 + channel. -/
  heard : List (Nat × Nat)
  /-- Samples of PLAY and of SEND outputs: index × 512 + output. -/
  plays : List (Nat × Nat)
  sends : List (Nat × Nat)
  /-- Gain ramps: output × 8 + term, and 4,096 + output × 4 + layer. -/
  ramps : List (Nat × Ramp)
  /-- Largest magnitude of a layer sum in this cycle, and whether it exceeded THR in the last 16 cycles, newest in bit 0:
  output × 4 + layer (R274). -/
  levels : List (Nat × Nat)
  loud : List (Nat × Nat)
  /-- Saturations per output. -/
  clips : List (Nat × Nat)
  /-- Cycle in which each generator was enabled (R276). -/
  genSince : List (Option Nat)
  dets : List Detector
  /-- Generation under which each source entry last packed a frame. -/
  packed : List (Nat × Nat)
  /-- Next phase of the pilot of each output that has one, in units of 2^-32 turn (R277). -/
  pilots : List (Nat × Nat)
  /-- Ring time has jumped in this cycle: the frames in progress end at its boundary (R281). -/
  cut : Bool
  /-- The BCLK divider of each master port in this cycle: root ticks of a period, and how many periods are one tick longer (R261). -/
  bclk : List (Nat × Nat)
  deriving DecidableEq, Repr

def Audio.reset : Audio where
  inputs := []
  expect := List.replicate 16 none
  runs := List.replicate 16 0
  slips := []
  trios := []
  remotes := []
  heard := []
  plays := []
  sends := []
  ramps := []
  levels := []
  loud := []
  clips := []
  genSince := List.replicate 64 none
  dets := List.replicate 64 Detector.reset
  packed := []
  pilots := []
  cut := false
  bclk := List.replicate 16 (0, 0)

/-- What one state channel holds beside its registers (spec/12 R283 to R287). -/
structure Channel where
  /-- The producer's value, or the value last accepted. -/
  value : Nat
  alive : Nat
  /-- SEQ and GEN of the last accepted frame. -/
  seq : Nat
  gen : Nat
  /-- Consecutive accepted frames that gave REPEAT. -/
  repeats : Nat
  /-- PERIOD of the last accepted frame; 255 before the first. -/
  period : Nat
  /-- Cycles since the last accepted frame, or since the channel went ON. -/
  age : Nat
  deriving DecidableEq, Repr

def Channel.reset : Channel := ⟨0, 0, 0, 0, 0, 255, 0⟩

/-- State channels, check registers of the units and their last alive values (spec/12 R288 to R291), and the two hardware
sources: contact states as the lantern last reported them, the hot-plug value of the DP quad (R285, spec/14 R319). -/
structure Stc where
  chans : List Channel
  crcs : List Nat
  contacts : Nat
  hpd : Nat
  deriving DecidableEq, Repr

def Stc.reset : Stc := ⟨List.replicate 128 Channel.reset, List.replicate 144 0xFFFF, 0, 0⟩

/-- A TLP waiting for the tunnel, and whether its wait has been counted (spec/13 R300, R301). -/
structure WaitTlp where
  tlp : Tlp
  npWait : Bool
  crWait : Bool
  deriving DecidableEq, Repr

/-- An open request (spec/13 R301): requester, tag, bytes outstanding, bytes still reserved. -/
structure OpenReq where
  req : Nat
  tag : Nat
  left : Nat
  reserved : Nat
  deriving DecidableEq, Repr

/-- What one bridge link holds beside its registers (spec/13 R296 to R308). -/
structure BridgeLink where
  /-- TLPs from the PCIe link that wait for the tunnel, oldest first; each kind is one sub-channel queue. -/
  out : List WaitTlp
  /-- The frame being packed: sub-channel, records, LEDGER; and whether it is closed and only waits for the window. -/
  frame : Option (Nat × List Byte × Nat)
  closed : Bool
  /-- Control records that wait for the window. -/
  ctl : List (List Byte)
  /-- Headers and units granted to the far end, per sub-channel 0 and 1, as totals; those last reported. -/
  granted : List (Nat × Nat)
  told : List (Nat × Nat)
  /-- Totals granted by the far end, and consumed. -/
  far : List (Nat × Nat)
  used : List (Nat × Nat)
  /-- Open requests issued by this end, and from the far end. -/
  toFar : List OpenReq
  fromFar : List OpenReq
  /-- Posted records received, disposed of, and the count last reported. -/
  pRecv : Nat
  pDisp : Nat
  pTold : Nat
  /-- RESET and DISABLE of the last LINK_STATE of the upstream end. -/
  reset : Bool
  disable : Bool
  deriving DecidableEq, Repr

def BridgeLink.reset0 : BridgeLink :=
  ⟨[], none, false, [], [(0, 0), (0, 0)], [(0, 0), (0, 0)], [(0, 0), (0, 0)], [(0, 0), (0, 0)], [], [], 0, 0, 0, false, false⟩

/-- A ledger entry (spec/13 R305): link, cause, cycle, first number, count, address. -/
structure LedgerEntry where
  link : Nat
  cause : Nat
  cycle : Nat
  first : Nat
  count : Nat
  addr : Nat
  deriving DecidableEq, Repr

/-- A learned address (spec/14 R325): address, entry, node, seconds since it was last seen. -/
structure Learned where
  mac : Nat
  entry : Nat
  node : Nat
  age : Nat
  deriving DecidableEq, Repr

/-- What one DP quad holds beside its registers (spec/14 R314 to R320). -/
structure DpQuad where
  /-- Receiver: last descriptor sent, video frames counted, FORMAT, only descriptors go because DRATE is too high. -/
  rxTiming : List Byte
  frames : Nat
  format : Nat
  short : Bool
  /-- Transmitter: last descriptor received, FORMAT of the last pixel frame, SEQs of the last 1,024 frames, newest first. -/
  txTiming : List Byte
  txFormat : Nat
  seen : List Nat
  /-- Segments received: VFRAME × 2^32 + line × 65,536 + first pixel, pixel bytes; the VFRAME being displayed. -/
  segs : List (Nat × List Byte)
  play : Option Nat
  /-- Video frame periods since the last pixel frame; black frames are sent. -/
  noPixels : Nat
  black : Bool
  /-- Clock trim in ppb, and the change of the next VTOTAL in lines (R317). -/
  trim : Int
  vAdj : Int
  /-- Display side: HPD, EDID read and whether without error, IRQ_HPD pulses. -/
  hpd : Bool
  edid : List Byte
  edidOk : Bool
  irqs : Nat
  /-- Source side: the EDID cache, bytes refilled so far, IRQ and EDID_CRC last seen, HPD pin, cycles since it went low. -/
  cache : List Byte
  refill : Option Nat
  irqSeen : Nat
  crcSeen : Nat
  pin : Bool
  lowFor : Nat
  /-- A request of the video source waits for the tunnel's reply. -/
  auxWait : Bool
  /-- Frames that wait for the window of an AUX tunnel: slot, payload. -/
  auxOut : List (Nat × List Byte)
  /-- Rate in Mbit/s to which the receiver's and the transmitter's link have trained, 0 before they have (spec/08 R499). -/
  rxMbit : Nat
  txMbit : Nat
  deriving DecidableEq, Repr

def DpQuad.reset : DpQuad where
  rxTiming := []
  frames := 0
  format := 0
  short := false
  txTiming := []
  txFormat := 0
  seen := []
  segs := []
  play := none
  noPixels := 0
  black := true
  trim := 0
  vAdj := 0
  hpd := false
  edid := []
  edidOk := false
  irqs := 0
  cache := []
  refill := none
  irqSeen := 0
  crcSeen := 0
  pin := false
  lowFor := 24
  auxWait := false
  auxOut := []
  rxMbit := 0
  txMbit := 0

/-- What one Ethernet MAC holds: time left of a received PAUSE in ps, and the frames that wait to leave (R321). -/
structure MacSt where
  paused : Nat
  egress : List (List Byte)
  deriving DecidableEq, Repr

/-- A transaction that a near translator holds (spec/16 R364): TAG, device, endpoint, PID, and its RESULT: handshake, toggle,
data. -/
structure UsbTx where
  tag : Nat
  addr : Nat
  ep : Nat
  pid : Nat
  result : Option (Nat × Bool × List Byte)
  deriving DecidableEq, Repr

/-- The near end of a remote hub port (spec/16 R364, R365). -/
structure NearPort where
  txs : List UsbTx
  tag : Nat
  gen : Nat
  /-- A prefetched packet per endpoint: toggle and data. -/
  cache : List (Nat × Bool × List Byte)
  /-- Interrupt OUT transactions under way: TAG and endpoint; failures to be answered late: endpoint and handshake. -/
  outs : List (Nat × Nat)
  late : List (Nat × Nat)
  /-- The latest far report: 0 nothing connected, 1 low speed, 2 full speed (R367). -/
  seen : Nat
  deriving DecidableEq, Repr

def NearPort.reset : NearPort := ⟨[], 0, 0, [], [], [], 0⟩

/-- The far end of a remote port: the proxy of a Dock port (spec/16 R365). -/
structure FarPort where
  gen : Nat
  /-- Endpoints whose prefetched packet the host has not consumed; toggle expected next where it is DATA1. -/
  held : List Nat
  ones : List Nat
  /-- A bus reset that the near end asked for runs. -/
  resetting : Bool
  deriving DecidableEq, Repr

def FarPort.reset : FarPort := ⟨0, [], [], false⟩

/-- The USB hub, its internal host and its device function (spec/16). -/
structure Usb where
  /-- Packet memory, by offset. -/
  mem : Mem
  /-- Messages from the host, oldest first; the reply being sent. -/
  mbx : List (List Byte)
  reply : Option (List Byte)
  /-- The control request to the device function in progress: its SETUP bytes. -/
  ctrl : Option (List Byte)
  /-- Next toggles of EP1 OUT, EP1 IN and EP2 IN: DATA1. -/
  toggles : List Bool
  /-- Audio FIFOs: one list of channel samples for each sample; the OUT sample last taken. -/
  outFifo : List (List Nat)
  inFifo : List (List Nat)
  outPrev : List Nat
  /-- Number of the ring sample at each of the last 128 feedback reports, newest first (R359). -/
  marks : List Nat
  /-- PORT_POWER of hub ports, and their change bits: 0 connection, 1 enable, 2 suspend, 3 over-current, 4 reset. -/
  power : Nat
  changes : List Nat
  /-- DEVICE_REMOTE_WAKEUP of the hub. -/
  hubWake : Bool
  near : List NearPort
  far : List FarPort
  /-- Of each pipe: the transfer has a SETUP stage; an ABORT was written. -/
  setups : List Bool
  aborts : List Bool
  /-- Records that wait for their tunnel: entry and record. -/
  waiting : List (Nat × List Byte)
  deriving DecidableEq, Repr

def Usb.reset : Usb where
  mem := []
  mbx := []
  reply := none
  ctrl := none
  toggles := [false, false, false]
  outFifo := []
  inFifo := []
  outPrev := []
  marks := []
  power := 0
  changes := List.replicate 8 0
  hubWake := false
  near := List.replicate 7 NearPort.reset
  far := List.replicate 6 FarPort.reset
  setups := List.replicate 16 false
  aborts := List.replicate 16 false
  waiting := []


/-- What one power gate holds beside its registers (spec/17 R372 to R378). -/
structure GateSt where
  /-- Voltages as last measured, in mV. -/
  vin : Nat
  vout : Nat
  /-- The input has risen above UV_ON and not since fallen below UV_OFF; it has risen above OV_OFF since it last fell below
  OV_ON. -/
  uvIn : Bool
  ovOut : Bool
  /-- Commanded on by its TCP port. -/
  cmd : Bool
  /-- Energy of the slow trip, in (10 mA)² × 10 µs. -/
  e : Nat
  deriving DecidableEq, Repr

def GateSt.reset : GateSt := ⟨0, 0, false, false, false, 0⟩

/-- What one Dock port holds beside its registers (spec/15). -/
structure DockPort where
  /-- Regulator setpoint in mV, the setpoint a transition left, and whether the setpoint is frozen (R348). -/
  vset : Nat
  vold : Nat
  frozen : Bool
  /-- CC opened during a transition and DETACH_MS runs (R348). -/
  ccOpen : Bool
  /-- Source_Capabilities last sent: object position from 1, voltage in 50 mV, current in 10 mA. -/
  offered : List (Nat × Nat × Nat)
  /-- The contract being entered or asked for: position, current in 10 mA, voltage in 50 mV, EPR. -/
  next : Option (Nat × Nat × Nat × Bool)
  /-- EPR mode entered with the partner. -/
  epr : Bool
  /-- The port's own request that waits for an answer or a retry: 1 PR_Swap, 2 DR_Swap, 3 VCONN_Swap, 4 Request; and the
  Waits received in a row. -/
  own : Nat
  waits : Nat
  /-- The own request received Wait and its retry runs. -/
  retry : Bool
  /-- Firmware's recorded answer to an ask: KIND and Accept. -/
  answer : Option (Nat × Bool)
  /-- Entry of the Elrek mode: 0 not begun, 1 partner discovery, 2 cable discovery, 3 Enter Mode sent, 4 ended; and the half
  rate that the cable imposes.  The partner's mode VDO is in PARTNER_VDO. -/
  disc : Nat
  half : Bool
  /-- Budget: an allotment being reached; Source_Capabilities sent again after no fitting Request (R346); held. -/
  target : Option Nat
  again : Bool
  heldBudget : Bool
  /-- An accepted PR_Swap is being carried out until PS_RDY. -/
  swapping : Bool
  /-- The RWE words of the port as ENABLE was cleared, to see what a held port's re-check changed (R349). -/
  heldWords : List Word
  /-- An unattached DRP port presents Rp now (R330). -/
  presentRp : Bool
  deriving DecidableEq, Repr

def DockPort.reset : DockPort where
  vset := 5000
  vold := 5000
  frozen := false
  ccOpen := false
  offered := []
  next := none
  epr := false
  own := 0
  waits := 0
  retry := false
  answer := none
  disc := 0
  half := false
  target := none
  again := false
  heldBudget := false
  swapping := false
  heldWords := []
  presentRp := false


/-- The power-state controller beside its registers (spec/18 R386 to R394). -/
structure Pwr where
  /-- PG0_GOOD has risen since VDD_AON powered on. -/
  started : Bool
  /-- A wake runs; firmware has written GO; a load has committed in it; its warm load failed and the cold load is awaited. -/
  waking : Bool
  go : Bool
  warm : Bool
  cold : Bool
  /-- Entry to STANDBY: 0 none, 1 the opening is announced, 2 waits for the bolt die's power to be withdrawn, 3 paused before its
  first step, 4 paused before its third (R389). -/
  entry : Nat
  /-- Trunks whose ENABLE the entry has cleared, and gates it has opened (R382). -/
  trunks : List Nat
  opened : List Nat
  /-- PG0_GOOD fell less than 5 ms ago (R390); bolt power is to be requested afterwards. -/
  hold : Bool
  want : Bool
  /-- The command held until the wake ends (R394). -/
  next : Option (Nat × Nat)
  /-- The standing command held until the first commit or the end of the load: TARGET and slot (R67, R471). -/
  stand : Option (Nat × Nat)
  /-- The alarm command that waits: 0 none, 1 for a wake's commit, 2 for the first commit, 3 for the seam (R393, R471). -/
  alarm : Nat
  /-- Every gate is commanded open (OFF). -/
  off : Bool
  deriving DecidableEq, Repr

def Pwr.reset : Pwr := ⟨false, false, false, false, false, 0, [], [], false, false, none, none, 0, false⟩

/-- The lantern beside its registers (spec/18 R395 to R400). -/
structure Lantern where
  /-- Samples of each ADC channel, newest first, at most 64. -/
  hist : List (List Nat)
  /-- Per contact: last classification of MODE 0, last sample, consecutive samples that agree with it. -/
  closed : List Bool
  last : List Nat
  run : List Nat
  /-- Per rule: its ADC condition as it stands, and the cycles for which it has been held. -/
  cond : List Bool
  held : List Nat
  /-- Events queued while the seam is down: rule, value, cycle. -/
  queue : List (Nat × Nat × Nat)
  /-- Milliseconds left of WAKE_N; none: until CLEAR. -/
  wakeLeft : Option Nat
  deriving DecidableEq, Repr

def Lantern.reset : Lantern := ⟨List.replicate 16 [], List.replicate 8 false, List.replicate 8 0, List.replicate 8 0,
  List.replicate 32 false, List.replicate 32 0, [], none⟩
/-- A key slot (spec/19 R410): STATE 0 EMPTY, 1 BUSY, 2 VALID, 3 REVOKED; TYPE 0 AES, 1 SECRET, 2 ECDSA, 3 ECDH; the key
material is never readable. -/
structure KeySlot where
  state : Nat
  type : Nat
  usage : Nat
  parent : Nat
  mrsel : Nat
  key : List Byte
  deriving DecidableEq, Repr

def KeySlot.reset : KeySlot := ⟨0, 0, 0, 0, 0, []⟩

/-- A key operation that runs (spec/19 R411 to R413): its op, the slot it creates or uses, what it will deliver. -/
structure KeyRun where
  op : Nat
  slot : Nat
  /-- The slot as the operation leaves it, for a creating op. -/
  made : KeySlot
  out : List Byte
  outAddr : Nat
  reason : Nat
  /-- The slot, its parent or its binding was revoked while it ran; abandoned by ZEROISE. -/
  revoked : Bool
  abandoned : Bool
  /-- LOCKED is set when the operation ends (spec/19 R423). -/
  lockAfter : Bool
  /-- STATE the slot takes at the end because of an ERASE or a revocation meanwhile. -/
  after : Option Nat
  /-- It has come to its NVS write while the seam was down (spec/02 R44). -/
  paused : Bool
  deriving DecidableEq, Repr

/-- Key agreement on one trunk (spec/19 R417 to R419). -/
structure LinkSt where
  /-- Ephemeral private key and own NONCE. -/
  eph : Nat
  nonce : List Byte
  /-- Message being reassembled: MSG, COUNT, fragments by index. -/
  msg : Nat
  count : Nat
  frags : List (Nat × List Byte)
  /-- Derived keys, once the partner's STATEMENT is accepted: transmit key and salt, receive key and salt, K_conf. -/
  keys : Option (List (List Byte))
  peerUid : List Byte
  deriving DecidableEq, Repr

def LinkSt.reset : LinkSt := ⟨0, [], 0, 0, [], none, []⟩

/-- The KEY block (spec/19): slots, measurement registers, the device key's KDF output, the running operation, the
agreements. -/
structure Keys where
  slots : List KeySlot
  mr : List (List Byte)
  device : Option (List Byte)
  run : Option KeyRun
  links : List LinkSt
  deriving DecidableEq, Repr

def Keys.reset : Keys where
  slots := List.replicate 64 KeySlot.reset
  mr := List.replicate 4 (List.replicate 48 0)
  device := none
  run := none
  links := [LinkSt.reset, LinkSt.reset]


/-- Depth and delay of one queue as sampled (spec/08 R208): extremes and 16-bin histograms. -/
structure QueueStat where
  depthMin : Nat
  depthMax : Nat
  delayMin : Nat
  delayMax : Nat
  depthBins : List Nat
  delayBins : List Nat
  deriving DecidableEq, Repr

/-- A snapshot in the shadow registers, being written out (spec/20 R435, R436). -/
structure Snapshot where
  cycle : Nat
  ns : Nat
  wrap : Nat
  forced : Bool
  counters : List (Nat × Nat)
  wrapped : List Nat
  queues : List (Nat × QueueStat)
  deriving DecidableEq, Repr


/-- A night-test run (spec/21 R457 to R461). -/
structure NightRun where
  start : Nat
  /-- The step in progress, or the next to start; whether it has started. -/
  step : Nat
  live : Bool
  /-- Counts as they stood at its start. -/
  base : List Nat
  /-- Lanes, detectors or channels that have failed, as a mask; the reason code recorded. -/
  bad : Nat
  reason : Nat
  /-- Lanes on which the sequencer set GEN and CHK; those whose checker has locked. -/
  lanes : Nat
  locked : Nat
  /-- EN of the detectors before the step: detector, EN. -/
  ens : List (Nat × Nat)
  /-- A trunk that a BREAK step holds open. -/
  opened : Option Nat
  /-- Cycle in which its ENABLE was set again, and that in which the ring then read CLOSED. -/
  again : Option Nat
  closed : Option Nat
  /-- TEST frames sent or counted, SEQs missing, payload bits wrong, last SEQ. -/
  frames : Nat
  gaps : Nat
  errs : Nat
  lastSeq : Option Nat
  /-- ATTEST: 0 waits, 1 runs, 2 has ended; its KEY reason; the statement was LOCKED; its COUNTER. -/
  key : Nat
  keyReason : Nat
  keyLocked : Bool
  keyCount : Nat
  deriving DecidableEq, Repr

def NightRun.reset (start step : Nat) : NightRun where
  start := start
  step := step
  live := false
  base := []
  bad := 0
  reason := 0
  lanes := 0
  locked := 0
  ens := []
  opened := none
  again := none
  closed := none
  frames := 0
  gaps := 0
  errs := 0
  lastSeq := none
  key := 0
  keyReason := 0
  keyLocked := false
  keyCount := 0

/-- The night-test sequencer: the run, and trunks whose ENABLE is to be set as soon as they are OFF. -/
structure Night where
  run : Option NightRun
  reopen : List Nat
  deriving DecidableEq, Repr

def Night.reset : Night := ⟨none, []⟩

/-- The fuses (spec/19 R403): lifecycle 0 BLANK, 1 MANUFACTURED, 2 DEPLOYED, 3 RETIRED; the owner key hash; the unique
number; the root secret; the device certificate.  What a part holds is not in the spec (assumption log 5). -/
structure Fuses where
  lifecycle : Nat
  owner : List Byte
  uid : List Byte
  root : List Byte
  devCert : List Byte
  deriving DecidableEq, Repr

def Fuses.reset : Fuses := ⟨0, List.replicate 48 0, List.replicate 16 0, List.replicate 32 0, List.replicate 96 0⟩

/-- What the bolt die holds beside its registers; lost when PG0_GOOD falls (spec/01 R24). -/
structure Bolt where
  /-- The control complex and the seam. -/
  ctl : Control
  /-- SRAM bytes, by offset from 0x1000_0000. -/
  sram : Mem
  /-- Fault and progress records held while the seam is down, oldest first (R44). -/
  held : List NvsOp
  /-- Records dropped in this down period. -/
  heldDropped : Nat
  /-- Identity items and retired cells held while the seam is down (R44). -/
  heldItems : List NvsOp
  /-- The bolt-die units other than CLK have left reset (R79). -/
  running : Bool
  /-- The pattern loader (R61 to R75). -/
  pat : Loader
  /-- The PCIe upstream function is up: its quad runs and its link is up (R498, R467). -/
  pcieUp : Bool
  /-- QUIET with CORES has stopped the harts (R388). -/
  coresStopped : Bool
  /-- The boot ROM has trained flex quad 2 as the upstream port of spec/22 R467. -/
  bootLink : Bool
  /-- The ring-time unit. -/
  time : TimeSync
  /-- AUD_MCLK divider in this cycle: ticks of a short period, long periods (R94). -/
  mclkPeriods : Nat × Nat
  /-- TEST_N strap, sampled as PG0_GOOD rises (R464). -/
  testN : Bool
  /-- The twenty lanes. -/
  lanes : List LaneSt
  /-- Switch ports P0 to P11; the first eight are port units 0 to 7. -/
  ports : List PortSt
  /-- The module managers, east and west. -/
  mods : List ModSt
  /-- Link keys of the trunks: transmit key and salt, receive key and salt (spec/19 R419). -/
  linkKeys : List (Option (List (List Byte)))
  /-- Tunnel entries, by index; unlisted: never committed. -/
  tun : List (Nat × Entry)
  /-- Shadow words by index × 4 + word, unlisted at their reset value (R160). -/
  shadow : List (Nat × Word)
  /-- The switch core and shared buffer. -/
  swb : Switch
  /-- The schedulers. -/
  sch : Sched
  /-- Allotment banks and changes. -/
  alt : Allot
  /-- The ring engine. -/
  rng : Ring
  /-- The audio engine. -/
  aud : Audio
  /-- State channels and check-value units. -/
  stc : Stc
  /-- Bridge links. -/
  links : List BridgeLink
  /-- The posted-write ledger, newest first, at most 64 (spec/13 R305). -/
  ledger : List LedgerEntry
  /-- The MSI-X table of BAR 2 of the management function (spec/13 R294). -/
  msixTable : Mem
  /-- Learned Ethernet addresses, at most 4,096 (spec/14 R325). -/
  learn : List Learned
  /-- DP quads. -/
  dp : List DpQuad
  /-- Ethernet MACs, by 4q + k. -/
  macs : List MacSt
  /-- The key engine. -/
  keys : Keys
  /-- The event counters by ID, 48 bits each, zero when unlisted (R429). -/
  counters : List (Nat × Nat)
  /-- IDs that wrapped since the last dump (R436). -/
  wrapped : List Nat
  /-- The dump being written (R437). -/
  snapshot : Option Snapshot
  /-- Sampling of queues, by entry × 4 + queue (R208). -/
  queueStats : List (Nat × QueueStat)
  /-- Harts whose latched sample address was not read, bit h (R434). -/
  sampUnread : Nat
  /-- Harts with local interrupt 16 pending in mip, bit h (R434). -/
  mip16 : Nat
  /-- The night-test sequencer (spec/21). -/
  nts : Night
  deriving DecidableEq, Repr

def Bolt.reset : Bolt where
  ctl := Control.reset
  sram := []
  held := []
  heldDropped := 0
  heldItems := []
  running := false
  pat := Loader.reset
  pcieUp := false
  coresStopped := false
  bootLink := false
  time := TimeSync.reset
  mclkPeriods := (0, 0)
  testN := true
  lanes := List.replicate 20 LaneSt.reset
  ports := List.replicate 12 PortSt.reset
  mods := [ModSt.reset, ModSt.reset]
  linkKeys := [none, none]
  tun := []
  shadow := []
  swb := Switch.reset
  sch := Sched.reset
  alt := Allot.reset
  rng := Ring.reset
  aud := Audio.reset
  stc := Stc.reset
  links := List.replicate 32 BridgeLink.reset0
  ledger := []
  msixTable := []
  learn := []
  dp := List.replicate 3 DpQuad.reset
  macs := List.replicate 12 ⟨0, []⟩
  keys := Keys.reset
  counters := []
  wrapped := []
  snapshot := none
  queueStats := []
  sampUnread := 0
  mip16 := 0
  nts := Night.reset

/-- What the spool die holds beside its registers; kept while VDD_AON is up (spec/01 R24). -/
structure Spool where
  /-- The spool die's end of the seam. -/
  seam : SeamEnd
  /-- Register writes the spool die has applied since the last recovery (R43). -/
  applied : Nat
  /-- NVS bytes (R439). -/
  nvs : Mem
  /-- NVS writes: the one in progress, then those that wait (R449). -/
  nvsQueue : List NvsOp
  /-- Fault-log slot written next (R443). -/
  logNext : Nat
  /-- SEQ of the next fault-log record. -/
  logSeq : Nat
  /-- Valid fault-log records. -/
  logCount : Nat
  /-- SEQ of the next progress record. -/
  progSeq : Nat
  /-- Lantern time in ms since VDD_AON power-on (R395). -/
  timeMs : Nat
  /-- A full load has committed since VDD_AON power-on (R67, R471). -/
  committedOnce : Bool
  /-- Pending copies of RWE registers of gates that are ON, by address (R60). -/
  gatePending : List (Nat × Word)
  /-- PINMUX entries of SPL_IO balls, which the spool die applies (R54, spec/23 R492). -/
  splPins : List (Nat × Nat × Nat)
  /-- VDD_AON is up. -/
  aon : Bool
  /-- REFCLK is present and within tolerance (R95). -/
  refclk : Bool
  /-- The spool die runs from the backup oscillator (R95). -/
  backupClk : Bool
  /-- The bolt die is held in reset for clock loss (R95). -/
  boltHeld : Bool
  /-- The USB hub. -/
  usb : Usb
  /-- Strap balls BOOT_SRC[1:0], MASTER_OK, TEST_N as the board ties them (spec/22 R464). -/
  straps : Nat
  /-- The straps as sampled when PG0_GOOD last rose. -/
  strapsKept : Nat
  /-- Power gates. -/
  gates : List GateSt
  /-- Dock ports. -/
  docks : List DockPort
  /-- The power-state controller. -/
  pwr : Pwr
  /-- The lantern. -/
  lan : Lantern
  /-- The response owed to KEY is a ZEROISE (R423, R424). -/
  pendingZero : Bool
  /-- Tamper events since the last lantern cycle, for rule source 32 (R422). -/
  tamperCount : Nat
  deriving DecidableEq, Repr

def Spool.reset : Spool where
  seam := SeamEnd.reset
  applied := 0
  nvs := []
  nvsQueue := []
  logNext := 0
  logSeq := 0
  logCount := 0
  progSeq := 0
  timeMs := 0
  committedOnce := false
  gatePending := []
  splPins := []
  aon := false
  refclk := true
  backupClk := false
  boltHeld := false
  usb := Usb.reset
  straps := 0
  strapsKept := 0
  gates := List.replicate 7 GateSt.reset
  docks := List.replicate 6 DockPort.reset
  pwr := Pwr.reset
  lan := Lantern.reset
  pendingZero := false
  tamperCount := 0

/-- The state of the hub. -/
structure State where
  /-- Register words by address, rising, none equal to its reset word. -/
  regs : List (Nat × Word)
  bolt : Bolt
  spool : Spool
  /-- The QSPI flash device, by offset. -/
  flash : Mem
  /-- The fuses. -/
  fuses : Fuses
  /-- The number of the next free value; the model's own field (assumption log 3). -/
  free : Nat
  /-- What was sent out, newest first. -/
  out : List Output
  /-- Commands waiting, first in first out. -/
  pending : List Instr
  deriving DecidableEq, Repr

/-- The machine right after reset: nothing listed, nothing sent, nothing waiting. -/
def State.reset : State where
  regs := []
  bolt := Bolt.reset
  spool := Spool.reset
  flash := []
  fuses := Fuses.reset
  free := 0
  out := []
  pending := []

end Sys2Proof.Machine
end

