-- ==== Sys2Proof/Machine/RegNames.lean ====
section
/-! DEFINITION. The register map: the address of every register and the place of every named field, written out from
the register tables of spec/ (the docstring of each register names it and the rule before its table).  `R.X i` is the
address of register X (of instance i), `F.X_Y i` its field Y. -/

namespace Sys2Proof.Machine

/-- TOP_HART_RELEASE, R26. -/
abbrev R.TOP_HART_RELEASE : Nat := 0x40000010
abbrev F.TOP_HART_RELEASE_HART0 : Fld := ⟨R.TOP_HART_RELEASE, 0, 1⟩
abbrev F.TOP_HART_RELEASE_HARTS : Fld := ⟨R.TOP_HART_RELEASE, 1, 3⟩
/-- TOP_HART_ENTRY_LO, R26. -/
abbrev R.TOP_HART_ENTRY_LO : Nat := 0x40000018
abbrev F.TOP_HART_ENTRY_LO_ADDR : Fld := ⟨R.TOP_HART_ENTRY_LO, 0, 32⟩
/-- TOP_HART_ENTRY_HI, R26. -/
abbrev R.TOP_HART_ENTRY_HI : Nat := 0x4000001C
abbrev F.TOP_HART_ENTRY_HI_ADDR : Fld := ⟨R.TOP_HART_ENTRY_HI, 0, 32⟩
/-- TOP_HOST_TOKEN, R29. -/
abbrev R.TOP_HOST_TOKEN : Nat := 0x40000100
abbrev F.TOP_HOST_TOKEN_OWNER : Fld := ⟨R.TOP_HOST_TOKEN, 0, 2⟩
abbrev F.TOP_HOST_TOKEN_NEXT : Fld := ⟨R.TOP_HOST_TOKEN, 4, 2⟩
abbrev F.TOP_HOST_TOKEN_RELEASE : Fld := ⟨R.TOP_HOST_TOKEN, 8, 1⟩
abbrev F.TOP_HOST_TOKEN_REQ_SPI : Fld := ⟨R.TOP_HOST_TOKEN, 12, 1⟩
abbrev F.TOP_HOST_TOKEN_REQ_PCIE : Fld := ⟨R.TOP_HOST_TOKEN, 13, 1⟩
abbrev F.TOP_HOST_TOKEN_DENY : Fld := ⟨R.TOP_HOST_TOKEN, 16, 1⟩
abbrev F.TOP_HOST_TOKEN_EPOCH : Fld := ⟨R.TOP_HOST_TOKEN, 24, 8⟩
/-- TOP_HOST_HB, R29. -/
abbrev R.TOP_HOST_HB : Nat := 0x40000104
abbrev F.TOP_HOST_HB_PERIOD_MS : Fld := ⟨R.TOP_HOST_HB, 0, 16⟩
abbrev F.TOP_HOST_HB_BEAT : Fld := ⟨R.TOP_HOST_HB, 31, 1⟩
/-- TOP_REFUSE, R29. -/
abbrev R.TOP_REFUSE : Nat := 0x40000108
abbrev F.TOP_REFUSE_REASON : Fld := ⟨R.TOP_REFUSE, 0, 16⟩
abbrev F.TOP_REFUSE_DETAIL : Fld := ⟨R.TOP_REFUSE, 16, 16⟩
/-- SEAM_CTRL, R44. -/
abbrev R.SEAM_CTRL : Nat := 0x41000100
abbrev F.SEAM_CTRL_AUTO_RETRAIN : Fld := ⟨R.SEAM_CTRL, 0, 1⟩
abbrev F.SEAM_CTRL_RETRAIN : Fld := ⟨R.SEAM_CTRL, 1, 1⟩
/-- SEAM_STATUS, R44. -/
abbrev R.SEAM_STATUS : Nat := 0x41000104
abbrev F.SEAM_STATUS_UP : Fld := ⟨R.SEAM_STATUS, 0, 1⟩
abbrev F.SEAM_STATUS_SNAPSHOT_DONE : Fld := ⟨R.SEAM_STATUS, 1, 1⟩
/-- SEAM_RETRY_CNT, R44. -/
abbrev R.SEAM_RETRY_CNT : Nat := 0x41000108
abbrev F.SEAM_RETRY_CNT_COUNT : Fld := ⟨R.SEAM_RETRY_CNT, 0, 32⟩
/-- SEAM_DOWN_CNT, R44. -/
abbrev R.SEAM_DOWN_CNT : Nat := 0x4100010C
abbrev F.SEAM_DOWN_CNT_COUNT : Fld := ⟨R.SEAM_DOWN_CNT, 0, 16⟩
/-- SEAM_LOST_WR, R44. -/
abbrev R.SEAM_LOST_WR : Nat := 0x41000110
abbrev F.SEAM_LOST_WR_COUNT : Fld := ⟨R.SEAM_LOST_WR, 0, 5⟩
/-- SEAM_LOST_WR_ADDR, R44. -/
abbrev R.SEAM_LOST_WR_ADDR : Nat := 0x41000114
abbrev F.SEAM_LOST_WR_ADDR_ADDR : Fld := ⟨R.SEAM_LOST_WR_ADDR, 0, 32⟩
/-- PAT_CTRL, R75. -/
abbrev R.PAT_CTRL : Nat := 0x40100100
abbrev F.PAT_CTRL_ENABLE : Fld := ⟨R.PAT_CTRL, 0, 1⟩
abbrev F.PAT_CTRL_CHECK_ONLY : Fld := ⟨R.PAT_CTRL, 1, 1⟩
abbrev F.PAT_CTRL_SRC : Fld := ⟨R.PAT_CTRL, 2, 2⟩
/-- PAT_STATUS, R75. -/
abbrev R.PAT_STATUS : Nat := 0x40100104
abbrev F.PAT_STATUS_STATE : Fld := ⟨R.PAT_STATUS, 0, 2⟩
abbrev F.PAT_STATUS_STOPPING : Fld := ⟨R.PAT_STATUS, 2, 1⟩
abbrev F.PAT_STATUS_STEP : Fld := ⟨R.PAT_STATUS, 3, 4⟩
abbrev F.PAT_STATUS_UNOWNED : Fld := ⟨R.PAT_STATUS, 7, 1⟩
abbrev F.PAT_STATUS_STRUCTURE : Fld := ⟨R.PAT_STATUS, 8, 2⟩
abbrev F.PAT_STATUS_PAUSED : Fld := ⟨R.PAT_STATUS, 10, 1⟩
/-- PAT_REFUSE, R75. -/
abbrev R.PAT_REFUSE : Nat := 0x40100108
abbrev F.PAT_REFUSE_REASON : Fld := ⟨R.PAT_REFUSE, 0, 16⟩
abbrev F.PAT_REFUSE_DETAIL : Fld := ⟨R.PAT_REFUSE, 16, 16⟩
/-- PAT_UNIT_REASON, R75. -/
abbrev R.PAT_UNIT_REASON : Nat := 0x4010010C
abbrev F.PAT_UNIT_REASON_REASON : Fld := ⟨R.PAT_UNIT_REASON, 0, 16⟩
abbrev F.PAT_UNIT_REASON_DETAIL : Fld := ⟨R.PAT_UNIT_REASON, 16, 16⟩
/-- PAT_SRC_ADDR, R75. -/
abbrev R.PAT_SRC_ADDR : Nat := 0x40100110
abbrev F.PAT_SRC_ADDR_ADDR : Fld := ⟨R.PAT_SRC_ADDR, 0, 32⟩
/-- PAT_ERR_OFFSET, R75. -/
abbrev R.PAT_ERR_OFFSET : Nat := 0x40100114
abbrev F.PAT_ERR_OFFSET_OFFSET : Fld := ⟨R.PAT_ERR_OFFSET, 0, 32⟩
/-- PAT_SERIAL, R75. -/
abbrev R.PAT_SERIAL : Nat := 0x40100118
abbrev F.PAT_SERIAL_SERIAL : Fld := ⟨R.PAT_SERIAL, 0, 32⟩
/-- PAT_SITE, R75. -/
abbrev R.PAT_SITE : Nat := 0x4010011C
abbrev F.PAT_SITE_SITE_ID : Fld := ⟨R.PAT_SITE, 0, 32⟩
/-- PAT_DIGEST0–PAT_DIGEST11, R75. -/
abbrev R.PAT_DIGEST (i : Nat) : Nat := 0x40100120 + 0x4 * i
abbrev F.PAT_DIGEST_WORD (i : Nat) : Fld := ⟨R.PAT_DIGEST i, 0, 32⟩
/-- PAT_FLOOR, R75. -/
abbrev R.PAT_FLOOR : Nat := 0x40100150
abbrev F.PAT_FLOOR_SERIAL : Fld := ⟨R.PAT_FLOOR, 0, 32⟩
/-- PAT_FWDATA_SEL, R75. -/
abbrev R.PAT_FWDATA_SEL : Nat := 0x40100154
abbrev F.PAT_FWDATA_SEL_INSTANCE : Fld := ⟨R.PAT_FWDATA_SEL, 0, 4⟩
/-- PAT_FWDATA_OFFSET, R75. -/
abbrev R.PAT_FWDATA_OFFSET : Nat := 0x40100158
abbrev F.PAT_FWDATA_OFFSET_OFFSET : Fld := ⟨R.PAT_FWDATA_OFFSET, 0, 32⟩
/-- PAT_FWDATA_LEN, R75. -/
abbrev R.PAT_FWDATA_LEN : Nat := 0x4010015C
abbrev F.PAT_FWDATA_LEN_LENGTH : Fld := ⟨R.PAT_FWDATA_LEN, 0, 32⟩
/-- PAT_WARM, R75. -/
abbrev R.PAT_WARM : Nat := 0x40100160
abbrev F.PAT_WARM_ACTIVE : Fld := ⟨R.PAT_WARM, 0, 1⟩
abbrev F.PAT_WARM_VALID0 : Fld := ⟨R.PAT_WARM, 1, 1⟩
abbrev F.PAT_WARM_VALID1 : Fld := ⟨R.PAT_WARM, 2, 1⟩
/-- PAT_WARM_LEN, R75. -/
abbrev R.PAT_WARM_LEN : Nat := 0x40100164
abbrev F.PAT_WARM_LEN_LENGTH : Fld := ⟨R.PAT_WARM_LEN, 0, 32⟩
/-- CLK_CTRL, R96. -/
abbrev R.CLK_CTRL : Nat := 0x40200100
abbrev F.CLK_CTRL_ENABLE : Fld := ⟨R.CLK_CTRL, 0, 1⟩
abbrev F.CLK_CTRL_PPS_EN : Fld := ⟨R.CLK_CTRL, 1, 1⟩
abbrev F.CLK_CTRL_PPS_EDGE : Fld := ⟨R.CLK_CTRL, 2, 1⟩
abbrev F.CLK_CTRL_PPS_OUT_EN : Fld := ⟨R.CLK_CTRL, 3, 1⟩
/-- CLK_STATUS, R96. -/
abbrev R.CLK_STATUS : Nat := 0x40200104
abbrev F.CLK_STATUS_STATE : Fld := ⟨R.CLK_STATUS, 0, 2⟩
abbrev F.CLK_STATUS_STOPPING : Fld := ⟨R.CLK_STATUS, 2, 1⟩
abbrev F.CLK_STATUS_SYNC : Fld := ⟨R.CLK_STATUS, 3, 3⟩
abbrev F.CLK_STATUS_SOURCE : Fld := ⟨R.CLK_STATUS, 6, 1⟩
abbrev F.CLK_STATUS_PLL_LOCK : Fld := ⟨R.CLK_STATUS, 7, 1⟩
abbrev F.CLK_STATUS_REFCLK_OK : Fld := ⟨R.CLK_STATUS, 8, 1⟩
abbrev F.CLK_STATUS_PCIE_REF_OK : Fld := ⟨R.CLK_STATUS, 9, 3⟩
abbrev F.CLK_STATUS_HOLDOVER_LONG : Fld := ⟨R.CLK_STATUS, 12, 1⟩
/-- CLK_REFUSE, R96. -/
abbrev R.CLK_REFUSE : Nat := 0x40200108
abbrev F.CLK_REFUSE_REASON : Fld := ⟨R.CLK_REFUSE, 0, 16⟩
abbrev F.CLK_REFUSE_DETAIL : Fld := ⟨R.CLK_REFUSE, 16, 16⟩
/-- CLK_RT_NS_LO, R96. -/
abbrev R.CLK_RT_NS_LO : Nat := 0x40200110
abbrev F.CLK_RT_NS_LO_NS : Fld := ⟨R.CLK_RT_NS_LO, 0, 32⟩
/-- CLK_RT_NS_HI, R96. -/
abbrev R.CLK_RT_NS_HI : Nat := 0x40200114
abbrev F.CLK_RT_NS_HI_NS : Fld := ⟨R.CLK_RT_NS_HI, 0, 32⟩
/-- CLK_RT_SUB, R96. -/
abbrev R.CLK_RT_SUB : Nat := 0x40200118
abbrev F.CLK_RT_SUB_SUB : Fld := ⟨R.CLK_RT_SUB, 0, 8⟩
/-- CLK_CYCLE, R96. -/
abbrev R.CLK_CYCLE : Nat := 0x4020011C
abbrev F.CLK_CYCLE_CYCLE : Fld := ⟨R.CLK_CYCLE, 0, 32⟩
/-- CLK_RT_LOAD_LO, R96. -/
abbrev R.CLK_RT_LOAD_LO : Nat := 0x40200120
abbrev F.CLK_RT_LOAD_LO_NS : Fld := ⟨R.CLK_RT_LOAD_LO, 0, 32⟩
/-- CLK_RT_LOAD_HI, R96. -/
abbrev R.CLK_RT_LOAD_HI : Nat := 0x40200124
abbrev F.CLK_RT_LOAD_HI_NS : Fld := ⟨R.CLK_RT_LOAD_HI, 0, 32⟩
/-- CLK_RATE, R96. -/
abbrev R.CLK_RATE : Nat := 0x40200128
abbrev F.CLK_RATE_RATE : Fld := ⟨R.CLK_RATE, 0, 32⟩
/-- CLK_OFFSET, R96. -/
abbrev R.CLK_OFFSET : Nat := 0x4020012C
abbrev F.CLK_OFFSET_OFFSET : Fld := ⟨R.CLK_OFFSET, 0, 32⟩
/-- CLK_HOPS, R96. -/
abbrev R.CLK_HOPS : Nat := 0x40200130
abbrev F.CLK_HOPS_HOPS : Fld := ⟨R.CLK_HOPS, 0, 8⟩
abbrev F.CLK_HOPS_MASTER : Fld := ⟨R.CLK_HOPS, 8, 8⟩
/-- CLK_DELAY_E, R96. -/
abbrev R.CLK_DELAY_E : Nat := 0x40200134
abbrev F.CLK_DELAY_E_DELAY : Fld := ⟨R.CLK_DELAY_E, 0, 32⟩
/-- CLK_DELAY_W, R96. -/
abbrev R.CLK_DELAY_W : Nat := 0x40200138
abbrev F.CLK_DELAY_W_DELAY : Fld := ⟨R.CLK_DELAY_W, 0, 32⟩
/-- CLK_ASYM_E, R96. -/
abbrev R.CLK_ASYM_E : Nat := 0x4020013C
abbrev F.CLK_ASYM_E_ASYM : Fld := ⟨R.CLK_ASYM_E, 0, 16⟩
/-- CLK_ASYM_W, R96. -/
abbrev R.CLK_ASYM_W : Nat := 0x40200140
abbrev F.CLK_ASYM_W_ASYM : Fld := ⟨R.CLK_ASYM_W, 0, 16⟩
/-- CLK_SERVO, R96. -/
abbrev R.CLK_SERVO : Nat := 0x40200144
abbrev F.CLK_SERVO_KP_SHIFT : Fld := ⟨R.CLK_SERVO, 0, 4⟩
abbrev F.CLK_SERVO_KI_SHIFT : Fld := ⟨R.CLK_SERVO, 4, 4⟩
abbrev F.CLK_SERVO_SLEW_PPM : Fld := ⟨R.CLK_SERVO, 8, 8⟩
/-- CLK_PPS_OFFSET, R96. -/
abbrev R.CLK_PPS_OFFSET : Nat := 0x40200148
abbrev F.CLK_PPS_OFFSET_NS : Fld := ⟨R.CLK_PPS_OFFSET, 0, 32⟩
/-- CLK_PPS_ERR, R96. -/
abbrev R.CLK_PPS_ERR : Nat := 0x4020014C
abbrev F.CLK_PPS_ERR_ERR : Fld := ⟨R.CLK_PPS_ERR, 0, 32⟩
/-- CLK_EB_E, R96. -/
abbrev R.CLK_EB_E : Nat := 0x40200150
abbrev F.CLK_EB_E_INSERT : Fld := ⟨R.CLK_EB_E, 0, 16⟩
abbrev F.CLK_EB_E_DELETE : Fld := ⟨R.CLK_EB_E, 16, 16⟩
/-- CLK_EB_W, R96. -/
abbrev R.CLK_EB_W : Nat := 0x40200154
abbrev F.CLK_EB_W_INSERT : Fld := ⟨R.CLK_EB_W, 0, 16⟩
abbrev F.CLK_EB_W_DELETE : Fld := ⟨R.CLK_EB_W, 16, 16⟩
/-- CLK_SLIP_CNT, R96. -/
abbrev R.CLK_SLIP_CNT : Nat := 0x40200158
abbrev F.CLK_SLIP_CNT_SLIP : Fld := ⟨R.CLK_SLIP_CNT, 0, 16⟩
abbrev F.CLK_SLIP_CNT_DISCARD : Fld := ⟨R.CLK_SLIP_CNT, 16, 16⟩
/-- CLK_CYCLE_INT, R96. -/
abbrev R.CLK_CYCLE_INT : Nat := 0x4020015C
abbrev F.CLK_CYCLE_INT_DIV : Fld := ⟨R.CLK_CYCLE_INT, 0, 16⟩
/-- LANE_TACK_CFG, R129. -/
abbrev R.LANE_TACK_CFG : Nat := 0x40300100
abbrev F.LANE_TACK_CFG_ALLOW : Fld := ⟨R.LANE_TACK_CFG, 0, 16⟩
abbrev F.LANE_TACK_CFG_CLEAR_INTERVALS : Fld := ⟨R.LANE_TACK_CFG, 16, 4⟩
/-- LANE_PORT_SUMMARY, R129. -/
abbrev R.LANE_PORT_SUMMARY : Nat := 0x40300104
abbrev F.LANE_PORT_SUMMARY_UP : Fld := ⟨R.LANE_PORT_SUMMARY, 0, 8⟩
abbrev F.LANE_PORT_SUMMARY_PRESSURE : Fld := ⟨R.LANE_PORT_SUMMARY, 8, 8⟩
/-- LANE_PORTn_CTRL, R129. -/
abbrev R.LANE_PORT_CTRL (i : Nat) : Nat := 0x40301000 + 0x40 * i
abbrev F.LANE_PORT_CTRL_ENABLE (i : Nat) : Fld := ⟨R.LANE_PORT_CTRL i, 0, 1⟩
abbrev F.LANE_PORT_CTRL_HALF_RATE (i : Nat) : Fld := ⟨R.LANE_PORT_CTRL i, 1, 1⟩
abbrev F.LANE_PORT_CTRL_FALLBACK (i : Nat) : Fld := ⟨R.LANE_PORT_CTRL i, 2, 1⟩
/-- LANE_PORTn_STATUS, R129. -/
abbrev R.LANE_PORT_STATUS (i : Nat) : Nat := 0x40301004 + 0x40 * i
abbrev F.LANE_PORT_STATUS_STATE (i : Nat) : Fld := ⟨R.LANE_PORT_STATUS i, 0, 2⟩
abbrev F.LANE_PORT_STATUS_STOPPING (i : Nat) : Fld := ⟨R.LANE_PORT_STATUS i, 2, 1⟩
abbrev F.LANE_PORT_STATUS_BRING (i : Nat) : Fld := ⟨R.LANE_PORT_STATUS i, 3, 4⟩
abbrev F.LANE_PORT_STATUS_HALF (i : Nat) : Fld := ⟨R.LANE_PORT_STATUS i, 7, 1⟩
abbrev F.LANE_PORT_STATUS_PRESSURE (i : Nat) : Fld := ⟨R.LANE_PORT_STATUS i, 8, 1⟩
abbrev F.LANE_PORT_STATUS_LANES_LOCKED (i : Nat) : Fld := ⟨R.LANE_PORT_STATUS i, 9, 4⟩
/-- LANE_PORTn_REFUSE, R129. -/
abbrev R.LANE_PORT_REFUSE (i : Nat) : Nat := 0x40301008 + 0x40 * i
abbrev F.LANE_PORT_REFUSE_REASON (i : Nat) : Fld := ⟨R.LANE_PORT_REFUSE i, 0, 16⟩
abbrev F.LANE_PORT_REFUSE_DETAIL (i : Nat) : Fld := ⟨R.LANE_PORT_REFUSE i, 16, 16⟩
/-- LANE_PORTn_ATTEMPT, R129. -/
abbrev R.LANE_PORT_ATTEMPT (i : Nat) : Nat := 0x4030100C + 0x40 * i
abbrev F.LANE_PORT_ATTEMPT_COUNT (i : Nat) : Fld := ⟨R.LANE_PORT_ATTEMPT i, 0, 16⟩
abbrev F.LANE_PORT_ATTEMPT_LAST_FAIL (i : Nat) : Fld := ⟨R.LANE_PORT_ATTEMPT i, 16, 4⟩
/-- LANE_PORTn_PARTNER, R129. -/
abbrev R.LANE_PORT_PARTNER (i : Nat) : Nat := 0x40301010 + 0x40 * i
abbrev F.LANE_PORT_PARTNER_RX_STATE (i : Nat) : Fld := ⟨R.LANE_PORT_PARTNER i, 0, 4⟩
abbrev F.LANE_PORT_PARTNER_KIND (i : Nat) : Fld := ⟨R.LANE_PORT_PARTNER i, 4, 2⟩
abbrev F.LANE_PORT_PARTNER_LANES_M1 (i : Nat) : Fld := ⟨R.LANE_PORT_PARTNER i, 6, 2⟩
abbrev F.LANE_PORT_PARTNER_HALF (i : Nat) : Fld := ⟨R.LANE_PORT_PARTNER i, 8, 1⟩
abbrev F.LANE_PORT_PARTNER_FALLBACK (i : Nat) : Fld := ⟨R.LANE_PORT_PARTNER i, 9, 1⟩
abbrev F.LANE_PORT_PARTNER_ENC_REQ (i : Nat) : Fld := ⟨R.LANE_PORT_PARTNER i, 10, 1⟩
/-- LANE_PORTn_SKEW, R129. -/
abbrev R.LANE_PORT_SKEW (i : Nat) : Nat := 0x40301014 + 0x40 * i
abbrev F.LANE_PORT_SKEW_SKEW (i : Nat) : Fld := ⟨R.LANE_PORT_SKEW i, 0, 32⟩
/-- LANE_PORTn_TACK_MAX, R129. -/
abbrev R.LANE_PORT_TACK_MAX (i : Nat) : Nat := 0x40301018 + 0x40 * i
abbrev F.LANE_PORT_TACK_MAX_T_MAX (i : Nat) : Fld := ⟨R.LANE_PORT_TACK_MAX i, 0, 16⟩
abbrev F.LANE_PORT_TACK_MAX_PEAK (i : Nat) : Fld := ⟨R.LANE_PORT_TACK_MAX i, 16, 16⟩
/-- LANE_PORTn_TRUE_RATE, R129. -/
abbrev R.LANE_PORT_TRUE_RATE (i : Nat) : Nat := 0x4030101C + 0x40 * i
abbrev F.LANE_PORT_TRUE_RATE_RATE (i : Nat) : Fld := ⟨R.LANE_PORT_TRUE_RATE i, 0, 24⟩
/-- LANE_PORTn_DOWN_CNT, R129. -/
abbrev R.LANE_PORT_DOWN_CNT (i : Nat) : Nat := 0x40301020 + 0x40 * i
abbrev F.LANE_PORT_DOWN_CNT_LOCK_LOST (i : Nat) : Fld := ⟨R.LANE_PORT_DOWN_CNT i, 0, 16⟩
abbrev F.LANE_PORT_DOWN_CNT_DESKEW_LOST (i : Nat) : Fld := ⟨R.LANE_PORT_DOWN_CNT i, 16, 16⟩
/-- LANE_PORTn_CTRL_DROP, R129. -/
abbrev R.LANE_PORT_CTRL_DROP (i : Nat) : Nat := 0x40301024 + 0x40 * i
abbrev F.LANE_PORT_CTRL_DROP_KIND_UNKNOWN (i : Nat) : Fld := ⟨R.LANE_PORT_CTRL_DROP i, 0, 16⟩
abbrev F.LANE_PORT_CTRL_DROP_CTRL_BAD_CHK (i : Nat) : Fld := ⟨R.LANE_PORT_CTRL_DROP i, 16, 16⟩
/-- LANE_PORTn_RX_RATE, R129. -/
abbrev R.LANE_PORT_RX_RATE (i : Nat) : Nat := 0x40301028 + 0x40 * i
abbrev F.LANE_PORT_RX_RATE_RATE (i : Nat) : Fld := ⟨R.LANE_PORT_RX_RATE i, 0, 24⟩
/-- LANE_MODt_CTRL, R129. -/
abbrev R.LANE_MOD_CTRL (i : Nat) : Nat := 0x40302000 + 0x40 * i
abbrev F.LANE_MOD_CTRL_AUTO (i : Nat) : Fld := ⟨R.LANE_MOD_CTRL i, 0, 1⟩
abbrev F.LANE_MOD_CTRL_RESET (i : Nat) : Fld := ⟨R.LANE_MOD_CTRL i, 1, 1⟩
abbrev F.LANE_MOD_CTRL_LPMODE (i : Nat) : Fld := ⟨R.LANE_MOD_CTRL i, 2, 1⟩
abbrev F.LANE_MOD_CTRL_FAST (i : Nat) : Fld := ⟨R.LANE_MOD_CTRL i, 3, 1⟩
abbrev F.LANE_MOD_CTRL_POLL_MS (i : Nat) : Fld := ⟨R.LANE_MOD_CTRL i, 4, 8⟩
/-- LANE_MODt_STATUS, R129. -/
abbrev R.LANE_MOD_STATUS (i : Nat) : Nat := 0x40302004 + 0x40 * i
abbrev F.LANE_MOD_STATUS_PRESENT (i : Nat) : Fld := ⟨R.LANE_MOD_STATUS i, 0, 1⟩
abbrev F.LANE_MOD_STATUS_INT (i : Nat) : Fld := ⟨R.LANE_MOD_STATUS i, 1, 1⟩
abbrev F.LANE_MOD_STATUS_READY (i : Nat) : Fld := ⟨R.LANE_MOD_STATUS i, 2, 1⟩
abbrev F.LANE_MOD_STATUS_RX_LOS (i : Nat) : Fld := ⟨R.LANE_MOD_STATUS i, 4, 4⟩
abbrev F.LANE_MOD_STATUS_TX_LOS (i : Nat) : Fld := ⟨R.LANE_MOD_STATUS i, 8, 4⟩
abbrev F.LANE_MOD_STATUS_TEMP (i : Nat) : Fld := ⟨R.LANE_MOD_STATUS i, 12, 16⟩
/-- LANE_MODt_CMD, R129. -/
abbrev R.LANE_MOD_CMD (i : Nat) : Nat := 0x40302008 + 0x40 * i
abbrev F.LANE_MOD_CMD_OFFSET (i : Nat) : Fld := ⟨R.LANE_MOD_CMD i, 0, 8⟩
abbrev F.LANE_MOD_CMD_WRITE (i : Nat) : Fld := ⟨R.LANE_MOD_CMD i, 8, 1⟩
abbrev F.LANE_MOD_CMD_GO (i : Nat) : Fld := ⟨R.LANE_MOD_CMD i, 9, 1⟩
/-- LANE_MODt_DATA, R129. -/
abbrev R.LANE_MOD_DATA (i : Nat) : Nat := 0x4030200C + 0x40 * i
abbrev F.LANE_MOD_DATA_DATA (i : Nat) : Fld := ⟨R.LANE_MOD_DATA i, 0, 8⟩
abbrev F.LANE_MOD_DATA_NACK (i : Nat) : Fld := ⟨R.LANE_MOD_DATA i, 8, 1⟩
/-- LANEn_STATUS, R129. -/
abbrev R.LANE_STATUS (i : Nat) : Nat := 0x40304000 + 0x100 * i
abbrev F.LANE_STATUS_SIGDET (i : Nat) : Fld := ⟨R.LANE_STATUS i, 0, 1⟩
abbrev F.LANE_STATUS_CDR_LOCK (i : Nat) : Fld := ⟨R.LANE_STATUS i, 1, 1⟩
abbrev F.LANE_STATUS_BLOCK_LOCK (i : Nat) : Fld := ⟨R.LANE_STATUS i, 2, 1⟩
abbrev F.LANE_STATUS_RX_INV (i : Nat) : Fld := ⟨R.LANE_STATUS i, 3, 1⟩
abbrev F.LANE_STATUS_POS (i : Nat) : Fld := ⟨R.LANE_STATUS i, 4, 2⟩
abbrev F.LANE_STATUS_SCR_LOCK (i : Nat) : Fld := ⟨R.LANE_STATUS i, 6, 1⟩
abbrev F.LANE_STATUS_EQ_DONE (i : Nat) : Fld := ⟨R.LANE_STATUS i, 7, 1⟩
/-- LANEn_TX, R129. -/
abbrev R.LANE_TX (i : Nat) : Nat := 0x40304004 + 0x100 * i
abbrev F.LANE_TX_SWING (i : Nat) : Fld := ⟨R.LANE_TX i, 0, 4⟩
abbrev F.LANE_TX_PRE (i : Nat) : Fld := ⟨R.LANE_TX i, 4, 4⟩
abbrev F.LANE_TX_POST (i : Nat) : Fld := ⟨R.LANE_TX i, 8, 5⟩
abbrev F.LANE_TX_TX_INV (i : Nat) : Fld := ⟨R.LANE_TX i, 13, 1⟩
/-- LANEn_RX, R129. -/
abbrev R.LANE_RX (i : Nat) : Nat := 0x40304008 + 0x100 * i
abbrev F.LANE_RX_CTLE_PRESET (i : Nat) : Fld := ⟨R.LANE_RX i, 0, 4⟩
abbrev F.LANE_RX_CTLE_AUTO (i : Nat) : Fld := ⟨R.LANE_RX i, 4, 1⟩
abbrev F.LANE_RX_CTLE (i : Nat) : Fld := ⟨R.LANE_RX i, 8, 4⟩
/-- LANEn_DFE_CTRL, R129. -/
abbrev R.LANE_DFE_CTRL (i : Nat) : Nat := 0x4030400C + 0x100 * i
abbrev F.LANE_DFE_CTRL_FREEZE (i : Nat) : Fld := ⟨R.LANE_DFE_CTRL i, 0, 1⟩
abbrev F.LANE_DFE_CTRL_LOAD (i : Nat) : Fld := ⟨R.LANE_DFE_CTRL i, 1, 1⟩
abbrev F.LANE_DFE_CTRL_MU_SHIFT (i : Nat) : Fld := ⟨R.LANE_DFE_CTRL i, 2, 4⟩
abbrev F.LANE_DFE_CTRL_START (i : Nat) : Fld := ⟨R.LANE_DFE_CTRL i, 6, 2⟩
abbrev F.LANE_DFE_CTRL_AUTO_FROZEN (i : Nat) : Fld := ⟨R.LANE_DFE_CTRL i, 8, 1⟩
/-- LANEn_DFE_TAP0–3, R129. -/
abbrev R.LANE_DFE_TAP (i : Nat) (j : Nat) : Nat := 0x40304010 + 0x100 * i + 0x4 * j
abbrev F.LANE_DFE_TAP_TAPS (i : Nat) (j : Nat) : Fld := ⟨R.LANE_DFE_TAP i j, 0, 24⟩
/-- LANEn_DFE_PRE0–3, R129. -/
abbrev R.LANE_DFE_PRE (i : Nat) (j : Nat) : Nat := 0x40304020 + 0x100 * i + 0x4 * j
abbrev F.LANE_DFE_PRE_TAPS (i : Nat) (j : Nat) : Fld := ⟨R.LANE_DFE_PRE i j, 0, 24⟩
/-- LANEn_PRBS_CTRL, R129. -/
abbrev R.LANE_PRBS_CTRL (i : Nat) : Nat := 0x40304030 + 0x100 * i
abbrev F.LANE_PRBS_CTRL_GEN (i : Nat) : Fld := ⟨R.LANE_PRBS_CTRL i, 0, 1⟩
abbrev F.LANE_PRBS_CTRL_CHK (i : Nat) : Fld := ⟨R.LANE_PRBS_CTRL i, 1, 1⟩
abbrev F.LANE_PRBS_CTRL_POLY (i : Nat) : Fld := ⟨R.LANE_PRBS_CTRL i, 2, 2⟩
abbrev F.LANE_PRBS_CTRL_INJECT (i : Nat) : Fld := ⟨R.LANE_PRBS_CTRL i, 4, 1⟩
abbrev F.LANE_PRBS_CTRL_CLEAR (i : Nat) : Fld := ⟨R.LANE_PRBS_CTRL i, 5, 1⟩
abbrev F.LANE_PRBS_CTRL_CHK_INV (i : Nat) : Fld := ⟨R.LANE_PRBS_CTRL i, 6, 1⟩
/-- LANEn_PRBS_STATUS, R129. -/
abbrev R.LANE_PRBS_STATUS (i : Nat) : Nat := 0x40304034 + 0x100 * i
abbrev F.LANE_PRBS_STATUS_LOCK (i : Nat) : Fld := ⟨R.LANE_PRBS_STATUS i, 0, 1⟩
abbrev F.LANE_PRBS_STATUS_RAW (i : Nat) : Fld := ⟨R.LANE_PRBS_STATUS i, 1, 1⟩
/-- LANE_PRBS_ERR_LO, R129. -/
abbrev R.LANE_PRBS_ERR_LO (i : Nat) : Nat := 0x40304038 + 0x100 * i
abbrev F.LANE_PRBS_ERR_LO_ERR (i : Nat) : Fld := ⟨R.LANE_PRBS_ERR_LO i, 0, 32⟩
/-- LANE_PRBS_ERR_HI, R129. -/
abbrev R.LANE_PRBS_ERR_HI (i : Nat) : Nat := 0x4030403C + 0x100 * i
abbrev F.LANE_PRBS_ERR_HI_ERR (i : Nat) : Fld := ⟨R.LANE_PRBS_ERR_HI i, 0, 16⟩
/-- LANE_PRBS_BITS_LO, R129. -/
abbrev R.LANE_PRBS_BITS_LO (i : Nat) : Nat := 0x40304040 + 0x100 * i
abbrev F.LANE_PRBS_BITS_LO_BITS (i : Nat) : Fld := ⟨R.LANE_PRBS_BITS_LO i, 0, 32⟩
/-- LANE_PRBS_BITS_HI, R129. -/
abbrev R.LANE_PRBS_BITS_HI (i : Nat) : Nat := 0x40304044 + 0x100 * i
abbrev F.LANE_PRBS_BITS_HI_BITS (i : Nat) : Fld := ⟨R.LANE_PRBS_BITS_HI i, 0, 16⟩
/-- LANE_IDLE_ERR_LO, R129. -/
abbrev R.LANE_IDLE_ERR_LO (i : Nat) : Nat := 0x40304048 + 0x100 * i
abbrev F.LANE_IDLE_ERR_LO_ERR (i : Nat) : Fld := ⟨R.LANE_IDLE_ERR_LO i, 0, 32⟩
/-- LANE_IDLE_ERR_HI, R129. -/
abbrev R.LANE_IDLE_ERR_HI (i : Nat) : Nat := 0x4030404C + 0x100 * i
abbrev F.LANE_IDLE_ERR_HI_ERR (i : Nat) : Fld := ⟨R.LANE_IDLE_ERR_HI i, 0, 16⟩
/-- LANE_IDLE_BITS_LO, R129. -/
abbrev R.LANE_IDLE_BITS_LO (i : Nat) : Nat := 0x40304050 + 0x100 * i
abbrev F.LANE_IDLE_BITS_LO_BITS (i : Nat) : Fld := ⟨R.LANE_IDLE_BITS_LO i, 0, 32⟩
/-- LANE_IDLE_BITS_HI, R129. -/
abbrev R.LANE_IDLE_BITS_HI (i : Nat) : Nat := 0x40304054 + 0x100 * i
abbrev F.LANE_IDLE_BITS_HI_BITS (i : Nat) : Fld := ⟨R.LANE_IDLE_BITS_HI i, 0, 16⟩
/-- LANEn_CHK_ERR, R129. -/
abbrev R.LANE_CHK_ERR (i : Nat) : Nat := 0x40304058 + 0x100 * i
abbrev F.LANE_CHK_ERR_COUNT (i : Nat) : Fld := ⟨R.LANE_CHK_ERR i, 0, 32⟩
/-- LANEn_TACK, R129. -/
abbrev R.LANE_TACK (i : Nat) : Nat := 0x4030405C + 0x100 * i
abbrev F.LANE_TACK_LAST (i : Nat) : Fld := ⟨R.LANE_TACK i, 0, 16⟩
abbrev F.LANE_TACK_VIOL (i : Nat) : Fld := ⟨R.LANE_TACK i, 16, 16⟩
/-- LANEn_SCR_SEED, R129. -/
abbrev R.LANE_SCR_SEED (i : Nat) : Nat := 0x40304060 + 0x100 * i
abbrev F.LANE_SCR_SEED_SEED (i : Nat) : Fld := ⟨R.LANE_SCR_SEED i, 0, 31⟩
/-- LANEn_SCR_ERR, R129. -/
abbrev R.LANE_SCR_ERR (i : Nat) : Nat := 0x40304064 + 0x100 * i
abbrev F.LANE_SCR_ERR_COUNT (i : Nat) : Fld := ⟨R.LANE_SCR_ERR i, 0, 16⟩
/-- TUN_CTRL, R160. -/
abbrev R.TUN_CTRL : Nat := 0x40400100
abbrev F.TUN_CTRL_ENABLE : Fld := ⟨R.TUN_CTRL, 0, 1⟩
/-- TUN_STATUS, R160. -/
abbrev R.TUN_STATUS : Nat := 0x40400104
abbrev F.TUN_STATUS_STATE : Fld := ⟨R.TUN_STATUS, 0, 2⟩
abbrev F.TUN_STATUS_STOPPING : Fld := ⟨R.TUN_STATUS, 2, 1⟩
abbrev F.TUN_STATUS_VALID : Fld := ⟨R.TUN_STATUS, 3, 11⟩
/-- TUN_REFUSE, R160. -/
abbrev R.TUN_REFUSE : Nat := 0x40400108
abbrev F.TUN_REFUSE_REASON : Fld := ⟨R.TUN_REFUSE, 0, 16⟩
abbrev F.TUN_REFUSE_DETAIL : Fld := ⟨R.TUN_REFUSE, 16, 16⟩
/-- TUN_ARQ_CFG, R160. -/
abbrev R.TUN_ARQ_CFG : Nat := 0x40400110
abbrev F.TUN_ARQ_CFG_ACK_EVERY : Fld := ⟨R.TUN_ARQ_CFG, 0, 6⟩
abbrev F.TUN_ARQ_CFG_RETRY_MAX : Fld := ⟨R.TUN_ARQ_CFG, 8, 8⟩
abbrev F.TUN_ARQ_CFG_PROG_S : Fld := ⟨R.TUN_ARQ_CFG, 16, 8⟩
/-- TUN_KNOT_CFG, R160. -/
abbrev R.TUN_KNOT_CFG : Nat := 0x40400114
abbrev F.TUN_KNOT_CFG_TIMEOUT : Fld := ⟨R.TUN_KNOT_CFG, 0, 8⟩
/-- TUN_HOLD, R160. -/
abbrev R.TUN_HOLD : Nat := 0x40400118
abbrev F.TUN_HOLD_ACTIVE : Fld := ⟨R.TUN_HOLD, 0, 7⟩
abbrev F.TUN_HOLD_OVERFLOW : Fld := ⟨R.TUN_HOLD, 16, 16⟩
/-- TUN_SHADOW_SEL, R160. -/
abbrev R.TUN_SHADOW_SEL : Nat := 0x40400120
abbrev F.TUN_SHADOW_SEL_INDEX : Fld := ⟨R.TUN_SHADOW_SEL, 0, 10⟩
/-- TUN_SHADOW0–2, R160. -/
abbrev R.TUN_SHADOW (i : Nat) : Nat := 0x40400124 + 0x4 * i
abbrev F.TUN_SHADOW_WORD (i : Nat) : Fld := ⟨R.TUN_SHADOW i, 0, 32⟩
/-- TUN_SHADOW3, R160. -/
abbrev R.TUN_SHADOW3 : Nat := 0x40400130
abbrev F.TUN_SHADOW3_WORD : Fld := ⟨R.TUN_SHADOW3, 0, 32⟩
/-- TUN_COMMIT, R160. -/
abbrev R.TUN_COMMIT : Nat := 0x40400140
abbrev F.TUN_COMMIT_INDEX : Fld := ⟨R.TUN_COMMIT, 0, 10⟩
abbrev F.TUN_COMMIT_AT_CYCLE : Fld := ⟨R.TUN_COMMIT, 16, 1⟩
abbrev F.TUN_COMMIT_INVALIDATE : Fld := ⟨R.TUN_COMMIT, 17, 1⟩
/-- TUN_COMMIT_STATUS, R160. -/
abbrev R.TUN_COMMIT_STATUS : Nat := 0x40400144
abbrev F.TUN_COMMIT_STATUS_REASON : Fld := ⟨R.TUN_COMMIT_STATUS, 0, 16⟩
abbrev F.TUN_COMMIT_STATUS_INDEX : Fld := ⟨R.TUN_COMMIT_STATUS, 16, 10⟩
abbrev F.TUN_COMMIT_STATUS_PENDING : Fld := ⟨R.TUN_COMMIT_STATUS, 26, 1⟩
/-- TUN_VIEW_SEL, R160. -/
abbrev R.TUN_VIEW_SEL : Nat := 0x40400150
abbrev F.TUN_VIEW_SEL_INDEX : Fld := ⟨R.TUN_VIEW_SEL, 0, 10⟩
/-- TUN_VIEW0–3, R160. -/
abbrev R.TUN_VIEW (i : Nat) : Nat := 0x40400154 + 0x4 * i
abbrev F.TUN_VIEW_WORD (i : Nat) : Fld := ⟨R.TUN_VIEW i, 0, 32⟩
/-- TUN_VIEW_STATE, R160. -/
abbrev R.TUN_VIEW_STATE : Nat := 0x40400164
abbrev F.TUN_VIEW_STATE_VALID : Fld := ⟨R.TUN_VIEW_STATE, 0, 1⟩
abbrev F.TUN_VIEW_STATE_GEN : Fld := ⟨R.TUN_VIEW_STATE, 1, 2⟩
abbrev F.TUN_VIEW_STATE_LAST_GEN : Fld := ⟨R.TUN_VIEW_STATE, 3, 2⟩
abbrev F.TUN_VIEW_STATE_DEAD : Fld := ⟨R.TUN_VIEW_STATE, 5, 1⟩
abbrev F.TUN_VIEW_STATE_DRAINING : Fld := ⟨R.TUN_VIEW_STATE, 6, 1⟩
/-- TUN_VIEW_TX, R160. -/
abbrev R.TUN_VIEW_TX : Nat := 0x40400168
abbrev F.TUN_VIEW_TX_UNA : Fld := ⟨R.TUN_VIEW_TX, 0, 16⟩
abbrev F.TUN_VIEW_TX_NXT : Fld := ⟨R.TUN_VIEW_TX, 16, 16⟩
/-- TUN_VIEW_RX, R160. -/
abbrev R.TUN_VIEW_RX : Nat := 0x4040016C
abbrev F.TUN_VIEW_RX_RCV_NXT : Fld := ⟨R.TUN_VIEW_RX, 0, 16⟩
abbrev F.TUN_VIEW_RX_EXPIRIES : Fld := ⟨R.TUN_VIEW_RX, 16, 4⟩
/-- TUN_DEAD, R160. -/
abbrev R.TUN_DEAD : Nat := 0x40400170
abbrev F.TUN_DEAD_INDEX : Fld := ⟨R.TUN_DEAD, 0, 10⟩
abbrev F.TUN_DEAD_COUNT : Fld := ⟨R.TUN_DEAD, 16, 16⟩
/-- TUN_FRAY_MADE, R160. -/
abbrev R.TUN_FRAY_MADE : Nat := 0x40400180
abbrev F.TUN_FRAY_MADE_CRC : Fld := ⟨R.TUN_FRAY_MADE, 0, 16⟩
abbrev F.TUN_FRAY_MADE_TAG : Fld := ⟨R.TUN_FRAY_MADE, 16, 16⟩
/-- TUN_FRAY_MADE2, R160. -/
abbrev R.TUN_FRAY_MADE2 : Nat := 0x40400184
abbrev F.TUN_FRAY_MADE2_LINK : Fld := ⟨R.TUN_FRAY_MADE2, 0, 16⟩
abbrev F.TUN_FRAY_MADE2_ECC : Fld := ⟨R.TUN_FRAY_MADE2, 16, 16⟩
/-- TUN_FRAY_FWD, R160. -/
abbrev R.TUN_FRAY_FWD : Nat := 0x40400188
abbrev F.TUN_FRAY_FWD_PASSED : Fld := ⟨R.TUN_FRAY_FWD, 0, 16⟩
abbrev F.TUN_FRAY_FWD_RX : Fld := ⟨R.TUN_FRAY_FWD, 16, 16⟩
/-- TUN_DROP, R160. -/
abbrev R.TUN_DROP : Nat := 0x4040018C
abbrev F.TUN_DROP_CRC_DROP : Fld := ⟨R.TUN_DROP, 0, 16⟩
abbrev F.TUN_DROP_FRAY_STRAY : Fld := ⟨R.TUN_DROP, 16, 16⟩
/-- TUN_RXERRp, R160. -/
abbrev R.TUN_RXERR (i : Nat) : Nat := 0x40400200 + 0x10 * i
abbrev F.TUN_RXERR_HCRC (i : Nat) : Fld := ⟨R.TUN_RXERR i, 0, 16⟩
abbrev F.TUN_RXERR_HUNT (i : Nat) : Fld := ⟨R.TUN_RXERR i, 16, 16⟩
/-- TUN_RXERRp_B, R160. -/
abbrev R.TUN_RXERR_B (i : Nat) : Nat := 0x40400204 + 0x10 * i
abbrev F.TUN_RXERR_B_NO_ENTRY (i : Nat) : Fld := ⟨R.TUN_RXERR_B i, 0, 16⟩
abbrev F.TUN_RXERR_B_FORMAT (i : Nat) : Fld := ⟨R.TUN_RXERR_B i, 16, 16⟩
/-- TUN_RXERRp_C, R160. -/
abbrev R.TUN_RXERR_C (i : Nat) : Nat := 0x40400208 + 0x10 * i
abbrev F.TUN_RXERR_C_RETURNED (i : Nat) : Fld := ⟨R.TUN_RXERR_C i, 0, 16⟩
abbrev F.TUN_RXERR_C_CLASS_MISMATCH (i : Nat) : Fld := ⟨R.TUN_RXERR_C i, 16, 16⟩
/-- SWB_CTRL, R187. -/
abbrev R.SWB_CTRL : Nat := 0x40500100
abbrev F.SWB_CTRL_ENABLE : Fld := ⟨R.SWB_CTRL, 0, 1⟩
abbrev F.SWB_CTRL_SCRUB_EN : Fld := ⟨R.SWB_CTRL, 1, 1⟩
abbrev F.SWB_CTRL_CT_EN : Fld := ⟨R.SWB_CTRL, 2, 1⟩
/-- SWB_STATUS, R187. -/
abbrev R.SWB_STATUS : Nat := 0x40500104
abbrev F.SWB_STATUS_STATE : Fld := ⟨R.SWB_STATUS, 0, 2⟩
abbrev F.SWB_STATUS_STOPPING : Fld := ⟨R.SWB_STATUS, 2, 1⟩
abbrev F.SWB_STATUS_PAUSING : Fld := ⟨R.SWB_STATUS, 3, 1⟩
abbrev F.SWB_STATUS_GROWING : Fld := ⟨R.SWB_STATUS, 4, 1⟩
/-- SWB_REFUSE, R187. -/
abbrev R.SWB_REFUSE : Nat := 0x40500108
abbrev F.SWB_REFUSE_REASON : Fld := ⟨R.SWB_REFUSE, 0, 16⟩
abbrev F.SWB_REFUSE_DETAIL : Fld := ⟨R.SWB_REFUSE, 16, 16⟩
/-- SWB_FREE, R187. -/
abbrev R.SWB_FREE : Nat := 0x40500110
abbrev F.SWB_FREE_CELLS : Fld := ⟨R.SWB_FREE, 0, 18⟩
/-- SWB_SHARED, R187. -/
abbrev R.SWB_SHARED : Nat := 0x40500114
abbrev F.SWB_SHARED_SIZE : Fld := ⟨R.SWB_SHARED, 0, 18⟩
/-- SWB_SHARED_FREE, R187. -/
abbrev R.SWB_SHARED_FREE : Nat := 0x40500118
abbrev F.SWB_SHARED_FREE_CELLS : Fld := ⟨R.SWB_SHARED_FREE, 0, 18⟩
/-- SWB_FREE_LOW, R187. -/
abbrev R.SWB_FREE_LOW : Nat := 0x4050011C
abbrev F.SWB_FREE_LOW_CELLS : Fld := ⟨R.SWB_FREE_LOW, 0, 18⟩
/-- SWB_FREE_HIGH, R187. -/
abbrev R.SWB_FREE_HIGH : Nat := 0x40500120
abbrev F.SWB_FREE_HIGH_CELLS : Fld := ⟨R.SWB_FREE_HIGH, 0, 18⟩
/-- SWB_PAUSE_CFG, R187. -/
abbrev R.SWB_PAUSE_CFG : Nat := 0x40500124
abbrev F.SWB_PAUSE_CFG_MASK : Fld := ⟨R.SWB_PAUSE_CFG, 0, 6⟩
abbrev F.SWB_PAUSE_CFG_ROWS : Fld := ⟨R.SWB_PAUSE_CFG, 8, 16⟩
/-- SWB_MC_CFG, R187. -/
abbrev R.SWB_MC_CFG : Nat := 0x40500128
abbrev F.SWB_MC_CFG_RESIDUE : Fld := ⟨R.SWB_MC_CFG, 0, 8⟩
/-- SWB_CT_CFG, R187. -/
abbrev R.SWB_CT_CFG : Nat := 0x4050012C
abbrev F.SWB_CT_CFG_MARGIN : Fld := ⟨R.SWB_CT_CFG, 0, 4⟩
/-- SWB_CREDIT_CFG, R187. -/
abbrev R.SWB_CREDIT_CFG : Nat := 0x40500130
abbrev F.SWB_CREDIT_CFG_STALL_CYCLES : Fld := ⟨R.SWB_CREDIT_CFG, 0, 8⟩
/-- SWB_SCRUB_CFG, R187. -/
abbrev R.SWB_SCRUB_CFG : Nat := 0x40500134
abbrev F.SWB_SCRUB_CFG_PERIOD_MS : Fld := ⟨R.SWB_SCRUB_CFG, 0, 10⟩
/-- SWB_SCRUB_STATUS, R187. -/
abbrev R.SWB_SCRUB_STATUS : Nat := 0x40500138
abbrev F.SWB_SCRUB_STATUS_CELL : Fld := ⟨R.SWB_SCRUB_STATUS, 0, 18⟩
abbrev F.SWB_SCRUB_STATUS_PASSES : Fld := ⟨R.SWB_SCRUB_STATUS, 18, 14⟩
/-- SWB_ECC_CNT, R187. -/
abbrev R.SWB_ECC_CNT : Nat := 0x4050013C
abbrev F.SWB_ECC_CNT_CORR : Fld := ⟨R.SWB_ECC_CNT, 0, 16⟩
abbrev F.SWB_ECC_CNT_UNCORR : Fld := ⟨R.SWB_ECC_CNT, 16, 16⟩
/-- SWB_ECC_INJECT, R187. -/
abbrev R.SWB_ECC_INJECT : Nat := 0x40500140
abbrev F.SWB_ECC_INJECT_BITS : Fld := ⟨R.SWB_ECC_INJECT, 0, 2⟩
abbrev F.SWB_ECC_INJECT_ARM : Fld := ⟨R.SWB_ECC_INJECT, 2, 1⟩
/-- SWB_RETIRE, R187. -/
abbrev R.SWB_RETIRE : Nat := 0x40500144
abbrev F.SWB_RETIRE_COUNT : Fld := ⟨R.SWB_RETIRE, 0, 11⟩
/-- SWB_RETIRE_LAST, R187. -/
abbrev R.SWB_RETIRE_LAST : Nat := 0x40500148
abbrev F.SWB_RETIRE_LAST_CELL : Fld := ⟨R.SWB_RETIRE_LAST, 0, 18⟩
/-- SWB_DRAIN_SEL, R187. -/
abbrev R.SWB_DRAIN_SEL : Nat := 0x40500150
abbrev F.SWB_DRAIN_SEL_INDEX : Fld := ⟨R.SWB_DRAIN_SEL, 0, 10⟩
/-- SWB_DRAIN, R187. -/
abbrev R.SWB_DRAIN : Nat := 0x40500154
abbrev F.SWB_DRAIN_OLD_GEN : Fld := ⟨R.SWB_DRAIN, 0, 2⟩
abbrev F.SWB_DRAIN_ACTIVE : Fld := ⟨R.SWB_DRAIN, 2, 1⟩
abbrev F.SWB_DRAIN_FRAMES : Fld := ⟨R.SWB_DRAIN, 4, 18⟩
/-- SWB_QVIEW_SEL, R187. -/
abbrev R.SWB_QVIEW_SEL : Nat := 0x40500160
abbrev F.SWB_QVIEW_SEL_INDEX : Fld := ⟨R.SWB_QVIEW_SEL, 0, 10⟩
abbrev F.SWB_QVIEW_SEL_QUEUE : Fld := ⟨R.SWB_QVIEW_SEL, 10, 2⟩
/-- SWB_QVIEW, R187. -/
abbrev R.SWB_QVIEW : Nat := 0x40500164
abbrev F.SWB_QVIEW_CELLS : Fld := ⟨R.SWB_QVIEW, 0, 18⟩
/-- SWB_QVIEW_FR, R187. -/
abbrev R.SWB_QVIEW_FR : Nat := 0x40500168
abbrev F.SWB_QVIEW_FR_FRAMES : Fld := ⟨R.SWB_QVIEW_FR, 0, 18⟩
/-- SWB_RESi, R187. -/
abbrev R.SWB_RES (i : Nat) : Nat := 0x40501000 + 0x4 * i
abbrev F.SWB_RES_CELLS (i : Nat) : Fld := ⟨R.SWB_RES i, 0, 18⟩
abbrev F.SWB_RES_ALPHA (i : Nat) : Fld := ⟨R.SWB_RES i, 18, 4⟩
/-- SWB_RES_LIVEi, R187. -/
abbrev R.SWB_RES_LIVE (i : Nat) : Nat := 0x40501200 + 0x4 * i
abbrev F.SWB_RES_LIVE_CELLS (i : Nat) : Fld := ⟨R.SWB_RES_LIVE i, 0, 18⟩
abbrev F.SWB_RES_LIVE_ALPHA (i : Nat) : Fld := ⟨R.SWB_RES_LIVE i, 18, 4⟩
/-- SWB_OCCi, R187. -/
abbrev R.SWB_OCC (i : Nat) : Nat := 0x40501400 + 0x4 * i
abbrev F.SWB_OCC_CELLS (i : Nat) : Fld := ⟨R.SWB_OCC i, 0, 18⟩
/-- SWB_LANDj, R187. -/
abbrev R.SWB_LAND (i : Nat) : Nat := 0x40501600 + 0x4 * i
abbrev F.SWB_LAND_CELLS (i : Nat) : Fld := ⟨R.SWB_LAND i, 0, 18⟩
/-- SWB_LAND_LIVEj, R187. -/
abbrev R.SWB_LAND_LIVE (i : Nat) : Nat := 0x40501700 + 0x4 * i
abbrev F.SWB_LAND_LIVE_CELLS (i : Nat) : Fld := ⟨R.SWB_LAND_LIVE i, 0, 18⟩
/-- SWB_LAND_HELDj, R187. -/
abbrev R.SWB_LAND_HELD (i : Nat) : Nat := 0x40501800 + 0x4 * i
abbrev F.SWB_LAND_HELD_CELLS (i : Nat) : Fld := ⟨R.SWB_LAND_HELD i, 0, 18⟩
/-- SWB_CREDIT_AVAILj, R187. -/
abbrev R.SWB_CREDIT_AVAIL (i : Nat) : Nat := 0x40501900 + 0x4 * i
abbrev F.SWB_CREDIT_AVAIL_AVAIL (i : Nat) : Fld := ⟨R.SWB_CREDIT_AVAIL i, 0, 18⟩
/-- SWB_CTp, R187. -/
abbrev R.SWB_CT (i : Nat) : Nat := 0x40501A00 + 0x10 * i
abbrev F.SWB_CT_STARTED (i : Nat) : Fld := ⟨R.SWB_CT i, 0, 16⟩
abbrev F.SWB_CT_FRAYED (i : Nat) : Fld := ⟨R.SWB_CT i, 16, 16⟩
/-- SWB_CTp_B, R187. -/
abbrev R.SWB_CT_B (i : Nat) : Nat := 0x40501A04 + 0x10 * i
abbrev F.SWB_CT_B_DECLINED (i : Nat) : Fld := ⟨R.SWB_CT_B i, 0, 16⟩
/-- SWB_MCp, R187. -/
abbrev R.SWB_MC (i : Nat) : Nat := 0x40501A08 + 0x10 * i
abbrev F.SWB_MC_RESIDUE_DROP (i : Nat) : Fld := ⟨R.SWB_MC i, 0, 12⟩
abbrev F.SWB_MC_BUDDY_CUT (i : Nat) : Fld := ⟨R.SWB_MC i, 12, 10⟩
abbrev F.SWB_MC_LINK_LOST (i : Nat) : Fld := ⟨R.SWB_MC i, 22, 10⟩
/-- SWB_DROPp, R187. -/
abbrev R.SWB_DROP (i : Nat) : Nat := 0x40501A0C + 0x10 * i
abbrev F.SWB_DROP_ADMIT (i : Nat) : Fld := ⟨R.SWB_DROP i, 0, 16⟩
abbrev F.SWB_DROP_ECC (i : Nat) : Fld := ⟨R.SWB_DROP i, 16, 16⟩
/-- SCH_CTRL, R208. -/
abbrev R.SCH_CTRL : Nat := 0x40600100
abbrev F.SCH_CTRL_ENABLE : Fld := ⟨R.SCH_CTRL, 0, 1⟩
abbrev F.SCH_CTRL_SAMPLE_EN : Fld := ⟨R.SCH_CTRL, 1, 1⟩
abbrev F.SCH_CTRL_PREEMPT_EN : Fld := ⟨R.SCH_CTRL, 2, 1⟩
/-- SCH_STATUS, R208. -/
abbrev R.SCH_STATUS : Nat := 0x40600104
abbrev F.SCH_STATUS_STATE : Fld := ⟨R.SCH_STATUS, 0, 2⟩
abbrev F.SCH_STATUS_STOPPING : Fld := ⟨R.SCH_STATUS, 2, 1⟩
abbrev F.SCH_STATUS_PREEMPT : Fld := ⟨R.SCH_STATUS, 3, 1⟩
abbrev F.SCH_STATUS_REBUILDING : Fld := ⟨R.SCH_STATUS, 4, 1⟩
/-- SCH_REFUSE, R208. -/
abbrev R.SCH_REFUSE : Nat := 0x40600108
abbrev F.SCH_REFUSE_REASON : Fld := ⟨R.SCH_REFUSE, 0, 16⟩
abbrev F.SCH_REFUSE_DETAIL : Fld := ⟨R.SCH_REFUSE, 16, 16⟩
/-- SCH_STAGE_CFG, R208. -/
abbrev R.SCH_STAGE_CFG : Nat := 0x40600110
abbrev F.SCH_STAGE_CFG_LEAD_NS : Fld := ⟨R.SCH_STAGE_CFG, 0, 12⟩
/-- SCH_SAMPLE_CFG, R208. -/
abbrev R.SCH_SAMPLE_CFG : Nat := 0x40600114
abbrev F.SCH_SAMPLE_CFG_DLY_SHIFT : Fld := ⟨R.SCH_SAMPLE_CFG, 0, 4⟩
/-- SCH_UNDO_CNT, R208. -/
abbrev R.SCH_UNDO_CNT : Nat := 0x40600118
abbrev F.SCH_UNDO_CNT_EVENTS : Fld := ⟨R.SCH_UNDO_CNT, 0, 16⟩
abbrev F.SCH_UNDO_CNT_FRAMES : Fld := ⟨R.SCH_UNDO_CNT, 16, 16⟩
/-- SCH_UNDO_LAST, R208. -/
abbrev R.SCH_UNDO_LAST : Nat := 0x4060011C
abbrev F.SCH_UNDO_LAST_CAUSE : Fld := ⟨R.SCH_UNDO_LAST, 0, 3⟩
abbrev F.SCH_UNDO_LAST_PORTS : Fld := ⟨R.SCH_UNDO_LAST, 16, 12⟩
/-- SCH_UNDO_CYCLE, R208. -/
abbrev R.SCH_UNDO_CYCLE : Nat := 0x40600120
abbrev F.SCH_UNDO_CYCLE_CYCLE : Fld := ⟨R.SCH_UNDO_CYCLE, 0, 32⟩
/-- SCH_PREEMPT_END, R208. -/
abbrev R.SCH_PREEMPT_END : Nat := 0x40600124
abbrev F.SCH_PREEMPT_END_CYCLE : Fld := ⟨R.SCH_PREEMPT_END, 0, 32⟩
/-- SCH_ENT_SEL, R208. -/
abbrev R.SCH_ENT_SEL : Nat := 0x40600200
abbrev F.SCH_ENT_SEL_INDEX : Fld := ⟨R.SCH_ENT_SEL, 0, 10⟩
abbrev F.SCH_ENT_SEL_QUEUE : Fld := ⟨R.SCH_ENT_SEL, 10, 2⟩
/-- SCH_ENT_POL_TOKENS, R208. -/
abbrev R.SCH_ENT_POL_TOKENS : Nat := 0x40600204
abbrev F.SCH_ENT_POL_TOKENS_BYTES : Fld := ⟨R.SCH_ENT_POL_TOKENS, 0, 23⟩
/-- SCH_ENT_SHP_TOKENS, R208. -/
abbrev R.SCH_ENT_SHP_TOKENS : Nat := 0x40600208
abbrev F.SCH_ENT_SHP_TOKENS_BYTES : Fld := ⟨R.SCH_ENT_SHP_TOKENS, 0, 23⟩
/-- SCH_ENT_DEFICIT, R208. -/
abbrev R.SCH_ENT_DEFICIT : Nat := 0x4060020C
abbrev F.SCH_ENT_DEFICIT_BYTES : Fld := ⟨R.SCH_ENT_DEFICIT, 0, 17⟩
/-- SCH_ENT_POL, R208. -/
abbrev R.SCH_ENT_POL : Nat := 0x40600210
abbrev F.SCH_ENT_POL_DROP : Fld := ⟨R.SCH_ENT_POL, 0, 16⟩
abbrev F.SCH_ENT_POL_EXCESS : Fld := ⟨R.SCH_ENT_POL, 16, 16⟩
/-- SCH_ENT_STAGE, R208. -/
abbrev R.SCH_ENT_STAGE : Nat := 0x40600214
abbrev F.SCH_ENT_STAGE_PLACED : Fld := ⟨R.SCH_ENT_STAGE, 0, 12⟩
abbrev F.SCH_ENT_STAGE_ACTIVE : Fld := ⟨R.SCH_ENT_STAGE, 12, 1⟩
/-- SCH_SAMP_DEPTH_MIN, R208. -/
abbrev R.SCH_SAMP_DEPTH_MIN : Nat := 0x40600220
abbrev F.SCH_SAMP_DEPTH_MIN_CELLS : Fld := ⟨R.SCH_SAMP_DEPTH_MIN, 0, 18⟩
/-- SCH_SAMP_DEPTH_MAX, R208. -/
abbrev R.SCH_SAMP_DEPTH_MAX : Nat := 0x40600224
abbrev F.SCH_SAMP_DEPTH_MAX_CELLS : Fld := ⟨R.SCH_SAMP_DEPTH_MAX, 0, 18⟩
/-- SCH_SAMP_DELAY_MIN, R208. -/
abbrev R.SCH_SAMP_DELAY_MIN : Nat := 0x40600228
abbrev F.SCH_SAMP_DELAY_MIN_UNITS : Fld := ⟨R.SCH_SAMP_DELAY_MIN, 0, 24⟩
/-- SCH_SAMP_DELAY_MAX, R208. -/
abbrev R.SCH_SAMP_DELAY_MAX : Nat := 0x4060022C
abbrev F.SCH_SAMP_DELAY_MAX_UNITS : Fld := ⟨R.SCH_SAMP_DELAY_MAX, 0, 24⟩
/-- SCH_SAMP_CTRL, R208. -/
abbrev R.SCH_SAMP_CTRL : Nat := 0x40600230
abbrev F.SCH_SAMP_CTRL_METRIC : Fld := ⟨R.SCH_SAMP_CTRL, 0, 1⟩
abbrev F.SCH_SAMP_CTRL_CLEAR : Fld := ⟨R.SCH_SAMP_CTRL, 1, 1⟩
/-- SCH_SAMP_BIN0–15, R208. -/
abbrev R.SCH_SAMP_BIN (i : Nat) : Nat := 0x40600240 + 0x4 * i
abbrev F.SCH_SAMP_BIN_COUNT (i : Nat) : Fld := ⟨R.SCH_SAMP_BIN i, 0, 32⟩
/-- SCH_PORTp_CFG, R208. -/
abbrev R.SCH_PORT_CFG (i : Nat) : Nat := 0x40601000 + 0x40 * i
abbrev F.SCH_PORT_CFG_OVH (i : Nat) : Fld := ⟨R.SCH_PORT_CFG i, 0, 8⟩
abbrev F.SCH_PORT_CFG_PROTECT (i : Nat) : Fld := ⟨R.SCH_PORT_CFG i, 8, 7⟩
/-- SCH_PORTp_RATE, R208. -/
abbrev R.SCH_PORT_RATE (i : Nat) : Nat := 0x40601004 + 0x40 * i
abbrev F.SCH_PORT_RATE_RATE (i : Nat) : Fld := ⟨R.SCH_PORT_RATE i, 0, 24⟩
/-- SCH_PORTp_BOOK, R208. -/
abbrev R.SCH_PORT_BOOK (i : Nat) : Nat := 0x40601008 + 0x40 * i
abbrev F.SCH_PORT_BOOK_BOOK (i : Nat) : Fld := ⟨R.SCH_PORT_BOOK i, 0, 24⟩
/-- SCH_PORTp_STAGE, R208. -/
abbrev R.SCH_PORT_STAGE (i : Nat) : Nat := 0x4060100C + 0x40 * i
abbrev F.SCH_PORT_STAGE_PLACED (i : Nat) : Fld := ⟨R.SCH_PORT_STAGE i, 0, 13⟩
abbrev F.SCH_PORT_STAGE_FULL (i : Nat) : Fld := ⟨R.SCH_PORT_STAGE i, 16, 16⟩
/-- SCH_PORTp_GUARD0–6, R208. -/
abbrev R.SCH_PORT_GUARD (i : Nat) (j : Nat) : Nat := 0x40601010 + 0x40 * i + 0x4 * j
abbrev F.SCH_PORT_GUARD_NS (i : Nat) (j : Nat) : Fld := ⟨R.SCH_PORT_GUARD i j, 0, 16⟩
abbrev F.SCH_PORT_GUARD_LEN (i : Nat) (j : Nat) : Fld := ⟨R.SCH_PORT_GUARD i j, 16, 16⟩
/-- SCH_PORTp_PRESS, R208. -/
abbrev R.SCH_PORT_PRESS (i : Nat) : Nat := 0x4060102C + 0x40 * i
abbrev F.SCH_PORT_PRESS_BORROW_NS (i : Nat) : Fld := ⟨R.SCH_PORT_PRESS i, 0, 16⟩
abbrev F.SCH_PORT_PRESS_SHORT (i : Nat) : Fld := ⟨R.SCH_PORT_PRESS i, 16, 16⟩
/-- SCH_PORTp_HOLD, R208. -/
abbrev R.SCH_PORT_HOLD (i : Nat) : Nat := 0x40601030 + 0x40 * i
abbrev F.SCH_PORT_HOLD_GUARD_HOLD (i : Nat) : Fld := ⟨R.SCH_PORT_HOLD i, 0, 16⟩
abbrev F.SCH_PORT_HOLD_SPILL (i : Nat) : Fld := ⟨R.SCH_PORT_HOLD i, 16, 16⟩
/-- SCH_PORTp_CL7, R208. -/
abbrev R.SCH_PORT_CL7 (i : Nat) : Nat := 0x40601034 + 0x40 * i
abbrev F.SCH_PORT_CL7_SENT (i : Nat) : Fld := ⟨R.SCH_PORT_CL7 i, 0, 16⟩
/-- ALT_BASTE_CTRL, R232. -/
abbrev R.ALT_BASTE_CTRL : Nat := 0x40700100
abbrev F.ALT_BASTE_CTRL_ENABLE : Fld := ⟨R.ALT_BASTE_CTRL, 0, 1⟩
/-- ALT_BASTE_STATUS, R232. -/
abbrev R.ALT_BASTE_STATUS : Nat := 0x40700104
abbrev F.ALT_BASTE_STATUS_STATE : Fld := ⟨R.ALT_BASTE_STATUS, 0, 2⟩
abbrev F.ALT_BASTE_STATUS_STOPPING : Fld := ⟨R.ALT_BASTE_STATUS, 2, 1⟩
abbrev F.ALT_BASTE_STATUS_PREV : Fld := ⟨R.ALT_BASTE_STATUS, 3, 1⟩
abbrev F.ALT_BASTE_STATUS_PENDING : Fld := ⟨R.ALT_BASTE_STATUS, 4, 1⟩
/-- ALT_BASTE_REFUSE, R232. -/
abbrev R.ALT_BASTE_REFUSE : Nat := 0x40700108
abbrev F.ALT_BASTE_REFUSE_REASON : Fld := ⟨R.ALT_BASTE_REFUSE, 0, 16⟩
abbrev F.ALT_BASTE_REFUSE_DETAIL : Fld := ⟨R.ALT_BASTE_REFUSE, 16, 16⟩
/-- ALT_BASTE_DIGEST, R232. -/
abbrev R.ALT_BASTE_DIGEST : Nat := 0x4070010C
abbrev F.ALT_BASTE_DIGEST_CRC : Fld := ⟨R.ALT_BASTE_DIGEST, 0, 32⟩
/-- ALT_ALARM_CTRL, R232. -/
abbrev R.ALT_ALARM_CTRL : Nat := 0x40700110
abbrev F.ALT_ALARM_CTRL_ENABLE : Fld := ⟨R.ALT_ALARM_CTRL, 0, 1⟩
/-- ALT_ALARM_STATUS, R232. -/
abbrev R.ALT_ALARM_STATUS : Nat := 0x40700114
abbrev F.ALT_ALARM_STATUS_STATE : Fld := ⟨R.ALT_ALARM_STATUS, 0, 2⟩
abbrev F.ALT_ALARM_STATUS_STOPPING : Fld := ⟨R.ALT_ALARM_STATUS, 2, 1⟩
abbrev F.ALT_ALARM_STATUS_IN_FORCE : Fld := ⟨R.ALT_ALARM_STATUS, 3, 1⟩
abbrev F.ALT_ALARM_STATUS_PENDING : Fld := ⟨R.ALT_ALARM_STATUS, 4, 1⟩
/-- ALT_ALARM_REFUSE, R232. -/
abbrev R.ALT_ALARM_REFUSE : Nat := 0x40700118
abbrev F.ALT_ALARM_REFUSE_REASON : Fld := ⟨R.ALT_ALARM_REFUSE, 0, 16⟩
abbrev F.ALT_ALARM_REFUSE_DETAIL : Fld := ⟨R.ALT_ALARM_REFUSE, 16, 16⟩
/-- ALT_ALARM_DIGEST, R232. -/
abbrev R.ALT_ALARM_DIGEST : Nat := 0x4070011C
abbrev F.ALT_ALARM_DIGEST_CRC : Fld := ⟨R.ALT_ALARM_DIGEST, 0, 32⟩
/-- ALT_SEWN_PLAN, R232. -/
abbrev R.ALT_SEWN_PLAN : Nat := 0x40700120
abbrev F.ALT_SEWN_PLAN_PLAN : Fld := ⟨R.ALT_SEWN_PLAN, 0, 32⟩
/-- ALT_SEWN_CYCLE, R232. -/
abbrev R.ALT_SEWN_CYCLE : Nat := 0x40700124
abbrev F.ALT_SEWN_CYCLE_CYCLE : Fld := ⟨R.ALT_SEWN_CYCLE, 0, 32⟩
/-- ALT_PENDING, R232. -/
abbrev R.ALT_PENDING : Nat := 0x40700128
abbrev F.ALT_PENDING_KIND : Fld := ⟨R.ALT_PENDING, 0, 3⟩
/-- ALT_PENDING_TARGET, R232. -/
abbrev R.ALT_PENDING_TARGET : Nat := 0x4070012C
abbrev F.ALT_PENDING_TARGET_CYCLE : Fld := ⟨R.ALT_PENDING_TARGET, 0, 32⟩
/-- ALT_PENDING_PLAN, R232. -/
abbrev R.ALT_PENDING_PLAN : Nat := 0x40700130
abbrev F.ALT_PENDING_PLAN_PLAN : Fld := ⟨R.ALT_PENDING_PLAN, 0, 32⟩
/-- ALT_ALARM_PLAN, R232. -/
abbrev R.ALT_ALARM_PLAN : Nat := 0x40700134
abbrev F.ALT_ALARM_PLAN_PLAN : Fld := ⟨R.ALT_ALARM_PLAN, 0, 32⟩
/-- ALT_CMD_PLAN, R232. -/
abbrev R.ALT_CMD_PLAN : Nat := 0x40700140
abbrev F.ALT_CMD_PLAN_PLAN : Fld := ⟨R.ALT_CMD_PLAN, 0, 32⟩
/-- ALT_CMD_TARGET, R232. -/
abbrev R.ALT_CMD_TARGET : Nat := 0x40700144
abbrev F.ALT_CMD_TARGET_CYCLE : Fld := ⟨R.ALT_CMD_TARGET, 0, 32⟩
/-- ALT_CMD, R232. -/
abbrev R.ALT_CMD : Nat := 0x40700148
abbrev F.ALT_CMD_OP : Fld := ⟨R.ALT_CMD, 0, 3⟩
/-- ALT_CMD_STATUS, R232. -/
abbrev R.ALT_CMD_STATUS : Nat := 0x4070014C
abbrev F.ALT_CMD_STATUS_REASON : Fld := ⟨R.ALT_CMD_STATUS, 0, 16⟩
abbrev F.ALT_CMD_STATUS_DETAIL : Fld := ⟨R.ALT_CMD_STATUS, 16, 16⟩
/-- ALT_SEW_CFG, R232. -/
abbrev R.ALT_SEW_CFG : Nat := 0x40700150
abbrev F.ALT_SEW_CFG_MIN_LEAD : Fld := ⟨R.ALT_SEW_CFG, 0, 8⟩
/-- ALT_SEW_CNT, R232. -/
abbrev R.ALT_SEW_CNT : Nat := 0x40700160
abbrev F.ALT_SEW_CNT_SWAPS : Fld := ⟨R.ALT_SEW_CNT, 0, 16⟩
abbrev F.ALT_SEW_CNT_LATE : Fld := ⟨R.ALT_SEW_CNT, 16, 16⟩
/-- ALT_SEW_CNT2, R232. -/
abbrev R.ALT_SEW_CNT2 : Nat := 0x40700164
abbrev F.ALT_SEW_CNT2_CANCELLED : Fld := ⟨R.ALT_SEW_CNT2, 0, 16⟩
abbrev F.ALT_SEW_CNT2_REVERTED : Fld := ⟨R.ALT_SEW_CNT2, 16, 16⟩
/-- ALT_MSG_DROP, R232. -/
abbrev R.ALT_MSG_DROP : Nat := 0x40700168
abbrev F.ALT_MSG_DROP_PLAN_MISMATCH : Fld := ⟨R.ALT_MSG_DROP, 0, 16⟩
abbrev F.ALT_MSG_DROP_STALE : Fld := ⟨R.ALT_MSG_DROP, 16, 16⟩
/-- ALT_KNOT, R232. -/
abbrev R.ALT_KNOT : Nat := 0x4070016C
abbrev F.ALT_KNOT_SENT : Fld := ⟨R.ALT_KNOT, 0, 16⟩
abbrev F.ALT_KNOT_SKIPPED : Fld := ⟨R.ALT_KNOT, 16, 16⟩
/-- ALT_PARTk, R232. -/
abbrev R.ALT_PART (i : Nat) : Nat := 0x40700200 + 0x4 * i
abbrev F.ALT_PART_NODES (i : Nat) : Fld := ⟨R.ALT_PART i, 0, 32⟩
/-- ALT_READYk, R232. -/
abbrev R.ALT_READY (i : Nat) : Nat := 0x40700220 + 0x4 * i
abbrev F.ALT_READY_NODES (i : Nat) : Fld := ⟨R.ALT_READY i, 0, 32⟩
/-- ALT_ACKk, R232. -/
abbrev R.ALT_ACK (i : Nat) : Nat := 0x40700240 + 0x4 * i
abbrev F.ALT_ACK_NODES (i : Nat) : Fld := ⟨R.ALT_ACK i, 0, 32⟩
/-- ALT_LATEk, R232. -/
abbrev R.ALT_LATE (i : Nat) : Nat := 0x40700260 + 0x4 * i
abbrev F.ALT_LATE_NODES (i : Nat) : Fld := ⟨R.ALT_LATE i, 0, 32⟩
/-- ALT_REPORT_SEL, R232. -/
abbrev R.ALT_REPORT_SEL : Nat := 0x40700280
abbrev F.ALT_REPORT_SEL_ADDR : Fld := ⟨R.ALT_REPORT_SEL, 0, 8⟩
/-- ALT_REPORT, R232. -/
abbrev R.ALT_REPORT : Nat := 0x40700284
abbrev F.ALT_REPORT_REASON : Fld := ⟨R.ALT_REPORT, 0, 16⟩
abbrev F.ALT_REPORT_DETAIL : Fld := ⟨R.ALT_REPORT, 16, 16⟩
/-- ALT_REPORT_DIGEST, R232. -/
abbrev R.ALT_REPORT_DIGEST : Nat := 0x40700288
abbrev F.ALT_REPORT_DIGEST_CRC : Fld := ⟨R.ALT_REPORT_DIGEST, 0, 32⟩
/-- ALT_CHECK_SEL, R232. -/
abbrev R.ALT_CHECK_SEL : Nat := 0x40700300
abbrev F.ALT_CHECK_SEL_INDEX : Fld := ⟨R.ALT_CHECK_SEL, 0, 10⟩
abbrev F.ALT_CHECK_SEL_BANK : Fld := ⟨R.ALT_CHECK_SEL, 10, 1⟩
/-- ALT_CHECK_DELAY, R232. -/
abbrev R.ALT_CHECK_DELAY : Nat := 0x40700304
abbrev F.ALT_CHECK_DELAY_NS : Fld := ⟨R.ALT_CHECK_DELAY, 0, 24⟩
abbrev F.ALT_CHECK_DELAY_PORT : Fld := ⟨R.ALT_CHECK_DELAY, 24, 4⟩
/-- ALT_CHECK_PC_SEL, R232. -/
abbrev R.ALT_CHECK_PC_SEL : Nat := 0x40700308
abbrev F.ALT_CHECK_PC_SEL_PORT : Fld := ⟨R.ALT_CHECK_PC_SEL, 0, 4⟩
abbrev F.ALT_CHECK_PC_SEL_CLASS : Fld := ⟨R.ALT_CHECK_PC_SEL, 4, 3⟩
/-- ALT_CHECK_SERVICE, R232. -/
abbrev R.ALT_CHECK_SERVICE : Nat := 0x4070030C
abbrev F.ALT_CHECK_SERVICE_BYTES : Fld := ⟨R.ALT_CHECK_SERVICE, 0, 24⟩
/-- ALT_CHECK_DEMAND, R232. -/
abbrev R.ALT_CHECK_DEMAND : Nat := 0x40700310
abbrev F.ALT_CHECK_DEMAND_BYTES : Fld := ⟨R.ALT_CHECK_DEMAND, 0, 24⟩
/-- RNG_CTRL, R254. -/
abbrev R.RNG_CTRL : Nat := 0x40800100
abbrev F.RNG_CTRL_ENABLE : Fld := ⟨R.RNG_CTRL, 0, 1⟩
abbrev F.RNG_CTRL_MASTER_EN : Fld := ⟨R.RNG_CTRL, 1, 1⟩
abbrev F.RNG_CTRL_AUTO_HEAL : Fld := ⟨R.RNG_CTRL, 2, 1⟩
abbrev F.RNG_CTRL_SPLIT_OK : Fld := ⟨R.RNG_CTRL, 3, 1⟩
/-- RNG_STATUS, R254. -/
abbrev R.RNG_STATUS : Nat := 0x40800104
abbrev F.RNG_STATUS_STATE : Fld := ⟨R.RNG_STATUS, 0, 2⟩
abbrev F.RNG_STATUS_STOPPING : Fld := ⟨R.RNG_STATUS, 2, 1⟩
abbrev F.RNG_STATUS_ROLE : Fld := ⟨R.RNG_STATUS, 3, 2⟩
abbrev F.RNG_STATUS_JOIN : Fld := ⟨R.RNG_STATUS, 5, 3⟩
abbrev F.RNG_STATUS_RING : Fld := ⟨R.RNG_STATUS, 8, 2⟩
abbrev F.RNG_STATUS_ELIGIBLE : Fld := ⟨R.RNG_STATUS, 10, 1⟩
abbrev F.RNG_STATUS_EDGE_E : Fld := ⟨R.RNG_STATUS, 11, 1⟩
abbrev F.RNG_STATUS_EDGE_W : Fld := ⟨R.RNG_STATUS, 12, 1⟩
/-- RNG_REFUSE, R254. -/
abbrev R.RNG_REFUSE : Nat := 0x40800108
abbrev F.RNG_REFUSE_REASON : Fld := ⟨R.RNG_REFUSE, 0, 16⟩
abbrev F.RNG_REFUSE_DETAIL : Fld := ⟨R.RNG_REFUSE, 16, 16⟩
/-- RNG_ADDR, R254. -/
abbrev R.RNG_ADDR : Nat := 0x40800110
abbrev F.RNG_ADDR_ADDR : Fld := ⟨R.RNG_ADDR, 0, 8⟩
abbrev F.RNG_ADDR_ORIGIN : Fld := ⟨R.RNG_ADDR, 8, 2⟩
/-- RNG_EPOCH, R254. -/
abbrev R.RNG_EPOCH : Nat := 0x40800114
abbrev F.RNG_EPOCH_EPOCH : Fld := ⟨R.RNG_EPOCH, 0, 16⟩
abbrev F.RNG_EPOCH_MASTER : Fld := ⟨R.RNG_EPOCH, 16, 8⟩
/-- RNG_CFG, R254. -/
abbrev R.RNG_CFG : Nat := 0x40800118
abbrev F.RNG_CFG_BEACON_LOSS : Fld := ⟨R.RNG_CFG, 0, 4⟩
abbrev F.RNG_CFG_EDGE_HOLD : Fld := ⟨R.RNG_CFG, 4, 4⟩
abbrev F.RNG_CFG_CLAIM_WAIT : Fld := ⟨R.RNG_CFG, 8, 8⟩
abbrev F.RNG_CFG_OPEN_LEAD : Fld := ⟨R.RNG_CFG, 16, 8⟩
abbrev F.RNG_CFG_OPEN_DRAIN : Fld := ⟨R.RNG_CFG, 24, 4⟩
/-- RNG_CFG2, R254. -/
abbrev R.RNG_CFG2 : Nat := 0x4080011C
abbrev F.RNG_CFG2_ANNOUNCE : Fld := ⟨R.RNG_CFG2, 0, 8⟩
abbrev F.RNG_CFG2_ROLL_WAIT : Fld := ⟨R.RNG_CFG2, 8, 8⟩
abbrev F.RNG_CFG2_BUDDY_SINGLE : Fld := ⟨R.RNG_CFG2, 16, 8⟩
/-- RNG_CMD, R254. -/
abbrev R.RNG_CMD : Nat := 0x40800120
abbrev F.RNG_CMD_OP : Fld := ⟨R.RNG_CMD, 0, 3⟩
/-- RNG_CMD_ARG, R254. -/
abbrev R.RNG_CMD_ARG : Nat := 0x40800124
abbrev F.RNG_CMD_ARG_ADDR : Fld := ⟨R.RNG_CMD_ARG, 0, 8⟩
abbrev F.RNG_CMD_ARG_SIDE : Fld := ⟨R.RNG_CMD_ARG, 8, 1⟩
/-- RNG_CMD_STATUS, R254. -/
abbrev R.RNG_CMD_STATUS : Nat := 0x40800128
abbrev F.RNG_CMD_STATUS_REASON : Fld := ⟨R.RNG_CMD_STATUS, 0, 16⟩
abbrev F.RNG_CMD_STATUS_DETAIL : Fld := ⟨R.RNG_CMD_STATUS, 16, 16⟩
/-- RNG_NEIGH, R254. -/
abbrev R.RNG_NEIGH : Nat := 0x4080012C
abbrev F.RNG_NEIGH_EAST : Fld := ⟨R.RNG_NEIGH, 0, 8⟩
abbrev F.RNG_NEIGH_WEST : Fld := ⟨R.RNG_NEIGH, 8, 8⟩
abbrev F.RNG_NEIGH_NODES : Fld := ⟨R.RNG_NEIGH, 16, 8⟩
/-- RNG_EDGE_SEL, R254. -/
abbrev R.RNG_EDGE_SEL : Nat := 0x40800130
abbrev F.RNG_EDGE_SEL_INDEX : Fld := ⟨R.RNG_EDGE_SEL, 0, 4⟩
/-- RNG_EDGE, R254. -/
abbrev R.RNG_EDGE : Nat := 0x40800134
abbrev F.RNG_EDGE_NODE : Fld := ⟨R.RNG_EDGE, 0, 8⟩
abbrev F.RNG_EDGE_SIDE : Fld := ⟨R.RNG_EDGE, 8, 1⟩
abbrev F.RNG_EDGE_CAUSE : Fld := ⟨R.RNG_EDGE, 9, 3⟩
abbrev F.RNG_EDGE_VALID : Fld := ⟨R.RNG_EDGE, 12, 1⟩
/-- RNG_EDGE_CYCLE, R254. -/
abbrev R.RNG_EDGE_CYCLE : Nat := 0x40800138
abbrev F.RNG_EDGE_CYCLE_CYCLE : Fld := ⟨R.RNG_EDGE_CYCLE, 0, 32⟩
/-- RNG_MAP_SEL, R254. -/
abbrev R.RNG_MAP_SEL : Nat := 0x40800140
abbrev F.RNG_MAP_SEL_ADDR : Fld := ⟨R.RNG_MAP_SEL, 0, 8⟩
/-- RNG_MAP, R254. -/
abbrev R.RNG_MAP : Nat := 0x40800144
abbrev F.RNG_MAP_HE : Fld := ⟨R.RNG_MAP, 0, 8⟩
abbrev F.RNG_MAP_HW : Fld := ⟨R.RNG_MAP, 8, 8⟩
abbrev F.RNG_MAP_CENSUS : Fld := ⟨R.RNG_MAP, 16, 1⟩
/-- RNG_MAP_UID0–3, R254. -/
abbrev R.RNG_MAP_UID (i : Nat) : Nat := 0x40800148 + 0x4 * i
abbrev F.RNG_MAP_UID_UID (i : Nat) : Fld := ⟨R.RNG_MAP_UID i, 0, 32⟩
/-- RNG_MAP_SEEN, R254. -/
abbrev R.RNG_MAP_SEEN : Nat := 0x40800158
abbrev F.RNG_MAP_SEEN_CYCLE : Fld := ⟨R.RNG_MAP_SEEN, 0, 32⟩
/-- RNG_DROP, R254. -/
abbrev R.RNG_DROP : Nat := 0x40800180
abbrev F.RNG_DROP_STALE_ROLE : Fld := ⟨R.RNG_DROP, 0, 16⟩
abbrev F.RNG_DROP_EPOCH_AHEAD : Fld := ⟨R.RNG_DROP, 16, 16⟩
/-- RNG_DROP2, R254. -/
abbrev R.RNG_DROP2 : Nat := 0x40800184
abbrev F.RNG_DROP2_UNKNOWN_OP : Fld := ⟨R.RNG_DROP2, 0, 10⟩
abbrev F.RNG_DROP2_MISMATCH : Fld := ⟨R.RNG_DROP2, 10, 10⟩
abbrev F.RNG_DROP2_DUP : Fld := ⟨R.RNG_DROP2, 20, 12⟩
/-- RNG_CUT, R254. -/
abbrev R.RNG_CUT : Nat := 0x40800188
abbrev F.RNG_CUT_EVENTS : Fld := ⟨R.RNG_CUT, 0, 12⟩
abbrev F.RNG_CUT_LATE_OPEN : Fld := ⟨R.RNG_CUT, 12, 8⟩
abbrev F.RNG_CUT_TRANSIT_DROP : Fld := ⟨R.RNG_CUT, 20, 12⟩
/-- RNG_CUT2, R254. -/
abbrev R.RNG_CUT2 : Nat := 0x4080018C
abbrev F.RNG_CUT2_UNREACHABLE : Fld := ⟨R.RNG_CUT2, 0, 16⟩
abbrev F.RNG_CUT2_HEAL_DROP : Fld := ⟨R.RNG_CUT2, 16, 16⟩
/-- RNG_NAK, R254. -/
abbrev R.RNG_NAK : Nat := 0x40800190
abbrev F.RNG_NAK_SENT : Fld := ⟨R.RNG_NAK, 0, 16⟩
abbrev F.RNG_NAK_RECEIVED : Fld := ⟨R.RNG_NAK, 16, 16⟩
/-- RNG_NAK_LAST, R254. -/
abbrev R.RNG_NAK_LAST : Nat := 0x40800194
abbrev F.RNG_NAK_LAST_OP : Fld := ⟨R.RNG_NAK_LAST, 0, 8⟩
abbrev F.RNG_NAK_LAST_REASON : Fld := ⟨R.RNG_NAK_LAST, 8, 8⟩
abbrev F.RNG_NAK_LAST_EPOCH : Fld := ⟨R.RNG_NAK_LAST, 16, 16⟩
/-- RNG_TX_CTRL, R254. -/
abbrev R.RNG_TX_CTRL : Nat := 0x40800200
abbrev F.RNG_TX_CTRL_DST : Fld := ⟨R.RNG_TX_CTRL, 0, 8⟩
abbrev F.RNG_TX_CTRL_LEN : Fld := ⟨R.RNG_TX_CTRL, 8, 7⟩
abbrev F.RNG_TX_CTRL_TO_MASTER : Fld := ⟨R.RNG_TX_CTRL, 15, 1⟩
abbrev F.RNG_TX_CTRL_GO : Fld := ⟨R.RNG_TX_CTRL, 16, 1⟩
/-- RNG_TX_STATUS, R254. -/
abbrev R.RNG_TX_STATUS : Nat := 0x40800204
abbrev F.RNG_TX_STATUS_REASON : Fld := ⟨R.RNG_TX_STATUS, 0, 16⟩
abbrev F.RNG_TX_STATUS_SEQ : Fld := ⟨R.RNG_TX_STATUS, 16, 16⟩
/-- RNG_TX_DATA0–23, R254. -/
abbrev R.RNG_TX_DATA (i : Nat) : Nat := 0x40800210 + 0x4 * i
abbrev F.RNG_TX_DATA_DATA (i : Nat) : Fld := ⟨R.RNG_TX_DATA i, 0, 32⟩
/-- RNG_RX_STATUS, R254. -/
abbrev R.RNG_RX_STATUS : Nat := 0x40800280
abbrev F.RNG_RX_STATUS_COUNT : Fld := ⟨R.RNG_RX_STATUS, 0, 5⟩
abbrev F.RNG_RX_STATUS_LEN : Fld := ⟨R.RNG_RX_STATUS, 5, 7⟩
abbrev F.RNG_RX_STATUS_SRC : Fld := ⟨R.RNG_RX_STATUS, 12, 8⟩
abbrev F.RNG_RX_STATUS_TO_MASTER : Fld := ⟨R.RNG_RX_STATUS, 20, 1⟩
abbrev F.RNG_RX_STATUS_OVERFLOW : Fld := ⟨R.RNG_RX_STATUS, 21, 11⟩
/-- RNG_RX_POP, R254. -/
abbrev R.RNG_RX_POP : Nat := 0x40800284
abbrev F.RNG_RX_POP_POP : Fld := ⟨R.RNG_RX_POP, 0, 1⟩
/-- RNG_RX_DATA0–23, R254. -/
abbrev R.RNG_RX_DATA (i : Nat) : Nat := 0x40800290 + 0x4 * i
abbrev F.RNG_RX_DATA_DATA (i : Nat) : Fld := ⟨R.RNG_RX_DATA i, 0, 32⟩
/-- RNG_BUDDY_SEL, R254. -/
abbrev R.RNG_BUDDY_SEL : Nat := 0x40800300
abbrev F.RNG_BUDDY_SEL_INDEX : Fld := ⟨R.RNG_BUDDY_SEL, 0, 10⟩
/-- RNG_BUDDY, R254. -/
abbrev R.RNG_BUDDY : Nat := 0x40800304
abbrev F.RNG_BUDDY_FROM_E : Fld := ⟨R.RNG_BUDDY, 0, 16⟩
abbrev F.RNG_BUDDY_FROM_W : Fld := ⟨R.RNG_BUDDY, 16, 16⟩
/-- RNG_BUDDY_STATE, R254. -/
abbrev R.RNG_BUDDY_STATE : Nat := 0x40800308
abbrev F.RNG_BUDDY_STATE_SINGLE : Fld := ⟨R.RNG_BUDDY_STATE, 0, 1⟩
abbrev F.RNG_BUDDY_STATE_SILENT : Fld := ⟨R.RNG_BUDDY_STATE, 1, 1⟩
/-- RNG_BUDDY_SINCE, R254. -/
abbrev R.RNG_BUDDY_SINCE : Nat := 0x4080030C
abbrev F.RNG_BUDDY_SINCE_CYCLE : Fld := ⟨R.RNG_BUDDY_SINCE, 0, 32⟩
/-- AUD_CTRL, R281. -/
abbrev R.AUD_CTRL : Nat := 0x40900100
abbrev F.AUD_CTRL_ENABLE : Fld := ⟨R.AUD_CTRL, 0, 1⟩
abbrev F.AUD_CTRL_USB_PORT : Fld := ⟨R.AUD_CTRL, 1, 1⟩
abbrev F.AUD_CTRL_MCLK_OUT_EN : Fld := ⟨R.AUD_CTRL, 2, 1⟩
/-- AUD_STATUS, R281. -/
abbrev R.AUD_STATUS : Nat := 0x40900104
abbrev F.AUD_STATUS_STATE : Fld := ⟨R.AUD_STATUS, 0, 2⟩
abbrev F.AUD_STATUS_STOPPING : Fld := ⟨R.AUD_STATUS, 2, 1⟩
/-- AUD_REFUSE, R281. -/
abbrev R.AUD_REFUSE : Nat := 0x40900108
abbrev F.AUD_REFUSE_REASON : Fld := ⟨R.AUD_REFUSE, 0, 16⟩
abbrev F.AUD_REFUSE_DETAIL : Fld := ⟨R.AUD_REFUSE, 16, 16⟩
/-- AUD_CFG, R281. -/
abbrev R.AUD_CFG : Nat := 0x40900110
abbrev F.AUD_CFG_RATE : Fld := ⟨R.AUD_CFG, 0, 2⟩
abbrev F.AUD_CFG_D : Fld := ⟨R.AUD_CFG, 2, 5⟩
abbrev F.AUD_CFG_S : Fld := ⟨R.AUD_CFG, 8, 8⟩
/-- AUD_MIX_CFG, R281. -/
abbrev R.AUD_MIX_CFG : Nat := 0x40900114
abbrev F.AUD_MIX_CFG_RAMP_SHIFT : Fld := ⟨R.AUD_MIX_CFG, 0, 4⟩
abbrev F.AUD_MIX_CFG_DECAY_SHIFT : Fld := ⟨R.AUD_MIX_CFG, 4, 4⟩
abbrev F.AUD_MIX_CFG_CONCEAL_ALARM : Fld := ⟨R.AUD_MIX_CFG, 8, 8⟩
/-- AUD_MIX_STAT, R281. -/
abbrev R.AUD_MIX_STAT : Nat := 0x40900118
abbrev F.AUD_MIX_STAT_CLIP : Fld := ⟨R.AUD_MIX_STAT, 0, 16⟩
abbrev F.AUD_MIX_STAT_BAD_TERM : Fld := ⟨R.AUD_MIX_STAT, 16, 16⟩
/-- AUD_LATE, R281. -/
abbrev R.AUD_LATE : Nat := 0x4090011C
abbrev F.AUD_LATE_PART_LATE : Fld := ⟨R.AUD_LATE, 0, 16⟩
abbrev F.AUD_LATE_INDEX_ERR : Fld := ⟨R.AUD_LATE, 16, 16⟩
/-- AUD_FORMAT, R281. -/
abbrev R.AUD_FORMAT : Nat := 0x40900120
abbrev F.AUD_FORMAT_FRAMES : Fld := ⟨R.AUD_FORMAT, 0, 16⟩
abbrev F.AUD_FORMAT_ECC : Fld := ⟨R.AUD_FORMAT, 16, 16⟩
/-- AUD_RCH_SEL, R281. -/
abbrev R.AUD_RCH_SEL : Nat := 0x40900130
abbrev F.AUD_RCH_SEL_CHANNEL : Fld := ⟨R.AUD_RCH_SEL, 0, 10⟩
/-- AUD_RCH_CFG, R281. -/
abbrev R.AUD_RCH_CFG : Nat := 0x40900134
abbrev F.AUD_RCH_CFG_CONCEAL : Fld := ⟨R.AUD_RCH_CFG, 0, 1⟩
/-- AUD_RCH_STATUS, R281. -/
abbrev R.AUD_RCH_STATUS : Nat := 0x40900138
abbrev F.AUD_RCH_STATUS_ENTRY : Fld := ⟨R.AUD_RCH_STATUS, 0, 10⟩
abbrev F.AUD_RCH_STATUS_BOUND : Fld := ⟨R.AUD_RCH_STATUS, 10, 1⟩
abbrev F.AUD_RCH_STATUS_CONCEALING : Fld := ⟨R.AUD_RCH_STATUS, 11, 1⟩
abbrev F.AUD_RCH_STATUS_ORIGIN : Fld := ⟨R.AUD_RCH_STATUS, 12, 2⟩
/-- AUD_RCH_CONCEALED, R281. -/
abbrev R.AUD_RCH_CONCEALED : Nat := 0x4090013C
abbrev F.AUD_RCH_CONCEALED_SAMPLES : Fld := ⟨R.AUD_RCH_CONCEALED, 0, 32⟩
/-- AUD_RCH_USED, R281. -/
abbrev R.AUD_RCH_USED : Nat := 0x40900140
abbrev F.AUD_RCH_USED_FROM_P0 : Fld := ⟨R.AUD_RCH_USED, 0, 16⟩
abbrev F.AUD_RCH_USED_FROM_P1 : Fld := ⟨R.AUD_RCH_USED, 16, 16⟩
/-- AUD_OUT_SEL, R281. -/
abbrev R.AUD_OUT_SEL : Nat := 0x40900150
abbrev F.AUD_OUT_SEL_OUTPUT : Fld := ⟨R.AUD_OUT_SEL, 0, 9⟩
/-- AUD_OUT_CLIP, R281. -/
abbrev R.AUD_OUT_CLIP : Nat := 0x40900154
abbrev F.AUD_OUT_CLIP_COUNT : Fld := ⟨R.AUD_OUT_CLIP, 0, 32⟩
/-- AUD_DET_LOW_LO, R281. -/
abbrev R.AUD_DET_LOW_LO : Nat := 0x40900180
abbrev F.AUD_DET_LOW_LO_LOW : Fld := ⟨R.AUD_DET_LOW_LO, 0, 32⟩
/-- AUD_DET_LOW_HI, R281. -/
abbrev R.AUD_DET_LOW_HI : Nat := 0x40900184
abbrev F.AUD_DET_LOW_HI_LOW : Fld := ⟨R.AUD_DET_LOW_HI, 0, 32⟩
/-- AUD_GENg_CFG, R281. -/
abbrev R.AUD_GEN_CFG (i : Nat) : Nat := 0x40900800 + 0x10 * i
abbrev F.AUD_GEN_CFG_KIND (i : Nat) : Fld := ⟨R.AUD_GEN_CFG i, 0, 3⟩
abbrev F.AUD_GEN_CFG_ATT (i : Nat) : Fld := ⟨R.AUD_GEN_CFG i, 3, 10⟩
/-- AUD_GENg_FREQ, R281. -/
abbrev R.AUD_GEN_FREQ (i : Nat) : Nat := 0x40900804 + 0x10 * i
abbrev F.AUD_GEN_FREQ_FREQ (i : Nat) : Fld := ⟨R.AUD_GEN_FREQ i, 0, 17⟩
/-- AUD_GENg_CADENCE, R281. -/
abbrev R.AUD_GEN_CADENCE (i : Nat) : Nat := 0x40900808 + 0x10 * i
abbrev F.AUD_GEN_CADENCE_ON_CYCLES (i : Nat) : Fld := ⟨R.AUD_GEN_CADENCE i, 0, 16⟩
abbrev F.AUD_GEN_CADENCE_OFF_CYCLES (i : Nat) : Fld := ⟨R.AUD_GEN_CADENCE i, 16, 16⟩
/-- AUD_TDMt_CTRL, R281. -/
abbrev R.AUD_TDM_CTRL (i : Nat) : Nat := 0x40901000 + 0x20 * i
abbrev F.AUD_TDM_CTRL_ENABLE (i : Nat) : Fld := ⟨R.AUD_TDM_CTRL i, 0, 1⟩
abbrev F.AUD_TDM_CTRL_MASTER (i : Nat) : Fld := ⟨R.AUD_TDM_CTRL i, 1, 1⟩
abbrev F.AUD_TDM_CTRL_WIDTH (i : Nat) : Fld := ⟨R.AUD_TDM_CTRL i, 2, 6⟩
abbrev F.AUD_TDM_CTRL_SLOTS (i : Nat) : Fld := ⟨R.AUD_TDM_CTRL i, 8, 6⟩
abbrev F.AUD_TDM_CTRL_FSYNC_MODE (i : Nat) : Fld := ⟨R.AUD_TDM_CTRL i, 14, 2⟩
abbrev F.AUD_TDM_CTRL_BCLK_INV (i : Nat) : Fld := ⟨R.AUD_TDM_CTRL i, 16, 1⟩
abbrev F.AUD_TDM_CTRL_DIN_EN (i : Nat) : Fld := ⟨R.AUD_TDM_CTRL i, 17, 1⟩
abbrev F.AUD_TDM_CTRL_DOUT_EN (i : Nat) : Fld := ⟨R.AUD_TDM_CTRL i, 18, 1⟩
abbrev F.AUD_TDM_CTRL_DOUT_HIZ (i : Nat) : Fld := ⟨R.AUD_TDM_CTRL i, 19, 1⟩
/-- AUD_TDMt_STATUS, R281. -/
abbrev R.AUD_TDM_STATUS (i : Nat) : Nat := 0x40901004 + 0x20 * i
abbrev F.AUD_TDM_STATUS_STATE (i : Nat) : Fld := ⟨R.AUD_TDM_STATUS i, 0, 2⟩
abbrev F.AUD_TDM_STATUS_STOPPING (i : Nat) : Fld := ⟨R.AUD_TDM_STATUS i, 2, 1⟩
abbrev F.AUD_TDM_STATUS_CLOCK (i : Nat) : Fld := ⟨R.AUD_TDM_STATUS i, 3, 2⟩
/-- AUD_TDMt_REFUSE, R281. -/
abbrev R.AUD_TDM_REFUSE (i : Nat) : Nat := 0x40901008 + 0x20 * i
abbrev F.AUD_TDM_REFUSE_REASON (i : Nat) : Fld := ⟨R.AUD_TDM_REFUSE i, 0, 16⟩
abbrev F.AUD_TDM_REFUSE_DETAIL (i : Nat) : Fld := ⟨R.AUD_TDM_REFUSE i, 16, 16⟩
/-- AUD_TDMt_CNT, R281. -/
abbrev R.AUD_TDM_CNT (i : Nat) : Nat := 0x4090100C + 0x20 * i
abbrev F.AUD_TDM_CNT_SLIP (i : Nat) : Fld := ⟨R.AUD_TDM_CNT i, 0, 16⟩
abbrev F.AUD_TDM_CNT_LOST (i : Nat) : Fld := ⟨R.AUD_TDM_CNT i, 16, 16⟩
/-- AUD_TDMt_CNT2, R281. -/
abbrev R.AUD_TDM_CNT2 (i : Nat) : Nat := 0x40901010 + 0x20 * i
abbrev F.AUD_TDM_CNT2_RESYNC (i : Nat) : Fld := ⟨R.AUD_TDM_CNT2 i, 0, 16⟩
/-- AUD_DETd_CFG, R281. -/
abbrev R.AUD_DET_CFG (i : Nat) : Nat := 0x40901800 + 0x20 * i
abbrev F.AUD_DET_CFG_SOURCE (i : Nat) : Fld := ⟨R.AUD_DET_CFG i, 0, 11⟩
abbrev F.AUD_DET_CFG_EN (i : Nat) : Fld := ⟨R.AUD_DET_CFG i, 11, 1⟩
abbrev F.AUD_DET_CFG_FREQ (i : Nat) : Fld := ⟨R.AUD_DET_CFG i, 12, 17⟩
/-- AUD_DETd_CFG2, R281. -/
abbrev R.AUD_DET_CFG2 (i : Nat) : Nat := 0x40901804 + 0x20 * i
abbrev F.AUD_DET_CFG2_CYCLES (i : Nat) : Fld := ⟨R.AUD_DET_CFG2 i, 0, 11⟩
abbrev F.AUD_DET_CFG2_CONFIRM (i : Nat) : Fld := ⟨R.AUD_DET_CFG2 i, 11, 4⟩
/-- AUD_DETd_THR_LOW, R281. -/
abbrev R.AUD_DET_THR_LOW (i : Nat) : Nat := 0x40901808 + 0x20 * i
abbrev F.AUD_DET_THR_LOW_THR (i : Nat) : Fld := ⟨R.AUD_DET_THR_LOW i, 0, 32⟩
/-- AUD_DETd_THR_HIGH, R281. -/
abbrev R.AUD_DET_THR_HIGH (i : Nat) : Nat := 0x4090180C + 0x20 * i
abbrev F.AUD_DET_THR_HIGH_THR (i : Nat) : Fld := ⟨R.AUD_DET_THR_HIGH i, 0, 32⟩
/-- AUD_DET_MAG_LO, R281. -/
abbrev R.AUD_DET_MAG_LO (i : Nat) : Nat := 0x40901810 + 0x20 * i
abbrev F.AUD_DET_MAG_LO_MAG (i : Nat) : Fld := ⟨R.AUD_DET_MAG_LO i, 0, 32⟩
/-- AUD_DET_MAG_HI, R281. -/
abbrev R.AUD_DET_MAG_HI (i : Nat) : Nat := 0x40901814 + 0x20 * i
abbrev F.AUD_DET_MAG_HI_MAG (i : Nat) : Fld := ⟨R.AUD_DET_MAG_HI i, 0, 4⟩
/-- AUD_DETd_STATUS, R281. -/
abbrev R.AUD_DET_STATUS (i : Nat) : Nat := 0x40901818 + 0x20 * i
abbrev F.AUD_DET_STATUS_RESULT (i : Nat) : Fld := ⟨R.AUD_DET_STATUS i, 0, 2⟩
/-- AUD_DETd_CYCLE, R281. -/
abbrev R.AUD_DET_CYCLE (i : Nat) : Nat := 0x4090181C + 0x20 * i
abbrev F.AUD_DET_CYCLE_CYCLE (i : Nat) : Fld := ⟨R.AUD_DET_CYCLE i, 0, 32⟩
/-- AUD_OUTo, R281. -/
abbrev R.AUD_OUT (i : Nat) : Nat := 0x40902000 + 0x4 * i
abbrev F.AUD_OUT_MODE (i : Nat) : Fld := ⟨R.AUD_OUT i, 0, 1⟩
abbrev F.AUD_OUT_TDM_EN (i : Nat) : Fld := ⟨R.AUD_OUT i, 1, 1⟩
abbrev F.AUD_OUT_DITHER (i : Nat) : Fld := ⟨R.AUD_OUT i, 2, 1⟩
abbrev F.AUD_OUT_DUCK (i : Nat) : Fld := ⟨R.AUD_OUT i, 4, 24⟩
/-- AUD_PILOTo, R281. -/
abbrev R.AUD_PILOT (i : Nat) : Nat := 0x40902800 + 0x4 * i
abbrev F.AUD_PILOT_FREQ (i : Nat) : Fld := ⟨R.AUD_PILOT i, 0, 12⟩
abbrev F.AUD_PILOT_LEVEL (i : Nat) : Fld := ⟨R.AUD_PILOT i, 12, 6⟩
abbrev F.AUD_PILOT_EN (i : Nat) : Fld := ⟨R.AUD_PILOT i, 18, 1⟩
/-- AUD_TERMo_u, R281. -/
abbrev R.AUD_TERM (i : Nat) (j : Nat) : Nat := 0x40904000 + 0x40 * i + 0x8 * j
abbrev F.AUD_TERM_SOURCE (i : Nat) (j : Nat) : Fld := ⟨R.AUD_TERM i j, 0, 11⟩
abbrev F.AUD_TERM_LAYER (i : Nat) (j : Nat) : Fld := ⟨R.AUD_TERM i j, 11, 2⟩
abbrev F.AUD_TERM_EN (i : Nat) (j : Nat) : Fld := ⟨R.AUD_TERM i j, 13, 1⟩
abbrev F.AUD_TERM_GAIN_STC (i : Nat) (j : Nat) : Fld := ⟨R.AUD_TERM i j, 14, 1⟩
abbrev F.AUD_TERM_STC_CH (i : Nat) (j : Nat) : Fld := ⟨R.AUD_TERM i j, 15, 7⟩
/-- AUD_GAINo_u, R281. -/
abbrev R.AUD_GAIN (i : Nat) (j : Nat) : Nat := 0x40904004 + 0x40 * i + 0x8 * j
abbrev F.AUD_GAIN_GAIN (i : Nat) (j : Nat) : Fld := ⟨R.AUD_GAIN i j, 0, 24⟩
/-- AUD_LAYERo_L, R281. -/
abbrev R.AUD_LAYER (i : Nat) (j : Nat) : Nat := 0x4090C000 + 0x10 * i + 0x4 * j
abbrev F.AUD_LAYER_ACT (i : Nat) (j : Nat) : Fld := ⟨R.AUD_LAYER i j, 0, 2⟩
abbrev F.AUD_LAYER_FORCE (i : Nat) (j : Nat) : Fld := ⟨R.AUD_LAYER i j, 2, 1⟩
abbrev F.AUD_LAYER_STC_CH (i : Nat) (j : Nat) : Fld := ⟨R.AUD_LAYER i j, 3, 7⟩
abbrev F.AUD_LAYER_STC_BIT (i : Nat) (j : Nat) : Fld := ⟨R.AUD_LAYER i j, 10, 6⟩
abbrev F.AUD_LAYER_ACTIVE (i : Nat) (j : Nat) : Fld := ⟨R.AUD_LAYER i j, 16, 1⟩
abbrev F.AUD_LAYER_THR (i : Nat) (j : Nat) : Fld := ⟨R.AUD_LAYER i j, 20, 7⟩
abbrev F.AUD_LAYER_HOLD (i : Nat) (j : Nat) : Fld := ⟨R.AUD_LAYER i j, 27, 4⟩
/-- STC_CTRL, R292. -/
abbrev R.STC_CTRL : Nat := 0x40A00100
abbrev F.STC_CTRL_ENABLE : Fld := ⟨R.STC_CTRL, 0, 1⟩
/-- STC_STATUS, R292. -/
abbrev R.STC_STATUS : Nat := 0x40A00104
abbrev F.STC_STATUS_STATE : Fld := ⟨R.STC_STATUS, 0, 2⟩
abbrev F.STC_STATUS_STOPPING : Fld := ⟨R.STC_STATUS, 2, 1⟩
/-- STC_REFUSE, R292. -/
abbrev R.STC_REFUSE : Nat := 0x40A00108
abbrev F.STC_REFUSE_REASON : Fld := ⟨R.STC_REFUSE, 0, 16⟩
abbrev F.STC_REFUSE_DETAIL : Fld := ⟨R.STC_REFUSE, 16, 16⟩
/-- STC_FORMAT, R292. -/
abbrev R.STC_FORMAT : Nat := 0x40A00110
abbrev F.STC_FORMAT_FRAMES : Fld := ⟨R.STC_FORMAT, 0, 16⟩
/-- STC_SUSPECTk, R292. -/
abbrev R.STC_SUSPECT (i : Nat) : Nat := 0x40A00120 + 0x4 * i
abbrev F.STC_SUSPECT_CH (i : Nat) : Fld := ⟨R.STC_SUSPECT i, 0, 32⟩
/-- STC_MISMATCHk, R292. -/
abbrev R.STC_MISMATCH (i : Nat) : Nat := 0x40A00140 + 0x4 * i
abbrev F.STC_MISMATCH_UNIT (i : Nat) : Fld := ⟨R.STC_MISMATCH i, 0, 32⟩
/-- STC_CHc_CTRL, R292. -/
abbrev R.STC_CH_CTRL (i : Nat) : Nat := 0x40A01000 + 0x40 * i
abbrev F.STC_CH_CTRL_ENABLE (i : Nat) : Fld := ⟨R.STC_CH_CTRL i, 0, 1⟩
/-- STC_CHc_STATUS, R292. -/
abbrev R.STC_CH_STATUS (i : Nat) : Nat := 0x40A01004 + 0x40 * i
abbrev F.STC_CH_STATUS_STATE (i : Nat) : Fld := ⟨R.STC_CH_STATUS i, 0, 2⟩
abbrev F.STC_CH_STATUS_STOPPING (i : Nat) : Fld := ⟨R.STC_CH_STATUS i, 2, 1⟩
abbrev F.STC_CH_STATUS_VALID (i : Nat) : Fld := ⟨R.STC_CH_STATUS i, 3, 1⟩
abbrev F.STC_CH_STATUS_STALE (i : Nat) : Fld := ⟨R.STC_CH_STATUS i, 4, 1⟩
abbrev F.STC_CH_STATUS_FROZEN (i : Nat) : Fld := ⟨R.STC_CH_STATUS i, 5, 1⟩
abbrev F.STC_CH_STATUS_CHK_FAIL (i : Nat) : Fld := ⟨R.STC_CH_STATUS i, 6, 1⟩
abbrev F.STC_CH_STATUS_SAFE_OUT (i : Nat) : Fld := ⟨R.STC_CH_STATUS i, 7, 1⟩
abbrev F.STC_CH_STATUS_PATH (i : Nat) : Fld := ⟨R.STC_CH_STATUS i, 8, 1⟩
/-- STC_CHc_REFUSE, R292. -/
abbrev R.STC_CH_REFUSE (i : Nat) : Nat := 0x40A01008 + 0x40 * i
abbrev F.STC_CH_REFUSE_REASON (i : Nat) : Fld := ⟨R.STC_CH_REFUSE i, 0, 16⟩
abbrev F.STC_CH_REFUSE_DETAIL (i : Nat) : Fld := ⟨R.STC_CH_REFUSE i, 16, 16⟩
/-- STC_CHc_CFG, R292. -/
abbrev R.STC_CH_CFG (i : Nat) : Nat := 0x40A0100C + 0x40 * i
abbrev F.STC_CH_CFG_ROLE (i : Nat) : Fld := ⟨R.STC_CH_CFG i, 0, 2⟩
abbrev F.STC_CH_CFG_SRC (i : Nat) : Fld := ⟨R.STC_CH_CFG i, 2, 2⟩
abbrev F.STC_CH_CFG_PROD_PERIOD (i : Nat) : Fld := ⟨R.STC_CH_CFG i, 4, 8⟩
abbrev F.STC_CH_CFG_CONS_PERIOD (i : Nat) : Fld := ⟨R.STC_CH_CFG i, 12, 8⟩
abbrev F.STC_CH_CFG_PHASE (i : Nat) : Fld := ⟨R.STC_CH_CFG i, 20, 8⟩
abbrev F.STC_CH_CFG_CHK_EN (i : Nat) : Fld := ⟨R.STC_CH_CFG i, 28, 1⟩
abbrev F.STC_CH_CFG_FALLBACK (i : Nat) : Fld := ⟨R.STC_CH_CFG i, 29, 1⟩
/-- STC_CHc_CFG2, R292. -/
abbrev R.STC_CH_CFG2 (i : Nat) : Nat := 0x40A01010 + 0x40 * i
abbrev F.STC_CH_CFG2_DATA_ID (i : Nat) : Fld := ⟨R.STC_CH_CFG2 i, 0, 16⟩
abbrev F.STC_CH_CFG2_TIMEOUT (i : Nat) : Fld := ⟨R.STC_CH_CFG2 i, 16, 4⟩
abbrev F.STC_CH_CFG2_REPEAT_MAX (i : Nat) : Fld := ⟨R.STC_CH_CFG2 i, 20, 4⟩
/-- STC_CH_VALUE_LO, R292. -/
abbrev R.STC_CH_VALUE_LO (i : Nat) : Nat := 0x40A01014 + 0x40 * i
abbrev F.STC_CH_VALUE_LO_VALUE (i : Nat) : Fld := ⟨R.STC_CH_VALUE_LO i, 0, 32⟩
/-- STC_CH_VALUE_HI, R292. -/
abbrev R.STC_CH_VALUE_HI (i : Nat) : Nat := 0x40A01018 + 0x40 * i
abbrev F.STC_CH_VALUE_HI_VALUE (i : Nat) : Fld := ⟨R.STC_CH_VALUE_HI i, 0, 32⟩
/-- STC_CH_PRES_LO, R292. -/
abbrev R.STC_CH_PRES_LO (i : Nat) : Nat := 0x40A0101C + 0x40 * i
abbrev F.STC_CH_PRES_LO_VALUE (i : Nat) : Fld := ⟨R.STC_CH_PRES_LO i, 0, 32⟩
/-- STC_CH_PRES_HI, R292. -/
abbrev R.STC_CH_PRES_HI (i : Nat) : Nat := 0x40A01020 + 0x40 * i
abbrev F.STC_CH_PRES_HI_VALUE (i : Nat) : Fld := ⟨R.STC_CH_PRES_HI i, 0, 32⟩
/-- STC_CH_SAFE_LO, R292. -/
abbrev R.STC_CH_SAFE_LO (i : Nat) : Nat := 0x40A01024 + 0x40 * i
abbrev F.STC_CH_SAFE_LO_VALUE (i : Nat) : Fld := ⟨R.STC_CH_SAFE_LO i, 0, 32⟩
/-- STC_CH_SAFE_HI, R292. -/
abbrev R.STC_CH_SAFE_HI (i : Nat) : Nat := 0x40A01028 + 0x40 * i
abbrev F.STC_CH_SAFE_HI_VALUE (i : Nat) : Fld := ⟨R.STC_CH_SAFE_HI i, 0, 32⟩
/-- STC_CHc_ALIVE, R292. -/
abbrev R.STC_CH_ALIVE (i : Nat) : Nat := 0x40A0102C + 0x40 * i
abbrev F.STC_CH_ALIVE_ALIVE (i : Nat) : Fld := ⟨R.STC_CH_ALIVE i, 0, 8⟩
abbrev F.STC_CH_ALIVE_DELTA (i : Nat) : Fld := ⟨R.STC_CH_ALIVE i, 8, 8⟩
abbrev F.STC_CH_ALIVE_PERIOD (i : Nat) : Fld := ⟨R.STC_CH_ALIVE i, 16, 8⟩
/-- STC_CHc_CNT, R292. -/
abbrev R.STC_CH_CNT (i : Nat) : Nat := 0x40A01030 + 0x40 * i
abbrev F.STC_CH_CNT_REPEAT (i : Nat) : Fld := ⟨R.STC_CH_CNT i, 0, 16⟩
abbrev F.STC_CH_CNT_WINDOW_ERR (i : Nat) : Fld := ⟨R.STC_CH_CNT i, 16, 16⟩
/-- STC_CHc_CNT2, R292. -/
abbrev R.STC_CH_CNT2 (i : Nat) : Nat := 0x40A01034 + 0x40 * i
abbrev F.STC_CH_CNT2_CHK_ERR (i : Nat) : Fld := ⟨R.STC_CH_CNT2 i, 0, 16⟩
abbrev F.STC_CH_CNT2_STALE_EVT (i : Nat) : Fld := ⟨R.STC_CH_CNT2 i, 16, 16⟩
/-- STC_CHc_CNT3, R292. -/
abbrev R.STC_CH_CNT3 (i : Nat) : Nat := 0x40A01038 + 0x40 * i
abbrev F.STC_CH_CNT3_OLD (i : Nat) : Fld := ⟨R.STC_CH_CNT3 i, 0, 16⟩
abbrev F.STC_CH_CNT3_DUP (i : Nat) : Fld := ⟨R.STC_CH_CNT3 i, 16, 16⟩
/-- STC_CHc_LAST_CYCLE, R292. -/
abbrev R.STC_CH_LAST_CYCLE (i : Nat) : Nat := 0x40A0103C + 0x40 * i
abbrev F.STC_CH_LAST_CYCLE_CYCLE (i : Nat) : Fld := ⟨R.STC_CH_LAST_CYCLE i, 0, 32⟩
/-- STC_CVUu_CTRL, R292. -/
abbrev R.STC_CVU_CTRL (i : Nat) : Nat := 0x40A04000 + 0x40 * i
abbrev F.STC_CVU_CTRL_ENABLE (i : Nat) : Fld := ⟨R.STC_CVU_CTRL i, 0, 1⟩
/-- STC_CVUu_STATUS, R292. -/
abbrev R.STC_CVU_STATUS (i : Nat) : Nat := 0x40A04004 + 0x40 * i
abbrev F.STC_CVU_STATUS_STATE (i : Nat) : Fld := ⟨R.STC_CVU_STATUS i, 0, 2⟩
abbrev F.STC_CVU_STATUS_STOPPING (i : Nat) : Fld := ⟨R.STC_CVU_STATUS i, 2, 1⟩
abbrev F.STC_CVU_STATUS_LAST (i : Nat) : Fld := ⟨R.STC_CVU_STATUS i, 3, 2⟩
abbrev F.STC_CVU_STATUS_ALIVE_RES (i : Nat) : Fld := ⟨R.STC_CVU_STATUS i, 5, 2⟩
/-- STC_CVUu_REFUSE, R292. -/
abbrev R.STC_CVU_REFUSE (i : Nat) : Nat := 0x40A04008 + 0x40 * i
abbrev F.STC_CVU_REFUSE_REASON (i : Nat) : Fld := ⟨R.STC_CVU_REFUSE i, 0, 16⟩
abbrev F.STC_CVU_REFUSE_DETAIL (i : Nat) : Fld := ⟨R.STC_CVU_REFUSE i, 16, 16⟩
/-- STC_CVUu_CFG, R292. -/
abbrev R.STC_CVU_CFG (i : Nat) : Nat := 0x40A0400C + 0x40 * i
abbrev F.STC_CVU_CFG_POLY (i : Nat) : Fld := ⟨R.STC_CVU_CFG i, 0, 2⟩
abbrev F.STC_CVU_CFG_ALIVE_W (i : Nat) : Fld := ⟨R.STC_CVU_CFG i, 2, 1⟩
abbrev F.STC_CVU_CFG_MAXDELTA (i : Nat) : Fld := ⟨R.STC_CVU_CFG i, 3, 8⟩
/-- STC_CVUu_DATA, R292. -/
abbrev R.STC_CVU_DATA (i : Nat) : Nat := 0x40A04010 + 0x40 * i
abbrev F.STC_CVU_DATA_DATA (i : Nat) : Fld := ⟨R.STC_CVU_DATA i, 0, 32⟩
/-- STC_CVUu_CMD, R292. -/
abbrev R.STC_CVU_CMD (i : Nat) : Nat := 0x40A04014 + 0x40 * i
abbrev F.STC_CVU_CMD_BYTE (i : Nat) : Fld := ⟨R.STC_CVU_CMD i, 0, 8⟩
abbrev F.STC_CVU_CMD_FEED_BYTE (i : Nat) : Fld := ⟨R.STC_CVU_CMD i, 8, 1⟩
abbrev F.STC_CVU_CMD_START (i : Nat) : Fld := ⟨R.STC_CVU_CMD i, 9, 1⟩
abbrev F.STC_CVU_CMD_COMPARE (i : Nat) : Fld := ⟨R.STC_CVU_CMD i, 10, 1⟩
/-- STC_CVUu_RESULT, R292. -/
abbrev R.STC_CVU_RESULT (i : Nat) : Nat := 0x40A04018 + 0x40 * i
abbrev F.STC_CVU_RESULT_CRC (i : Nat) : Fld := ⟨R.STC_CVU_RESULT i, 0, 32⟩
/-- STC_CVUu_EXPECT, R292. -/
abbrev R.STC_CVU_EXPECT (i : Nat) : Nat := 0x40A0401C + 0x40 * i
abbrev F.STC_CVU_EXPECT_CRC (i : Nat) : Fld := ⟨R.STC_CVU_EXPECT i, 0, 32⟩
/-- STC_CVUu_ALIVE, R292. -/
abbrev R.STC_CVU_ALIVE (i : Nat) : Nat := 0x40A04020 + 0x40 * i
abbrev F.STC_CVU_ALIVE_VALUE (i : Nat) : Fld := ⟨R.STC_CVU_ALIVE i, 0, 8⟩
abbrev F.STC_CVU_ALIVE_LAST (i : Nat) : Fld := ⟨R.STC_CVU_ALIVE i, 8, 8⟩
abbrev F.STC_CVU_ALIVE_DELTA (i : Nat) : Fld := ⟨R.STC_CVU_ALIVE i, 16, 8⟩
/-- STC_CVUu_CNT, R292. -/
abbrev R.STC_CVU_CNT (i : Nat) : Nat := 0x40A04024 + 0x40 * i
abbrev F.STC_CVU_CNT_MISMATCH (i : Nat) : Fld := ⟨R.STC_CVU_CNT i, 0, 16⟩
abbrev F.STC_CVU_CNT_ALIVE_ERR (i : Nat) : Fld := ⟨R.STC_CVU_CNT i, 16, 16⟩
/-- STC_CVUu_CNT2, R292. -/
abbrev R.STC_CVU_CNT2 (i : Nat) : Nat := 0x40A04028 + 0x40 * i
abbrev F.STC_CVU_CNT2_REPEAT (i : Nat) : Fld := ⟨R.STC_CVU_CNT2 i, 0, 16⟩
/-- PCB_CTRL, R310. -/
abbrev R.PCB_CTRL : Nat := 0x40B00100
abbrev F.PCB_CTRL_ENABLE : Fld := ⟨R.PCB_CTRL, 0, 1⟩
/-- PCB_STATUS, R310. -/
abbrev R.PCB_STATUS : Nat := 0x40B00104
abbrev F.PCB_STATUS_STATE : Fld := ⟨R.PCB_STATUS, 0, 2⟩
abbrev F.PCB_STATUS_STOPPING : Fld := ⟨R.PCB_STATUS, 2, 1⟩
/-- PCB_REFUSE, R310. -/
abbrev R.PCB_REFUSE : Nat := 0x40B00108
abbrev F.PCB_REFUSE_REASON : Fld := ⟨R.PCB_REFUSE, 0, 16⟩
abbrev F.PCB_REFUSE_DETAIL : Fld := ⟨R.PCB_REFUSE, 16, 16⟩
/-- PCB_CFG, R310. -/
abbrev R.PCB_CFG : Nat := 0x40B00110
abbrev F.PCB_CFG_PACK_NS : Fld := ⟨R.PCB_CFG, 0, 10⟩
/-- PCB_ID, R310. -/
abbrev R.PCB_ID : Nat := 0x40B00114
abbrev F.PCB_ID_VENDOR : Fld := ⟨R.PCB_ID, 0, 16⟩
abbrev F.PCB_ID_DEVICE : Fld := ⟨R.PCB_ID, 16, 16⟩
/-- PCB_ID2, R310. -/
abbrev R.PCB_ID2 : Nat := 0x40B00118
abbrev F.PCB_ID2_REV : Fld := ⟨R.PCB_ID2, 0, 8⟩
/-- PCB_CFG_SEL, R310. -/
abbrev R.PCB_CFG_SEL : Nat := 0x40B00120
abbrev F.PCB_CFG_SEL_TARGET : Fld := ⟨R.PCB_CFG_SEL, 0, 6⟩
abbrev F.PCB_CFG_SEL_DWORD : Fld := ⟨R.PCB_CFG_SEL, 6, 10⟩
/-- PCB_CFG_DATA, R310. -/
abbrev R.PCB_CFG_DATA : Nat := 0x40B00124
abbrev F.PCB_CFG_DATA_DATA : Fld := ⟨R.PCB_CFG_DATA, 0, 32⟩
/-- PCB_FAULT_CNT, R310. -/
abbrev R.PCB_FAULT_CNT : Nat := 0x40B00130
abbrev F.PCB_FAULT_CNT_COUNT : Fld := ⟨R.PCB_FAULT_CNT, 0, 16⟩
/-- PCB_FAULT_LAST, R310. -/
abbrev R.PCB_FAULT_LAST : Nat := 0x40B00134
abbrev F.PCB_FAULT_LAST_LINK : Fld := ⟨R.PCB_FAULT_LAST, 0, 5⟩
abbrev F.PCB_FAULT_LAST_CAUSE : Fld := ⟨R.PCB_FAULT_LAST, 5, 3⟩
abbrev F.PCB_FAULT_LAST_CYCLE : Fld := ⟨R.PCB_FAULT_LAST, 8, 24⟩
/-- PCB_FAULT_ADDR_LO, R310. -/
abbrev R.PCB_FAULT_ADDR_LO : Nat := 0x40B00138
abbrev F.PCB_FAULT_ADDR_LO_ADDR : Fld := ⟨R.PCB_FAULT_ADDR_LO, 0, 32⟩
/-- PCB_FAULT_ADDR_HI, R310. -/
abbrev R.PCB_FAULT_ADDR_HI : Nat := 0x40B0013C
abbrev F.PCB_FAULT_ADDR_HI_ADDR : Fld := ⟨R.PCB_FAULT_ADDR_HI, 0, 32⟩
/-- PCB_UNEXP, R310. -/
abbrev R.PCB_UNEXP : Nat := 0x40B00140
abbrev F.PCB_UNEXP_P2P : Fld := ⟨R.PCB_UNEXP, 0, 16⟩
/-- PCB_LEDGER_SEL, R310. -/
abbrev R.PCB_LEDGER_SEL : Nat := 0x40B00200
abbrev F.PCB_LEDGER_SEL_INDEX : Fld := ⟨R.PCB_LEDGER_SEL, 0, 6⟩
/-- PCB_LEDGER_INFO, R310. -/
abbrev R.PCB_LEDGER_INFO : Nat := 0x40B00204
abbrev F.PCB_LEDGER_INFO_LINK : Fld := ⟨R.PCB_LEDGER_INFO, 0, 5⟩
abbrev F.PCB_LEDGER_INFO_CAUSE : Fld := ⟨R.PCB_LEDGER_INFO, 5, 3⟩
abbrev F.PCB_LEDGER_INFO_CYCLE : Fld := ⟨R.PCB_LEDGER_INFO, 8, 24⟩
/-- PCB_LEDGER_FIRST, R310. -/
abbrev R.PCB_LEDGER_FIRST : Nat := 0x40B00208
abbrev F.PCB_LEDGER_FIRST_NUMBER : Fld := ⟨R.PCB_LEDGER_FIRST, 0, 32⟩
/-- PCB_LEDGER_COUNT, R310. -/
abbrev R.PCB_LEDGER_COUNT : Nat := 0x40B0020C
abbrev F.PCB_LEDGER_COUNT_COUNT : Fld := ⟨R.PCB_LEDGER_COUNT, 0, 32⟩
/-- PCB_LEDGER_ADDR_LO, R310. -/
abbrev R.PCB_LEDGER_ADDR_LO : Nat := 0x40B00210
abbrev F.PCB_LEDGER_ADDR_LO_ADDR : Fld := ⟨R.PCB_LEDGER_ADDR_LO, 0, 32⟩
/-- PCB_LEDGER_ADDR_HI, R310. -/
abbrev R.PCB_LEDGER_ADDR_HI : Nat := 0x40B00214
abbrev F.PCB_LEDGER_ADDR_HI_ADDR : Fld := ⟨R.PCB_LEDGER_ADDR_HI, 0, 32⟩
/-- PCB_LEDGER_STATUS, R310. -/
abbrev R.PCB_LEDGER_STATUS : Nat := 0x40B00218
abbrev F.PCB_LEDGER_STATUS_ENTRIES : Fld := ⟨R.PCB_LEDGER_STATUS, 0, 7⟩
abbrev F.PCB_LEDGER_STATUS_OVERWRITTEN : Fld := ⟨R.PCB_LEDGER_STATUS, 16, 16⟩
/-- PCBq_CTRL, R310. -/
abbrev R.PCBQ_CTRL (i : Nat) : Nat := 0x40B01000 + 0x40 * i
abbrev F.PCBQ_CTRL_ENABLE (i : Nat) : Fld := ⟨R.PCBQ_CTRL i, 0, 1⟩
/-- PCBq_STATUS, R310. -/
abbrev R.PCBQ_STATUS (i : Nat) : Nat := 0x40B01004 + 0x40 * i
abbrev F.PCBQ_STATUS_STATE (i : Nat) : Fld := ⟨R.PCBQ_STATUS i, 0, 2⟩
abbrev F.PCBQ_STATUS_STOPPING (i : Nat) : Fld := ⟨R.PCBQ_STATUS i, 2, 1⟩
abbrev F.PCBQ_STATUS_LINK_UP (i : Nat) : Fld := ⟨R.PCBQ_STATUS i, 3, 1⟩
abbrev F.PCBQ_STATUS_SPEED (i : Nat) : Fld := ⟨R.PCBQ_STATUS i, 4, 3⟩
abbrev F.PCBQ_STATUS_WIDTH (i : Nat) : Fld := ⟨R.PCBQ_STATUS i, 7, 3⟩
abbrev F.PCBQ_STATUS_LTSSM (i : Nat) : Fld := ⟨R.PCBQ_STATUS i, 10, 6⟩
abbrev F.PCBQ_STATUS_UPSTREAM (i : Nat) : Fld := ⟨R.PCBQ_STATUS i, 16, 1⟩
/-- PCBq_REFUSE, R310. -/
abbrev R.PCBQ_REFUSE (i : Nat) : Nat := 0x40B01008 + 0x40 * i
abbrev F.PCBQ_REFUSE_REASON (i : Nat) : Fld := ⟨R.PCBQ_REFUSE i, 0, 16⟩
abbrev F.PCBQ_REFUSE_DETAIL (i : Nat) : Fld := ⟨R.PCBQ_REFUSE i, 16, 16⟩
/-- PCBq_CPL_POOL, R310. -/
abbrev R.PCBQ_CPL_POOL (i : Nat) : Nat := 0x40B0100C + 0x40 * i
abbrev F.PCBQ_CPL_POOL_KIB (i : Nat) : Fld := ⟨R.PCBQ_CPL_POOL i, 0, 12⟩
/-- PCBq_MEM, R310. -/
abbrev R.PCBQ_MEM (i : Nat) : Nat := 0x40B01010 + 0x40 * i
abbrev F.PCBQ_MEM_USED (i : Nat) : Fld := ⟨R.PCBQ_MEM i, 0, 12⟩
/-- PCBq_ERR, R310. -/
abbrev R.PCBQ_ERR (i : Nat) : Nat := 0x40B01014 + 0x40 * i
abbrev F.PCBQ_ERR_MALFORMED (i : Nat) : Fld := ⟨R.PCBQ_ERR i, 0, 16⟩
abbrev F.PCBQ_ERR_RX_ERR (i : Nat) : Fld := ⟨R.PCBQ_ERR i, 16, 16⟩
/-- PCBq_DOWN, R310. -/
abbrev R.PCBQ_DOWN (i : Nat) : Nat := 0x40B01018 + 0x40 * i
abbrev F.PCBQ_DOWN_COUNT (i : Nat) : Fld := ⟨R.PCBQ_DOWN i, 0, 16⟩
/-- PCB_LNKl_CTRL, R310. -/
abbrev R.PCB_LNK_CTRL (i : Nat) : Nat := 0x40B02000 + 0x40 * i
abbrev F.PCB_LNK_CTRL_ENABLE (i : Nat) : Fld := ⟨R.PCB_LNK_CTRL i, 0, 1⟩
/-- PCB_LNKl_STATUS, R310. -/
abbrev R.PCB_LNK_STATUS (i : Nat) : Nat := 0x40B02004 + 0x40 * i
abbrev F.PCB_LNK_STATUS_STATE (i : Nat) : Fld := ⟨R.PCB_LNK_STATUS i, 0, 2⟩
abbrev F.PCB_LNK_STATUS_STOPPING (i : Nat) : Fld := ⟨R.PCB_LNK_STATUS i, 2, 1⟩
abbrev F.PCB_LNK_STATUS_FAR_UP (i : Nat) : Fld := ⟨R.PCB_LNK_STATUS i, 3, 1⟩
abbrev F.PCB_LNK_STATUS_FAR_SPEED (i : Nat) : Fld := ⟨R.PCB_LNK_STATUS i, 4, 3⟩
abbrev F.PCB_LNK_STATUS_FAR_WIDTH (i : Nat) : Fld := ⟨R.PCB_LNK_STATUS i, 7, 3⟩
abbrev F.PCB_LNK_STATUS_LOCKED (i : Nat) : Fld := ⟨R.PCB_LNK_STATUS i, 10, 1⟩
abbrev F.PCB_LNK_STATUS_DEAD (i : Nat) : Fld := ⟨R.PCB_LNK_STATUS i, 11, 1⟩
/-- PCB_LNKl_REFUSE, R310. -/
abbrev R.PCB_LNK_REFUSE (i : Nat) : Nat := 0x40B02008 + 0x40 * i
abbrev F.PCB_LNK_REFUSE_REASON (i : Nat) : Fld := ⟨R.PCB_LNK_REFUSE i, 0, 16⟩
abbrev F.PCB_LNK_REFUSE_DETAIL (i : Nat) : Fld := ⟨R.PCB_LNK_REFUSE i, 16, 16⟩
/-- PCB_LNKl_CFG, R310. -/
abbrev R.PCB_LNK_CFG (i : Nat) : Nat := 0x40B0200C + 0x40 * i
abbrev F.PCB_LNK_CFG_ENTRY (i : Nat) : Fld := ⟨R.PCB_LNK_CFG i, 0, 10⟩
abbrev F.PCB_LNK_CFG_CTO (i : Nat) : Fld := ⟨R.PCB_LNK_CFG i, 16, 13⟩
/-- PCB_LNKl_BUF, R310. -/
abbrev R.PCB_LNK_BUF (i : Nat) : Nat := 0x40B02010 + 0x40 * i
abbrev F.PCB_LNK_BUF_P_HDR (i : Nat) : Fld := ⟨R.PCB_LNK_BUF i, 0, 11⟩
abbrev F.PCB_LNK_BUF_P_DATA (i : Nat) : Fld := ⟨R.PCB_LNK_BUF i, 11, 11⟩
abbrev F.PCB_LNK_BUF_NP_HDR (i : Nat) : Fld := ⟨R.PCB_LNK_BUF i, 22, 9⟩
/-- PCB_LNKl_OPEN, R310. -/
abbrev R.PCB_LNK_OPEN (i : Nat) : Nat := 0x40B02014 + 0x40 * i
abbrev F.PCB_LNK_OPEN_TO_FAR (i : Nat) : Fld := ⟨R.PCB_LNK_OPEN i, 0, 9⟩
abbrev F.PCB_LNK_OPEN_FROM_FAR (i : Nat) : Fld := ⟨R.PCB_LNK_OPEN i, 16, 9⟩
/-- PCB_LNKl_PSENT, R310. -/
abbrev R.PCB_LNK_PSENT (i : Nat) : Nat := 0x40B02018 + 0x40 * i
abbrev F.PCB_LNK_PSENT_NUMBER (i : Nat) : Fld := ⟨R.PCB_LNK_PSENT i, 0, 32⟩
/-- PCB_LNKl_PDISP, R310. -/
abbrev R.PCB_LNK_PDISP (i : Nat) : Nat := 0x40B0201C + 0x40 * i
abbrev F.PCB_LNK_PDISP_DISPOSED (i : Nat) : Fld := ⟨R.PCB_LNK_PDISP i, 0, 32⟩
/-- PCB_LNKl_PFAIL, R310. -/
abbrev R.PCB_LNK_PFAIL (i : Nat) : Nat := 0x40B02020 + 0x40 * i
abbrev F.PCB_LNK_PFAIL_COUNT (i : Nat) : Fld := ⟨R.PCB_LNK_PFAIL i, 0, 32⟩
/-- PCB_LNKl_CNT, R310. -/
abbrev R.PCB_LNK_CNT (i : Nat) : Nat := 0x40B02024 + 0x40 * i
abbrev F.PCB_LNK_CNT_TIMEOUT (i : Nat) : Fld := ⟨R.PCB_LNK_CNT i, 0, 16⟩
abbrev F.PCB_LNK_CNT_LATE_CPL (i : Nat) : Fld := ⟨R.PCB_LNK_CNT i, 16, 16⟩
/-- PCB_LNKl_CNT2, R310. -/
abbrev R.PCB_LNK_CNT2 (i : Nat) : Nat := 0x40B02028 + 0x40 * i
abbrev F.PCB_LNK_CNT2_UR_SENT (i : Nat) : Fld := ⟨R.PCB_LNK_CNT2 i, 0, 16⟩
abbrev F.PCB_LNK_CNT2_LOCK_REFUSED (i : Nat) : Fld := ⟨R.PCB_LNK_CNT2 i, 16, 16⟩
/-- PCB_LNKl_CREDIT, R310. -/
abbrev R.PCB_LNK_CREDIT (i : Nat) : Nat := 0x40B0202C + 0x40 * i
abbrev F.PCB_LNK_CREDIT_P_HDR (i : Nat) : Fld := ⟨R.PCB_LNK_CREDIT i, 0, 12⟩
abbrev F.PCB_LNK_CREDIT_P_DATA (i : Nat) : Fld := ⟨R.PCB_LNK_CREDIT i, 12, 20⟩
/-- PCB_LNKl_STALL, R310. -/
abbrev R.PCB_LNK_STALL (i : Nat) : Nat := 0x40B02030 + 0x40 * i
abbrev F.PCB_LNK_STALL_NP_WAIT (i : Nat) : Fld := ⟨R.PCB_LNK_STALL i, 0, 16⟩
abbrev F.PCB_LNK_STALL_CREDIT_WAIT (i : Nat) : Fld := ⟨R.PCB_LNK_STALL i, 16, 16⟩
/-- DPE_CTRL, R326. -/
abbrev R.DPE_CTRL : Nat := 0x40C00100
abbrev F.DPE_CTRL_ENABLE : Fld := ⟨R.DPE_CTRL, 0, 1⟩
/-- DPE_STATUS, R326. -/
abbrev R.DPE_STATUS : Nat := 0x40C00104
abbrev F.DPE_STATUS_STATE : Fld := ⟨R.DPE_STATUS, 0, 2⟩
abbrev F.DPE_STATUS_STOPPING : Fld := ⟨R.DPE_STATUS, 2, 1⟩
/-- DPE_REFUSE, R326. -/
abbrev R.DPE_REFUSE : Nat := 0x40C00108
abbrev F.DPE_REFUSE_REASON : Fld := ⟨R.DPE_REFUSE, 0, 16⟩
abbrev F.DPE_REFUSE_DETAIL : Fld := ⟨R.DPE_REFUSE, 16, 16⟩
/-- DPE_LEARN_CFG, R326. -/
abbrev R.DPE_LEARN_CFG : Nat := 0x40C00110
abbrev F.DPE_LEARN_CFG_AGE_S : Fld := ⟨R.DPE_LEARN_CFG, 0, 16⟩
abbrev F.DPE_LEARN_CFG_LEARN_EN : Fld := ⟨R.DPE_LEARN_CFG, 16, 1⟩
/-- DPE_LEARN_STAT, R326. -/
abbrev R.DPE_LEARN_STAT : Nat := 0x40C00114
abbrev F.DPE_LEARN_STAT_USED : Fld := ⟨R.DPE_LEARN_STAT, 0, 13⟩
abbrev F.DPE_LEARN_STAT_FULL_DROP : Fld := ⟨R.DPE_LEARN_STAT, 16, 16⟩
/-- DPE_LEARN_STAT2, R326. -/
abbrev R.DPE_LEARN_STAT2 : Nat := 0x40C00118
abbrev F.DPE_LEARN_STAT2_MOVES : Fld := ⟨R.DPE_LEARN_STAT2, 0, 16⟩
abbrev F.DPE_LEARN_STAT2_AGED : Fld := ⟨R.DPE_LEARN_STAT2, 16, 16⟩
/-- DPE_LEARN_FLUSH, R326. -/
abbrev R.DPE_LEARN_FLUSH : Nat := 0x40C0011C
abbrev F.DPE_LEARN_FLUSH_ENTRY : Fld := ⟨R.DPE_LEARN_FLUSH, 0, 10⟩
abbrev F.DPE_LEARN_FLUSH_ALL : Fld := ⟨R.DPE_LEARN_FLUSH, 10, 1⟩
abbrev F.DPE_LEARN_FLUSH_GO : Fld := ⟨R.DPE_LEARN_FLUSH, 11, 1⟩
/-- DPE_DPq_CTRL, R326. -/
abbrev R.DPE_DP_CTRL (i : Nat) : Nat := 0x40C01000 + 0x40 * i
abbrev F.DPE_DP_CTRL_ENABLE (i : Nat) : Fld := ⟨R.DPE_DP_CTRL i, 0, 1⟩
abbrev F.DPE_DP_CTRL_MAX_RATE (i : Nat) : Fld := ⟨R.DPE_DP_CTRL i, 1, 2⟩
abbrev F.DPE_DP_CTRL_MAX_LANES (i : Nat) : Fld := ⟨R.DPE_DP_CTRL i, 3, 2⟩
abbrev F.DPE_DP_CTRL_HPD_PROD (i : Nat) : Fld := ⟨R.DPE_DP_CTRL i, 5, 1⟩
abbrev F.DPE_DP_CTRL_HPD_USE (i : Nat) : Fld := ⟨R.DPE_DP_CTRL i, 6, 1⟩
abbrev F.DPE_DP_CTRL_HPD_CH (i : Nat) : Fld := ⟨R.DPE_DP_CTRL i, 7, 7⟩
/-- DPE_DPq_STATUS, R326. -/
abbrev R.DPE_DP_STATUS (i : Nat) : Nat := 0x40C01004 + 0x40 * i
abbrev F.DPE_DP_STATUS_STATE (i : Nat) : Fld := ⟨R.DPE_DP_STATUS i, 0, 2⟩
abbrev F.DPE_DP_STATUS_STOPPING (i : Nat) : Fld := ⟨R.DPE_DP_STATUS i, 2, 1⟩
abbrev F.DPE_DP_STATUS_RX_LINK (i : Nat) : Fld := ⟨R.DPE_DP_STATUS i, 3, 1⟩
abbrev F.DPE_DP_STATUS_TX_LINK (i : Nat) : Fld := ⟨R.DPE_DP_STATUS i, 4, 1⟩
abbrev F.DPE_DP_STATUS_VIDEO (i : Nat) : Fld := ⟨R.DPE_DP_STATUS i, 5, 1⟩
abbrev F.DPE_DP_STATUS_EDID_OK (i : Nat) : Fld := ⟨R.DPE_DP_STATUS i, 6, 1⟩
/-- DPE_DPq_REFUSE, R326. -/
abbrev R.DPE_DP_REFUSE (i : Nat) : Nat := 0x40C01008 + 0x40 * i
abbrev F.DPE_DP_REFUSE_REASON (i : Nat) : Fld := ⟨R.DPE_DP_REFUSE i, 0, 16⟩
abbrev F.DPE_DP_REFUSE_DETAIL (i : Nat) : Fld := ⟨R.DPE_DP_REFUSE i, 16, 16⟩
/-- DPE_DPq_DRATE, R326. -/
abbrev R.DPE_DP_DRATE (i : Nat) : Nat := 0x40C0100C + 0x40 * i
abbrev F.DPE_DP_DRATE_KBPS (i : Nat) : Fld := ⟨R.DPE_DP_DRATE i, 0, 27⟩
/-- DPE_DPq_TIMING, R326. -/
abbrev R.DPE_DP_TIMING (i : Nat) : Nat := 0x40C01010 + 0x40 * i
abbrev F.DPE_DP_TIMING_HACTIVE (i : Nat) : Fld := ⟨R.DPE_DP_TIMING i, 0, 16⟩
abbrev F.DPE_DP_TIMING_VACTIVE (i : Nat) : Fld := ⟨R.DPE_DP_TIMING i, 16, 16⟩
/-- DPE_DPq_ERR, R326. -/
abbrev R.DPE_DP_ERR (i : Nat) : Nat := 0x40C01014 + 0x40 * i
abbrev F.DPE_DP_ERR_E_NS (i : Nat) : Fld := ⟨R.DPE_DP_ERR i, 0, 32⟩
/-- DPE_DPq_CNT, R326. -/
abbrev R.DPE_DP_CNT (i : Nat) : Nat := 0x40C01018 + 0x40 * i
abbrev F.DPE_DP_CNT_LINE_REPEAT (i : Nat) : Fld := ⟨R.DPE_DP_CNT i, 0, 16⟩
abbrev F.DPE_DP_CNT_FRAME_ADJ (i : Nat) : Fld := ⟨R.DPE_DP_CNT i, 16, 16⟩
/-- DPE_DPq_CNT2, R326. -/
abbrev R.DPE_DP_CNT2 (i : Nat) : Nat := 0x40C0101C + 0x40 * i
abbrev F.DPE_DP_CNT2_AUX_NACK (i : Nat) : Fld := ⟨R.DPE_DP_CNT2 i, 0, 16⟩
abbrev F.DPE_DP_CNT2_SDP_DROP (i : Nat) : Fld := ⟨R.DPE_DP_CNT2 i, 16, 16⟩
/-- DPE_DPq_AUX, R326. -/
abbrev R.DPE_DP_AUX (i : Nat) : Nat := 0x40C01020 + 0x40 * i
abbrev F.DPE_DP_AUX_WAIT_MS (i : Nat) : Fld := ⟨R.DPE_DP_AUX i, 0, 8⟩
/-- DPE_ETHq_CTRL, R326. -/
abbrev R.DPE_ETH_CTRL (i : Nat) : Nat := 0x40C01800 + 0x40 * i
abbrev F.DPE_ETH_CTRL_ENABLE (i : Nat) : Fld := ⟨R.DPE_ETH_CTRL i, 0, 1⟩
abbrev F.DPE_ETH_CTRL_FEC (i : Nat) : Fld := ⟨R.DPE_ETH_CTRL i, 1, 2⟩
abbrev F.DPE_ETH_CTRL_PAUSE_RX (i : Nat) : Fld := ⟨R.DPE_ETH_CTRL i, 3, 1⟩
/-- DPE_ETHq_STATUS, R326. -/
abbrev R.DPE_ETH_STATUS (i : Nat) : Nat := 0x40C01804 + 0x40 * i
abbrev F.DPE_ETH_STATUS_STATE (i : Nat) : Fld := ⟨R.DPE_ETH_STATUS i, 0, 2⟩
abbrev F.DPE_ETH_STATUS_STOPPING (i : Nat) : Fld := ⟨R.DPE_ETH_STATUS i, 2, 1⟩
abbrev F.DPE_ETH_STATUS_LINK (i : Nat) : Fld := ⟨R.DPE_ETH_STATUS i, 3, 4⟩
/-- DPE_ETHq_REFUSE, R326. -/
abbrev R.DPE_ETH_REFUSE (i : Nat) : Nat := 0x40C01808 + 0x40 * i
abbrev F.DPE_ETH_REFUSE_REASON (i : Nat) : Fld := ⟨R.DPE_ETH_REFUSE i, 0, 16⟩
abbrev F.DPE_ETH_REFUSE_DETAIL (i : Nat) : Fld := ⟨R.DPE_ETH_REFUSE i, 16, 16⟩
/-- DPE_MACm_DEFAULT, R326. -/
abbrev R.DPE_MAC_DEFAULT (i : Nat) : Nat := 0x40C02000 + 0x20 * i
abbrev F.DPE_MAC_DEFAULT_ENTRY (i : Nat) : Fld := ⟨R.DPE_MAC_DEFAULT i, 0, 10⟩
abbrev F.DPE_MAC_DEFAULT_EN (i : Nat) : Fld := ⟨R.DPE_MAC_DEFAULT i, 10, 1⟩
/-- DPE_MACm_CNT, R326. -/
abbrev R.DPE_MAC_CNT (i : Nat) : Nat := 0x40C02004 + 0x20 * i
abbrev F.DPE_MAC_CNT_FCS_DROP (i : Nat) : Fld := ⟨R.DPE_MAC_CNT i, 0, 16⟩
abbrev F.DPE_MAC_CNT_NOMAP_DROP (i : Nat) : Fld := ⟨R.DPE_MAC_CNT i, 16, 16⟩
/-- DPE_MACm_CNT2, R326. -/
abbrev R.DPE_MAC_CNT2 (i : Nat) : Nat := 0x40C02008 + 0x20 * i
abbrev F.DPE_MAC_CNT2_FIFO_DROP (i : Nat) : Fld := ⟨R.DPE_MAC_CNT2 i, 0, 16⟩
abbrev F.DPE_MAC_CNT2_LOCAL_FILTER (i : Nat) : Fld := ⟨R.DPE_MAC_CNT2 i, 16, 16⟩
/-- DPE_MACm_CNT3, R326. -/
abbrev R.DPE_MAC_CNT3 (i : Nat) : Nat := 0x40C0200C + 0x20 * i
abbrev F.DPE_MAC_CNT3_LINK_DROP (i : Nat) : Fld := ⟨R.DPE_MAC_CNT3 i, 0, 16⟩
/-- DPE_VMAPq_v, R326. -/
abbrev R.DPE_VMAP (i : Nat) (j : Nat) : Nat := 0x40C03000 + 0x100 * i + 0x4 * j
abbrev F.DPE_VMAP_VID (i : Nat) (j : Nat) : Fld := ⟨R.DPE_VMAP i j, 0, 12⟩
abbrev F.DPE_VMAP_MAC (i : Nat) (j : Nat) : Fld := ⟨R.DPE_VMAP i j, 12, 2⟩
abbrev F.DPE_VMAP_ENTRY (i : Nat) (j : Nat) : Fld := ⟨R.DPE_VMAP i j, 14, 10⟩
abbrev F.DPE_VMAP_POP (i : Nat) (j : Nat) : Fld := ⟨R.DPE_VMAP i j, 24, 1⟩
abbrev F.DPE_VMAP_EN (i : Nat) (j : Nat) : Fld := ⟨R.DPE_VMAP i j, 25, 1⟩
/-- TCP_CTRL, R350. -/
abbrev R.TCP_CTRL : Nat := 0x50000100
abbrev F.TCP_CTRL_ENABLE : Fld := ⟨R.TCP_CTRL, 0, 1⟩
/-- TCP_STATUS, R350. -/
abbrev R.TCP_STATUS : Nat := 0x50000104
abbrev F.TCP_STATUS_STATE : Fld := ⟨R.TCP_STATUS, 0, 2⟩
abbrev F.TCP_STATUS_STOPPING : Fld := ⟨R.TCP_STATUS, 2, 1⟩
abbrev F.TCP_STATUS_MOVING : Fld := ⟨R.TCP_STATUS, 3, 1⟩
abbrev F.TCP_STATUS_HELD_BUDGET : Fld := ⟨R.TCP_STATUS, 4, 1⟩
/-- TCP_REFUSE, R350. -/
abbrev R.TCP_REFUSE : Nat := 0x50000108
abbrev F.TCP_REFUSE_REASON : Fld := ⟨R.TCP_REFUSE, 0, 16⟩
abbrev F.TCP_REFUSE_DETAIL : Fld := ⟨R.TCP_REFUSE, 16, 16⟩
/-- TCP_BOARD, R350. -/
abbrev R.TCP_BOARD : Nat := 0x50000110
abbrev F.TCP_BOARD_UNITS : Fld := ⟨R.TCP_BOARD, 0, 13⟩
/-- TCP_ALT_ID, R350. -/
abbrev R.TCP_ALT_ID : Nat := 0x50000114
abbrev F.TCP_ALT_ID_SVID : Fld := ⟨R.TCP_ALT_ID, 0, 16⟩
/-- TCP_BUDGET_CMD, R350. -/
abbrev R.TCP_BUDGET_CMD : Nat := 0x50000118
abbrev F.TCP_BUDGET_CMD_COMMIT : Fld := ⟨R.TCP_BUDGET_CMD, 0, 1⟩
/-- TCP_BUDGET_RESULT, R350. -/
abbrev R.TCP_BUDGET_RESULT : Nat := 0x5000011C
abbrev F.TCP_BUDGET_RESULT_REASON : Fld := ⟨R.TCP_BUDGET_RESULT, 0, 16⟩
abbrev F.TCP_BUDGET_RESULT_DETAIL : Fld := ⟨R.TCP_BUDGET_RESULT, 16, 16⟩
/-- TCP_EVENT_PORTS, R350. -/
abbrev R.TCP_EVENT_PORTS : Nat := 0x50000120
abbrev F.TCP_EVENT_PORTS_PORTS : Fld := ⟨R.TCP_EVENT_PORTS, 0, 6⟩
/-- TCP_LIVE_SUM, R350. -/
abbrev R.TCP_LIVE_SUM : Nat := 0x50000124
abbrev F.TCP_LIVE_SUM_UNITS : Fld := ⟨R.TCP_LIVE_SUM, 0, 13⟩
/-- TCP_BSTAGEn, R350. -/
abbrev R.TCP_BSTAGE (i : Nat) : Nat := 0x50000140 + 0x4 * i
abbrev F.TCP_BSTAGE_UNITS (i : Nat) : Fld := ⟨R.TCP_BSTAGE i, 0, 10⟩
/-- TCP_BLIVEn, R350. -/
abbrev R.TCP_BLIVE (i : Nat) : Nat := 0x50000160 + 0x4 * i
abbrev F.TCP_BLIVE_LIVE (i : Nat) : Fld := ⟨R.TCP_BLIVE i, 0, 10⟩
abbrev F.TCP_BLIVE_DRAW (i : Nat) : Fld := ⟨R.TCP_BLIVE i, 10, 10⟩
/-- TCP_PORTn_CTRL, R350. -/
abbrev R.TCP_PORT_CTRL (i : Nat) : Nat := 0x50001000 + 0x100 * i
abbrev F.TCP_PORT_CTRL_ENABLE (i : Nat) : Fld := ⟨R.TCP_PORT_CTRL i, 0, 1⟩
abbrev F.TCP_PORT_CTRL_POWER_ROLE (i : Nat) : Fld := ⟨R.TCP_PORT_CTRL i, 1, 2⟩
abbrev F.TCP_PORT_CTRL_TRY (i : Nat) : Fld := ⟨R.TCP_PORT_CTRL i, 3, 2⟩
abbrev F.TCP_PORT_CTRL_VCONN_SWAP (i : Nat) : Fld := ⟨R.TCP_PORT_CTRL i, 5, 1⟩
abbrev F.TCP_PORT_CTRL_FRS (i : Nat) : Fld := ⟨R.TCP_PORT_CTRL i, 6, 1⟩
abbrev F.TCP_PORT_CTRL_EPR_EN (i : Nat) : Fld := ⟨R.TCP_PORT_CTRL i, 7, 1⟩
abbrev F.TCP_PORT_CTRL_ELREK_EN (i : Nat) : Fld := ⟨R.TCP_PORT_CTRL i, 8, 1⟩
abbrev F.TCP_PORT_CTRL_USB_UP (i : Nat) : Fld := ⟨R.TCP_PORT_CTRL i, 9, 1⟩
abbrev F.TCP_PORT_CTRL_SINK_PATH (i : Nat) : Fld := ⟨R.TCP_PORT_CTRL i, 10, 1⟩
/-- TCP_PORTn_STATUS, R350. -/
abbrev R.TCP_PORT_STATUS (i : Nat) : Nat := 0x50001004 + 0x100 * i
abbrev F.TCP_PORT_STATUS_STATE (i : Nat) : Fld := ⟨R.TCP_PORT_STATUS i, 0, 2⟩
abbrev F.TCP_PORT_STATUS_STOPPING (i : Nat) : Fld := ⟨R.TCP_PORT_STATUS i, 2, 1⟩
abbrev F.TCP_PORT_STATUS_CC (i : Nat) : Fld := ⟨R.TCP_PORT_STATUS i, 3, 4⟩
abbrev F.TCP_PORT_STATUS_ORIENT (i : Nat) : Fld := ⟨R.TCP_PORT_STATUS i, 7, 1⟩
abbrev F.TCP_PORT_STATUS_DATA (i : Nat) : Fld := ⟨R.TCP_PORT_STATUS i, 8, 1⟩
abbrev F.TCP_PORT_STATUS_VCONN (i : Nat) : Fld := ⟨R.TCP_PORT_STATUS i, 9, 1⟩
abbrev F.TCP_PORT_STATUS_CONTRACT (i : Nat) : Fld := ⟨R.TCP_PORT_STATUS i, 10, 2⟩
abbrev F.TCP_PORT_STATUS_TRANSITION (i : Nat) : Fld := ⟨R.TCP_PORT_STATUS i, 12, 1⟩
abbrev F.TCP_PORT_STATUS_ALT (i : Nat) : Fld := ⟨R.TCP_PORT_STATUS i, 13, 1⟩
abbrev F.TCP_PORT_STATUS_HALF_ONLY (i : Nat) : Fld := ⟨R.TCP_PORT_STATUS i, 14, 1⟩
abbrev F.TCP_PORT_STATUS_WET (i : Nat) : Fld := ⟨R.TCP_PORT_STATUS i, 15, 1⟩
abbrev F.TCP_PORT_STATUS_HELD (i : Nat) : Fld := ⟨R.TCP_PORT_STATUS i, 16, 1⟩
/-- TCP_PORTn_REFUSE, R350. -/
abbrev R.TCP_PORT_REFUSE (i : Nat) : Nat := 0x50001008 + 0x100 * i
abbrev F.TCP_PORT_REFUSE_REASON (i : Nat) : Fld := ⟨R.TCP_PORT_REFUSE i, 0, 16⟩
abbrev F.TCP_PORT_REFUSE_DETAIL (i : Nat) : Fld := ⟨R.TCP_PORT_REFUSE i, 16, 16⟩
/-- TCP_PORTn_POLICY, R350. -/
abbrev R.TCP_PORT_POLICY (i : Nat) : Nat := 0x5000100C + 0x100 * i
abbrev F.TCP_PORT_POLICY_PR_SWAP (i : Nat) : Fld := ⟨R.TCP_PORT_POLICY i, 0, 2⟩
abbrev F.TCP_PORT_POLICY_DR_SWAP (i : Nat) : Fld := ⟨R.TCP_PORT_POLICY i, 2, 2⟩
/-- TCP_PORTn_ASK, R350. -/
abbrev R.TCP_PORT_ASK (i : Nat) : Nat := 0x50001010 + 0x100 * i
abbrev F.TCP_PORT_ASK_KIND (i : Nat) : Fld := ⟨R.TCP_PORT_ASK i, 0, 2⟩
abbrev F.TCP_PORT_ASK_ACCEPT (i : Nat) : Fld := ⟨R.TCP_PORT_ASK i, 2, 1⟩
abbrev F.TCP_PORT_ASK_GO (i : Nat) : Fld := ⟨R.TCP_PORT_ASK i, 3, 1⟩
/-- TCP_PORTn_TMR, R350. -/
abbrev R.TCP_PORT_TMR (i : Nat) : Nat := 0x50001014 + 0x100 * i
abbrev F.TCP_PORT_TMR_WAIT_MS (i : Nat) : Fld := ⟨R.TCP_PORT_TMR i, 0, 10⟩
abbrev F.TCP_PORT_TMR_WAIT_MAX (i : Nat) : Fld := ⟨R.TCP_PORT_TMR i, 10, 6⟩
abbrev F.TCP_PORT_TMR_TOGGLE_MS (i : Nat) : Fld := ⟨R.TCP_PORT_TMR i, 16, 8⟩
abbrev F.TCP_PORT_TMR_SRC_DUTY (i : Nat) : Fld := ⟨R.TCP_PORT_TMR i, 24, 7⟩
/-- TCP_PORTn_TMR2, R350. -/
abbrev R.TCP_PORT_TMR2 (i : Nat) : Nat := 0x50001018 + 0x100 * i
abbrev F.TCP_PORT_TMR2_DETACH_MS (i : Nat) : Fld := ⟨R.TCP_PORT_TMR2 i, 0, 5⟩
abbrev F.TCP_PORT_TMR2_DRY_COUNT (i : Nat) : Fld := ⟨R.TCP_PORT_TMR2 i, 5, 4⟩
abbrev F.TCP_PORT_TMR2_WET_KOHM (i : Nat) : Fld := ⟨R.TCP_PORT_TMR2 i, 9, 10⟩
/-- TCP_PORTn_CMD, R350. -/
abbrev R.TCP_PORT_CMD (i : Nat) : Nat := 0x5000101C + 0x100 * i
abbrev F.TCP_PORT_CMD_OP (i : Nat) : Fld := ⟨R.TCP_PORT_CMD i, 0, 4⟩
/-- TCP_PORTn_CMD_STATUS, R350. -/
abbrev R.TCP_PORT_CMD_STATUS (i : Nat) : Nat := 0x50001020 + 0x100 * i
abbrev F.TCP_PORT_CMD_STATUS_REASON (i : Nat) : Fld := ⟨R.TCP_PORT_CMD_STATUS i, 0, 16⟩
abbrev F.TCP_PORT_CMD_STATUS_DETAIL (i : Nat) : Fld := ⟨R.TCP_PORT_CMD_STATUS i, 16, 16⟩
/-- TCP_PORTn_SINK, R350. -/
abbrev R.TCP_PORT_SINK (i : Nat) : Nat := 0x50001024 + 0x100 * i
abbrev F.TCP_PORT_SINK_VOLT (i : Nat) : Fld := ⟨R.TCP_PORT_SINK i, 0, 10⟩
abbrev F.TCP_PORT_SINK_CURR (i : Nat) : Fld := ⟨R.TCP_PORT_SINK i, 10, 10⟩
/-- TCP_PORTn_PDO0–10, R350. -/
abbrev R.TCP_PORT_PDO (i : Nat) (j : Nat) : Nat := 0x50001030 + 0x100 * i + 0x4 * j
abbrev F.TCP_PORT_PDO_PDO (i : Nat) (j : Nat) : Fld := ⟨R.TCP_PORT_PDO i j, 0, 32⟩
/-- TCP_PORTn_CONTRACT, R350. -/
abbrev R.TCP_PORT_CONTRACT (i : Nat) : Nat := 0x50001060 + 0x100 * i
abbrev F.TCP_PORT_CONTRACT_VOLT (i : Nat) : Fld := ⟨R.TCP_PORT_CONTRACT i, 0, 10⟩
abbrev F.TCP_PORT_CONTRACT_CURR (i : Nat) : Fld := ⟨R.TCP_PORT_CONTRACT i, 10, 10⟩
abbrev F.TCP_PORT_CONTRACT_POS (i : Nat) : Fld := ⟨R.TCP_PORT_CONTRACT i, 20, 4⟩
abbrev F.TCP_PORT_CONTRACT_EPR (i : Nat) : Fld := ⟨R.TCP_PORT_CONTRACT i, 24, 1⟩
/-- TCP_PORTn_CABLE, R350. -/
abbrev R.TCP_PORT_CABLE (i : Nat) : Nat := 0x50001064 + 0x100 * i
abbrev F.TCP_PORT_CABLE_EMARKED (i : Nat) : Fld := ⟨R.TCP_PORT_CABLE i, 0, 1⟩
abbrev F.TCP_PORT_CABLE_SPEED (i : Nat) : Fld := ⟨R.TCP_PORT_CABLE i, 1, 3⟩
abbrev F.TCP_PORT_CABLE_CURR_5A (i : Nat) : Fld := ⟨R.TCP_PORT_CABLE i, 4, 1⟩
abbrev F.TCP_PORT_CABLE_EPR_OK (i : Nat) : Fld := ⟨R.TCP_PORT_CABLE i, 5, 1⟩
/-- TCP_PORTn_PARTNER_VDO, R350. -/
abbrev R.TCP_PORT_PARTNER_VDO (i : Nat) : Nat := 0x50001068 + 0x100 * i
abbrev F.TCP_PORT_PARTNER_VDO_VDO (i : Nat) : Fld := ⟨R.TCP_PORT_PARTNER_VDO i, 0, 32⟩
/-- TCP_PORTn_MOIST, R350. -/
abbrev R.TCP_PORT_MOIST (i : Nat) : Nat := 0x5000106C + 0x100 * i
abbrev F.TCP_PORT_MOIST_KOHM (i : Nat) : Fld := ⟨R.TCP_PORT_MOIST i, 0, 10⟩
abbrev F.TCP_PORT_MOIST_PIN (i : Nat) : Fld := ⟨R.TCP_PORT_MOIST i, 10, 2⟩
abbrev F.TCP_PORT_MOIST_DRY (i : Nat) : Fld := ⟨R.TCP_PORT_MOIST i, 12, 4⟩
/-- TCP_PORTn_CNT, R350. -/
abbrev R.TCP_PORT_CNT (i : Nat) : Nat := 0x50001070 + 0x100 * i
abbrev F.TCP_PORT_CNT_ATTACH (i : Nat) : Fld := ⟨R.TCP_PORT_CNT i, 0, 16⟩
abbrev F.TCP_PORT_CNT_HARD_RESET (i : Nat) : Fld := ⟨R.TCP_PORT_CNT i, 16, 16⟩
/-- TCP_PORTn_CNT2, R350. -/
abbrev R.TCP_PORT_CNT2 (i : Nat) : Nat := 0x50001074 + 0x100 * i
abbrev F.TCP_PORT_CNT2_WAIT_RX (i : Nat) : Fld := ⟨R.TCP_PORT_CNT2 i, 0, 16⟩
abbrev F.TCP_PORT_CNT2_WAIT_TX (i : Nat) : Fld := ⟨R.TCP_PORT_CNT2 i, 16, 16⟩
/-- TCP_PORTn_CNT3, R350. -/
abbrev R.TCP_PORT_CNT3 (i : Nat) : Nat := 0x50001078 + 0x100 * i
abbrev F.TCP_PORT_CNT3_WET (i : Nat) : Fld := ⟨R.TCP_PORT_CNT3 i, 0, 16⟩
abbrev F.TCP_PORT_CNT3_FRS (i : Nat) : Fld := ⟨R.TCP_PORT_CNT3 i, 16, 16⟩
/-- TCP_PORTn_CNT4, R350. -/
abbrev R.TCP_PORT_CNT4 (i : Nat) : Nat := 0x5000107C + 0x100 * i
abbrev F.TCP_PORT_CNT4_COLLISION (i : Nat) : Fld := ⟨R.TCP_PORT_CNT4 i, 0, 16⟩
abbrev F.TCP_PORT_CNT4_XFER_DETACH (i : Nat) : Fld := ⟨R.TCP_PORT_CNT4 i, 16, 16⟩
/-- USB_CTRL, R368. -/
abbrev R.USB_CTRL : Nat := 0x50100100
abbrev F.USB_CTRL_ENABLE : Fld := ⟨R.USB_CTRL, 0, 1⟩
/-- USB_STATUS, R368. -/
abbrev R.USB_STATUS : Nat := 0x50100104
abbrev F.USB_STATUS_STATE : Fld := ⟨R.USB_STATUS, 0, 2⟩
abbrev F.USB_STATUS_STOPPING : Fld := ⟨R.USB_STATUS, 2, 1⟩
abbrev F.USB_STATUS_CONNECTED : Fld := ⟨R.USB_STATUS, 3, 1⟩
abbrev F.USB_STATUS_SUSPENDED : Fld := ⟨R.USB_STATUS, 4, 1⟩
/-- USB_REFUSE, R368. -/
abbrev R.USB_REFUSE : Nat := 0x50100108
abbrev F.USB_REFUSE_REASON : Fld := ⟨R.USB_REFUSE, 0, 16⟩
abbrev F.USB_REFUSE_DETAIL : Fld := ⟨R.USB_REFUSE, 16, 16⟩
/-- USB_CFG, R368. -/
abbrev R.USB_CFG : Nat := 0x50100110
abbrev F.USB_CFG_UPSTREAM : Fld := ⟨R.USB_CFG, 0, 3⟩
/-- USB_ID, R368. -/
abbrev R.USB_ID : Nat := 0x50100114
abbrev F.USB_ID_VID : Fld := ⟨R.USB_ID, 0, 16⟩
abbrev F.USB_ID_HUB_PID : Fld := ⟨R.USB_ID, 16, 16⟩
/-- USB_ID2, R368. -/
abbrev R.USB_ID2 : Nat := 0x50100118
abbrev F.USB_ID2_DEV_PID : Fld := ⟨R.USB_ID2, 0, 16⟩
abbrev F.USB_ID2_BCD : Fld := ⟨R.USB_ID2, 16, 16⟩
/-- USB_FRAME, R368. -/
abbrev R.USB_FRAME : Nat := 0x5010011C
abbrev F.USB_FRAME_UFRAME : Fld := ⟨R.USB_FRAME, 0, 3⟩
abbrev F.USB_FRAME_FRAME : Fld := ⟨R.USB_FRAME, 3, 11⟩
/-- USB_RMT_CFG, R368. -/
abbrev R.USB_RMT_CFG : Nat := 0x50100120
abbrev F.USB_RMT_CFG_RESULT_MS : Fld := ⟨R.USB_RMT_CFG, 0, 8⟩
/-- USB_PORTk_CFG, R368. -/
abbrev R.USB_PORT_CFG (i : Nat) : Nat := 0x50101000 + 0x20 * i
abbrev F.USB_PORT_CFG_REMOTE (i : Nat) : Fld := ⟨R.USB_PORT_CFG i, 0, 1⟩
abbrev F.USB_PORT_CFG_ENTRY (i : Nat) : Fld := ⟨R.USB_PORT_CFG i, 1, 10⟩
/-- USB_PORTk_STATUS, R368. -/
abbrev R.USB_PORT_STATUS (i : Nat) : Nat := 0x50101004 + 0x20 * i
abbrev F.USB_PORT_STATUS_CONNECT (i : Nat) : Fld := ⟨R.USB_PORT_STATUS i, 0, 1⟩
abbrev F.USB_PORT_STATUS_SPEED (i : Nat) : Fld := ⟨R.USB_PORT_STATUS i, 1, 2⟩
abbrev F.USB_PORT_STATUS_ENABLED (i : Nat) : Fld := ⟨R.USB_PORT_STATUS i, 3, 1⟩
abbrev F.USB_PORT_STATUS_SUSPEND (i : Nat) : Fld := ⟨R.USB_PORT_STATUS i, 4, 1⟩
abbrev F.USB_PORT_STATUS_RESET (i : Nat) : Fld := ⟨R.USB_PORT_STATUS i, 5, 1⟩
abbrev F.USB_PORT_STATUS_OVERCURRENT (i : Nat) : Fld := ⟨R.USB_PORT_STATUS i, 6, 1⟩
abbrev F.USB_PORT_STATUS_UPSTREAM (i : Nat) : Fld := ⟨R.USB_PORT_STATUS i, 7, 1⟩
/-- USB_PORTk_CNT, R368. -/
abbrev R.USB_PORT_CNT (i : Nat) : Nat := 0x50101008 + 0x20 * i
abbrev F.USB_PORT_CNT_TIMEOUT (i : Nat) : Fld := ⟨R.USB_PORT_CNT i, 0, 16⟩
abbrev F.USB_PORT_CNT_STALE (i : Nat) : Fld := ⟨R.USB_PORT_CNT i, 16, 16⟩
/-- USB_PORTk_CNT2, R368. -/
abbrev R.USB_PORT_CNT2 (i : Nat) : Nat := 0x5010100C + 0x20 * i
abbrev F.USB_PORT_CNT2_ISO_DROP (i : Nat) : Fld := ⟨R.USB_PORT_CNT2 i, 0, 12⟩
abbrev F.USB_PORT_CNT2_LATE_FAIL (i : Nat) : Fld := ⟨R.USB_PORT_CNT2 i, 12, 10⟩
abbrev F.USB_PORT_CNT2_WAKE_LATE (i : Nat) : Fld := ⟨R.USB_PORT_CNT2 i, 22, 10⟩
/-- USB_DEV_STATUS, R368. -/
abbrev R.USB_DEV_STATUS : Nat := 0x50102000
abbrev F.USB_DEV_STATUS_ADDR : Fld := ⟨R.USB_DEV_STATUS, 0, 7⟩
abbrev F.USB_DEV_STATUS_CONFIGURED : Fld := ⟨R.USB_DEV_STATUS, 7, 1⟩
abbrev F.USB_DEV_STATUS_ALT_OUT : Fld := ⟨R.USB_DEV_STATUS, 8, 2⟩
abbrev F.USB_DEV_STATUS_ALT_IN : Fld := ⟨R.USB_DEV_STATUS, 10, 2⟩
abbrev F.USB_DEV_STATUS_SUSPENDED : Fld := ⟨R.USB_DEV_STATUS, 12, 1⟩
abbrev F.USB_DEV_STATUS_WAKE_EN : Fld := ⟨R.USB_DEV_STATUS, 13, 1⟩
/-- USB_DEV_CNT, R368. -/
abbrev R.USB_DEV_CNT : Nat := 0x50102004
abbrev F.USB_DEV_CNT_RESETS : Fld := ⟨R.USB_DEV_CNT, 0, 16⟩
abbrev F.USB_DEV_CNT_ABANDONED : Fld := ⟨R.USB_DEV_CNT, 16, 16⟩
/-- USB_MBX_STATUS, R368. -/
abbrev R.USB_MBX_STATUS : Nat := 0x50102100
abbrev F.USB_MBX_STATUS_RX_COUNT : Fld := ⟨R.USB_MBX_STATUS, 0, 3⟩
abbrev F.USB_MBX_STATUS_RX_LEN : Fld := ⟨R.USB_MBX_STATUS, 3, 10⟩
abbrev F.USB_MBX_STATUS_TX_BUSY : Fld := ⟨R.USB_MBX_STATUS, 13, 1⟩
abbrev F.USB_MBX_STATUS_CANCELLED : Fld := ⟨R.USB_MBX_STATUS, 14, 1⟩
/-- USB_MBX_RX_POP, R368. -/
abbrev R.USB_MBX_RX_POP : Nat := 0x50102104
abbrev F.USB_MBX_RX_POP_POP : Fld := ⟨R.USB_MBX_RX_POP, 0, 1⟩
/-- USB_MBX_TX_CTRL, R368. -/
abbrev R.USB_MBX_TX_CTRL : Nat := 0x50102108
abbrev F.USB_MBX_TX_CTRL_LEN : Fld := ⟨R.USB_MBX_TX_CTRL, 0, 10⟩
abbrev F.USB_MBX_TX_CTRL_TX_GO : Fld := ⟨R.USB_MBX_TX_CTRL, 10, 1⟩
/-- USB_MBX_RXD0–127, R368. -/
abbrev R.USB_MBX_RXD (i : Nat) : Nat := 0x50102200 + 0x4 * i
abbrev F.USB_MBX_RXD_DATA (i : Nat) : Fld := ⟨R.USB_MBX_RXD i, 0, 32⟩
/-- USB_MBX_TXD0–127, R368. -/
abbrev R.USB_MBX_TXD (i : Nat) : Nat := 0x50102400 + 0x4 * i
abbrev F.USB_MBX_TXD_DATA (i : Nat) : Fld := ⟨R.USB_MBX_TXD i, 0, 32⟩
/-- USB_AUD_STATUS, R368. -/
abbrev R.USB_AUD_STATUS : Nat := 0x50102800
abbrev F.USB_AUD_STATUS_FILL_OUT : Fld := ⟨R.USB_AUD_STATUS, 0, 5⟩
abbrev F.USB_AUD_STATUS_FILL_IN : Fld := ⟨R.USB_AUD_STATUS, 5, 5⟩
/-- USB_AUD_FB, R368. -/
abbrev R.USB_AUD_FB : Nat := 0x50102804
abbrev F.USB_AUD_FB_FB : Fld := ⟨R.USB_AUD_FB, 0, 32⟩
/-- USB_AUD_CNT, R368. -/
abbrev R.USB_AUD_CNT : Nat := 0x50102808
abbrev F.USB_AUD_CNT_SLIP : Fld := ⟨R.USB_AUD_CNT, 0, 16⟩
/-- USB_HC_CTRL, R368. -/
abbrev R.USB_HC_CTRL : Nat := 0x50103000
abbrev F.USB_HC_CTRL_RUN : Fld := ⟨R.USB_HC_CTRL, 0, 1⟩
/-- USB_HC_STATUS, R368. -/
abbrev R.USB_HC_STATUS : Nat := 0x50103004
abbrev F.USB_HC_STATUS_HALTED : Fld := ⟨R.USB_HC_STATUS, 0, 1⟩
/-- USB_PIPEp_CFG, R368. -/
abbrev R.USB_PIPE_CFG (i : Nat) : Nat := 0x50103100 + 0x20 * i
abbrev F.USB_PIPE_CFG_ADDR (i : Nat) : Fld := ⟨R.USB_PIPE_CFG i, 0, 7⟩
abbrev F.USB_PIPE_CFG_EP (i : Nat) : Fld := ⟨R.USB_PIPE_CFG i, 7, 4⟩
abbrev F.USB_PIPE_CFG_DIR (i : Nat) : Fld := ⟨R.USB_PIPE_CFG i, 11, 1⟩
abbrev F.USB_PIPE_CFG_TYPE (i : Nat) : Fld := ⟨R.USB_PIPE_CFG i, 12, 2⟩
abbrev F.USB_PIPE_CFG_MPS (i : Nat) : Fld := ⟨R.USB_PIPE_CFG i, 14, 11⟩
abbrev F.USB_PIPE_CFG_INTERVAL (i : Nat) : Fld := ⟨R.USB_PIPE_CFG i, 25, 4⟩
abbrev F.USB_PIPE_CFG_SPEED (i : Nat) : Fld := ⟨R.USB_PIPE_CFG i, 29, 2⟩
/-- USB_PIPEp_CFG2, R368. -/
abbrev R.USB_PIPE_CFG2 (i : Nat) : Nat := 0x50103104 + 0x20 * i
abbrev F.USB_PIPE_CFG2_HUB_ADDR (i : Nat) : Fld := ⟨R.USB_PIPE_CFG2 i, 0, 7⟩
abbrev F.USB_PIPE_CFG2_HUB_PORT (i : Nat) : Fld := ⟨R.USB_PIPE_CFG2 i, 7, 3⟩
/-- USB_PIPEp_BUF, R368. -/
abbrev R.USB_PIPE_BUF (i : Nat) : Nat := 0x50103108 + 0x20 * i
abbrev F.USB_PIPE_BUF_OFFSET (i : Nat) : Fld := ⟨R.USB_PIPE_BUF i, 0, 16⟩
abbrev F.USB_PIPE_BUF_LEN (i : Nat) : Fld := ⟨R.USB_PIPE_BUF i, 16, 16⟩
/-- USB_PIPEp_CMD, R368. -/
abbrev R.USB_PIPE_CMD (i : Nat) : Nat := 0x5010310C + 0x20 * i
abbrev F.USB_PIPE_CMD_GO (i : Nat) : Fld := ⟨R.USB_PIPE_CMD i, 0, 1⟩
abbrev F.USB_PIPE_CMD_SETUP (i : Nat) : Fld := ⟨R.USB_PIPE_CMD i, 1, 1⟩
abbrev F.USB_PIPE_CMD_ABORT (i : Nat) : Fld := ⟨R.USB_PIPE_CMD i, 2, 1⟩
/-- USB_PIPEp_STATUS, R368. -/
abbrev R.USB_PIPE_STATUS (i : Nat) : Nat := 0x50103110 + 0x20 * i
abbrev F.USB_PIPE_STATUS_BUSY (i : Nat) : Fld := ⟨R.USB_PIPE_STATUS i, 0, 1⟩
abbrev F.USB_PIPE_STATUS_TOGGLE (i : Nat) : Fld := ⟨R.USB_PIPE_STATUS i, 1, 1⟩
abbrev F.USB_PIPE_STATUS_RESULT (i : Nat) : Fld := ⟨R.USB_PIPE_STATUS i, 2, 2⟩
abbrev F.USB_PIPE_STATUS_BYTES (i : Nat) : Fld := ⟨R.USB_PIPE_STATUS i, 4, 16⟩
/-- PGT_STATUS, R383. -/
abbrev R.PGT_STATUS : Nat := 0x50200100
abbrev F.PGT_STATUS_PG0_GOOD : Fld := ⟨R.PGT_STATUS, 0, 1⟩
abbrev F.PGT_STATUS_BOLT_REQ : Fld := ⟨R.PGT_STATUS, 1, 1⟩
abbrev F.PGT_STATUS_BACKUP_CLK : Fld := ⟨R.PGT_STATUS, 2, 1⟩
abbrev F.PGT_STATUS_BOOT_VALID : Fld := ⟨R.PGT_STATUS, 3, 1⟩
/-- PGT_EVENT_GATES, R383. -/
abbrev R.PGT_EVENT_GATES : Nat := 0x50200104
abbrev F.PGT_EVENT_GATES_GATES : Fld := ⟨R.PGT_EVENT_GATES, 0, 7⟩
/-- PGT_GATEn_CTRL, R383. -/
abbrev R.PGT_GATE_CTRL (i : Nat) : Nat := 0x50201000 + 0x80 * i
abbrev F.PGT_GATE_CTRL_ENABLE (i : Nat) : Fld := ⟨R.PGT_GATE_CTRL i, 0, 1⟩
abbrev F.PGT_GATE_CTRL_ON (i : Nat) : Fld := ⟨R.PGT_GATE_CTRL i, 1, 1⟩
abbrev F.PGT_GATE_CTRL_OWNER (i : Nat) : Fld := ⟨R.PGT_GATE_CTRL i, 2, 1⟩
abbrev F.PGT_GATE_CTRL_PRE_EN (i : Nat) : Fld := ⟨R.PGT_GATE_CTRL i, 3, 1⟩
abbrev F.PGT_GATE_CTRL_BIDIR (i : Nat) : Fld := ⟨R.PGT_GATE_CTRL i, 4, 1⟩
abbrev F.PGT_GATE_CTRL_TRACK (i : Nat) : Fld := ⟨R.PGT_GATE_CTRL i, 5, 1⟩
abbrev F.PGT_GATE_CTRL_STBY_OFF (i : Nat) : Fld := ⟨R.PGT_GATE_CTRL i, 6, 1⟩
/-- PGT_GATEn_STATUS, R383. -/
abbrev R.PGT_GATE_STATUS (i : Nat) : Nat := 0x50201004 + 0x80 * i
abbrev F.PGT_GATE_STATUS_STATE (i : Nat) : Fld := ⟨R.PGT_GATE_STATUS i, 0, 2⟩
abbrev F.PGT_GATE_STATUS_STOPPING (i : Nat) : Fld := ⟨R.PGT_GATE_STATUS i, 2, 1⟩
abbrev F.PGT_GATE_STATUS_GSTATE (i : Nat) : Fld := ⟨R.PGT_GATE_STATUS i, 3, 4⟩
abbrev F.PGT_GATE_STATUS_PGOOD (i : Nat) : Fld := ⟨R.PGT_GATE_STATUS i, 7, 1⟩
abbrev F.PGT_GATE_STATUS_DIR (i : Nat) : Fld := ⟨R.PGT_GATE_STATUS i, 8, 1⟩
abbrev F.PGT_GATE_STATUS_PEND (i : Nat) : Fld := ⟨R.PGT_GATE_STATUS i, 9, 1⟩
abbrev F.PGT_GATE_STATUS_DSCH (i : Nat) : Fld := ⟨R.PGT_GATE_STATUS i, 10, 1⟩
abbrev F.PGT_GATE_STATUS_CAUSE (i : Nat) : Fld := ⟨R.PGT_GATE_STATUS i, 11, 4⟩
/-- PGT_GATEn_REFUSE, R383. -/
abbrev R.PGT_GATE_REFUSE (i : Nat) : Nat := 0x50201008 + 0x80 * i
abbrev F.PGT_GATE_REFUSE_REASON (i : Nat) : Fld := ⟨R.PGT_GATE_REFUSE i, 0, 16⟩
abbrev F.PGT_GATE_REFUSE_DETAIL (i : Nat) : Fld := ⟨R.PGT_GATE_REFUSE i, 16, 16⟩
/-- PGT_GATEn_WIN_UV, R383. -/
abbrev R.PGT_GATE_WIN_UV (i : Nat) : Nat := 0x5020100C + 0x80 * i
abbrev F.PGT_GATE_WIN_UV_UV_ON (i : Nat) : Fld := ⟨R.PGT_GATE_WIN_UV i, 0, 10⟩
abbrev F.PGT_GATE_WIN_UV_UV_OFF (i : Nat) : Fld := ⟨R.PGT_GATE_WIN_UV i, 10, 10⟩
/-- PGT_GATEn_WIN_OV, R383. -/
abbrev R.PGT_GATE_WIN_OV (i : Nat) : Nat := 0x50201010 + 0x80 * i
abbrev F.PGT_GATE_WIN_OV_OV_OFF (i : Nat) : Fld := ⟨R.PGT_GATE_WIN_OV i, 0, 10⟩
abbrev F.PGT_GATE_WIN_OV_OV_ON (i : Nat) : Fld := ⟨R.PGT_GATE_WIN_OV i, 10, 10⟩
/-- PGT_GATEn_TIMING, R383. -/
abbrev R.PGT_GATE_TIMING (i : Nat) : Nat := 0x50201014 + 0x80 * i
abbrev F.PGT_GATE_TIMING_INS_MS (i : Nat) : Fld := ⟨R.PGT_GATE_TIMING i, 0, 12⟩
abbrev F.PGT_GATE_TIMING_PRE_TO_MS (i : Nat) : Fld := ⟨R.PGT_GATE_TIMING i, 12, 12⟩
abbrev F.PGT_GATE_TIMING_SHORT_MS (i : Nat) : Fld := ⟨R.PGT_GATE_TIMING i, 24, 8⟩
/-- PGT_GATEn_RAMP, R383. -/
abbrev R.PGT_GATE_RAMP (i : Nat) : Nat := 0x50201018 + 0x80 * i
abbrev F.PGT_GATE_RAMP_DVDT (i : Nat) : Fld := ⟨R.PGT_GATE_RAMP i, 0, 10⟩
abbrev F.PGT_GATE_RAMP_RAMP_TO_MS (i : Nat) : Fld := ⟨R.PGT_GATE_RAMP i, 10, 10⟩
abbrev F.PGT_GATE_RAMP_UV_RIDE_MS (i : Nat) : Fld := ⟨R.PGT_GATE_RAMP i, 20, 7⟩
/-- PGT_GATEn_LIMIT, R383. -/
abbrev R.PGT_GATE_LIMIT (i : Nat) : Nat := 0x5020101C + 0x80 * i
abbrev F.PGT_GATE_LIMIT_LIMIT (i : Nat) : Fld := ⟨R.PGT_GATE_LIMIT i, 0, 13⟩
abbrev F.PGT_GATE_LIMIT_SHUNT (i : Nat) : Fld := ⟨R.PGT_GATE_LIMIT i, 13, 16⟩
/-- PGT_GATEn_I2T, R383. -/
abbrev R.PGT_GATE_I2T (i : Nat) : Nat := 0x50201020 + 0x80 * i
abbrev F.PGT_GATE_I2T_T_TRIP (i : Nat) : Fld := ⟨R.PGT_GATE_I2T i, 0, 14⟩
/-- PGT_GATEn_RETRY, R383. -/
abbrev R.PGT_GATE_RETRY (i : Nat) : Nat := 0x50201024 + 0x80 * i
abbrev F.PGT_GATE_RETRY_RETRY_MAX (i : Nat) : Fld := ⟨R.PGT_GATE_RETRY i, 0, 8⟩
abbrev F.PGT_GATE_RETRY_RETRY_MIN_MS (i : Nat) : Fld := ⟨R.PGT_GATE_RETRY i, 8, 10⟩
abbrev F.PGT_GATE_RETRY_REMOVE_MS (i : Nat) : Fld := ⟨R.PGT_GATE_RETRY i, 18, 10⟩
/-- PGT_GATEn_CMD, R383. -/
abbrev R.PGT_GATE_CMD (i : Nat) : Nat := 0x50201028 + 0x80 * i
abbrev F.PGT_GATE_CMD_CLEAR (i : Nat) : Fld := ⟨R.PGT_GATE_CMD i, 0, 1⟩
abbrev F.PGT_GATE_CMD_DISCHARGE (i : Nat) : Fld := ⟨R.PGT_GATE_CMD i, 1, 1⟩
/-- PGT_GATEn_VMEAS, R383. -/
abbrev R.PGT_GATE_VMEAS (i : Nat) : Nat := 0x5020102C + 0x80 * i
abbrev F.PGT_GATE_VMEAS_VIN (i : Nat) : Fld := ⟨R.PGT_GATE_VMEAS i, 0, 10⟩
abbrev F.PGT_GATE_VMEAS_VOUT (i : Nat) : Fld := ⟨R.PGT_GATE_VMEAS i, 10, 10⟩
abbrev F.PGT_GATE_VMEAS_VGS (i : Nat) : Fld := ⟨R.PGT_GATE_VMEAS i, 20, 8⟩
/-- PGT_GATEn_IMEAS, R383. -/
abbrev R.PGT_GATE_IMEAS (i : Nat) : Nat := 0x50201030 + 0x80 * i
abbrev F.PGT_GATE_IMEAS_CURRENT (i : Nat) : Fld := ⟨R.PGT_GATE_IMEAS i, 0, 13⟩
abbrev F.PGT_GATE_IMEAS_I2T_PCT (i : Nat) : Fld := ⟨R.PGT_GATE_IMEAS i, 13, 7⟩
/-- PGT_GATEn_ATTEMPT, R383. -/
abbrev R.PGT_GATE_ATTEMPT (i : Nat) : Nat := 0x50201034 + 0x80 * i
abbrev F.PGT_GATE_ATTEMPT_COUNT (i : Nat) : Fld := ⟨R.PGT_GATE_ATTEMPT i, 0, 8⟩
abbrev F.PGT_GATE_ATTEMPT_A_US (i : Nat) : Fld := ⟨R.PGT_GATE_ATTEMPT i, 8, 24⟩
/-- PGT_GATEn_WAIT, R383. -/
abbrev R.PGT_GATE_WAIT (i : Nat) : Nat := 0x50201038 + 0x80 * i
abbrev F.PGT_GATE_WAIT_LEFT_MS (i : Nat) : Fld := ⟨R.PGT_GATE_WAIT i, 0, 20⟩
/-- PGT_GATEn_CNT, R383. -/
abbrev R.PGT_GATE_CNT (i : Nat) : Nat := 0x5020103C + 0x80 * i
abbrev F.PGT_GATE_CNT_FAST (i : Nat) : Fld := ⟨R.PGT_GATE_CNT i, 0, 16⟩
abbrev F.PGT_GATE_CNT_SLOW (i : Nat) : Fld := ⟨R.PGT_GATE_CNT i, 16, 16⟩
/-- PGT_GATEn_CNT2, R383. -/
abbrev R.PGT_GATE_CNT2 (i : Nat) : Nat := 0x50201040 + 0x80 * i
abbrev F.PGT_GATE_CNT2_PRE_FAIL (i : Nat) : Fld := ⟨R.PGT_GATE_CNT2 i, 0, 16⟩
abbrev F.PGT_GATE_CNT2_RAMP_FAIL (i : Nat) : Fld := ⟨R.PGT_GATE_CNT2 i, 16, 16⟩
/-- PGT_GATEn_CNT3, R383. -/
abbrev R.PGT_GATE_CNT3 (i : Nat) : Nat := 0x50201044 + 0x80 * i
abbrev F.PGT_GATE_CNT3_WINDOW (i : Nat) : Fld := ⟨R.PGT_GATE_CNT3 i, 0, 16⟩
abbrev F.PGT_GATE_CNT3_FRS_START (i : Nat) : Fld := ⟨R.PGT_GATE_CNT3 i, 16, 16⟩
/-- PWR_CMD, R400. -/
abbrev R.PWR_CMD : Nat := 0x50300100
abbrev F.PWR_CMD_TARGET : Fld := ⟨R.PWR_CMD, 0, 3⟩
abbrev F.PWR_CMD_CORES : Fld := ⟨R.PWR_CMD, 3, 1⟩
/-- PWR_CMD_STATUS, R400. -/
abbrev R.PWR_CMD_STATUS : Nat := 0x50300104
abbrev F.PWR_CMD_STATUS_REASON : Fld := ⟨R.PWR_CMD_STATUS, 0, 16⟩
abbrev F.PWR_CMD_STATUS_DETAIL : Fld := ⟨R.PWR_CMD_STATUS, 16, 16⟩
/-- PWR_STATUS, R400. -/
abbrev R.PWR_STATUS : Nat := 0x50300108
abbrev F.PWR_STATUS_STATE : Fld := ⟨R.PWR_STATUS, 0, 3⟩
abbrev F.PWR_STATUS_TARGET : Fld := ⟨R.PWR_STATUS, 3, 3⟩
abbrev F.PWR_STATUS_MOVING : Fld := ⟨R.PWR_STATUS, 6, 1⟩
abbrev F.PWR_STATUS_CORES : Fld := ⟨R.PWR_STATUS, 7, 1⟩
abbrev F.PWR_STATUS_BOOT : Fld := ⟨R.PWR_STATUS, 8, 1⟩
abbrev F.PWR_STATUS_BOLT_REQ : Fld := ⟨R.PWR_STATUS, 9, 1⟩
abbrev F.PWR_STATUS_WAKE_CAUSE : Fld := ⟨R.PWR_STATUS, 10, 3⟩
abbrev F.PWR_STATUS_WAKE_K : Fld := ⟨R.PWR_STATUS, 13, 3⟩
/-- PWR_READY, R400. -/
abbrev R.PWR_READY : Nat := 0x5030010C
abbrev F.PWR_READY_GO : Fld := ⟨R.PWR_READY, 0, 1⟩
/-- PWR_WAKE_TIME, R400. -/
abbrev R.PWR_WAKE_TIME : Nat := 0x50300110
abbrev F.PWR_WAKE_TIME_US : Fld := ⟨R.PWR_WAKE_TIME, 0, 20⟩
/-- PWR_CNT, R400. -/
abbrev R.PWR_CNT : Nat := 0x50300114
abbrev F.PWR_CNT_CHANGES : Fld := ⟨R.PWR_CNT, 0, 16⟩
abbrev F.PWR_CNT_REFUSED : Fld := ⟨R.PWR_CNT, 16, 16⟩
/-- LAN_STATUS, R401. -/
abbrev R.LAN_STATUS : Nat := 0x50400100
abbrev F.LAN_STATUS_BACKUP_CLK : Fld := ⟨R.LAN_STATUS, 0, 1⟩
abbrev F.LAN_STATUS_SEAM_DOWN : Fld := ⟨R.LAN_STATUS, 1, 1⟩
abbrev F.LAN_STATUS_QUEUED : Fld := ⟨R.LAN_STATUS, 2, 9⟩
/-- LAN_WAKE, R401. -/
abbrev R.LAN_WAKE : Nat := 0x50400104
abbrev F.LAN_WAKE_WAKE_MS : Fld := ⟨R.LAN_WAKE, 0, 8⟩
abbrev F.LAN_WAKE_ASSERTED : Fld := ⟨R.LAN_WAKE, 8, 1⟩
abbrev F.LAN_WAKE_CLEAR : Fld := ⟨R.LAN_WAKE, 9, 1⟩
/-- LAN_EVT_CNT, R401. -/
abbrev R.LAN_EVT_CNT : Nat := 0x50400108
abbrev F.LAN_EVT_CNT_LOGGED : Fld := ⟨R.LAN_EVT_CNT, 0, 16⟩
abbrev F.LAN_EVT_CNT_OVERFLOW : Fld := ⟨R.LAN_EVT_CNT, 16, 16⟩
/-- LAN_CONTACTS, R401. -/
abbrev R.LAN_CONTACTS : Nat := 0x50400110
abbrev F.LAN_CONTACTS_STATE : Fld := ⟨R.LAN_CONTACTS, 0, 8⟩
abbrev F.LAN_CONTACTS_FAULT : Fld := ⟨R.LAN_CONTACTS, 8, 8⟩
/-- LAN_STANDk, R401. -/
abbrev R.LAN_STAND (i : Nat) : Nat := 0x50400200 + 0x4 * i
abbrev F.LAN_STAND_TARGET (i : Nat) : Fld := ⟨R.LAN_STAND i, 0, 3⟩
abbrev F.LAN_STAND_ALARM (i : Nat) : Fld := ⟨R.LAN_STAND i, 3, 1⟩
abbrev F.LAN_STAND_ARMED (i : Nat) : Fld := ⟨R.LAN_STAND i, 4, 1⟩
abbrev F.LAN_STAND_ONE_SHOT (i : Nat) : Fld := ⟨R.LAN_STAND i, 5, 1⟩
/-- LAN_STAND_FIRED, R401. -/
abbrev R.LAN_STAND_FIRED : Nat := 0x50400220
abbrev F.LAN_STAND_FIRED_SLOTS : Fld := ⟨R.LAN_STAND_FIRED, 0, 8⟩
/-- LAN_ADCc_CFG, R401. -/
abbrev R.LAN_ADC_CFG (i : Nat) : Nat := 0x50401000 + 0x10 * i
abbrev F.LAN_ADC_CFG_AVG_SHIFT (i : Nat) : Fld := ⟨R.LAN_ADC_CFG i, 0, 3⟩
/-- LAN_ADCc_VALUE, R401. -/
abbrev R.LAN_ADC_VALUE (i : Nat) : Nat := 0x50401004 + 0x10 * i
abbrev F.LAN_ADC_VALUE_RAW (i : Nat) : Fld := ⟨R.LAN_ADC_VALUE i, 0, 12⟩
abbrev F.LAN_ADC_VALUE_FILT (i : Nat) : Fld := ⟨R.LAN_ADC_VALUE i, 16, 12⟩
/-- LAN_CONi_CFG, R401. -/
abbrev R.LAN_CON_CFG (i : Nat) : Nat := 0x50401800 + 0x10 * i
abbrev F.LAN_CON_CFG_MODE (i : Nat) : Fld := ⟨R.LAN_CON_CFG i, 0, 1⟩
abbrev F.LAN_CON_CFG_INVERT (i : Nat) : Fld := ⟨R.LAN_CON_CFG i, 1, 1⟩
abbrev F.LAN_CON_CFG_FAULT_AS (i : Nat) : Fld := ⟨R.LAN_CON_CFG i, 2, 2⟩
abbrev F.LAN_CON_CFG_DEBOUNCE_MS (i : Nat) : Fld := ⟨R.LAN_CON_CFG i, 4, 8⟩
/-- LAN_CONi_STATUS, R401. -/
abbrev R.LAN_CON_STATUS (i : Nat) : Nat := 0x50401804 + 0x10 * i
abbrev F.LAN_CON_STATUS_STATE (i : Nat) : Fld := ⟨R.LAN_CON_STATUS i, 0, 1⟩
abbrev F.LAN_CON_STATUS_FAULT (i : Nat) : Fld := ⟨R.LAN_CON_STATUS i, 1, 1⟩
abbrev F.LAN_CON_STATUS_BAND (i : Nat) : Fld := ⟨R.LAN_CON_STATUS i, 2, 2⟩
abbrev F.LAN_CON_STATUS_OHM (i : Nat) : Fld := ⟨R.LAN_CON_STATUS i, 4, 16⟩
/-- LAN_CONi_CNT, R401. -/
abbrev R.LAN_CON_CNT (i : Nat) : Nat := 0x50401808 + 0x10 * i
abbrev F.LAN_CON_CNT_CHANGES (i : Nat) : Fld := ⟨R.LAN_CON_CNT i, 0, 16⟩
abbrev F.LAN_CON_CNT_FAULTS (i : Nat) : Fld := ⟨R.LAN_CON_CNT i, 16, 16⟩
/-- LAN_RULEr_CTRL, R401. -/
abbrev R.LAN_RULE_CTRL (i : Nat) : Nat := 0x50402000 + 0x20 * i
abbrev F.LAN_RULE_CTRL_ENABLE (i : Nat) : Fld := ⟨R.LAN_RULE_CTRL i, 0, 1⟩
/-- LAN_RULEr_STATUS, R401. -/
abbrev R.LAN_RULE_STATUS (i : Nat) : Nat := 0x50402004 + 0x20 * i
abbrev F.LAN_RULE_STATUS_STATE (i : Nat) : Fld := ⟨R.LAN_RULE_STATUS i, 0, 2⟩
abbrev F.LAN_RULE_STATUS_STOPPING (i : Nat) : Fld := ⟨R.LAN_RULE_STATUS i, 2, 1⟩
abbrev F.LAN_RULE_STATUS_HELD (i : Nat) : Fld := ⟨R.LAN_RULE_STATUS i, 3, 1⟩
abbrev F.LAN_RULE_STATUS_FIRED (i : Nat) : Fld := ⟨R.LAN_RULE_STATUS i, 4, 1⟩
/-- LAN_RULEr_REFUSE, R401. -/
abbrev R.LAN_RULE_REFUSE (i : Nat) : Nat := 0x50402008 + 0x20 * i
abbrev F.LAN_RULE_REFUSE_REASON (i : Nat) : Fld := ⟨R.LAN_RULE_REFUSE i, 0, 16⟩
abbrev F.LAN_RULE_REFUSE_DETAIL (i : Nat) : Fld := ⟨R.LAN_RULE_REFUSE i, 16, 16⟩
/-- LAN_RULEr_CFG, R401. -/
abbrev R.LAN_RULE_CFG (i : Nat) : Nat := 0x5040200C + 0x20 * i
abbrev F.LAN_RULE_CFG_SOURCE (i : Nat) : Fld := ⟨R.LAN_RULE_CFG i, 0, 6⟩
abbrev F.LAN_RULE_CFG_COND (i : Nat) : Fld := ⟨R.LAN_RULE_CFG i, 6, 3⟩
abbrev F.LAN_RULE_CFG_AND_EN (i : Nat) : Fld := ⟨R.LAN_RULE_CFG i, 9, 1⟩
abbrev F.LAN_RULE_CFG_AND_RULE (i : Nat) : Fld := ⟨R.LAN_RULE_CFG i, 10, 5⟩
abbrev F.LAN_RULE_CFG_WAKE (i : Nat) : Fld := ⟨R.LAN_RULE_CFG i, 15, 1⟩
abbrev F.LAN_RULE_CFG_LOG (i : Nat) : Fld := ⟨R.LAN_RULE_CFG i, 16, 1⟩
abbrev F.LAN_RULE_CFG_STAND (i : Nat) : Fld := ⟨R.LAN_RULE_CFG i, 17, 1⟩
abbrev F.LAN_RULE_CFG_STAND_K (i : Nat) : Fld := ⟨R.LAN_RULE_CFG i, 18, 3⟩
abbrev F.LAN_RULE_CFG_PG0_CLEAR (i : Nat) : Fld := ⟨R.LAN_RULE_CFG i, 21, 1⟩
/-- LAN_RULEr_THR, R401. -/
abbrev R.LAN_RULE_THR (i : Nat) : Nat := 0x50402010 + 0x20 * i
abbrev F.LAN_RULE_THR_LOW (i : Nat) : Fld := ⟨R.LAN_RULE_THR i, 0, 12⟩
abbrev F.LAN_RULE_THR_HIGH (i : Nat) : Fld := ⟨R.LAN_RULE_THR i, 12, 12⟩
/-- LAN_RULEr_HOLD, R401. -/
abbrev R.LAN_RULE_HOLD (i : Nat) : Nat := 0x50402014 + 0x20 * i
abbrev F.LAN_RULE_HOLD_HOLD_MS (i : Nat) : Fld := ⟨R.LAN_RULE_HOLD i, 0, 16⟩
/-- LAN_RULEr_CNT, R401. -/
abbrev R.LAN_RULE_CNT (i : Nat) : Nat := 0x50402018 + 0x20 * i
abbrev F.LAN_RULE_CNT_FIRED (i : Nat) : Fld := ⟨R.LAN_RULE_CNT i, 0, 16⟩
abbrev F.LAN_RULE_CNT_NOT_ARMED (i : Nat) : Fld := ⟨R.LAN_RULE_CNT i, 16, 16⟩
/-- KEY_CTRL, R426. -/
abbrev R.KEY_CTRL : Nat := 0x40D00100
abbrev F.KEY_CTRL_ENABLE : Fld := ⟨R.KEY_CTRL, 0, 1⟩
/-- KEY_STATUS, R426. -/
abbrev R.KEY_STATUS : Nat := 0x40D00104
abbrev F.KEY_STATUS_STATE : Fld := ⟨R.KEY_STATUS, 0, 2⟩
abbrev F.KEY_STATUS_STOPPING : Fld := ⟨R.KEY_STATUS, 2, 1⟩
abbrev F.KEY_STATUS_LIFECYCLE : Fld := ⟨R.KEY_STATUS, 3, 2⟩
abbrev F.KEY_STATUS_LOCKED : Fld := ⟨R.KEY_STATUS, 5, 1⟩
abbrev F.KEY_STATUS_BOOT_LOCK : Fld := ⟨R.KEY_STATUS, 6, 1⟩
abbrev F.KEY_STATUS_BOOTED : Fld := ⟨R.KEY_STATUS, 7, 1⟩
abbrev F.KEY_STATUS_OWNED : Fld := ⟨R.KEY_STATUS, 8, 1⟩
abbrev F.KEY_STATUS_DEBUG : Fld := ⟨R.KEY_STATUS, 9, 1⟩
/-- KEY_REFUSE, R426. -/
abbrev R.KEY_REFUSE : Nat := 0x40D00108
abbrev F.KEY_REFUSE_REASON : Fld := ⟨R.KEY_REFUSE, 0, 16⟩
abbrev F.KEY_REFUSE_DETAIL : Fld := ⟨R.KEY_REFUSE, 16, 16⟩
/-- KEY_UID0–3, R426. -/
abbrev R.KEY_UID (i : Nat) : Nat := 0x40D00110 + 0x4 * i
abbrev F.KEY_UID_UID (i : Nat) : Fld := ⟨R.KEY_UID i, 0, 32⟩
/-- KEY_OWNER0–11, R426. -/
abbrev R.KEY_OWNER (i : Nat) : Nat := 0x40D00120 + 0x4 * i
abbrev F.KEY_OWNER_HASH (i : Nat) : Fld := ⟨R.KEY_OWNER i, 0, 32⟩
/-- KEY_MR_SEL, R426. -/
abbrev R.KEY_MR_SEL : Nat := 0x40D00150
abbrev F.KEY_MR_SEL_REG : Fld := ⟨R.KEY_MR_SEL, 0, 2⟩
/-- KEY_MR_WORD0–11, R426. -/
abbrev R.KEY_MR_WORD (i : Nat) : Nat := 0x40D00154 + 0x4 * i
abbrev F.KEY_MR_WORD_VALUE (i : Nat) : Fld := ⟨R.KEY_MR_WORD i, 0, 32⟩
/-- KEY_MR_CNT, R426. -/
abbrev R.KEY_MR_CNT : Nat := 0x40D00184
abbrev F.KEY_MR_CNT_COUNT : Fld := ⟨R.KEY_MR_CNT, 0, 32⟩
/-- KEY_MR_LOCK, R426. -/
abbrev R.KEY_MR_LOCK : Nat := 0x40D00188
abbrev F.KEY_MR_LOCK_MR0 : Fld := ⟨R.KEY_MR_LOCK, 0, 1⟩
abbrev F.KEY_MR_LOCK_MR1 : Fld := ⟨R.KEY_MR_LOCK, 1, 1⟩
/-- KEY_MR_EXT, R426. -/
abbrev R.KEY_MR_EXT : Nat := 0x40D0018C
abbrev F.KEY_MR_EXT_REG : Fld := ⟨R.KEY_MR_EXT, 0, 2⟩
abbrev F.KEY_MR_EXT_GO : Fld := ⟨R.KEY_MR_EXT, 2, 1⟩
/-- KEY_MR_DIGEST0–11, R426. -/
abbrev R.KEY_MR_DIGEST (i : Nat) : Nat := 0x40D00190 + 0x4 * i
abbrev F.KEY_MR_DIGEST_D (i : Nat) : Fld := ⟨R.KEY_MR_DIGEST i, 0, 32⟩
/-- KEY_ATT_CNT, R426. -/
abbrev R.KEY_ATT_CNT : Nat := 0x40D001C0
abbrev F.KEY_ATT_CNT_COUNTER : Fld := ⟨R.KEY_ATT_CNT, 0, 32⟩
/-- KEY_MR_STATUS, R426. -/
abbrev R.KEY_MR_STATUS : Nat := 0x40D001C4
abbrev F.KEY_MR_STATUS_REASON : Fld := ⟨R.KEY_MR_STATUS, 0, 16⟩
abbrev F.KEY_MR_STATUS_REG : Fld := ⟨R.KEY_MR_STATUS, 16, 2⟩
/-- KEY_OP_CFG, R426. -/
abbrev R.KEY_OP_CFG : Nat := 0x40D00200
abbrev F.KEY_OP_CFG_SLOT : Fld := ⟨R.KEY_OP_CFG, 0, 6⟩
abbrev F.KEY_OP_CFG_PARENT : Fld := ⟨R.KEY_OP_CFG, 6, 7⟩
abbrev F.KEY_OP_CFG_TYPE : Fld := ⟨R.KEY_OP_CFG, 13, 2⟩
abbrev F.KEY_OP_CFG_USAGE : Fld := ⟨R.KEY_OP_CFG, 15, 4⟩
abbrev F.KEY_OP_CFG_MRSEL : Fld := ⟨R.KEY_OP_CFG, 19, 4⟩
/-- KEY_OP_IN, R426. -/
abbrev R.KEY_OP_IN : Nat := 0x40D00204
abbrev F.KEY_OP_IN_ADDR : Fld := ⟨R.KEY_OP_IN, 0, 32⟩
/-- KEY_OP_LEN, R426. -/
abbrev R.KEY_OP_LEN : Nat := 0x40D00208
abbrev F.KEY_OP_LEN_LEN : Fld := ⟨R.KEY_OP_LEN, 0, 24⟩
/-- KEY_OP_OUT, R426. -/
abbrev R.KEY_OP_OUT : Nat := 0x40D0020C
abbrev F.KEY_OP_OUT_ADDR : Fld := ⟨R.KEY_OP_OUT, 0, 32⟩
/-- KEY_OP_GO, R426. -/
abbrev R.KEY_OP_GO : Nat := 0x40D00210
abbrev F.KEY_OP_GO_OP : Fld := ⟨R.KEY_OP_GO, 0, 4⟩
/-- KEY_OP_STATUS, R426. -/
abbrev R.KEY_OP_STATUS : Nat := 0x40D00214
abbrev F.KEY_OP_STATUS_REASON : Fld := ⟨R.KEY_OP_STATUS, 0, 16⟩
abbrev F.KEY_OP_STATUS_OP : Fld := ⟨R.KEY_OP_STATUS, 16, 4⟩
abbrev F.KEY_OP_STATUS_BUSY : Fld := ⟨R.KEY_OP_STATUS, 20, 1⟩
/-- KEY_OP_OUTLEN, R426. -/
abbrev R.KEY_OP_OUTLEN : Nat := 0x40D00218
abbrev F.KEY_OP_OUTLEN_LEN : Fld := ⟨R.KEY_OP_OUTLEN, 0, 24⟩
/-- KEY_LC_CMD, R426. -/
abbrev R.KEY_LC_CMD : Nat := 0x40D00220
abbrev F.KEY_LC_CMD_CMD : Fld := ⟨R.KEY_LC_CMD, 0, 2⟩
/-- KEY_LC_STATUS, R426. -/
abbrev R.KEY_LC_STATUS : Nat := 0x40D00224
abbrev F.KEY_LC_STATUS_REASON : Fld := ⟨R.KEY_LC_STATUS, 0, 16⟩
/-- KEY_SLOT_SEL, R426. -/
abbrev R.KEY_SLOT_SEL : Nat := 0x40D00300
abbrev F.KEY_SLOT_SEL_SLOT : Fld := ⟨R.KEY_SLOT_SEL, 0, 6⟩
/-- KEY_SLOT_INFO, R426. -/
abbrev R.KEY_SLOT_INFO : Nat := 0x40D00304
abbrev F.KEY_SLOT_INFO_STATE : Fld := ⟨R.KEY_SLOT_INFO, 0, 2⟩
abbrev F.KEY_SLOT_INFO_TYPE : Fld := ⟨R.KEY_SLOT_INFO, 2, 2⟩
abbrev F.KEY_SLOT_INFO_USAGE : Fld := ⟨R.KEY_SLOT_INFO, 4, 4⟩
abbrev F.KEY_SLOT_INFO_MRSEL : Fld := ⟨R.KEY_SLOT_INFO, 8, 4⟩
abbrev F.KEY_SLOT_INFO_PARENT : Fld := ⟨R.KEY_SLOT_INFO, 12, 7⟩
abbrev F.KEY_SLOT_INFO_CHILDREN : Fld := ⟨R.KEY_SLOT_INFO, 19, 6⟩
/-- KEY_VALID_LO, R426. -/
abbrev R.KEY_VALID_LO : Nat := 0x40D00310
abbrev F.KEY_VALID_LO_SLOTS : Fld := ⟨R.KEY_VALID_LO, 0, 32⟩
/-- KEY_VALID_HI, R426. -/
abbrev R.KEY_VALID_HI : Nat := 0x40D00314
abbrev F.KEY_VALID_HI_SLOTS : Fld := ⟨R.KEY_VALID_HI, 0, 32⟩
/-- KEY_REVOKED_LO, R426. -/
abbrev R.KEY_REVOKED_LO : Nat := 0x40D00318
abbrev F.KEY_REVOKED_LO_SLOTS : Fld := ⟨R.KEY_REVOKED_LO, 0, 32⟩
/-- KEY_REVOKED_HI, R426. -/
abbrev R.KEY_REVOKED_HI : Nat := 0x40D0031C
abbrev F.KEY_REVOKED_HI_SLOTS : Fld := ⟨R.KEY_REVOKED_HI, 0, 32⟩
/-- KEY_DEVPUB0–23, R426. -/
abbrev R.KEY_DEVPUB (i : Nat) : Nat := 0x40D00500 + 0x4 * i
abbrev F.KEY_DEVPUB_POINT (i : Nat) : Fld := ⟨R.KEY_DEVPUB i, 0, 32⟩
/-- KEY_DEVCERT0–23, R426. -/
abbrev R.KEY_DEVCERT (i : Nat) : Nat := 0x40D00560 + 0x4 * i
abbrev F.KEY_DEVCERT_SIG (i : Nat) : Fld := ⟨R.KEY_DEVCERT i, 0, 32⟩
/-- KEY_LINKt_CFG, R426. -/
abbrev R.KEY_LINK_CFG (i : Nat) : Nat := 0x40D01000 + 0x40 * i
abbrev F.KEY_LINK_CFG_REJECT_LOCKED (i : Nat) : Fld := ⟨R.KEY_LINK_CFG i, 0, 1⟩
abbrev F.KEY_LINK_CFG_TIMEOUT_MS (i : Nat) : Fld := ⟨R.KEY_LINK_CFG i, 1, 8⟩
/-- KEY_LINKt_STATUS, R426. -/
abbrev R.KEY_LINK_STATUS (i : Nat) : Nat := 0x40D01004 + 0x40 * i
abbrev F.KEY_LINK_STATUS_STATE (i : Nat) : Fld := ⟨R.KEY_LINK_STATUS i, 0, 2⟩
abbrev F.KEY_LINK_STATUS_FAIL (i : Nat) : Fld := ⟨R.KEY_LINK_STATUS i, 2, 4⟩
abbrev F.KEY_LINK_STATUS_PEER_LOCKED (i : Nat) : Fld := ⟨R.KEY_LINK_STATUS i, 6, 1⟩
abbrev F.KEY_LINK_STATUS_LO (i : Nat) : Fld := ⟨R.KEY_LINK_STATUS i, 7, 1⟩
/-- KEY_LINKt_PEER_UID0–3, R426. -/
abbrev R.KEY_LINK_PEER_UID (i : Nat) (j : Nat) : Nat := 0x40D01008 + 0x40 * i + 0x4 * j
abbrev F.KEY_LINK_PEER_UID_UID (i : Nat) (j : Nat) : Fld := ⟨R.KEY_LINK_PEER_UID i j, 0, 32⟩
/-- KEY_LINKt_CNT, R426. -/
abbrev R.KEY_LINK_CNT (i : Nat) : Nat := 0x40D01018 + 0x40 * i
abbrev F.KEY_LINK_CNT_AGREED (i : Nat) : Fld := ⟨R.KEY_LINK_CNT i, 0, 16⟩
abbrev F.KEY_LINK_CNT_FAILED (i : Nat) : Fld := ⟨R.KEY_LINK_CNT i, 16, 16⟩
/-- KEY_LINKt_CNT2, R426. -/
abbrev R.KEY_LINK_CNT2 (i : Nat) : Nat := 0x40D0101C + 0x40 * i
abbrev F.KEY_LINK_CNT2_TAG_FRAY (i : Nat) : Fld := ⟨R.KEY_LINK_CNT2 i, 0, 16⟩
abbrev F.KEY_LINK_CNT2_TAG_DROP (i : Nat) : Fld := ⟨R.KEY_LINK_CNT2 i, 16, 16⟩
/-- KEY_LINKt_CNT3, R426. -/
abbrev R.KEY_LINK_CNT3 (i : Nat) : Nat := 0x40D01020 + 0x40 * i
abbrev F.KEY_LINK_CNT3_ENC_MISMATCH (i : Nat) : Fld := ⟨R.KEY_LINK_CNT3 i, 0, 16⟩
abbrev F.KEY_LINK_CNT3_PEER_TAMPER (i : Nat) : Fld := ⟨R.KEY_LINK_CNT3 i, 16, 16⟩
/-- TMP_CTRL, R427. -/
abbrev R.TMP_CTRL : Nat := 0x50500100
abbrev F.TMP_CTRL_ENABLE : Fld := ⟨R.TMP_CTRL, 0, 1⟩
/-- TMP_STATUS, R427. -/
abbrev R.TMP_STATUS : Nat := 0x50500104
abbrev F.TMP_STATUS_STATE : Fld := ⟨R.TMP_STATUS, 0, 2⟩
abbrev F.TMP_STATUS_STOPPING : Fld := ⟨R.TMP_STATUS, 2, 1⟩
abbrev F.TMP_STATUS_LOCKED : Fld := ⟨R.TMP_STATUS, 3, 1⟩
abbrev F.TMP_STATUS_PENDING : Fld := ⟨R.TMP_STATUS, 4, 1⟩
abbrev F.TMP_STATUS_ACTIVE : Fld := ⟨R.TMP_STATUS, 5, 6⟩
/-- TMP_REFUSE, R427. -/
abbrev R.TMP_REFUSE : Nat := 0x50500108
abbrev F.TMP_REFUSE_REASON : Fld := ⟨R.TMP_REFUSE, 0, 16⟩
abbrev F.TMP_REFUSE_DETAIL : Fld := ⟨R.TMP_REFUSE, 16, 16⟩
/-- TMP_RESP, R427. -/
abbrev R.TMP_RESP : Nat := 0x50500110
abbrev F.TMP_RESP_RESP : Fld := ⟨R.TMP_RESP, 0, 12⟩
abbrev F.TMP_RESP_EN : Fld := ⟨R.TMP_RESP, 12, 6⟩
/-- TMP_VOLT, R427. -/
abbrev R.TMP_VOLT : Nat := 0x50500114
abbrev F.TMP_VOLT_GLITCH : Fld := ⟨R.TMP_VOLT, 0, 8⟩
/-- TMP_TEMP, R427. -/
abbrev R.TMP_TEMP : Nat := 0x50500118
abbrev F.TMP_TEMP_LOW : Fld := ⟨R.TMP_TEMP, 0, 8⟩
abbrev F.TMP_TEMP_HIGH : Fld := ⟨R.TMP_TEMP, 8, 8⟩
/-- TMP_CLK, R427. -/
abbrev R.TMP_CLK : Nat := 0x5050011C
abbrev F.TMP_CLK_DEV_PCT : Fld := ⟨R.TMP_CLK, 0, 4⟩
/-- TMP_MESHn_CFG, R427. -/
abbrev R.TMP_MESH_CFG (i : Nat) : Nat := 0x50500120 + 0x4 * i
abbrev F.TMP_MESH_CFG_MODE (i : Nat) : Fld := ⟨R.TMP_MESH_CFG i, 0, 1⟩
abbrev F.TMP_MESH_CFG_LEVEL (i : Nat) : Fld := ⟨R.TMP_MESH_CFG i, 1, 1⟩
abbrev F.TMP_MESH_CFG_SEED (i : Nat) : Fld := ⟨R.TMP_MESH_CFG i, 2, 16⟩
/-- TMP_EVENTS, R427. -/
abbrev R.TMP_EVENTS : Nat := 0x50500130
abbrev F.TMP_EVENTS_SENSORS : Fld := ⟨R.TMP_EVENTS, 0, 6⟩
/-- TMP_CLEAR, R427. -/
abbrev R.TMP_CLEAR : Nat := 0x50500134
abbrev F.TMP_CLEAR_GO : Fld := ⟨R.TMP_CLEAR, 0, 1⟩
/-- TMP_LAST, R427. -/
abbrev R.TMP_LAST : Nat := 0x50500138
abbrev F.TMP_LAST_SENSOR : Fld := ⟨R.TMP_LAST, 0, 3⟩
abbrev F.TMP_LAST_PHASE : Fld := ⟨R.TMP_LAST, 3, 2⟩
abbrev F.TMP_LAST_RESP : Fld := ⟨R.TMP_LAST, 5, 2⟩
abbrev F.TMP_LAST_TIME_MS : Fld := ⟨R.TMP_LAST, 7, 25⟩
/-- TMP_CNT, R427. -/
abbrev R.TMP_CNT : Nat := 0x5050013C
abbrev F.TMP_CNT_EVENTS : Fld := ⟨R.TMP_CNT, 0, 16⟩
abbrev F.TMP_CNT_TAMPER_CNT : Fld := ⟨R.TMP_CNT, 16, 16⟩
/-- TMP_TEMP_NOW, R427. -/
abbrev R.TMP_TEMP_NOW : Nat := 0x50500140
abbrev F.TMP_TEMP_NOW_TEMP : Fld := ⟨R.TMP_TEMP_NOW, 0, 8⟩
/-- CNT_CTRL, R450. -/
abbrev R.CNT_CTRL : Nat := 0x40E00100
abbrev F.CNT_CTRL_ENABLE : Fld := ⟨R.CNT_CTRL, 0, 1⟩
abbrev F.CNT_CTRL_DEST : Fld := ⟨R.CNT_CTRL, 1, 1⟩
abbrev F.CNT_CTRL_NVS_AUTO : Fld := ⟨R.CNT_CTRL, 2, 1⟩
/-- CNT_STATUS, R450. -/
abbrev R.CNT_STATUS : Nat := 0x40E00104
abbrev F.CNT_STATUS_STATE : Fld := ⟨R.CNT_STATUS, 0, 2⟩
abbrev F.CNT_STATUS_STOPPING : Fld := ⟨R.CNT_STATUS, 2, 1⟩
abbrev F.CNT_STATUS_DUMPING : Fld := ⟨R.CNT_STATUS, 3, 1⟩
/-- CNT_REFUSE, R450. -/
abbrev R.CNT_REFUSE : Nat := 0x40E00108
abbrev F.CNT_REFUSE_REASON : Fld := ⟨R.CNT_REFUSE, 0, 16⟩
abbrev F.CNT_REFUSE_DETAIL : Fld := ⟨R.CNT_REFUSE, 16, 16⟩
/-- CNT_DUMP_PERIOD, R450. -/
abbrev R.CNT_DUMP_PERIOD : Nat := 0x40E00110
abbrev F.CNT_DUMP_PERIOD_N : Fld := ⟨R.CNT_DUMP_PERIOD, 0, 24⟩
/-- CNT_DUMP_PHASE, R450. -/
abbrev R.CNT_DUMP_PHASE : Nat := 0x40E00114
abbrev F.CNT_DUMP_PHASE_PHASE : Fld := ⟨R.CNT_DUMP_PHASE, 0, 24⟩
/-- CNT_DUMP_BASE_LO, R450. -/
abbrev R.CNT_DUMP_BASE_LO : Nat := 0x40E00118
abbrev F.CNT_DUMP_BASE_LO_ADDR : Fld := ⟨R.CNT_DUMP_BASE_LO, 0, 32⟩
/-- CNT_DUMP_BASE_HI, R450. -/
abbrev R.CNT_DUMP_BASE_HI : Nat := 0x40E0011C
abbrev F.CNT_DUMP_BASE_HI_ADDR : Fld := ⟨R.CNT_DUMP_BASE_HI, 0, 32⟩
/-- CNT_DUMP_RING, R450. -/
abbrev R.CNT_DUMP_RING : Nat := 0x40E00120
abbrev F.CNT_DUMP_RING_SLOTS : Fld := ⟨R.CNT_DUMP_RING, 0, 8⟩
abbrev F.CNT_DUMP_RING_QCOUNT : Fld := ⟨R.CNT_DUMP_RING, 8, 6⟩
/-- CNT_DUMP_WR, R450. -/
abbrev R.CNT_DUMP_WR : Nat := 0x40E00124
abbrev F.CNT_DUMP_WR_SLOT : Fld := ⟨R.CNT_DUMP_WR, 0, 8⟩
/-- CNT_DUMP_RD, R450. -/
abbrev R.CNT_DUMP_RD : Nat := 0x40E00128
abbrev F.CNT_DUMP_RD_SLOT : Fld := ⟨R.CNT_DUMP_RD, 0, 8⟩
/-- CNT_DUMP_SEQ, R450. -/
abbrev R.CNT_DUMP_SEQ : Nat := 0x40E0012C
abbrev F.CNT_DUMP_SEQ_SEQ : Fld := ⟨R.CNT_DUMP_SEQ, 0, 32⟩
/-- CNT_DUMP_SKIP, R450. -/
abbrev R.CNT_DUMP_SKIP : Nat := 0x40E00130
abbrev F.CNT_DUMP_SKIP_BUSY : Fld := ⟨R.CNT_DUMP_SKIP, 0, 16⟩
abbrev F.CNT_DUMP_SKIP_FULL : Fld := ⟨R.CNT_DUMP_SKIP, 16, 16⟩
/-- CNT_DUMP_NOW, R450. -/
abbrev R.CNT_DUMP_NOW : Nat := 0x40E00134
abbrev F.CNT_DUMP_NOW_GO : Fld := ⟨R.CNT_DUMP_NOW, 0, 1⟩
/-- CNT_SEL, R450. -/
abbrev R.CNT_SEL : Nat := 0x40E00140
abbrev F.CNT_SEL_ID : Fld := ⟨R.CNT_SEL, 0, 12⟩
/-- CNT_VAL_LO, R450. -/
abbrev R.CNT_VAL_LO : Nat := 0x40E00144
abbrev F.CNT_VAL_LO_VALUE : Fld := ⟨R.CNT_VAL_LO, 0, 32⟩
/-- CNT_VAL_HI, R450. -/
abbrev R.CNT_VAL_HI : Nat := 0x40E00148
abbrev F.CNT_VAL_HI_VALUE : Fld := ⟨R.CNT_VAL_HI, 0, 16⟩
/-- CNT_CMD, R450. -/
abbrev R.CNT_CMD : Nat := 0x40E0014C
abbrev F.CNT_CMD_CLEAR : Fld := ⟨R.CNT_CMD, 0, 1⟩
abbrev F.CNT_CMD_LOAD : Fld := ⟨R.CNT_CMD, 1, 1⟩
abbrev F.CNT_CMD_CLEAR_GROUP : Fld := ⟨R.CNT_CMD, 2, 1⟩
abbrev F.CNT_CMD_GROUP : Fld := ⟨R.CNT_CMD, 3, 3⟩
/-- CNT_LOAD_LO, R450. -/
abbrev R.CNT_LOAD_LO : Nat := 0x40E00150
abbrev F.CNT_LOAD_LO_VALUE : Fld := ⟨R.CNT_LOAD_LO, 0, 32⟩
/-- CNT_LOAD_HI, R450. -/
abbrev R.CNT_LOAD_HI : Nat := 0x40E00154
abbrev F.CNT_LOAD_HI_VALUE : Fld := ⟨R.CNT_LOAD_HI, 0, 16⟩
/-- CNT_WRAP, R450. -/
abbrev R.CNT_WRAP : Nat := 0x40E00158
abbrev F.CNT_WRAP_GROUPS : Fld := ⟨R.CNT_WRAP, 0, 8⟩
/-- CNT_SAMP_LOST, R450. -/
abbrev R.CNT_SAMP_LOST : Nat := 0x40E0015C
abbrev F.CNT_SAMP_LOST_COUNT : Fld := ⟨R.CNT_SAMP_LOST, 0, 16⟩
/-- CNT_EVSELj, R450. -/
abbrev R.CNT_EVSEL (i : Nat) : Nat := 0x40E00160 + 0x4 * i
abbrev F.CNT_EVSEL_EVENT (i : Nat) : Fld := ⟨R.CNT_EVSEL i, 0, 16⟩
abbrev F.CNT_EVSEL_EN (i : Nat) : Fld := ⟨R.CNT_EVSEL i, 16, 1⟩
/-- CNT_QSELq, R450. -/
abbrev R.CNT_QSEL (i : Nat) : Nat := 0x40E00360 + 0x4 * i
abbrev F.CNT_QSEL_ENTRY (i : Nat) : Fld := ⟨R.CNT_QSEL i, 0, 10⟩
abbrev F.CNT_QSEL_QUEUE (i : Nat) : Fld := ⟨R.CNT_QSEL i, 10, 2⟩
/-- CNT_SAMPh_CFG, R450. -/
abbrev R.CNT_SAMP_CFG (i : Nat) : Nat := 0x40E00400 + 0x10 * i
abbrev F.CNT_SAMP_CFG_COUNTER (i : Nat) : Fld := ⟨R.CNT_SAMP_CFG i, 0, 3⟩
abbrev F.CNT_SAMP_CFG_EN (i : Nat) : Fld := ⟨R.CNT_SAMP_CFG i, 3, 1⟩
/-- CNT_SAMPh_PERIOD, R450. -/
abbrev R.CNT_SAMP_PERIOD (i : Nat) : Nat := 0x40E00404 + 0x10 * i
abbrev F.CNT_SAMP_PERIOD_PERIOD (i : Nat) : Fld := ⟨R.CNT_SAMP_PERIOD i, 0, 32⟩
/-- CNT_SAMP_PC_LO, R450. -/
abbrev R.CNT_SAMP_PC_LO (i : Nat) : Nat := 0x40E00408 + 0x10 * i
abbrev F.CNT_SAMP_PC_LO_PC (i : Nat) : Fld := ⟨R.CNT_SAMP_PC_LO i, 0, 32⟩
/-- CNT_SAMP_PC_HI, R450. -/
abbrev R.CNT_SAMP_PC_HI (i : Nat) : Nat := 0x40E0040C + 0x10 * i
abbrev F.CNT_SAMP_PC_HI_PC (i : Nat) : Fld := ⟨R.CNT_SAMP_PC_HI i, 0, 32⟩
/-- CNT_NVS_CTRL, R450. -/
abbrev R.CNT_NVS_CTRL : Nat := 0x40E00500
abbrev F.CNT_NVS_CTRL_GO : Fld := ⟨R.CNT_NVS_CTRL, 0, 1⟩
abbrev F.CNT_NVS_CTRL_COUNT : Fld := ⟨R.CNT_NVS_CTRL, 1, 8⟩
/-- CNT_NVS_IDk, R450. -/
abbrev R.CNT_NVS_ID (i : Nat) : Nat := 0x40E00600 + 0x4 * i
abbrev F.CNT_NVS_ID_ID0 (i : Nat) : Fld := ⟨R.CNT_NVS_ID i, 0, 12⟩
abbrev F.CNT_NVS_ID_ID1 (i : Nat) : Fld := ⟨R.CNT_NVS_ID i, 16, 12⟩
/-- FLT_HELD, R451. -/
abbrev R.FLT_HELD : Nat := 0x40F00110
abbrev F.FLT_HELD_HELD : Fld := ⟨R.FLT_HELD, 0, 7⟩
abbrev F.FLT_HELD_DROPPED : Fld := ⟨R.FLT_HELD, 16, 16⟩
/-- FLT_LOG_NEXT, R451. -/
abbrev R.FLT_LOG_NEXT : Nat := 0x40F00114
abbrev F.FLT_LOG_NEXT_INDEX : Fld := ⟨R.FLT_LOG_NEXT, 0, 12⟩
/-- FLT_LOG_SEQ, R451. -/
abbrev R.FLT_LOG_SEQ : Nat := 0x40F00118
abbrev F.FLT_LOG_SEQ_SEQ : Fld := ⟨R.FLT_LOG_SEQ, 0, 32⟩
/-- FLT_LOG_COUNT, R451. -/
abbrev R.FLT_LOG_COUNT : Nat := 0x40F0011C
abbrev F.FLT_LOG_COUNT_VALID : Fld := ⟨R.FLT_LOG_COUNT, 0, 13⟩
/-- FLT_LAST, R451. -/
abbrev R.FLT_LAST : Nat := 0x40F00120
abbrev F.FLT_LAST_CODE : Fld := ⟨R.FLT_LAST, 0, 16⟩
abbrev F.FLT_LAST_SOURCE : Fld := ⟨R.FLT_LAST, 16, 8⟩
/-- FLT_SW0–9, R451. -/
abbrev R.FLT_SW (i : Nat) : Nat := 0x40F00130 + 0x4 * i
abbrev F.FLT_SW_DATA (i : Nat) : Fld := ⟨R.FLT_SW i, 0, 32⟩
/-- FLT_SW_CMD, R451. -/
abbrev R.FLT_SW_CMD : Nat := 0x40F00158
abbrev F.FLT_SW_CMD_CODE : Fld := ⟨R.FLT_SW_CMD, 0, 16⟩
abbrev F.FLT_SW_CMD_GO : Fld := ⟨R.FLT_SW_CMD, 16, 1⟩
/-- FLT_SW_STATUS, R451. -/
abbrev R.FLT_SW_STATUS : Nat := 0x40F0015C
abbrev F.FLT_SW_STATUS_REASON : Fld := ⟨R.FLT_SW_STATUS, 0, 16⟩
/-- NVS_STATUS, R452. -/
abbrev R.NVS_STATUS : Nat := 0x50600100
abbrev F.NVS_STATUS_BUSY : Fld := ⟨R.NVS_STATUS, 0, 1⟩
abbrev F.NVS_STATUS_SCANNED : Fld := ⟨R.NVS_STATUS, 1, 1⟩
abbrev F.NVS_STATUS_QUEUE : Fld := ⟨R.NVS_STATUS, 16, 16⟩
/-- NVS_ERR, R452. -/
abbrev R.NVS_ERR : Nat := 0x50600104
abbrev F.NVS_ERR_BAD : Fld := ⟨R.NVS_ERR, 0, 16⟩
/-- NVS_WR_CNT, R452. -/
abbrev R.NVS_WR_CNT : Nat := 0x50600108
abbrev F.NVS_WR_CNT_COUNT : Fld := ⟨R.NVS_WR_CNT, 0, 32⟩
/-- NVS_CMD, R452. -/
abbrev R.NVS_CMD : Nat := 0x5060010C
abbrev F.NVS_CMD_WIPE_LOG : Fld := ⟨R.NVS_CMD, 0, 1⟩
abbrev F.NVS_CMD_WIPE_PROG : Fld := ⟨R.NVS_CMD, 1, 1⟩
/-- NVS_CMD_STATUS, R452. -/
abbrev R.NVS_CMD_STATUS : Nat := 0x50600110
abbrev F.NVS_CMD_STATUS_REASON : Fld := ⟨R.NVS_CMD_STATUS, 0, 16⟩
/-- NTS_CTRL, R462. -/
abbrev R.NTS_CTRL : Nat := 0x41100100
abbrev F.NTS_CTRL_ENABLE : Fld := ⟨R.NTS_CTRL, 0, 1⟩
/-- NTS_STATUS, R462. -/
abbrev R.NTS_STATUS : Nat := 0x41100104
abbrev F.NTS_STATUS_STATE : Fld := ⟨R.NTS_STATUS, 0, 2⟩
abbrev F.NTS_STATUS_STOPPING : Fld := ⟨R.NTS_STATUS, 2, 1⟩
abbrev F.NTS_STATUS_RUNNING : Fld := ⟨R.NTS_STATUS, 3, 1⟩
abbrev F.NTS_STATUS_STEP : Fld := ⟨R.NTS_STATUS, 4, 5⟩
/-- NTS_REFUSE, R462. -/
abbrev R.NTS_REFUSE : Nat := 0x41100108
abbrev F.NTS_REFUSE_REASON : Fld := ⟨R.NTS_REFUSE, 0, 16⟩
abbrev F.NTS_REFUSE_DETAIL : Fld := ⟨R.NTS_REFUSE, 16, 16⟩
/-- NTS_START, R462. -/
abbrev R.NTS_START : Nat := 0x41100110
abbrev F.NTS_START_CYCLE : Fld := ⟨R.NTS_START, 0, 32⟩
/-- NTS_CMD, R462. -/
abbrev R.NTS_CMD : Nat := 0x41100114
abbrev F.NTS_CMD_GO : Fld := ⟨R.NTS_CMD, 0, 1⟩
abbrev F.NTS_CMD_ABORT : Fld := ⟨R.NTS_CMD, 1, 1⟩
/-- NTS_CMD_STATUS, R462. -/
abbrev R.NTS_CMD_STATUS : Nat := 0x41100118
abbrev F.NTS_CMD_STATUS_REASON : Fld := ⟨R.NTS_CMD_STATUS, 0, 16⟩
abbrev F.NTS_CMD_STATUS_DETAIL : Fld := ⟨R.NTS_CMD_STATUS, 16, 16⟩
/-- NTS_RUN_STATUS, R462. -/
abbrev R.NTS_RUN_STATUS : Nat := 0x4110011C
abbrev F.NTS_RUN_STATUS_RUN : Fld := ⟨R.NTS_RUN_STATUS, 0, 16⟩
abbrev F.NTS_RUN_STATUS_ABORT : Fld := ⟨R.NTS_RUN_STATUS, 16, 2⟩
/-- NTS_REPORT_ADDR, R462. -/
abbrev R.NTS_REPORT_ADDR : Nat := 0x41100120
abbrev F.NTS_REPORT_ADDR_ADDR : Fld := ⟨R.NTS_REPORT_ADDR, 0, 32⟩
/-- NTS_NONCE0–7, R462. -/
abbrev R.NTS_NONCE (i : Nat) : Nat := 0x41100124 + 0x4 * i
abbrev F.NTS_NONCE_NONCE (i : Nat) : Fld := ⟨R.NTS_NONCE i, 0, 32⟩
/-- NTS_SUMMARY, R462. -/
abbrev R.NTS_SUMMARY : Nat := 0x41100144
abbrev F.NTS_SUMMARY_PASS : Fld := ⟨R.NTS_SUMMARY, 0, 8⟩
abbrev F.NTS_SUMMARY_FAIL : Fld := ⟨R.NTS_SUMMARY, 8, 8⟩
abbrev F.NTS_SUMMARY_SKIP : Fld := ⟨R.NTS_SUMMARY, 16, 8⟩
/-- NTS_RESs, R462. -/
abbrev R.NTS_RES (i : Nat) : Nat := 0x41102000 + 0x10 * i
abbrev F.NTS_RES_STATUS (i : Nat) : Fld := ⟨R.NTS_RES i, 0, 3⟩
abbrev F.NTS_RES_REASON (i : Nat) : Fld := ⟨R.NTS_RES i, 16, 16⟩
/-- NTS_RES_VALUE_LO, R462. -/
abbrev R.NTS_RES_VALUE_LO (i : Nat) : Nat := 0x41102004 + 0x10 * i
abbrev F.NTS_RES_VALUE_LO_VALUE (i : Nat) : Fld := ⟨R.NTS_RES_VALUE_LO i, 0, 32⟩
/-- NTS_RES_VALUE_HI, R462. -/
abbrev R.NTS_RES_VALUE_HI (i : Nat) : Nat := 0x41102008 + 0x10 * i
abbrev F.NTS_RES_VALUE_HI_VALUE (i : Nat) : Fld := ⟨R.NTS_RES_VALUE_HI i, 0, 32⟩
/-- NTS_RESs_VALUE2, R462. -/
abbrev R.NTS_RES_VALUE2 (i : Nat) : Nat := 0x4110200C + 0x10 * i
abbrev F.NTS_RES_VALUE2_VALUE2 (i : Nat) : Fld := ⟨R.NTS_RES_VALUE2 i, 0, 32⟩
/-- TOP_BOOT_STATUS, R473. -/
abbrev R.TOP_BOOT_STATUS : Nat := 0x40000200
abbrev F.TOP_BOOT_STATUS_BOOT_SRC : Fld := ⟨R.TOP_BOOT_STATUS, 0, 2⟩
abbrev F.TOP_BOOT_STATUS_MASTER_OK : Fld := ⟨R.TOP_BOOT_STATUS, 2, 1⟩
abbrev F.TOP_BOOT_STATUS_TEST_N : Fld := ⟨R.TOP_BOOT_STATUS, 3, 1⟩
abbrev F.TOP_BOOT_STATUS_STAGE : Fld := ⟨R.TOP_BOOT_STATUS, 4, 4⟩
abbrev F.TOP_BOOT_STATUS_COPY : Fld := ⟨R.TOP_BOOT_STATUS, 8, 1⟩
abbrev F.TOP_BOOT_STATUS_ERROR : Fld := ⟨R.TOP_BOOT_STATUS, 16, 8⟩
/-- TOP_BOOT_IMAGE, R473. -/
abbrev R.TOP_BOOT_IMAGE : Nat := 0x40000204
abbrev F.TOP_BOOT_IMAGE_LEN : Fld := ⟨R.TOP_BOOT_IMAGE, 0, 19⟩
/-- TOP_BOOT_PCIE_ID, R473. -/
abbrev R.TOP_BOOT_PCIE_ID : Nat := 0x40000208
abbrev F.TOP_BOOT_PCIE_ID_VENDOR : Fld := ⟨R.TOP_BOOT_PCIE_ID, 0, 16⟩
abbrev F.TOP_BOOT_PCIE_ID_DEVICE : Fld := ⟨R.TOP_BOOT_PCIE_ID, 16, 16⟩
/-- TOP_HOST_INT_MASK_LO, R38. -/
abbrev R.TOP_HOST_INT_MASK_LO : Nat := 0x40000110
abbrev F.TOP_HOST_INT_MASK_LO_MASK : Fld := ⟨R.TOP_HOST_INT_MASK_LO, 1, 31⟩
/-- TOP_HOST_INT_MASK_HI, R38. -/
abbrev R.TOP_HOST_INT_MASK_HI : Nat := 0x40000114
abbrev F.TOP_HOST_INT_MASK_HI_MASK : Fld := ⟨R.TOP_HOST_INT_MASK_HI, 0, 32⟩
/-- NTS_STEPs_w, R455. -/
abbrev R.NTS_STEP (i : Nat) (j : Nat) : Nat := 0x41101000 + 0x10 * i + 0x4 * j
abbrev F.NTS_STEP_WORD (i : Nat) (j : Nat) : Fld := ⟨R.NTS_STEP i j, 0, 32⟩

end Sys2Proof.Machine
end

