-- ==== Sys2Proof/Machine/UnitRegs.lean ====
section
/-! DEFINITION. Requesters and units by number: the OWNER code of a requester, the CTRL, STATUS and REFUSE registers of a
unit. -/

namespace Sys2Proof

/-- The number of a requester in the latches: harts 0 to 3, SPI 4, PCIe 5, the hub itself 6. -/
def Requester.num : Requester → Nat
  | .hart h => h.val
  | .spi => 4
  | .pcie => 5
  | .hub => 6

/-- The OWNER code of a requester: firmware 0, SPI 1, PCIe 2 (spec/02 R28). -/
def Requester.owner : Requester → Nat
  | .hart _ => 0
  | .spi => 1
  | .pcie => 2
  | .hub => 3

/-- CTRL of a unit (spec/02 R35). -/
def HUnit.ctrl : HUnit → Nat
  | .pat => Machine.R.PAT_CTRL | .clk => Machine.R.CLK_CTRL | .lanePort n => Machine.R.LANE_PORT_CTRL n
  | .tun => Machine.R.TUN_CTRL | .swb => Machine.R.SWB_CTRL | .sch => Machine.R.SCH_CTRL
  | .altBaste => Machine.R.ALT_BASTE_CTRL | .altAlarm => Machine.R.ALT_ALARM_CTRL | .rng => Machine.R.RNG_CTRL
  | .aud => Machine.R.AUD_CTRL | .audTdm t => Machine.R.AUD_TDM_CTRL t
  | .stc => Machine.R.STC_CTRL | .stcCh c => Machine.R.STC_CH_CTRL c | .stcCvu u => Machine.R.STC_CVU_CTRL u
  | .pcb => Machine.R.PCB_CTRL | .pcbQuad q => Machine.R.PCBQ_CTRL q | .pcbLink l => Machine.R.PCB_LNK_CTRL l
  | .dpe => Machine.R.DPE_CTRL | .dpeDp q => Machine.R.DPE_DP_CTRL q | .dpeEth q => Machine.R.DPE_ETH_CTRL q
  | .key => Machine.R.KEY_CTRL | .cnt => Machine.R.CNT_CTRL | .nts => Machine.R.NTS_CTRL
  | .tcp => Machine.R.TCP_CTRL | .tcpPort n => Machine.R.TCP_PORT_CTRL n | .usb => Machine.R.USB_CTRL
  | .gate n => Machine.R.PGT_GATE_CTRL n | .lanRule r => Machine.R.LAN_RULE_CTRL r | .tmp => Machine.R.TMP_CTRL

/-- ENABLE of a unit. -/
def HUnit.enable (u : HUnit) : Machine.Fld := ⟨u.ctrl, 0, 1⟩

/-- STATE of a unit: 0 OFF, 1 CHECKING, 2 ON, 3 REFUSED. -/
def HUnit.state (u : HUnit) : Machine.Fld := ⟨u.ctrl + 4, 0, 2⟩

/-- STOPPING of a unit. -/
def HUnit.stopping (u : HUnit) : Machine.Fld := ⟨u.ctrl + 4, 2, 1⟩

/-- REASON of a unit. -/
def HUnit.reason (u : HUnit) : Machine.Fld := ⟨u.ctrl + 8, 0, 16⟩

/-- DETAIL of a unit. -/
def HUnit.detail (u : HUnit) : Machine.Fld := ⟨u.ctrl + 8, 16, 16⟩

end Sys2Proof
end

