-- ==== Sys2Proof/Machine/Ops.lean ====
section
/-! DEFINITION. The shared operations: reading and writing registers and fields, saturating counts, interrupts, refusal
registers, outputs, free values, records for NVS, and how a register access is judged. -/

namespace Sys2Proof.Machine

/-- The blocks: (base address / 1 MiB, block ID, registers), spec/02 R26. -/
def blocks : List (Nat × Nat × List RegDef) := [
  (0x400, 0x01, regsTop), (0x401, 0x02, regsPat), (0x402, 0x03, regsClk), (0x403, 0x04, regsLane),
  (0x404, 0x05, regsTun), (0x405, 0x06, regsSwb), (0x406, 0x07, regsSch), (0x407, 0x08, regsAlt),
  (0x408, 0x09, regsRng), (0x409, 0x0A, regsAud), (0x40A, 0x0B, regsStc), (0x40B, 0x0C, regsPcb),
  (0x40C, 0x0D, regsDpe), (0x40D, 0x0E, regsKey), (0x40E, 0x0F, regsCnt), (0x40F, 0x10, regsFlt),
  (0x410, 0x11, regsSeam), (0x411, 0x12, regsNts),
  (0x500, 0x20, regsTcp), (0x501, 0x21, regsUsb), (0x502, 0x22, regsPgt), (0x503, 0x23, regsPwr),
  (0x504, 0x24, regsLan), (0x505, 0x25, regsTmp), (0x506, 0x26, regsNvs)]

/-- The block ID of an address; 0 where no block stands. -/
def blockId (a : Nat) : Nat := ((blocks.find? fun b => b.1 = a / 0x100000).map (·.2.1)).getD 0

/-- The base address of the block with an ID. -/
def blockBase (id : Nat) : Nat := ((blocks.find? fun b => b.2.1 = id).map (·.1 * 0x100000)).getD 0

/-- The definition of the register at an address, beyond the block header, with its indexes. -/
def findReg (a : Nat) : Option (RegDef × List Nat) :=
  match blocks.find? fun b => b.1 = a / 0x100000 with
  | none => none
  | some b => b.2.2.findSome? fun r => (r.index a).map fun ix => (r, ix)

/-- The reset word of a register (spec/00 R9): BLK_INFO holds the block ID and revision (spec/02 R34). -/
def regReset (a : Nat) : Word :=
  if a % 0x100000 < 0x10 then (if a % 0x100000 = 0 then BitVec.ofNat 32 (0x100 + blockId a) else 0)
  else match findReg a with
    | some (r, _) => BitVec.ofNat 32 r.reset
    | none => 0

/-- The stored word of a register. -/
def State.rd (s : State) (a : Nat) : Word := getKey (regReset a) a s.regs

/-- A register with a word stored. -/
def State.wr (s : State) (a : Nat) (w : Word) : State := { s with regs := putKey (regReset a) a w s.regs }

/-- The value of a field. -/
def State.get (s : State) (f : Fld) : Nat := getBits (s.rd f.reg) f.lsb f.width

/-- A field with a value stored. -/
def State.set (s : State) (f : Fld) (v : Nat) : State := s.wr f.reg (setBits (s.rd f.reg) f.lsb f.width v)

/-- A field is not zero. -/
def State.on (s : State) (f : Fld) : Bool := s.get f != 0

/-- A field with `n` added, saturating. -/
def State.sat (s : State) (f : Fld) (n : Nat) : State := s.set f (satAdd f.width (s.get f) n)

/-- A field with `n` added, modulo its width. -/
def State.inc (s : State) (f : Fld) (n : Nat) : State := s.set f (s.get f + n)

/-- A bit of a field set. -/
def State.setB (s : State) (f : Fld) (i : Nat) : State := s.set f (setBit (s.get f) i)

/-- A bit of a field cleared. -/
def State.clrB (s : State) (f : Fld) (i : Nat) : State := s.set f (clrBit (s.get f) i)

/-- Several fields stored. -/
def State.sets (s : State) : List (Fld × Nat) → State
  | [] => s
  | (f, v) :: t => (s.set f v).sets t

/-- Apply an operation when a condition holds. -/
def State.when (s : State) (c : Bool) (f : State → State) : State := if c then f s else s

/-- Apply an operation for each item of a list, in order. -/
def State.each {α : Type} (s : State) (l : List α) (f : α → State → State) : State := l.foldl (fun s a => f a s) s

/-- An output sent. -/
def State.emit (s : State) (o : Output) : State := { s with out := o :: s.out }

/-- The next free value (assumption log 3). -/
def State.fresh (s : State) : Nat := Config.freeNat s.free

/-- The counter of free values advanced. -/
def State.used (s : State) : State := { s with free := s.free + 1 }

/-- The seam is up (SEAM_STATUS.UP). -/
def State.seamUp (s : State) : Bool := s.on F.SEAM_STATUS_UP

/-- The bolt die has its supplies: PG0_GOOD is high (spec/17 R379). -/
def State.boltPowered (s : State) : Bool := s.on F.PGT_STATUS_PG0_GOOD

/-- The bolt-die units run: powered, and out of reset since the root PLL locked (spec/04 R79). -/
def State.boltUp (s : State) : Bool := s.boltPowered && s.bolt.running

/-- The cycle number (CLK_CYCLE). -/
def State.cycle (s : State) : Nat := s.get F.CLK_CYCLE_CYCLE

/-- The cycle number written into records: all ones while the bolt die is unpowered (spec/20 R442). -/
def State.recCycle (s : State) : Nat := if s.boltUp then s.cycle else 0xFFFFFFFF

/-- A die's end of the seam, and it stored. -/
def State.seamEnd (s : State) (d : Die) : SeamEnd := match d with | .bolt => s.bolt.ctl.seam | .spool => s.spool.seam
def State.setSeamEnd (s : State) (d : Die) (e : SeamEnd) : State :=
  match d with
  | .bolt => { s with bolt.ctl.seam := e }
  | .spool => { s with spool.seam := e }

/-- A flit queued behind those that wait: SWITCH flits (TYPE 9) apart from control flits (spec/02 R40). -/
def SeamEnd.queue (e : SeamEnd) (type ch data : Nat) : SeamEnd :=
  if type = 9 then { e with switch := e.switch ++ [(type, ch, data)] } else { e with control := e.control ++ [(type, ch, data)] }

/-- The flit sent next with what its sending leaves: a control flit ahead of every SWITCH flit, none while the replay buffer
holds 128 flits (spec/02 R40, R41). -/
def SeamEnd.next (e : SeamEnd) : Option (TxFlit × SeamEnd) :=
  if 128 ≤ e.replay.length then none
  else
    let put (x : Nat × Nat × Nat) (rest : SeamEnd) : TxFlit × SeamEnd :=
      let f : TxFlit := ⟨x.1, x.2.1, e.nextSeq, x.2.2, 1⟩
      (f, { rest with nextSeq := (e.nextSeq + 1) % 256, replay := e.replay ++ [f] })
    match e.control, e.switch with
    | x :: t, _ => some (put x { e with control := t })
    | [], x :: t => some (put x { e with switch := t })
    | [], [] => none

/-- At most `n` of the waiting flits sent, as the replay buffer has room. -/
def State.pump (d : Die) : Nat → State → State
  | 0, s => s
  | n + 1, s => match (s.seamEnd d).next with
    | none => s
    | some (f, e) => ((s.setSeamEnd d e).emit (.flit d f.type f.ch f.seq f.data)).pump d n

/-- Send a flit from a die: it stays in the replay buffer until acknowledged, and waits while that is full (spec/02 R41). -/
def State.sendFlit (s : State) (d : Die) (type ch data : Nat) : State :=
  if !s.seamUp then s else (s.setSeamEnd d ((s.seamEnd d).queue type ch data)).pump d 1

/-- INT_STATUS of a block as read: bit 31 is the OR of STICKY (spec/02 R34). -/
def State.intStatus (s : State) (base : Nat) : Nat :=
  let w := (s.rd (base + 8)).toNat
  if (s.rd (base + 4)).toNat % 2 ^ 32 = 0 then clrBit w 31 else setBit w 31

/-- A block's PLIC source is pending (spec/02 R37); a spool block's by the report the bolt die last had. -/
def State.sourcePending (s : State) (id : Nat) : Bool :=
  let base := blockBase id
  let st := if id < 0x20 then s.intStatus base else getKey 0 id s.bolt.ctl.intCopy
  st &&& (s.rd (base + 12)).toNat != 0

/-- The pending sources, bit s for source s: the blocks and the peripherals; 58 to 63 never (spec/02 R37, R38). -/
def State.pendingSources (s : State) : Nat :=
  (blocks.map fun b => if s.sourcePending b.2.1 then 2 ^ b.2.1 else 0).sum + s.bolt.ctl.periph

/-- The sources that are pending and not claimed. -/
def State.plicPending (s : State) : Nat := s.pendingSources &&& (2 ^ 64 - 1 - s.bolt.ctl.plic.claimed)

/-- The interrupt line of a context: an enabled source is pending above its threshold (spec/02 R37; PRESUMED from the RISC-V PLIC,
assumption log 6). -/
def State.contextHigh (s : State) (c : Nat) : Bool :=
  let x := s.bolt.ctl.plic
  let e := x.enable.getD c 0
  e != 0 && (List.range 64).any fun i =>
    bit e i && decide (x.threshold.getD c 0 < x.priority.getD i 0) && bit s.plicPending i

/-- The lines of the eight contexts to the harts are driven. -/
def State.driveLines (s : State) : State :=
  let now := ((List.range 8).map fun c => if s.contextHigh c then 2 ^ c else 0).sum
  let s1 := { s with bolt.ctl.lines := now }
  s1.each ((List.range 8).filter fun c => bit now c != bit s.bolt.ctl.lines c) fun c s => s.emit (.contextLine c (bit now c))

/-- The sources an external host has selected (spec/02 R38). -/
def State.hostMask (s : State) : Nat :=
  (s.rd R.TOP_HOST_INT_MASK_LO).toNat + 2 ^ 32 * (s.rd R.TOP_HOST_INT_MASK_HI).toNat

/-- HOST_INT_N is low: the SPI target holds the token and a selected source is pending (spec/02 R38). -/
def State.hostIntLow (s : State) : Bool :=
  decide (s.get F.TOP_HOST_TOKEN_OWNER = 1) && (s.pendingSources &&& s.hostMask != 0)

/-- The 16 bytes of an entry of the MSI-X table (spec/13 R294). -/
def State.msixEntry (s : State) (i : Nat) : List Byte := (List.range 16).map fun k => getKey 0 (16 * i + k) s.bolt.msixTable

/-- Look at the pending sources again: each newly pending selected source sends one MSI-X message while the PCIe
upstream function holds the token (spec/02 R38); the lines to the harts follow. -/
def State.refreshInts (s : State) : State :=
  let p := s.pendingSources
  let news := (List.range 64).filter fun i => bit s.hostMask i && bit p i && !bit s.bolt.ctl.pendPrev i
  let s1 := { s with bolt.ctl.pendPrev := p }.driveLines
  if s.get F.TOP_HOST_TOKEN_OWNER = 2 then s1.each news fun i s => s.emit (.msix i (s.msixEntry i)) else s1

/-- Report a spool block's INT_STATUS to the bolt die in an EVENT flit (spec/02 R38): block ID in DATA [39:32], the
cause raised in DATA [47:40], 0xFF for none.  The layout is a DESIGN CHOICE: the spec gives an event flit's DATA none (assumption
log 67). -/
def State.sendEvent (s : State) (base i : Nat) : State :=
  s.sendFlit .spool 6 0 (i * 2 ^ 40 + blockId base * 2 ^ 32 + s.intStatus base)

/-- What follows a change of a block's INT_STATUS, INT_ENABLE or STICKY. -/
def State.intChanged (s : State) (base : Nat) : State :=
  if base < 0x50000000 then s.refreshInts else s.sendEvent base 0xFF

/-- The group of a counter ID (spec/20 R429). -/
def counterGroup (id : Nat) : Nat :=
  if id < 80 then 0 else if id < 3152 then 1 else if id < 3168 then 2 else if id < 3264 then 3
  else if id < 3456 then 4 else if id < 3648 then 5 else if id < 3776 then 6 else 7

/-- The value of a counter. -/
def State.counter (s : State) (id : Nat) : Nat := getKey 0 id s.bolt.counters

/-- A counter with a value stored. -/
def State.setCounter (s : State) (id v : Nat) : State :=
  { s with bolt.counters := putKey 0 id (v % 2 ^ 48) s.bolt.counters }

/-- The event-select counters that watch an event: (block ID × 256) + bit (spec/20 R433). -/
def State.watchers (s : State) (ev : Nat) : List Nat :=
  (s.regs.filter fun r => R.CNT_EVSEL 0 ≤ r.1 && r.1 < R.CNT_EVSEL 128 && getBits r.2 0 16 = ev
    && getBits r.2 16 1 = 1).map fun r => (r.1 - R.CNT_EVSEL 0) / 4

/-- Mark a counter as wrapped: its group's bit, and the WRAPPED mark of the next dump (spec/20 R431, R436). -/
def State.markWrap (s : State) (id : Nat) : State :=
  { s.setB F.CNT_WRAP_GROUPS (counterGroup id) with bolt.wrapped := s.bolt.wrapped ++ [id] }

/-- Add to a counter, modulo 2^48, marking a wrap. -/
def State.addCounter (s : State) (id n : Nat) : State :=
  let v := s.counter id + n
  (s.setCounter id v).when (decide (2 ^ 48 ≤ v)) fun s => s.markWrap id

/-- Raise an interrupt cause without counting it: set the bit, follow the change. -/
def State.raise (s : State) (base i : Nat) : State :=
  let s1 := s.wr (base + 8) (BitVec.ofNat 32 (setBit (s.rd (base + 8)).toNat i))
  if base < 0x50000000 then s1.refreshInts else s1.sendEvent base i

/-- Count a raised event on the event-select counters that watch it; a wrap raises WRAP (spec/20 R431, R433). -/
def State.countEvent (s : State) (ev : Nat) : State :=
  let ws := s.watchers ev
  let s1 := s.each ws fun j s => s.addCounter (3648 + j) 1
  if ws.any fun j => s.counter (3648 + j) + 1 = 2 ^ 48 then
    let s2 := s1.raise 0x40E00000 3
    s2.each (s2.watchers 0x0F03) fun j s => s.addCounter (3648 + j) 1
  else s1

/-- Raise an interrupt cause of a block; a bolt block's raising counts at once, a spool block's when its EVENT flit
arrives (spec/20 R433). -/
def State.irq (s : State) (base i : Nat) : State :=
  let s1 := s.raise base i
  if base < 0x50000000 then s1.countEvent (blockId base * 256 + i) else s1

/-- Count events on a catalogue counter; a wrap raises WRAP (spec/20 R431). -/
def State.count (s : State) (id n : Nat) : State :=
  (s.addCounter id n).when (decide (2 ^ 48 ≤ s.counter id + n)) fun s => s.irq 0x40E00000 3

/-- Set a STICKY bit of a block. -/
def State.sticky (s : State) (base i : Nat) : State :=
  (s.wr (base + 4) (BitVec.ofNat 32 (setBit (s.rd (base + 4)).toNat i))).intChanged base

/-- A waiting NVS write added (spec/20 R449). -/
def State.nvsPut (s : State) (op : NvsOp) : State := { s with spool.nvsQueue := s.spool.nvsQueue ++ [op] }

/-- An NVS write of a bolt-die block: sent over the seam, or held while it is down (spec/02 R44). -/
def State.boltNvs (s : State) (op : NvsOp) : State :=
  if s.seamUp then s.nvsPut op
  else match op with
    | .identity o _ =>
      { s with bolt.heldItems := (s.bolt.heldItems.filter fun x => match x with
          | .identity o' _ => o' != o
          | _ => true) ++ [op] }
    | .retire .. => { s with bolt.heldItems := s.bolt.heldItems ++ [op] }
    | _ =>
      if s.bolt.held.length < 64 then { s with bolt.held := s.bolt.held ++ [op] }
      else ({ s with bolt.heldDropped := s.bolt.heldDropped + 1 }.sat F.FLT_HELD_DROPPED 1).irq 0x40F00000 1

/-- A 40-byte payload of a fault record: ARG0, ARG1, ARG2 (spec/20 R444). -/
def faultPayload (a0 a1 a2 : Nat) : List Byte := leBytes 4 a0 ++ leBytes 4 a1 ++ leBytes 8 a2 ++ List.replicate 24 0

/-- A fault record of a bolt-die block (spec/20 R443). -/
def State.boltFault (s : State) (source code a0 a1 a2 : Nat) : State :=
  s.boltNvs (.log 1 source code s.recCycle (faultPayload a0 a1 a2))

/-- A fault-log record of a spool-die block, written directly (spec/20 R443). -/
def State.spoolRecord (s : State) (type source code a0 a1 a2 : Nat) : State :=
  s.nvsPut (.log type source code s.recCycle (faultPayload a0 a1 a2))

/-- A progress record of a bolt-die block: first slot, copies, payload (spec/20 R446). -/
def State.boltProgress (s : State) (slot copies source : Nat) (payload : List Byte) : State :=
  s.boltNvs (.progress slot copies source s.recCycle payload)

/-- The requester holds the token; the hub itself needs none. -/
def State.holder (s : State) (w : Requester) : Bool := decide (w = .hub) || decide (s.get F.TOP_HOST_TOKEN_OWNER = w.owner)

/-- A requester's path answers: the bolt die runs, the hart has started and is not stopped, the PCIe function is up
(spec/02 R26, R498; spec/18 R388). -/
def State.pathLive (s : State) (w : Requester) : Bool :=
  s.boltUp && match w with
    | .hart h => bit s.bolt.ctl.hartsOn h.val && !s.bolt.coresStopped
    | .spi => true
    | .pcie => s.bolt.pcieUp
    | .hub => true

/-- The address ranges of spec/02 R25. -/
inductive Range where
  | rom | plic | sram | block | periph | out
  deriving DecidableEq, Repr

/-- The range an address lies in (spec/02 R25). -/
def rangeOf (a : Nat) : Range :=
  if a < 0x20000 then .rom
  else if 0x0C000000 ≤ a ∧ a < 0x10000000 then .plic
  else if 0x10000000 ≤ a ∧ a < 0x11000000 then .sram
  else if 0x40000000 ≤ a ∧ a < 0x41200000 then .block
  else if 0x42000000 ≤ a ∧ a < 0x42100000 then .periph
  else if 0x50000000 ≤ a ∧ a < 0x50700000 then .block
  else .out

/-- The register lies on the spool die. -/
def isSpool (a : Nat) : Bool := decide (0x50000000 ≤ a)

/-- Base address of the block an address lies in. -/
def baseOf (a : Nat) : Nat := a / 0x100000 * 0x100000

/-- A block is present: named by the PRESENT mask in force, or any block until a load reaches step 5 (spec/03 R53). -/
def State.present (s : State) (id : Nat) : Bool := bit s.bolt.pat.inForce.present id

/-- The address stands in a window that has no register table: packet memory, bank windows, the NVS window. -/
def inWindow (a : Nat) : Bool :=
  (0x50110000 ≤ a && a < 0x50120000) || (0x40710000 ≤ a && a < 0x40740000 && a % 0x10000 < 0xC000) || (0x50680000 ≤ a && a < 0x50700000)

/-- The offset is assigned: header, table or window (spec/02 R31). -/
def assigned (a : Nat) : Bool := a % 0x100000 < 0x10 || (findReg a).isSome || inWindow a

/-- A register of an AUD output beyond the count of a SAMPLE_RATE code: unassigned (spec/11 R256, R281). -/
def beyondRate (rate a : Nat) : Bool :=
  let off := a % 0x100000
  let o := if off < 0x2000 then 0 else if off < 0x2800 then (off - 0x2000) / 4 else if off < 0x3000 then (off - 0x2800) / 4
    else if off < 0x4000 then 0 else if off < 0xC000 then (off - 0x4000) / 0x40 else (off - 0xC000) / 0x10
  decide (baseOf a = 0x40900000) && decide (512 / 2 ^ min 2 rate ≤ o)

/-- How an access to a register block is judged before it acts. -/
inductive Verdict where
  | act
  | misaligned
  | absent
  | foreign
  | seamDown
  | unassigned
  deriving DecidableEq, Repr

/-- The judgement of an access of `width` bytes to a register block (spec/02 R27, R31, R43; spec/03 R53).  The order of
the tests is DEDUCED (assumption log 6). -/
def State.judge (s : State) (w : Requester) (a width : Nat) (write : Bool) : Verdict :=
  if width ≠ 4 ∨ a % 4 ≠ 0 then .misaligned
  else if !s.present (blockId a) then .absent
  else if write && !s.holder w && a != R.TOP_HOST_TOKEN then .foreign
  else if isSpool a && !s.seamUp then .seamDown
  else if !assigned a || beyondRate s.bolt.pat.inForce.sampleRate a then .unassigned
  else .act

/-- Set a STICKY bit of a block if the bolt die can reach it. -/
def State.stickyAt (s : State) (a i : Nat) : State :=
  if isSpool a && !s.seamUp then s else s.sticky (baseOf a) i

/-- The answer to a requester (spec/02 R30, R31, R27): SPI a status byte, PCIe and harts an error or the data.  That a hart's own
foreign write ends without an access fault, as PCIe's does, is a DESIGN CHOICE: the spec states the SPI and PCIe answers only
(assumption log 68). -/
def State.answer (s : State) (w : Requester) (st : Access) (data : Word) : State :=
  match w with
  | .spi => s.emit (.spiStatus (match st with | .done => 0 | .error => 1 | .notHolder => 4 | .seamDown => 8) data)
  | .hub => s
  | _ => s.emit (.access w (if st = .notHolder then .done else st) data)

/-- What an access that does not act does (spec/02 R25, R27, R31, R43; spec/03 R53). -/
def State.turnAway (s : State) (v : Verdict) (w : Requester) (a : Nat) : State :=
  match v with
  | .act => s
  | .misaligned => (s.stickyAt a 1).answer w .error 0
  | .absent => (s.sticky 0x40000000 1).answer w .done 0
  | .foreign => (s.stickyAt a 2).answer w .notHolder 0
  | .seamDown => s.answer w .seamDown 0
  | .unassigned => (s.stickyAt a 1).answer w .done 0

/-- The value of a CTRL.ENABLE that judges a register's RWE fields. -/
def State.enabledAt (s : State) (ctrl : Nat) : Bool := ctrl != 0 && getBits (s.rd ctrl) 0 1 = 1

/-- One field of a register written (spec/00 R6): the word and whether an RWE write was refused that would have changed
the stored value. -/
def writeField (en : Bool) (v : Word) (acc : Word × Bool) (f : FieldDef) : Word × Bool :=
  let nv := getBits v f.lsb f.width
  let ov := getBits acc.1 f.lsb f.width
  match f.acc with
  | .rw => (setBits acc.1 f.lsb f.width (clamp f.lo f.hi nv), acc.2)
  | .rwe =>
    if en then (acc.1, acc.2 || nv != ov) else (setBits acc.1 f.lsb f.width (clamp f.lo f.hi nv), acc.2)
  | .w1c => (setBits acc.1 f.lsb f.width (ov &&& (2 ^ f.width - 1 - nv)), acc.2)
  | .w1s => (setBits acc.1 f.lsb f.width (ov ||| nv), acc.2)
  | .sc => (setBits acc.1 f.lsb f.width (ov ||| nv), acc.2)
  | .ro | .wo => acc

/-- A register word written by its access types (spec/00 R6): W1C for STICKY and INT_STATUS, plain for INT_ENABLE. -/
def State.storeWrite (s : State) (a : Nat) (v : Word) : State :=
  if a % 0x100000 = 0x4 ∨ a % 0x100000 = 0x8 then (s.wr a (s.rd a &&& ~~~ v)).intChanged (baseOf a)
  else if a % 0x100000 = 0xC then (s.wr a v).intChanged (baseOf a)
  else match findReg a with
    | none => s
    | some (r, ix) =>
      let p := r.fields.foldl (writeField (s.enabledAt (r.owner ix)) v) (s.rd a, false)
      (s.wr a p.1).when p.2 fun s => s.sticky (baseOf a) 0

/-- A write to a spool block counts as sent and as applied (spec/02 R43). -/
def State.countSpoolWrite (s : State) (a : Nat) : State :=
  if isSpool a then { s with spool.applied := s.spool.applied + 1 } else s

/-- A write command of a register that has a row of its own: judged, stored by access type, then acted on.  Nothing
happens on a path that is not live (spec/02 R498). -/
def State.command (s : State) (w : Requester) (a : Nat) (v : Word) (act : State → State) : State :=
  if !s.pathLive w then s
  else match s.judge w a 4 true with
    | .act => (act ((s.countSpoolWrite a).storeWrite a v)).answer w .done 0
    | bad => s.turnAway bad w a

/-- A command's next state. -/
abbrev Step := Host.Outcome State Fault Refusal

/-- A unit is ON. -/
def State.isOn (s : State) (u : HUnit) : Bool := decide (s.get u.state = 2)

/-- A unit refused: STATE, REASON and DETAIL set, ENABLE cleared, CHECK_DONE raised (spec/02 R35). -/
def State.refuseUnit (s : State) (u : HUnit) (code detail : Nat) : State :=
  (s.sets [(u.state, 3), (u.reason, blockId u.ctrl * 256 + code), (u.detail, detail), (u.enable, 0)]).irq
    (baseOf u.ctrl) 0

/-- The units that come once. -/
def loneUnits : List HUnit :=
  [.pat, .clk, .tun, .swb, .sch, .altBaste, .altAlarm, .rng, .aud, .stc, .pcb, .dpe, .key, .cnt, .nts, .tcp, .usb, .tmp]

/-- All units. -/
def allUnits : List HUnit := List.flatten [loneUnits,
  (List.finRange 8).map HUnit.lanePort, (List.finRange 16).map HUnit.audTdm, (List.finRange 128).map HUnit.stcCh,
  (List.finRange 144).map HUnit.stcCvu, (List.finRange 3).map HUnit.pcbQuad, (List.finRange 32).map HUnit.pcbLink,
  (List.finRange 3).map HUnit.dpeDp, (List.finRange 3).map HUnit.dpeEth, (List.finRange 6).map HUnit.tcpPort,
  (List.finRange 7).map HUnit.gate, (List.finRange 32).map HUnit.lanRule]

/-- The unit whose CTRL stands at an address. -/
def unitAt (a : Nat) : Option HUnit := allUnits.find? fun u => u.ctrl = a

/-- SRAM byte at an offset; a byte nothing has written reads as 0 (DESIGN CHOICE, assumption log 4). -/
def State.sramByte (s : State) (o : Nat) : Byte := getKey 0 o s.bolt.sram

/-- Bytes of a store from an offset. -/
def memBytes (m : Mem) (o : Nat) : Nat → List Byte
  | 0 => []
  | n + 1 => getKey 0 o m :: memBytes m (o + 1) n

/-- Bytes put into a store from an offset. -/
def memPut (m : Mem) (o : Nat) : List Byte → Mem
  | [] => m
  | b :: bs => memPut (putKey 0 o b m) (o + 1) bs

/-- Bytes written to SRAM from an offset. -/
def State.sramPut (s : State) (o : Nat) (bs : List Byte) : State := { s with bolt.sram := memPut s.bolt.sram o bs }

/-- A write that falls into the source range of a load from SRAM (spec/03 R62). -/
def State.sourceGuarded (s : State) (a width : Nat) : Bool :=
  let o := s.get F.PAT_SRC_ADDR_ADDR
  s.bolt.pat.active && decide (s.get F.PAT_CTRL_SRC = 1) && decide (a < o + s.bolt.pat.total) && decide (o < a + width)

/-- Bytes that a unit writes to SRAM from an offset: those that fall into the source range of a load from SRAM are discarded, with
SRC_WRITE (spec/03 R62). -/
def State.sramStore (s : State) (o : Nat) (bs : List Byte) : State :=
  if s.sourceGuarded (0x10000000 + o) bs.length then
    let g := s.get F.PAT_SRC_ADDR_ADDR - 0x10000000
    let lo := max o g
    let kept := memBytes s.bolt.sram lo (min (o + bs.length) (g + s.bolt.pat.total) - lo)
    ((s.sramPut o bs).sramPut lo kept).irq 0x40100000 2
  else s.sramPut o bs

end Sys2Proof.Machine
end

