-- ==== Sys2Proof/Machine/Records.lean ====
section
/-! DEFINITION. Counters, dumps, fault and progress records, and the non-volatile store (spec/20). -/

namespace Sys2Proof.Machine

/-- CRC-8 of spec/05 R101: polynomial 0x2F, initial value 0xFF, most significant bit first. -/
def crc8 (bs : List Bool) : Nat := crcBits 8 0x2F 0xFF bs

/-- CRC-8 over bytes. -/
def crc8Bytes (bs : List Byte) : Nat := crc8 (bs.flatMap fun b => msbBits 8 b.toNat)

/-- Bytes of NVS from an offset. -/
def State.nvsBytes (s : State) (o n : Nat) : List Byte := memBytes s.spool.nvs o n

/-- Bytes written to NVS from an offset. -/
def State.nvsWrite (s : State) (o : Nat) (bs : List Byte) : State := { s with spool.nvs := memPut s.spool.nvs o bs }

/-- A 64-byte record of spec/20 R442. -/
def recordBytes (type source code seq cycle timeMs : Nat) (payload : List Byte) : List Byte :=
  let body := leBytes 1 type ++ leBytes 1 source ++ leBytes 2 code ++ leBytes 4 seq ++ leBytes 4 cycle ++
    leBytes 4 timeMs ++ bytesAt payload 0 40 ++ List.replicate 4 0
  body ++ leBytes 4 (crc32c body)

/-- A record whose CRC holds and whose TYPE is written by some unit (spec/20 R442). -/
def recordValid (bs : List Byte) : Bool :=
  decide (leAt bs 60 4 = crc32c (bs.take 60)) && decide (1 ≤ leAt bs 0 1) && decide (leAt bs 0 1 ≤ 4)

/-- The address of a progress slot (spec/20 R439). -/
def progAddr (slot : Nat) : Nat := 0x5400 + 64 * slot

/-- The offsets, relative to its copy, of the content sizes of the identity items (spec/20 R441). -/
def itemSize (off : Nat) : Nat := if off = 0x50 then 40 else 8

/-- A copy of an identity item: content, WSEQ, whether its CRC holds. -/
def State.itemCopy (s : State) (off copy : Nat) : List Byte × Nat × Bool :=
  let n := itemSize off
  let b := s.nvsBytes (off + 0x200 * copy) (n + 8)
  (b.take n, leAt b n 4, decide (leAt b (n + 4) 4 = crc32c (b.take (n + 4))))

/-- The content of an identity item in force; none where both copies are invalid (spec/20 R441). -/
def State.item (s : State) (off : Nat) : Option (List Byte) :=
  let (ca, wa, va) := s.itemCopy off 0
  let (cb, wb, vb) := s.itemCopy off 1
  if va && vb then some (if later wb wa then cb else ca)
  else if va then some ca else if vb then some cb else none

/-- The number in the first 4 bytes of an identity item; 0 where it is absent. -/
def State.itemNum (s : State) (off : Nat) : Nat := ((s.item off).map fun c => leAt c 0 4).getD 0

/-- Where an identity item is written and what: to the copy with the lower WSEQ, or to the invalid copy (spec/20 R441). -/
def State.itemWrite (s : State) (off : Nat) (content : List Byte) : Nat × List Byte :=
  let (_, wa, va) := s.itemCopy off 0
  let (_, wb, vb) := s.itemCopy off 1
  let toB := va && (!vb || later wa wb)
  let w := (if toB then wa else if vb then wb else if va then wa else 0) + 1
  let body := bytesAt content 0 (itemSize off) ++ leBytes 4 w
  (off + if toB then 0x200 else 0, body ++ leBytes 4 (crc32c body))

/-- The progress slot a record of two copies is written to: the invalid copy, or the one with the lower SEQ
(spec/20 R446). -/
def State.progTarget (s : State) (slot copies : Nat) : Nat :=
  if copies < 2 then slot
  else
    let a := s.nvsBytes (progAddr slot) 64
    let b := s.nvsBytes (progAddr (slot + 1)) 64
    if !recordValid a then slot
    else if !recordValid b then slot + 1
    else if later (leAt a 4 4) (leAt b 4 4) then slot + 1 else slot

/-- The class in which the controller serves a write (spec/20 R449). -/
def NvsOp.cls : NvsOp → Nat
  | .log type .. => if type = 1 then 4 else 1
  | .identity .. => 2
  | .retire .. => 2
  | .progress .. => 3
  | .delivery .. => 3
  | .warm .. => 5
  | .snapshot .. => 6

/-- The write that waits and is served next, and the rest: the lowest class, in the order of issue (spec/20 R449). -/
def nextWrite : List NvsOp → Option (NvsOp × List NvsOp)
  | [] => none
  | op :: t =>
    match nextWrite t with
    | some (o, r) => if o.cls < op.cls then some (o, op :: r) else some (op, t)
    | none => some (op, [])

/-- Where an NVS write goes, and its bytes in the order in which they are written (spec/20 R439 to R446). -/
def State.nvsPlan (s : State) (op : NvsOp) : Nat × List Byte :=
  match op with
  | .log type source code cycle payload =>
    (0x40000 + 64 * s.spool.logNext, recordBytes type source code s.spool.logSeq cycle s.spool.timeMs payload)
  | .progress slot copies source cycle payload =>
    let t := s.progTarget slot copies
    (progAddr t, recordBytes 2 source t s.spool.progSeq cycle s.spool.timeMs payload)
  | .identity off content => s.itemWrite off content
  | .delivery n payload =>
    let b := bytesAt payload 0 14 ++ [0]
    (0x1400 + 16 * n, b ++ leBytes 1 (crc8Bytes b))
  | .retire n cell => (0x400 + 4 * n, leBytes 4 (cell % 2 ^ 18 + 2 * 2 ^ 30))
  | .warm a bs => (a, bs)
  | .snapshot a bs => (a, bs)

/-- The effect of one NVS write (spec/20 R439 to R446). -/
def State.applyNvs (s : State) (op : NvsOp) : State :=
  let s := s.sat F.NVS_WR_CNT_COUNT 1
  let s1 := s.nvsWrite (s.nvsPlan op).1 (s.nvsPlan op).2
  match op with
  | .log _ source code _ _ =>
    let next := (s.spool.logNext + 1) % 4096
    let old := recordValid (s.nvsBytes (0x40000 + 64 * s.spool.logNext) 64)
    let s2 := { s1 with
      spool.logNext := next
      spool.logSeq := (s.spool.logSeq + 1) % 2 ^ 32
      spool.logCount := min 4096 (s.spool.logCount + b2n (!old)) }
    let s3 := s2.when (decide (next = 0)) fun s => s.irq 0x50600000 1
    s3.when (s.boltUp && s.seamUp) fun s =>
      (s.sets [(F.FLT_LAST_CODE, code), (F.FLT_LAST_SOURCE, source)]).irq 0x40F00000 0
  | .progress .. => { s1 with spool.progSeq := (s.spool.progSeq + 1) % 2 ^ 32 }
  | _ => s1

/-- The snapshot header and records of spec/20 R438. -/
def snapshotBytes (seq cycle : Nat) (cs : List (Nat × Nat)) : List Byte :=
  let recs := cs.flatMap fun c => leBytes 2 c.1 ++ leBytes 6 c.2
  let h := [0x4C, 0x4E, 0x54, 0x4E] ++ leBytes 4 seq ++ leBytes 4 cycle ++ leBytes 2 cs.length ++ List.replicate 14 0
  h ++ leBytes 4 (crc32c (h ++ recs)) ++ recs

/-- The OP 0x04 progress payload (spec/20 R446). -/
def snapshotProgress (step seq cycle reason : Nat) : List Byte :=
  [0x04] ++ leBytes 1 step ++ [2, 0] ++ leBytes 4 seq ++ leBytes 4 cycle ++ leBytes 2 reason ++ [0, 0]

/-- The IDs an NVS snapshot names (CNT_NVS_IDk). -/
def State.snapshotIds (s : State) (n : Nat) : List Nat :=
  (List.range n).map fun i => if i % 2 = 0 then s.get (F.CNT_NVS_ID_ID0 (i / 2)) else s.get (F.CNT_NVS_ID_ID1 (i / 2))

/-- The NVS snapshot issued, behind the record of its start (spec/20 R438, R446, R447). -/
def State.writeSnapshot (s : State) : State :=
  let ids := s.snapshotIds (min 250 (s.get F.CNT_NVS_CTRL_COUNT))
  let seq := s.get F.CNT_DUMP_SEQ_SEQ
  (s.boltProgress 10 2 0x0F (snapshotProgress 1 seq s.cycle 0)).boltNvs
    (.snapshot 0x7800 (snapshotBytes seq s.cycle (ids.map fun i => (i, s.counter i))))

/-- Some counter that the snapshot names does not exist. -/
def State.snapshotIdsBad (s : State) : Bool := (s.snapshotIds (min 250 (s.get F.CNT_NVS_CTRL_COUNT))).any fun i => 3799 < i

/-- An NVS snapshot has been issued and not yet written. -/
def State.snapshotWaits (s : State) : Bool :=
  s.spool.nvsQueue.any fun op => match op with
    | .snapshot .. => true
    | _ => false

/-- CNT_NVS_CTRL.GO (spec/20 R438): refused while the seam is down and for an ID above 3,799; GO reads 1 until the snapshot is
written (spec/00 R6), and a GO during that time adds none. -/
def State.takeSnapshot (s : State) : State :=
  let refuse (s : State) (code det : Nat) : State :=
    s.sets [(F.CNT_NVS_CTRL_GO, 0), (F.CNT_REFUSE_REASON, 0x0F00 + code), (F.CNT_REFUSE_DETAIL, det)]
  if s.snapshotWaits then s
  else if !s.seamUp then refuse s 0x05 0x11
  else if s.snapshotIdsBad then refuse s 0x13 0xFFFF
  else s.writeSnapshot

/-- What follows the end of an NVS write: a snapshot's end clears GO, raises NVS_DONE and is recorded (spec/20 R438, R446, R447). -/
def State.nvsServed (s : State) (op : NvsOp) : State :=
  match op with
  | .snapshot _ bs =>
    if s.boltUp then
      ((s.set F.CNT_NVS_CTRL_GO 0).irq 0x40E00000 4).boltProgress 10 2 0x0F (snapshotProgress 2 (leAt bs 4 4) (leAt bs 8 4) 0)
    else s
  | _ => s

/-- The write in progress ends, and the controller takes up the one that the order of service names (spec/20 R449): the head of the
list is the write in progress. -/
def State.nvsStep (s : State) : State :=
  match s.spool.nvsQueue with
  | [] => s
  | op :: rest =>
    let next := match nextWrite rest with
      | some (o, r) => o :: r
      | none => []
    (({ s with spool.nvsQueue := next }).applyNvs op).nvsServed op

/-- A snapshot of all counters at a cycle boundary, or a skip (spec/20 R435, R437). -/
def State.dumpSnapshot (s : State) (forced : Bool) : State :=
  let skip (s : State) (f : Fld) : State := (s.sat f 1).irq 0x40E00000 2
  let slots := s.get F.CNT_DUMP_RING_SLOTS
  let wr := s.get F.CNT_DUMP_WR_SLOT
  let s := s.when forced fun s => s.set F.CNT_DUMP_NOW_GO 0
  if s.bolt.snapshot.isSome then skip s F.CNT_DUMP_SKIP_BUSY
  else if (wr + 1) % (max 1 slots) = s.get F.CNT_DUMP_RD_SLOT then skip s F.CNT_DUMP_SKIP_FULL
  else if s.on F.CNT_CTRL_DEST && !s.bolt.pcieUp then skip s F.CNT_DUMP_SKIP_FULL
  else
    let qs := (List.range (s.get F.CNT_DUMP_RING_QCOUNT)).map fun q =>
      let k := s.get (F.CNT_QSEL_ENTRY q) * 4 + s.get (F.CNT_QSEL_QUEUE q)
      (k, getKey ⟨2 ^ 18 - 1, 0, 2 ^ 24 - 1, 0, [], []⟩ k s.bolt.queueStats)
    { (s.inc F.CNT_DUMP_SEQ_SEQ 1).set F.CNT_STATUS_DUMPING 1 with
      bolt.snapshot := some ⟨s.cycle, (s.rd R.CLK_RT_NS_LO).toNat + 2 ^ 32 * (s.rd R.CLK_RT_NS_HI).toNat,
        s.get F.CNT_WRAP_GROUPS, forced, s.bolt.counters, s.bolt.wrapped, qs⟩
      bolt.wrapped := [] }

/-- A snapshot is due at this cycle: (k − PHASE) mod N = 0 (spec/20 R435). -/
def State.dumpDue (s : State) : Bool :=
  let n := s.get F.CNT_DUMP_PERIOD_N
  n != 0 && (s.cycle + 2 ^ 32 - s.get F.CNT_DUMP_PHASE_PHASE) % 2 ^ 32 % n = 0

/-- The bytes of a dump (spec/20 R436). -/
def dumpBytes (sn : Snapshot) (seq node : Nat) : List Byte :=
  let ctr (i : Nat) : List Byte :=
    leBytes 8 (getKey 0 i sn.counters + if sn.wrapped.contains i then 2 ^ 48 else 0)
  let q (x : Nat × QueueStat) : List Byte :=
    leBytes 2 (x.1 / 4) ++ leBytes 1 (x.1 % 4) ++ [0] ++ leBytes 4 x.2.depthMin ++ leBytes 4 x.2.depthMax ++
    leBytes 4 x.2.delayMin ++ leBytes 4 x.2.delayMax ++
    ((List.range 16).flatMap fun b => leBytes 4 (x.2.depthBins.getD b 0)) ++
    ((List.range 16).flatMap fun b => leBytes 4 (x.2.delayBins.getD b 0))
  let h := [0x4C, 0x4E, 0x54, 0x43, 1] ++ leBytes 1 sn.queues.length ++ leBytes 2 3800 ++ leBytes 4 seq ++
    leBytes 4 sn.cycle ++ leBytes 8 sn.ns ++ leBytes 1 sn.wrap ++ leBytes 1 (b2n sn.forced) ++ leBytes 1 node ++
    List.replicate 33 0
  let body := (List.range 3800).flatMap ctr ++ sn.queues.flatMap q
  h ++ leBytes 4 (crc32c (h ++ body)) ++ body

/-- CNT_CMD.CLEAR (spec/20 R432). -/
def execCounterClear (who : Requester) (s : State) : Step :=
  .next (s.command who R.CNT_CMD 1 fun s => s.setCounter (s.get F.CNT_SEL_ID) 0)

/-- CNT_CMD.LOAD (spec/20 R432). -/
def execCounterLoad (who : Requester) (s : State) : Step :=
  .next (s.command who R.CNT_CMD 2 fun s => s.setCounter (s.get F.CNT_SEL_ID)
    (s.get F.CNT_LOAD_LO_VALUE + 2 ^ 32 * s.get F.CNT_LOAD_HI_VALUE))

/-- Every counter of a group set to 0. -/
def State.clearGroup (s : State) (g : Nat) : State :=
  { s with bolt.counters := s.bolt.counters.filter fun c => counterGroup c.1 != g }

/-- CNT_CMD.CLEAR_GROUP (spec/20 R432). -/
def execClearGroup (who : Requester) (group : Fin 8) (s : State) : Step :=
  .next (s.command who R.CNT_CMD (BitVec.ofNat 32 (4 + 8 * group.val)) fun s => s.clearGroup group)

/-- What a value written to CNT_CMD does. -/
def State.cntCmd (s : State) (v : Word) : State :=
  let id := s.get F.CNT_SEL_ID
  let s := s.when (getBits v 0 1 = 1) fun s => s.setCounter id 0
  let s := s.when (getBits v 1 1 = 1) fun s => s.setCounter id
    (s.get F.CNT_LOAD_LO_VALUE + 2 ^ 32 * s.get F.CNT_LOAD_HI_VALUE)
  s.when (getBits v 2 1 = 1) fun s => s.clearGroup (getBits v 3 3)

/-- A counter wraps (spec/20 R431): only a counter at 2^48 − 1 can. -/
def execCounterWrap (id : Fin 3800) (s : State) : Step :=
  .next (if s.boltUp && s.counter id = 2 ^ 48 - 1 then s.count id 1 else s)

/-- A hart counter reaches a multiple of PERIOD (spec/20 R434): the address is latched, local interrupt 16 is set. -/
def execSamplePeriod (h : Fin 4) (pc : BitVec 64) (s : State) : Step :=
  let p := s.get (F.CNT_SAMP_PERIOD_PERIOD h)
  let id := 3776 + 6 * h.val + s.get (F.CNT_SAMP_CFG_COUNTER h)
  .next (if s.pathLive (.hart h) && s.on (F.CNT_SAMP_CFG_EN h) && p != 0 && s.get (F.CNT_SAMP_CFG_COUNTER h) ≤ 5 then
      let s1 := s.count id (p - s.counter id % p)
      let s2 := s1.when (bit s.bolt.sampUnread h) fun s => s.sat F.CNT_SAMP_LOST_COUNT 1
      { s2.sets [(F.CNT_SAMP_PC_LO_PC h, slice pc.toNat 0 32), (F.CNT_SAMP_PC_HI_PC h, slice pc.toNat 32 32)] with
        bolt.sampUnread := setBit s.bolt.sampUnread h
        bolt.mip16 := setBit s.bolt.mip16 h }
    else s)

/-- CNT_DUMP_NOW.GO: the snapshot is added at the next cycle boundary, so GO reads 1 until then (spec/20 R435). -/
def execDumpNow (who : Requester) (s : State) : Step := .next (s.command who R.CNT_DUMP_NOW 1 fun s => s)

/-- The dump in progress is written, header last; WR advances and DUMP_DONE is raised (spec/20 R437). -/
def State.finishDump (s : State) : State :=
  match s.bolt.snapshot with
  | none => s
  | some sn =>
    let wr := s.get F.CNT_DUMP_WR_SLOT
    let base := s.get F.CNT_DUMP_BASE_LO_ADDR + 2 ^ 32 * s.get F.CNT_DUMP_BASE_HI_ADDR + 36864 * wr
    let bs := dumpBytes sn (s.get F.CNT_DUMP_SEQ_SEQ) (s.get F.RNG_ADDR_ADDR)
    let s1 := if s.on F.CNT_CTRL_DEST then s.emit (.hostWrite base bs) else s.sramStore (base - 0x10000000) bs
    let s2 := s1.sets [(F.CNT_DUMP_WR_SLOT, (wr + 1) % max 1 (s.get F.CNT_DUMP_RING_SLOTS)), (F.CNT_STATUS_DUMPING, 0)]
    { s2 with bolt.snapshot := none }.irq 0x40E00000 1

/-- DUMP_DONE. -/
def execDumpDone (s : State) : Step := .next (if s.boltUp then s.finishDump else s)

/-- CNT_NVS_CTRL.GO (spec/20 R438). -/
def execNvsSnapshot (who : Requester) (count : BitVec 8) (s : State) : Step :=
  .next (s.command who R.CNT_NVS_CTRL (BitVec.ofNat 32 (1 + 2 * count.toNat)) State.takeSnapshot)

/-- FLT_SW_CMD with GO: a firmware fault record, or a refusal of the CODE (spec/20 R445). -/
def State.swRecord (s : State) (code : Nat) : State :=
  if code < 0x10F0 ∨ 0x10FF < code then s.set F.FLT_SW_STATUS_REASON 0x1010
  else
    let payload := (List.range 10).flatMap fun i => leBytes 4 (s.rd (R.FLT_SW i)).toNat
    (s.boltNvs (.log 1 0x10 code s.recCycle payload)).set F.FLT_SW_STATUS_REASON 0

/-- FLT_SW_RECORD. -/
def execFltSwRecord (who : Requester) (code : BitVec 16) (s : State) : Step :=
  .next (s.command who R.FLT_SW_CMD (BitVec.ofNat 32 (2 ^ 16 + code.toNat)) fun s => s.swRecord code.toNat)

/-- NVS_WRITE_DONE (spec/20 R440, R449): the controller ends the write in progress. -/
def execNvsWriteDone (s : State) : Step := .next s.nvsStep

/-- A progress record in force reports an operation started and not ended: OP 0x01 with STEP 1 to 7 and no REASON, OP
0x02 to 0x04 with STEP 1 (spec/20 R448, R453). -/
def progOpen (bs : List Byte) : Bool :=
  let op := leAt bs 16 1
  recordValid bs && ((op = 1 && leAt bs 17 1 < 8 && leAt bs 32 2 = 0) || (op = 2 && leAt bs 18 1 = 1) ||
    (op = 3 && leAt bs 19 1 = 1) || (op = 4 && leAt bs 17 1 = 1))

/-- The records in force of all keys (spec/20 R446). -/
def State.progInForce (s : State) : List (List Byte) :=
  let two (a : Nat) : List Byte :=
    let x := s.nvsBytes (progAddr a) 64
    let y := s.nvsBytes (progAddr (a + 1)) 64
    if recordValid x && (!recordValid y || later (leAt x 4 4) (leAt y 4 4)) then x else y
  ([0, 2, 4, 6, 8, 10] ++ (List.range 32).map fun l => 12 + 2 * l).map two ++
    (List.range 65).map fun i => s.nvsBytes (progAddr (76 + i)) 64

/-- NVS_CMD (spec/20 R453): WIPE_LOG clears the fault log, WIPE_PROG the progress slots and the delivery table; both are
refused in DEPLOYED (lifecycle 2), WIPE_PROG also while an operation is open. -/
def State.nvsCmd (s : State) (log prog : Bool) (lifecycle : Nat) : State :=
  if lifecycle = 2 then s.set F.NVS_CMD_STATUS_REASON 0x2610
  else if prog && s.progInForce.any progOpen then s.set F.NVS_CMD_STATUS_REASON 0x2611
  else
    let s1 := s.when log fun s => { s with
      spool.nvs := s.spool.nvs.filter fun c => decide (c.1 < 0x40000)
      spool.logNext := 0
      spool.logCount := 0 }
    let s2 := s1.when prog fun s => { s with
      spool.nvs := s.spool.nvs.filter fun c => decide (c.1 < 0x1400) || decide (0x7800 ≤ c.1) }
    s2.set F.NVS_CMD_STATUS_REASON 0

/-- WIPE_LOG. -/
def execWipeLog (who : Requester) (s : State) : Step :=
  .next (s.command who R.NVS_CMD 1 fun s => s.nvsCmd true false s.fuses.lifecycle)

/-- WIPE_PROG. -/
def execWipeProg (who : Requester) (s : State) : Step :=
  .next (s.command who R.NVS_CMD 2 fun s => s.nvsCmd false true s.fuses.lifecycle)

end Sys2Proof.Machine
end

