-- ==== Sys2Proof/Machine/Time.lean ====
section
/-! DEFINITION. Clocks and ring time (spec/04): the timing exchange, the follower's synchronisation, PPS, the reference
monitors. -/

namespace Sys2Proof.Machine

/-- Base address of CLK. -/
abbrev bClk : Nat := 0x40200000

/-- SYNC codes of CLK_STATUS. -/
abbrev syFree : Nat := 0
abbrev syPpsAcquire : Nat := 1
abbrev syPpsLocked : Nat := 2
abbrev syAcquire : Nat := 3
abbrev syLocked : Nat := 4
abbrev syHoldover : Nat := 5

/-- Apply an operation only while the bolt-die units run. -/
def State.ifBolt (s : State) (f : State → State) : State := if s.boltUp then f s else s

/-- Apply an operation only while VDD_AON is up. -/
def State.ifAon (s : State) (f : State → State) : State := if s.spool.aon then f s else s

/-- A port's own state; a port unit's for P0 to P7. -/
def State.port (s : State) (p : Nat) : PortSt := s.bolt.ports.getD p PortSt.reset

/-- A port's own state stored. -/
def State.setPort (s : State) (p : Nat) (x : PortSt) : State := { s with bolt.ports := setAt s.bolt.ports p x }

/-- A CTRL message put among those waiting for a slot (spec/05 R106). -/
def State.sendCtrl (s : State) (p kind msg : Nat) : State :=
  s.setPort p { s.port p with ctrlQ := (s.port p).ctrlQ ++ [(kind, msg)] }

/-- Ring time in 1/256 ns: CLK_RT_NS and CLK_RT_SUB (spec/04 R81). -/
def State.ringTime (s : State) : Nat :=
  (s.get F.CLK_RT_NS_LO_NS + 2 ^ 32 * s.get F.CLK_RT_NS_HI_NS) * 256 + s.get F.CLK_RT_SUB_SUB

/-- Ring time set, with the cycle number it lies in (spec/04 R81, R82). -/
def State.setRingTime (s : State) (t : Nat) : State :=
  s.sets [(F.CLK_RT_NS_LO_NS, slice (t / 256) 0 32), (F.CLK_RT_NS_HI_NS, slice (t / 256) 32 32),
    (F.CLK_RT_SUB_SUB, t % 256), (F.CLK_CYCLE_CYCLE, t / 256 / 125000 % 2 ^ 32)]

/-- Ring time to the exact fraction that the root ticks add up: units of 2^-40 × 0.04 ns (spec/04 R81). -/
abbrev subUnit : Nat := 25 * 2 ^ 32
def State.fullTime (s : State) : Nat := s.ringTime * subUnit + s.bolt.time.frac
def State.setFull (s : State) (t : Nat) : State := { s.setRingTime (t / subUnit) with bolt.time.frac := t % subUnit }

/-- What one root tick adds: 0.16 ns × (1 + RATE × 2^-40) (spec/04 R81). -/
def State.tickGain (s : State) : Nat := (4 * ((2 ^ 40 : Int) + toSigned 32 (s.get F.CLK_RATE_RATE))).toNat

/-- Root ticks until ring time reaches `t` (1/256 ns), and the end of the cycle: the next multiple of 125,000 ns (spec/04 R82). -/
def State.ticksTo (s : State) (t : Nat) : Nat := (t * subUnit - s.fullTime + s.tickGain - 1) / s.tickGain
def State.cycleEnd (s : State) : Nat := (s.ringTime / 256 / 125000 + 1) * 125000 * 256

/-- Root ticks pass: ring time and the scheduler's present instant move with them (spec/04 R81; assumption log 10). -/
def State.addTicks (s : State) (n : Nat) : State :=
  let s1 := s.setFull (s.fullTime + n * s.tickGain)
  let t := s1.bolt.time.ticks + n
  { s1 with bolt.time.ticks := t, bolt.sch.now := max s1.bolt.sch.now (min 124999999 ((t - s1.bolt.time.cycleTicks) * 160)) }

/-- A command shows that ring time has reached `t` within the cycle. -/
def State.timeReaches (s : State) (t : Nat) : State :=
  if s.isOn .clk && s.ringTime < t && s.ticksTo t < s.ticksTo s.cycleEnd then s.addTicks (s.ticksTo t) else s

/-- A command shows that `ps` picoseconds of the cycle have passed; a root tick has 160. -/
def State.showInstant (s : State) (ps : Nat) : State :=
  let n := s.bolt.time.cycleTicks + ps / 160 - s.bolt.time.ticks
  let s1 := if s.isOn .clk && n < s.ticksTo s.cycleEnd then s.addTicks n else s
  { s1 with bolt.sch.now := max s1.bolt.sch.now ps }

/-- Ring time is stepped to `t`: the present instant in the cycle follows. -/
def State.stepTo (s : State) (t : Nat) : State :=
  let ps := t % 32000000 * 1000 / 256
  { s.setFull (t * subUnit) with bolt.sch.now := ps, bolt.time.cycleTicks := s.bolt.time.ticks - ps / 160 }

/-- The node is ring master. -/
def State.isMaster (s : State) : Bool := decide (s.get F.RNG_STATUS_ROLE = 2)

/-- A trunk's timing exchange. -/
def State.trunkTime (s : State) (p : Nat) : TrunkTime := s.bolt.time.trunks.getD p TrunkTime.reset

/-- A trunk's timing exchange stored. -/
def State.setTrunkTime (s : State) (p : Nat) (t : TrunkTime) : State :=
  { s with bolt.time.trunks := setAt s.bolt.time.trunks p t }

/-- The mean of a list of delays; 0 for none.  How the mean, the halved delay and ASYM / 2 are rounded to 1/256 ns is a DESIGN
CHOICE: Lean's integer division, the spec gives no rounding (assumption log 78). -/
def meanDelay (ds : List Int) : Int := if ds.length = 0 then 0 else ds.sum / ds.length

/-- A trunk offers a source (spec/04 R85): HOPS below 255, the current role epoch, SYNC LOCKED or a master state; a
CAUSE 3 trunk offers none (spec/10 R245). -/
def State.offers (s : State) (p : Nat) : Bool :=
  let t := s.trunkTime p
  t.live && !((s.bolt.rng.own.getD p none).any fun e => e.cause = 3) && decide (t.hops < 255) && decide (t.epoch = s.get F.RNG_EPOCH_EPOCH) &&
    (decide (t.sync = syLocked) || (decide (t.sync ≤ syPpsLocked) && decide (t.hops = 0)))

/-- The source a follower takes: the lowest HOPS, the east trunk on a tie (spec/04 R85). -/
def State.bestSource (s : State) : Option Nat :=
  match s.offers 0, s.offers 1 with
  | true, true => some (if (s.trunkTime 1).hops < (s.trunkTime 0).hops then 1 else 0)
  | true, false => some 0
  | false, true => some 1
  | false, false => none

/-- SYNC set, raising SYNC_CHANGE. -/
def State.setSync (s : State) (v : Nat) : State := (s.set F.CLK_STATUS_SYNC v).irq bClk 2

/-- Every count of ACQUIRE restarted (spec/04 R86). -/
def State.restartAcquire (s : State) : State :=
  { s with bolt.time := { s.bolt.time with run := [], integral := 0, stepped := false, inside := 0, outside := 0 } }

/-- The source followed, with CLK_STATUS.SOURCE and CLK_HOPS; 255 hops without one (spec/04 R85).  A holdover ends with it, and
HOLDOVER_LONG (DEDUCED, assumption log 64). -/
def State.follow (s : State) (src : Option Nat) : State :=
  let s := { s with bolt.time.source := src }
  match src with
  | none => s.set F.CLK_HOPS_HOPS (if s.isMaster then 0 else 255)
  | some p => s.sets [(F.CLK_STATUS_SOURCE, p), (F.CLK_STATUS_HOLDOVER_LONG, 0), (F.CLK_HOPS_HOPS, min 255 ((s.trunkTime p).hops + 1)),
      (F.CLK_HOPS_MASTER, (s.trunkTime p).master)]

/-- The follower looks at its sources again (spec/04 R85, R86): a source is taken, changed or lost. -/
def State.reviewSource (s : State) : State :=
  if !s.isOn .clk || s.isMaster then s
  else
    let b := s.bestSource
    let sync := s.get F.CLK_STATUS_SYNC
    let old := s.bolt.time.source
    if b = old then s.follow b
    else
      let s1 := s.follow b
      match b with
      | some _ =>
        if sync ≤ syPpsLocked then s1.restartAcquire.set F.CLK_STATUS_SYNC syAcquire
        else if sync = syAcquire then s1.restartAcquire
        else if sync = syLocked then s1.irq bClk 2
        else s1
      | none =>
        if sync = syAcquire then s1.restartAcquire
        else if sync = syLocked then { s1 with bolt.time.holdover := 0 }.setSync syHoldover
        else s1

/-- The asymmetry of a trunk, signed, in 1/256 ns. -/
def State.asym (s : State) (p : Nat) : Int :=
  toSigned 16 (if p = 0 then s.get F.CLK_ASYM_E_ASYM else s.get F.CLK_ASYM_W_ASYM)

/-- The allotment progress record (spec/09 R232): KIND 0 sew, 1 alarm sew, 2 unpick, 3 alarm unpick; STEP; PREV_PLAN is
ALT_SEWN_PLAN before the change. -/
def State.altRecord (s : State) (kind step plan target prev : Nat) : State :=
  s.boltProgress (2 + 2 * kind) 2 0x08 (leBytes 1 2 ++ leBytes 1 kind ++ leBytes 1 step ++ leBytes 1 0 ++ leBytes 4 plan ++
    leBytes 4 target ++ leBytes 4 prev)

/-- ALT_PENDING and the PENDING bits follow the pending changes; the one with the earliest target is shown
(DESIGN CHOICE, assumption log 13). -/
def State.showPending (s : State) : State :=
  let a := s.bolt.alt
  let l : List (Nat × Change) := (a.sew.map (1, ·)).toList ++ (a.alarm.map (2, ·)).toList ++
    (a.unpick.map (3, ·)).toList ++ (a.alarmUnpick.map (4, ·)).toList
  let s1 := s.sets [(F.ALT_BASTE_STATUS_PENDING, b2n a.sew.isSome), (F.ALT_ALARM_STATUS_PENDING, b2n a.alarm.isSome)]
  match l with
  | [] => s1.set F.ALT_PENDING_KIND 0
  | x :: t =>
    let y := t.foldl (fun b c => if later b.2.target c.2.target then c else b) x
    s1.sets [(F.ALT_PENDING_KIND, y.1), (F.ALT_PENDING_TARGET_CYCLE, y.2.target), (F.ALT_PENDING_PLAN_PLAN, y.2.plan)]

/-- Every pending change is cancelled, as if unpicked: a REPORT with RESULT 3 is owed to its origin, its progress record
shows STEP 4 (spec/10 R254). -/
def State.cancelChanges (s : State) : State :=
  let a := s.bolt.alt
  let l : List (Nat × Change) := (a.sew.map (0, ·)).toList ++ (a.alarm.map (1, ·)).toList ++
    (a.unpick.map (2, ·)).toList ++ (a.alarmUnpick.map (3, ·)).toList
  if l.isEmpty then s
  else
    let s1 := s.each l fun x s => s.altRecord x.1 4 x.2.plan x.2.target (s.get F.ALT_SEWN_PLAN_PLAN)
    let s2 : State := { s1 with bolt.alt := { a with
      sew := none, alarm := none, unpick := none, alarmUnpick := none, unpicks := [], again := none
      owed := a.owed ++ l.map fun (x : Nat × Change) => (x.2.origin, x.2.plan, 3) } }
    ((s2.sat F.ALT_SEW_CNT2_CANCELLED l.length).irq 0x40700000 6).showPending

/-- The ring engine treats the node as joining (spec/10 R253): in ADDRESSING, WAIT_HEAL or MEMBER it goes back to
ACQUIRING, both trunks are CAUSE 4 edges, pending changes are cancelled (spec/10 R254). -/
def State.rejoin (s : State) : State :=
  let s := s.cancelChanges
  if s.isOn .rng && 2 ≤ s.get F.RNG_STATUS_JOIN then
    let e (side : Nat) : Option Edge := some ⟨s.get F.RNG_ADDR_ADDR, side, 4, s.cycle,
      if side = 0 then s.get F.RNG_NEIGH_EAST else s.get F.RNG_NEIGH_WEST, 0⟩
    ({ s with bolt.rng.own := [e 0, e 1] }.sets [(F.RNG_STATUS_JOIN, 1), (F.RNG_STATUS_EDGE_E, 1),
      (F.RNG_STATUS_EDGE_W, 1)]).irq 0x40800000 2
  else s

/-- Ring time has jumped (spec/11 R281): every playout slot is cleared, and each master port's frame in progress is cut short at the
next cycle boundary. -/
def State.audJump (s : State) : State := { s with bolt.aud := { s.bolt.aud with trios := [], cut := true } }

/-- What follows a step of ring time (spec/04 R87): CYCLE_JUMP is set and the ring engine treats the node as joining. -/
def State.jumped (s : State) : State := ((s.irq bClk 8).rejoin).audJump

/-- The frequency ratio that a trunk's last messages measure, as a trim in 2^-40: the sender's ring time against own root ticks of
0.16 ns, over at most 64 cycles; `d` before two messages have come (spec/04 R86; DEDUCED, assumption log 7). -/
def TrunkTime.ratio (x : TrunkTime) (d : Int) : Int :=
  match x.meas.head?, x.meas.getLast? with
  | some (t, n), some (t0, n0) =>
    if n0 < n then ((t : Int) - t0) * (25 * 2 ^ 40) / (1024 * ((n : Int) - n0)) - 2 ^ 40 else d
  | _, _ => d

/-- The trim in force, and a trim set within its 32 bits. -/
def State.rate40 (s : State) : Int := toSigned 32 (s.get F.CLK_RATE_RATE)
def State.setRate40 (s : State) (r : Int) : State := s.set F.CLK_RATE_RATE (satSigned 32 r)

/-- The nearer limit of ±m. -/
def within (m i : Int) : Int := if i < -m then -m else if m < i then m else i

/-- A step of ring time in ACQUIRE (spec/04 R86): RATE is set from the measurement. -/
def State.stepTime (s : State) (p t : Nat) : State :=
  let s1 := (s.stepTo t).setRate40 ((s.trunkTime p).ratio s.rate40)
  { s1 with bolt.time := { s1.bolt.time with stepped := true, integral := 0, inside := 0, outside := 0 } }.jumped

/-- The last 16 consecutive delays lie within 2 ns of their mean (spec/04 R86). -/
def runGood (run : List Int) : Bool := decide (run.length = 16) && run.all fun d => decide ((d - meanDelay run).natAbs ≤ 512)

/-- The counts of the synchronisation state after an offset of `off` (1/256 ns) from the source (spec/04 R86). -/
def State.judgeOffset (s : State) (p : Nat) (off : Int) (kept : Option Int) (t3delay : Nat) : State :=
  let t := s.bolt.time
  let sync := s.get F.CLK_STATUS_SYNC
  let big := decide (off.natAbs > 256000)
  let small := decide (off.natAbs ≤ 512)
  let s := { s with bolt.time := { t with
    outside := if big then t.outside + 1 else 0
    inside := if small then t.inside + 1 else 0
    run := match kept with
      | some d => (d :: t.run).take 16
      | none => [] } }
  let t := s.bolt.time
  if sync = syAcquire then
    if !t.stepped then
      if runGood t.run then s.stepTime p t3delay else s
    else if 64 ≤ t.inside then { s with bolt.time.outside := 0 }.setSync syLocked
    else if 8 ≤ t.outside then s.restartAcquire
    else s
  else if sync = syHoldover && !big then s.setSync syLocked
  else s

/-- A TIME message taken in (spec/04 R84 to R86).  ECHO_T1 0 is taken as no echo, from which no delay or offset follows: a DESIGN
CHOICE, the spec does not say what a first message carries (assumption log 77). -/
def State.timeRx (s0 : State) (p : Nat) (m : TimeMsg) (t4 : Nat) : State :=
  let s := s0.timeReaches t4
  let old := s.trunkTime p
  let t1 : Int := m.echoT1.toNat
  let t2 : Int := m.echoT2.toNat
  let t3 : Int := m.tTx.toNat
  let hasEcho := decide (m.echoT1.toNat ≠ 0)
  let d : Int := ((t2 - t1) + ((t4 : Int) - t3)) / 2
  let mean := meanDelay old.delays
  let far := decide (old.delays.length ≠ 0) && decide ((d - mean).natAbs > 1280)
  let keep := hasEcho && !far
  let ds := if keep then (d :: old.delays).take 64 else old.delays
  let mean' := meanDelay ds
  let s1 := s.setTrunkTime p { old with
    lastTx := m.tTx.toNat, lastAt := t4, delays := ds, since := 0, live := true
    hops := m.hops.toNat, master := m.master.toNat, epoch := m.epoch.toNat, sync := m.sync.toNat
    meas := ((m.tTx.toNat, s.bolt.time.ticks) :: old.meas).take 65 }
  let s2 := s1.when (hasEcho && far) fun s => s.sat F.CLK_SLIP_CNT_DISCARD 1
  let s3 := s2.set (if p = 0 then F.CLK_DELAY_E_DELAY else F.CLK_DELAY_W_DELAY) (ofSigned 32 mean')
  let s4 := s3.reviewSource
  if s4.bolt.time.source = some p && hasEcho && s4.isOn .clk && !s4.isMaster then
    let off : Int := (t4 : Int) - t3 - (mean' + s4.asym p / 2)
    let s5 := s4.set F.CLK_OFFSET_OFFSET (satSigned 32 off)
    s5.judgeOffset p off (if keep then some d else none) (t3 + d + s5.asym p / 2).toNat
  else s4

/-- TIME_RX. -/
def execTimeRx (p : Fin 2) (m : TimeMsg) (t4 : BitVec 72) (s : State) : Step :=
  .next (s.ifBolt fun s => s.timeRx p m t4.toNat)

/-- TIME_SOURCE_LOST: after 4 cycles without a TIME message a trunk no longer offers a source (spec/04 R85). -/
def execTimeSourceLost (p : Fin 2) (s : State) : Step :=
  .next (s.ifBolt fun s =>
    if (s.trunkTime p).live && 4 ≤ (s.trunkTime p).since then
      (s.setTrunkTime p { s.trunkTime p with live := false }).reviewSource
    else s)

/-- TIME_FAULT: back to ACQUIRE after 8 consecutive cycles above 1 µs in LOCKED or HOLDOVER; the ring engine rejoins the
node (spec/04 R86; spec/10 R253). -/
def execTimeFault (s : State) : Step :=
  .next (s.ifBolt fun s =>
    let sync := s.get F.CLK_STATUS_SYNC
    if (sync = syLocked || sync = syHoldover) && 8 ≤ s.bolt.time.outside then
      ((s.restartAcquire.set F.CLK_STATUS_SYNC syAcquire).irq bClk 9).rejoin
    else s)

/-- HOLDOVER_LONG: 8,000 cycles in HOLDOVER (spec/04 R86). -/
def execHoldoverLong (s : State) : Step :=
  .next (s.ifBolt fun s =>
    if s.get F.CLK_STATUS_SYNC = syHoldover && 8000 ≤ s.bolt.time.holdover then s.set F.CLK_STATUS_HOLDOVER_LONG 1
    else s)

/-- A neighbour is joined on some trunk: its port is UP and the node is joined (JOIN 4), as R91 asks. -/
def State.joinedNeighbour (s : State) : Bool :=
  decide (s.get F.RNG_STATUS_JOIN = 4) && (decide (s.get (F.LANE_PORT_STATUS_BRING 0) = 9) ||
    decide (s.get (F.LANE_PORT_STATUS_BRING 1) = 9))

/-- The signed distance of a time from the PPS position within its second, in 1/256 ns (spec/04 R91). -/
def ppsError (t off : Nat) : Int :=
  let d := (t + 256000000000 - off % 1000000000 * 256) % 256000000000
  if d < 128000000000 then d else (d : Int) - 256000000000

/-- The frequency ratio that two PPS edges one second apart measure, as a trim in 2^-40, `n` root ticks of 0.16 ns between them. -/
def ppsMeasure (n : Nat) : Int := 25000000000 * 2 ^ 40 / (4 * (n : Int)) - 2 ^ 40

/-- The state of the PPS discipline after an edge that counts: `left` is the error that is still to be slewed out. -/
def State.ppsTake (s : State) (t good : Nat) (ratio left : Int) : State :=
  { s with bolt.time := { s.bolt.time with
    ppsLast := some t, ppsGood := good, ppsWait := t, ppsTicks := s.bolt.time.ticks, ppsRatio := ratio, ppsLeft := left } }

/-- A PPS edge used by the master (spec/04 R91).  The expected instant of an edge lies off its position by what is still being slewed
out (DEDUCED, assumption log 7). -/
def State.ppsEdge (s : State) (t : Nat) : State :=
  let e := ppsError t (s.get F.CLK_PPS_OFFSET_NS)
  let x := s.bolt.time
  let sync := s.get F.CLK_STATUS_SYNC
  let s0 := s.set F.CLK_PPS_ERR_ERR (satSigned 32 e)
  if sync = syPpsLocked && decide ((e + x.ppsLeft).natAbs > 256000) then
    { s0 with bolt.time := { x with ppsGlitches := x.ppsGlitches + 1 } }.irq bClk 4
  else
    let gap := match x.ppsLast with
      | some l => decide ((t : Int) - l - 256000000000 ≤ 25600000) && decide ((256000000000 : Int) - (t - l) ≤ 25600000)
      | none => false
    let good := if gap then x.ppsGood + 1 else 1
    let ratio := if gap && x.ppsTicks < x.ticks then ppsMeasure (x.ticks - x.ppsTicks) else x.ppsRatio
    let s1 := s0.ppsTake t good ratio (if sync = syPpsLocked then -e else 0)
    if sync = syFree then s1.setSync syPpsAcquire
    else if sync = syPpsAcquire && 4 ≤ good then
      let s2 := if s1.joinedNeighbour then { s1 with bolt.time.ppsLeft := -e }
        else { s1.stepTo ((t : Int) - e).toNat with bolt.time.ppsLast := some ((t : Int) - e).toNat, bolt.time.ppsWait := ((t : Int) - e).toNat }.jumped
      s2.setSync syPpsLocked
    else s1

/-- PPS_EDGE: only a master with PPS_EN uses the edge PPS_EDGE selects (spec/04 R91). -/
def execPpsEdge (t : BitVec 72) (falling : Bool) (s : State) : Step :=
  .next (s.ifBolt fun s =>
    if s.isOn .clk && s.isMaster && s.on F.CLK_CTRL_PPS_EN && s.on F.CLK_CTRL_PPS_EDGE = falling then
      (s.timeReaches t.toNat).ppsEdge t.toNat
    else s)

/-- PPS_LOST: no edge for 1.5 s; RATE is frozen and SYNC falls back to FREE.  An edge at the end of the wait counts as
arrived (spec/04 R91; spec/01 R21). -/
def execPpsLost (t : BitVec 72) (s : State) : Step :=
  .next (s.ifBolt fun s =>
    let sync := s.get F.CLK_STATUS_SYNC
    if (sync = syPpsAcquire || sync = syPpsLocked) && s.bolt.time.ppsWait + 384000000000 ≤ t.toNat then
      ({ s with bolt.time := { s.bolt.time with ppsLast := none, ppsGood := 0, ppsLeft := 0 } }.set F.CLK_STATUS_SYNC syFree).irq
        bClk 3
    else s)

/-- ROOT_PLL_LOCK: CLK reports lock and the other bolt-die units leave reset; hart 0 starts at 0 unless TEST_N is low
(spec/04 R79; spec/02 R26; spec/22 R464). -/
def execRootPllLock (s : State) : Step :=
  .next (if s.boltPowered && !s.spool.boltHeld && s.spool.refclk && !s.bolt.running then
      let s1 := s.set F.CLK_STATUS_PLL_LOCK 1
      let s2 := { s1 with bolt.running := true }
      if s2.bolt.testN then { s2 with bolt.ctl.hartsOn := 1 }.emit (.hartStart 0 0) else s2
    else s)

/-- PCIE_REF_CHECK: present within 100 MHz ± 300 ppm; a loss raises PCIE_REF_LOST (spec/04 R80, R95). -/
def State.pcieRef (s : State) (q ppm : Nat) : State :=
  let was := bit (s.get F.CLK_STATUS_PCIE_REF_OK) q
  if ppm ≤ 300 then s.setB F.CLK_STATUS_PCIE_REF_OK q
  else (s.clrB F.CLK_STATUS_PCIE_REF_OK q).when was fun s => s.irq bClk 7

/-- The check of CLK at enable (spec/04 R97); PPS_IN is FUNC 1 of ball AA10, index 940 (spec/23 R492). -/
def State.checkClk (s : State) : Option (Nat × Nat) :=
  let pps := s.bolt.pat.inForce.pins.any fun p => p.1 = 940 && p.2.1 = 1
  if s.get ⟨R.CLK_CTRL, 4, 28⟩ ≠ 0 ∨ s.get ⟨R.CLK_SERVO, 16, 16⟩ ≠ 0 then some (0x02, 0xFFFF)
  else if !s.on F.CLK_STATUS_PLL_LOCK || !s.on F.CLK_STATUS_REFCLK_OK then some (0x10, 0xFFFF)
  else if s.on F.CLK_CTRL_PPS_EN && !pps then some (0x11, 0xFFFF)
  else if s.get F.CLK_SERVO_SLEW_PPM < 1 ∨ 100 < s.get F.CLK_SERVO_SLEW_PPM then some (0x12, 0xFFFF)
  else none

/-- The node becomes master: no step; SYNC FREE, or PPS_ACQUIRE with PPS_EN, whose wait for an edge starts (spec/04 R86, R90, R91). -/
def State.clkMaster (s : State) : State :=
  let s1 := { s with bolt.time := { s.bolt.time with
    source := none, ppsLast := none, ppsGood := 0, ppsWait := s.ringTime, ppsRatio := s.rate40, ppsLeft := 0 } }
  s1.sets [(F.CLK_HOPS_HOPS, 0), (F.CLK_HOPS_MASTER, s.get F.RNG_ADDR_ADDR),
    (F.CLK_STATUS_SYNC, if s.on F.CLK_CTRL_PPS_EN then syPpsAcquire else syFree)]

/-- CLK goes ON: ring time starts from CLK_RT_LOAD, with RATE 0 (spec/04 R89). -/
def State.clkOn (s : State) : State :=
  let t := (s.get F.CLK_RT_LOAD_LO_NS + 2 ^ 32 * s.get F.CLK_RT_LOAD_HI_NS) * 256
  let s1 := { s with bolt.time := { TimeSync.reset with trunks := s.bolt.time.trunks, ticks := s.bolt.time.ticks } }
  let s2 := (s1.stepTo t).sets [(F.CLK_RATE_RATE, 0), (F.CLK_STATUS_SYNC, syFree)]
  if s2.isMaster then s2.clkMaster else s2.reviewSource

/-- A ring-disciplined divider of a cycle with T root ticks: K periods, of which the second number are one tick longer than the first
(spec/04 R94). -/
def divider (k t : Nat) : Nat × Nat := (t / k, t - k * (t / k))

/-- The root tick of the cycle on which rising edge j of a divider with K periods falls: the longer periods are spread evenly (spec/04
R94; which of the even spreads is a DESIGN CHOICE, assumption log 7). -/
def dividerEdge (k : Nat) (d : Nat × Nat) (j : Nat) : Nat := j * d.1 + j * d.2 / k

/-- The root tick of the cycle on which rising edge j of AUD_MCLK falls (spec/04 R94). -/
def State.mclkEdge (s : State) (j : Nat) : Nat := dividerEdge 3072 s.bolt.mclkPeriods j

/-- The correction of the servo, within ±SLEW_PPM (spec/04 R86): the offset divided by the cycle is the trim that would remove it in
one cycle; KP_SHIFT and KI_SHIFT scale the offset and the sum of offsets (DESIGN CHOICE, assumption log 7). -/
def State.correction (s : State) (off sum : Int) : Int :=
  let part (i : Int) (shift : Nat) : Int := i * 2 ^ 40 / (32000000 * 2 ^ shift)
  within (s.get F.CLK_SERVO_SLEW_PPM * 2 ^ 40 / 1000000)
    (-(part off (s.get F.CLK_SERVO_KP_SHIFT)) - part sum (s.get F.CLK_SERVO_KI_SHIFT))

/-- What a master in PPS_LOCKED slews in one cycle, in 1/256 ns: at most SLEW_PPM of 125 µs (spec/04 R91). -/
def State.ppsSlew (s : State) : Int := within (32 * (s.get F.CLK_SERVO_SLEW_PPM : Int)) s.bolt.time.ppsLeft

/-- The servo at a cycle boundary (spec/04 R86, R91): a follower sets RATE to the measured frequency ratio plus the correction, a
master in PPS_LOCKED to the ratio of its edges plus the slew.  Otherwise RATE stays. -/
def State.servo (s : State) : State :=
  let sync := s.get F.CLK_STATUS_SYNC
  let x := s.bolt.time
  if !s.isOn .clk then s
  else match x.source with
    | some p =>
      if sync = syLocked || (sync = syAcquire && x.stepped) then
        let off := toSigned 32 (s.get F.CLK_OFFSET_OFFSET)
        let sum := x.integral + off
        { s with bolt.time.integral := sum }.setRate40 ((s.trunkTime p).ratio s.rate40 + s.correction off sum)
      else s
    | none =>
      if sync = syPpsLocked then
        { s with bolt.time.ppsLeft := x.ppsLeft - s.ppsSlew }.setRate40 (x.ppsRatio + s.ppsSlew * 2 ^ 40 / 32000000)
      else s

/-- The counts of cycles that the time unit keeps, at a cycle boundary (spec/04 R85, R86). -/
def State.timeCycle (s : State) : State :=
  let t := s.bolt.time
  { s with bolt.time := { t with
    trunks := t.trunks.map fun x => { x with since := x.since + 1 }
    holdover := if s.get F.CLK_STATUS_SYNC = syHoldover then t.holdover + 1 else 0 } }

/-- The 504 message bits of a TIME message (spec/04 R83). -/
def timeBits (m : TimeMsg) : Nat :=
  (m.tTx ++ m.echoT1 ++ m.echoT2 ++ m.cycle ++ m.hops ++ m.master ++ m.epoch ++ m.sync).toNat * 2 ^ 221

/-- A TIME message as its stitch leaves (spec/04 R83): T_TX and CYCLE are inserted at the serialiser. -/
def State.stampTime (s : State) (msg : Nat) : Nat :=
  msg - slice msg 432 72 * 2 ^ 432 - slice msg 256 32 * 2 ^ 256 + s.ringTime % 2 ^ 72 * 2 ^ 432 + s.cycle * 2 ^ 256

/-- The TIME message a trunk port in UP sends in a cycle waits for a CTRL slot (spec/04 R83), where it is stamped. -/
def State.sendTime (s : State) (p : Nat) : State :=
  if s.get (F.LANE_PORT_STATUS_BRING p) = 9 && s.isOn .rng then
    let t := s.trunkTime p
    let m : TimeMsg := ⟨BitVec.ofNat 72 s.ringTime, BitVec.ofNat 72 t.lastTx, BitVec.ofNat 72 t.lastAt,
      BitVec.ofNat 32 s.cycle, BitVec.ofNat 8 (s.get F.CLK_HOPS_HOPS), BitVec.ofNat 8 (s.get F.CLK_HOPS_MASTER),
      BitVec.ofNat 16 (s.get F.RNG_EPOCH_EPOCH), BitVec.ofNat 3 (s.get F.CLK_STATUS_SYNC)⟩
    s.sendCtrl p 0 (timeBits m)
  else s

end Sys2Proof.Machine
end

