-- ==== Sys2Proof/Machine/Frames.lean ====
section
/-! DEFINITION. Tunnel frames as bits (spec/06 R131 to R139), and the stitches of the Elrek line code (spec/05 R100 to
R108): header, header check, trailer, scrambler, CHK, tack bits. -/

namespace Sys2Proof.Machine

/-- Header bits [127:16] (spec/06 R131). -/
def hdrBits (h : Hdr) : BitVec 112 :=
  h.tunnel ++ h.cls ++ h.kind ++ h.seq ++ h.length ++ h.src ++ h.dst ++ BitVec.ofBool h.buddy ++ BitVec.ofBool h.path ++
    BitVec.ofBool h.ctOk ++ BitVec.ofBool h.enc ++ h.gen ++ BitVec.ofBool h.last ++ BitVec.ofBool h.resv ++ h.svc

/-- HCRC over header bits [127:16], most significant first (spec/06 R134). -/
def hcrc (b : BitVec 112) : Nat := crc16 (msbBits 112 b.toNat)

/-- The 128-bit header word (spec/06 R131). -/
def hdrWord (h : Hdr) : BitVec 128 := hdrBits h ++ BitVec.ofNat 16 (hcrc (hdrBits h))

/-- The header fields of a 128-bit word (spec/06 R131). -/
def hdrOf (w : BitVec 128) : Hdr where
  tunnel := w.extractLsb' 116 12
  cls := w.extractLsb' 113 3
  kind := w.extractLsb' 109 4
  seq := w.extractLsb' 93 16
  length := w.extractLsb' 79 14
  src := w.extractLsb' 71 8
  dst := w.extractLsb' 63 8
  buddy := w.getLsbD 62
  path := w.getLsbD 61
  ctOk := w.getLsbD 60
  enc := w.getLsbD 59
  gen := w.extractLsb' 57 2
  last := w.getLsbD 56
  resv := w.getLsbD 55
  svc := w.extractLsb' 16 39

/-- HCRC holds (spec/06 R134). -/
def hcrcOk (w : BitVec 128) : Bool := decide ((w.extractLsb' 0 16).toNat = hcrc (w.extractLsb' 16 112))

/-- A number as `n` bytes, most significant first. -/
def beBytes (n v : Nat) : List Byte := (leBytes n v).reverse

/-- The number that bytes spell, most significant first. -/
def ofBe (bs : List Byte) : Nat := ofLe bs.reverse

/-- The 16 header bytes (spec/06 R136). -/
def hdrBytes (h : Hdr) : List Byte := beBytes 16 (hdrWord h).toNat

/-- The trailer: CRC-32C over header and payload, least significant byte first (spec/06 R135). -/
def trailer (h : Hdr) (payload : List Byte) : List Byte := leBytes 4 (crc32c (hdrBytes h ++ payload))

/-- Frame bytes: header, payload, trailer (spec/06 R136). -/
def frameBytes (f : Frame) : List Byte := hdrBytes f.hdr ++ f.payload ++ trailer f.hdr f.payload

/-- FRAME stitches of a frame of a length (spec/06 R136), with the tag of an encrypted hop (R138). -/
def stitchesOf (len : Nat) (enc : Bool) : Nat := (20 + len + (if enc then 16 else 0) + 63) / 64

/-- Buffer cells of a frame of a length (spec/07 R163). -/
def cellsOf (len : Nat) : Nat := ((20 + len + 15) / 16 + 15) / 16

/-- Bytes cut into stitch payloads of 64 bytes, zero-padded; the lowest byte in bits [511:504] (spec/06 R136). -/
def chunk64 (bs : List Byte) : Nat → List Nat
  | 0 => []
  | n + 1 => ofBe (bytesAt bs 0 64) :: chunk64 (bs.drop 64) n

/-- The 64 bytes of a stitch payload. -/
def stitchBytes (p : BitVec 512) : List Byte := beBytes 64 p.toNat

/-- Bytes XORed with the AES-256-GCM key stream (assumption log 9). -/
def gcmCrypt (key iv bs : List Byte) : List Byte :=
  (bs.zip (List.range bs.length)).map fun p => p.1 ^^^ Config.gcmStream key iv p.2

/-- SVC of the kinds (spec/06 R133): PCYCLE and ADAPTER of STREAM. -/
def hPcycle (h : Hdr) : Nat := (h.svc.extractLsb' 7 32).toNat
def hStreamAdapter (h : Hdr) : Nat := (h.svc.extractLsb' 0 7).toNat
/-- CHANNEL and ALIVE of STATE. -/
def hChannel (h : Hdr) : Nat := (h.svc.extractLsb' 32 7).toNat
def hAlive (h : Hdr) : Nat := (h.svc.extractLsb' 24 8).toNat
/-- SUBCH and ADAPTER of RELIABLE_DATA. -/
def hSubch (h : Hdr) : Nat := (h.svc.extractLsb' 36 3).toNat
def hRelAdapter (h : Hdr) : Nat := (h.svc.extractLsb' 0 36).toNat
/-- BUCKET and ADAPTER of DATAGRAM. -/
def hBucket (h : Hdr) : Nat := if h.kind.toNat = 8 then 0 else (h.svc.extractLsb' 33 6).toNat
def hDgAdapter (h : Hdr) : Nat := (h.svc.extractLsb' 0 33).toNat

/-- SVC of a STREAM, STATE, RELIABLE_DATA and DATAGRAM frame. -/
def svcStream (pcycle adapter : Nat) : Nat := pcycle % 2 ^ 32 * 2 ^ 7 + adapter % 2 ^ 7
def svcState (ch alive : Nat) : Nat := ch % 128 * 2 ^ 32 + alive % 256 * 2 ^ 24
def svcReliable (subch adapter : Nat) : Nat := subch % 8 * 2 ^ 36 + adapter % 2 ^ 36
def svcDatagram (bucket adapter : Nat) : Nat := bucket % 64 * 2 ^ 33 + adapter % 2 ^ 33

/-- KIND codes (spec/06 R132). -/
abbrev kStream : Nat := 1
abbrev kState : Nat := 2
abbrev kData : Nat := 3
abbrev kAck : Nat := 4
abbrev kDatagram : Nat := 5
abbrev kRing : Nat := 6
abbrev kKnot : Nat := 7
abbrev kTest : Nat := 8

/-- One step of the scrambler x^31 + x^28 + 1: the state after it and the bit put out (spec/05 R102). -/
def scrStep (s : Nat) : Nat × Bool :=
  let o := bit s 30 != bit s 27
  (s * 2 % 2 ^ 31 + b2n o, o)

/-- `n` scrambler bits, first bit most significant, put after those of `acc`; the state after them. -/
def scrBits : Nat → Nat → Nat → Nat × Nat
  | 0, s, acc => (s, acc)
  | n + 1, s, acc => let (s', o) := scrStep s; scrBits n s' (acc * 2 + b2n o)

/-- A payload scrambled or descrambled, payload bit 511 first (spec/05 R102). -/
def scramble (s : Nat) (p : BitVec 512) : Nat × BitVec 512 :=
  let (s', k) := scrBits 512 s 0
  (s', p ^^^ BitVec.ofNat 512 k)

/-- Stitch types (spec/05 R103). -/
abbrev tyFrame : Nat := 1
abbrev tyIdle : Nat := 2
abbrev tyCtrl : Nat := 3
abbrev tyAlign : Nat := 4
abbrev tyFray : Nat := 5
abbrev tyKeep : Nat := 6

/-- CHK of TYPE, SEQ and the line payload (spec/05 R101). -/
def stitchChk (type seq : Nat) (payload : BitVec 512) : Nat :=
  crc8 (msbBits 8 (type * 16 + seq) ++ msbBits 512 payload.toNat)

/-- A marker (spec/05 R100). -/
def markerOf (type seq : Nat) (payload : BitVec 512) : Nat := (type * 16 + seq) * 256 + stitchChk type seq payload

/-- TYPE, SEQ and whether CHK holds with a TYPE that is sent, of a received stitch (spec/05 R101, R103). -/
def stType (t : Stitch) : Nat := (t.marker.extractLsb' 12 4).toNat
def stSeq (t : Stitch) : Nat := (t.marker.extractLsb' 8 4).toNat
def stOk (t : Stitch) : Bool :=
  decide (1 ≤ stType t ∧ stType t ≤ 6) && decide ((t.marker.extractLsb' 0 8).toNat = stitchChk (stType t) (stSeq t) t.payload)

/-- Line bits with tack bits inserted: after 11 identical bits one opposite bit, which starts a run of 1
(spec/05 R108).  Last bit, run, tacks inserted so far. -/
def tackIn : List Bool → Bool → Nat → Nat → List Bool × Bool × Nat × Nat
  | [], l, r, n => ([], l, r, n)
  | b :: bs, l, r, n =>
    let r' := if b = l then r + 1 else 1
    if r' = 11 then
      let (t, l', r'', n') := tackIn bs (!b) 1 (n + 1)
      (b :: (!b) :: t, l', r'', n')
    else
      let (t, l', r'', n') := tackIn bs b r' n
      (b :: t, l', r'', n')

/-- What tack removal makes of raw line bits: the bits kept, tack bits removed, run violations among them, and the last bit
with its run. -/
structure Untacked where
  bits : List Bool
  tacks : Nat
  viols : Nat
  last : Bool
  run : Nat
  deriving DecidableEq, Repr

/-- Raw line bits with tack bits removed (spec/05 R108): the bit that follows 11 identical bits is one, and starts a run of
length 1 like the sender's; one that equals the run is a run violation (assumption log 79). -/
def tackOut : List Bool → Bool → Nat → Untacked
  | [], l, r => ⟨[], 0, 0, l, r⟩
  | b :: bs, l, r =>
    if r = 11 then
      let u := tackOut bs b 1
      { u with tacks := u.tacks + 1, viols := u.viols + b2n (b == l) }
    else
      let u := tackOut bs b (if b = l then r + 1 else 1)
      { u with bits := b :: u.bits }

/-- The line bits of a stitch without tack bits: marker, then payload, most significant first (spec/05 R100). -/
def stitchLine (marker : Nat) (payload : BitVec 512) : List Bool := msbBits 16 marker ++ msbBits 512 payload.toNat

/-- The number that bits spell, first bit most significant, put after those of `acc`. -/
def ofMsb : List Bool → Nat → Nat
  | [], acc => acc
  | b :: bs, acc => ofMsb bs (2 * acc + b2n b)

/-- The stitch that 528 bits without tack bits spell, in a polarity (spec/05 R100, R113). -/
def stitchFrom (bits : List Bool) (inv : Bool) : Stitch :=
  let bs := bits.map fun b => b != inv
  ⟨BitVec.ofNat 16 (ofMsb (bs.take 16) 0), BitVec.ofNat 512 (ofMsb (bs.drop 16) 0)⟩

/-- The degree and the second tap of the PRBS polynomials by POLY code (spec/05 R125). -/
def prbsTaps (poly : Nat) : Nat × Nat :=
  if poly = 0 then (7, 6) else if poly = 1 then (15, 14) else if poly = 2 then (23, 18) else (31, 28)

/-- The next bit of a PRBS, from a register that holds the last bits, the newest in bit 0 (spec/05 R125). -/
def prbsNext (poly reg : Nat) : Bool := bit reg ((prbsTaps poly).1 - 1) != bit reg ((prbsTaps poly).2 - 1)

/-- The register after a bit. -/
def prbsShift (poly reg : Nat) (b : Bool) : Nat := (reg * 2 + b2n b) % 2 ^ (prbsTaps poly).1

/-- `n` bits of a PRBS from a register. -/
def prbsSeq (poly : Nat) : Nat → Nat → List Bool
  | 0, _ => []
  | n + 1, reg => prbsNext poly reg :: prbsSeq poly n (prbsShift poly reg (prbsNext poly reg))

end Sys2Proof.Machine
end

