-- ==== Sys2Proof/Machine/Line.lean ====
section
/-! DEFINITION. The Elrek line: sending stitches slot by slot on a port's lanes, and the rows that received stitches
form (spec/05 R99 to R116, spec/04 R93, spec/07 R175). -/

namespace Sys2Proof.Machine

/-- Base addresses of the switching blocks. -/
abbrev bLane : Nat := 0x40300000
abbrev bTun : Nat := 0x40400000
abbrev bSwb : Nat := 0x40500000
abbrev bSch : Nat := 0x40600000
abbrev bAlt : Nat := 0x40700000
abbrev bRng : Nat := 0x40800000

/-- A lane's own state. -/
def State.lane (s : State) (l : Nat) : LaneSt := s.bolt.lanes.getD l LaneSt.reset

/-- A lane's own state stored. -/
def State.setLane (s : State) (l : Nat) (x : LaneSt) : State := { s with bolt.lanes := setAt s.bolt.lanes l x }

/-- The lanes of a port unit, by position as transmitted (spec/05 R99). -/
def portLanes (p : Nat) : List Nat :=
  if p = 0 then [0, 1, 2, 3] else if p = 1 then [4, 5, 6, 7] else if p < 8 then [8 + 2 * (p - 2), 9 + 2 * (p - 2)] else []

/-- The port unit a lane belongs to (spec/05 R99). -/
def lanePort (l : Nat) : Nat := if l < 8 then l / 4 else 2 + (l - 8) / 2

/-- A port unit's bring-up state. -/
def State.bring (s : State) (p : Nat) : Nat := s.get (F.LANE_PORT_STATUS_BRING p)

/-- A port unit is UP. -/
def State.portUp (s : State) (p : Nat) : Bool := decide (p < 8) && decide (s.bring p = 9)

/-- The mode of a flex quad (spec/03 QMODE). -/
def State.qmode (s : State) (q : Nat) : Nat := s.bolt.pat.inForce.qmode.getD q 5 % 8

/-- An Elrek port (spec/07): a trunk that is enabled, or a slot whose quad is in DOCK mode. -/
def State.elrek (s : State) (p : Nat) : Bool :=
  if p < 2 then bit s.bolt.pat.inForce.trunkEn p else decide (p < 8) && decide (s.qmode ((p - 2) / 2) = 0)

/-- A port whose function the pattern contains (spec/01 R19). -/
def State.hasFunction (s : State) (p : Nat) : Bool :=
  s.bolt.pat.holds &&
    if p < 2 then bit s.bolt.pat.inForce.trunkEn p
    else if p < 8 then
      let m := s.qmode ((p - 2) / 2)
      decide (m < 4) || (decide (m = 4) && decide (p % 2 = 0))
    else if p = 8 then s.present 0x0A
    else if p = 11 then s.present 0x12
    else decide (p < 12)

/-- Trunk encryption is keyed on a port: both directions' keys are held (spec/19 R419). -/
def State.txKey (s : State) (p : Nat) : Option (List Byte × List Byte) :=
  match s.bolt.linkKeys.getD p none with
  | some (k :: salt :: _) => some (k, salt)
  | _ => none

/-- The key and salt a port receives with. -/
def State.rxKey (s : State) (p : Nat) : Option (List Byte × List Byte) :=
  match s.bolt.linkKeys.getD p none with
  | some (_ :: _ :: k :: salt :: _) => some (k, salt)
  | _ => none

/-- A trunk whose link keys are in use: frames are encrypted on that hop. -/
def State.keyed (s : State) (p : Nat) : Bool := (s.txKey p).isSome

/-- One stitch put on a lane (spec/05 R101, R102, R108, R126): scrambled unless ALIGN, CHK computed over the line form, tack
bits inserted and counted, the line inverted under TX_INV; INJECT flips one payload bit of an IDLE stitch after CHK, and
clears. -/
def State.sendOn (s : State) (l type seq payload : Nat) : State :=
  let x := s.lane l
  let pl : BitVec 512 := BitVec.ofNat 512 payload
  let (scr, line) := if type = tyAlign then (x.txScr, pl) else scramble x.txScr pl
  let m := markerOf type seq line
  let inj := s.on (F.LANE_PRBS_CTRL_INJECT l) && decide (type = tyIdle)
  let line := if inj then line ^^^ 1 else line
  let (bits, last, run, n) := tackIn (stitchLine m line) x.txLast x.txRun 0
  let s1 := if inj then s.set (F.LANE_PRBS_CTRL_INJECT l) 0 else s
  let turn := s.on (F.LANE_TX_TX_INV l)
  (s1.setLane l { x with
    txScr := scr, txLast := last, txRun := run, txTacks := x.txTacks + n
    txBits := x.txBits + bits.length }).emit (.line l (bits.map fun b => b != turn))

/-- KEEPALIVE payload of a lane (spec/05 R105). -/
def State.keepPayload (s : State) (p pos : Nat) : Nat :=
  let enc := p < 2 && bit s.bolt.pat.inForce.trunkEnc p
  s.bring p * 2 ^ 508 + (if p < 2 then 0 else 1) * 2 ^ 506 + ((portLanes p).length - 1) * 2 ^ 504 +
    s.get (F.LANE_PORT_STATUS_HALF p) * 2 ^ 503 + s.get (F.LANE_PORT_CTRL_FALLBACK p) * 2 ^ 502 + pos * 2 ^ 500 +
    b2n enc * 2 ^ 499

/-- A KEEPALIVE sent on a lane; its SEQ repeats that of the lane's last row stitch (spec/05 R105). -/
def State.sendKeep (s : State) (p pos : Nat) : State :=
  match (portLanes p)[pos]? with
  | none => s
  | some l =>
    let x := s.port p
    let row := if pos < x.slot then x.row else x.row + 15
    let s1 := s.sendOn l tyKeep (row % 16) (s.keepPayload p pos)
    s1.setLane l { s1.lane l with keepGap := 0, keepSent := true }

/-- A KEEPALIVE on every lane of a port. -/
def State.sendKeeps (s : State) (p : Nat) : State :=
  s.each (List.range (portLanes p).length) fun pos s => s.sendKeep p pos

/-- Line bits by which a lane has run ahead of its port's slowest lane (spec/05 R105). -/
def State.runAhead (s : State) (p l : Nat) : Nat :=
  ((portLanes p).map fun k => (s.lane k).txBits).foldl max 0 - (s.lane l).txBits

/-- A KEEPALIVE may go on a lane (spec/05 R105): below UP; in UP once in an ALIGN interval, and where the lane has run ahead
by 528 line bits or more. -/
def State.keepMay (s : State) (p l : Nat) : Bool :=
  !s.portUp p || !(s.lane l).keepSent || decide (528 ≤ s.runAhead p l)

/-- A KEEPALIVE must go on a lane once a row has ended (spec/05 R105): 16 rows after the last one below UP; before the ALIGN
row in UP where the interval has had none; where the lane has run ahead by 528 line bits or more. -/
def State.keepMust (s : State) (p l : Nat) : Bool :=
  let x := s.lane l
  if s.portUp p then (!x.keepSent && decide ((s.port p).row % 1024 = 0)) || decide (528 ≤ s.runAhead p l)
  else decide (16 ≤ x.keepGap) || decide (528 ≤ s.runAhead p l)

/-- The KEEPALIVE stitches that the end of a row makes due. -/
def State.keepDue (s : State) (p : Nat) : State :=
  let s1 := s.each ((portLanes p).zip (List.range 4)) fun lp s => if s.keepMust p lp.1 then s.sendKeep p lp.2 else s
  if (s.port p).row % 1024 = 0 then s1.each (portLanes p) fun l s => s.setLane l { s.lane l with keepSent := false }
  else s1

/-- The slot after the present one (spec/06 R137). -/
def State.nextSlot (s : State) (p : Nat) : State :=
  let x := s.port p
  let ls := portLanes p
  if x.slot + 1 < ls.length then s.setPort p { x with slot := x.slot + 1 }
  else
    let r := (x.row + 1) % 2 ^ 32
    let s1 := s.setPort p { x with slot := 0, row := r, wraps := if r = 0 then x.wraps + 1 else x.wraps }
    (s1.each ls fun l s =>
      s.setLane l { s.lane l with ctrlGap := (s.lane l).ctrlGap + 1, keepGap := (s.lane l).keepGap + 1 }).keepDue p

/-- One row-scope stitch in the present slot. -/
def State.sendSlot (s : State) (p type payload : Nat) : State :=
  match (portLanes p)[(s.port p).slot]? with
  | none => s
  | some l => (s.sendOn l type ((s.port p).row % 16) payload).nextSlot p

/-- ALIGN payload of a lane (spec/05 R104). -/
def State.alignPayload (s : State) (p l pos : Nat) : Nat :=
  ((BitVec.ofNat 32 (s.port p).row ++ BitVec.ofNat 31 (s.lane l).txScr ++ BitVec.ofNat 2 pos ++ BitVec.ofNat 5 l) ++
    BitVec.ofNat 442 ((2 ^ 443 - 2) / 3)).toNat

/-- The remaining slots of the present row, or a whole row, filled with IDLE stitches (spec/05 R107). -/
def State.idleRow (s : State) (p : Nat) : State :=
  s.each ((portLanes p).drop (s.port p).slot) fun _ s => s.sendSlot p tyIdle 0

/-- An ALIGN row with the IDLE row that follows it, where the present row is a 1,024th (spec/05 R104). -/
def State.alignRow (s : State) (p : Nat) : State :=
  let x := s.port p
  if x.slot = 0 ∧ x.row % 1024 = 0 then
    (s.each ((portLanes p).zip (List.range 4)) fun lp s =>
      (s.sendOn lp.1 tyAlign (x.row % 16) (s.alignPayload p lp.1 lp.2)).nextSlot p).idleRow p
  else s

/-- CREDIT message of a port (spec/07 R175). -/
def State.creditBits (s : State) (p : Nat) : Nat :=
  let x := s.port p
  let f (l : List Nat) := ((List.range 8).map fun c => l.getD c 0 % 2 ^ 24 * 2 ^ (24 * c)).sum
  f x.grant * 2 ^ 312 + f x.sent * 2 ^ 120

/-- The order in which waiting CTRL messages go: TIME, KEY_AGREE, PAUSE, CREDIT (spec/05 R106). -/
def ctrlRank (kind : Nat) : Nat := if kind = 0 then 0 else if kind = 3 then 1 else if kind = 2 then 2 else 3

/-- The first CTRL message that may take a slot of a lane: TIME travels on lane 0 or 4 (spec/05 R106). -/
def firstCtrl (l : Nat) (q : List (Nat × Nat)) : Option (Nat × Nat) :=
  (q.filter fun m => m.1 != 0 || l % 4 = 0).foldl (fun b m => match b with
    | none => some m
    | some x => if ctrlRank m.1 < ctrlRank x.1 then some m else some x) none

/-- The CTRL stitches that may stand in the present slot: one on a lane in 128 rows; in UP a CREDIT where no other
message waits, in KEY only KEY_AGREE; a TIME message is stamped as its stitch leaves, and an ALIGN row that falls due
between them goes (spec/05 R104, R106, R121; spec/07 R175; spec/04 R83). -/
def State.ctrlSlots (s : State) (p : Nat) : Nat → State
  | 0 => s
  | n + 1 =>
    match (portLanes p)[(s.port p).slot]? with
    | none => s
    | some l =>
      if (s.lane l).ctrlGap < 128 then s
      else
        let q := (s.port p).ctrlQ.filter fun m => s.bring p = 9 || m.1 = 3
        let pick := match firstCtrl l q with
          | some m => some m
          | none => if s.bring p = 9 then some (1, s.creditBits p) else none
        match pick with
        | none => s
        | some m =>
          let s1 := s.setPort p { s.port p with ctrlQ := (s.port p).ctrlQ.erase m }
          let s2 := s1.setLane l { s1.lane l with ctrlGap := 0 }
          let msg := if m.1 = 0 then s.stampTime m.2 else m.2
          ((s2.sendSlot p tyCtrl (msg * 256 + m.1)).alignRow p).ctrlSlots p n

/-- The slot made ready for a stitch of a frame: an ALIGN row and CTRL stitches that are due go first. -/
def State.readySlot (s : State) (p : Nat) : State := (s.alignRow p).ctrlSlots p 4

/-- A row-scope stitch sent in the next slot that is free for it. -/
def State.sendStitch (s : State) (p type payload : Nat) : State := (s.readySlot p).sendSlot p type payload

/-- IV of a frame whose first stitch takes a row and position (spec/19 R420). -/
def frameIv (salt : List Byte) (wraps row pos : Nat) : List Byte :=
  salt ++ beBytes 8 ((wraps % 2 ^ 26 * 2 ^ 32 + row % 2 ^ 32) * 64 + pos * 16)

/-- A frame sent on an Elrek port in consecutive FRAME stitches, encrypted where the hop is keyed (spec/06 R137, R138). -/
def State.sendFrame (s : State) (p : Nat) (f : Frame) : State :=
  let s1 := s.readySlot p
  match s1.txKey p with
  | none => s1.each (chunk64 (frameBytes f) (stitchesOf f.payload.length false)) fun c s => s.sendStitch p tyFrame c
  | some (key, salt) =>
    let iv := frameIv salt (s1.port p).wraps (s1.port p).row (s1.port p).slot
    let h := { f.hdr with enc := true }
    let ct := gcmCrypt key iv (f.payload ++ trailer f.hdr f.payload)
    let bs := hdrBytes h ++ ct ++ Config.gcmTag key iv (hdrBytes h) ct
    s1.each (chunk64 bs (stitchesOf f.payload.length true)) fun c s => s.sendStitch p tyFrame c

/-- The fray record (spec/06 R150). -/
def frayPayload (tunnel seq origin cause hops src stitches : Nat) : Nat :=
  tunnel * 2 ^ 500 + seq * 2 ^ 484 + origin * 2 ^ 476 + cause * 2 ^ 472 + hops * 2 ^ 464 + src * 2 ^ 456 + stitches * 2 ^ 448

/-- The payload of a received stitch as descrambled by its lane (spec/05 R114). -/
def State.descr (s : State) (l : Nat) (t : Stitch) : BitVec 512 :=
  if stType t = tyAlign then t.payload
  else match (s.lane l).rxScr with
    | some x => (scramble x t.payload).2
    | none => t.payload

/-- A lane has lost block lock, or holds none. -/
def State.lockLost (s : State) (l : Nat) : Bool := !s.on (F.LANE_STATUS_BLOCK_LOCK l)

/-- The position of a lane in its port: the one its ALIGN stitches carry, its physical one before the first
(spec/05 R99). -/
def State.lanePos (s : State) (l : Nat) : Nat :=
  if s.on (F.LANE_STATUS_SCR_LOCK l) then s.get (F.LANE_STATUS_POS l) else (portLanes (lanePort l)).findIdx fun k => k = l

/-- The lanes of a port in the order of the positions received; shorter where two lanes carry one position
(spec/05 R99). -/
def State.rxOrder (s : State) (p : Nat) : List Nat :=
  (List.range (portLanes p).length).filterMap fun k => (portLanes p).find? fun l => s.lanePos l = k

/-- LANES_LOCKED follows the lanes' block lock, by position. -/
def State.showLocks (s : State) (p : Nat) : State :=
  s.set (F.LANE_PORT_STATUS_LANES_LOCKED p)
    (((portLanes p).filter fun l => !s.lockLost l).foldl (fun m l => setBit m (s.lanePos l)) 0)

/-- A slip of an elastic buffer: a row dropped or repeated (spec/04 R93). -/
def State.slip (s : State) : State := s.sat F.CLK_SLIP_CNT_SLIP 1

/-- A row inserted, or deleted, by a trunk's elastic buffer is counted (spec/04 R93). -/
def State.ebCount (s : State) (p : Nat) (insert : Bool) : State :=
  if p = 0 then s.sat (if insert then F.CLK_EB_E_INSERT else F.CLK_EB_E_DELETE) 1
  else if p = 1 then s.sat (if insert then F.CLK_EB_W_INSERT else F.CLK_EB_W_DELETE) 1
  else s

/-- The fill of a port's elastic buffer once a row has ended (spec/04 R93): a row stands in it more, unless it was dropped, or
was an IDLE row deleted while more than 5 rows stood; with fewer than 3 an IDLE row is inserted outside a frame. -/
def State.ebRowEnd (s : State) (p : Nat) : State :=
  let x := s.port p
  let s1 :=
    if x.ebDrop then s
    else if x.ebIdle && decide (5 < x.ebFill) then s.ebCount p false
    else s.setPort p { x with ebFill := x.ebFill + 1 }
  let y := s1.port p
  let s2 := if y.ebFill < 3 && y.ing.isNone then (s1.setPort p { y with ebFill := y.ebFill + 1 }).ebCount p true else s1
  s2.setPort p { s2.port p with rowLast := (s2.port p).rowNow, rowNow := [], ebDrop := false, ebIdle := true }

/-- A received row has ended (spec/05 R114): lanes that disagree in SEQ, and ALIGN stitches absent from a 1,024th row, are
noted; the row count moves. -/
def State.rowEnd (s : State) (p : Nat) : State :=
  let x := s.port p
  let slip := x.rxSeqs.any fun q => q != x.rxSeqs.headD 0
  let r := (x.rxRow + 1) % 2 ^ 32
  let missed := if x.rxRow % 1024 ≠ 0 then x.alignMissed
    else if x.rowAligns = (portLanes p).length then 0 else x.alignMissed + 1
  (s.setPort p { x with
    rxSeqs := [], rxSlips := if slip then x.rxSlips + 1 else 0, rxRow := r, rowAligns := 0, alignMissed := missed
    rxWraps := if r = 0 then x.rxWraps + 1 else x.rxWraps, pauseRows := x.pauseRows - 1 }).ebRowEnd p

/-- LANEn_PRBS_CTRL has been written (spec/05 R125, R126): raw mode follows GEN and CHK, a generator that starts puts its
pattern on the line, from a register the spec leaves open (assumption log 17); CLEAR zeroes the counters; INJECT inverts a bit
of the generator, or stays set for the next IDLE stitch. -/
def State.prbsFollow (s : State) (l : Nat) (genWas : Bool) (polyWas : Nat) : State :=
  let clr := s.on (F.LANE_PRBS_CTRL_CLEAR l)
  let gen := s.on (F.LANE_PRBS_CTRL_GEN l)
  let chk := s.on (F.LANE_PRBS_CTRL_CHK l)
  let poly := s.get (F.LANE_PRBS_CTRL_POLY l)
  let s1 := s.sets [(F.LANE_PRBS_CTRL_CLEAR l, 0), (F.LANE_PRBS_STATUS_RAW l, b2n (gen || chk))]
  let s2 := if chk then s1
    else (s1.set (F.LANE_PRBS_STATUS_LOCK l) 0).setLane l { s1.lane l with prbs := PrbsChk.reset }
  let s3 := if clr then (s2.setCounter (4 * l) 0).setCounter (4 * l + 1) 0 else s2
  let s4 :=
    if gen && (!genWas || decide (poly ≠ polyWas)) then
      (s3.used).emit (.prbsOn l poly (some (setBit (s3.fresh % 2 ^ (prbsTaps poly).1) 0)))
    else if genWas && !gen then s3.emit (.prbsOn l poly none)
    else s3
  if gen && s.on (F.LANE_PRBS_CTRL_INJECT l) then (s4.emit (.prbsFlip l)).set (F.LANE_PRBS_CTRL_INJECT l) 0 else s4

/-- A lane's generator and checker are set with a polynomial, as a write of LANEn_PRBS_CTRL sets them (spec/05 R125; spec/21
R458). -/
def State.lanePrbs (s : State) (l poly run clear : Nat) : State :=
  (s.sets [(F.LANE_PRBS_CTRL_POLY l, poly), (F.LANE_PRBS_CTRL_GEN l, run), (F.LANE_PRBS_CTRL_CHK l, run),
    (F.LANE_PRBS_CTRL_CLEAR l, clear)]).prbsFollow l (s.on (F.LANE_PRBS_CTRL_GEN l)) (s.get (F.LANE_PRBS_CTRL_POLY l))

end Sys2Proof.Machine
end

