-- ==== Sys2Proof/Machine/Night.lean ====
section
/-! DEFINITION. The night-test sequencer's core (spec/21): its step list, the results and the report, how a run is
abandoned. -/

namespace Sys2Proof.Machine

/-- Base address of NTS. -/
abbrev bNts : Nat := 0x41100000

/-- The words of a step and their fields (spec/21 R455). -/
def State.ntWord (s : State) (i w : Nat) : Nat := s.get (F.NTS_STEP_WORD i w)
def State.ntKind (s : State) (i : Nat) : Nat := slice (s.ntWord i 0) 0 4
def State.ntDur (s : State) (i : Nat) : Nat := slice (s.ntWord i 0) 16 16
def State.ntOfs (s : State) (i : Nat) : Nat := slice (s.ntWord i 1) 0 24
def State.ntArg (s : State) (i lsb w : Nat) : Nat := slice (s.ntWord i 2) lsb w
def State.ntLimit (s : State) (i lsb w : Nat) : Nat := slice (s.ntWord i 3) lsb w

/-- The number of steps: the list ends at the first KIND 0 (spec/21 R455). -/
def State.ntSteps (s : State) : Nat := (findFirst (fun i => s.ntKind i = 0) 32).getD 32

/-- Step kinds. -/
abbrev nkIdle : Nat := 1
abbrev nkPrbs : Nat := 2
abbrev nkPath : Nat := 3
abbrev nkPilot : Nat := 4
abbrev nkAlive : Nat := 5
abbrev nkBreak : Nat := 6
abbrev nkScrub : Nat := 7
abbrev nkAttest : Nat := 8

/-- STATUS codes of a result (spec/21 R462). -/
abbrev nsPass : Nat := 1
abbrev nsFail : Nat := 2
abbrev nsSkip : Nat := 3
abbrev nsAbort : Nat := 4

/-- The bits of a mask below `n`. -/
def maskBits (m n : Nat) : List Nat := (List.range n).filter fun i => bit m i

/-- A step's result registers: VALUE 64 bits, VALUE2 32 bits, both saturating. -/
def State.ntResult (s : State) (i status reason value value2 : Nat) : State :=
  let v := min value (2 ^ 64 - 1)
  s.sets [(F.NTS_RES_STATUS i, status), (F.NTS_RES_REASON i, reason), (F.NTS_RES_VALUE_LO_VALUE i, v),
    (F.NTS_RES_VALUE_HI_VALUE i, v / 2 ^ 32), (F.NTS_RES_VALUE2_VALUE2 i, min value2 (2 ^ 32 - 1))]

/-- The run changed. -/
def State.mapNight (s : State) (f : NightRun → NightRun) : State := { s with bolt.nts.run := s.bolt.nts.run.map f }

/-- A trunk's ENABLE is set again: once it is OFF (spec/21 R460; a unit that is stopping takes no enable, spec/02 R35). -/
def State.ntReopen (s : State) : State :=
  (s.each s.bolt.nts.reopen fun p s =>
    if s.get (F.LANE_PORT_STATUS_STATE p) = 0 && !s.on (F.LANE_PORT_STATUS_STOPPING p) then
      { s.sets [(F.LANE_PORT_CTRL_ENABLE p, 1), (F.LANE_PORT_STATUS_STATE p, 1)] with
        bolt.nts.reopen := s.bolt.nts.reopen.filter fun x => x != p }
    else s)

/-- The trunk that a BREAK step holds open is enabled again. -/
def State.ntBreakEnd (s : State) : State :=
  match s.bolt.nts.run with
  | some r => match r.opened with
    | some p =>
      let s1 := s.mapNight fun r => { r with opened := none, again := some s.cycle }
      { s1 with bolt.nts.reopen := s1.bolt.nts.reopen ++ [p] }.ntReopen
    | none => s
  | none => s

/-- What a step had set is restored: GEN and CHK cleared, EN of the detectors (spec/21 R458, R461). -/
def State.ntRestore (s : State) : State :=
  match s.bolt.nts.run with
  | none => s
  | some r =>
    let s1 := s.each (maskBits r.lanes 20) fun l s => s.lanePrbs l (s.get (F.LANE_PRBS_CTRL_POLY l)) 0 0
    let s2 := s1.each r.ens fun d s => s.set (F.AUD_DET_CFG_EN d.1) d.2
    s2.mapNight fun r => { r with lanes := 0, ens := [] }

/-- The steps whose result has a status. -/
def State.ntCount (s : State) (n status : Nat) : Nat :=
  ((List.range n).filter fun i => s.get (F.NTS_RES_STATUS i) = status).length

/-- The report (spec/21 R462); RUN is that of the run. -/
def State.ntReport (s : State) (start endCycle abort : Nat) : List Byte :=
  let n := s.ntSteps
  let step (i : Nat) : List Byte := List.flatten [leBytes 1 (s.ntKind i), leBytes 1 (s.get (F.NTS_RES_STATUS i)),
    leBytes 2 (s.get (F.NTS_RES_REASON i)), leBytes 4 (s.get (F.NTS_RES_VALUE_LO_VALUE i)),
    leBytes 4 (s.get (F.NTS_RES_VALUE_HI_VALUE i)), leBytes 4 (s.get (F.NTS_RES_VALUE2_VALUE2 i))]
  let h := List.flatten [[0x4C, 0x4E, 0x54, 0x52, 1], leBytes 1 n, leBytes 1 abort, leBytes 1 (s.get F.RNG_ADDR_ADDR),
    leBytes 4 (s.get F.NTS_RUN_STATUS_RUN), leBytes 4 start, leBytes 4 endCycle, leBytes 1 (s.ntCount n nsPass),
    leBytes 1 (s.ntCount n nsFail), leBytes 1 (s.ntCount n nsSkip), List.replicate 5 0]
  let recs := (List.range n).flatMap step
  h ++ leBytes 4 (crc32c (h ++ recs)) ++ recs

/-- A run ends (spec/21 R457, R461, R462): the report is written, RUN advances, RUN_DONE or ABORTED is raised. -/
def State.ntEnd (s : State) (endCycle abort : Nat) : State :=
  match s.bolt.nts.run with
  | none => s
  | some r =>
    let n := s.ntSteps
    let s1 := s.sramStore (s.get F.NTS_REPORT_ADDR_ADDR - 0x10000000) (s.ntReport r.start endCycle abort)
    let s2 := { s1 with bolt.nts.run := none }.sets [(F.NTS_STATUS_RUNNING, 0), (F.NTS_STATUS_STEP, 0),
      (F.NTS_RUN_STATUS_RUN, s.get F.NTS_RUN_STATUS_RUN + 1), (F.NTS_SUMMARY_PASS, s.ntCount n nsPass),
      (F.NTS_SUMMARY_FAIL, s.ntCount n nsFail), (F.NTS_SUMMARY_SKIP, s.ntCount n nsSkip), (F.NTS_RUN_STATUS_ABORT, abort)]
    s2.irq bNts (if abort = 0 then 1 else 3)

/-- Cycles since the run's START cycle, modulo 2^32. -/
def State.ntSince (s : State) (r : NightRun) : Nat := (s.cycle + 2 ^ 32 - r.start) % 2 ^ 32

/-- The run is abandoned with a cause: 1 alarm, 2 host, 3 power state (spec/21 R461).  A step that began in this very cycle counts
as prevented from starting (DEDUCED, assumption log 58). -/
def State.ntAbandon (s : State) (cause : Nat) : State :=
  match s.bolt.nts.run with
  | none => s
  | some r =>
    let s1 := s.ntRestore.ntBreakEnd
    let s2 := if r.live && s.ntSince r != s.ntOfs r.step then s1.ntResult r.step nsAbort 0x1216 0 0 else s1
    s2.ntEnd s.cycle cause

/-- An edge at another node while a BREAK step holds its trunk open (spec/21 R460): the step ends ABORTED, ENABLE is set at
once.  The partner's edge of the same link is not another (DEDUCED). -/
def State.ntEdge (s : State) (node far : Nat) : State :=
  match s.bolt.nts.run with
  | some r =>
    if r.opened.isSome && node ≠ s.get F.RNG_ADDR_ADDR && far ≠ s.get F.RNG_ADDR_ADDR then
      (s.ntBreakEnd.mapNight fun r => { r with reason := 0x1214 }).ntResult r.step nsAbort 0x1214 0 0
    else s
  | none => s

/-- A PRBS checker has locked or lost lock during a step (spec/21 R458). -/
def State.ntLock (s : State) (l : Nat) (lock : Bool) : State :=
  s.mapNight fun r =>
    if !bit r.lanes l then r
    else if lock then { r with locked := setBit r.locked l }
    else { r with bad := setBit r.bad l, reason := 0x1215 }

/-- A key operation of an ATTEST step has ended (spec/21 R458): its reason and the statement. -/
def State.ntKeyDone (s : State) (reason : Nat) (out : List Byte) : State :=
  s.mapNight fun r => if r.key = 1 then { r with
    key := 2, keyReason := reason, keyLocked := bit (leAt out 11 1) 1, keyCount := leAt out 12 4 } else r

end Sys2Proof.Machine
end

