-- ==== Sys2Proof/Machine/Switch.lean ====
section
/-! DEFINITION. The switch core and shared buffer (spec/07): entries' words, cells, charging, admission, copies, credits,
PAUSE, scrubbing and retiring. -/

namespace Sys2Proof.Machine

/-- Fields of the entry words (spec/06 R160). -/
def Entry.tunnel (e : Entry) : Nat := slice e.w0 0 12
def Entry.cls (e : Entry) : Nat := slice e.w0 12 3
def Entry.service (e : Entry) : Nat := slice e.w0 15 3
def Entry.source (e : Entry) : Bool := bit e.w0 18
def Entry.sink (e : Entry) : Bool := bit e.w0 19
def Entry.transit (e : Entry) : Bool := bit e.w0 20
def Entry.buddy (e : Entry) : Bool := bit e.w0 21
def Entry.ctOk (e : Entry) : Bool := bit e.w0 22
def Entry.credit (e : Entry) : Bool := bit e.w0 23
def Entry.progress (e : Entry) : Bool := bit e.w0 24
def Entry.dst (e : Entry) : Nat := slice e.w1 0 8
def Entry.peer (e : Entry) : Nat := slice e.w1 8 8
def Entry.localPort (e : Entry) : Nat := slice e.w1 16 4
def Entry.maxLen (e : Entry) : Nat := slice e.w2 0 14
def Entry.binding (e : Entry) : Nat := slice e.w2 16 16
def Entry.rto (e : Entry) : Nat := slice e.w3 0 8
def Entry.window (e : Entry) : Nat := slice e.w3 8 9

/-- SERVICE codes. -/
abbrev svStream : Nat := 0
abbrev svState : Nat := 1
abbrev svReliable : Nat := 2
abbrev svDatagram : Nat := 3

/-- A tunnel entry. -/
def State.entry (s : State) (i : Nat) : Entry := getKey Entry.reset i s.bolt.tun

/-- A tunnel entry changed. -/
def State.mapEntry (s : State) (i : Nat) (f : Entry → Entry) : State :=
  { s with bolt.tun := putKey Entry.reset i (f (s.entry i)) s.bolt.tun }

/-- The valid entry that holds a tunnel ID (spec/06: one entry for each tunnel). -/
def State.entryOf (s : State) (tunnel : Nat) : Option Nat :=
  (s.bolt.tun.find? fun e => e.2.valid && e.2.tunnel = tunnel).map (·.1)

/-- The node's address; 0 while unassigned. -/
def State.addr (s : State) : Nat := s.get F.RNG_ADDR_ADDR

/-- The egress port of a queue of an entry. -/
def Entry.portOf (e : Entry) (q : Nat) : Nat := if q = 0 then 0 else if q = 1 then 1 else e.localPort

/-- A buffered frame. -/
def State.stored (s : State) (id : Nat) : Option Stored := lookupKey id s.bolt.swb.frames

/-- A buffered frame changed. -/
def State.mapStored (s : State) (id : Nat) (f : Stored → Stored) : State :=
  match s.stored id with
  | some x => { s with bolt.swb.frames := insertKey id (f x) s.bolt.swb.frames }
  | none => s

/-- Free cells: SWB_FREE (spec/07). -/
def State.freeCount (s : State) : Nat := (s.bolt.swb.freeCells.map (·.2)).sum

/-- Live class reserve and ALPHA of port p and class c; the reserve in force (spec/07 R173). -/
def State.reserve (s : State) (p c : Nat) : Nat := s.get (F.SWB_RES_LIVE_CELLS (p * 8 + c))

/-- Cells charged, O of spec/07 R171. -/
def State.occ (s : State) (p c : Nat) : Nat := s.get (F.SWB_OCC_CELLS (p * 8 + c))

/-- The size of the shared pool (spec/07 R173). -/
def State.sharedSize (s : State) : Nat :=
  196608 - (((List.range 96).map fun i => s.get (F.SWB_RES_LIVE_CELLS i)).sum +
    ((List.range 64).map fun j => s.get (F.SWB_LAND_LIVE_CELLS j)).sum + (s.bolt.swb.retxReserve.map (·.2)).sum +
    s.bolt.swb.retired.length)

/-- Shared cells held: by the classes, and by landing areas above a reserve that has shrunk (spec/07 R171, R173). -/
def State.sharedHeld (s : State) : Nat :=
  ((List.range 96).map fun i => s.get (F.SWB_OCC_CELLS i) - s.get (F.SWB_RES_LIVE_CELLS i)).sum +
    ((List.range 64).map fun j => s.get (F.SWB_LAND_HELD_CELLS j) - s.get (F.SWB_LAND_LIVE_CELLS j)).sum

/-- F of spec/07 R171: free shared cells. -/
def State.sharedFree (s : State) : Nat := s.sharedSize - s.sharedHeld

/-- Reserve growth is pending (spec/07 R173). -/
def State.growing (s : State) : Bool := !s.bolt.swb.growth.isEmpty

/-- Admission of a frame of n cells at anchor port p, class c: O + n ≤ R, or O + n − R ≤ α × F and the new shared cells
are within F; α = 2^(ALPHA − 6) (spec/07 R171). -/
def State.admits (s : State) (p c n : Nat) : Bool :=
  let o := s.occ p c
  let r := s.reserve p c
  let f := s.sharedFree
  decide (o + n ≤ r) ||
    (decide ((o + n - r) * 64 ≤ 2 ^ s.get (F.SWB_RES_LIVE_ALPHA (p * 8 + c)) * f) && decide (o + n - r - (o - r) ≤ f))

/-- `n` cells taken from the runs of free cells. -/
def takeCells : Nat → List (Nat × Nat) → List Nat × List (Nat × Nat)
  | _, [] => ([], [])
  | n, (a, l) :: t =>
    if n ≤ l then ((List.range n).map (a + ·), if n = l then t else (a + n, l - n) :: t)
    else let (cs, t') := takeCells (n - l) t; ((List.range l).map (a + ·) ++ cs, t')

/-- The row, cell × 16 + bank, of word `w` of a frame in some cells: bank (w + c) mod 16 (spec/07 R162, R163). -/
def rowOf (cells : List Nat) (w : Nat) : Nat :=
  let c := cells.getD (w / 16) (cells.headD 0)
  c * 16 + (w % 16 + c) % 16

/-- A row holds one of the first `words` words of a frame in some cells. -/
def rowHolds (cells : List Nat) (words key : Nat) : Bool :=
  let c := key / 16
  cells.contains c && decide (cells.findIdx (fun x => x = c) * 16 + (key % 16 + 16 - c % 16) % 16 < words)

/-- PAUSE starts when SWB_FREE falls below SWB_FREE_LOW (spec/07 R178): message on every Elrek port in UP. -/
def State.sendPause (s : State) (rows : Nat) : State :=
  let m := s.get F.SWB_PAUSE_CFG_MASK * 2 ^ 498 + rows * 2 ^ 480
  s.each (List.range 8) fun p s => s.when (s.elrek p && s.portUp p) fun s => s.sendCtrl p 2 m

/-- The free count looked at after cells were taken (spec/07 R178). -/
def State.checkFree (s : State) : State :=
  if s.freeCount < s.get F.SWB_FREE_LOW_CELLS && !s.on F.SWB_STATUS_PAUSING && s.isOn .swb then
    ((s.set F.SWB_STATUS_PAUSING 1).sendPause (s.get F.SWB_PAUSE_CFG_ROWS)).irq bSwb 4
  else s

/-- Cells added to the GRANT of the ingress of a port that is UP, withheld first for a landing shrink (spec/07 R173,
R176). -/
def State.grantAdd (s : State) (p c n : Nat) : State :=
  if !s.portUp p then s
  else
    let x := s.port p
    let w := x.withheld.getD c 0
    let keep := min w n
    s.setPort p { x with
      withheld := setAt x.withheld c (w - keep)
      grant := setAt x.grant c ((x.grant.getD c 0 + (n - keep)) % 2 ^ 24) }

/-- Cells accounted in RECV (spec/07 R174). -/
def State.recvAdd (s : State) (p c n : Nat) : State :=
  let x := s.port p
  s.setPort p { x with recv := setAt x.recv c ((x.recv.getD c 0 + n) % 2 ^ 24) }

/-- AVAIL of a port and class: GRANT − SENT modulo 2^24; 0 while the port is not UP (spec/07 R174, R176). -/
def State.avail (s : State) (p c : Nat) : Nat :=
  if s.portUp p then ((s.port p).granted.getD c 0 + 2 ^ 24 - (s.port p).sent.getD c 0) % 2 ^ 24 else 0

/-- A charge put on a domain (spec/07 R169). -/
def State.charge (s : State) (d : Domain) (n : Nat) : State :=
  match d with
  | .landing e c => s.inc (F.SWB_LAND_HELD_CELLS (e * 8 + c)) n
  | .anchor p c => s.inc (F.SWB_OCC_CELLS (p * 8 + c)) n
  | .retx e => { s with bolt.swb.retxHeld := putKey 0 e (getKey 0 e s.bolt.swb.retxHeld + n) s.bolt.swb.retxHeld }

/-- A charge taken off a domain; landing cells that free return credit (spec/07 R176). -/
def State.uncharge (s : State) (d : Domain) (n : Nat) : State :=
  match d with
  | .landing e c =>
    (s.set (F.SWB_LAND_HELD_CELLS (e * 8 + c)) (s.get (F.SWB_LAND_HELD_CELLS (e * 8 + c)) - n)).grantAdd e c n
  | .anchor p c => s.set (F.SWB_OCC_CELLS (p * 8 + c)) (s.occ p c - n)
  | .retx e => { s with bolt.swb.retxHeld := putKey 0 e (getKey 0 e s.bolt.swb.retxHeld - n) s.bolt.swb.retxHeld }

/-- A reserve in force, by number: class reserve i, or 96 + j for landing reserve j; and the cells it holds. -/
def State.liveOf (s : State) (i : Nat) : Nat :=
  if i < 96 then s.get (F.SWB_RES_LIVE_CELLS i) else s.get (F.SWB_LAND_LIVE_CELLS (i - 96))
def State.heldOf (s : State) (i : Nat) : Nat :=
  if i < 96 then s.get (F.SWB_OCC_CELLS i) else s.get (F.SWB_LAND_HELD_CELLS (i - 96))

/-- The place of a reserve in the order of port and then class; of one port and class the class reserve comes first (the
latter DEDUCED, assumption log 82). -/
def growRank (i : Nat) : Nat := if i < 96 then 2 * i else 2 * (i - 96) + 1

/-- A growing reserve takes the shared cells that are free, and those its own class holds already, up to its target; a landing
reserve grants what it gains (spec/07 R173, R176). -/
def State.growOne (s : State) (g : Nat × Nat) : State :=
  let live := s.liveOf g.1
  let d := min (g.2 - live) (s.sharedFree + (s.heldOf g.1 - live))
  if d = 0 then s
  else if g.1 < 96 then s.set (F.SWB_RES_LIVE_CELLS g.1) (live + d)
  else (s.set (F.SWB_LAND_LIVE_CELLS (g.1 - 96)) (live + d)).grantAdd ((g.1 - 96) / 8) (g.1 % 8) d

/-- Every growing reserve takes what it can, in order (spec/07 R173). -/
def State.grow (s : State) : State :=
  if s.bolt.swb.growth.isEmpty then s
  else
    let s1 := s.each s.bolt.swb.growth fun g s => s.growOne g
    { s1 with bolt.swb.growth := s1.bolt.swb.growth.filter fun g => decide (s1.liveOf g.1 < g.2) }

/-- A reserve that grows towards a target, in order; any earlier target of it is given up. -/
def State.growTo (s : State) (i target : Nat) : State :=
  let l := s.bolt.swb.growth.filter fun g => g.1 != i
  let before := l.filter fun g => decide (growRank g.1 < growRank i)
  let behind := l.filter fun g => decide (growRank i < growRank g.1)
  { s with bolt.swb.growth := if s.liveOf i < target then before ++ [(i, target)] ++ behind else l }

/-- A free cell that has failed: retired, or returned once the table is full (spec/07 R168). -/
def State.retireCell (s : State) (c : Nat) : State :=
  let s := { s with bolt.swb.failing := s.bolt.swb.failing.erase c }
  if s.bolt.swb.retired.length < 1024 then
    let n := s.bolt.swb.retired.length
    let s1 := { s with bolt.swb.retired := s.bolt.swb.retired ++ [c] }
    ((((s1.sets [(F.SWB_RETIRE_COUNT, n + 1), (F.SWB_RETIRE_LAST_CELL, c)]).boltNvs (.retire n c)).boltNvs
      (.identity 0x40 (leBytes 4 (n + 1)))).irq bSwb 2).checkFree
  else { s with bolt.swb.freeCells := s.bolt.swb.freeCells ++ [(c, 1)] }.irq bSwb 3

/-- Cells returned to the free list, failing ones retired (spec/07 R168). -/
def State.freeCellsBack (s : State) (cs : List Nat) : State :=
  s.each cs fun c s =>
    if s.bolt.swb.failing.contains c then s.retireCell c
    else { s with bolt.swb.freeCells := s.bolt.swb.freeCells ++ [(c, 1)] }

/-- The frame still arriving, where it is the one that leaves the buffer, is discarded as it comes (spec/07 R179). -/
def State.detach (s : State) (id : Nat) : State :=
  s.each (List.range 8) fun p s =>
    let x := s.port p
    if x.ing.any fun y => y.store = some id then
      s.setPort p { x with ing := x.ing.map fun (y : Ingress) => { y with store := none } }
    else s

/-- A frame leaves the buffer: its cells free, its charge is released, the drain count of its generation falls
(spec/07 R170, R179, R185). -/
def State.freeFrame (s : State) (id : Nat) : State :=
  match s.stored id with
  | none => s
  | some x =>
    let s1 := { s with bolt.swb.frames := eraseKey id s.bolt.swb.frames }
    let s2 := (s1.freeCellsBack x.cells).uncharge x.domain x.cells.length
    let s3 := s2.mapEntry x.entry fun e => match e.drain with
      | some (g, ws, n) => if g = x.gen then { e with drain := some (g, ws, n - 1) } else e
      | none => e
    (s3.detach id).grow

/-- The frame's last copy has gone: a RELIABLE_DATA frame of its own source stays, charged to its entry's retransmit
reserve; any other frame frees its cells (spec/07 R172, R179). -/
def State.copiesGone (s : State) (id : Nat) : State :=
  match s.stored id with
  | none => s
  | some x =>
    let e := s.entry x.entry
    let sq := x.frame.hdr.seq.toNat
    if x.frame.hdr.kind.toNat = kData && x.ingress ≥ 2 && x.gen = e.gen && e.valid && e.source && e.retx.any fun r => r.1 = sq then
      match x.domain with
      | .retx _ => s
      | d =>
        let s1 := ((s.uncharge d x.cells.length).charge (.retx x.entry) x.cells.length).mapStored id fun y =>
          { y with domain := .retx x.entry }
        (s1.mapEntry x.entry fun e => match e.drain with
          | some (g, ws, n) => if g = x.gen then { e with drain := some (g, ws, n - 1) } else e
          | none => e).grow
    else s.freeFrame id

/-- A copy ends, sent or discarded; a first copy sent starts the residue timer; with the last the frame goes, arrived in full
or not (spec/07 R170, R179, R180). -/
def State.endCopy (s : State) (id queue : Nat) (wasSent : Bool) : State :=
  let s1 := s.mapStored id fun x => { x with
    copies := x.copies.filter fun c => c.queue != queue
    residue := if wasSent && x.residue.isNone then some 0 else x.residue }
  match s1.stored id with
  | some x => if x.copies.isEmpty then s1.copiesGone id else s1
  | none => s1

/-- A copy's state changed. -/
def State.mapCopy (s : State) (id queue : Nat) (f : Copy → Copy) : State :=
  s.mapStored id fun x => { x with copies := x.copies.map fun c => if c.queue = queue then f c else c }

/-- A queue of an entry. -/
def State.queue (s : State) (k : Nat) : Queue := getKey Queue.reset k s.bolt.sch.queues

/-- A queue changed. -/
def State.mapQueue (s : State) (k : Nat) (f : Queue → Queue) : State :=
  { s with bolt.sch.queues := putKey Queue.reset k (f (s.queue k)) s.bolt.sch.queues }

/-- One port's scheduler. -/
def State.psch (s : State) (p : Nat) : PortSched := s.bolt.sch.ports.getD p PortSched.reset

/-- One port's scheduler changed. -/
def State.mapPsch (s : State) (p : Nat) (f : PortSched → PortSched) : State :=
  { s with bolt.sch.ports := setAt s.bolt.sch.ports p (f (s.psch p)) }

/-- A queue's number: entry, generation, queue 0 east, 1 west, 2 local (spec/07 R164, R184). -/
def qKey (i g q : Nat) : Nat := (i * 4 + g) * 4 + q

/-- The stand-in for an entry under which TEST frames queue: they have none (spec/06 R140). -/
abbrev testEntry : Nat := 1024

/-- An entry with the words of one of its generations: live or draining (spec/07 R184). -/
def State.entryGen (s : State) (i g : Nat) : Entry :=
  let e := s.entry i
  match e.drain with
  | some (d, ws, _) =>
    if g = d && g != e.gen then { e with w0 := ws.getD 0 0, w1 := ws.getD 1 0, w2 := ws.getD 2 0, w3 := ws.getD 3 0 } else e
  | none => e

/-- The class of a queue's frames: that of the entry's words of its generation; CL0 for TEST. -/
def State.queueCls (s : State) (k : Nat) : Nat := (s.entryGen (k / 16) (k / 4 % 4)).cls

/-- The port of a queue: the trunk, or LOCAL_PORT of its generation; P11 for TEST. -/
def State.queuePort (s : State) (k : Nat) : Nat :=
  if k / 16 = testEntry then (if k % 4 = 2 then 11 else k % 4)
  else (s.entryGen (k / 16) (k / 4 % 4)).portOf (k % 4)

/-- A queue that holds a frame not placed stands on the active list of its port and class; one that holds none leaves
it, with DEFICIT 0 (spec/08 R196). -/
def State.activate (s : State) (k : Nat) : State :=
  let q := s.queue k
  let p := s.queuePort k
  let c := s.queueCls k
  if q.frames.isEmpty then
    let s1 := s.mapQueue k fun q => { q with deficit := 0, active := false }
    s1.mapPsch p fun x => { x with
      active := x.active.map fun l => l.erase k
      visiting := if ((x.active.getD c []).head?) = some k then setAt x.visiting c false else x.visiting }
  else if q.active then s
  else (s.mapQueue k fun q => { q with active := true }).mapPsch p fun x =>
    { x with active := setAt x.active c ((x.active.getD c []) ++ [k]) }

/-- A frame appended to a queue (spec/07 R164). -/
def State.append (s : State) (k id : Nat) : State :=
  ((s.mapCopy id k fun c => { c with cyc := s.cycle, ps := s.bolt.sch.now }).mapQueue k fun q =>
    { q with frames := q.frames ++ [id] }).activate k

/-- A frame taken out of a queue wherever it stands. -/
def State.unqueue (s : State) (k id : Nat) : State :=
  (s.mapQueue k fun q => { q with frames := q.frames.erase id }).activate k

/-- A copy discarded before it started: out of its queue and out of the stage (spec/07 R166, R180, R183). -/
def State.dropCopy (s : State) (id queue : Nat) : State :=
  let s1 := (s.unqueue queue id).mapPsch (s.queuePort queue) fun x =>
    { x with
      slots := x.slots.filter fun pl => !(pl.frame = id && pl.queue = queue)
      late := x.late.filter fun pl => !(pl.frame = id && pl.queue = queue) }
  s1.endCopy id queue false

/-- A frame put into the buffer: cells allocated, charged to its domain, appended to the queue of each copy; the words written
carry fresh check bits, an armed injection falls on the first (spec/07 R163 to R165). -/
def State.store (s : State) (x : Stored) : State :=
  let n := cellsOf x.frame.hdr.length.toNat
  let (cs, rest) := takeCells n s.bolt.swb.freeCells
  let id := s.bolt.swb.nextId
  let bad := s.bolt.swb.injectBits
  let words := (20 + x.frame.hdr.length.toNat + 15) / 16
  let fresh := s.bolt.swb.badRows.filter fun r => !rowHolds cs words r.1
  let s1 := { s with bolt.swb := { s.bolt.swb with
    freeCells := rest, nextId := id + 1, ready := s.bolt.swb.ready - n
    frames := insertKey id { x with cells := cs } s.bolt.swb.frames
    injectBits := none
    badRows := putKey 0 (rowOf cs 0) (bad.getD 0) fresh } }
  let s2 := if bad.isNone then s1 else s1.set F.SWB_ECC_INJECT_ARM 0
  let s3 := (s2.charge x.domain n).count (3168 + 8 * x.ingress + x.frame.hdr.cls.toNat) 1
  (s3.each x.copies fun c s => s.append c.queue id).checkFree

/-- The anchor port of a frame's copies: the first Elrek port in the order P0, P1, P2 to P7, else the lowest port
(spec/07 R170). -/
def State.anchor (s : State) (ports : List Nat) : Nat :=
  match (List.range 8).find? fun p => s.elrek p && ports.contains p with
  | some p => p
  | none => ports.foldl min 11

/-- The domain that charges an arriving frame (spec/07 R169). -/
def State.domainOf (s : State) (ingress cls : Nat) (ports : List Nat) : Domain :=
  if s.elrek ingress && ports.any fun p => s.elrek p then .landing ingress cls else .anchor (s.anchor ports) cls

/-- A frame refused at admission (spec/07 R171): counted at the anchor port and per class. -/
def State.refuseFrame (s : State) (p c : Nat) : State :=
  (s.sat (F.SWB_DROP_ADMIT p) 1).count (3456 + 2 * (8 * p + c)) 1

/-- A switch port that QUIET has stopped: the flex quads, AUD and NTS (spec/18 R385). -/
def State.portStopped (s : State) (p : Nat) : Bool :=
  decide (s.get F.PWR_STATUS_STATE = 2) && (decide (2 ≤ p ∧ p ≤ 8) || decide (p = 11))

/-- Copies for stopped ports are discarded and counted in ADMIT of each port (spec/18 R385). -/
def State.dropStopped (s : State) (cs : List Copy) (c : Nat) : State :=
  s.each (cs.filter fun x => s.portStopped x.port) fun x s => s.refuseFrame x.port c

/-- A frame discarded for an uncorrectable error, counted at a port (spec/07 R166). -/
def State.countEcc (s : State) (p c : Nat) : State := (s.sat (F.SWB_DROP_ECC p) 1).count (3457 + 2 * (8 * p + c)) 1

/-- An uncorrectable error: ECC_UNCORR raised and counted (spec/07 R166). -/
def State.eccUncorr (s : State) : State := (s.sat F.SWB_ECC_CNT_UNCORR 1).irq bSwb 1

/-- A row found with `bits` bits in error: it stays so until it is written or scrubbed (spec/07 R166). -/
def State.markRow (s : State) (key bits : Nat) : State :=
  { s with bolt.swb.badRows := putKey 0 key (max bits (getKey 0 key s.bolt.swb.badRows)) s.bolt.swb.badRows }

/-- The worst error, in bits, that a read of a frame's rows meets. -/
def State.readBits (s : State) (cells : List Nat) : Nat :=
  (s.bolt.swb.badRows.filter fun r => cells.contains (r.1 / 16)).foldl (fun b r => max b r.2) 0

/-- Those of some cells in which a row shows an uncorrectable error. -/
def State.badCells (s : State) (cells : List Nat) : List Nat :=
  cells.filter fun c => s.bolt.swb.badRows.any fun r => r.1 / 16 = c && 3 ≤ r.2

/-- Cells to retire when they are free (spec/07 R168). -/
def State.failCells (s : State) (cs : List Nat) : State :=
  { s with bolt.swb.failing := s.bolt.swb.failing ++ cs.filter fun c => !s.bolt.swb.failing.contains c }

/-- A fault-log record of SWB (spec/07 R166, spec/20 R444): entry index, queue, frames discarded. -/
def State.linkFault (s : State) (k frames : Nat) : State := s.boltFault 0x06 0x0601 (k / 16) (k % 4) frames

/-- A FRAY sent on a port in place of a copy's remaining stitches; a local adapter is told (spec/06 R151). -/
def State.sendFray (s : State) (p : Nat) (f : Hdr) (origin cause hops stitches : Nat) : State :=
  if p < 8 && s.elrek p then
    s.sendStitch p tyFray (frayPayload f.tunnel.toNat f.seq.toNat origin cause hops f.src.toNat stitches)
  else s.emit (.frayLocal p f.tunnel.toNat f.seq.toNat)

/-- RING_CTRL frames that wait start while nothing is on the port's wire and class 7 has credit: each is counted, its cells
added to SENT as its first stitch goes (spec/08 R190; spec/07 R174, R175). -/
def State.flushCl7 (s : State) (p : Nat) : State :=
  s.each (s.port p).cl7 fun _ s =>
    match (s.port p).cl7 with
    | [] => s
    | f :: t =>
      let n := cellsOf f.payload.length
      if (s.port p).onWire.isSome || s.avail p 7 < n then s
      else
        let s0 := (s.setPort p { s.port p with cl7 := t, stall := setAt (s.port p).stall 7 none }).readySlot p
        let y := s0.port p
        let s1 := s0.setPort p { y with sent := setAt y.sent 7 ((y.sent.getD 7 0 + n) % 2 ^ 24) }
        let s2 := (s1.sat (F.SCH_PORT_CL7_SENT p) 1).count (3264 + 2 * (8 * p + 7)) 1
        (s2.count (3265 + 2 * (8 * p + 7)) (64 * stitchesOf f.payload.length (s.keyed p))).sendFrame p f

/-- A RING_CTRL frame for a trunk that is UP: it starts at the next frame boundary, behind those that wait
(spec/08 R190). -/
def State.sendCl7 (s : State) (p : Nat) (f : Frame) : State :=
  if !s.portUp p then s
  else (s.setPort p { s.port p with cl7 := (s.port p).cl7 ++ [f] }).flushCl7 p

/-- A port's wire is free: a RING_CTRL frame that waits goes (spec/08 R190). -/
def State.wireFree (s : State) (p : Nat) : State :=
  (s.setPort p { s.port p with onWire := none, wireSent := 0 }).flushCl7 p

/-- A frame forwarded cut-through fails: copies in progress end with FRAY, copies not started are discarded
(spec/07 R183). -/
def State.frayFrame (s : State) (id origin cause hops : Nat) : State :=
  match s.stored id with
  | none => s
  | some x =>
    let s1 := s.mapStored id fun y => { y with complete := true }
    s1.each x.copies fun c s =>
      if c.st = .cutting || c.st = .sending then
        let s2 := s.sendFray c.port x.frame.hdr origin cause hops (s.port c.port).wireSent
        ((s2.sat (F.SWB_CT_FRAYED c.port) 1).wireFree c.port).endCopy id c.queue true
      else s.dropCopy id c.queue

/-- FRAYED of a frame's tunnel and of its service (spec/06 R152, spec/20 R429, R430). -/
def State.countFrayed (s : State) (i : Nat) : State :=
  let e := s.entry i
  let s1 := s.count (3153 + 4 * e.service) 1
  if e.service = svStream then s1.count (82 + 3 * i) 1 else if e.service = svState then s1.count (81 + 3 * i) 1 else s1

/-- This node is where a fray began: counted by cause and against the tunnel (spec/06 R152). -/
def State.frayMade (s : State) (i cause : Nat) : State :=
  let f := if cause = 1 then F.TUN_FRAY_MADE_CRC else if cause = 2 then F.TUN_FRAY_MADE_TAG
    else if cause = 3 then F.TUN_FRAY_MADE2_LINK else F.TUN_FRAY_MADE2_ECC
  (s.sat f 1).countFrayed i

/-- The delivery progress record of a RELIABLE entry (spec/06 R159): its 14 payload bytes. -/
def State.deliveryRecord (s : State) (i cause : Nat) : State :=
  let e := s.entry i
  s.boltNvs (.delivery i (leBytes 1 5 ++ leBytes 1 cause ++ leBytes 2 i ++ leBytes 2 e.tunnel ++
    leBytes 2 (if e.source then e.una else 0) ++ leBytes 2 (if e.source then e.nxt else 0) ++
    leBytes 2 (if e.sink then e.rcvNxt else 0) ++ leBytes 1 e.gen ++ leBytes 1 (b2n e.source + 2 * b2n e.sink)))

/-- A tunnel becomes DEAD (spec/06 R149). -/
def State.tunnelDead (s : State) (i : Nat) : State :=
  let s1 := s.mapEntry i fun e => { e with dead := true }
  (((s1.set F.TUN_DEAD_INDEX i).sat F.TUN_DEAD_COUNT 1).irq bTun 2).deliveryRecord i 1

/-- A copy has not started on its port. -/
def Copy.unstarted (c : Copy) : Bool := c.st = .queued || c.st = .placed || c.st = .threshold

/-- The copies of a frame that have not started are discarded, and the frame is counted where there are any
(spec/07 R166). -/
def State.dropUnstarted (s : State) (id : Nat) (x : Stored) : State :=
  let cs := x.copies.filter Copy.unstarted
  let p := match x.domain with
    | .anchor p _ => p
    | _ => s.anchor (x.copies.map (·.port))
  if cs.isEmpty then s
  else (s.countEcc p x.frame.hdr.cls.toNat).each cs fun c s => s.dropCopy id c.queue

/-- A word of a frame is read with `bits` bits in error: corrected and counted up to 2 in every row known; beyond that, or
where the scrubber has poisoned the frame, ECC_UNCORR, its failing cells marked.  True: the read has failed
(spec/07 R166, R168). -/
def State.readFrame (s : State) (x : Stored) (word bits : Nat) : State × Bool :=
  let s1 := s.markRow (rowOf x.cells word) bits
  let b := s1.readBits x.cells
  if x.poisoned || 3 ≤ b then (((s1.failCells (s1.badCells x.cells)).eccUncorr), true)
  else (if 1 ≤ b then s1.sat F.SWB_ECC_CNT_CORR 1 else s1, false)

/-- A copy about to start is read (spec/07 R166): with an uncorrectable error it is not sent, nor is any other copy that has
not started; a frame held for a RELIABLE sender makes its tunnel DEAD. -/
def State.egressRead (s : State) (id word bits : Nat) : State :=
  match s.stored id with
  | none => s
  | some x =>
    match s.readFrame x word bits with
    | (s1, false) => s1
    | (s1, true) => match x.domain with
      | .retx i => (s1.tunnelDead i).each (x.copies.filter Copy.unstarted) fun c s => s.dropCopy id c.queue
      | _ => s1.dropUnstarted id x

/-- The copy on a port's wire meets an uncorrectable error (spec/07 R166): it ends with FRAY, cause ECC; copies that have not
started are discarded. -/
def State.progressError (s : State) (p id k : Nat) (x : Stored) : State :=
  let s1 := (s.frayMade x.entry 4).sendFray p x.frame.hdr s.addr 4 0 (s.port p).wireSent
  ((s1.wireFree p).endCopy id k true).dropUnstarted id x

/-- A link-memory entry of a frame fails (spec/07 R166, R168): the frame and every later frame in the same queue are discarded
and counted, a record is written, the cell is to be retired. -/
def State.linkLost (s : State) (y : Placement) (word : Nat) : State :=
  match s.stored y.frame with
  | none => s
  | some x =>
    let staged := ((s.psch (s.queuePort y.queue)).slots.filter fun z => z.queue = y.queue && y.ord < z.ord).map (·.frame)
    let ids := staged ++ (s.queue y.queue).frames
    let s1 := (s.failCells [x.cells.getD (word / 16) (x.cells.headD 0)]).eccUncorr
    let s2 := s1.dropUnstarted y.frame x
    let s3 := s2.each ids fun id s => match s.stored id with
      | some z => (s.countEcc (match z.domain with
          | .anchor p _ => p
          | _ => s.anchor (z.copies.map (·.port))) z.frame.hdr.cls.toNat).dropCopy id y.queue
      | none => s
    s3.linkFault y.queue (ids.length + 1)

/-- READY_LIST_ADMIT and the clock's part of the ready list: four cells per CORE_CLK cycle, up to 512 (spec/07 R163). -/
def State.refill (s : State) (clocks : Nat) : State :=
  { s with bolt.swb.ready := min (min 512 s.freeCount) (s.bolt.swb.ready + 4 * clocks) }

/-- A cell's row read by the scrubber with `bits` bits in error (spec/07 R166 to R168). -/
def State.scrubRow (s : State) (cell bank bits : Nat) : State :=
  let key := cell * 16 + bank
  let b := max bits (getKey 0 key s.bolt.swb.badRows)
  if b = 0 then s
  else if b ≤ 2 then { s with bolt.swb.badRows := eraseKey key s.bolt.swb.badRows }.sat F.SWB_ECC_CNT_CORR 1
  else
    let s1 := (s.markRow key bits).eccUncorr
    match s1.bolt.swb.frames.find? fun f => f.2.cells.contains cell with
    | some (id, _) => (s1.mapStored id fun x => { x with poisoned := true }).failCells [cell]
    | none =>
      if s1.bolt.swb.retired.contains cell then s1
      else
        let runs := s1.bolt.swb.freeCells.flatMap fun r =>
          if r.1 ≤ cell ∧ cell < r.1 + r.2 then
            ([(r.1, cell - r.1), (cell + 1, r.1 + r.2 - cell - 1)]).filter fun x => x.2 != 0
          else [r]
        { s1 with bolt.swb.freeCells := runs }.retireCell cell

/-- SCRUB_READ: the row the scrubber stands at, in one bank; after bank 15 it moves to the next (spec/07 R167). -/
def execScrubRead (bank : Fin 16) (bits : Nat) (s : State) : Step :=
  .next (s.ifBolt fun s =>
    if s.isOn .swb && s.on F.SWB_CTRL_SCRUB_EN then
      let cell := s.get F.SWB_SCRUB_STATUS_CELL
      let s1 := s.scrubRow cell bank.val bits
      if bank.val < 15 then s1
      else if cell + 1 < 196608 then s1.set F.SWB_SCRUB_STATUS_CELL (cell + 1)
      else (s1.set F.SWB_SCRUB_STATUS_CELL 0).sat F.SWB_SCRUB_STATUS_PASSES 1
    else s)

/-- ARM: the next data write flips BITS bits (spec/07 R165). -/
def execEccArm (w : Requester) (v : Word) (s : State) : Step :=
  .next (s.command w R.SWB_ECC_INJECT v fun s =>
    if s.on F.SWB_ECC_INJECT_ARM then { s with bolt.swb.injectBits := some (s.get F.SWB_ECC_INJECT_BITS) } else s)

/-- CREDIT_RX: the latest GRANT taken; what the partner sent and this side never accounted for is granted again; a RING_CTRL
frame that waited for credit goes (spec/07 R174 to R176; spec/08 R190). -/
def execCreditRx (p : Fin 8) (msg : BitVec 504) (s : State) : Step :=
  .next (s.ifBolt fun s =>
    if s.elrek p.val && s.portUp p.val then
      (s.each (List.range 8) fun c s =>
        let g := slice msg.toNat (312 + 24 * c) 24
        let sent := slice msg.toNat (120 + 24 * c) 24
        let lost := (sent + 2 ^ 24 - (s.port p.val).recv.getD c 0) % 2 ^ 24
        let x := s.port p.val
        (s.setPort p.val { x with granted := setAt x.granted c g, recv := setAt x.recv c sent }).grantAdd p.val c lost).flushCl7
        p.val
    else s)

/-- CREDIT_STALL: the head frame of a class has waited STALL_CYCLES cycles for credit; raised once for a frame
(spec/07 R174). -/
def execCreditStall (p : Fin 8) (c : Fin 8) (s : State) : Step :=
  .next (s.ifBolt fun s =>
    match (s.port p.val).stall.getD c.val none with
    | none => s
    | some w =>
      if s.elrek p.val && !w.told && s.get F.SWB_CREDIT_CFG_STALL_CYCLES ≤ w.cycles then
        (s.setPort p.val { s.port p.val with stall := setAt (s.port p.val).stall c.val (some { w with told := true }) }).irq
          bSwb 7
      else s)

/-- PAUSE_REPEAT: repeated while SWB_FREE is below SWB_FREE_HIGH, then ended with ROWS 0 (spec/07 R178). -/
def execPauseRepeat (s : State) : Step :=
  .next (s.ifBolt fun s =>
    if !s.on F.SWB_STATUS_PAUSING then s
    else if s.get F.SWB_FREE_HIGH_CELLS ≤ s.freeCount then (s.set F.SWB_STATUS_PAUSING 0).sendPause 0
    else s.sendPause (s.get F.SWB_PAUSE_CFG_ROWS))

/-- PAUSE_RX: the masked classes stop for ROWS rows; a later PAUSE replaces the earlier (spec/07 R178). -/
def execPauseRx (p : Fin 8) (msg : BitVec 504) (s : State) : Step :=
  .next (s.ifBolt fun s =>
    if s.elrek p.val && s.portUp p.val then
      s.setPort p.val { s.port p.val with pauseMask := slice msg.toNat 498 6, pauseRows := slice msg.toNat 480 16 }
    else s)

/-- A class is stopped by PAUSE on a port; CL6 and CL7 never are (spec/07 R178). -/
def State.paused (s : State) (p c : Nat) : Bool :=
  decide ((s.port p).pauseRows ≠ 0) && decide (c < 6) && bit (s.port p).pauseMask c

/-- A frame may start on a port: credit and PAUSE on an Elrek port (spec/07 R174, R178). -/
def State.mayStart (s : State) (p c cells : Nat) : Bool :=
  if s.elrek p then decide (cells ≤ s.avail p c) && !s.paused p c && s.portUp p else true

/-- RESIDUE_EXPIRY: copies that have not started are discarded and counted (spec/07 R180). -/
def State.residueExpiry (s : State) (id : Nat) : State :=
  match s.stored id with
  | none => s
  | some x =>
    if x.residue.any fun r => s.get F.SWB_MC_CFG_RESIDUE < r then
      let late := x.copies.filter Copy.unstarted
      let s1 := s.each late fun c s => (s.sat (F.SWB_MC_RESIDUE_DROP c.port) 1).dropCopy id c.queue
      if late.isEmpty then s1 else s1.irq bSwb 6
    else s

/-- RESIDUE_EXPIRY: of every frame whose residue timer has run out. -/
def execResidueExpiry (s : State) : Step :=
  .next (s.ifBolt fun s => s.each (s.bolt.swb.frames.map (·.1)) fun id s => s.residueExpiry id)

/-- DRAIN_DONE: the drain counter is 0; the old words are released (spec/07 R185). -/
def execDrainDone (i : Fin 1024) (s : State) : Step :=
  .next (s.ifBolt fun s => match (s.entry i.val).drain with
    | some (_, _, 0) => (s.mapEntry i.val fun e => { e with drain := none }).irq bSwb 5
    | _ => s)

/-- A trunk leaves UP: the copy on the wire is lost, copies of BUDDY entries queued for it are discarded; both sides
clear their credit counters (spec/07 R176, R186). -/
def State.switchTrunkDown (s : State) (p : Nat) : State :=
  let s1 := match (s.port p).onWire with
    | some (id, k) => (s.sat (F.SWB_MC_LINK_LOST p) 1).endCopy id k true
    | none => s
  let s2 := s1.each s1.bolt.swb.frames fun f s =>
    if (s.entryGen f.2.entry f.2.gen).buddy then
      s.each (f.2.copies.filter fun c => c.port = p && c.unstarted) fun c s =>
        (s.sat (F.SWB_MC_BUDDY_CUT p) 1).dropCopy f.1 c.queue
    else s
  s2.setPort p { s2.port p with
    onWire := none, wireSent := 0, granted := List.replicate 8 0, sent := List.replicate 8 0, grant := List.replicate 8 0
    recv := List.replicate 8 0, withheld := List.replicate 8 0, pauseRows := 0, ctrlQ := [], cl7 := []
    stall := List.replicate 8 none }

/-- A port enters UP: the first GRANT is the live landing reserve minus the cells still held there; what is held beyond it is
withheld (spec/07 R173, R176). -/
def State.switchPortUp (s : State) (p : Nat) : State :=
  let live (c : Nat) := s.get (F.SWB_LAND_LIVE_CELLS (p * 8 + c))
  let held (c : Nat) := s.get (F.SWB_LAND_HELD_CELLS (p * 8 + c))
  s.setPort p { s.port p with
    wraps := 0, rxWraps := 0
    grant := (List.range 8).map fun c => live c - held c
    withheld := (List.range 8).map fun c => held c - live c }

/-- A queue moves to the tail of the same entry's queue on the other trunk, in one step and in order (spec/07 R186). -/
def State.moveQueue (s : State) (i fromQ toQ : Nat) : State :=
  s.each [0, 1, 2, 3] fun g s =>
    let a := qKey i g fromQ
    let b := qKey i g toQ
    s.each (s.queue a).frames fun id s =>
      let s1 := s.unqueue a id
      (s1.mapCopy id a fun c => { c with queue := b, port := toQ, st := .queued }).append b id

/-- A class reserve follows the sewn bank's word or SWB_RES: ALPHA and a smaller reserve at once, a larger one as shared cells
are free (spec/07 R173). -/
def State.setReserve (s : State) (i : Nat) (w : Word) : State :=
  let target := getBits w 0 18
  let live := s.get (F.SWB_RES_LIVE_CELLS i)
  (s.sets [(F.SWB_RES_LIVE_ALPHA i, getBits w 18 4), (F.SWB_RES_LIVE_CELLS i, min live target)]).growTo i target

/-- A landing reserve follows the sewn bank's word or SWB_LAND: a smaller one withholds credit, a larger one grows
(spec/07 R173). -/
def State.setLanding (s : State) (j : Nat) (w : Word) : State :=
  let target := getBits w 0 18
  let live := s.get (F.SWB_LAND_LIVE_CELLS j)
  let s1 := (s.set (F.SWB_LAND_LIVE_CELLS j) (min live target)).growTo (96 + j) target
  let p := j / 8
  let c := j % 8
  let x := s1.port p
  if s.portUp p then s1.setPort p { x with withheld := setAt x.withheld c (x.withheld.getD c 0 + (live - target)) } else s1

/-- A cell taken out of the runs of free cells. -/
def dropCell (c : Nat) (l : List (Nat × Nat)) : List (Nat × Nat) :=
  l.flatMap fun r => if r.1 ≤ c ∧ c < r.1 + r.2 then
      (if r.1 < c then [(r.1, c - r.1)] else []) ++ (if c + 1 < r.1 + r.2 then [(c + 1, r.1 + r.2 - (c + 1))] else [])
    else [r]

/-- The retire table of NVS: the cells of its valid entries (spec/07 R168; spec/20 R439). -/
def State.retireTable (s : State) : List Nat :=
  (List.range (min 1024 (s.itemNum 0x40))).filterMap fun n =>
    let w := leAt (s.nvsBytes (0x400 + 4 * n) 4) 0 4
    if w / 2 ^ 30 = 2 then some (w % 2 ^ 18) else none

/-- Cells retired here, and those that the retire table would add. -/
def State.retiredToBe (s : State) : Nat :=
  s.bolt.swb.retired.length + (s.retireTable.filter fun c => !s.bolt.swb.retired.contains c).length

/-- The check of SWB at enable (spec/07 R188, R168). -/
def State.checkSwb (s : State) : Option (Nat × Nat) :=
  let res (i : Nat) := s.get (F.SWB_RES_CELLS i)
  let land (j : Nat) := s.get (F.SWB_LAND_CELLS j)
  let limits := s.get ⟨R.SWB_CTRL, 3, 29⟩ + s.get ⟨R.SWB_FREE_LOW, 18, 14⟩ + s.get ⟨R.SWB_FREE_HIGH, 18, 14⟩
  if limits ≠ 0 || ((List.range 96).any fun i => s.on ⟨R.SWB_RES i, 22, 10⟩) ||
      ((List.range 64).any fun j => s.on ⟨R.SWB_LAND j, 18, 14⟩) then some (0x02, 0xFFFF)
  else if !s.seamUp then some (0x05, 0x11)
  else match (List.range 96).find? fun i => 9 < s.get (F.SWB_RES_ALPHA i) with
    | some i => some (0x11, i)
    | none =>
      match (List.range 96).find? fun i => res i != 0 && !s.hasFunction (i / 8) with
      | some i => some (0x03, i)
      | none =>
        match (List.range 64).find? fun j => land j != 0 && (!s.hasFunction (j / 8) || !s.elrek (j / 8)) with
        | some j => some (if s.hasFunction (j / 8) then 0x10 else 0x03, 0x100 + j)
        | none => match (List.range 64).find? fun j => 131071 < land j with
        | some j => some (0x01, 0x100 + j)
        | none =>
          if s.get F.SWB_FREE_HIGH_CELLS ≤ s.get F.SWB_FREE_LOW_CELLS then some (0x12, 0xFFFF)
          else if 196608 < ((List.range 96).map res).sum + ((List.range 64).map land).sum +
              (s.bolt.swb.retxReserve.map (·.2)).sum + s.retiredToBe then some (0x07, 0xFFFF)
          else none

end Sys2Proof.Machine
end

