-- ==== Sys2Proof/Machine/Sched.lean ====
section
/-! DEFINITION. The schedulers (spec/08): banks as they govern a cycle, gate lists, deficit round robin, buckets, slot
lists, undo and rebuild, starts on the wire, sampling. -/

namespace Sys2Proof.Machine

/-- A cycle in ps. -/
abbrev cyclePs : Nat := 125000000

/-- A word of the bank in a role: 0 SEWN, 1 BASTED, 2 ALARM (spec/09 R211). -/
def State.physWord (s : State) (b off : Nat) : Nat := (getKey 0 (off / 4) (s.bolt.alt.banks.getD b [])).toNat

/-- The physical bank in a role. -/
def State.role (s : State) (r : Nat) : Nat := s.bolt.alt.roles.getD r r

/-- The exchange of two roles (spec/09 R210). -/
def swapRoles (i : Nat) (rs : List Nat) : List Nat :=
  setAt (setAt rs 0 (rs.getD i 0)) i (rs.getD 0 0)

/-- The pending changes as (target, role exchanged with SEWN), in order of target (spec/09 R225). -/
def State.changes (s : State) : List (Nat × Nat) :=
  let f (c : Option Change) (r : Nat) : List (Nat × Nat) := (c.map fun x => (x.target, r)).toList
  let l := f s.bolt.alt.sew 1 ++ f s.bolt.alt.unpick 1 ++ f s.bolt.alt.alarm 2 ++ f s.bolt.alt.alarmUnpick 2
  l.foldl (fun acc x => acc.filter (fun y => !later y.1 x.1) ++ [x] ++ acc.filter (fun y => later y.1 x.1)) []

/-- The physical bank that governs a cycle (spec/08 R201, spec/09 R223); none: the bare plan (spec/09 R214). -/
def State.governs (s : State) (cyc : Nat) : Option Nat :=
  let rs := (s.changes.filter fun c => !later c.1 cyc).foldl (fun rs c => swapRoles c.2 rs) s.bolt.alt.roles
  let b := rs.getD 0 0
  if s.bolt.alt.checked.getD b false then some b else none

/-- A word of an entry's record in the bank that governs a cycle. -/
def State.recWord (s : State) (cyc i off : Nat) : Option Nat :=
  (s.governs cyc).map fun b => s.physWord b (0x4000 + 0x20 * i + off)

/-- QUANTUM of an entry (spec/08 R196, spec/09 R214). -/
def State.quantum (s : State) (cyc i : Nat) : Nat := ((s.recWord cyc i 0).map fun w => slice w 0 17).getD 9664

/-- A bucket of an entry: word offset 4 policing, 0x0C shaping; RATE, EN, ACT, BURST (spec/08 R197). -/
def State.bucket (s : State) (cyc i off : Nat) : Nat × Bool × Nat × Nat :=
  match s.recWord cyc i off, s.recWord cyc i (off + 4) with
  | some a, some b => (slice a 0 27, bit a 27, slice a 28 2, slice b 0 23)
  | _, _ => (0, false, 0, 0)

/-- The path pin of a bucket of an entry: 0 east, 1 west; an entry that is not elastic follows bucket 0
(spec/09 R212). -/
def State.pin (s : State) (cyc i b : Nat) : Nat :=
  match s.recWord cyc i 0x14, s.recWord cyc i 0x18, s.recWord cyc i 0x1C with
  | some lo, some hi, some w => let b := if bit w 20 then b else 0; b2n (bit (lo + 2 ^ 32 * hi) b)
  | _, _, _ => 0

/-- The record of an entry is ELASTIC (spec/09 R212). -/
def State.elastic? (s : State) (cyc i : Nat) : Bool := ((s.recWord cyc i 0x1C).map fun w => bit w 20).getD false

/-- The gate list of a port in a physical bank: (END_NS, OPEN) (spec/08 R192). -/
def State.bankGates (s : State) (b p : Nat) : List (Nat × Nat) :=
  let n := slice (s.physWord b (0x400 + 4 * p)) 0 9
  if n = 0 then [(125000, 0x7F)]
  else (List.range n).map fun e =>
    let w := s.physWord b (0x1000 + 0x400 * p + 4 * e)
    (slice w 0 17, slice w 24 7)

/-- RATE of a port in Mbit/s. -/
def State.rate (s : State) (p : Nat) : Nat := s.get (F.SCH_PORT_RATE_RATE p)

/-- BOOK of a port in Mbit/s. -/
def State.book (s : State) (p : Nat) : Nat := s.get (F.SCH_PORT_BOOK_BOOK p)

/-- The x4 link payload in Mbit/s of a PCIe generation, 1 to 4 (spec/08 R499). -/
def pciePayload (gen : Nat) : Nat := if gen = 4 then 63015 else if gen = 3 then 31507 else if gen = 2 then 16000 else 8000

/-- L of a PCIE-mode quad: link payload at the highest generation that QMODE permits (spec/08 R499). -/
def State.pcieL (s : State) (q : Nat) : Nat := pciePayload (4 - slice (s.bolt.pat.inForce.qmode.getD q 5) 5 2)

/-- 8b/10b payload of a DisplayPort lane in Mbit/s by rate code, and lanes by lane code (spec/08 R499). -/
def dpLaneRate (rate : Nat) : Nat := if rate = 0 then 1296 else if rate = 1 then 2160 else if rate = 2 then 4320 else 6480
def dpLanes (code : Nat) : Nat := 2 ^ min 2 code

/-- The bookable rate of a port (spec/08 R499). -/
def State.bookRate (s : State) (p : Nat) : Nat :=
  if !s.hasFunction p then 0
  else if p < 2 then 96000
  else if p = 8 then 4000 else if p = 9 then 16000 else if p = 10 then 12000 else if p = 11 then 50000
  else
    let q := (p - 2) / 2
    match s.qmode q with
    | 0 => if s.on (F.LANE_PORT_CTRL_HALF_RATE p) then 24000 else 48000
    | 1 => dpLanes (s.get (F.DPE_DP_CTRL_MAX_LANES q)) * dpLaneRate (s.get (F.DPE_DP_CTRL_MAX_RATE q))
    | 2 => min 50000 (s.pcieL q)
    | 3 => 20000
    | 4 => 25000
    | _ => 0

/-- The rate of the adapter behind a port that is not Elrek: that to which a DisplayPort or PCIe link has trained, 16 Gbit/s on
P10 (spec/02 R40), else the bookable rate (spec/08 R191, R499). -/
def State.adapterRate (s : State) (p : Nat) : Nat :=
  let b := s.bookRate p
  if p = 10 then 16000
  else if p < 2 || 8 ≤ p || b = 0 then b
  else
    let q := (p - 2) / 2
    let x := s.bolt.dp.getD q DpQuad.reset
    let dp := if p % 2 = 0 then x.rxMbit else x.txMbit
    if s.qmode q = 1 then (if dp = 0 then b else min b dp)
    else if s.qmode q = 2 && s.on (F.PCBQ_STATUS_LINK_UP q) then
      min b (pciePayload (s.get (F.PCBQ_STATUS_SPEED q)) * s.get (F.PCBQ_STATUS_WIDTH q) / 4)
    else b

/-- BOOK refreshed for some ports, and RATE of those that are not Elrek (spec/08 R191, R499). -/
def State.refreshBook (s : State) (ps : List Nat) : State :=
  s.each ps fun p s =>
    (s.set (F.SCH_PORT_BOOK_BOOK p) (s.bookRate p)).when (!s.elrek p) fun s =>
      s.set (F.SCH_PORT_RATE_RATE p) (s.adapterRate p)

/-- Counted length of a frame of a payload length on a port: B and OVH (spec/08 R191). -/
def State.countedLen (s : State) (p len : Nat) : Nat :=
  (if s.elrek p then 64 * stitchesOf len (s.keyed p) else if 8 ≤ p then 20 + len else len) + s.get (F.SCH_PORT_CFG_OVH p)

/-- How long `cl` counted bytes last on a port, in ps (spec/08 R191): 8 × CL / r, rounded up. -/
def State.lastsPs (s : State) (p cl : Nat) : Nat :=
  let r := s.rate p
  if r = 0 then 2 * cyclePs else (8 * cl * 1000000 + r - 1) / r

/-- A gate list stretched while a port runs below BOOK (spec/08 R200): entries as (end, OPEN), the total shift, and
whether a protected entry was cut short. -/
def stretch (book rate protect : Nat) :
    List (Nat × Nat) → Nat → Nat → Nat → List (Nat × Nat) × Nat × Bool
  | [], _, _, total => ([], total, false)
  | (e, o) :: t, start, shift, total =>
    let len := e - start
    if o &&& protect != 0 then
      let len' := (len * book + rate - 1) / rate
      let e' := start + shift + len'
      let (r, tot, sh) := stretch book rate protect t e (shift + (len' - len)) (total + (len' - len))
      if 125000 ≤ e' then ([(125000, o)], tot, decide (125000 < e')) else ((e', o) :: r, tot, sh)
    else if shift < len then
      let (r, tot, sh) := stretch book rate protect t e 0 total
      ((e, o) :: r, tot, sh)
    else stretch book rate protect t e (shift - len) total

/-- The gate list of a port is rebuilt in each cycle: RATE below BOOK on an Elrek port under pressure or at half rate,
or on another port (spec/08 R200). -/
def State.pressed (s : State) (p : Nat) : Bool :=
  decide (s.rate p < s.book p) && decide (s.rate p ≠ 0) &&
    if s.elrek p then s.on (F.LANE_PORT_STATUS_PRESSURE p) || (s.on (F.LANE_PORT_STATUS_HALF p) && s.book p = 48000)
    else true

/-- Alarm pre-emption covers a cycle (spec/08 R206). -/
def State.preempts (s : State) (cyc : Nat) : Bool :=
  match s.bolt.alt.preempt with
  | some n => s.on F.SCH_STATUS_PREEMPT && later n cyc
  | none => false

/-- The slot list built for a cycle on a port. -/
def State.builtList (s : State) (p cyc : Nat) : Option SlotList := (s.psch p).lists.find? fun l => l.cycle = cyc

/-- The gate list of a port as it would be built now for a cycle: that of the bank that governs it, stretched under pressure;
the total shift; whether a protected entry is cut short (spec/08 R192, R200). -/
def State.listGates (s : State) (p cyc : Nat) : List (Nat × Nat) × Nat × Bool :=
  let raw := match s.governs cyc with
    | some b => s.bankGates b p
    | none => [(125000, 0x7F)]
  if s.pressed p then stretch (s.book p) (s.rate p) (s.get (F.SCH_PORT_CFG_PROTECT p)) raw 0 0 0 else (raw, 0, false)

/-- The gate list a port uses in a cycle: as built, CL6 open throughout while pre-emption covers the cycle (spec/08 R192, R200,
R206). -/
def State.gates (s : State) (p cyc : Nat) : List (Nat × Nat) :=
  let l := match s.builtList p cyc with
    | some x => x.gates
    | none => (s.listGates p cyc).1
  if s.preempts cyc then l.map fun e => (e.1, e.2 ||| 0x40) else l

/-- The end of the entry that holds an offset (ps), with its gates; past the list the next cycle's begins. -/
def entryAt (l : List (Nat × Nat)) (t : Nat) : Nat × Nat :=
  match l.find? fun e => t < e.1 * 1000 with
  | some e => (e.1 * 1000, e.2)
  | none => (cyclePs, 0)

/-- The run of open entries of a class from the start of a list: its end, and whether it takes the whole list. -/
def openRun (c : Nat) : List (Nat × Nat) → Nat → Nat × Bool
  | [], e => (e, true)
  | (e, o) :: t, last => if bit o c then openRun c t (e * 1000) else (last, false)

/-- The close of the window of a class that is open at an offset of a cycle, as an offset of that cycle; the window runs
on across the boundary (spec/08 R193). -/
def State.closeAt (s : State) (p c cyc t : Nat) : Nat :=
  let l := (s.gates p cyc).filter fun e => t < e.1 * 1000
  match openRun c l t with
  | (e, false) => e
  | (_, true) => cyclePs + (openRun c (s.gates p ((cyc + 1) % 2 ^ 32)) 0).1

/-- A frame of class c lasting d ps may start at offset t of a cycle (spec/08 R194). -/
def State.fits (s : State) (p c cyc t d : Nat) : Bool :=
  bit (entryAt (s.gates p cyc) t).2 c && decide (t + d ≤ s.closeAt p c cyc t)

/-- The offset of an instant of a cycle from the start of the present cycle, ps. -/
def State.absPs (s : State) (cyc t : Nat) : Nat := (cyc + 2 ^ 32 - s.cycle) % 2 ^ 32 * cyclePs + t

/-- Token additions that an instant, given as an offset from the start of the present cycle, has behind it and that are still
to come (spec/08 R197, R199). -/
def State.additions (s : State) (at' : Nat) : Nat :=
  if at' < s.bolt.sch.tokNext then 0 else (at' - s.bolt.sch.tokNext) / 40960 + 1

/-- Tokens after `n` additions (spec/08 R197). -/
def gain (rate burst : Nat) (tok : Int) (rem n : Nat) : Int :=
  min (tok + ((rem + n * (rate * 2 ^ 24 * 512)) / 10 ^ 8 : Nat)) (max tok (burst * 2 ^ 24 : Nat))

/-- Shaping TOKENS of an entry for a start at an instant of a cycle, in 2^-24 byte, additions up to then counted, under the
bank that governs that cycle; a bucket that comes into use with it holds BURST then, less what placements in it have taken
already (spec/08 R197, R199; spec/09 R223). -/
def State.shapeTokens (s : State) (i cyc at' : Nat) : Int :=
  let (r0, e0, _, b0) := s.bucket s.cycle i 0x0C
  let (r1, e1, _, b1) := s.bucket cyc i 0x0C
  let e := s.entry i
  let n := s.additions at'
  if r0 = r1 ∧ e0 = e1 ∧ b0 = b1 then gain r0 b0 e.shpTok e.shpRem n
  else
    let d := if s.bucket ((s.cycle + 1) % 2 ^ 32) i 0x0C = s.bucket cyc i 0x0C then 1 else 2
    let n0 := min n (s.additions (d * cyclePs))
    let kept : Int := if e0 then min (gain r0 b0 e.shpTok e.shpRem n0) (b1 * 2 ^ 24 : Nat)
      else (b1 * 2 ^ 24 : Nat) + min 0 e.shpTok
    gain r1 b1 kept 0 (n - n0)

/-- A frame may be placed: received and checked, or eligible for cut-through (spec/07 R181). -/
def State.cutOk (s : State) (x : Stored) : Bool :=
  let k := x.frame.hdr.kind.toNat
  s.on F.SWB_CTRL_CT_EN && x.frame.hdr.ctOk && (s.entry x.entry).ctOk && decide (2 ≤ x.need) &&
    (k = kStream || k = kState || ((k = kData || k = kDatagram) && x.ingress < 2 && 512 ≤ x.frame.hdr.length.toNat))

/-- Frames of an older generation of a queue's entry wait on the same port: they leave first (spec/07 R164, R184). -/
def State.behindOld (s : State) (p k : Nat) : Bool :=
  match (s.entry (k / 16)).drain with
  | some (g, _, _) => decide (g ≠ k / 4 % 4) && [0, 1, 2].any fun q =>
      let a := qKey (k / 16) g q
      decide (s.queuePort a = p) && !(s.queue a).frames.isEmpty
  | none => false

/-- What the head frame of a queue needs for a start at an offset of a cycle: its identity, counted length and duration,
where it is shaper-eligible; none otherwise (spec/08 R196, R199). -/
def State.headPlan (s : State) (p cyc t k : Nat) : Option (Nat × Nat × Nat) :=
  match (s.queue k).frames with
  | [] => none
  | id :: _ =>
    match s.stored id with
    | none => none
    | some x =>
      if !(x.complete || (s.cutOk x && !(x.copies.any fun c => c.queue = k && c.whole))) || s.behindOld p k then none
      else
        let cl := s.countedLen p x.frame.hdr.length.toNat
        let (_, en, _, _) := s.bucket cyc (k / 16) 0x0C
        if x.shaped.isSome || x.frame.hdr.kind.toNat = kKnot || !en ||
            ((cl * 2 ^ 24 : Nat) : Int) ≤ s.shapeTokens (k / 16) cyc (s.absPs cyc t)
        then some (id, cl, s.lastsPs p cl) else none

/-- The active list of a port and class with its head sent to the tail. -/
def State.rotate (s : State) (p c : Nat) : State :=
  s.mapPsch p fun x => { x with
    active := setAt x.active c (match x.active.getD c [] with
      | [] => []
      | k :: t => t ++ [k])
    visiting := setAt x.visiting c false }

/-- The wait of a frame at its gate, counted once (spec/08 R194). -/
def State.guardHold (s : State) (p id k : Nat) : State :=
  match s.stored id with
  | none => s
  | some x =>
    if x.copies.any fun c => c.queue = k && !c.held then
      (s.sat (F.SCH_PORT_HOLD_GUARD_HOLD p) 1).mapCopy id k fun c => { c with held := true }
    else s

/-- Placements in order of their start. -/
def insertSlot (abs : Placement → Nat) (x : Placement) : List Placement → List Placement
  | [] => [x]
  | y :: t => if abs x < abs y then x :: y :: t else y :: insertSlot abs x t

/-- The head frame of a queue placed at an offset of a cycle (spec/08 R196, R199, R201). -/
def State.place (s : State) (p c cyc t k id cl len before : Nat) : State :=
  let pl : Placement := ⟨cyc, t, len, id, k, c, cl, before, s.bolt.sch.nextOrd, false⟩
  let s0 := { s with bolt.sch.nextOrd := s.bolt.sch.nextOrd + 1 }
  let s1 := s0.mapPsch p fun x => { x with slots := insertSlot (fun y => s.absPs y.cycle y.start) pl x.slots }
  let s2 := match s1.stored id with
    | some x =>
      if x.shaped.isSome || x.frame.hdr.kind.toNat = kKnot || !(s.bucket cyc (k / 16) 0x0C).2.1 then s1
      else (s1.mapStored id fun x => { x with shaped := some cl }).mapEntry (k / 16) fun e =>
        { e with shpTok := e.shpTok - (cl * 2 ^ 24 : Nat) }
    | none => s1
  let s3 := s2.mapCopy id k fun y => { y with st := .placed }
  let s4 := s3.mapQueue k fun q => { q with frames := q.frames.erase id, deficit := before - cl }
  s4.activate k

/-- Deficit round robin on the active list of a class at an offset of a cycle: a frame placed, with its duration, or
none after a whole round without one (spec/08 R196). -/
def State.serve (s : State) (p c cyc t : Nat) : Nat → Nat → State × Option Nat
  | 0, _ => (s, none)
  | fuel + 1, passed =>
    let l := (s.psch p).active.getD c []
    match l with
    | [] => (s, none)
    | k :: _ =>
      if l.length ≤ passed then (s, none)
      else
        match s.headPlan p cyc t k with
        | none => (s.rotate p c).serve p c cyc t fuel (passed + 1)
        | some (id, cl, len) =>
          if !s.fits p c cyc t len then ((s.guardHold p id k).rotate p c).serve p c cyc t fuel (passed + 1)
          else if (s.psch p).visiting.getD c false then
            if cl ≤ (s.queue k).deficit then (s.place p c cyc t k id cl len (s.queue k).deficit, some len)
            else (s.rotate p c).serve p c cyc t fuel 0
          else
            let s1 := s.mapQueue k fun q => { q with deficit := q.deficit + s.quantum cyc (k / 16) }
            (s1.mapPsch p fun x => { x with visiting := setAt x.visiting c true }).serve p c cyc t fuel passed

/-- The highest class whose gate is open and that has an eligible frame (spec/08 R189). -/
def State.serveClasses (s : State) (p cyc t : Nat) : List Nat → State × Option Nat
  | [] => (s, none)
  | c :: cs =>
    if bit (entryAt (s.gates p cyc) t).2 c then
      match s.serve p c cyc t (1024 + 512 * ((s.psch p).active.getD c []).length) 0 with
      | (s1, some len) => (s1, some len)
      | (s1, none) => s1.serveClasses p cyc t cs
    else s.serveClasses p cyc t cs

/-- The next instant at which a port may place: the end of the gate entry, or a token addition that makes a head frame
eligible. -/
def State.nextTry (s : State) (p cyc t : Nat) : Nat :=
  let gate := (entryAt (s.gates p cyc) t).1
  let waits := ((s.psch p).active.flatMap id).filterMap fun k =>
    match (s.queue k).frames with
    | [] => none
    | id :: _ => (s.stored id).bind fun x =>
      let (rate, en, _, _) := s.bucket cyc (k / 16) 0x0C
      let now := s.absPs cyc t
      let cl : Int := (s.countedLen p x.frame.hdr.length.toNat * 2 ^ 24 : Nat)
      let e := s.entry (k / 16)
      let per := rate * 2 ^ 24 * 512
      if en && x.shaped.isNone && s.shapeTokens (k / 16) cyc now < cl && rate ≠ 0 then
        let n := ((cl - e.shpTok).toNat * 10 ^ 8 - e.shpRem + per - 1) / per
        let next := s.bolt.sch.tokNext + s.additions now * 40960
        some (max next (s.bolt.sch.tokNext + (n - 1) * 40960) - s.absPs cyc 0)
      else none
  waits.foldl min (if gate ≤ t then t + 1 else gate)

/-- A slot list filled in time order from an offset of a cycle (spec/08 R201); a port holds at most 4,096 placements. -/
def State.fill (s : State) (p cyc : Nat) : Nat → Nat → State
  | 0, _ => s
  | fuel + 1, t =>
    if cyclePs ≤ t ∨ (s.psch p).active.all (·.isEmpty) then s
    else if 4096 ≤ (s.psch p).slots.length then (s.sat (F.SCH_PORT_STAGE_FULL p) 1).irq bSch 4
    else
      match s.serveClasses p cyc t [6, 5, 4, 3, 2, 1, 0] with
      | (s1, some len) => s1.fill p cyc fuel (t + len)
      | (s1, none) => s1.fill p cyc fuel (s1.nextTry p cyc t)

/-- The instant at which the placements of a port end, as an offset of a cycle. -/
def State.busyUntil (s : State) (p cyc : Nat) : Nat :=
  let base := s.absPs cyc 0
  (s.psch p).slots.foldl (fun m y => max m (s.absPs y.cycle y.start + y.len - base)) 0

/-- The gate list of a cycle's slot list is taken, with BORROW_NS; a cycle counts once in SHORT (spec/08 R200, R201). -/
def State.noteList (s : State) (p cyc : Nat) : State :=
  let (g, total, short) := s.listGates p cyc
  let was := (s.builtList p cyc).any (·.short)
  let s1 := (s.set (F.SCH_PORT_PRESS_BORROW_NS p) (min total 65535)).mapPsch p fun x => { x with
    lists := (x.lists.filter fun l => decide (l.cycle ≠ cyc) && decide ((l.cycle + 2 ^ 32 - s.cycle) % 2 ^ 32 < 3)) ++
      [⟨cyc, s.governs cyc, g, short || was⟩] }
  if short && !was then (s1.sat (F.SCH_PORT_PRESS_SHORT p) 1).irq bSch 3 else s1

/-- The list of a cycle built; in the present cycle nothing starts earlier than LEAD_NS ahead (spec/08 R201). -/
def State.buildList (s : State) (p cyc : Nat) : State :=
  let lead := if cyc = s.cycle then s.bolt.sch.now + s.get F.SCH_STAGE_CFG_LEAD_NS * 1000 else 0
  ((s.noteList p cyc).fill p cyc 16384 (max lead (s.busyUntil p cyc))).mapPsch p fun x => { x with built := some cyc }

/-- A port has lists to build: the scheduler is ON and an Elrek port is UP. -/
def State.schedules (s : State) (p : Nat) : Bool :=
  s.isOn .sch && s.isOn .swb && (if s.elrek p then s.portUp p else s.hasFunction p)

/-- The lists of cycles k, k + 1 and k + 2 (spec/08 R201). -/
def State.buildAll (s : State) (p : Nat) : State :=
  if s.schedules p then
    s.each [0, 1, 2] fun d s => s.buildList p ((s.cycle + d) % 2 ^ 32)
  else s

/-- Build at a cycle boundary: the list for k + 2, or all three where none stands (spec/08 R201). -/
def State.buildPort (s : State) (p : Nat) : State :=
  if s.schedules p then
    match (s.psch p).built with
    | none => s.buildAll p
    | some _ => s.buildList p ((s.cycle + 2) % 2 ^ 32)
  else s.mapPsch p fun x => { x with built := none, lists := [] }

/-- Placements in the order in which they were placed. -/
def byOrder (l : List Placement) : List Placement :=
  l.foldl (fun acc x => acc.filter (fun y => y.ord < x.ord) ++ [x] ++ acc.filter fun y => !decide (y.ord < x.ord)) []

/-- Placements returned to the heads of their queues in the order in which they were placed; DEFICIT as before the
earliest; the shaping charge refunded where every other copy has been returned or discarded (spec/08 R204). -/
def State.giveBack (s : State) (p : Nat) (pls : List Placement) : State :=
  let s1 := s.mapPsch p fun x => { x with
    slots := x.slots.filter fun y => !pls.contains y
    late := x.late.filter fun y => !pls.contains y }
  s1.each (byOrder pls).reverse fun pl s =>
    let s2 := s.mapQueue pl.queue fun q => { q with frames := pl.frame :: q.frames, deficit := pl.deficit }
    let s3 := (s2.mapCopy pl.frame pl.queue fun c => { c with st := .queued }).activate pl.queue
    match s3.stored pl.frame with
    | some x =>
      if (x.copies.all fun c => c.st = .queued) && x.residue.isNone then
        let (_, en, _, burst) := s3.bucket s3.cycle (pl.queue / 16) 0x0C
        let back := ((x.shaped.getD 0) * 2 ^ 24 : Nat)
        let top : Int := if en then (burst * 2 ^ 24 : Nat) else 0
        (s3.mapStored pl.frame fun y => { y with shaped := none }).mapEntry (pl.queue / 16) fun e =>
          { e with shpTok := min (e.shpTok + back) (max e.shpTok top) }
      else s3
    | none => s3

/-- Unfixed placements moved behind what stands before them, in their order; one that no longer fits spills
(spec/08 R202). -/
def State.settle (s : State) (p : Nat) : State :=
  let step (acc : List Placement × List Placement × Nat) (y : Placement) :=
    let a := s.absPs y.cycle y.start
    if y.isFixed then (acc.1 ++ [y], acc.2.1, max acc.2.2 (a + y.len))
    else
      let a' := max a acc.2.2
      let cyc := (s.cycle + a' / cyclePs) % 2 ^ 32
      let t := a' % cyclePs
      if s.fits p y.cls cyc t y.len && !(acc.2.1.any fun z => z.queue = y.queue) then
        (acc.1 ++ [{ y with cycle := cyc, start := t }], acc.2.1, a' + y.len)
      else (acc.1, acc.2.1 ++ [y], acc.2.2)
  let r := (s.psch p).slots.foldl step ([], [], 0)
  if r.2.1.isEmpty then s.mapPsch p fun x => { x with slots := r.1 }
  else ((s.mapPsch p fun x => { x with slots := r.1 ++ r.2.1 }).giveBack p r.2.1).sat
    (F.SCH_PORT_HOLD_SPILL p) r.2.1.length

/-- Instants from which a frame might start: LEAD_NS ahead, the ends of placements, the edges of gate entries, in the lists
that are open, as offsets from the start of the present cycle (spec/08 R201). -/
def State.gapTries (s : State) (p : Nat) (ends : List Nat) : List Nat :=
  let base := s.bolt.sch.now + s.get F.SCH_STAGE_CFG_LEAD_NS * 1000
  let opens := [0, 1, 2].flatMap fun d =>
    d * cyclePs :: (s.gates p ((s.cycle + d) % 2 ^ 32)).map fun e => d * cyclePs + e.1 * 1000
  (base :: (ends ++ opens)).filter fun a => decide (base ≤ a) && decide (a < 3 * cyclePs)

/-- The earliest instant, at least LEAD_NS ahead and in a list that is open, at which a frame of class c lasting `len`
fits between fixed placements and those of its class or a higher one, behind every earlier frame of its entry on the port; and
whether on the way it met an open window that closes too soon (spec/08 R194, R201, R202; spec/07 R164). -/
def State.gap (s : State) (p c k len : Nat) : Option Nat × Bool :=
  let stop (y : Placement) := s.absPs y.cycle y.start + y.len
  let all := (s.psch p).slots
  let block := all.filter fun y => y.isFixed || c ≤ y.cls
  let after := ((all.filter fun y => y.queue / 16 = k / 16).map stop).foldl max 0
  let tries := (s.gapTries p (after :: block.map stop)).filter fun a => decide (after ≤ a)
  let at' (a : Nat) := ((s.cycle + a / cyclePs) % 2 ^ 32, a % cyclePs)
  let clear (a n : Nat) := block.all fun y =>
    let b := s.absPs y.cycle y.start
    decide (a + n ≤ b) || decide (b + y.len ≤ a)
  let good := tries.filter fun a => s.fits p c (at' a).1 (at' a).2 len && clear a len
  let best := good.foldl (fun m a => some (match m with
    | none => a
    | some b => min a b)) (none : Option Nat)
  (best, tries.any fun a => (match best with
    | some b => decide (a < b)
    | none => true) && bit (entryAt (s.gates p (at' a).1) (at' a).2).2 c && !s.fits p c (at' a).1 (at' a).2 len && clear a 1)

/-- A frame that became eligible after its list was built placed at the earliest instant with room; lower classes in
its way move later or spill; a wait for its next window is counted (spec/08 R194, R201, R202).  Its queue takes the quanta of as
many visits as it needs (DEDUCED, assumption log 11). -/
def State.placeLate (s : State) (k : Nat) : State :=
  let p := s.queuePort k
  let c := s.queueCls k
  if (s.psch p).built.isNone || !s.schedules p then s
  else if 4096 ≤ (s.psch p).slots.length then (s.sat (F.SCH_PORT_STAGE_FULL p) 1).irq bSch 4
  else
    let now := s.bolt.sch.now + s.get F.SCH_STAGE_CFG_LEAD_NS * 1000
    match s.headPlan p s.cycle now k with
    | none => s
    | some (id, cl, len) =>
      let g := s.gap p c k len
      let s1 := if g.2 then s.guardHold p id k else s
      match g.1 with
      | none => s1
      | some a =>
        let q := max 1 (s1.quantum s1.cycle (k / 16))
        let d := (s1.queue k).deficit
        let d' := if cl ≤ d then d else d + (cl - d + q - 1) / q * q
        (s1.place p c ((s1.cycle + a / cyclePs) % 2 ^ 32) (a % cyclePs) k id cl len d').settle p

/-- Late placement for the frames of a queue, oldest first. -/
def State.placeQueue (s : State) (k : Nat) : State := s.each (s.queue k).frames fun _ s => s.placeLate k

/-- Late placement on a port, highest class first. -/
def State.placePort (s : State) (p : Nat) : State :=
  s.each [6, 5, 4, 3, 2, 1, 0] fun c s => s.each ((s.psch p).active.getD c []) fun k s => s.placeQueue k

/-- Late placement on every port. -/
def State.placeAll (s : State) : State := s.each (List.range 12) fun p s => s.placePort p

/-- Invalidated placements returned on some ports, those that wait for their threshold as fixed ones (spec/08 R203, R204);
causes that meet before a rebuild is complete count as one event with the highest cause (spec/08 R205). -/
def State.undo (s : State) (cause : Nat) (ps : List Nat) (bad : Nat → Placement → Bool) : State :=
  let gone := ps.map fun p => (p, ((s.psch p).late ++ (s.psch p).slots).filter (bad p))
  let n := (gone.map fun g => g.2.length).sum
  let s1 := s.each gone fun g s => s.giveBack g.1 g.2
  let mask := (ps.map fun p => 2 ^ p).sum
  let s2 := match s.bolt.sch.rebuild with
    | some c => s1.sets [(F.SCH_UNDO_LAST_CAUSE, max c cause), (F.SCH_UNDO_LAST_PORTS, s.get F.SCH_UNDO_LAST_PORTS ||| mask)]
    | none => (s1.sat F.SCH_UNDO_CNT_EVENTS 1).sets [(F.SCH_UNDO_LAST_CAUSE, cause), (F.SCH_UNDO_LAST_PORTS, mask)]
  let s3 := (s2.sat F.SCH_UNDO_CNT_FRAMES n).set F.SCH_UNDO_CYCLE_CYCLE s.cycle
  ({ s3 with bolt.sch.rebuild := some (max cause (s.bolt.sch.rebuild.getD 0)) }.set F.SCH_STATUS_REBUILDING 1).irq bSch 1

/-- The invalidated lists rebuilt from the restored queues (spec/08 R205); REBUILDING reads 1 until the next token
addition or cycle boundary (assumption log 10). -/
def State.rebuildPorts (s : State) (ps : List Nat) : State :=
  s.each ps fun p s => if (s.psch p).built.isSome then (s.buildAll p).settle p else s

/-- A rebuild is complete. -/
def State.rebuilt (s : State) : State :=
  match s.bolt.sch.rebuild with
  | some _ => { s with bolt.sch.rebuild := none }.set F.SCH_STATUS_REBUILDING 0
  | none => s

/-- Lists that were built from another bank than the one that now governs their cycle: their unfixed placements are returned on
every port, and they are rebuilt (spec/08 R203, cause 1). -/
def State.bankReview (s : State) : State :=
  let stale (p cyc : Nat) : Bool := (s.psch p).lists.any fun l =>
    decide (l.cycle = cyc) && decide ((cyc + 2 ^ 32 - s.cycle) % 2 ^ 32 < 3) && decide (s.governs cyc ≠ l.bank)
  let ps := (List.range 12).filter fun p => (s.psch p).lists.any fun l => stale p l.cycle
  if ps.isEmpty then s
  else (s.undo 1 ps fun p y => !y.isFixed && stale p y.cycle).rebuildPorts ps

/-- A port carries a CL6 queue: a valid entry of CL6 has a queue there (spec/08 R195). -/
def State.hasQueue (s : State) (i p : Nat) : Bool :=
  let e := s.entry i
  e.valid && ((decide (p < 2) && (e.source || e.transit)) || (decide (p = e.localPort) && (e.source || e.sink)))

/-- Some valid entry of a class has a queue on a port. -/
def State.classQueue (s : State) (c p : Nat) : Bool :=
  s.bolt.tun.any fun e => e.2.cls = c && s.hasQueue e.1 p

/-- Alarm pre-emption starts (spec/08 R206): undo with cause 2 on every port with a CL6 queue. -/
def State.preemptStart (s : State) (target : Nat) : State :=
  if s.on F.SCH_CTRL_PREEMPT_EN && s.isOn .sch then
    let s1 := { s.sets [(F.SCH_STATUS_PREEMPT, 1), (F.SCH_PREEMPT_END_CYCLE, target)] with bolt.alt.preempt := some target }
    let ps := (List.range 12).filter fun p => s.classQueue 6 p
    if s.on F.SCH_STATUS_PREEMPT then s1
    else (((s1.irq bSch 2).ntAbandon 1).undo 2 ps fun _ y => !y.isFixed).rebuildPorts ps
  else { s with bolt.alt.preempt := some target }

/-- Alarm pre-emption ends (spec/08 R206). -/
def State.preemptEnd (s : State) : State :=
  let s1 := { s with bolt.alt.preempt := none }
  if s.on F.SCH_STATUS_PREEMPT then (s1.set F.SCH_STATUS_PREEMPT 0).irq bSch 2 else s1

/-- RATE of a port changed: placements not fixed are re-timed at the new rate (spec/08 R202). -/
def State.setRate (s : State) (p r : Nat) : State :=
  let old := s.rate p
  let s1 := s.set (F.SCH_PORT_RATE_RATE p) r
  if r < old then
    (s1.mapPsch p fun x => { x with
      slots := x.slots.map fun y => if y.isFixed then y else { y with len := s1.lastsPs p y.cl } }).settle p
  else s1

/-- RATE of some ports follows the adapters behind them (spec/08 R499). -/
def State.rateReview (s : State) (ps : List Nat) : State :=
  s.each ps fun p s => if s.elrek p || s.adapterRate p = s.rate p then s else s.setRate p (s.adapterRate p)

/-- GL and G of a class on a port (spec/08 R195): the longest frame of the class there, and its time at rate r. -/
def State.guardLen (s : State) (c p : Nat) : Nat :=
  let m := s.bolt.tun.foldl (fun m e => if e.2.cls = c && s.hasQueue e.1 p then max m (some e.2.maxLen) else m) none
  match m with
  | none => 0
  | some l => s.countedLen p l + if p < 2 then 128 else 0

/-- G in ns at a rate in Mbit/s (spec/08 R195). -/
def guardNs (gl r : Nat) : Nat := if r = 0 then 0 else (8 * gl * 1000 + r - 1) / r

/-- The header of a copy as it leaves a port: PATH of a BUDDY copy, or of one of the copies that DST 255 sends both ways, is written
at its egress (spec/10 R248, R249). -/
def egressHdr (h : Hdr) (p : Nat) : Hdr :=
  if p < 2 && (h.buddy || h.dst = 255) then { h with path := p = 1 } else h

/-- The frame as it leaves a port. -/
def egressFrame (f : Frame) (p : Nat) : Frame := { f with hdr := egressHdr f.hdr p }

/-- Line bytes of a frame on a hop: plaintext, or encrypted under the key and IV, as far as the payload goes; trailer and tag
once it is whole (spec/06 R138). -/
def State.lineBytes (s : State) (p : Nat) (f : Frame) : List Byte :=
  let whole := decide (f.payload.length = f.hdr.length.toNat)
  let tail := f.payload ++ if whole then trailer f.hdr f.payload else []
  match s.txKey p with
  | none => hdrBytes f.hdr ++ tail
  | some (key, _) =>
    let iv := (s.port p).wireIv
    let h := hdrBytes { f.hdr with enc := true }
    let ct := gcmCrypt key iv tail
    h ++ ct ++ if whole then Config.gcmTag key iv h ct else []

/-- The first FRAME stitch of the copy on a port's wire is about to go: the slot is made ready, the IV fixed, its cells added to
SENT (spec/07 R174, R175; spec/19 R420). -/
def State.wireFirst (s : State) (p : Nat) (h : Hdr) : State :=
  let s0 := s.readySlot p
  let y := s0.port p
  let c := h.cls.toNat
  s0.setPort p { y with
    sent := setAt y.sent c ((y.sent.getD c 0 + cellsOf h.length.toNat) % 2 ^ 24)
    wireIv := match s0.txKey p with
      | some (_, salt) => frameIv salt y.wraps y.row y.slot
      | none => [] }

/-- The copy on a port's wire sends its stitches up to a number: of a frame received and checked at most all, of another at most
those received but one, and never the last (spec/06 R151). -/
def State.pushTo (s : State) (p upTo : Nat) : State :=
  match (s.port p).onWire with
  | none => s
  | some (id, _) =>
    match s.stored id with
    | none => s
    | some x =>
      if !(p < 8 && s.elrek p) then s
      else
        let f := egressFrame x.frame p
        let n := stitchesOf f.hdr.length.toNat (s.keyed p)
        let limit := min upTo (if x.complete then n else min (x.got - 1) (n - 1))
        let sent := (s.port p).wireSent
        if limit ≤ sent then s
        else
          let s1 := if sent = 0 then s.wireFirst p f.hdr else s
          let s2 := s1.each ((chunk64 (s1.lineBytes p f) limit).drop sent) fun c s => s.sendStitch p tyFrame c
          s2.setPort p { s2.port p with wireSent := limit }

/-- The stitches of the copy on a port's wire that may go before its end: all but the last, the only one at once
(DESIGN CHOICE, assumption log 83). -/
def State.pushWire (s : State) (p : Nat) : State :=
  match (s.port p).onWire with
  | none => s
  | some (id, _) => match s.stored id with
    | none => s
    | some x => s.pushTo p (max 1 (stitchesOf x.frame.hdr.length.toNat (s.keyed p) - 1))

/-- The threshold of a cut-through copy in stitches (spec/07 R182). -/
def State.threshold (s : State) (x : Stored) (p : Nat) : Nat :=
  let rin := if s.elrek x.ingress then s.get (F.LANE_PORT_RX_RATE_RATE x.ingress) else s.rate x.ingress
  let rout := s.rate p
  let d := if rout ≤ rin || rout = 0 then 0 else (x.need * (rout - rin) + rout - 1) / rout
  min x.need (d + s.get F.SWB_CT_CFG_MARGIN)

/-- A copy started on the wire: counted, its first stitches sent (spec/07 R174, spec/20 R429). -/
def State.wireStart (s : State) (p id k cl : Nat) : State :=
  match s.stored id with
  | none => s
  | some x =>
    let c := x.frame.hdr.cls.toNat
    let y := s.port p
    let s1 := s.setPort p { y with onWire := some (id, k), wireSent := 0, stall := setAt y.stall c none }
    let s2 := s1.mapCopy id k fun z => { z with st := if x.complete then .sending else .cutting }
    let s3 := (s2.count (3264 + 2 * (8 * p + c)) 1).count (3265 + 2 * (8 * p + c)) cl
    (s3.when (!x.complete) fun s => s.sat (F.SWB_CT_STARTED p) 1).pushWire p

/-- The first placement that is not fixed comes within LEAD_NS: it is fixed and its data is read, with errors of `bits` bits in
word `word` of the frame and of `link` bits in the link-memory entry of that word's cell (spec/08 R201; spec/07 R166). -/
def State.fixPlacement (s : State) (p word bits link : Nat) : State :=
  match (s.psch p).slots.find? fun y => !y.isFixed with
  | none => s
  | some y =>
    let a := s.absPs y.cycle y.start - s.get F.SCH_STAGE_CFG_LEAD_NS * 1000
    if cyclePs ≤ a then s
    else
      let s1 := s.showInstant a
      let s2 := s1.mapPsch p fun x => { x with
        slots := x.slots.map fun z => if z = y then { z with isFixed := true } else z }
      if 3 ≤ link then s2.linkLost y word
      else (if 1 ≤ link then s2.sat F.SWB_ECC_CNT_CORR 1 else s2).egressRead y.frame word bits

/-- PLACEMENT_START: the first placement of a port starts at its instant.  A copy of a frame still arriving starts
cut-through at its threshold, or waits for it, later frames of its entry behind it; without credit or under PAUSE the copy goes
back to its queue (spec/08 R194, R202; spec/07 R164, R174, R182; assumption log 11). -/
def execPlacementStart (p : Fin 12) (s : State) : Step :=
  .next (s.ifBolt fun s =>
    match (s.psch p.val).slots with
    | [] => s
    | y :: rest =>
      let a := s.absPs y.cycle y.start
      if (s.port p.val).onWire.isSome || 2 ^ 31 * cyclePs ≤ a + cyclePs || cyclePs ≤ a ||
          ((s.psch p.val).late.any fun z => z.queue / 16 = y.queue / 16) then s
      else
        let s1 := s.showInstant a
        match s1.stored y.frame with
        | none => s1.mapPsch p.val fun x => { x with slots := rest }
        | some x =>
          let n := cellsOf x.frame.hdr.length.toNat
          if !s1.mayStart p.val y.cls n then s1.giveBack p.val [y]
          else if x.complete || s1.threshold x p.val ≤ x.got then
            (s1.mapPsch p.val fun x => { x with slots := rest }).wireStart p.val y.frame y.queue y.cl
          else (s1.mapPsch p.val fun x => { x with slots := rest, late := x.late ++ [y] }).mapCopy y.frame y.queue fun c =>
            { c with st := .threshold })

/-- CUT_THROUGH_START: a copy that waits for its threshold starts once it is reached, where it still fits; a copy of a
frame received in full goes as a stored frame; one that no longer fits spills, its charges returned, and is sent as a stored frame
later (spec/07 R182, spec/08 R202). -/
def execCutThroughStart (p : Fin 12) (s : State) : Step :=
  .next (s.ifBolt fun s =>
    let ready (y : Placement) : Bool := (s.stored y.frame).any fun x => x.complete || decide (s.threshold x p.val ≤ x.got)
    if (s.port p.val).onWire.isSome then s
    else match (s.psch p.val).late.find? ready with
      | none => s
      | some y => match s.stored y.frame with
        | none => s
        | some x =>
          if s.fits p.val y.cls s.cycle s.bolt.sch.now (s.lastsPs p.val y.cl) &&
              s.mayStart p.val y.cls (cellsOf x.frame.hdr.length.toNat) then
            (s.mapPsch p.val fun z => { z with late := z.late.filter fun w => w != y }).wireStart p.val y.frame y.queue y.cl
          else
            ((s.mapCopy y.frame y.queue fun c => { c with whole := true }).giveBack p.val [y]).sat
              (F.SCH_PORT_HOLD_SPILL p.val) 1)

/-- One addition to a bucket's TOKENS, carrying the remainder and saturating at BURST (spec/08 R197). -/
def addTokens (rate burst : Nat) (tok : Int) (rem : Nat) : Int × Nat :=
  let n := rem + rate * 2 ^ 24 * 512
  (min (tok + (n / 10 ^ 8 : Nat)) (max tok (burst * 2 ^ 24 : Nat)), n % 10 ^ 8)

/-- Both buckets of every valid entry gain their tokens (spec/08 R197). -/
def State.addAllTokens (s : State) : State :=
  s.each (s.bolt.tun.filter fun e => e.2.valid) fun ie s =>
    let (pr, pe, _, pb) := s.bucket s.cycle ie.1 4
    let (sr, se, _, sb) := s.bucket s.cycle ie.1 0x0C
    s.mapEntry ie.1 fun e =>
      let p := if pe then addTokens pr pb e.polTok e.polRem else (e.polTok, e.polRem)
      let q := if se then addTokens sr sb e.shpTok e.shpRem else (e.shpTok, e.shpRem)
      { e with polTok := p.1, polRem := p.2, shpTok := q.1, shpRem := q.2 }

/-- The policing bucket measures a frame of counted length `cl` (spec/08 R197, R198): a frame that conforms takes CL. -/
def State.polices (s : State) (i cl : Nat) : State × Bool :=
  let (_, en, _, _) := s.bucket s.cycle i 4
  let need : Int := (cl * 2 ^ 24 : Nat)
  if !en then (s, true)
  else if need ≤ (s.entry i).polTok then (s.mapEntry i fun e => { e with polTok := e.polTok - need }, true)
  else (s, false)

/-- A bucket comes into use with TOKENS = BURST (spec/08 R197): 4 policing, 0x0C shaping; one that is not in use holds none. -/
def State.fillBuckets (s : State) (i : Nat) : State :=
  let (_, pe, _, pb) := s.bucket s.cycle i 4
  let (_, se, _, sb) := s.bucket s.cycle i 0x0C
  s.mapEntry i fun e => { e with
    polTok := if pe then (pb * 2 ^ 24 : Nat) else 0, polRem := 0, shpTok := if se then (sb * 2 ^ 24 : Nat) else 0, shpRem := 0 }

/-- The histogram bin of a depth in cells (spec/08 R208). -/
def depthBin (d : Nat) : Nat := if d = 0 then 0 else if d = 1 then 1 else min 15 (Nat.log2 d + 1)

/-- The histogram bin of a delay in units U, for a queue that is not empty (spec/08 R208). -/
def delayBin (u : Nat) : Nat := if u = 0 then 1 else min 15 (Nat.log2 u + 2)

/-- A queue's statistics before any sample (spec/08 R208). -/
def QueueStat.empty : QueueStat :=
  ⟨2 ^ 18 - 1, 0, 2 ^ 24 - 1, 0, List.replicate 16 0, List.replicate 16 0⟩

/-- A histogram bin counted, saturating at 32 bits. -/
def bumpBin (l : List Nat) (i : Nat) : List Nat := setAt l i (satAdd 32 (l.getD i 0) 1)

/-- One queue of an entry sampled (spec/08 R208). -/
def State.sampleQueue (s : State) (i q : Nat) : State :=
  let k := i * 4 + q
  let mine (c : Copy) : Bool := c.queue / 16 = i && c.queue % 4 = q && c.unstarted
  let waiting := s.bolt.swb.frames.filter fun f => f.2.copies.any mine
  let depth := (waiting.map fun f => f.2.cells.length).sum
  let ages := (waiting.flatMap fun f => f.2.copies.filter mine).map fun c =>
    ((s.cycle + 2 ^ 32 - c.cyc) % 2 ^ 32 * cyclePs - c.ps) / 1000
  let delay := ages.foldl max 0
  let u := delay / 2 ^ s.get F.SCH_SAMPLE_CFG_DLY_SHIFT
  let z := getKey QueueStat.empty k s.bolt.queueStats
  let z' : QueueStat := ⟨min z.depthMin depth, max z.depthMax depth, min z.delayMin u, min (2 ^ 24 - 1) (max z.delayMax u),
    bumpBin z.depthBins (depthBin depth), bumpBin z.delayBins (if waiting.isEmpty then 0 else delayBin u)⟩
  { s with bolt.queueStats := insertKey k z' s.bolt.queueStats }

/-- Every queue of every valid entry sampled at a cycle boundary (spec/08 R208). -/
def State.sampleAll (s : State) : State :=
  if s.isOn .sch && s.on F.SCH_CTRL_SAMPLE_EN then
    s.each (s.bolt.tun.filter fun e => e.2.valid) fun ie s =>
      s.each ((List.range 3).filter fun q => s.hasQueue ie.1 (ie.2.portOf q)) fun q s => s.sampleQueue ie.1 q
  else s

/-- SAMP_CLEAR: the extremes and both histograms of the selected queue (spec/08 R208). -/
def execSampClear (w : Requester) (v : Word) (s : State) : Step :=
  .next (s.command w R.SCH_SAMP_CTRL v fun s =>
    if s.on F.SCH_SAMP_CTRL_CLEAR then
      let k := s.get F.SCH_ENT_SEL_INDEX * 4 + min 2 (s.get F.SCH_ENT_SEL_QUEUE)
      { s with bolt.queueStats := eraseKey k s.bolt.queueStats }.set F.SCH_SAMP_CTRL_CLEAR 0
    else s)

/-- The check of SCH at enable (spec/08 R209). -/
def State.checkSch (s : State) : Option (Nat × Nat) :=
  if s.get ⟨R.SCH_CTRL, 3, 29⟩ ≠ 0 then some (0x02, 0xFFFF)
  else match (List.range 12).find? fun p => s.get ⟨R.SCH_PORT_CFG p, 15, 17⟩ != 0 with
    | some p => some (0x02, p)
    | none =>
      match (List.range 12).find? fun p => !s.hasFunction p &&
          (s.get (F.SCH_PORT_CFG_OVH p) != 0 || s.get (F.SCH_PORT_CFG_PROTECT p) != 0x78) with
      | some p => some (0x03, p)
      | none =>
        match [8, 9, 10, 11].find? fun p => s.get (F.SCH_PORT_CFG_OVH p) != 0 with
        | some p => some (0x11, p)
        | none =>
          match (List.range 12).find? fun p => s.classQueue 6 p && !bit (s.get (F.SCH_PORT_CFG_PROTECT p)) 6 with
          | some p => some (0x10, p)
          | none => none

/-- SCH goes ON: every port builds its lists (spec/08 R201). -/
def State.schOn (s : State) : State := s.each (List.range 12) fun p s => s.buildAll p

end Sys2Proof.Machine
end

