-- ==== Sys2Proof/Machine/Eth.lean ====
section
/-! DEFINITION. Ethernet frames leaving the tunnel (spec/14 R322, R323, R325): bindings of MACs, the learning table,
egress. -/

namespace Sys2Proof.Machine

/-- Base address of DPE. -/
abbrev bDpe : Nat := 0x40C00000

/-- An ETH quad unit is ON. -/
def State.ethOn (s : State) (q : Nat) : Bool := decide (q < 3) && s.isOn (.dpeEth (Fin.ofNat 3 q))

/-- The MACs of an ETH quad in its mode. -/
def State.macsOf (s : State) (q : Nat) : List Nat :=
  if s.qmode q = 3 then [0, 1, 2, 3] else if s.qmode q = 4 then [0] else []

/-- The maps in use of a quad: number, MAC within the quad, VID, entry, POP (spec/14 R323). -/
def State.maps (s : State) (q : Nat) : List (Nat × Nat × Nat × Nat × Bool) :=
  ((List.range 64).filter fun v => s.on (F.DPE_VMAP_EN q v)).map fun v =>
    (v, s.get (F.DPE_VMAP_MAC q v), s.get (F.DPE_VMAP_VID q v), s.get (F.DPE_VMAP_ENTRY q v), s.on (F.DPE_VMAP_POP q v))

/-- The MAC an Ethernet entry leaves by, and the VID it adds: named by one map or one DEFAULT (spec/14 R323). -/
def State.macOf (s : State) (i : Nat) : Option (Nat × Option Nat) :=
  (List.range 3).findSome? fun q =>
    if !s.ethOn q then none
    else match (s.maps q).find? fun v => v.2.2.2.1 = i with
      | some v => some (4 * q + v.2.1, if v.2.2.2.2 then some v.2.2.1 else none)
      | none => ((s.macsOf q).find? fun k => s.on (F.DPE_MAC_DEFAULT_EN (4 * q + k)) &&
          decide (s.get (F.DPE_MAC_DEFAULT_ENTRY (4 * q + k)) = i)).map fun k => (4 * q + k, none)

/-- An entry is multipoint: DST 255 with SOURCE and SINK (spec/14 R325). -/
def Entry.multipoint (e : Entry) : Bool := decide (e.dst = 255) && e.source && e.sink

/-- DPE_LEARN_STAT.USED follows the table. -/
def State.showLearn (s : State) : State := s.set F.DPE_LEARN_STAT_USED s.bolt.learn.length

/-- An address seen under an entry at a node (spec/14 R325). -/
def State.learnAddr (s : State) (i mac node : Nat) : State :=
  if !s.on F.DPE_LEARN_CFG_LEARN_EN then s
  else match s.bolt.learn.find? fun x => x.mac = mac && x.entry = i with
    | some x =>
      let put (y : Learned) : Learned := if y = x then { x with node := node, age := 0 } else y
      let s1 := { s with bolt.learn := s.bolt.learn.map put }
      if x.node = node then s1 else s1.sat F.DPE_LEARN_STAT2_MOVES 1
    | none =>
      if 4096 ≤ s.bolt.learn.length then (s.sat F.DPE_LEARN_STAT_FULL_DROP 1).irq bDpe 6
      else ({ s with bolt.learn := s.bolt.learn ++ [(⟨mac, i, node, 0⟩ : Learned)] }).showLearn

/-- Destination and source address of an Ethernet frame. -/
def ethDst (bs : List Byte) : Nat := ofBe (bytesAt bs 0 6)
def ethSrc (bs : List Byte) : Nat := ofBe (bytesAt bs 6 6)

/-- An Ethernet frame with its FCS computed afresh (assumption log 22). -/
def withFcs (body : List Byte) : List Byte := body ++ leBytes 4 (crc32 body)

/-- DP and ETH quads run: not in QUIET (spec/14 R326). -/
def State.dpeRuns (s : State) : Bool := s.isOn .dpe && decide (s.get F.PWR_STATUS_STATE ≠ 2)

/-- A MAC's own state. -/
def State.mac (s : State) (m : Nat) : MacSt := s.bolt.macs.getD m ⟨0, []⟩
def State.setMac (s : State) (m : Nat) (x : MacSt) : State := { s with bolt.macs := setAt s.bolt.macs m x }

/-- A frame sent by a MAC, or kept while a received PAUSE lasts (spec/14 R321). -/
def State.sendEth (s : State) (m : Nat) (bs : List Byte) : State :=
  let x := s.mac m
  if x.paused = 0 then s.emit (.eth m bs) else s.setMac m { x with egress := x.egress ++ [bs] }

/-- Time of a PAUSE passes; the frames kept leave at its end. -/
def State.macTime (s : State) (ps : Nat) : State :=
  s.each (List.range 12) fun m s =>
    let x := s.mac m
    if x.paused = 0 then s
    else if ps < x.paused then s.setMac m { x with paused := x.paused - ps }
    else (s.setMac m ⟨0, []⟩).each x.egress fun bs s => s.emit (.eth m bs)

/-- An Ethernet frame from the ring leaves by its MAC (spec/14 R322, R323, R325). -/
def State.ethEgress (s : State) (i : Nat) (f : Frame) : State :=
  match if s.dpeRuns then s.macOf i else none with
  | none => s
  | some (m, tag) =>
    let bs := f.payload
    let s1 := if (s.entry i).multipoint then s.learnAddr i (ethSrc bs) f.hdr.src.toNat else s
    if !bit (s1.get (F.DPE_ETH_STATUS_LINK (m / 4))) (m % 4) then s1.sat (F.DPE_MAC_CNT3_LINK_DROP m) 1
    else match tag with
      | none => s1.sendEth m bs
      | some vid =>
        let a := hDgAdapter f.hdr
        let tci := slice a 17 3 * 8192 + slice a 16 1 * 4096 + vid
        s1.sendEth m (withFcs (List.flatten [bs.take 12, beBytes 2 0x8100, beBytes 2 tci, (bs.take (bs.length - 4)).drop 12]))

end Sys2Proof.Machine
end

