-- ==== Sys2Proof/Machine/Tunnel.lean ====
section
/-! DEFINITION. Tunnel frames and services (spec/06): sources, the receive checks, sinks, RELIABLE, DATAGRAM holds and
knots, frays. -/

namespace Sys2Proof.Machine

/-- The edges a node knows: its list and its own trunks (spec/10 R248). -/
def State.allEdges (s : State) : List Edge := s.bolt.rng.edges ++ s.bolt.rng.own.filterMap id

/-- Hops from this node to an address, east (0) or west (1); 0 to itself (spec/10 R246). -/
def State.hops (s : State) (dir a : Nat) : Option Nat :=
  if a = s.addr then some 0 else lookupKey a (if dir = 0 then s.bolt.rng.he else s.bolt.rng.hw)

/-- An address is reachable in a direction: its hops are known and lie below the hops to every edge of that side
plus 1 (spec/10 R248). -/
def State.reaches (s : State) (dir d : Nat) : Bool :=
  match s.hops dir d with
  | none => false
  | some h => (s.allEdges.filter fun e => e.side = dir).all fun e => match s.hops dir e.node with
    | some x => decide (h < x + 1)
    | none => true

/-- A trunk is a member link: UP and no edge (spec/10). -/
def State.memberLink (s : State) (p : Nat) : Bool := s.portUp p && (s.bolt.rng.own.getD p none).isNone

/-- The direction in which a bucket of an entry travels: its pin, the other way while it is repaired (spec/09 R230,
spec/10 R248). -/
def State.dirOf (s : State) (i b : Nat) : Nat :=
  let pin := s.pin s.cycle i b
  if (s.entry i).repaired.contains b then 1 - pin else pin

/-- The trunks a source's frame takes (spec/09 R230, spec/10 R248, R249): BUDDY both member links; DST 255 one
direction, or both while the ring is open; otherwise the bucket's direction, or none where DST is unreachable. -/
def State.sourceTrunksTo (s : State) (i b dst : Nat) : List Nat :=
  let e := s.entry i
  if e.buddy then [0, 1].filter s.memberLink
  else if dst = 255 then (if e.bothWays then [0, 1].filter s.memberLink else [s.dirOf i b])
  else if s.bolt.rng.openKnown && !s.reaches (s.dirOf i b) dst then []
  else [s.dirOf i b]

/-- The same for the entry's own DST. -/
def State.sourceTrunks (s : State) (i b : Nat) : List Nat := s.sourceTrunksTo i b (s.entry i).dst

/-- The copies of a frame of an entry and generation on queues 0 east, 1 west, 2 local. -/
def State.copiesOn (s : State) (i g : Nat) (qs : List Nat) : List Copy :=
  qs.map fun q => ⟨qKey i g q, s.queuePort (qKey i g q), .queued, false, s.cycle, s.bolt.sch.now, false⟩

/-- A frame of a local adapter stored and placed; a copy eligible for cut-through is stored as well, since the adapter hands the
frame over whole (spec/07 R163, R181; DESIGN CHOICE, assumption log 84). -/
def State.storeLocal (s : State) (x : Stored) : State :=
  let s1 := if s.cutOk x then s.each x.copies fun c s => s.sat (F.SWB_CT_B_DECLINED c.port) 1 else s
  (s1.store { x with cycle := s1.cycle, atPs := s1.bolt.sch.now }).each x.copies fun c s => s.placeQueue c.queue

/-- A frame of this node admitted under an entry (spec/07 R163, R169 to R171): refused, or stored and placed; its header waits at
its port where the ready list does not cover it, or behind one that waits there. -/
def State.admitLocal (s : State) (i ingress : Nat) (f : Frame) (qs : List Nat) : State :=
  let g := (s.entry i).gen
  let all := s.copiesOn i g qs
  let cs := all.filter fun x => !s.portStopped x.port
  let c := f.hdr.cls.toNat
  let s := s.dropStopped all c
  let n := cellsOf f.payload.length
  if cs.isEmpty then s
  else
    let ps := cs.map (·.port)
    let d := s.domainOf ingress c ps
    let ok := match d with
      | .anchor p c => s.admits p c n
      | _ => true
    let need := stitchesOf f.payload.length false
    let x : Stored := ⟨f, i, g, [], d, s.cycle, s.bolt.sch.now, ingress, true, need, need, cs, none, false, none, false⟩
    if !ok then s.refuseFrame (s.anchor ps) c
    else if s.bolt.swb.ready < n || s.freeCount < n || s.bolt.swb.waitLocal.any fun y => y.ingress = ingress then
      { s with bolt.swb.waitLocal := s.bolt.swb.waitLocal ++ [x] }
    else s.storeLocal x

/-- Headers of local adapters' frames that wait go on where the ready list covers them, in order on each port: on one port, or on
all (spec/07 R163). -/
def State.retryLocal (s : State) (only : Option Nat) : State :=
  let due := s.bolt.swb.waitLocal.filter fun x => only.all fun p => x.ingress = p
  s.each due fun x s =>
    let first := (s.bolt.swb.waitLocal.find? fun y => y.ingress = x.ingress) = some x
    let n := cellsOf x.frame.payload.length
    if first && n ≤ s.bolt.swb.ready && n ≤ s.freeCount then
      { s with bolt.swb.waitLocal := s.bolt.swb.waitLocal.erase x }.storeLocal x
    else s

/-- A data frame counted for the knots of its bucket on a path (spec/06 R153). -/
def bumpTx (l : List (Nat × Nat × Nat)) (k seq : Nat) : List (Nat × Nat × Nat) :=
  insertKey k (((lookupKey k l).map (·.1)).getD 0 + 1, seq) l

/-- A frame that KNOTs count: of a service, not TEST (spec/06 R153). -/
def isData (k : Nat) : Bool := k = kStream || k = kState || k = kData || k = kDatagram

/-- A data frame of a source that has passed policing: PATH is the direction in which it goes now, it counts for the knots of its
bucket on that path, and it is admitted; discarded where its DST is unreachable (spec/06 R131, R153; spec/10 R248). -/
def State.sendData (s : State) (i : Nat) (f : Frame) : State :=
  let b := hBucket f.hdr
  let dir := s.dirOf i b
  let qs := s.sourceTrunksTo i b f.hdr.dst.toNat
  if qs.isEmpty && !(s.entry i).buddy then s.sat F.RNG_CUT2_UNREACHABLE 1
  else
    let s1 := if isData f.hdr.kind.toNat then
        s.mapEntry i fun e => { e with txCount := bumpTx e.txCount (b + 64 * dir) f.hdr.seq.toNat }
      else s
    s1.admitLocal i (s.entry i).localPort { f with hdr := { f.hdr with path := decide (dir = 1) } } qs

/-- A built frame of a source goes through policing (spec/08 R198): a STREAM frame that does not conform is dropped with
ACT 1 and goes on with ACT 0; any other waits at its adapter, as do later frames of the entry. -/
def State.policeSource (s : State) (i : Nat) (f : Frame) : State :=
  let e := s.entry i
  let cl := s.countedLen e.localPort f.payload.length
  if !e.waiting.isEmpty then s.mapEntry i fun e => { e with waiting := e.waiting ++ [f] }
  else
    match s.polices i cl with
    | (s1, true) => s1.sendData i f
    | (s1, false) =>
      let (_, _, act, _) := s1.bucket s1.cycle i 4
      if e.service = svStream then
        if act = 1 then s1.mapEntry i fun e => { e with polDrop := satAdd 16 e.polDrop 1 }
        else (s1.mapEntry i fun e => { e with polExcess := satAdd 16 e.polExcess 1 }).sendData i f
      else s1.mapEntry i fun e => { e with
        polExcess := satAdd 16 e.polExcess 1, heldCounted := true, waiting := e.waiting ++ [f] }

/-- Frames held at their adapter tested again, oldest first; one that is tested for the first time and does not conform counts in
EXCESS (spec/08 R198). -/
def State.retryWaiting (s : State) (i : Nat) : State :=
  s.each (s.entry i).waiting fun f s =>
    match (s.entry i).waiting with
    | [] => s
    | g :: t =>
      if g = f then
        match s.polices i (s.countedLen (s.entry i).localPort f.payload.length) with
        | (s1, true) =>
          (s1.mapEntry i fun e => { e with waiting := t, heldCounted := false }).sendData i f
        | (s1, false) =>
          if (s1.entry i).heldCounted then s1
          else s1.mapEntry i fun e => { e with polExcess := satAdd 16 e.polExcess 1, heldCounted := true }
      else s

/-- The header of a frame this node builds under an entry (spec/06 R131, R158). -/
def State.buildHdr (s : State) (i kind seq len svc path : Nat) (last : Bool) : Hdr :=
  let e := s.entry i
  { tunnel := BitVec.ofNat 12 e.tunnel, cls := BitVec.ofNat 3 e.cls, kind := BitVec.ofNat 4 kind, seq := BitVec.ofNat 16 seq
    length := BitVec.ofNat 14 len, src := BitVec.ofNat 8 s.addr, dst := BitVec.ofNat 8 e.dst, buddy := e.buddy
    path := path = 1, ctOk := e.ctOk, enc := false, gen := BitVec.ofNat 2 e.gen, last := last, resv := false
    svc := BitVec.ofNat 39 svc }

/-- This node may build frames of an entry: the unit is ON, the entry valid with SOURCE, the node addressed
(spec/06 R140, spec/10 R241). -/
def State.canSource (s : State) (i : Nat) : Bool :=
  let e := s.entry i
  s.isOn .tun && e.valid && e.source && decide (s.addr ≠ 0)

/-- RELIABLE: a new frame may be sent, and the tunnel is not DEAD (spec/06 R145, R149). -/
def State.windowOpen (s : State) (i : Nat) : Bool :=
  let e := s.entry i
  !e.dead && decide ((e.nxt + 65536 - e.una) % 65536 < e.window)

/-- Frame data of P10 crosses the seam in SWITCH flits, eight bytes each, the last padded with zeros (spec/02 R40; the layout is a
DESIGN CHOICE, assumption log 85). -/
def State.crossSeam (s : State) (d : Die) (f : Frame) : State :=
  let bs := hdrBytes f.hdr ++ f.payload
  s.each (List.range ((bs.length + 7) / 8)) fun k s => s.sendFlit d 9 0 (leAt (bytesAt bs (8 * k) 8) 0 8)

/-- A frame built by the adapter of an entry: it takes a SEQ even where it is then discarded as unreachable; a RELIABLE
frame is kept until acknowledged (spec/06 R143, R145; spec/10 R248).  An entry without SOURCE fails check 6 at its port
(spec/06 R140). -/
def State.sourceFrameTo (s : State) (i kind svc : Nat) (payload : List Byte) (last : Bool) (dst : Nat) : State :=
  if !s.canSource i then
    let p := (s.entry i).localPort
    if s.isOn .tun && decide (s.addr ≠ 0) && decide (2 ≤ p ∧ p < 12) then s.sat (F.TUN_RXERR_B_NO_ENTRY p) 1 else s
  else
    let e := s.entry i
    let b := if kind = kDatagram then slice svc 33 6 else 0
    let h := { s.buildHdr i kind e.nxt payload.length svc (s.dirOf i b) last with dst := BitVec.ofNat 8 dst }
    let f : Frame := ⟨h, payload⟩
    let s1 := s.mapEntry i fun e => { e with
      nxt := (e.nxt + 1) % 65536
      retx := if kind = kData then e.retx ++ [(e.nxt, f)] else e.retx
      timer := if kind = kData && e.una = e.nxt then 0 else e.timer }
    let s2 := if e.localPort = 10 then s1.crossSeam .spool f else s1
    if (s2.sourceTrunksTo i b dst).isEmpty && !e.buddy then s2.sat F.RNG_CUT2_UNREACHABLE 1
    else s2.policeSource i f

/-- A frame built with the entry's own DST. -/
def State.sourceFrame (s : State) (i kind svc : Nat) (payload : List Byte) (last : Bool) : State :=
  s.sourceFrameTo i kind svc payload last (s.entry i).dst

/-- A KNOT enqueued on the old path for a bucket, or for all the buckets of an entry that has no pins of its own for them
(spec/06 R153, R154); no bucket measures it. -/
def State.sendKnot (s : State) (i b oldPath newPath cyc : Nat) : State :=
  let e := s.entry i
  let covered := e.txCount.filter fun x => x.1 / 64 = oldPath && (x.1 % 64 = b || !e.perBucket)
  let n := (covered.map fun x => x.2.1).sum
  let newest (a c : Nat) : Nat := if (c + 65536 - a) % 65536 < 32768 then c else a
  let sq := (covered.foldl (fun m x => some (match m with
    | none => x.2.2
    | some y => newest y x.2.2)) (none : Option Nat)).getD ((e.nxt + 65535) % 65536)
  let payload := leBytes 1 (oldPath + 2 * newPath) ++ leBytes 1 b ++ leBytes 2 0 ++ leBytes 4 cyc ++ leBytes 4 n ++
    leBytes 4 0
  let h := s.buildHdr i kKnot (sq % 65536) 16 0 oldPath true
  let s1 := s.mapEntry i fun e => { e with
    txCount := e.txCount.map fun x => if covered.contains x then (x.1, 0, x.2.2) else x }
  (((s1.admitLocal i e.localPort ⟨h, payload⟩ [oldPath]).sat F.ALT_KNOT_SENT 1).count (3154 + 4 * e.service) 1)

/-- The buckets of an entry that carry traffic (spec/09 R231): those it has sent on since its commit; bucket 0 of an entry that
follows one pin, where it has sent anything. -/
def State.liveBuckets (s : State) (i : Nat) : List Nat :=
  let e := s.entry i
  let used := (e.txCount.map fun x => x.1 % 64).dedup
  if e.perBucket then used else used.take 1 |>.map fun _ => 0

/-- A bucket re-pinned: a KNOT on the old path, or none where that trunk is not UP (spec/09 R231). -/
def State.repin (s : State) (i b oldPath newPath cyc : Nat) : State :=
  if s.portUp oldPath then s.sendKnot i b oldPath newPath cyc
  else (s.sat F.ALT_KNOT_SKIPPED 1).irq bAlt 8

/-- The address an entry's acknowledgements go to: DST of a source, PEER of a sink, or the SRC last heard. -/
def Entry.farEnd (e : Entry) : Nat := if e.source then e.dst else if e.peer ≠ 0 then e.peer else e.lastSrc

/-- BITMAP of a receiver: bit i for frame RCV_NXT + 1 + i held (spec/06 R147). -/
def Entry.heldMap (e : Entry) : Nat :=
  (e.held.map fun h =>
    let d := (h.1 + 65536 - (e.rcvNxt + 1)) % 65536
    if d < 64 then 2 ^ d else 0).sum

/-- A RELIABLE_ACK sent (spec/06 R147). -/
def State.sendAck (s : State) (i : Nat) : State :=
  let e := s.entry i
  let payload := leBytes 8 e.heldMap ++ if e.credit then e.credits.flatMap fun c => leBytes 4 c else []
  let h := { s.buildHdr i kAck e.rcvNxt payload.length 0 (s.dirOf i 0) true with dst := BitVec.ofNat 8 e.farEnd }
  let qs := if s.bolt.rng.openKnown && !s.reaches (s.dirOf i 0) e.farEnd then [] else [s.dirOf i 0]
  (s.mapEntry i fun e => { e with sinceAck := 0, creditsTold := e.credits }).admitLocal i e.localPort ⟨h, payload⟩ qs

/-- A RELIABLE frame sent again, under the live generation (spec/06 R148, R149; spec/07 R184): counted as a
retransmission.  One whose cells show an uncorrectable error makes the tunnel DEAD at once (spec/07 R166, R168). -/
def State.resend (s : State) (i seq : Nat) : State :=
  let bad (x : Stored) : Bool := x.poisoned || decide (3 ≤ s.readBits x.cells)
  let at' := s.bolt.swb.frames.find? fun x =>
    x.2.entry = i && x.2.frame.hdr.kind.toNat = kData && x.2.frame.hdr.seq.toNat = seq && 2 ≤ x.2.ingress
  if (s.entry i).dead then s
  else if at'.any fun x => bad x.2 then
    ((s.failCells (s.badCells ((at'.map fun x => x.2.cells).getD []))).eccUncorr).tunnelDead i
  else match (s.entry i).retx.find? fun r => r.1 = seq with
  | none => s
  | some (_, f) =>
    let qs := s.sourceTrunks i 0
    let s1 := s.count (80 + 3 * i) 1
    let f := { f with hdr := { f.hdr with path := decide (s.dirOf i 0 = 1) } }
    match at' with
    | some (id, x) =>
      if x.copies.isEmpty then
        let g := (s.entry i).gen
        let cs := s.copiesOn i g qs
        let s2 := s1.mapStored id fun x => { x with frame := f, copies := cs, gen := g, shaped := none }
        s2.each cs fun c s => (s.append c.queue id).placeQueue c.queue
      else s
    | none => s1.admitLocal i (s.entry i).localPort f qs

/-- A frame of a local port's adapter or sink given up by a sink: LOSS of an entry whose SERVICE counts it. -/
def State.countLoss (s : State) (i n : Nat) : State :=
  if (s.entry i).service = svReliable || n = 0 then s else s.count (80 + 3 * i) n

/-- The SEQ record of a non-RELIABLE sink (spec/06 R143): the record after a frame, whether it is a duplicate, and the
SEQs newly counted in LOSS. -/
def SeqRec.take (r : SeqRec) (gen seq path : Nat) (buddy : Bool) : SeqRec × Bool × Nat :=
  let fresh := r.gen != some gen
  if fresh && r.oldGen = some gen then (r, true, 0)
  else
    let r := if fresh then { SeqRec.reset with gen := some gen, oldGen := r.gen } else r
    let ahead (a b : Nat) : Bool := decide (0 < (a + 65536 - b) % 65536) && decide ((a + 65536 - b) % 65536 < 32768)
    let gapList (h : Nat) : List Nat := (List.range ((seq + 65536 - h) % 65536 - 1)).map fun j => (h + 1 + j) % 65536
    let miss := r.missing.getD path []
    let dup := match r.high.getD path none with
      | none => false
      | some h => !ahead seq h && !miss.contains seq
    if dup then (r, true, 0)
    else
      let (hi, miss') := match r.high.getD path none with
        | none => (some seq, [])
        | some h => if ahead seq h then (some seq, miss ++ gapList h) else (some h, miss.erase seq)
      let (top, lack, gap) := match r.top with
        | none => (some seq, [], 0)
        | some t =>
          if ahead seq t then (some seq, r.lacking ++ gapList t, (gapList t).length) else (some t, r.lacking.erase seq, 0)
      let old := lack.filter fun q => match top with
        | some t => decide (64 ≤ (t + 65536 - q) % 65536)
        | none => false
      let r' := { r with high := setAt r.high path hi, missing := setAt r.missing path miss', top := top
                         lacking := if buddy then lack.filter fun q => !old.contains q else [] }
      (r', false, if buddy then old.length else gap)

/-- SEQ_TRACK: duplicates are discarded and loss is counted (spec/06 R143).  True: the frame goes on. -/
def State.seqTrack (s : State) (i : Nat) (h : Hdr) : State × Bool :=
  let e := s.entry i
  let (r, dup, loss) := e.seqs.take h.gen.toNat h.seq.toNat (b2n h.path) e.buddy
  let s1 := (s.mapEntry i fun e => { e with seqs := r }).countLoss i loss
  if dup then (if e.service = svState then s1.count (82 + 3 * i) 1 else s1, false) else (s1, true)

/-- A STREAM frame reaches its adapter: at or after the start of cycle PCYCLE it is LATE, 64 or more cycles ahead EARLY
(spec/06 R144).  True: the frame goes on. -/
def State.streamSink (s : State) (i : Nat) (h : Hdr) : State × Bool :=
  let pc := hPcycle h
  if !later pc s.cycle then (s.count (81 + 3 * i) 1, false)
  else if 64 ≤ (pc + 2 ^ 32 - s.cycle) % 2 ^ 32 then (s.count 3152 1, false)
  else (s, true)

/-- A good copy of a BUDDY entry's frame counted for its PATH; the first from the silent path clears SINGLE
(spec/10 R250). -/
def State.buddyCount (s : State) (i path : Nat) : State :=
  s.mapEntry i fun e => { e with
    fromPath := setAt e.fromPath path (satAdd 16 (e.fromPath.getD path 0) 1)
    lastPath := setAt e.lastPath path s.cycle
    single := e.single && decide (e.silent ≠ path) }

/-- A frame for a local port has arrived in full and is good: LAST_GEN and the sink's SEQ record; a copy that the sink discards
leaves the buffer (spec/06 R143, R158). -/
def State.sinkCheck (s : State) (i id : Nat) (h : Hdr) : State :=
  let e := s.entry i
  let s0 := s.mapEntry i fun e => { e with lastGen := h.gen.toNat, lastSrc := h.src.toNat }
  let k := h.kind.toNat
  if k ≠ kStream ∧ k ≠ kState ∧ k ≠ kDatagram then s0
  else
    let s1 := if e.buddy then s0.buddyCount i (b2n h.path) else s0
    let (s2, ok) := s1.seqTrack i h
    if ok then s2
    else match s2.stored id with
      | some x => s2.each (x.copies.filter fun c => 2 ≤ c.port && c.unstarted) fun c s => s.dropCopy id c.queue
      | none => s2

/-- LENGTH is wrong for the kind: a KNOT has 16 (spec/06 R153). -/
def lengthWrong (h : Hdr) : Bool := decide (h.kind.toNat = kKnot ∧ h.length.toNat ≠ 16)

/-- Check 4 of spec/06 R140. -/
def formatBad (h : Hdr) : Bool :=
  let k := h.kind.toNat
  decide (k = 0 ∨ 9 ≤ k) || decide (251 ≤ h.dst.toNat ∧ h.dst.toNat ≤ 254) || h.resv || lengthWrong h

/-- The role an arriving frame needs (check 6 of spec/06 R140). -/
def State.roleOk (s : State) (p i : Nat) (h : Hdr) : Bool :=
  let e := s.entry i
  if h.dst.toNat = 255 then e.source || e.sink || e.transit
  else if 2 ≤ p then e.source
  else if h.dst.toNat = s.addr then e.sink
  else e.transit

/-- The neighbour on a trunk, 0 unknown. -/
def State.neighbour (s : State) (p : Nat) : Nat := if p = 0 then s.get F.RNG_NEIGH_EAST else s.get F.RNG_NEIGH_WEST

/-- A copy of a DST 255 entry meets a healed link against its pin, on arrival or on its way out (spec/10 R252). -/
def State.healDrop (s : State) (p i : Nat) (h : Hdr) : Bool × Bool :=
  let wrong := decide (p < 2) && h.dst.toNat = 255 && !(s.entry i).buddy && b2n h.path != s.pin s.cycle i 0
  (wrong && s.bolt.rng.healed.contains p, wrong && s.bolt.rng.healed.contains (1 - p))

/-- Where an arriving frame leaves: queues 0 east, 1 west, 2 local, and whether a transit frame meets the cut
(spec/06 R140, spec/10 R236, R247, R252). -/
def State.routes (s : State) (p i : Nat) (h : Hdr) : List Nat × Bool :=
  let e := s.entry i
  let o := 1 - p
  if 2 ≤ p then (s.sourceTrunks i (hBucket h), false)
  else if h.dst.toNat = 255 then
    let (inDrop, outDrop) := s.healDrop p i h
    let loc := if e.sink && !inDrop then [2] else []
    let fwd := s.memberLink o && !(s.neighbour o != 0 && s.neighbour o = h.src.toNat) && !inDrop && !outDrop
    (loc ++ if fwd then [o] else [], false)
  else if h.dst.toNat = s.addr then ([2], false)
  else if s.memberLink o then ([o], false)
  else ([], true)

/-- A frame discarded at its header on an Elrek port: its credit returns (spec/07 R176). -/
def State.discardCredit (s : State) (p c n : Nat) : State := if s.elrek p then s.grantAdd p c n else s

/-- The arrival under way on a port replaced. -/
def State.setIng (s : State) (p : Nat) (x : Option Ingress) : State := s.setPort p { s.port p with ing := x }

/-- The landing credit that an arriving frame took only while it arrived returns (spec/07 R169, R176). -/
def State.payOwed (s : State) (p : Nat) (x : Ingress) : State :=
  if x.owed = 0 then s else s.grantAdd p x.rxCls x.owed

/-- The payload of an arriving frame as far as it has come, decrypted on a keyed hop, and trailer and tag once they are there
(spec/06 R138). -/
def State.plainBody (s : State) (p : Nat) (x : Ingress) : List Byte :=
  let body := x.data.drop 16
  let n := x.hdr.length.toNat
  match x.hdr.enc, s.rxKey p with
  | true, some (key, _) => gcmCrypt key x.iv (bytesAt body 0 (min (n + 4) body.length))
  | _, _ => bytesAt body 0 (min (n + 4) body.length)

/-- Its payload bytes as far as they have come. -/
def State.plainSoFar (s : State) (p : Nat) (x : Ingress) : List Byte := (s.plainBody p x).take x.hdr.length.toNat

/-- The frame arriving on a port put into the buffer or refused (spec/07 R163, R169, R171): the header waits where the
ready list does not cover it.  The credit it took under its received class is owed while it arrives, unless the landing reserve
holds it; it enters the buffer in plaintext (spec/06 R138). -/
def State.admitIngress (s : State) (p i : Nat) (x : Ingress) (qs : List Nat) : State :=
  let h := x.hdr
  let e := s.entry i
  let c := h.cls.toNat
  let n := cellsOf h.length.toNat
  let g := e.gen
  let all := if h.kind.toNat = kTest then s.copiesOn testEntry 0 qs else s.copiesOn i g qs
  let cs := all.filter fun x => !s.portStopped x.port
  let s := if x.waiting then s else s.dropStopped all c
  let lent := if s.elrek p then n else 0
  let ps := cs.map (·.port)
  let d := match s.domainOf p c ps with
    | .landing e _ => .landing e x.rxCls
    | d => d
  let ok := match d with
    | .anchor a c => x.waiting || s.admits a c n
    | _ => true
  if cs.isEmpty && !all.isEmpty then s.setIng p (some { x with waiting := false, owed := lent })
  else if !ok then (s.refuseFrame (s.anchor ps) c).setIng p (some { x with waiting := false, owed := lent })
  else if s.bolt.swb.ready < n || s.freeCount < n then s.setIng p (some { x with waiting := true, owed := lent })
  else
    let id := s.bolt.swb.nextId
    let ent := if h.kind.toNat = kTest then testEntry else i
    let s1 := s.store ⟨⟨{ h with enc := false }, s.plainSoFar p x⟩, ent, g, [], d, s.cycle,
      s.bolt.sch.now, p, false, x.got, x.need, cs, none, false, none, false⟩
    let owed := match d with
      | .anchor .. => lent
      | _ => 0
    (s1.setIng p (some { x with store := some id, waiting := false, owed := owed })).each cs fun c s => s.placeQueue c.queue

/-- Checks 4 to 7 of spec/06 R140 and policing (spec/08 R198) on an arriving header. -/
def State.checkHeader (s : State) (p : Nat) (x : Ingress) : State :=
  let h := x.hdr
  let n := cellsOf h.length.toNat
  let drop (s : State) := (s.discardCredit p x.rxCls n).setIng p (some x)
  let k := h.kind.toNat
  if formatBad h then drop (s.sat (F.TUN_RXERR_B_FORMAT p) 1)
  else if p < 2 && s.addr != 0 && h.src.toNat = s.addr then drop (s.sat (F.TUN_RXERR_C_RETURNED p) 1)
  else if p < 2 && h.enc != (s.rxKey p).isSome then drop (s.sat (F.KEY_LINK_CNT3_ENC_MISMATCH p) 1)
  else if k = kRing then s.setIng p (some { x with owed := if s.elrek p then n else 0 })
  else if k = kTest then
    if h.dst.toNat = s.addr then s.admitIngress p testEntry x [2]
    else if p < 2 && s.memberLink (1 - p) then s.admitIngress p testEntry x [1 - p]
    else drop s
  else
    match s.entryOf h.tunnel.toNat with
    | none => drop (s.sat (F.TUN_RXERR_B_NO_ENTRY p) 1)
    | some i =>
      if !s.isOn .tun || !s.roleOk p i h then drop (s.sat (F.TUN_RXERR_B_NO_ENTRY p) 1)
      else
        let e := s.entry i
        let s1 := if h.cls.toNat = e.cls then s else s.sat (F.TUN_RXERR_C_CLASS_MISMATCH p) 1
        let x := { x with hdr := { h with cls := BitVec.ofNat 3 e.cls } }
        let (s2, conform) := if k = kKnot then (s1, true) else s1.polices i (s1.countedLen p h.length.toNat)
        let (_, _, act, _) := s2.bucket s2.cycle i 4
        if !conform && act = 1 then
          drop (s2.mapEntry i fun e => { e with polDrop := satAdd 16 e.polDrop 1 })
        else
          let s3 := if conform then s2 else s2.mapEntry i fun e => { e with polExcess := satAdd 16 e.polExcess 1 }
          let (qs, cut) := s3.routes p i h
          let (inDrop, outDrop) := s3.healDrop p i h
          let s3 := if inDrop || outDrop then s3.sat F.RNG_CUT2_HEAL_DROP 1 else s3
          if cut then drop (s3.sat F.RNG_CUT_TRANSIT_DROP 1)
          else if qs.isEmpty then drop s3
          else s3.admitIngress p i x qs

/-- The plaintext bytes of a frame received in full: payload and whether tag and trailer hold, the trailer over the header as
received with ENC 0 (spec/06 R135, R138). -/
def State.decodeBody (s : State) (p : Nat) (x : Ingress) : List Byte × Bool × Bool :=
  let n := x.hdr.length.toNat
  let body := x.data.drop 16
  let h := x.data.take 16
  let pt := s.plainBody p x
  match x.hdr.enc, s.rxKey p with
  | true, some (key, _) =>
    let clear := hdrBytes { hdrOf (BitVec.ofNat 128 (ofBe h)) with enc := false }
    (bytesAt pt 0 n, decide (bytesAt body (n + 4) 16 = Config.gcmTag key x.iv h (bytesAt body 0 (n + 4))),
      decide (leAt pt n 4 = crc32c (clear ++ bytesAt pt 0 n)))
  | _, _ => (bytesAt pt 0 n, true, decide (leAt pt n 4 = crc32c (h ++ bytesAt pt 0 n)))

/-- A buffered frame that fails while it arrives: frayed where a copy runs cut-through, discarded otherwise
(spec/06 R142, spec/07 R183). -/
def State.failIngress (s : State) (id cause : Nat) : State :=
  match s.stored id with
  | none => s
  | some x =>
    if x.copies.any fun c => c.st = .cutting then (s.frayMade x.entry cause).frayFrame id s.addr cause 0
    else
      let s1 := if cause = 1 then s.sat F.TUN_DROP_CRC_DROP 1 else s
      s1.each x.copies fun c s => s.dropCopy id c.queue

/-- The last stitch of a frame has arrived: tag and trailer are checked, then the frame is complete (spec/06 R142,
spec/19 R421, spec/07 R169, R181). -/
def State.endIngress (s : State) (p : Nat) (x : Ingress) : State :=
  let s := (s.setIng p none).payOwed p x
  let (pay, tagOk, crcOk) := s.decodeBody p x
  match x.store with
  | none =>
    if x.hdr.kind.toNat = kRing && !x.errored && tagOk && crcOk && !formatBad x.hdr && p < 2 &&
        !(s.addr != 0 && x.hdr.src.toNat = s.addr) then
      s.emit (.ring p ⟨{ x.hdr with enc := false }, pay⟩)
    else if x.hdr.kind.toNat = kRing then (if !x.errored && tagOk && !crcOk then s.sat F.TUN_DROP_CRC_DROP 1 else s)
    else s
  | some id =>
    if x.errored then s.failIngress id 3
    else if !tagOk then
      let cut := ((s.stored id).map fun y => y.copies.any fun c => c.st = .cutting).getD false
      ((if cut then s.sat (F.KEY_LINK_CNT2_TAG_FRAY p) 1 else s.sat (F.KEY_LINK_CNT2_TAG_DROP p) 1).irq 0x40D00000 5).failIngress id 2
    else if !crcOk then s.failIngress id 1
    else
      let s1 := s.mapStored id fun y => { y with
        frame := ⟨{ x.hdr with enc := false }, pay⟩, complete := true, got := x.need }
      match s1.stored id with
      | none => s1
      | some y =>
        let eligible := s1.cutOk y
        let s3 := s1.each (if eligible then y.copies.filter Copy.unstarted else []) fun c s =>
          s.sat (F.SWB_CT_B_DECLINED c.port) 1
        let s4 := if y.copies.any fun c => 2 ≤ c.port then s3.sinkCheck y.entry id x.hdr else s3
        let s5 := s4.each (y.copies.filter fun c => c.st = .cutting) fun c s => s.pushWire c.port
        s5.each y.copies fun c s => s.placeQueue c.queue

/-- A hunt starts (spec/06 R141). -/
def State.startHunt (s : State) (p : Nat) : State :=
  let s1 := (s.setPort p { s.port p with hunting := true, ing := none }).sat (F.TUN_RXERR_HUNT p) 1
  s1.irq bTun 4

/-- The first FRAME stitch of a frame, at position `pos` of the row in progress, on a port in LINKED or later
(spec/06 R140, R141). -/
def State.frameRx (s : State) (p pos : Nat) (t : RowStitch) : State :=
  if !(s.elrek p) || s.bring p < 7 || 9 < s.bring p then s
  else if (s.port p).hunting then s
  else
    let w : BitVec 128 := t.data.extractLsb' 384 128
    let h := hdrOf w
    if !t.ok || !hcrcOk w then (s.sat (F.TUN_RXERR_HCRC p) 1).startHunt p
    else if 9600 < h.length.toNat then (s.sat (F.TUN_RXERR_B_FORMAT p) 1).startHunt p
    else
      let iv := match s.rxKey p with
        | some (_, salt) => frameIv salt (s.port p).rxWraps (s.port p).rxRow pos
        | none => []
      let c := h.cls.toNat
      let x : Ingress := ⟨h, stitchesOf h.length.toNat h.enc, 1, stitchBytes t.data, false, none, false, iv, c, 0⟩
      let s1 := (s.recvAdd p c (cellsOf h.length.toNat)).checkHeader p x
      match (s1.port p).ing with
      | some y => if y.got = y.need && !y.waiting then s1.endIngress p y else s1
      | none => s1


/-- A frame that is cut through and fails a stitch on the way is given up at once (spec/06 R142, spec/07 R183). -/
def State.badStitch (s : State) (y : Ingress) (fail : Bool) : State × Ingress :=
  match y.store with
  | some id => if fail then (s.failIngress id 3, { y with store := none }) else (s, y)
  | none => (s, y)

/-- The bytes received so far reach the buffered frame, in plaintext, and its copies that are cut through. -/
def State.feedCopies (s : State) (p : Nat) (y : Ingress) : State :=
  match y.store with
  | some id =>
    let z := s.mapStored id fun z => { z with got := y.got, frame := { z.frame with payload := s.plainSoFar p y } }
    z.each (((z.stored id).map fun f => f.copies.filter fun c => c.st = .cutting).getD []) fun c s => s.pushWire c.port
  | none => s

/-- A FRAME stitch after the first: the stitch before it may go on; a CHK failure marks the frame errored, and frays it at once
where it runs cut-through; the last stitch ends the frame (spec/06 R142, R152; spec/07 R183). -/
def State.stitchRx (s : State) (p : Nat) (t : RowStitch) : State :=
  match (s.port p).ing with
  | none => s
  | some x =>
    let bad := !t.ok
    let y := { x with got := x.got + 1, data := x.data ++ stitchBytes t.data, errored := x.errored || bad }
    let cut := match y.store with
      | some id => ((s.stored id).map fun z => z.copies.any fun c => c.st = .cutting).getD false
      | none => false
    let (s1, y) := ((s.setIng p (some y)).feedCopies p y).badStitch y (bad && cut)
    let s3 := s1.setIng p (some y)
    if y.need ≤ y.got && !y.waiting then s3.endIngress p y else s3

/-- A FRAME stitch: it goes on with the frame in progress on its port, or begins one (spec/06 R137, R140, R142). -/
def State.frameIn (s : State) (p pos : Nat) (t : RowStitch) : State :=
  if (s.port p).ing.isSome then s.stitchRx p t else s.frameRx p pos t


/-- The header that waits at an Elrek port goes on where the ready list covers it (spec/07 R163). -/
def State.retryIngress (s : State) (p : Nat) : State :=
  match (s.port p).ing with
  | some x =>
    if x.waiting then
      let i := (s.entryOf x.hdr.tunnel.toNat).getD 0
      let qs := if x.hdr.kind.toNat = kTest then (if x.hdr.dst.toNat = s.addr then [2] else [1 - p])
        else (s.routes p i x.hdr).1
      let s1 := s.admitIngress p i x qs
      match (s1.port p).ing with
      | some y => if y.got = y.need && !y.waiting then s1.endIngress p y else s1
      | none => s1
    else s
  | none => s

/-- The ready list refills for `clocks` CORE_CLK cycles and every header that waits is looked at (spec/07 R163). -/
def State.refillAll (s : State) (clocks : Nat) : State :=
  ((s.refill clocks).each (List.range 8) fun p s => s.retryIngress p).retryLocal none

/-- READY_LIST_ADMIT: the ready list refills for `clocks` CORE_CLK cycles; a header that waits at port `p` and is covered goes on
(spec/07 R163). -/
def execReadyListAdmit (p : Fin 12) (clocks : Nat) (s : State) : Step :=
  .next (s.ifBolt fun s => ((s.refill clocks).retryIngress p.val).retryLocal (some p.val))

/-- The frame arriving on a port ends as errored: lock or deskew was lost (spec/06 R142). -/
def State.cutIngress (s : State) (p : Nat) : State :=
  match (s.port p).ing with
  | none => s
  | some x => match x.store with
    | some id => ((s.failIngress id 3).setIng p none).payOwed p x
    | none => (s.setIng p none).payOwed p x

/-- FRAY_RX: forwarded where the frame runs cut-through, else the partial frame is discarded; without a frame it is stray
(spec/06 R150 to R152). -/
def State.frayRx (s : State) (p : Nat) (t : RowStitch) : State :=
  let pl := t.data.toNat
  let s := s.setPort p { s.port p with hunting := false }
  match (s.port p).ing with
  | none => if s.elrek p && 7 ≤ s.bring p then s.sat F.TUN_DROP_FRAY_STRAY 1 else s
  | some x =>
    if !t.ok then s.cutIngress p
    else
      let s1 := (s.setIng p none).payOwed p x
      match x.store with
      | none => s1.sat F.TUN_FRAY_FWD_RX 1
      | some id =>
        match s1.stored id with
        | none => s1
        | some y =>
          let origin := slice pl 476 8
          let cause := slice pl 472 4
          let hops := min 255 (slice pl 464 8 + 1)
          let toLocal := y.copies.any fun c => !(c.port < 8 && s.elrek c.port)
          let cut := y.copies.filter fun c => c.st = .cutting
          let s2 := if toLocal || cut.isEmpty then s1.sat F.TUN_FRAY_FWD_RX 1 else s1
          let s3 := if cut.any fun c => c.port < 8 && s.elrek c.port then s2.sat F.TUN_FRAY_FWD_PASSED 1 else s2
          if cut.isEmpty then s3.each y.copies fun c s => s.dropCopy id c.queue
          else s3.frayFrame id origin cause hops

/-- The held frames that now follow without a gap: those delivered, RCV_NXT after them, those still held
(spec/06 R146). -/
def takeHeld : Nat → Nat → List (Nat × Frame) → List Frame × Nat × List (Nat × Frame)
  | 0, r, h => ([], r, h)
  | n + 1, r, h =>
    match h.find? fun x => x.1 = r with
    | none => ([], r, h)
    | some x =>
      let (fs, r', h') := takeHeld n ((r + 1) % 65536) (h.filter fun y => y.1 != r)
      (x.2 :: fs, r', h')

/-- A frame held for reordering keeps its cells, charged to its class at the LOCAL_PORT (spec/06 R146). -/
def State.holdCells (s : State) (i : Nat) (f : Frame) : State :=
  let e := s.entry i
  let n := cellsOf f.payload.length
  if s.freeCount < n then s
  else
    let (cs, rest) := takeCells n s.bolt.swb.freeCells
    let need := stitchesOf f.payload.length false
    let x : Stored := ⟨f, i, e.gen, cs, .anchor e.localPort e.cls, s.cycle, s.bolt.sch.now, 0, true, need, need, [], none,
      false, none, true⟩
    ({ s with bolt.swb := { s.bolt.swb with
      freeCells := rest, nextId := s.bolt.swb.nextId + 1, ready := s.bolt.swb.ready - n
      frames := insertKey s.bolt.swb.nextId x s.bolt.swb.frames } }.charge x.domain n).checkFree

/-- The cells of held frames return: of those with some SEQs. -/
def State.freeHeld (s : State) (i : Nat) (seqs : List Nat) : State :=
  s.each ((s.bolt.swb.frames.filter fun x => x.2.held && x.2.entry = i && seqs.contains x.2.frame.hdr.seq.toNat).map (·.1))
    fun id s => s.freeFrame id

/-- RELIABLE_DATA_RX (spec/06 R146, R147). -/
def State.dataRx (s : State) (f : Frame) : State :=
  match s.entryOf f.hdr.tunnel.toNat with
  | none => s
  | some i =>
    let e := s.entry i
    if !e.sink || e.service ≠ svReliable || !s.isOn .tun then s
    else
      let sq := f.hdr.seq.toNat
      let d := (sq + 65536 - e.rcvNxt) % 65536
      let s0 := s.mapEntry i fun e => { e with lastGen := f.hdr.gen.toNat, lastSrc := f.hdr.src.toNat, sinceAck := e.sinceAck + 1 }
      if d = 0 then
        let (fs, r, h) := takeHeld 256 ((e.rcvNxt + 1) % 65536) e.held
        let s1 := s0.mapEntry i fun e => { e with rcvNxt := r, held := h }
        let s2 := (s1.freeHeld i (fs.map fun g => g.hdr.seq.toNat)).each (f :: fs) fun g s => s.emit (.service i g)
        if s.get F.TUN_ARQ_CFG_ACK_EVERY ≤ (s2.entry i).sinceAck then s2.sendAck i else s2
      else if d ≤ 255 then
        (if e.held.any fun x => x.1 = sq then s0
          else (s0.mapEntry i fun e => { e with held := e.held ++ [(sq, f)] }).holdCells i f).sendAck i
      else if 32768 ≤ d then (s0.count (81 + 3 * i) 1).sendAck i
      else s.count (82 + 3 * i) 1

/-- RELIABLE_DATA_RX. -/
def execReliableDataRx (f : Frame) (s : State) : Step := .next (s.ifBolt fun s => s.dataRx f)

/-- The SEQs from `a` up to but not including `b`. -/
def seqsFrom (a b : Nat) : List Nat := (List.range ((b + 65536 - a) % 65536)).map fun j => (a + j) % 65536

/-- The sender releases what an acknowledgement covers (spec/06 R148; spec/07 R172). -/
def State.advanceUna (s : State) (i una : Nat) : State :=
  let e := s.entry i
  let gone := seqsFrom e.una una
  let s1 := s.mapEntry i fun e => { e with
    una := una, timer := 0, expiries := 0
    retx := e.retx.filter fun r => !gone.contains r.1, resent := e.resent.filter fun r => !gone.contains r }
  s1.each (s1.bolt.swb.frames.filter fun x =>
      x.2.entry = i && x.2.frame.hdr.kind.toNat = kData && 2 ≤ x.2.ingress && gone.contains x.2.frame.hdr.seq.toNat) fun x s =>
    match s.stored x.1 with
    | some y => if y.copies.isEmpty then s.freeFrame x.1 else s
    | none => s

/-- RELIABLE_ACK_RX (spec/06 R148): UNA advances, gaps below the highest reported SEQ are resent once.  A DEAD tunnel keeps its
retransmit buffer and sends nothing (spec/06 R149). -/
def State.ackRx (s : State) (f : Frame) : State :=
  match s.entryOf f.hdr.tunnel.toNat with
  | none => s
  | some i =>
    let e := s.entry i
    if !e.source || e.service ≠ svReliable || e.dead || !s.isOn .tun then s
    else
      let r := f.hdr.seq.toNat
      let inside := decide ((r + 65536 - e.una) % 65536 ≤ (e.nxt + 65536 - e.una) % 65536)
      let s1 := if inside && r ≠ e.una then s.advanceUna i r else s
      let m := leAt f.payload 0 8
      let s2 := if inside then s1.mapEntry i fun e => { e with bitmap := m } else s1
      if !inside || m = 0 then s2
      else
        let top := Nat.log2 m
        let holes := (r :: (List.range top).map fun b => (r + 1 + b) % 65536).filter fun q =>
          q = r || !bit m ((q + 65536 - (r + 1)) % 65536)
        let due := holes.filter fun q => !(s2.entry i).resent.contains q
        let s3 := s2.mapEntry i fun e => { e with resent := e.resent ++ due }
        s3.each due fun q s => s.resend i q

/-- The retransmit timer runs out after RTO × 2^min(k, 3) cycles (spec/06 R149). -/
def Entry.timeout (e : Entry) : Nat := e.rto * 2 ^ min e.expiries 3

/-- RETRANSMIT_TIMEOUT: the frames from UNA to NXT that the latest BITMAP does not show as held are resent; after
RETRY_MAX expiries the tunnel is DEAD; a frame read with an uncorrectable error kills it at once (spec/06 R149,
spec/07 R166). -/
def State.retransmit (s : State) (i bits : Nat) : State :=
  let e := s.entry i
  if !e.valid || e.service ≠ svReliable || e.dead || e.una = e.nxt || e.timer < e.timeout then s
  else
    let k := e.expiries + 1
    let cells := (s.bolt.swb.frames.filter fun x => x.2.entry = i && x.2.frame.hdr.kind.toNat = kData).flatMap fun x =>
      x.2.cells
    if 3 ≤ max bits (s.readBits cells) then
      ((s.failCells (let b := s.badCells cells; if b.isEmpty then cells.take 1 else b)).eccUncorr).tunnelDead i
    else
      let s1 := s.mapEntry i fun e => { e with expiries := k, timer := 0, resent := [] }
      if s.get F.TUN_ARQ_CFG_RETRY_MAX ≠ 0 && s.get F.TUN_ARQ_CFG_RETRY_MAX ≤ k then s1.tunnelDead i
      else
        s1.each ((seqsFrom e.una e.nxt).filter fun q =>
          let d := (q + 65536 - (e.una + 1)) % 65536
          !(decide (d < 64) && bit e.bitmap d)) fun q s => s.resend i q

/-- CUR_PATH of a bucket at a sink: as last switched, else the PATH of its first frame; none before that (spec/06 R155; the
start is a DESIGN CHOICE, assumption log 12). -/
def State.curPath (s : State) (i b : Nat) : Option Nat :=
  ((lookupKey b (s.entry i).curPath).map (·.1)).or (lookupKey b (s.entry i).basePath)

/-- Hold lists open in the hub. -/
def State.holdsOpen (s : State) : Nat := (s.bolt.tun.map fun e => e.2.holds.length).sum

/-- TUN_HOLD.ACTIVE follows the hold lists. -/
def State.noteHolds (s : State) : State := s.set F.TUN_HOLD_ACTIVE s.holdsOpen

/-- A DATAGRAM frame handed on and counted for its bucket and PATH. -/
def State.deliverDatagram (s : State) (i : Nat) (f : Frame) : State :=
  let k := hBucket f.hdr + 64 * b2n f.hdr.path
  ((s.mapEntry i fun e => { e with rxCount := insertKey k (((lookupKey k e.rxCount).getD 0) + 1) e.rxCount }).emit (.service i f)).ethEgress i f

/-- The hold list of a bucket closed: CUR_PATH switches, held frames are delivered in order (spec/06 R155). -/
def State.switchPath (s : State) (i b newPath upTo : Nat) : State :=
  let held := ((s.entry i).holds.find? fun h => h.bucket = b).map (·.frames)
  let s1 := s.mapEntry i fun e => { e with
    curPath := insertKey b (newPath, upTo) e.curPath, holds := e.holds.filter fun h => h.bucket != b }
  ((s1.each (held.getD []) fun f s => s.deliverDatagram i f).noteHolds)

/-- DATAGRAM_RX (spec/06 R155): delivered, held or discarded by PATH.  A frame with the old PATH after a switch is the
one whose PATH is not CUR_PATH and whose SEQ is not later than the last of the old path (DEDUCED, assumption log 12). -/
def State.datagramRx (s : State) (f : Frame) : State :=
  match s.entryOf f.hdr.tunnel.toNat with
  | none => s
  | some i =>
    let e := s.entry i
    if !e.sink || e.service ≠ svDatagram || !s.isOn .tun then s
    else
      let b := hBucket f.hdr
      let p := b2n f.hdr.path
      let hold := e.holds.find? fun h => h.bucket = b
      if s.curPath i b = none then
        (s.mapEntry i fun e => { e with basePath := insertKey b p e.basePath }).deliverDatagram i f
      else if s.curPath i b = some p then s.deliverDatagram i f
      else match hold with
        | some _ => s.mapEntry i fun e => { e with
            holds := e.holds.map fun h => if h.bucket = b then { h with frames := h.frames ++ [f] } else h }
        | none =>
          if (lookupKey b e.curPath).any fun x => 32768 ≤ (f.hdr.seq.toNat + 65535 - x.2) % 65536 then
            s.count (81 + 3 * i) 1
          else if 64 ≤ s.holdsOpen then
            ((s.deliverDatagram i f).sat F.TUN_HOLD_OVERFLOW 1).irq bTun 5
          else (s.mapEntry i fun e => { e with holds := e.holds ++ [⟨b, [f], 0⟩] }).noteHolds

/-- DATAGRAM_RX. -/
def execDatagramRx (f : Frame) (s : State) : Step := .next (s.ifBolt fun s => s.datagramRx f)

/-- A KNOT at a DATAGRAM sink: the buckets it covers whose CUR_PATH is OLD_PATH, or has not been seen, switch, FRAMES being
compared with the frames received in them; with none it is late (spec/06 R155).  The KNOT of an entry that follows one pin, with
BUCKET 0, covers every bucket (DEDUCED from spec/06 R153 and spec/09 R212, assumption log 12). -/
def State.datagramKnot (s : State) (i : Nat) (f : Frame) : State :=
  let e := s.entry i
  let paths := leAt f.payload 0 1
  let b := leAt f.payload 1 1 % 64
  let known := if b = 0 && !e.perBucket then (0 :: (e.curPath.map (·.1) ++ e.basePath.map (·.1))).dedup else [b]
  let bs := known.filter fun b => (s.curPath i b).all fun p => p = paths % 2
  if bs.isEmpty then s.count (81 + 3 * i) 1
  else
    let keys := bs.map fun b => b + 64 * (paths % 2)
    let got := (keys.map fun k => (lookupKey k e.rxCount).getD 0).sum % 2 ^ 32
    let want := leAt f.payload 8 4
    let s1 := (s.mapEntry i fun e => { e with rxCount := e.rxCount.filter fun x => !keys.contains x.1 }).countLoss i
      (want - got + (got - want))
    s1.each bs fun b s => s.switchPath i b (paths / 2 % 2) f.hdr.seq.toNat

/-- KNOT_RX (spec/06 R147, R155, R156): counted for its service; a DATAGRAM sink switches, a RELIABLE receiver
acknowledges where the KNOT's SEQ lies at or beyond RCV_NXT. -/
def State.knotRx (s : State) (f : Frame) : State :=
  match s.entryOf f.hdr.tunnel.toNat with
  | none => s
  | some i =>
    let e := s.entry i
    if !e.sink || !s.isOn .tun then s
    else
      let s0 := (s.count (3155 + 4 * e.service) 1).mapEntry i fun e => { e with lastGen := f.hdr.gen.toNat }
      if e.service = svDatagram then s0.datagramKnot i f
      else if e.service = svReliable then
        if (f.hdr.seq.toNat + 65536 - e.rcvNxt) % 65536 < 32768 then s0.sendAck i else s0
      else s0

/-- KNOT_RX. -/
def execKnotRx (f : Frame) (s : State) : Step := .next (s.ifBolt fun s => s.knotRx f)

/-- KNOT_TIMEOUT: as for the KNOT, without the FRAMES comparison (spec/06 R155). -/
def execKnotTimeout (i : Fin 1024) (b : Fin 64) (s : State) : Step :=
  .next (s.ifBolt fun s =>
    match (s.entry i.val).holds.find? fun h => h.bucket = b.val with
    | none => s
    | some h =>
      if h.age < s.get F.TUN_KNOT_CFG_TIMEOUT then s
      else
        let cur := (s.curPath i.val b.val).getD 0
        let s1 := s.mapEntry i.val fun e => { e with rxCount := eraseKey (b.val + 64 * cur) e.rxCount }
        ((s1.switchPath i.val b.val (1 - cur) (((h.frames.head?).map fun f => f.hdr.seq.toNat + 65535).getD 0 % 65536)).count (82 + 3 * i.val) 1).irq bTun 3)

/-- PROGRESS_TIMER: every PROG_S seconds a delivery record for each entry with PROGRESS; `ms` ms have passed since the
last (spec/06 R159). -/
def execProgressTimer (ms : Nat) (s : State) : Step :=
  .next (s.ifBolt fun s =>
    let every := s.get F.TUN_ARQ_CFG_PROG_S
    if every = 0 || ms < every * 1000 then s
    else s.each (s.bolt.tun.filter fun e => e.2.valid && e.2.progress) fun ie s => s.deliveryRecord ie.1 4)

/-- TOKEN_ADD: every 64 CORE_CLK cycles (40.96 ns) the buckets gain, held and waiting frames are tested again, the ready
list refills, and a rebuild is complete (spec/08 R197, R198, R201; spec/07 R163). -/
def execTokenAdd (s : State) : Step :=
  .next (s.ifBolt fun s =>
    let s0 := s.showInstant (min (cyclePs - 1) s.bolt.sch.tokNext)
    let s1 := { s0 with bolt.sch.tokNext := s.bolt.sch.tokNext + 40960 }
    let s2 := (s1.addAllTokens).refillAll 64
    let s3 := s2.each (s2.bolt.tun.filter fun e => !e.2.waiting.isEmpty) fun ie s => s.retryWaiting ie.1
    (s3.placeAll).rebuilt)

/-- What the services count at a cycle boundary: retransmit timers, hold timers, acknowledgements owed
(spec/06 R147, R149, R155); the retransmission of USB tunnels waits while the seam is down (spec/02 R44). -/
def State.tunnelCycle (s : State) : State :=
  let tick (e : Entry) : Entry := { e with
    timer := if e.localPort = 10 && !s.seamUp then e.timer
      else if e.service = svReliable && e.una ≠ e.nxt then e.timer + 1 else 0
    holds := e.holds.map fun h => { h with age := h.age + 1 } }
  let s1 : State := { s with bolt.tun := s.bolt.tun.map fun x : Nat × Entry => (x.1, tick x.2) }
  s1.each (s1.bolt.tun.filter fun e => e.2.valid && e.2.service = svReliable && e.2.sinceAck ≠ 0) fun ie s => s.sendAck ie.1

end Sys2Proof.Machine
end

