-- ==== Sys2Proof/Machine/Allot.lean ====
section
/-! DEFINITION. Allotment (spec/09): the plan checker, the coordinator's commands, sews, alarms and unpicks; and the
sending of RING_CTRL frames (spec/10 R234, R236). -/

namespace Sys2Proof.Machine

/-- OP codes of RING_CTRL (spec/10 R235). -/
abbrev opAlt : Nat := 1
abbrev opBeacon : Nat := 2
abbrev opAnnounce : Nat := 3
abbrev opEdge : Nat := 4
abbrev opClaim : Nat := 5
abbrev opRollcall : Nat := 6
abbrev opTaken : Nat := 7
abbrev opJoinReq : Nat := 8
abbrev opJoinAck : Nat := 9
abbrev opHeal : Nat := 10
abbrev opOpening : Nat := 11
abbrev opNak : Nat := 12
abbrev opMsg : Nat := 13
abbrev opForget : Nat := 14

/-- SVC of a RING_CTRL frame (spec/10 R234). -/
def svcRing (op epoch hops : Nat) (toM fromM : Bool) : Nat :=
  op % 128 * 2 ^ 32 + epoch % 65536 * 2 ^ 16 + hops % 256 * 2 ^ 8 + b2n toM * 2 ^ 7 + b2n fromM * 2 ^ 6

/-- Fields of SVC of a RING_CTRL frame (spec/10 R234). -/
def rOp (h : Hdr) : Nat := (h.svc.extractLsb' 32 7).toNat
def rEpoch (h : Hdr) : Nat := (h.svc.extractLsb' 16 16).toNat
def rHops (h : Hdr) : Nat := (h.svc.extractLsb' 8 8).toNat
def rToMaster (h : Hdr) : Bool := h.svc.getLsbD 7
def rFromMaster (h : Hdr) : Bool := h.svc.getLsbD 6

/-- A RING_CTRL frame of this node with a SRC (spec/10 R234). -/
def State.ringFrame (s : State) (src op dst epoch : Nat) (toM fromM : Bool) (payload : List Byte) : Frame :=
  ⟨{ tunnel := 0, cls := 7, kind := BitVec.ofNat 4 kRing, seq := BitVec.ofNat 16 s.bolt.rng.seq
     length := BitVec.ofNat 14 payload.length, src := BitVec.ofNat 8 src, dst := BitVec.ofNat 8 dst, buddy := false
     path := false, ctOk := false, enc := false, gen := 0, last := true, resv := false
     svc := BitVec.ofNat 39 (svcRing op epoch 0 toM fromM) }, payload⟩

/-- A frame as its copy on a trunk carries it: PATH is the direction (spec/10 R234). -/
def onTrunk (f : Frame) (p : Nat) : Frame := { f with hdr := { f.hdr with path := decide (p = 1) } }

/-- A RING_CTRL frame originated on some trunks; a role-bound one but a BEACON, whose refusal deposes its sender, is kept for a retry
(spec/10 R234, R236, R238). -/
def State.originate (s : State) (f : Frame) (ps : List Nat) : State :=
  let bound := (rToMaster f.hdr || rFromMaster f.hdr) && decide (rOp f.hdr ≠ opBeacon)
  let s1 := { s with bolt.rng := { s.bolt.rng with
    seq := (s.bolt.rng.seq + 1) % 65536
    lastBound := if bound then some (f, 0) else s.bolt.rng.lastBound } }
  s1.each ps fun p s => s.sendCl7 p (onTrunk f p)

/-- Who a frame's SEQ counts for: SRC, or the payload's UID for SRC 0 (spec/10 R236). -/
def ringKey (f : Frame) : Nat := if f.hdr.src.toNat = 0 then 2 ^ 8 + leAt f.payload 8 16 else f.hdr.src.toNat

/-- A frame's record among those received within the last 16 cycles. -/
def State.ringSeen (s : State) (f : Frame) : Option (Nat × Nat × Nat × Bool) :=
  s.bolt.rng.seen.find? fun x =>
    x.1 = ringKey f && x.2.1 = f.hdr.seq.toNat && (s.cycle + 2 ^ 32 - x.2.2.1) % 2 ^ 32 < 16

/-- A frame's SRC and SEQ recorded; records older than 16 cycles go. -/
def State.ringNote (s : State) (f : Frame) (acted : Bool) : State :=
  { s with bolt.rng.seen := ((ringKey f, f.hdr.seq.toNat, s.cycle, acted) :: s.bolt.rng.seen).filter fun x =>
    (s.cycle + 2 ^ 32 - x.2.2.1) % 2 ^ 32 < 16 }

/-- A frame acted on, once: only the first copy of its SRC and SEQ within 16 cycles (spec/10 R236).  The record that RING_CTRL_RX
makes of a frame's arrival is that of the frame on which the command of its OP then acts. -/
def State.onFirst (s : State) (f : Frame) (act : State → State) : State :=
  match s.ringSeen f with
  | some x =>
    if x.2.2.2 then s
    else act { s with bolt.rng.seen := s.bolt.rng.seen.map fun y => if y = x then (x.1, x.2.1, x.2.2.1, true) else y }
  | none => act (s.ringNote f true)

/-- A RING_CTRL message of an addressed node whose ring engine is ON, on every trunk that is UP (spec/10 R236, R241). -/
def State.sendRing (s : State) (op dst : Nat) (toM fromM : Bool) (payload : List Byte) : State :=
  if !s.isOn .rng || s.addr = 0 then s
  else s.originate (s.ringFrame s.addr op dst (s.get F.RNG_EPOCH_EPOCH) toM fromM payload) [0, 1]

/-- The payload of an ALT message (spec/09 R219). -/
def altPayload (op arg node plan cyc reason detail digest : Nat) : List Byte :=
  leBytes 1 op ++ leBytes 1 arg ++ leBytes 1 node ++ leBytes 1 0 ++ leBytes 4 plan ++ leBytes 4 cyc ++ leBytes 2 reason ++
    leBytes 2 detail ++ leBytes 4 digest

/-- An ALT message sent to a node, or to all (spec/09 R219). -/
def State.sendAlt (s : State) (dst : Nat) (payload : List Byte) : State := s.sendRing opAlt dst false false payload

/-- BANK_PLAN and COORD of the bank in a role (spec/09 R211). -/
def State.bankPlan (s : State) (r : Nat) : Nat := s.physWord (s.role r) 0
def State.coord (s : State) (r : Nat) : Nat := slice (s.physWord (s.role r) 4) 0 8

/-- Bits of a word of a bank that are assigned; all others are reserved (spec/09 R211, R212; spec/08 R192, R197). -/
def bankMask (off : Nat) : Nat :=
  if off = 0 then 0xFFFFFFFF
  else if off = 4 then 0x1FF
  else if 0x100 ≤ off ∧ off < 0x280 then 0x3FFFFF
  else if 0x300 ≤ off ∧ off < 0x400 then 0x3FFFF
  else if 0x400 ≤ off ∧ off < 0x430 then 0x1FF
  else if 0x1000 ≤ off ∧ off < 0x4000 then 0x7F01FFFF
  else if 0x4000 ≤ off ∧ off < 0xC000 then
    match off % 0x20 with
    | 0x00 => 0x1FFFF
    | 0x04 => 0x3FFFFFFF
    | 0x08 => 0x7FFFFF
    | 0x0C => 0x0FFFFFFF
    | 0x10 => 0x7FFFFF
    | 0x14 => 0xFFFFFFFF
    | 0x18 => 0xFFFFFFFF
    | _ => 0x1FFFFF
  else 0

/-- DETAIL of the item a bank offset belongs to (spec/09 R216). -/
def bankDetail (off : Nat) : Nat :=
  if 0x100 ≤ off ∧ off < 0x280 then 0x2000 + (off - 0x100) / 4
  else if 0x300 ≤ off ∧ off < 0x400 then 0x2100 + (off - 0x300) / 4
  else if 0x400 ≤ off ∧ off < 0x430 then 0x1000 + 0x100 * ((off - 0x400) / 4)
  else if 0x1000 ≤ off ∧ off < 0x4000 then 0x1000 + (off - 0x1000) / 4
  else if 0x4000 ≤ off ∧ off < 0xC000 then (off - 0x4000) / 0x20
  else 0xFFFF

/-- A record of an entry in a bank: QUANTUM, policing (RATE, EN, ACT, BURST), shaping (RATE, EN, BURST), pins, BOUND_NS,
ELASTIC. -/
structure Rec where
  quantum : Nat
  polRate : Nat
  polEn : Bool
  polAct : Nat
  polBurst : Nat
  shpRate : Nat
  shpEn : Bool
  shpBurst : Nat
  pins : Nat
  bound : Nat
  elastic : Bool
  deriving DecidableEq, Repr

/-- The record of an entry in a physical bank (spec/09 R212). -/
def State.record (s : State) (b i : Nat) : Rec :=
  let w (o : Nat) := s.physWord b (0x4000 + 0x20 * i + o)
  ⟨slice (w 0) 0 17, slice (w 4) 0 27, bit (w 4) 27, slice (w 4) 28 2, slice (w 8) 0 23, slice (w 0xC) 0 27, bit (w 0xC) 27,
    slice (w 0x10) 0 23, w 0x14 + 2 ^ 32 * w 0x18, slice (w 0x1C) 0 20, bit (w 0x1C) 20⟩

/-- The valid entries. -/
def State.validEntries (s : State) : List (Nat × Entry) := s.bolt.tun.filter fun e => e.2.valid

/-- The directions in which an entry's buckets are pinned in a record (spec/09 R217). -/
def Rec.dirs (r : Rec) (buddy : Bool) : List Nat :=
  if buddy then [0, 1]
  else if r.elastic then
    (if r.pins = 2 ^ 64 - 1 then [] else [0]) ++ (if r.pins = 0 then [] else [1])
  else [b2n (bit r.pins 0)]

/-- Ports an entry uses for ingress and for egress at this node, each once (spec/09 R217). -/
def State.usePorts (s : State) (b : Nat) (ie : Nat × Entry) : List Nat × List Nat :=
  let e := ie.2
  let ds := (s.record b ie.1).dirs e.buddy
  let src := if e.source then ([e.localPort], ds) else ([], [])
  let tra := if e.transit then (ds.map fun d => 1 - d, ds) else ([], [])
  let snk := if e.sink then (ds.map fun d => 1 - d, [e.localPort]) else ([], [])
  ((src.1 ++ tra.1 ++ snk.1).dedup, (src.2 ++ tra.2 ++ snk.2).dedup)

/-- G of a class on a port at BOOK (spec/08 R195). -/
def State.bookGuard (s : State) (c p : Nat) : Nat := guardNs (s.guardLen c p) (s.book p)

/-- The windows of a class in a gate list as (open, close) in ns: maximal runs, a run over the cycle's end joined to that
at its start (spec/08 R193). A class open throughout has the one window [0, 125000) (DEDUCED, assumption log 14). -/
def windows (c : Nat) (l : List (Nat × Nat)) : List (Nat × Nat) :=
  let step (acc : List (Nat × Nat) × Nat) (e : Nat × Nat) :=
    if bit e.2 c then
      match acc.1.reverse with
      | (o, z) :: r => if z = acc.2 then (r.reverse ++ [(o, e.1)], e.1) else (acc.1 ++ [(acc.2, e.1)], e.1)
      | [] => ([(acc.2, e.1)], e.1)
    else (acc.1, e.1)
  let ws := (l.foldl step ([], 0)).1
  match ws, ws.reverse with
  | (0, z) :: t, (o, 125000) :: _ => if t.isEmpty then [(o, z)] else t.dropLast ++ [(o, 125000 + z)]
  | _, _ => ws

/-- Some entry of a gate list, within a window, has a class open. -/
def openInWindow (l : List (Nat × Nat)) (c : Nat) (w : Nat × Nat) : Bool :=
  (windows c l).any fun v =>
    decide (v.1 < w.2 ∧ w.1 < v.2) || decide (v.1 + 125000 < w.2 ∧ w.1 < v.2 + 125000) ||
      decide (v.1 < w.2 + 125000 ∧ w.1 + 125000 < v.2)

/-- Entries of a class with a queue on a port, with their records. -/
def State.classRecs (s : State) (b : Nat) (cs : Nat → Bool) (p : Nat) : List (Nat × Rec) :=
  (s.validEntries.filter fun ie => cs ie.2.cls && s.hasQueue ie.1 p).map fun ie => (ie.2.cls, s.record b ie.1)

/-- S_j of each window, in bytes × 8,000,000: (open, usable length, S) (spec/09 R218). -/
def State.services (s : State) (b c p : Nat) : List (Nat × Nat × Nat) :=
  let l := s.bankGates b p
  let g := s.bookGuard c p
  (windows c l).map fun w =>
    let len := w.2 - w.1
    let higher := (s.classRecs b (fun d => decide (c < d)) p).filter fun r => openInWindow l r.1 w
    let inter := (higher.map fun r => r.2.shpBurst * 8000000 + r.2.shpRate * len).sum
    (w.1, len - g, (len - g) * s.book p * 1000 - inter)

/-- The least τ at which service accrued from an instant covers B + R τ (bytes × 8,000,000), over the segments given as
(start, usable length, S), the start measured from that instant (spec/09 R218). -/
def leastTau (bb r : Nat) : List (Nat × Nat × Nat) → Nat → Option Nat
  | [], _ => none
  | (o, w, sv) :: t, acc =>
    if w = 0 then leastTau bb r t acc
    else
      let need : Int := (bb * w : Nat) - (acc * w : Nat) + (sv * o : Nat)
      let slope : Int := (sv : Int) - (r * w : Nat)
      let tau : Nat :=
        if bb + r * o ≤ acc then o
        else if slope ≤ 0 then o + w + 1
        else max o ((need + slope - 1) / slope).toNat
      if tau ≤ o + w then some tau else leastTau bb r t (acc + sv)

/-- T of a class at a port: over every window, the wait from its last usable instant; none where it is unbounded
(spec/09 R218). -/
def State.maxWait (s : State) (b c p : Nat) : Option Nat :=
  let svs := s.services b c p
  let recs := s.classRecs b (fun d => d = c) p
  let bb := (recs.map fun r => r.2.shpBurst * 8000000).sum + s.guardLen c p * 8000000
  let rr := (recs.map fun r => r.2.shpRate).sum
  svs.foldl (fun m w => match m with
    | none => none
    | some x =>
      let a := w.1 + w.2.1
      let segs := [0, 1, 2, 3].flatMap fun k => svs.filterMap fun v =>
        let o := v.1 + 125000 * k
        if a ≤ o ∧ o < a + 250000 then some (o - a, v.2.1, v.2.2) else none
      (leastTau bb rr segs 0).map (max x)) (if svs.isEmpty then none else some 0)

/-- D of an entry at an egress port; none where it is unbounded (spec/09 R218). -/
def State.delayAt (s : State) (b : Nat) (ie : Nat × Entry) (p : Nat) : Option Nat :=
  let ins := (s.usePorts b ie).1
  let inNs := (ins.map fun q => guardNs (s.countedLen q ie.2.maxLen) (s.book q)).foldl max 0
  (s.maxWait b ie.2.cls p).map fun t => t + s.get F.SCH_STAGE_CFG_LEAD_NS + inNs + 600

/-- The largest D of an entry with its port; an unbounded D is 0xFFFFFF. -/
def State.delayOf (s : State) (b : Nat) (ie : Nat × Entry) : Nat × Nat :=
  ((s.usePorts b ie).2).foldl (fun m p =>
    let d := min 0xFFFFFF ((s.delayAt b ie p).getD 0xFFFFFF)
    if m.1 < d then (d, p) else m) (0, 0)

/-- Booked kbit/s of an entry: SHAPE.RATE where SHAPE.EN is 1 (spec/09 R217). -/
def Rec.booked (r : Rec) : Nat := if r.shpEn then r.shpRate else 0

/-- Bookings at a port, ingress and egress, in kbit/s (spec/09 R217). -/
def State.bookings (s : State) (b p : Nat) : Nat × Nat :=
  s.validEntries.foldl (fun m ie =>
    let u := s.usePorts b ie
    let k := (s.record b ie.1).booked
    (m.1 + (if p ∈ u.1 then k else 0), m.2 + (if p ∈ u.2 then k else 0))) (0, 0)

/-- Booked demand of a class at a port per cycle, bytes × 8,000,000 (spec/09 R217). -/
def State.demand (s : State) (b c p : Nat) : Nat :=
  ((s.validEntries.filter fun ie => ie.2.cls = c && decide (p ∈ (s.usePorts b ie).2)).map fun ie =>
    (s.record b ie.1).booked * 125000).sum

/-- The first failure among tests on a list. -/
def firstFail {α : Type} (l : List α) (f : α → Option (Nat × Nat)) : Option (Nat × Nat) := l.findSome? f

/-- One test of a step. -/
def failIf (c : Bool) (code detail : Nat) : Option (Nat × Nat) := if c then some (code, detail) else none

/-- Strictly rising ENDs that end at 125,000 (spec/08 R192). -/
def gatesBad (p : Nat) (l : List (Nat × Nat)) : Option Nat :=
  let rec go (prev e : Nat) : List (Nat × Nat) → Option Nat
    | [] => none
    | [x] => if x.1 ≤ prev ∨ x.1 ≠ 125000 then some e else none
    | x :: t => if x.1 ≤ prev then some e else go x.1 (e + 1) t
  (go 0 0 l).map fun e => 0x1000 + 0x100 * p + e

/-- Reserved bits of the CTRL of a checked role are set: its check refuses them as it does those of the bank (spec/00 R8; DEDUCED,
assumption log 13). -/
def State.ctrlReserved (s : State) (r : Nat) : Bool :=
  s.get ⟨if r = 1 then R.ALT_BASTE_CTRL else R.ALT_ALARM_CTRL, 1, 31⟩ ≠ 0

/-- The plan checker's steps over a role's bank, in order; the first failure (spec/09 R216).  `rates`: SHAPE.RATE of the entries in
the bank that was sewn as the check began.  A landing reserve above 131,071 cells (spec/07 R177) fails step 9 (DEDUCED, assumption
log 13). -/
def State.planCheck (s : State) (r : Nat) (rates : List (Nat × Nat)) : Option (Nat × Nat) :=
  let b := s.role r
  let es := s.validEntries
  let w := s.physWord b
  let resv := bit (w 4) 8
  let res (i : Nat) := w (0x100 + 4 * i)
  let land (j : Nat) := slice (w (0x300 + 4 * j)) 0 18
  let tests : List (Option (Nat × Nat)) := [
    failIf (w 0 = 0 || slice (w 4) 0 8 = 0 || 250 < slice (w 4) 0 8) 0x01 0xFFFF,
    failIf (s.ctrlReserved r) 0x02 0xFFFF,
    firstFail (s.bolt.alt.banks.getD b []) (fun x =>
      failIf (x.2.toNat &&& (0xFFFFFFFF - bankMask (x.1 * 4)) != 0) 0x02 (bankDetail (x.1 * 4))),
    firstFail (List.range 12) (fun p =>
      if 256 < slice (w (0x400 + 4 * p)) 0 9 then some (0x11, 0x1000 + 0x100 * p)
      else (gatesBad p (s.bankGates b p)).map fun d => (0x11, d)),
    firstFail (List.range 12) (fun p =>
      failIf (slice (w (0x400 + 4 * p)) 0 9 != 0 && !s.hasFunction p) 0x03 (0x1000 + 0x100 * p)),
    firstFail (List.range 96) (fun i => failIf (slice (res i) 0 18 != 0 && !s.hasFunction (i / 8)) 0x03 (0x2000 + i)),
    firstFail (List.range 64) (fun j => failIf (land j != 0 && !s.hasFunction (j / 8)) 0x03 (0x2100 + j)),
    firstFail es (fun ie => failIf (!ie.2.buddy && ((s.record b ie.1).dirs false).any fun d => !s.hasFunction d) 0x03 ie.1),
    firstFail es (fun ie =>
      let x := s.record b ie.1
      let bad (rate burst : Nat) := rate = 0 || 100000000 < rate || burst < 64 || 4194304 < burst
      failIf (x.quantum < 256 || 65536 < x.quantum || bad x.polRate x.polBurst || 1 < x.polAct ||
        bad x.shpRate x.shpBurst) 0x01 ie.1),
    firstFail es (fun ie => failIf ((s.record b ie.1).elastic && ie.2.service != svDatagram) 0x16 ie.1),
    firstFail es (fun ie =>
      let x := s.record b ie.1
      let u := s.usePorts b ie
      failIf ((x.polEn && u.1.any fun p => x.polBurst < s.countedLen p ie.2.maxLen) ||
        (x.shpEn && u.2.any fun p => x.shpBurst < s.countedLen p ie.2.maxLen)) 0x12 ie.1),
    firstFail es (fun ie =>
      let p := ie.2.localPort
      failIf (ie.2.service = svStream && 2 ≤ p && p < 8 && s.qmode ((p - 2) / 2) = 1 &&
        (lookupKey ie.1 rates).any fun k => (s.record b ie.1).shpRate != k) 0x15 ie.1),
    firstFail (List.range 64) (fun j =>
      let p := j / 8
      let big := (es.filter fun ie => ie.2.cls = j % 8 && s.hasQueue ie.1 p).foldl
        (fun m ie => max m (cellsOf ie.2.maxLen)) (if j % 8 = 7 then 1 else 0)
      failIf (land j != 0 && (!s.elrek p || land j < big || 131071 < land j)) 0x13 (0x2100 + j)),
    failIf (resv && decide (196608 < ((List.range 96).map fun i => slice (res i) 0 18).sum +
      ((List.range 64).map land).sum + (s.bolt.swb.retxReserve.map (·.2)).sum + s.retiredToBe)) 0x07 0xFFFF,
    firstFail (List.range 12) (fun p =>
      let k := s.bookings b p
      failIf (s.book p * 1000 < k.1 || s.book p * 1000 < k.2) 0x07 (0x3000 + 8 * p)),
    firstFail [0, 1, 2] (fun q =>
      let a := s.bookings b (2 + 2 * q)
      let c := s.bookings b (3 + 2 * q)
      failIf (s.qmode q = 2 && (s.pcieL q * 1000 < a.1 + c.1 || s.pcieL q * 1000 < a.2 + c.2)) 0x07 (0x3000 + 8 * (2 + 2 * q))),
    failIf (520000000 < ((List.range 12).map fun p => (s.bookings b p).1).sum ||
      520000000 < ((List.range 12).map fun p => (s.bookings b p).2).sum) 0x07 0xFFFF,
    firstFail (List.range 84) (fun j =>
      let p := j / 7
      let c := j % 7
      failIf (((s.services b c p).map (·.2.2)).sum < s.demand b c p) 0x14 (0x3000 + 8 * p + c)),
    firstFail es (fun ie =>
      let x := s.record b ie.1
      failIf (x.bound != 0 && ie.2.service ≤ svState && x.bound < (s.delayOf b ie).1) 0x10 ie.1)]
  tests.findSome? id

/-- The CRC-32C of a bank's 48 KiB (spec/09 R215). -/
def State.bankDigest (s : State) (r : Nat) : Nat :=
  crc32c ((List.range 12288).flatMap fun i => leBytes 4 (s.physWord (s.role r) (4 * i)))

/-- A bit of a bitmap over addresses set or cleared (spec/09: bit n of register k is address 32 k + n). -/
def State.markNode (s : State) (f : Nat → Fld) (a : Nat) (v : Bool) : State :=
  if a = 0 ∨ 250 < a then s
  else s.set (f (a / 32)) (if v then setBit (s.get (f (a / 32))) (a % 32) else clrBit (s.get (f (a / 32))) (a % 32))

/-- A READY at the coordinator (spec/09 R220): recorded per sender; READY_ALL when every participant is ready. -/
def State.noteReady (s : State) (arg node plan : Nat) (result : Nat × Nat) : State :=
  if plan ≠ s.get F.ALT_CMD_PLAN_PLAN then s.sat F.ALT_MSG_DROP_PLAN_MISMATCH 1
  else
    let s1 := s.markNode F.ALT_READY_NODES node (arg = 0)
    let s2 := { s1 with bolt.alt.reports := insertKey node result s1.bolt.alt.reports }
    let all := (List.range 8).all fun k =>
      s2.get (F.ALT_PART_NODES k) &&& s2.get (F.ALT_READY_NODES k) = s2.get (F.ALT_PART_NODES k)
    let s3 := s2.irq bAlt 1
    if all && arg = 0 then s3.irq bAlt 2 else s3

/-- A REPORT at the coordinator (spec/09 R222): RESULT 1 or 5 sets the sender's bit in ALT_ACK, any other in ALT_LATE; 2 to 4 raise
SEW_LATE. -/
def State.noteReport (s : State) (result node plan : Nat) : State :=
  if plan ≠ s.get F.ALT_CMD_PLAN_PLAN then s.sat F.ALT_MSG_DROP_PLAN_MISMATCH 1
  else if result = 1 ∨ result = 5 then (s.markNode F.ALT_ACK_NODES node true).irq bAlt 1
  else
    let s1 := (s.markNode F.ALT_LATE_NODES node true).irq bAlt 1
    if 2 ≤ result ∧ result ≤ 4 then s1.irq bAlt 5 else s1

/-- ALT messages are acted on and sent: the ring engine is ON (spec/10 R236). -/
def State.altListens (s : State) : Bool := s.isOn .rng

/-- READY sent to COORD of the basted bank: ARG 0 ready, 1 refused, 2 withdrawn; a coordinator that is this node records it itself
(spec/09 R220; DEDUCED, assumption log 13). -/
def State.sendReady (s : State) (arg : Nat) : State :=
  let rd := s.rd R.ALT_BASTE_REFUSE
  let dg := s.get F.ALT_BASTE_DIGEST_CRC
  if s.altListens && s.addr ≠ 0 && s.coord 1 = s.addr then s.noteReady arg s.addr (s.bankPlan 1) (rd.toNat, dg)
  else s.sendAlt (s.coord 1) (altPayload 1 arg s.addr (s.bankPlan 1) 0 (slice rd.toNat 0 16) (slice rd.toNat 16 16) dg)

/-- REPORT to a message's origin, recorded at once where that is this node (spec/09 R219, R222; DEDUCED, assumption log 13). -/
def State.report (s : State) (origin plan result : Nat) : State :=
  if s.altListens && s.addr ≠ 0 && origin = s.addr then s.noteReport result s.addr plan
  else s.sendAlt origin (altPayload 4 result s.addr plan s.cycle 0 0 0)

/-- Results of a check kept for ALT_CHECK_DELAY, ALT_CHECK_SERVICE and ALT_CHECK_DEMAND (spec/09 R218). -/
def State.checkResults (s : State) (r : Nat) : CheckResult :=
  let b := s.role r
  let ds := (s.validEntries.filter fun ie => ie.2.service ≤ svState).map fun ie =>
    let d := s.delayOf b ie
    (ie.1, d.1, d.2)
  let sv := (List.range 84).map fun j =>
    let p := j / 7
    let c := j % 7
    (p * 8 + c, min (2 ^ 24 - 1) (((s.services b c p).map (·.2.2)).sum / 8000000), min (2 ^ 24 - 1) (s.demand b c p / 8000000))
  ⟨ds, sv⟩

/-- The check of the basted or the alarm bank starts: it holds the tunnel entries live now and their rates in the sewn bank
(spec/09 R215, R216). -/
def State.planStart (s : State) (r : Nat) : State :=
  let b := s.role 0
  let rates := if s.bolt.alt.checked.getD b false then s.validEntries.map fun ie => (ie.1, (s.record b ie.1).shpRate) else []
  { s with bolt.alt.bases := setAt s.bolt.alt.bases (r - 1) ⟨s.bolt.tun, rates⟩ }

/-- PLAN_CHECK_DONE: the check of the basted or the alarm bank ends (spec/09 R215 to R220). -/
def State.planDone (s : State) (alarm : Bool) : State :=
  let r := if alarm then 2 else 1
  let u := if alarm then HUnit.altAlarm else HUnit.altBaste
  if s.get u.state ≠ 1 then s
  else
    let s1 := s.set (if alarm then F.ALT_ALARM_DIGEST_CRC else F.ALT_BASTE_DIGEST_CRC) (s.bankDigest r)
    let base := s.bolt.alt.bases.getD (r - 1) ⟨[], []⟩
    let view : State := { s1 with bolt.tun := base.entries }
    let s2 := { s1 with bolt.alt.checks := setAt s1.bolt.alt.checks (r - 1) (view.checkResults r) }
    let s3 := match view.planCheck r base.rates with
      | some (code, detail) => s2.refuseUnit u code detail
      | none =>
        { s2.sets [(u.state, 2), (u.reason, 0), (u.detail, 0xFFFF)] with
          bolt.alt.checked := setAt s2.bolt.alt.checked (s2.role r) true }.irq bAlt 0
    if alarm then s3 else s3.sendReady (if s3.isOn .altBaste then 0 else 1)

/-- PLAN_CHECK_DONE.  Bits of the bank are frozen while its unit's ENABLE is 1. -/
def execPlanCheckDone (alarm : Bool) (s : State) : Step := .next (s.ifBolt fun s => s.planDone alarm)

/-- CMD_PLAN_WRITE: a write of ALT_CMD_PLAN clears the report bitmaps (spec/09 R220). -/
def execCmdPlanWrite (w : Requester) (v : Word) (s : State) : Step :=
  .next (s.command w R.ALT_CMD_PLAN v fun s =>
    s.each (List.range 8) fun k s => s.sets [(F.ALT_READY_NODES k, 0), (F.ALT_ACK_NODES k, 0), (F.ALT_LATE_NODES k, 0)])

/-- The result of a coordinator's command recorded (spec/09 R221). -/
def State.cmdResult (s : State) (code detail : Nat) : State :=
  s.sets [(F.ALT_CMD_STATUS_REASON, if code = 0 then 0 else 0x0800 + code), (F.ALT_CMD_STATUS_DETAIL, detail)]

/-- No trunk is UP. -/
def State.noTrunk (s : State) : Bool := !s.portUp 0 && !s.portUp 1

/-- A target earlier than the current cycle + MIN_LEAD (spec/09 R221). -/
def State.tooNear (s : State) (n : Nat) : Bool := later ((s.cycle + s.get F.ALT_SEW_CFG_MIN_LEAD) % 2 ^ 32) n

/-- A participant that has not reported ready: the lowest address (spec/09 R221). -/
def State.notReady (s : State) : Option Nat :=
  (List.range 251).find? fun a =>
    bit (s.get (F.ALT_PART_NODES (a / 32))) (a % 32) && !bit (s.get (F.ALT_READY_NODES (a / 32))) (a % 32)

/-- An alarm is pending or in force at this node. -/
def State.alarmOn (s : State) : Bool := s.bolt.alt.alarm.isSome || s.on F.ALT_ALARM_STATUS_IN_FORCE

/-- A bucket as a change-over leaves it: one that comes into use holds BURST, less what placements in the new cycles have taken
already; one in use before and after keeps its TOKENS, clipped (spec/08 R197, R199; spec/09 R223). -/
def sewnTokens (was is : Bool) (burst : Nat) (tok : Int) : Int :=
  let full : Int := (burst * 2 ^ 24 : Nat)
  if !is then 0 else if was then min tok full else full + min 0 tok

/-- Reserves follow a bank with RES_VALID, or else SWB_RES and SWB_LAND (spec/07 R173; spec/09 R211). -/
def State.followReserves (s : State) (bank : Option Nat) : State :=
  let use := bank.filter fun b => bit (s.physWord b 4) 8
  let word (off : Nat) (own : Word) : Word := match use with
    | some b => BitVec.ofNat 32 (s.physWord b off)
    | none => own
  let s1 := s.each (List.range 96) fun i s => s.setReserve i (word (0x100 + 4 * i) (s.rd (R.SWB_RES i)))
  (s1.each (List.range 64) fun j s => s.setLanding j (word (0x300 + 4 * j) (s.rd (R.SWB_LAND j)))).grow

/-- The physical bank in the SEWN role, where it is checked; else the node runs the bare plan (spec/09 R214). -/
def State.sewnBank (s : State) : Option Nat :=
  if s.bolt.alt.checked.getD (s.role 0) false then some (s.role 0) else none

/-- The record of an entry in a bank in force; none under the bare plan. -/
def State.recordIn (s : State) (b : Option Nat) (i : Nat) : Option Rec := b.map fun b => s.record b i

/-- The pin of a bucket in a record; east under the bare plan (spec/09 R212, R214). -/
def pinOf (x : Option Rec) (k : Nat) : Nat := (x.map fun x => b2n (bit x.pins (if x.elastic then k else 0))).getD 0

/-- Knots for the buckets of a source entry whose pins differ (spec/09 R231): bucket by bucket where either record is ELASTIC. -/
def State.knotEntry (s : State) (i cyc : Nat) (old new : Option Rec) : State :=
  let s1 := s.mapEntry i fun e => { e with perBucket := old.any (·.elastic) || new.any (·.elastic) }
  s1.each (s1.liveBuckets i) fun b s =>
    if pinOf old b = pinOf new b then s else s.repin i b (pinOf old b) (pinOf new b) cyc

/-- An exchange of the roles SEWN and `r` at the start of a cycle (spec/09 R210, R223): plan and cycle recorded, knots, buckets,
reserves. -/
def State.exchange (s : State) (r cyc : Nat) (revert : Bool) : State :=
  let old := s.sewnBank
  let s1 := { s with bolt.alt.roles := swapRoles r s.bolt.alt.roles }
  let new := s1.sewnBank
  let s2 := s1.sets [(F.ALT_SEWN_PLAN_PLAN, (new.map fun b => s.physWord b 0).getD 0), (F.ALT_SEWN_CYCLE_CYCLE, cyc)]
  let s3 := s2.each (s2.validEntries.filter fun ie => ie.2.source && !ie.2.buddy) fun ie s =>
    s.knotEntry ie.1 cyc (s.recordIn old ie.1) (s.recordIn new ie.1)
  let s4 := s3.each s3.validEntries fun ie s =>
    let o := s.recordIn old ie.1
    let n := s.recordIn new ie.1
    s.mapEntry ie.1 fun e => { e with
      polTok := sewnTokens (o.any (·.polEn)) (n.any (·.polEn)) ((n.map (·.polBurst)).getD 0) e.polTok
      shpTok := sewnTokens (o.any (·.shpEn)) (n.any (·.shpEn)) ((n.map (·.shpBurst)).getD 0) e.shpTok }
  (((s4.followReserves new).sat F.ALT_SEW_CNT_SWAPS 1).when revert fun s => s.sat F.ALT_SEW_CNT2_REVERTED 1).irq bAlt 4

/-- The live reserves of a node follow SWB_RES and SWB_LAND, or the sewn bank with RES_VALID (spec/09 R211). -/
def State.loadReserves (s : State) : State := s.followReserves s.sewnBank

/-- A change's target has come. -/
def due (c : Option Change) (cyc : Nat) : Bool := c.any fun x => !later x.target cyc

/-- The pending alarm unpick, and the alarm sewn again behind it, replaced. -/
def State.setAlarmUnpick (s : State) (c : Option Change) : State := { s with bolt.alt.alarmUnpick := c }
def State.setAgain (s : State) (c : Option Change) : State := { s with bolt.alt.again := c }

/-- One change-over of a cycle with its record; with nothing to go back to, an unpick changes nothing (spec/09 R223, R224, R227,
R232). -/
def State.sewDue (s : State) : State :=
  let cyc := s.cycle
  if due s.bolt.alt.sew cyc then
    let c := s.bolt.alt.sew.getD ⟨0, 0, 0⟩
    let s1 := ({ s with bolt.alt.sew := none }.exchange 1 cyc false).set F.ALT_BASTE_STATUS_PREV 1
    s1.altRecord 0 2 c.plan c.target (s.get F.ALT_SEWN_PLAN_PLAN)
  else s
def State.unpickDue (s : State) : State :=
  let cyc := s.cycle
  if due s.bolt.alt.unpick cyc then
    let c := s.bolt.alt.unpick.getD ⟨0, 0, 0⟩
    let s0 := { s with bolt.alt.unpick := none }
    let s1 := (s0.exchange 1 cyc true).set F.ALT_BASTE_STATUS_PREV 0
    let s2 := if s.on HUnit.altBaste.enable then s1.set HUnit.altBaste.state 2 else s1
    s2.altRecord 2 2 c.plan c.target (s.get F.ALT_SEWN_PLAN_PLAN)
  else s
def State.alarmUnpickDue (s : State) : State :=
  let cyc := s.cycle
  if due s.bolt.alt.alarmUnpick cyc then
    let c := s.bolt.alt.alarmUnpick.getD ⟨0, 0, 0⟩
    let s1 := ((s.setAlarmUnpick none).exchange 2 cyc true).set F.ALT_ALARM_STATUS_IN_FORCE 0
    s1.altRecord 3 2 c.plan c.target (s.get F.ALT_SEWN_PLAN_PLAN)
  else s
def State.alarmSewDue (s : State) : State :=
  let cyc := s.cycle
  if due s.bolt.alt.alarm cyc then
    let c := s.bolt.alt.alarm.getD ⟨0, 0, 0⟩
    let s1 := ({ s with bolt.alt.alarm := none }.exchange 2 cyc false).set F.ALT_ALARM_STATUS_IN_FORCE 1
    (s1.altRecord 1 2 c.plan c.target (s.get F.ALT_SEWN_PLAN_PLAN)).irq bAlt 7
  else s

/-- What is remembered of a message for the sake of others with targets to come ends with its own target. -/
def State.forgetPast (s : State) : State :=
  { s with bolt.alt := { s.bolt.alt with
    unpicks := s.bolt.alt.unpicks.filter fun c => later c.target s.cycle
    again := s.bolt.alt.again.filter fun c => later c.target s.cycle
    seen := s.bolt.alt.seen.filter fun x =>
      !later s.cycle ((x.2.2.2 + 16) % 2 ^ 32) || (x.1 ≠ 5 && !later s.cycle ((x.2.2.1 + 16) % 2 ^ 32)) } }

/-- The change-overs of a cycle, sews and unpicks before alarms (spec/09 R223 to R228); alarm pre-emption ends with its target
(spec/08 R206). -/
def State.sewSwap (s : State) : State :=
  let s1 := s.sewDue.unpickDue.alarmUnpickDue.alarmSewDue
  let s2 := match s1.bolt.alt.preempt with
    | some n => if later n s.cycle then s1 else s1.preemptEnd
    | none => s1
  s2.forgetPast.showPending

/-- SEW and UNPICK resent once a cycle up to the cycle before the target (spec/09 R219). -/
def State.altResend (s : State) : State :=
  let s1 := { s with bolt.alt.resend := s.bolt.alt.resend.filter fun r => later r.2 s.cycle }
  s1.each s1.bolt.alt.resend fun r s => s.sendAlt 255 r.1

/-- The first copy of a message's OP, PLAN and CYCLE (spec/09 R219): noted.  An UNPICK or SEW is remembered until 16 cycles after
its target, a POLL for 16 cycles, so that a later POLL of the plan is heard (DESIGN CHOICE, assumption log 86). -/
def State.firstCopy (s : State) (op plan cyc : Nat) : State × Bool :=
  if s.bolt.alt.seen.any fun x => x.1 = op && x.2.1 = plan && x.2.2.1 = cyc then (s, false)
  else ({ s with bolt.alt.seen := (op, plan, cyc, s.cycle) :: s.bolt.alt.seen }, true)

/-- A change is cancelled: counted, recorded, CANCELLED raised (spec/09 R224, R228, R232). -/
def State.cancelled (s : State) (kind : Nat) (c : Change) : State :=
  ((s.sat F.ALT_SEW_CNT2_CANCELLED 1).irq bAlt 6).altRecord kind 4 c.plan c.target (s.get F.ALT_SEWN_PLAN_PLAN)

/-- The pending changes have changed: they are shown, and lists built from a bank that no longer governs their cycle are built
again (spec/08 R203). -/
def State.changesMoved (s : State) : State := s.showPending.bankReview

/-- R later than N − 4 (spec/09 R222, R224). -/
def lateFor (r n : Nat) : Bool := later r ((n + 2 ^ 32 - 4) % 2 ^ 32)

/-- An UNPICK of a plan whose target is the earlier one is remembered: the target, if one is. -/
def State.unpickAhead (s : State) (plan : Nat) : Option Change := s.bolt.alt.unpicks.find? fun c => c.plan = plan

/-- A normal SEW for plan P, target N (spec/09 R222, R228); an UNPICK of P that came first cancels it or stays pending behind it
(spec/09 R225; DEDUCED, assumption log 86). -/
def State.handleSew (s : State) (plan n origin : Nat) : State :=
  let prev := s.get F.ALT_SEWN_PLAN_PLAN
  if s.bankPlan 1 ≠ plan then s.sat F.ALT_MSG_DROP_PLAN_MISMATCH 1
  else if !s.isOn .altBaste then (s.report origin plan 4).altRecord 0 5 plan n prev
  else if lateFor s.cycle n then
    (((s.sat F.ALT_SEW_CNT_LATE 1).irq bAlt 5).report origin plan 2).altRecord 0 3 plan n prev
  else if (s.bolt.alt.alarm.any fun c => !later c.target n) || s.on F.ALT_ALARM_STATUS_IN_FORCE then
    (s.report origin plan 3).altRecord 0 4 plan n prev
  else if s.bolt.alt.sew.any fun c => c.plan = plan then s.sat F.ALT_MSG_DROP_STALE 1
  else match s.unpickAhead plan with
    | some u =>
      if !later u.target n then (s.report origin plan 3).cancelled 0 ⟨plan, n, origin⟩
      else
        let s1 := { s with bolt.alt.sew := some ⟨plan, n, origin⟩, bolt.alt.unpick := some u }
        ((((s1.irq bAlt 3).report origin plan 1).altRecord 2 1 plan u.target prev).altRecord 0 1 plan n prev).changesMoved
    | none =>
      let s1 := { s with bolt.alt.sew := some ⟨plan, n, origin⟩ }
      (((s1.irq bAlt 3).report origin plan 1).altRecord 0 1 plan n prev).changesMoved

/-- A pending sew, or unpick, whose target an alarm at cycle `n` does not follow is cancelled and reported to its origin
(spec/09 R225, R227). -/
def State.dropSew (s : State) (n : Nat) : State :=
  match s.bolt.alt.sew with
  | some c => if !later n c.target then (({ s with bolt.alt.sew := none }.cancelled 0 c).report c.origin c.plan 3) else s
  | none => s
def State.dropUnpick (s : State) (n : Nat) : State :=
  match s.bolt.alt.unpick with
  | some c => if !later n c.target then (({ s with bolt.alt.unpick := none }.cancelled 2 c).report c.origin c.plan 3) else s
  | none => s

/-- Alarm pre-emption for a plan's alarm sew (spec/08 R206). -/
def State.preemptFor (s : State) (plan target : Nat) : State :=
  { s.preemptStart target with bolt.alt.preemptPlan := plan }

/-- An alarm SEW accepted for plan P, target N: at max(N, R + 4) (spec/09 R227); it pre-empts until then, ends a night test, and
cancels the normal changes it precedes (spec/08 R206; spec/09 R228). -/
def State.acceptAlarm (s : State) (plan n origin : Nat) : State :=
  let early := (s.cycle + 4) % 2 ^ 32
  let at' := if later early n then early else n
  let s1 := { (s.preemptFor plan at').ntAbandon 1 with bolt.alt.alarm := some ⟨plan, at', origin⟩ }
  let s2 := if at' = n then s1.report origin plan 1 else (s1.sat F.ALT_SEW_CNT_LATE 1).report origin plan 2
  let s3 := s2.altRecord 1 1 plan at' (s.get F.ALT_SEWN_PLAN_PLAN)
  ((s3.dropSew at').dropUnpick at').changesMoved

/-- An alarm SEW for plan P, target N (spec/09 R227, R228).  Of two for one plan the earlier target holds; in alarm, one that
precedes a pending unpick cancels it, one behind it sews the alarm again; one that comes before its unpick does is remembered
(spec/09 R225; assumption log 86). -/
def State.handleAlarm (s : State) (plan n origin : Nat) : State :=
  let prev := s.get F.ALT_SEWN_PLAN_PLAN
  let at' := if later ((s.cycle + 4) % 2 ^ 32) n then (s.cycle + 4) % 2 ^ 32 else n
  let stale (s : State) : State := s.sat F.ALT_MSG_DROP_STALE 1
  if s.on F.ALT_ALARM_STATUS_IN_FORCE && prev = plan then
    match s.bolt.alt.alarmUnpick with
    | none =>
      let keep := s.bolt.alt.again.any fun c => !later c.target n
      stale ((s.preemptFor plan n).setAgain (if keep then s.bolt.alt.again else some ⟨plan, n, origin⟩))
    | some c =>
      if !later at' c.target then
        ((stale ((s.preemptFor plan n).setAlarmUnpick none)).cancelled 3 c).changesMoved
      else match s.bolt.alt.alarm with
        | some a => if !later a.target at' then stale s else s.acceptAlarm plan n origin
        | none => s.acceptAlarm plan n origin
  else if s.bankPlan 2 ≠ plan || !s.isOn .altAlarm then
    ((s.preemptFor plan n).report origin plan 4).altRecord 1 5 plan n prev
  else match s.bolt.alt.alarm with
    | some a => if !later a.target at' then stale s else s.acceptAlarm plan n origin
    | none => match s.unpickAhead plan with
      | some u =>
        if !later u.target at' then (s.report origin plan 3).cancelled 1 ⟨plan, at', origin⟩
        else
          (((s.acceptAlarm plan n origin).setAlarmUnpick (some u)).altRecord 3 1 plan u.target prev).changesMoved
      | none => s.acceptAlarm plan n origin

/-- An UNPICK accepted, pending at U: RESULT 5 (spec/09 R224, R227); kind 2 of a normal plan, 3 of an alarm plan. -/
def State.acceptUnpick (s : State) (kind plan u origin : Nat) : State :=
  let c : Option Change := some ⟨plan, u, origin⟩
  let s1 : State := if kind = 2 then { s with bolt.alt.unpick := c } else s.setAlarmUnpick c
  ((s1.report origin plan 5).altRecord kind 1 plan u (s.get F.ALT_SEWN_PLAN_PLAN)).changesMoved

/-- An UNPICK that an alarm at or before its target takes from: RESULT 3 (spec/09 R228). -/
def State.unpickLost (s : State) (plan u origin : Nat) : State :=
  (s.report origin plan 3).cancelled 2 ⟨plan, u, origin⟩

/-- An UNPICK that finds nothing to undo: RESULT 5, recorded as in force, and remembered while its target lies ahead (spec/09 R224,
R225, R232; the record's STEP is a DESIGN CHOICE, assumption log 86). -/
def State.unpickIdle (s : State) (kind plan u origin result : Nat) : State :=
  let s1 := { s with bolt.alt.unpicks := ⟨plan, u, origin⟩ :: s.bolt.alt.unpicks }
  (s1.report origin plan result).altRecord kind (if result = 5 then 2 else 5) plan u (s.get F.ALT_SEWN_PLAN_PLAN)

/-- The UNPICK of an alarm plan in force or pending (spec/09 R227, R228). -/
def State.unpickAlarm (s : State) (plan u origin : Nat) : State :=
  match s.bolt.alt.alarm with
  | some c =>
    if !later u c.target then
      let s1 := ({ s with bolt.alt.alarm := none }.altRecord 3 1 plan u (s.get F.ALT_SEWN_PLAN_PLAN)).cancelled 1 c
      (s1.preemptEnd.report origin plan 5).changesMoved
    else s.acceptUnpick 3 plan u origin
  | none => match s.bolt.alt.again with
    | some a =>
      if !later a.target u then (s.report origin plan 3).cancelled 3 ⟨plan, u, origin⟩
      else
        let s1 := s.acceptUnpick 3 plan u origin
        (s1.setAgain none).acceptAlarm plan a.target a.origin
    | none => s.acceptUnpick 3 plan u origin

/-- An UNPICK of plan P, target U (spec/09 R224, R227, R228); it ends the pre-emption of a sew that this node could not follow
(spec/08 R206). -/
def State.handleUnpick (s : State) (plan u origin : Nat) : State :=
  let prev := s.get F.ALT_SEWN_PLAN_PLAN
  let inAlarm := s.on F.ALT_ALARM_STATUS_IN_FORCE
  let alarmHere := (inAlarm && prev = plan) || (s.bolt.alt.alarm.any fun c => c.plan = plan)
  let sewHere := s.bolt.alt.sew.filter fun c => c.plan = plan
  let alarmFirst := s.bolt.alt.alarm.any fun c => !later c.target u
  let ends := s.bolt.alt.preempt.any fun n => s.bolt.alt.preemptPlan = plan && !later u n
  if !(s.bankPlan 1 = plan || s.bankPlan 2 = plan || prev = plan || alarmHere || sewHere.isSome) then
    let s1 := s.sat F.ALT_MSG_DROP_PLAN_MISMATCH 1
    if ends && !lateFor s.cycle u then s1.preemptEnd else s1
  else if lateFor s.cycle u then
    ((s.sat F.ALT_SEW_CNT_LATE 1).report origin plan 6).altRecord (if alarmHere then 3 else 2) 3 plan u prev
  else if alarmHere then s.unpickAlarm plan u origin
  else match sewHere with
    | some c =>
      if !later u c.target then
        let s1 := ({ s with bolt.alt.sew := none }.altRecord 2 1 plan u prev).cancelled 0 c
        (s1.report origin plan 5).changesMoved
      else if alarmFirst then s.unpickLost plan u origin
      else s.acceptUnpick 2 plan u origin
    | none =>
      if prev = plan then
        if !s.on F.ALT_BASTE_STATUS_PREV then (s.report origin plan 7).altRecord 2 5 plan u prev
        else if alarmFirst then s.unpickLost plan u origin
        else s.acceptUnpick 2 plan u origin
      else if s.bankPlan 1 = plan then s.unpickIdle 2 plan u origin 5
      else if inAlarm then s.unpickLost plan u origin
      else
        let s1 := if ends then s.preemptEnd else s
        s1.unpickIdle 3 plan u origin 7

/-- Fields of an ALT payload (spec/09 R219). -/
def aOp (f : Frame) : Nat := leAt f.payload 0 1
def aArg (f : Frame) : Nat := leAt f.payload 1 1
def aNode (f : Frame) : Nat := leAt f.payload 2 1
def aPlan (f : Frame) : Nat := leAt f.payload 4 4
def aCycle (f : Frame) : Nat := leAt f.payload 8 4

/-- SEW_RX: the first copy of a normal SEW; a later copy of the pending one counts STALE (spec/09 R219, R222). -/
def execSewRx (f : Frame) (s : State) : Step :=
  .next (s.ifBolt fun s =>
    if !s.altListens then s
    else s.onFirst f fun s => match s.firstCopy (2 + 16 * aArg f) (aPlan f) (aCycle f) with
      | (s1, true) => s1.handleSew (aPlan f) (aCycle f) (aNode f)
      | (s1, false) =>
        if s1.bolt.alt.sew.any fun c => c.plan = aPlan f then s1.sat F.ALT_MSG_DROP_STALE 1 else s1)

/-- ALARM_SEW_RX: the first copy of an alarm SEW (spec/09 R219, R227). -/
def execAlarmSewRx (f : Frame) (s : State) : Step :=
  .next (s.ifBolt fun s =>
    if !s.altListens then s
    else s.onFirst f fun s => match s.firstCopy (2 + 16) (aPlan f) (aCycle f) with
      | (s1, true) => s1.handleAlarm (aPlan f) (aCycle f) (aNode f)
      | (s1, false) => s1)

/-- UNPICK_RX: the first copy of an UNPICK (spec/09 R219, R224). -/
def execUnpickRx (f : Frame) (s : State) : Step :=
  .next (s.ifBolt fun s =>
    if !s.altListens then s
    else s.onFirst f fun s => match s.firstCopy 3 (aPlan f) (aCycle f) with
      | (s1, true) => s1.handleUnpick (aPlan f) (aCycle f) (aNode f)
      | (s1, false) => s1)

/-- READY_RX: recorded per sender (spec/09 R220). -/
def execReadyRx (f : Frame) (s : State) : Step :=
  .next (s.ifBolt fun s =>
    if !s.altListens then s
    else s.onFirst f fun s => s.noteReady (aArg f) (aNode f) (aPlan f) (leAt f.payload 12 4, leAt f.payload 16 4))

/-- REPORT_RX (spec/09 R222). -/
def execReportRx (f : Frame) (s : State) : Step :=
  .next (s.ifBolt fun s =>
    if !s.altListens then s else s.onFirst f fun s => s.noteReport (aArg f) (aNode f) (aPlan f))

/-- A POLL for the basted plan makes the node send READY (spec/09 R220): ARG 0 when the unit is ON, 1 when REFUSED, 2 when OFF; a
check that runs ends with its own READY (DESIGN CHOICE, assumption log 86). -/
def State.handlePoll (s : State) (plan : Nat) : State :=
  if s.bankPlan 1 ≠ plan then s.sat F.ALT_MSG_DROP_PLAN_MISMATCH 1
  else match s.get HUnit.altBaste.state with
    | 2 => s.sendReady 0
    | 3 => s.sendReady 1
    | 0 => s.sendReady 2
    | _ => s

/-- POLL_RX: the first copy of a POLL (spec/09 R219, R220). -/
def execPollRx (f : Frame) (s : State) : Step :=
  .next (s.ifBolt fun s =>
    if !s.altListens then s
    else s.onFirst f fun s => match s.firstCopy 5 (aPlan f) (aCycle f) with
      | (s1, true) => s1.handlePoll (aPlan f)
      | (s1, false) => s1)

/-- A SEW of the coordinator (spec/09 R221). -/
def State.cmdSew (s : State) : State :=
  let plan := s.get F.ALT_CMD_PLAN_PLAN
  let n := s.get F.ALT_CMD_TARGET_CYCLE
  if s.noTrunk then s.cmdResult 0x03 0xFFFF
  else if s.tooNear n then s.cmdResult 0x17 0xFFFF
  else match s.notReady with
    | some a => s.cmdResult 0x18 a
    | none =>
      if s.alarmOn then s.cmdResult 0x19 0xFFFF
      else
        let p := altPayload 2 0 s.addr plan n 0 0 0
        let s1 := (s.cmdResult 0 0xFFFF).sendAlt 255 p
        let s2 := { s1 with bolt.alt.resend := s1.bolt.alt.resend ++ [(p, n)] }
        (s2.firstCopy 2 plan n).1.handleSew plan n s.addr

/-- SEW. -/
def execAltSew (w : Requester) (s : State) : Step := .next (s.command w R.ALT_CMD 1 fun s => s.cmdSew)

/-- An UNPICK of the coordinator (spec/09 R221, R224). -/
def State.cmdUnpick (s : State) : State :=
  let plan := s.get F.ALT_CMD_PLAN_PLAN
  let n := s.get F.ALT_CMD_TARGET_CYCLE
  if s.noTrunk then s.cmdResult 0x03 0xFFFF
  else if s.tooNear n then s.cmdResult 0x17 0xFFFF
  else
    let p := altPayload 3 0 s.addr plan n 0 0 0
    let s1 := (s.cmdResult 0 0xFFFF).sendAlt 255 p
    let s2 := { s1 with bolt.alt.resend := s1.bolt.alt.resend ++ [(p, n)] }
    (s2.firstCopy 3 plan n).1.handleUnpick plan n s.addr

/-- UNPICK. -/
def execAltUnpick (w : Requester) (s : State) : Step := .next (s.command w R.ALT_CMD 2 fun s => s.cmdUnpick)

/-- A full load is in steps 4 to 8: an alarm command waits for its end (spec/03 R67; spec/09 R226). -/
def State.loadHolds (s : State) : Bool :=
  s.bolt.pat.active && !s.on F.PAT_CTRL_CHECK_ONLY && decide (3 < s.get F.PAT_STATUS_STEP)

/-- An alarm command: an alarm SEW for ALT_ALARM_PLAN, target six cycles ahead, sent on every trunk that is UP and handled
here as everywhere (spec/09 R226). -/
def State.alarmCommand (s : State) : State :=
  let plan := s.get F.ALT_ALARM_PLAN_PLAN
  let n := (s.cycle + 6) % 2 ^ 32
  let p := altPayload 2 1 s.addr plan n 0 0 0
  let s1 := s.sendAlt 255 p
  let s2 := { s1 with bolt.alt.resend := s1.bolt.alt.resend ++ [(p, n)] }
  (s2.firstCopy 18 plan n).1.handleAlarm plan n s.addr

/-- ALARM: firmware's alarm command, refused while no trunk is UP; it waits for the end of a full load past step 3 (spec/09 R221,
R226). -/
def execAltAlarm (w : Requester) (s : State) : Step :=
  .next (s.command w R.ALT_CMD 3 fun s =>
    if s.noTrunk then s.cmdResult 0x03 0xFFFF
    else if s.loadHolds then { s.cmdResult 0 0xFFFF with spool.pwr := { s.spool.pwr with alarm := 3 } }
    else (s.cmdResult 0 0xFFFF).alarmCommand)

/-- POLL (spec/09 R220). -/
def execAltPoll (w : Requester) (s : State) : Step :=
  .next (s.command w R.ALT_CMD 4 fun s =>
    if s.noTrunk then s.cmdResult 0x03 0xFFFF
    else
      let plan := s.get F.ALT_CMD_PLAN_PLAN
      let s1 := (s.cmdResult 0 0xFFFF).sendAlt 255 (altPayload 5 0 s.addr plan 0 0 0 0)
      (s1.firstCopy 5 plan 0).1.handlePoll plan)

/-- Reports owed are sent once a trunk is UP again (spec/10 R254). -/
def State.sendOwed (s : State) : State :=
  if s.noTrunk || s.bolt.alt.owed.isEmpty then s
  else { s.each s.bolt.alt.owed fun o s => s.report o.1 o.2.1 o.2.2 with bolt.alt.owed := [] }

end Sys2Proof.Machine
end

