-- ==== Sys2Proof/Machine/Ring.lean ====
section
/-! DEFINITION. The ring engine (spec/10): RING_CTRL messages, election, addresses, census, edges, repair, heals,
openings, joining. -/

namespace Sys2Proof.Machine

/-- The node's unique ID as a number (spec/10: the UID is the serial number in every comparison). -/
def State.uid (s : State) : Nat := ofLe s.fuses.uid

/-- Later-than between role epochs, modulo 2^16 (spec/10 R234). -/
def laterEpoch (a b : Nat) : Bool :=
  let d := (a + 2 ^ 16 - b % 2 ^ 16) % 2 ^ 16
  decide (0 < d) && decide (d < 2 ^ 15)

/-- The role epoch and the master's address. -/
def State.epoch (s : State) : Nat := s.get F.RNG_EPOCH_EPOCH
def State.masterAddr (s : State) : Nat := s.get F.RNG_EPOCH_MASTER

/-- ROLE codes of RNG_STATUS. -/
def State.ringRole (s : State) : Nat := s.get F.RNG_STATUS_ROLE

/-- The node is eligible (spec/10 R239). -/
def State.eligible (s : State) : Bool :=
  s.bolt.rng.masterOk && decide (s.bolt.pat.inForce.priority ≠ 0) && s.on F.RNG_CTRL_MASTER_EN

/-- LENGTH of an operation: least and greatest; none for a reserved OP (spec/10 R235). -/
def ringLen (op : Nat) : Option (Nat × Nat) :=
  match op with
  | 1 => some (20, 20)
  | 2 => some (32, 32)
  | 3 => some (20, 20)
  | 4 => some (12, 12)
  | 5 => some (24, 24)
  | 6 => some (36, 36)
  | 7 => some (24, 24)
  | 8 => some (24, 24)
  | 9 => some (24, 24)
  | 10 => some (8, 8)
  | 11 => some (8, 8)
  | 12 => some (8, 8)
  | 13 => some (1, 96)
  | 14 => some (4, 4)
  | _ => none

/-- The frame's OP and LENGTH are those of an operation. -/
def ringLenOk (f : Frame) : Bool :=
  (ringLen (rOp f.hdr)).any fun x => decide (x.1 ≤ f.hdr.length.toNat ∧ f.hdr.length.toNat ≤ x.2)

/-- A BEACON carries the node's own ring-wide values (spec/10 R245). -/
def State.sameRing (s : State) (f : Frame) : Bool :=
  let x := s.bolt.pat.inForce
  decide (leAt f.payload 4 4 = x.siteId) && decide (leAt f.payload 8 1 = x.sampleRate) &&
    decide (leAt f.payload 9 1 = x.playoutD)

/-- Judgement of a role-bound message (spec/10 R238): 0 processed, 1 stale epoch, 2 not master, 3 epoch ahead. -/
def State.roleVerdict (s : State) (f : Frame) : Nat :=
  let e := rEpoch f.hdr
  if !rToMaster f.hdr && !rFromMaster f.hdr then 0
  else if laterEpoch s.epoch e then 1
  else if rToMaster f.hdr && !s.isMaster && e = s.epoch then 2
  else if laterEpoch e s.epoch then (if rOp f.hdr = opBeacon && s.sameRing f then 0 else 3)
  else 0

/-- The frame is for this node to act on: DST 0 or 255, its own address or the one it has just taken; a JOIN_ACK by its
UID (spec/10 R236, R244). -/
def State.ringMine (s : State) (f : Frame) : Bool :=
  let d := f.hdr.dst.toNat
  if rOp f.hdr = opJoinAck then decide (leAt f.payload 8 16 = s.uid)
  else d = 0 || d = 255 || (s.addr != 0 && d = s.addr) || s.bolt.rng.taken = some d

/-- The engine acts on a frame: ON, for this node, and its role holds. -/
def State.ringActs (s : State) (op : Nat) (f : Frame) : Bool :=
  s.isOn .rng && decide (rOp f.hdr = op) && ringLenOk f && s.ringMine f && decide (s.roleVerdict f = 0)

/-- The edge a trunk holds has a cause. -/
def State.ownCause (s : State) (p : Nat) : Nat := ((s.bolt.rng.own.getD p none).map (·.cause)).getD 0

/-- A received frame goes onto the opposite trunk unless a stop of spec/10 R236 or R245 holds; HOPS counts. -/
def State.ringForward (s : State) (p : Nat) (f : Frame) : State :=
  let o := 1 - p
  let n := s.neighbour o
  let h := f.hdr
  let op := rOp h
  let hold := (s.addr != 0 && h.dst.toNat = s.addr && !(op = opJoinAck && leAt f.payload 8 16 != s.uid)) ||
    (n != 0 && n = h.src.toNat) || decide (250 ≤ rHops h) || !s.portUp o ||
    (op = opClaim && (leAt f.payload 8 16 = s.uid || s.ownCause p = 3 || s.ownCause o = 3))
  if hold then s
  else s.sendCl7 o { f with hdr := { h with
    svc := BitVec.ofNat 39 (svcRing op (rEpoch h) (rHops h + 1) (rToMaster h) (rFromMaster h)) } }

/-- A NAK sent to the sender of a refused message (spec/10 R238). -/
def State.sendNak (s : State) (f : Frame) (reason : Nat) : State :=
  if f.hdr.src.toNat = 0 || s.addr = 0 then s
  else (s.sendRing opNak f.hdr.src.toNat false false (leBytes 1 (rOp f.hdr) ++ [0] ++ leBytes 2 f.hdr.seq.toNat ++
    leBytes 2 s.epoch ++ leBytes 1 s.masterAddr ++ leBytes 1 reason)).sat F.RNG_NAK_SENT 1

/-- RING_CTRL_RX: OP and LENGTH, duplicates, the role, forwarding (spec/10 R235, R236, R238).  A CLAIM and a ROLLCALL are
forwarded by their own commands; a BEACON of another ring goes no further (DEDUCED from R245, assumption log 15). -/
def State.ringRx (s : State) (p : Nat) (f : Frame) : State :=
  let op := rOp f.hdr
  if !ringLenOk f then s.sat F.RNG_DROP2_UNKNOWN_OP 1
  else
    let s1 :=
      if !s.isOn .rng || !s.ringMine f || (op = opBeacon && !s.sameRing f) then s
      else if (s.ringSeen f).isSome then s.sat F.RNG_DROP2_DUP 1
      else
        let s0 := s.ringNote f false
        match s0.roleVerdict f with
        | 1 => (s0.sat F.RNG_DROP_STALE_ROLE 1).sendNak f 1
        | 2 => (s0.sat F.RNG_DROP_STALE_ROLE 1).sendNak f 2
        | 3 => s0.sat F.RNG_DROP_EPOCH_AHEAD 1
        | _ => s0
    if op = opClaim || op = opRollcall || (op = opBeacon && s.isOn .rng && !s.sameRing f) then s1 else s1.ringForward p f

/-- RING_CTRL_RX. -/
def execRingCtrlRx (p : Fin 2) (f : Frame) (s : State) : Step := .next (s.ifBolt fun s => s.ringRx p.val f)

/-- RNG_STATUS.EDGE_E and EDGE_W follow the own edges. -/
def State.showEdges (s : State) : State :=
  s.sets [(F.RNG_STATUS_EDGE_E, b2n (s.bolt.rng.own.getD 0 none).isSome),
    (F.RNG_STATUS_EDGE_W, b2n (s.bolt.rng.own.getD 1 none).isSome)]

/-- EDGE sent for an own edge (spec/10 R235, R247). -/
def State.sendEdge (s : State) (e : Edge) : State :=
  s.sendRing opEdge 255 false false (leBytes 1 e.side ++ leBytes 1 e.cause ++ [0, 0] ++ leBytes 4 e.since ++
    leBytes 1 e.far ++ [0, 0, 0])

/-- An own trunk is declared an edge (spec/10 R247): EDGE_CHANGE, and EDGE at once. -/
def State.declareEdge (s : State) (p cause far : Nat) : State :=
  if !s.isOn .rng then s
  else
    let e : Edge := ⟨s.addr, p, cause, s.cycle, far, 0⟩
    let s1 := { s with bolt.rng := { s.bolt.rng with own := setAt s.bolt.rng.own p (some e), quiet := 0 } }
    let s2 := if cause = 1 then s1.sat F.RNG_CUT_EVENTS 1 else s1
    ((s2.showEdges).irq bRng 2).sendEdge e

/-- The buckets of a source that travel in a direction are steered the other way, its queue moved (spec/10 R247, R248;
spec/07 R186). -/
def State.steer (s : State) (i dir : Nat) : State :=
  let bs := (List.range (if s.elastic? s.cycle i then 64 else 1)).filter fun b => s.dirOf i b = dir
  if bs.isEmpty then s
  else (s.mapEntry i fun e => { e with
    repaired := bs.foldl (fun r b => if r.contains b then r.erase b else r ++ [b]) e.repaired }).moveQueue i dir (1 - dir)

/-- The transit frames in the queues of an entry on a trunk, those of another SRC, discarded and counted as TRANSIT_DROP
(spec/10 R247). -/
def State.dropTransit (s : State) (i p : Nat) : State :=
  s.each [0, 1, 2, 3] fun g s =>
    let k := qKey i g p
    s.each (s.queue k).frames fun id s =>
      if (s.stored id).any fun x => x.frame.hdr.src.toNat = s.addr then s
      else (s.sat F.RNG_CUT_TRANSIT_DROP 1).dropCopy id k

/-- A trunk leaves UP with FAULT cause 8 (a cut) or 9 (planned): undo, queues, edge, repair, rebuild; the moved frames are placed on
the other trunk at the earliest instants (spec/10 R247; spec/07 R186; spec/08 R203 to R205, R207). -/
def State.trunkLost (s : State) (p cause : Nat) : State :=
  let cut := decide (cause = 8)
  let o := 1 - p
  let s1 := (s.undo (if cut then 3 else 4) [p] fun _ _ => true).switchTrunkDown p
  let s2 := { s1 with bolt.rng.heals := s1.bolt.rng.heals.filter fun h =>
    !((h.endA = s1.addr && h.sideA = p) || (h.endB = s1.addr && h.sideB = p)) }
  let s3 := s2.declareEdge p (if cut then 1 else 2) (s2.neighbour p)
  let s4 := s3.each (s3.validEntries.filter fun ie => !ie.2.buddy) fun ie s =>
    let s := if ie.2.transit then s.dropTransit ie.1 p else s
    if ie.2.source && s.portUp o then s.steer ie.1 p else s
  (s4.rebuildPorts [p]).placePort o

/-- ROLE changed, raising ROLE_CHANGE. -/
def State.setRole (s : State) (r : Nat) : State :=
  if s.ringRole = r then s else (s.set F.RNG_STATUS_ROLE r).irq bRng 1

/-- The role of a node that neither leads nor claims: member when addressed and not isolated (spec/10). -/
def State.plainRole (s : State) : State :=
  s.setRole (if s.addr = 0 || s.get F.RNG_STATUS_JOIN = 0 then 0 else 1)

/-- The same for a node that is neither master nor candidate. -/
def State.memberRole (s : State) : State := if 2 ≤ s.ringRole then s else s.plainRole

/-- The ring engine sees a trunk in UP (spec/10 R247, R253, R254). -/
def State.ringTrunkUp (s : State) (p : Nat) : State :=
  if !s.isOn .rng then s
  else
    let s2 := { s with bolt.rng.joinBlocked := false }
    let s3 := if s2.get F.RNG_STATUS_JOIN = 0 then (s2.set F.RNG_STATUS_JOIN 1).memberRole else s2
    let s4 := if s3.ownCause p = 4 then s3 else s3.declareEdge p 5 0
    s4.sendOwed

/-- A trunk enters UP: its first credit, a CAUSE 5 edge until a heal, the first join step; reports owed go out
(spec/10 R247, R253, R254; spec/07 R176). -/
def State.trunkUp (s : State) (p : Nat) : State :=
  let s1 := (s.switchPortUp p).set (if p = 0 then F.RNG_NEIGH_EAST else F.RNG_NEIGH_WEST) 0
  s1.ringTrunkUp p

/-- A census entry added or refreshed; the same UID under another address goes (spec/10 R242, R254). -/
def State.censusPut (s : State) (a uid : Nat) : State :=
  { s with bolt.rng.census := insertKey a ⟨uid, s.cycle⟩ (s.bolt.rng.census.filter fun c => c.1 = a || c.2.uid != uid) }

/-- A member is live: its last ANNOUNCE arrived within the last 4 × ANNOUNCE cycles (spec/10 R242). -/
def State.live (s : State) (a : Nat) : Bool :=
  (lookupKey a s.bolt.rng.census).any fun c =>
    decide ((s.cycle + 2 ^ 32 - c.seen) % 2 ^ 32 ≤ 4 * s.get F.RNG_CFG2_ANNOUNCE)

/-- The master sends a BEACON (spec/10 R235). -/
def State.sendBeacon (s : State) : State :=
  let x := s.bolt.pat.inForce
  s.sendRing opBeacon 255 false true (leBytes 4 s.cycle ++ leBytes 4 x.siteId ++ leBytes 1 x.sampleRate ++
    leBytes 1 x.playoutD ++ leBytes 1 x.priority ++ leBytes 1 s.bolt.rng.census.length ++ leBytes 1 s.allEdges.length ++
    [0, 0, 0] ++ leBytes 16 s.uid)

/-- The master resigns: it becomes a member and does not stand until a BEACON comes (spec/10 R240). -/
def State.resign (s : State) : State :=
  let s1 := { s.set F.RNG_EPOCH_MASTER 0 with bolt.rng := { s.bolt.rng with beaconAge := 0, roll := none, noStand := true } }
  ((s1.set F.RNG_STATUS_ROLE 0).plainRole.irq bRng 1).reviewSource

/-- The address stored in NVS: address and origin (spec/10 R241, spec/20 R441). -/
def State.storedAddr (s : State) : Nat := ((s.item 0).map fun c => leAt c 0 1).getD 0

/-- The node's address taken and stored (spec/10 R241). -/
def State.takeAddr (s : State) (a origin : Nat) : State :=
  (s.sets [(F.RNG_ADDR_ADDR, a), (F.RNG_ADDR_ORIGIN, origin)]).boltNvs (.identity 0 (leBytes 1 a ++ leBytes 1 origin))

/-- WAIT_HEAL entered: each UP trunk is a CAUSE 5 edge naming its neighbour; a CAUSE 4 edge of a trunk that is not UP ends as one of
CAUSE 1, which it then is (spec/10 R253; DEDUCED, assumption log 15). -/
def State.waitHeal (s : State) : State :=
  let s1 := s.set F.RNG_STATUS_JOIN 3
  s1.each [0, 1] fun p s =>
    if s.portUp p then s.declareEdge p 5 (s.neighbour p)
    else { s with bolt.rng := { s.bolt.rng with own := setAt s.bolt.rng.own p ((s.bolt.rng.own.getD p none).map fun (e : Edge) =>
      if e.cause = 4 then { e with cause := 1, since := s.cycle } else e) } }

/-- A master with an address joins itself: own census entry, ADDRESSING passed at once (spec/10 R253). -/
def State.masterJoin (s : State) : State :=
  if s.addr = 0 then s
  else
    let s1 := s.censusPut s.addr s.uid
    let j := s1.get F.RNG_STATUS_JOIN
    if j = 1 ∨ j = 2 then s1.waitHeal else s1

/-- A candidate takes office (spec/10 R237, R239, R241; spec/04 R90). -/
def State.takeOffice (s : State) (epoch : Nat) : State :=
  let s1 :=
    if s.addr ≠ 0 then s
    else match findFirst (fun i => (lookupKey (i + 1) s.bolt.rng.census).isNone) 250 with
      | some i => s.takeAddr (i + 1) 1
      | none => s
  let s2 := { s1 with bolt.rng := { s1.bolt.rng with claim := none, better := none, beaconAge := 0, taken := none, joinWait := none } }
  let s3 := (s2.sets [(F.RNG_EPOCH_EPOCH, epoch), (F.RNG_EPOCH_MASTER, s2.addr)]).setRole 2
  s3.clkMaster.masterJoin.sendBeacon

/-- Claims compared: higher PRIORITY, then lower UID (spec/10 R239). -/
def betterClaim (a b : Nat × Nat) : Bool := decide (b.1 < a.1) || (decide (a.1 = b.1) && decide (a.2 < b.2))

/-- This node as a claim. -/
def State.myClaim (s : State) : Nat × Nat := (s.bolt.pat.inForce.priority, s.uid)

/-- A BEACON with other ring-wide values (spec/10 R245). -/
def State.mismatchOn (s : State) (p : Nat) : State :=
  let s1 := s.sat F.RNG_DROP2_MISMATCH 1
  let s2 := if s1.ownCause p = 3 then s1 else s1.declareEdge p 3 (s1.neighbour p)
  (s2.irq bRng 7).reviewSource

/-- A refused message sent again with its own SEQ, to a master and with an EPOCH (spec/10 R234, R238). -/
def State.sendAgain (s : State) (f : Frame) (master epoch : Nat) : State :=
  let h := f.hdr
  s.originate { f with hdr := { h with
    seq := BitVec.ofNat 16 s.bolt.rng.seq
    dst := BitVec.ofNat 8 master
    svc := BitVec.ofNat 39 (svcRing (rOp h) epoch 0 (rToMaster h) (rFromMaster h)) } } [0, 1]

/-- The retry of a refused message: to the MASTER and with the EPOCH of the NAK (spec/10 R238). -/
def State.retryBound (s : State) (f nak : Frame) : State :=
  let s1 := s.sendAgain f (leAt nak.payload 6 1) (leAt nak.payload 4 2)
  { s1 with bolt.rng.lastBound := s1.bolt.rng.lastBound.map fun x => (x.1, 1) }

/-- A message refused twice is sent again once a BEACON has brought a later epoch (spec/10 R238). -/
def State.retryLater (s : State) (master : Nat) : State :=
  match s.bolt.rng.lastBound with
  | some (f, 2) => s.sendAgain f master s.epoch
  | _ => s

/-- A valid BEACON followed: epoch adopted, master noted, candidacy given up (spec/10 R237, R239). -/
def State.followBeacon (s : State) (f : Frame) : State :=
  let newer := laterEpoch (rEpoch f.hdr) s.epoch
  let s1 := if newer then s.set F.RNG_EPOCH_EPOCH (rEpoch f.hdr) else s
  let s2 := { s1.set F.RNG_EPOCH_MASTER f.hdr.src.toNat with
    bolt.rng := { s1.bolt.rng with beaconAge := 0, claim := none, better := none, noStand := false } }
  let s3 := if newer then s2.retryLater f.hdr.src.toNat else s2
  s3.plainRole.reviewSource

/-- BEACON_RX (spec/10 R237, R238, R240, R245). -/
def State.beacon (s : State) (p : Nat) (f : Frame) : State :=
  if !s.isOn .rng || rOp f.hdr ≠ opBeacon || !ringLenOk f then s
  else if !s.sameRing f then s.mismatchOn p
  else if s.roleVerdict f ≠ 0 || f.hdr.src.toNat = s.addr then s
  else s.onFirst f fun s =>
  if s.isMaster then
    let e := rEpoch f.hdr
    if betterClaim (leAt f.payload 10 1, leAt f.payload 16 16) s.myClaim then (s.resign).followBeacon f
    else s.set F.RNG_EPOCH_EPOCH (((if laterEpoch e s.epoch then e else s.epoch) + 1) % 65536)
  else s.followBeacon f

/-- BEACON_RX. -/
def execBeaconRx (p : Fin 2) (f : Frame) (s : State) : Step := .next (s.ifBolt fun s => s.beacon p.val f)

/-- ANNOUNCE_RX: the neighbour of the trunk with HOPS 0, the hop map while the ring is CLOSED, the census, where an entry of another
UID stays until its FORGET; every copy shows its direction (spec/10 R236, R242, R246; DEDUCED, assumption log 15). -/
def State.announce (s : State) (p : Nat) (f : Frame) : State :=
  if !s.isOn .rng || rOp f.hdr ≠ opAnnounce || !ringLenOk f || f.hdr.src.toNat = 0 then s
  else
    let a := f.hdr.src.toNat
    let s1 := if rHops f.hdr ≠ 0 then s
      else
        let s1 := s.set (if p = 0 then F.RNG_NEIGH_EAST else F.RNG_NEIGH_WEST) a
        { s1 with bolt.rng.own := setAt s1.bolt.rng.own p ((s1.bolt.rng.own.getD p none).map fun e : Edge => { e with far := a }) }
    let d := rHops f.hdr + 1
    let s2 := if s1.get F.RNG_STATUS_RING ≠ 1 then s1
      else if p = 0 then { s1 with bolt.rng.he := insertKey a d s1.bolt.rng.he }
      else { s1 with bolt.rng.hw := insertKey a d s1.bolt.rng.hw }
    let u := leAt f.payload 0 16
    if (lookupKey a s2.bolt.rng.census).any fun c => c.uid != u then s2 else s2.censusPut a u

/-- ANNOUNCE_RX. -/
def execAnnounceRx (p : Fin 2) (f : Frame) (s : State) : Step := .next (s.ifBolt fun s => s.announce p.val f)

/-- ANNOUNCE_TIMER: an addressed node announces every ANNOUNCE cycles (spec/10 R242); a master refreshes its own census
entry (R253). -/
def execAnnounceTimer (s : State) : Step :=
  .next (s.ifBolt fun s =>
    if s.isOn .rng && s.addr != 0 && s.get F.RNG_CFG2_ANNOUNCE ≤ s.bolt.rng.cyclesSinceAnnounce then
      let s1 := { s with bolt.rng.cyclesSinceAnnounce := 0 }
      let s2 := if s1.isMaster then s1.censusPut s1.addr s1.uid else s1
      s2.sendRing opAnnounce 255 false false (leBytes 16 s2.uid ++ leBytes 1 (b2n s2.isMaster) ++
        leBytes 1 (s2.neighbour 0) ++ leBytes 1 (s2.neighbour 1) ++ [0])
    else s)

/-- The FREE map of a ROLLCALL: addresses absent from the census (spec/10 R243). -/
def State.freeMap (s : State) : Nat :=
  ((List.range 250).map fun i => if (lookupKey (i + 1) s.bolt.rng.census).isNone then 2 ^ (i + 1) else 0).sum

/-- The master starts a roll call (spec/10 R243). -/
def State.startRoll (s : State) : State :=
  let id := s.bolt.rng.rollId
  let s1 := { s with bolt.rng := { s.bolt.rng with roll := some (id, 0), rollId := (id + 1) % 2 ^ 32 } }
  s1.sendRing opRollcall 0 false true (leBytes 32 s1.freeMap ++ leBytes 4 id)

/-- A HEAL takes effect at its target; the master's is sent as well (spec/10 R252). -/
def State.sendHeal (s : State) (a sa b sb : Nat) : State :=
  let n := (s.cycle + s.get F.ALT_SEW_CFG_MIN_LEAD) % 2 ^ 32
  { s.sendRing opHeal 255 false true (leBytes 1 a ++ leBytes 1 sa ++ leBytes 1 b ++ leBytes 1 sb ++ leBytes 4 n) with
    bolt.rng.heals := s.bolt.rng.heals ++ [⟨a, sa, b, sb, n⟩] }

/-- The far end of a CAUSE 5 edge reports the link as a CAUSE 5 edge naming this end: that edge (spec/10 R252). -/
def State.healable (s : State) (e : Edge) : Option Edge :=
  if e.cause = 5 && e.far != 0 && (lookupKey e.node s.bolt.rng.census).isSome then
    s.allEdges.find? fun x => x.node = e.far && x.cause = 5 && x.far = e.node && x.side = 1 - e.side &&
      (lookupKey x.node s.bolt.rng.census).isSome
  else none

/-- With AUTO_HEAL the master heals every link whose ends both report it (spec/10 R252). -/
def State.autoHeal (s : State) : State :=
  if !s.isMaster || !s.isOn .rng || !s.on F.RNG_CTRL_AUTO_HEAL then s
  else s.each s.allEdges fun e s =>
    match s.healable e with
    | some x =>
      if s.bolt.rng.heals.any fun h => (h.endA = e.node && h.sideA = e.side) || (h.endB = e.node && h.sideB = e.side) then s
      else s.sendHeal e.node e.side x.node x.side
    | none => s

/-- An edge added to the list or refreshed (spec/10 R248): at most 16. -/
def State.putEdge (s : State) (e : Edge) : State :=
  let same (x : Edge) : Bool := x.node = e.node && x.side = e.side
  match s.bolt.rng.edges.find? same with
  | some x =>
    let s1 := { s with bolt.rng := { s.bolt.rng with
      edges := s.bolt.rng.edges.map (fun y => if same y then e else y), quiet := 0 } }
    if x.cause = e.cause then s1 else s1.irq bRng 2
  | none =>
    if 16 ≤ s.bolt.rng.edges.length then s
    else { s with bolt.rng := { s.bolt.rng with edges := s.bolt.rng.edges ++ [e], quiet := 0 } }.irq bRng 2

/-- A CAUSE 5 edge whose far end has not announced makes the master start a roll call (spec/10 R243). -/
def State.rollFor (s : State) (e : Edge) : State :=
  if s.isMaster && e.cause = 5 && !s.live e.far && s.bolt.rng.roll.isNone then s.startRoll else s

/-- EDGE_RX (spec/10 R243, R247, R248, R252, R254).  A later copy still shows what a trunk's far side declares (DEDUCED, assumption
log 15). -/
def State.edge (s : State) (p : Nat) (f : Frame) : State :=
  if !s.isOn .rng || rOp f.hdr ≠ opEdge || !ringLenOk f || f.hdr.src.toNat = 0 || f.hdr.src.toNat = s.addr then s
  else
    let a := f.hdr.src.toNat
    let e : Edge := ⟨a, leAt f.payload 0 1 % 2, leAt f.payload 1 1, leAt f.payload 4 4, leAt f.payload 8 1, 0⟩
    let s1 := if rHops f.hdr = 0 && (e.cause = 4 || e.cause = 5) && s.memberLink p && e.side = 1 - p then
        s.declareEdge p 5 a else s
    s1.onFirst f fun s =>
      let s2 := (s.putEdge e).ntEdge a e.far
      let s3 := if e.cause ≠ 1 then s2 else { s2 with bolt.rng.heals := s2.bolt.rng.heals.filter fun h =>
        !((h.endA = a && h.sideA = e.side) || (h.endB = a && h.sideB = e.side)) }
      (s3.rollFor e).autoHeal

/-- EDGE_RX. -/
def execEdgeRx (p : Fin 2) (f : Frame) (s : State) : Step := .next (s.ifBolt fun s => s.edge p.val f)

/-- EDGE_EXPIRE: edges no EDGE has refreshed for EDGE_HOLD cycles (spec/10 R248). -/
def execEdgeExpire (s : State) : Step :=
  .next (s.ifBolt fun s =>
    let keep := s.bolt.rng.edges.filter fun e => e.age < s.get F.RNG_CFG_EDGE_HOLD
    if keep.length = s.bolt.rng.edges.length then s else { s with bolt.rng.edges := keep }.irq bRng 2)

/-- CLAIM_RX (spec/10 R236, R239, R245). -/
def State.claimIn (s : State) (p : Nat) (f : Frame) : State :=
  if rOp f.hdr ≠ opClaim || !ringLenOk f then s
  else if !s.isOn .rng then s.ringForward p f
  else if s.ownCause p = 3 then s.sat F.RNG_DROP2_MISMATCH 1
  else
    let c := (leAt f.payload 0 1, leAt f.payload 8 16)
    let s1 := s.onFirst f fun s =>
      if c.2 = s.uid then s
      else if s.ringRole = 3 then
        if betterClaim c s.myClaim then
          { s with bolt.rng := { s.bolt.rng with claim := none, better := some (c.1, c.2, 0) } }.plainRole
        else s
      else match s.bolt.rng.better with
        | some (pr, u, _) =>
          if (pr, u) = c || betterClaim c (pr, u) then { s with bolt.rng.better := some (c.1, c.2, 0) } else s
        | none => s
    s1.ringForward p f

/-- CLAIM_RX. -/
def execClaimRx (p : Fin 2) (f : Frame) (s : State) : Step := .next (s.ifBolt fun s => s.claimIn p.val f)

/-- A candidate's CLAIM (spec/10 R235, R239, R241, R245): SRC 0 while unaddressed, not on a CAUSE 3 trunk. -/
def State.sendClaim (s : State) (newEpoch : Nat) : State :=
  if !s.isOn .rng then s
  else s.originate (s.ringFrame s.addr opClaim 255 s.epoch false false (leBytes 1 s.bolt.pat.inForce.priority ++
    [0, 0, 0] ++ leBytes 2 newEpoch ++ [0, 0] ++ leBytes 16 s.uid)) ([0, 1].filter fun p => s.ownCause p != 3)

/-- BEACON_LOSS: an eligible node without a BEACON for BEACON_LOSS cycles starts claiming; one that gave way to a better
claim waits until that claim too has been silent as long (spec/10 R239). -/
def execBeaconLoss (s : State) : Step :=
  .next (s.ifBolt fun s =>
    let n := s.get F.RNG_CFG_BEACON_LOSS
    let r := s.bolt.rng
    if s.isOn .rng && s.eligible && !r.noStand && s.ringRole ≠ 2 && s.ringRole ≠ 3 && n ≤ r.beaconAge &&
        (r.better.all fun b => n ≤ b.2.2) then
      let e := (s.epoch + 1) % 65536
      let s1 := { s with bolt.rng := { r with claim := some (e, 0), better := none } }
      ((s1.setRole 3).irq bRng 4).sendClaim e
    else s)

/-- CLAIM_WAIT_EXPIRY: a candidate that heard no better claim for CLAIM_WAIT cycles takes office at the next cycle
boundary; a better claim until then still wins (spec/10 R239, spec/01 R21). -/
def execClaimWaitExpiry (s : State) : Step :=
  .next (s.ifBolt fun s => match s.bolt.rng.claim with
    | some (e, n) =>
      if s.get F.RNG_CFG_CLAIM_WAIT ≤ n && n < 2 ^ 16 then { s with bolt.rng.claim := some (e, 2 ^ 16) } else s
    | none => s)

/-- ROLLCALL_RX (spec/10 R243): an unaddressed node takes the lowest free address, forwards the changed ROLLCALL and sends
TAKEN; any other node forwards it. -/
def State.rollcallIn (s : State) (p : Nat) (f : Frame) : State :=
  if rOp f.hdr ≠ opRollcall || !ringLenOk f then s
  else if !s.ringActs opRollcall f || s.addr ≠ 0 || s.bolt.rng.taken.isSome || (s.ringSeen f).any (·.2.2.2) then s.ringForward p f
  else s.onFirst f fun s =>
    let free := leAt f.payload 0 32
    match findFirst (fun i => bit free (i + 1)) 250 with
    | none => (s.irq bRng 13).ringForward p f
    | some i =>
      let a := i + 1
      let g : Frame := { f with payload := leBytes 32 (clrBit free a) ++ f.payload.drop 32 }
      let s1 := { s.ringForward p g with bolt.rng.taken := some a }
      s1.originate (s1.ringFrame a opTaken f.hdr.src.toNat s1.epoch true false (leBytes 1 a ++ [0, 0, 0] ++
        bytesAt f.payload 32 4 ++ leBytes 16 s1.uid)) [0, 1]

/-- ROLLCALL_RX. -/
def execRollcallRx (p : Fin 2) (f : Frame) (s : State) : Step := .next (s.ifBolt fun s => s.rollcallIn p.val f)

/-- JOIN_ACK of the master (spec/10 R235). -/
def State.sendJoinAck (s : State) (dst result : Nat) (uid : List Byte) : State :=
  s.sendRing opJoinAck dst false true (leBytes 1 result ++ leBytes 1 dst ++ List.replicate 6 0 ++ uid)

/-- TAKEN_RX: the master checks the census and answers (spec/10 R243). -/
def execTakenRx (f : Frame) (s : State) : Step :=
  .next (s.ifBolt fun s =>
    if !s.ringActs opTaken f || !s.isMaster then s
    else s.onFirst f fun s =>
      let a := leAt f.payload 0 1
      let u := leAt f.payload 8 16
      let s1 := { s with bolt.rng.roll := s.bolt.rng.roll.map fun r : Nat × Nat => (r.1, 0) }
      if (lookupKey a s1.bolt.rng.census).any fun c => c.uid != u then s1.sendJoinAck a 1 (bytesAt f.payload 8 16)
      else (s1.censusPut a u).sendJoinAck a 0 (bytesAt f.payload 8 16))

/-- ROLLCALL_END: ROLL_WAIT cycles without a new TAKEN (spec/10 R243). -/
def execRollcallEnd (s : State) : Step :=
  .next (s.ifBolt fun s => match s.bolt.rng.roll with
    | some (_, n) => if s.get F.RNG_CFG2_ROLL_WAIT ≤ n then { s with bolt.rng.roll := none }.irq bRng 5 else s
    | none => s)

/-- JOIN_REQ_RX: the master's answer (spec/10 R244); RESULT 1 in roll-call mode starts a roll call at once. -/
def execJoinReqRx (f : Frame) (s : State) : Step :=
  .next (s.ifBolt fun s =>
    if !s.ringActs opJoinReq f || !s.isMaster then s
    else s.onFirst f fun s =>
      let u := leAt f.payload 0 16
      let w := leAt f.payload 16 1
      let ub := bytesAt f.payload 0 16
      if leAt f.payload 20 4 ≠ s.bolt.pat.inForce.siteId then s.sendJoinAck w 2 ub
      else if (lookupKey w s.bolt.rng.census).any fun c => c.uid != u then
        let s1 := s.sendJoinAck w 1 ub
        if leAt f.payload 17 1 = 0 then s1.startRoll else s1
      else (s.censusPut w u).sendJoinAck w 0 ub)

/-- The stored address cleared: the node is unaddressed (spec/10 R244). -/
def State.dropAddr (s : State) : State :=
  ((s.sets [(F.RNG_ADDR_ADDR, 0), (F.RNG_ADDR_ORIGIN, 0)]).boltNvs (.identity 0 [])).plainRole

/-- JOIN_ACK_RX: only one that carries the node's UID counts (spec/10 R241, R243, R244, R253). -/
def State.joinAck (s : State) (f : Frame) : State :=
  if !s.ringActs opJoinAck f then s
  else s.onFirst f fun s =>
    let r := leAt f.payload 0 1
    let a := leAt f.payload 1 1
    let viaRoll := s.bolt.rng.taken.isSome
    let s1 := { s with bolt.rng := { s.bolt.rng with joinWait := none, taken := none } }
    let fixed := decide (s.bolt.pat.inForce.addrMode = 1)
    if r = 0 then
      let s2 := (if viaRoll then s1.takeAddr a 1 else s1.takeAddr a (s1.get F.RNG_ADDR_ORIGIN)).plainRole
      if s2.get F.RNG_STATUS_JOIN = 2 then s2.waitHeal else s2
    else if r = 1 then
      if viaRoll then s1
      else if fixed then { s1.set F.RNG_STATUS_JOIN 2 with bolt.rng.joinBlocked := true }.irq bRng 6
      else s1.dropAddr
    else if r = 2 then { s1 with bolt.rng.joinBlocked := true }.irq bRng 7
    else ((if viaRoll then s1 else s1.sets [(F.RNG_ADDR_ADDR, 0), (F.RNG_ADDR_ORIGIN, 0)]).plainRole).irq bRng 13

/-- JOIN_ACK_RX. -/
def execJoinAckRx (f : Frame) (s : State) : Step := .next (s.ifBolt fun s => s.joinAck f)

/-- A JOIN_REQ sent to the master (spec/10 R235, R244). -/
def State.sendJoinReq (s : State) : State :=
  let x := s.bolt.pat.inForce
  { s.sendRing opJoinReq s.masterAddr true false (leBytes 16 s.uid ++ leBytes 1 s.addr ++ leBytes 1 x.addrMode ++ [0, 0] ++
    leBytes 4 x.siteId) with bolt.rng.joinWait := some 0 }

/-- JOIN_RETRY: 16 cycles without a JOIN_ACK (spec/10 R253). -/
def execJoinRetry (s : State) : Step :=
  .next (s.ifBolt fun s =>
    if s.isOn .rng && (s.bolt.rng.joinWait.any fun n => 16 ≤ n) then s.sendJoinReq else s)

/-- HEAL_RX: scheduled for its target (spec/10 R252). -/
def execHealRx (f : Frame) (s : State) : Step :=
  .next (s.ifBolt fun s =>
    let h : HealWait := ⟨leAt f.payload 0 1, leAt f.payload 1 1, leAt f.payload 2 1, leAt f.payload 3 1, leAt f.payload 4 4⟩
    if s.ringActs opHeal f then s.onFirst f fun s => { s with bolt.rng.heals := s.bolt.rng.heals ++ [h] } else s)

/-- The departing node's two links become CAUSE 2 edges (spec/10 R251). -/
def State.openingEdges (s : State) (node : Nat) : State :=
  s.each [0, 1] fun side s => s.putEdge ⟨node, side, 2, s.cycle, 0, 0⟩

/-- The openings whose effect is due: R ≥ N − 2 (spec/10 R251). -/
def State.openingsDue (s : State) : State :=
  let dueNow (n : Nat) : Bool := !later ((n + 2 ^ 32 - 2) % 2 ^ 32) s.cycle
  let s1 := s.each (s.bolt.rng.openings.filter fun o => o.2.2.2 || dueNow o.2.2.1) fun o s => s.openingEdges o.1
  let now := s1.cycle
  let drain := s1.get F.RNG_CFG_OPEN_DRAIN
  let resigned := s1.bolt.rng.openings.any fun o => 4 ≤ o.2.1 && o.2.2.1 = now
  { s1 with bolt.rng := { s1.bolt.rng with
    beaconAge := if resigned then max s1.bolt.rng.beaconAge (s1.get F.RNG_CFG_BEACON_LOSS) else s1.bolt.rng.beaconAge
    openings := (s1.bolt.rng.openings.filter fun o => !later now ((o.2.2.1 + drain) % 2 ^ 32)).map fun o =>
      (o.1, o.2.1, o.2.2.1, o.2.2.2 || dueNow o.2.2.1) } }

/-- OPENING_RX: effective from N − 2, or at once where it comes later than N − 4 (spec/10 R251). -/
def execOpeningRx (f : Frame) (s : State) : Step :=
  .next (s.ifBolt fun s =>
    if !s.ringActs opOpening f || f.hdr.src.toNat = s.addr then s
    else s.onFirst f fun s =>
      let n := leAt f.payload 4 4
      let a := f.hdr.src.toNat
      let late := later s.cycle ((n + 2 ^ 32 - 4) % 2 ^ 32)
      let s1 := { s with bolt.rng.openings := (a, leAt f.payload 0 1 % 4 + 4 * (leAt f.payload 2 1 % 2), n, late) ::
        s.bolt.rng.openings.filter fun o => o.1 != a }
      if late then (s1.sat F.RNG_CUT_LATE_OPEN 1).openingEdges a else s1)

/-- NAK_RX (spec/10 R238, R240, R243, R254): counted; a stale master resigns, a refused TAKEN drops its address, any other
refused message is retried once. -/
def State.nakIn (s : State) (f : Frame) : State :=
  if !s.ringActs opNak f then s
  else s.onFirst f fun s =>
    let op := leAt f.payload 0 1
    let reason := leAt f.payload 7 1
    let s1 := ((s.sat F.RNG_NAK_RECEIVED 1).sets [(F.RNG_NAK_LAST_OP, op), (F.RNG_NAK_LAST_REASON, reason),
      (F.RNG_NAK_LAST_EPOCH, leAt f.payload 4 2)]).irq bRng 8
    if reason = 1 && s1.isMaster then s1.resign
    else if op = opTaken then { s1 with bolt.rng.taken := none }
    else if reason = 1 || reason = 2 then
      match s1.bolt.rng.lastBound with
      | some (g, n) =>
        if rOp g.hdr ≠ op || g.hdr.seq.toNat ≠ leAt f.payload 2 2 then s1
        else if n = 0 then s1.retryBound g f
        else { s1 with bolt.rng.lastBound := some (g, 2) }
      | none => s1
    else s1

/-- NAK_RX. -/
def execNakRx (f : Frame) (s : State) : Step := .next (s.ifBolt fun s => s.nakIn f)

/-- MSG_RX: into the mailbox, or discarded while 16 wait (spec/10 R235). -/
def execMsgRx (f : Frame) (s : State) : Step :=
  .next (s.ifBolt fun s =>
    if !s.ringActs opMsg f then s
    else s.onFirst f fun s =>
    if 16 ≤ s.bolt.rng.mail.length then s.sat F.RNG_RX_STATUS_OVERFLOW 1
    else { s with bolt.rng.mail := s.bolt.rng.mail ++ [(⟨f.hdr.src.toNat, rToMaster f.hdr, f.payload⟩ : Mail)] }.irq bRng 9)

/-- FORGET_RX (spec/10 R242). -/
def execForgetRx (f : Frame) (s : State) : Step :=
  .next (s.ifBolt fun s =>
    if s.ringActs opForget f then
      s.onFirst f fun s => { s with bolt.rng.census := eraseKey (leAt f.payload 0 1) s.bolt.rng.census }
    else s)

/-- The result of a ring command recorded: 0 sent (spec/10 R255). -/
def State.ringResult (s : State) (code : Nat) : State :=
  s.sets [(F.RNG_CMD_STATUS_REASON, if code = 0 then 0 else 0x0900 + code), (F.RNG_CMD_STATUS_DETAIL, 0xFFFF)]

/-- A command of the host that only a master carries out (spec/10 R255). -/
def State.asMaster (s : State) (f : State → State) : State := if s.isMaster then f (s.ringResult 0) else s.ringResult 0x10

/-- ROLLCALL (spec/10 R243). -/
def execRingRollcall (who : Requester) (s : State) : Step :=
  .next (s.command who R.RNG_CMD 1 fun s => s.asMaster State.startRoll)

/-- RESIGN (spec/10 R240). -/
def execRingResign (who : Requester) (s : State) : Step :=
  .next (s.command who R.RNG_CMD 2 fun s => s.asMaster State.resign)

/-- The ledger progress record of a bridge link (spec/13 R306): CAUSE, first failed number, count, address. -/
def State.ledgerRecord (s : State) (l cause first count addr : Nat) : State :=
  let i := s.get (F.PCB_LNK_CFG_ENTRY l)
  s.boltProgress (12 + 2 * l) 2 0x0C (List.flatten [leBytes 1 6, leBytes 1 cause, leBytes 1 l, leBytes 1 0, leBytes 2 i,
    leBytes 2 (s.entry i).tunnel, leBytes 4 (s.get (F.PCB_LNK_PSENT_NUMBER l)), leBytes 4 (s.get (F.PCB_LNK_PDISP_DISPOSED l)),
    leBytes 4 first, leBytes 4 count, leBytes 8 addr])

/-- A ledger record of every enabled link unit, at a planned opening or a load's step 5 (spec/13 R306). -/
def State.ledgerRecords (s : State) : State :=
  s.each (List.finRange 32) fun l s => if s.isOn (.pcbLink l) then s.ledgerRecord l 0 0 0 0 else s

/-- A planned opening starts: OPENING with TARGET R + OPEN_LEAD, RESIGN of a master (spec/10 R251).  REASON 1 STANDBY,
2 pattern load, 3 host command. -/
def State.startOpening (s : State) (reason : Nat) : State :=
  let n := (s.cycle + s.get F.RNG_CFG_OPEN_LEAD) % 2 ^ 32
  let r := s.isMaster
  { s.ledgerRecords.sendRing opOpening 255 false false (leBytes 1 3 ++ leBytes 1 reason ++ leBytes 1 (b2n r) ++ [0] ++ leBytes 4 n) with
    bolt.rng.opening := some (n, reason, r) }

/-- Why an opening of STANDBY or of the host is refused: one pending, or it would split an OPEN ring (spec/10 R251,
R255). -/
def State.openRefused (s : State) : Option Nat :=
  if s.bolt.rng.opening.isSome then some 0x13
  else if s.get F.RNG_STATUS_RING = 2 && !s.on F.RNG_CTRL_SPLIT_OK then some 0x12
  else none

/-- OPEN. -/
def execOpenRing (who : Requester) (s : State) : Step :=
  .next (s.command who R.RNG_CMD 3 fun s => match s.openRefused with
    | some c => s.ringResult c
    | none => (s.ringResult 0).startOpening 3)

/-- HEAL: the link of RNG_CMD_ARG (spec/10 R252, R255). -/
def State.cmdHeal (s : State) : State :=
  let a := s.get F.RNG_CMD_ARG_ADDR
  let sd := s.get F.RNG_CMD_ARG_SIDE
  match s.allEdges.find? fun e => e.node = a && e.side = sd with
  | none => s.ringResult 0x11
  | some e => match s.healable e with
    | some x => s.sendHeal a sd x.node x.side
    | none => s.ringResult 0x11

/-- HEAL. -/
def execRingHeal (who : Requester) (s : State) : Step :=
  .next (s.command who R.RNG_CMD 4 fun s => s.asMaster State.cmdHeal)

/-- FORGET: refused for a live member's address (spec/10 R242, R255). -/
def State.cmdForget (s : State) : State :=
  let a := s.get F.RNG_CMD_ARG_ADDR
  if s.live a then s.ringResult 0x14
  else
    let s1 := s.sendRing opForget 255 false true (leBytes 1 a ++ [0, 0, 0])
    { s1 with bolt.rng.census := eraseKey a s1.bolt.rng.census }

/-- FORGET. -/
def execRingForget (who : Requester) (s : State) : Step :=
  .next (s.command who R.RNG_CMD 5 fun s => s.asMaster State.cmdForget)

/-- GO of the mailbox (spec/10 R235, R255).  DST 0 is out of range, and a ring engine that is not ON sends nothing (DEDUCED,
assumption log 15). -/
def State.mailSend (s : State) : State :=
  if !s.on F.RNG_TX_CTRL_GO then s
  else
    let s1 := s.set F.RNG_TX_CTRL_GO 0
    let n := s1.get F.RNG_TX_CTRL_LEN
    if !s1.isOn .rng || s1.addr = 0 || n = 0 || 96 < n then s1.set F.RNG_TX_STATUS_REASON 0x0915
    else if s1.get F.RNG_TX_CTRL_DST = 0 then s1.set F.RNG_TX_STATUS_REASON 0x0901
    else
      let data := (List.range 24).flatMap fun i => leBytes 4 (s1.rd (R.RNG_TX_DATA i)).toNat
      (s1.sets [(F.RNG_TX_STATUS_REASON, 0), (F.RNG_TX_STATUS_SEQ, s1.bolt.rng.seq)]).sendRing opMsg
        (s1.get F.RNG_TX_CTRL_DST) (s1.on F.RNG_TX_CTRL_TO_MASTER) false (data.take n)

/-- MSG_SEND. -/
def execMsgSend (who : Requester) (v : Word) (s : State) : Step :=
  .next (s.command who R.RNG_TX_CTRL v State.mailSend)

/-- RX_POP (spec/10). -/
def execRxPop (who : Requester) (s : State) : Step :=
  .next (s.command who R.RNG_RX_POP 1 fun s => { s with bolt.rng.mail := s.bolt.rng.mail.drop 1 })

/-- BUDDY_SINGLE: one PATH silent for BUDDY_SINGLE cycles while the other delivered (spec/10 R250). -/
def execBuddySingle (i : Fin 1024) (s : State) : Step :=
  .next (s.ifBolt fun s =>
    let e := s.entry i.val
    let n := s.get F.RNG_CFG2_BUDDY_SINGLE
    let silent (p : Nat) : Bool :=
      let mine := e.lastPath.getD p 0
      let other := e.lastPath.getD (1 - p) 0
      decide (n ≤ (s.cycle + 2 ^ 32 - mine) % 2 ^ 32) && later other mine
    if s.isOn .rng && e.valid && e.buddy && e.sink && !e.single && (silent 0 || silent 1) then
      (s.mapEntry i.val fun e => { e with single := true, silent := if silent 0 then 0 else 1 }).irq bRng 11
    else s)

/-- A HEAL whose target has come (spec/10 R252): both edges go, repaired buckets return to their pins with knots, DST 255
entries to one direction, an end that waits becomes a member. -/
def State.healApply (s : State) (h : HealWait) : State :=
  let isEnd (n sd : Nat) : Bool := (n = h.endA && sd = h.sideA) || (n = h.endB && sd = h.sideB)
  let mine := [0, 1].filter fun p => s.addr != 0 && isEnd s.addr p
  let s1 := { s with bolt.rng := { s.bolt.rng with
    edges := s.bolt.rng.edges.filter fun e => !isEnd e.node e.side
    own := (s.bolt.rng.own.zip [0, 1]).map fun x : Option Edge × Nat => if mine.contains x.2 then none else x.1
    heals := s.bolt.rng.heals.erase h } }
  let s2 := s1.showEdges.irq bRng 2
  let s3 := s2.each (s2.validEntries.filter fun ie => ie.2.source) fun ie s =>
    let s0 := s.mapEntry ie.1 fun e => { e with perBucket := s.elastic? s.cycle ie.1 }
    let s1 := s0.each ((s0.liveBuckets ie.1).filter fun b => (s0.entry ie.1).repaired.contains b) fun b s =>
      let pin := s.pin s.cycle ie.1 b
      s.repin ie.1 b (1 - pin) pin h.target
    s1.mapEntry ie.1 fun e => { e with repaired := [], bothWays := false }
  let open' := !s3.allEdges.isEmpty
  let s4 := { s3 with bolt.rng := { s3.bolt.rng with
    openKnown := open', healed := if open' then [] else s3.bolt.rng.healed ++ mine } }
  if mine.isEmpty || s4.get F.RNG_STATUS_JOIN ≠ 3 then s4 else (s4.set F.RNG_STATUS_JOIN 4).irq bRng 12

/-- The join states at a cycle boundary (spec/10 R244, R253). -/
def State.joinReview (s : State) : State :=
  if !s.isOn .rng then s
  else
    let j := s.get F.RNG_STATUS_JOIN
    let up := s.portUp 0 || s.portUp 1
    if j = 4 && !up then (s.set F.RNG_STATUS_JOIN 0).memberRole
    else
      let s1 := if j = 0 && up then s.set F.RNG_STATUS_JOIN 1 else s
      let s2 := if s1.get F.RNG_STATUS_JOIN = 1 && (s1.isMaster || s1.get F.CLK_STATUS_SYNC = syLocked) then
        s1.set F.RNG_STATUS_JOIN 2 else s1
      if s2.get F.RNG_STATUS_JOIN ≠ 2 then s2
      else if s2.isMaster then (if s2.addr = 0 then s2 else s2.masterJoin)
      else if s2.addr ≠ 0 && s2.masterAddr ≠ 0 && s2.bolt.rng.joinWait.isNone && !s2.bolt.rng.joinBlocked then
        s2.sendJoinReq
      else s2

/-- Reachability at a cycle boundary (spec/10 R248): sources steered, DST 255 sent both ways, DATAGRAM sinks switched. -/
def State.reachability (s : State) : State :=
  if s.allEdges.isEmpty then { s with bolt.rng.openKnown := false }
  else
    let s1 := { s with bolt.rng := { s.bolt.rng with openKnown := true, healed := [] } }
    s1.each (s1.validEntries.filter fun ie => !ie.2.buddy) fun ie s =>
      let i := ie.1
      let e := ie.2
      let s2 :=
        if !e.source then s
        else if e.dst = 255 then s.mapEntry i fun e => { e with bothWays := true }
        else s.each [0, 1] fun d s => if !s.reaches d e.dst && s.reaches (1 - d) e.dst then s.steer i d else s
      if !e.sink || e.service ≠ svDatagram then s2
      else
        let src := if e.peer ≠ 0 then e.peer else e.lastSrc
        if s2.reaches 0 src = s2.reaches 1 src then s2
        else
          let want := if s2.reaches 0 src then 1 else 0
          s2.each (List.range (if s2.elastic? s2.cycle i then 64 else 1)) fun b s =>
            if s.curPath i b = some want then s
            else s.switchPath i b want (((s.entry i).seqs.high.getD (1 - want) none).getD 0)

/-- The ring read as CLOSED or OPEN at a cycle boundary (spec/10 R248). -/
def State.ringState (s : State) : State :=
  let quietNow := s.memberLink 0 && s.memberLink 1 && s.bolt.rng.edges.isEmpty
  let q := if quietNow then s.bolt.rng.quiet + 1 else 0
  let s1 := { s with bolt.rng.quiet := q }
  if s.get F.RNG_CFG_EDGE_HOLD ≤ q then
    if s1.get F.RNG_STATUS_RING = 1 then s1
    else ((s1.set F.RNG_STATUS_RING 1).each s1.validEntries fun ie s =>
      if ie.2.bothWays then s.mapEntry ie.1 fun e => { e with bothWays := false } else s).irq bRng 3
  else s1.set F.RNG_STATUS_RING 2

/-- The cycles the ring engine counts; NO_MASTER is raised when BEACON_LOSS cycles have passed (spec/10 R240). -/
def State.ringCounts (s : State) : State :=
  let r := s.bolt.rng
  let n := s.get F.RNG_CFG_BEACON_LOSS
  let age := if s.isMaster then 0 else r.beaconAge + 1
  let s1 := { s with bolt.rng := { r with
    beaconAge := age
    claim := r.claim.map fun c => (c.1, c.2 + 1)
    better := r.better.map fun b => (b.1, b.2.1, b.2.2 + 1)
    roll := r.roll.map fun x => (x.1, x.2 + 1)
    joinWait := r.joinWait.map (· + 1)
    cyclesSinceAnnounce := r.cyclesSinceAnnounce + 1
    edges := r.edges.map fun e => { e with age := e.age + 1 } } }
  if age = n && !s.isMaster then (s1.set F.RNG_EPOCH_MASTER 0).irq bRng 10 else s1

/-- The ring engine's work at a cycle boundary (spec/10 R236, R239, R247, R248, R251 to R253). -/
def State.ringCycle (s : State) : State :=
  if !s.isOn .rng then s
  else
    let s1 := s.ringCounts
    let s2 := match s1.bolt.rng.claim with
      | some (e, n) => if 2 ^ 16 ≤ n then s1.takeOffice e else s1.sendClaim e
      | none => if s1.isMaster then s1.sendBeacon else s1
    let s3 := s2.each (s2.bolt.rng.heals.filter fun h => !later h.target s2.cycle) fun h s => s.healApply h
    let s4 := s3.openingsDue
    let s5 := match s4.bolt.rng.opening with
      | some (n, _, true) => if n = s4.cycle && s4.isMaster then s4.resign else s4
      | _ => s4
    let s6 := s5.joinReview.reachability.ringState
    (s6.each (s6.bolt.rng.own.filterMap id) fun e s => (s.sendEdge { e with node := s.addr }).rollFor e).autoHeal

/-- The ring engine goes ON: its address, the first join step, edges of the trunks that are UP (spec/10 R241, R253). -/
def State.rngOn (s : State) : State :=
  let x := s.bolt.pat.inForce
  let s1 := { s with bolt.rng := { Ring.reset with masterOk := s.bolt.rng.masterOk, seq := s.bolt.rng.seq } }
  let (a, o) := if x.addrMode = 1 then (x.fixedAddr, 3) else if s1.storedAddr = 0 then (0, 0) else (s1.storedAddr, 2)
  let s2 := s1.sets [(F.RNG_ADDR_ADDR, a), (F.RNG_ADDR_ORIGIN, o), (F.RNG_STATUS_RING, 2)]
  (s2.each [0, 1] fun p s => if s.portUp p then s.ringTrunkUp p else s).plainRole

end Sys2Proof.Machine
end

