-- ==== Sys2Proof/Machine/Bring.lean ====
section
/-! DEFINITION. Bring-up of a port unit (spec/05 R120 to R124): its states, entering and leaving UP, faults, the start and
end of transmission. -/

namespace Sys2Proof.Machine

/-- The unit of a port. -/
def portUnit (p : Nat) : HUnit := .lanePort (Fin.ofNat 8 p)

/-- BRING set. -/
def State.setBring (s : State) (p v : Nat) : State := s.set (F.LANE_PORT_STATUS_BRING p) v

/-- A field set on every lane of a port. -/
def State.setLanes (s : State) (p : Nat) (f : Nat → Fld) (v : Nat) : State :=
  s.each (portLanes p) fun l s => s.set (f l) v

/-- Deskew of a port begins again: nothing matched, the elastic buffer at its centre (spec/05 R114, spec/04 R93). -/
def State.clearDeskew (s : State) (p : Nat) : State :=
  s.setPort p { s.port p with
    deskewed := false, rxSeqs := [], rxSlips := 0, rowAligns := 0, alignMissed := 0, ebFill := 4, ebDrop := false
    ebIdle := true, rowNow := [], rowLast := [] }

/-- The receive side of a port forgotten: lock, descramblers, deskew (spec/05 R113, R114). -/
def State.clearRx (s : State) (p : Nat) : State :=
  let s1 := s.each (portLanes p) fun l s =>
    (s.setLane l { s.lane l with
      rxScr := none, rxGood := 0, rxBad := 0, kaGood := 0, rxTacks := 0, tackNow := 0, rxBits := [], phase := 0
      cands := [], alignRow := none, alignAge := 0, fifo := [] }).sets
      [(F.LANE_STATUS_BLOCK_LOCK l, 0), (F.LANE_STATUS_SCR_LOCK l, 0)]
  ((s1.clearDeskew p).setPort p { (s1.clearDeskew p).port p with hunting := false, partnerUp := false }).set
    (F.LANE_PORT_STATUS_LANES_LOCKED p) 0

/-- The transmitter starts: each lane's scrambler is seeded, from LANEn_SCR_SEED or from a count of root ticks that the
model does not hold, a free value with bit 0 forced to 1 (spec/05 R102; assumption log 3). -/
def State.startTx (s : State) (p : Nat) : State :=
  let s1 := s.each (portLanes p) fun l s =>
    let seed := s.get (F.LANE_SCR_SEED_SEED l)
    let v := if seed ≠ 0 then seed else setBit (s.fresh % 2 ^ 31) 0
    (if seed ≠ 0 then s else s.used).setLane l { s.lane l with txScr := v, txLast := false, txRun := 0, txTacks := 0, txBits := 0, keepGap := 0, keepSent := false }
  s1.setPort p { s1.port p with row := 0, slot := 0, wraps := 0, calm := 0, sending := true }

/-- The port keys of a trunk are dropped with its agreement (spec/19 R418, R426). -/
def State.dropKeys (s : State) (p : Nat) : State :=
  if 2 ≤ p then s
  else
    let s1 := { s with
      bolt.linkKeys := setAt s.bolt.linkKeys p none
      bolt.keys.links := setAt s.bolt.keys.links p LinkSt.reset }
    if s1.get (F.KEY_LINK_STATUS_STATE p) = 3 then s1 else s1.set (F.KEY_LINK_STATUS_STATE p) 0

/-- A port has left UP with a FAULT cause (spec/05 R121, R122): PORT_DOWN; the frame arriving ends as errored; a trunk's
loss goes to SCH, SWB and the ring engine. -/
def State.leftUp (s : State) (p cause : Nat) : State :=
  let s1 := ((s.clrB F.LANE_PORT_SUMMARY_UP p).cutIngress p).dropKeys p
  let s2 := if p < 2 then s1.trunkLost p cause else s1.switchTrunkDown p
  s2.irq bLane 2

/-- The half-rate flag a port takes for its next attempt (spec/05 R123); the mode of a dock port may have been entered at
half rate only (spec/15 R340). -/
def State.nextHalf (s : State) (p : Nat) : Nat :=
  if s.on (F.LANE_PORT_CTRL_HALF_RATE p) || (2 ≤ p && s.on (F.TCP_PORT_STATUS_HALF_ONLY (p - 2))) then 1
  else if s.on (F.LANE_PORT_CTRL_FALLBACK p) && (s.port p).window = 2 then 1
  else 0

/-- WAIT_SIGNAL entered. -/
def State.waitSignal (s : State) (p : Nat) : State :=
  (((s.clearRx p).setLanes p F.LANE_STATUS_CDR_LOCK 0).setLanes p F.LANE_STATUS_EQ_DONE 0).sets
    [(F.LANE_PORT_STATUS_BRING p, 1), (F.LANE_PORT_STATUS_HALF p, s.nextHalf p)]

/-- FAULT entered with a cause (spec/05 R120, R121). -/
def State.portFault (s : State) (p cause : Nat) : State :=
  let wasUp := s.portUp p
  let s1 := ((s.setBring p 11).set (F.LANE_PORT_ATTEMPT_LAST_FAIL p) cause)
  if wasUp then s1.leftUp p cause else (s1.cutIngress p).dropKeys p

/-- The live taps of a port's lanes saved as last good (spec/05 R119). -/
def State.saveTaps (s : State) (l : Nat) : State :=
  s.setLane l { s.lane l with goodTaps := [0, 1, 2, 3].map fun k => s.rd (R.LANE_DFE_TAP l k) }

/-- The alarm command that waits is carried out now (spec/18 R393, R471): ALT can act on it, and a trunk is UP where it waited for
a commit. -/
def State.alarmNow (s : State) : State := { s with spool.pwr := { s.spool.pwr with alarm := 0 } }.alarmCommand

/-- The bolt die has a structure through which to act on an alarm command: no first commit and no wake's commit is awaited, and no
full load past step 3 runs (spec/03 R67). -/
def State.alarmMay (s : State) : Bool :=
  s.boltUp && s.seamUp && !s.loadHolds && s.spool.committedOnce && (!s.spool.pwr.waking || s.spool.pwr.warm)

/-- An alarm command that waits leaves as soon as it may. -/
def State.alarmDue (s : State) : State :=
  if s.spool.pwr.alarm ≠ 0 && s.alarmMay && (s.spool.pwr.alarm = 3 || s.portUp 0 || s.portUp 1) then s.alarmNow else s

/-- UP entered (spec/05 R119, R121; spec/08 R201): PORT_UP; credit starts; a trunk joins the ring; the slot lists are built. -/
def State.enterUp (s : State) (p : Nat) : State :=
  let s1 := (s.setBring p 9).each (portLanes p) fun l s => s.saveTaps l
  let s2 := (s1.setB F.LANE_PORT_SUMMARY_UP p).setPort p { s1.port p with
    partnerUp := false }
  let s3 := if p < 2 then s2.trunkUp p else s2.switchPortUp p
  ((s3.irq bLane 1).buildAll p).alarmDue

/-- A dock port's port controller has entered the Elrek alternate mode (spec/05 R120, spec/15 R340). -/
def State.inAlt (s : State) (p : Nat) : Bool := s.on (F.TCP_PORT_STATUS_ALT (p - 2))

/-- A flex quad's lanes have no clock outside RUN: in QUIET its port units stay dark until RUN (spec/04 R78,
spec/18 R385). -/
def State.quadDark (s : State) (p : Nat) : Bool := decide (2 ≤ p) && decide (s.get F.PWR_STATUS_STATE = 2)

/-- The LPMode level of a trunk's module (spec/05 R128): high while the port unit is OFF under AUTO, else that of LPMODE. -/
def State.lpLevel (s : State) (t : Nat) : Bool :=
  (s.on (F.LANE_MOD_CTRL_AUTO t) && decide (s.bring t = 0)) || s.on (F.LANE_MOD_CTRL_LPMODE t)

/-- A module manager's own state, and it stored. -/
def State.mod (s : State) (t : Nat) : ModSt := s.bolt.mods.getD t ModSt.reset
def State.setMod (s : State) (t : Nat) (x : ModSt) : State := { s with bolt.mods := setAt s.bolt.mods t x }

/-- The LPMode pin of a QSFP28 trunk follows its level (spec/05 R127, R128). -/
def State.driveLp (s : State) (t : Nat) : State :=
  if s.bolt.pat.inForce.media.getD t 0 ≠ 0 || (s.mod t).lp = s.lpLevel t then s
  else (s.setMod t { s.mod t with lp := s.lpLevel t }).emit (.lpMode t (s.lpLevel t))

/-- The port unit goes ON: bring-up begins; a dock's transmitter waits for the alternate mode (spec/05 R120). -/
def State.portOn (s : State) (p : Nat) : State :=
  let s1 := s.sets [(F.LANE_PORT_ATTEMPT_COUNT p, 0), (F.LANE_PORT_TACK_MAX_PEAK p, 0)]
  if s1.quadDark p then s1
  else
    let s2 := (if p < 2 || s1.inAlt p then s1.startTx p else s1).waitSignal p
    if p < 2 then s2.driveLp p else s2

/-- The port is dark: its lanes idle, the bring-up state OFF (spec/05 R120, R124). -/
def State.portDark (s : State) (p : Nat) : State :=
  let s1 := (s.clearRx p).setPort p { (s.clearRx p).port p with sending := false }
  let s2 := s1.sets [(F.LANE_PORT_STATUS_BRING p, 0), (F.LANE_PORT_STATUS_STOPPING p, 0)]
  if p < 2 then s2.driveLp p else s2

/-- The port unit and its port are OFF (spec/02 R35). -/
def State.portOff (s : State) (p : Nat) : State := (s.portDark p).set (F.LANE_PORT_STATUS_STATE p) 0

/-- ENABLE of a port was cleared (spec/05 R124): in UP the current row is finished, four KEEPALIVE stitches per lane with
RX_STATE 10 are sent, and the trunk opens as planned, the unit OFF with STOPPING until then (spec/02 R35); below UP the port
goes OFF at once. -/
def State.portClose (s : State) (p : Nat) : State :=
  let s0 := s.set (F.LANE_PORT_CTRL_ENABLE p) 0
  if s0.portUp p then
    let s1 := if (s0.port p).slot = 0 then s0 else s0.idleRow p
    let s2 := (s1.setBring p 10).sets [(F.LANE_PORT_STATUS_STOPPING p, 1), (F.LANE_PORT_STATUS_STATE p, 0)]
    let s3 := s2.each [0, 1, 2, 3] fun _ s => s.sendKeeps p
    s3.leftUp p 9
  else if s0.bring p = 10 then s0
  else ((s0.cutIngress p).dropKeys p).portOff p

/-- A lane is held by an enabled port or by an enabled adapter of its quad (spec/05 R125, spec/01 R23). -/
def State.laneHeld (s : State) (l : Nat) : Bool :=
  s.on (F.LANE_PORT_CTRL_ENABLE (lanePort l)) ||
    (decide (8 ≤ l) &&
      let q : Fin 3 := Fin.ofNat 3 ((l - 8) / 4)
      s.on (HUnit.pcbQuad q).enable || s.on (HUnit.dpeDp q).enable || s.on (HUnit.dpeEth q).enable)

/-- The check of a port unit at enable (spec/05 R125, R130; spec/01 R19). -/
def State.checkPort (s : State) (p : Nat) : Option (Nat × Nat) :=
  if s.get ⟨R.LANE_PORT_CTRL p, 3, 29⟩ ≠ 0 then some (0x02, 0xFFFF)
  else if !s.elrek p then some (0x03, 0xFFFF)
  else if p < 2 && s.on (F.LANE_PORT_CTRL_HALF_RATE p) then some (0x10, 0xFFFF)
  else match (portLanes p).find? fun l => s.on (F.LANE_PRBS_STATUS_RAW l) with
    | some l => some (0x04, l)
    | none => none

end Sys2Proof.Machine
end

