-- ==== Sys2Proof/Machine/Keys.lean ====
section
/-! DEFINITION. Keys, attestation and tamper (spec/19): the KDF, slots and key operations, measurement registers, the
lifecycle, trunk key agreement, the tamper unit. -/

namespace Sys2Proof.Machine

/-- Base addresses of KEY and TMP. -/
abbrev bKey : Nat := 0x40D00000
abbrev bTmp : Nat := 0x50500000

/-- The order of the P-384 group (named by spec/19 R408; its value PRESUMED from FIPS 186, assumption log 9). -/
def p384Order : Nat :=
  0xFFFFFFFFFFFFFFFFFFFFFFFFFFFFFFFFFFFFFFFFFFFFFFFFC7634D81F4372DDF581A0DB248B0A77AECEC196ACCC52973

/-- The private key of an EC key: d = (c mod (n − 1)) + 1 (spec/19 R408). -/
def ecScalar (c : List Byte) : Nat := ofBe c % (p384Order - 1) + 1

/-- The counter-mode KDF with HMAC-SHA-384 (spec/19 R408). -/
def kdf (kin label ctx : List Byte) (bits : Nat) : List Byte :=
  ((List.range ((bits + 383) / 384)).flatMap fun i =>
    bytesAt (Config.hmac384 kin (List.flatten [beBytes 4 (i + 1), label, [0], ctx, beBytes 4 bits])) 0 48).take (bits / 8)

/-- The bytes of an ASCII text. -/
def ascii (t : String) : List Byte := t.toList.map fun c => BitVec.ofNat 8 c.toNat

/-- SHA-384 as 48 bytes. -/
def sha384 (bs : List Byte) : List Byte := bytesAt (Config.sha384 bs) 0 48

/-- Public point, 96 bytes, of an EC key's material. -/
def ecPoint (key : List Byte) : List Byte := bytesAt (Config.ecPublic (ecScalar key)) 0 96

/-- Bytes of key material by TYPE: 256, 384 or 448 bits (spec/19 R408). -/
def keyBytes (type : Nat) : Nat := if type = 0 then 32 else if type = 1 then 48 else 56

/-- A slot. -/
def State.slot (s : State) (i : Nat) : KeySlot := s.bolt.keys.slots.getD i KeySlot.reset

/-- A slot stored. -/
def State.setSlot (s : State) (i : Nat) (x : KeySlot) : State := { s with bolt.keys.slots := setAt s.bolt.keys.slots i x }

/-- A measurement register. -/
def State.mr (s : State) (m : Nat) : List Byte := s.bolt.keys.mr.getD m []

/-- The debug port is open. -/
def State.debug (s : State) : Bool := s.on F.KEY_STATUS_DEBUG

/-- CONTEXT of a slot key (spec/19 R408). -/
def State.keyContext (s : State) (type usage mrsel : Nat) : List Byte :=
  List.flatten [bytesAt s.fuses.uid 0 16, leBytes 1 s.fuses.lifecycle, leBytes 1 (b2n s.debug), leBytes 1 type,
    leBytes 1 usage, leBytes 1 mrsel, ([0, 1, 2, 3].filter fun m => bit mrsel m).flatMap s.mr]

/-- The device key (spec/19 R409): the KDF output for UID and DEBUG. -/
def State.deviceKey (s : State) : List Byte :=
  kdf s.fuses.root (ascii "LNT-DEVICE") (bytesAt s.fuses.uid 0 16 ++ leBytes 1 (b2n s.debug)) 448

/-- DEVPUB, as KEY_DEVPUB shows it; zero without a device key. -/
def State.devPub (s : State) : List Byte :=
  match s.bolt.keys.device with
  | some k => ecPoint k
  | none => List.replicate 96 0

/-- Slots that have one of some slots as PARENT, transitively, with those slots (spec/19 R413); each round adds the children
of what it has, and 64 rounds reach every slot. -/
def descendants (slots : List KeySlot) : Nat → List Nat → List Nat
  | 0, l => l
  | n + 1, l =>
    let more := (List.range 64).filter fun i =>
      !l.contains i && (match slots[i]? with
        | some x => x.state != 0 && decide (x.parent < 64) && l.contains x.parent
        | none => false)
    if more.isEmpty then l else descendants slots n (l ++ more)

/-- Slots as a bit mask. -/
def slotMask (l : List Nat) : Nat := (l.eraseDups.map fun i => 2 ^ i).sum

/-- The key progress record (spec/19 R425). -/
def State.keyRecord (s : State) (kop slot step reason parent mrsel affected : Nat) : State :=
  s.boltProgress (76 + min 64 slot) 1 0x0E (List.flatten [leBytes 1 3, leBytes 1 kop, leBytes 1 (if slot < 64 then slot else 0xFF),
    leBytes 1 step, leBytes 2 reason, leBytes 1 parent, leBytes 1 mrsel, leBytes 4 (s.get F.KEY_ATT_CNT_COUNTER),
    leBytes 8 affected])

/-- Slots revoked or erased (spec/19 R413): a slot that a running operation uses takes its new state when it ends; a
creating op whose slot is affected ends revoked. -/
def State.takeSlots (s : State) (l : List Nat) (newState : Nat) : State :=
  let run := s.bolt.keys.run
  let busy (i : Nat) : Bool := run.any (fun r => r.slot == i)
  let s1 := s.each (l.filter fun i => !busy i) fun i s => s.setSlot i (if newState = 0 then KeySlot.reset else { s.slot i with state := newState })
  let mark (r : KeyRun) : KeyRun := if l.contains r.slot then { r with revoked := r.revoked || newState = 3, after := some newState } else r
  let s2 := { s1 with bolt.keys.run := run.map mark }
  if newState = 3 then
    let m := slotMask l
    let w := s2.get F.KEY_REVOKED_LO_SLOTS ||| (m % 2 ^ 32)
    ((s2.sets [(F.KEY_REVOKED_LO_SLOTS, w), (F.KEY_REVOKED_HI_SLOTS, s2.get F.KEY_REVOKED_HI_SLOTS ||| m / 2 ^ 32)])).irq bKey 2
  else s2

/-- Measurement register m extended (spec/19 R406), revoking what is bound to it (R407). -/
def State.extendMr (s : State) (m : Nat) (digest : List Byte) : State :=
  let v := sha384 (s.mr m ++ bytesAt digest 0 48)
  let c := slice (s.get F.KEY_MR_CNT_COUNT) (8 * m) 8
  let s1 := { s with bolt.keys.mr := setAt s.bolt.keys.mr m v }
  let s2 := s1.set ⟨R.KEY_MR_CNT, 8 * m, 8⟩ (satAdd 8 c 1)
  let bound := (List.range 64).filter fun i =>
    let x := s2.slot i
    (x.state = 2 || x.state = 1) && bit x.mrsel m
  let all := (descendants s2.bolt.keys.slots 64 bound).filter fun i => (s2.slot i).state = 1 || (s2.slot i).state = 2
  if all.isEmpty then s2 else (s2.takeSlots all 3).keyRecord 0x20 64 2 0 0 (2 ^ m) (slotMask all)

/-- Who may extend a register through KEY_MR_EXT (spec/19 R406): the boot ROM on hart 0 until MR0 is locked, firmware MR1
until it is locked, the host MR3 while SECURITY FLAGS bit 1 is 1. -/
def State.mayExtend (s : State) (w : Requester) (m : Nat) : Bool :=
  match m with
  | 0 => decide (w = .hart 0) && !s.on F.KEY_MR_LOCK_MR0
  | 1 => decide (w.owner = 0) && !s.on F.KEY_MR_LOCK_MR1
  | 2 => false
  | _ => bit s.bolt.pat.inForce.secFlags 1

/-- KEY_MR_EXT written (spec/19 R406). -/
def State.mrExt (s : State) (w : Requester) : State :=
  if !s.on F.KEY_MR_EXT_GO then s
  else
    let m := s.get F.KEY_MR_EXT_REG
    let s1 := (s.set F.KEY_MR_EXT_GO 0).set F.KEY_MR_STATUS_REG m
    if s1.mayExtend w m then
      let d := (List.range 12).flatMap fun i => leBytes 4 (s1.rd (R.KEY_MR_DIGEST i)).toNat
      (s1.extendMr m d).set F.KEY_MR_STATUS_REASON 0
    else s1.set F.KEY_MR_STATUS_REASON 0x0E17

/-- MR_EXTEND. -/
def execMrExtend (who : Requester) (v : Word) (s : State) : Step :=
  .next (s.command who R.KEY_MR_EXT v fun s => s.mrExt who)

/-- MR1: the register is closed by the W1S bit (spec/19 R406). -/
def execMrLock1 (who : Requester) (s : State) : Step := .next (s.command who R.KEY_MR_LOCK 2 fun s => s)

/-- A statement (spec/19 R414). -/
def State.statement (s : State) (type usage slot parent mrsel : Nat) (nonce point : List Byte) : List Byte :=
  let body := List.flatten [ascii "LNTA", [1], leBytes 1 s.fuses.lifecycle, leBytes 1 type, leBytes 1 usage, leBytes 1 slot,
    leBytes 1 parent, leBytes 1 mrsel,
    leBytes 1 (b2n s.debug + 2 * s.get F.KEY_STATUS_LOCKED + 4 * s.get F.KEY_STATUS_BOOT_LOCK),
    leBytes 4 (s.get F.KEY_ATT_CNT_COUNTER), bytesAt s.fuses.uid 0 16, bytesAt s.fuses.owner 0 48,
    [0, 1, 2, 3].flatMap (fun m => bytesAt (s.mr m) 0 48), bytesAt nonce 0 32, bytesAt point 0 96,
    leBytes 4 (s.get F.TMP_CNT_TAMPER_CNT), List.replicate 12 0, s.devPub, bytesAt s.fuses.devCert 0 96]
  body ++ bytesAt (Config.ecSign (ecScalar (s.bolt.keys.device.getD [])) (sha384 body) s.fresh) 0 96

/-- A range that lies inside SRAM. -/
def inSram (a n : Nat) : Bool := decide (0x10000000 ≤ a) && decide (a + n ≤ 0x11000000)

/-- What a key operation would do: a refusal code, or the operation it starts. -/
abbrev KeyPlan := Except Nat KeyRun

/-- Start from a slot and an output. -/
def keyRunOf (op slot : Nat) (made : KeySlot) (out : List Byte) (addr reason : Nat) : KeyRun :=
  ⟨op, slot, made, out, addr, reason, false, false, false, none, false⟩

/-- A LABEL of firmware (spec/19 R408, R427). -/
def labelOk (l : List Byte) : Bool :=
  decide (1 ≤ l.length ∧ l.length ≤ 64) && !l.contains 0 && l.take 4 != ascii "LNT-"

/-- USAGE suits TYPE (spec/19 R410). -/
def usageOk (type usage : Nat) : Bool :=
  usage &&& (if type = 1 then 1 else if type = 0 then 2 else if type = 2 then 4 else 8) = usage

/-- The operation that KEY_OP_CFG and the buffers describe (spec/19 R410 to R413, R427): each check in the order of the
reason codes below is DEDUCED (assumption log 16). -/
def State.planKey (s : State) (op : Nat) : KeyPlan :=
  let sl := s.get F.KEY_OP_CFG_SLOT
  let pa := s.get F.KEY_OP_CFG_PARENT
  let ty := s.get F.KEY_OP_CFG_TYPE
  let us := s.get F.KEY_OP_CFG_USAGE
  let ms := s.get F.KEY_OP_CFG_MRSEL
  let inA := s.get F.KEY_OP_IN_ADDR
  let len := s.get F.KEY_OP_LEN_LEN
  let outA := s.get F.KEY_OP_OUT_ADDR
  let reads := op = 1 || op = 3 || op = 4 || op = 5 || op = 6 || op = 8
  let inp : List Byte := if reads then memBytes s.bolt.sram (inA - 0x10000000) len else []
  let x := s.slot sl
  let creates := op = 1 || op = 2 || op = 3
  let aad := leAt inp 12 2
  let lenBad :=
    (op = 3 && len < 97) || (op = 4 && len ≠ 48) || (op = 5 && len < 14 + aad) || (op = 6 && len < 30 + aad) ||
      (op = 8 && len ≠ 32)
  let outLen :=
    if op = 4 || op = 7 then 96 else if op = 5 then len - 14 - aad + 16 else if op = 6 then len - 30 - aad
    else if op = 8 then 704 else 0
  let badRange := (reads && !inSram inA len) || lenBad || (outLen ≠ 0 && !inSram outA outLen) ||
    ((op = 1 || op = 3) && 64 < pa)
  if badRange then .error 0x01
  else if !bit s.bolt.pat.inForce.keySlots sl then .error 0x03
  else if creates && !usageOk ty us then .error 0x10
  else if creates && (x.state = 1 || x.state = 2) then .error 0x11
  else if !creates && op ≠ 9 && x.state ≠ 2 then .error 0x11
  else if op = 9 && x.state = 0 then .error 0x11
  else match op with
    | 1 =>
      let p := s.slot pa
      if pa = 64 && s.on F.KEY_STATUS_BOOT_LOCK then .error 0x06
      else if pa < 64 && (p.state ≠ 2 || !bit p.usage 0) then .error 0x12
      else if !labelOk inp then .error 0x14
      else
        let kin := if pa = 64 then s.fuses.root else p.key
        .ok (keyRunOf 1 sl ⟨2, ty, us, pa, ms, kdf kin inp (s.keyContext ty us ms) (8 * keyBytes ty)⟩ [] outA 0)
    | 2 => .ok (keyRunOf 2 sl ⟨2, ty, us, 65, ms, leBytes (keyBytes ty) s.fresh⟩ [] outA 0)
    | 3 =>
      let p := s.slot pa
      if 64 ≤ pa || p.state ≠ 2 || !bit p.usage 3 then .error 0x12
      else if 2 ≤ ty then .error 0x10
      else if !labelOk (inp.drop 96) then .error 0x14
      else
        let z := bytesAt (Config.ecShared (ecScalar p.key) (inp.take 96)) 0 48
        .ok (keyRunOf 3 sl ⟨2, ty, us, pa, ms, kdf z (inp.drop 96) (s.keyContext ty us ms) (8 * keyBytes ty)⟩ [] outA 0)
    | 4 =>
      if x.type ≠ 2 || !bit x.usage 2 then .error 0x10
      else .ok (keyRunOf 4 sl x (bytesAt (Config.ecSign (ecScalar x.key) inp s.fresh) 0 96) outA 0)
    | 5 =>
      if x.type ≠ 0 || !bit x.usage 1 then .error 0x10
      else
        let iv := inp.take 12
        let ct := gcmCrypt x.key iv (inp.drop (14 + aad))
        .ok (keyRunOf 5 sl x (ct ++ bytesAt (Config.gcmTag x.key iv (bytesAt inp 14 aad) ct) 0 16) outA 0)
    | 6 =>
      if x.type ≠ 0 || !bit x.usage 1 then .error 0x10
      else
        let iv := inp.take 12
        let n := len - 30 - aad
        let ct := bytesAt inp (14 + aad) n
        if bytesAt (Config.gcmTag x.key iv (bytesAt inp 14 aad) ct) 0 16 = bytesAt inp (14 + aad + n) 16 then
          .ok (keyRunOf 6 sl x (gcmCrypt x.key iv ct) outA 0)
        else .ok (keyRunOf 6 sl x (List.replicate n 0) outA 0x15)
    | 7 => if x.type < 2 then .error 0x10 else .ok (keyRunOf 7 sl x (ecPoint x.key) outA 0)
    | 8 =>
      if s.bolt.keys.device.isNone then .error 0x06
      else .ok (keyRunOf 8 sl x (inp ++ []) outA 0)
    | _ => .ok (keyRunOf 9 sl x [] outA 0)

/-- KEY accepts operations: ON, not LOCKED, not RETIRED (spec/19 R404, R423). -/
def State.keyOpen (s : State) : Bool := s.isOn .key && !s.on F.KEY_STATUS_LOCKED && s.fuses.lifecycle != 3

/-- Ops that write progress records (spec/19 R425). -/
def keyLogged (op : Nat) : Bool := op = 1 || op = 2 || op = 3 || op = 8 || op = 9

/-- A key operation requested, as planned (spec/19 R411, R412; spec/02 R44). -/
def State.keyGoAs (s : State) (op : Nat) (plan : KeyPlan) : State :=
  if s.on F.KEY_OP_STATUS_BUSY then s.set F.KEY_OP_STATUS_REASON 0x0E05
  else
    let refuse (c : Nat) : State := s.sets [(F.KEY_OP_STATUS_REASON, 0x0E00 + c), (F.KEY_OP_STATUS_OP, op)]
    if !s.keyOpen then refuse 0x06
    else if !s.seamUp then refuse 0x05
    else match plan with
      | .error c => refuse c
      | .ok r =>
        let creates := op = 1 || op = 2 || op = 3
        let s1 := if creates then s.setSlot r.slot { r.made with state := 1, key := [] } else s
        let s2 := { s1.used with bolt.keys.run := some r }
        let s3 := s2.sets [(F.KEY_OP_STATUS_REASON, 0), (F.KEY_OP_STATUS_OP, op), (F.KEY_OP_STATUS_BUSY, 1)]
        if keyLogged op then s3.keyRecord op r.slot 1 0 r.made.parent r.made.mrsel 0 else s3

/-- KEY_OP_GO written with an op. -/
def State.keyGo (s : State) (op : Nat) : State := s.keyGoAs op (s.planKey op)

/-- The ATTEST of a night-test step (spec/21 R458): slot, nonce and output address given. -/
def State.planAttest (s : State) (sl : Nat) (nonce : List Byte) (outA : Nat) : KeyPlan :=
  let x := s.slot sl
  if !inSram outA 704 then .error 0x01
  else if !bit s.bolt.pat.inForce.keySlots sl then .error 0x03
  else if x.state ≠ 2 then .error 0x11
  else if s.bolt.keys.device.isNone then .error 0x06
  else .ok (keyRunOf 8 sl x nonce outA 0)

/-- DERIVE. -/
def execKeyDerive (who : Requester) (s : State) : Step := .next (s.command who R.KEY_OP_GO 1 fun s => s.keyGo 1)
/-- GENERATE. -/
def execKeyGenerate (who : Requester) (s : State) : Step := .next (s.command who R.KEY_OP_GO 2 fun s => s.keyGo 2)
/-- AGREE. -/
def execKeyAgree (who : Requester) (s : State) : Step := .next (s.command who R.KEY_OP_GO 3 fun s => s.keyGo 3)
/-- SIGN. -/
def execKeySign (who : Requester) (s : State) : Step := .next (s.command who R.KEY_OP_GO 4 fun s => s.keyGo 4)
/-- SEAL. -/
def execKeySeal (who : Requester) (s : State) : Step := .next (s.command who R.KEY_OP_GO 5 fun s => s.keyGo 5)
/-- UNSEAL. -/
def execKeyUnseal (who : Requester) (s : State) : Step := .next (s.command who R.KEY_OP_GO 6 fun s => s.keyGo 6)
/-- PUBLIC. -/
def execKeyPublic (who : Requester) (s : State) : Step := .next (s.command who R.KEY_OP_GO 7 fun s => s.keyGo 7)
/-- ATTEST. -/
def execKeyAttest (who : Requester) (s : State) : Step := .next (s.command who R.KEY_OP_GO 8 fun s => s.keyGo 8)
/-- ERASE. -/
def execKeyErase (who : Requester) (s : State) : Step := .next (s.command who R.KEY_OP_GO 9 fun s => s.keyGo 9)

/-- The end of a key operation recorded (spec/19 R412, R425): outputs written, REASON and OUTLEN set, OP_DONE. -/
def State.endKey (s : State) (r : KeyRun) (out : List Byte) (reason affected : Nat) : State :=
  let s1 := s.sramStore (r.outAddr - 0x10000000) out
  let s2 := { s1 with bolt.keys.run := none }
  let s3 := s2.sets [(F.KEY_OP_OUTLEN_LEN, out.length), (F.KEY_OP_STATUS_REASON, if reason = 0 then 0 else 0x0E00 + reason),
    (F.KEY_OP_STATUS_BUSY, 0)]
  let s4 := if keyLogged r.op then
      s3.keyRecord r.op r.slot (if reason = 0 then 2 else 3) (if reason = 0 then 0 else 0x0E00 + reason) r.made.parent
        r.made.mrsel affected
    else s3
  let s5 := if r.lockAfter then s4.sets [(F.KEY_STATUS_LOCKED, 1), (F.TMP_STATUS_LOCKED, 1)] else s4
  (s5.irq bKey 1).ntKeyDone (if reason = 0 then 0 else 0x0E00 + reason) out

/-- The effect of an operation as it ends (spec/19 R411 to R415). -/
def State.finishKey (s : State) (r : KeyRun) : State :=
  let settle (s : State) : State := match r.after with
    | some 0 => s.setSlot r.slot KeySlot.reset
    | some st => s.setSlot r.slot { s.slot r.slot with state := st }
    | none => s
  if r.abandoned then s.endKey r [] 0x06 0
  else if r.op ≤ 3 then
    if r.after.isSome then
      if r.revoked then
        ((s.setSlot r.slot { r.made with state := 3, key := [] }).setB
          (if r.slot < 32 then F.KEY_REVOKED_LO_SLOTS else F.KEY_REVOKED_HI_SLOTS) (r.slot % 32)).endKey r [] 0x13 0
      else (s.setSlot r.slot KeySlot.reset).endKey r [] 0x13 0
    else (s.setSlot r.slot r.made).endKey r [] 0 0
  else if r.op = 8 then
    if r.revoked then (settle s).endKey r [] 0x13 0
    else
      let n := (s.get F.KEY_ATT_CNT_COUNTER + 1) % 2 ^ 32
      let s1 := (s.set F.KEY_ATT_CNT_COUNTER n).boltNvs (.identity 0x20 (leBytes 4 n))
      let x := r.made
      let pt := if x.type < 2 then List.replicate 96 0 else ecPoint x.key
      (settle (s1.used)).endKey r (s1.statement x.type x.usage r.slot x.parent x.mrsel (r.out.take 32) pt) 0 0
  else if r.op = 9 then
    let l := (descendants s.bolt.keys.slots 64 [r.slot]).eraseDups
    let s1 := { s with bolt.keys.run := none }.takeSlots l 0
    s1.endKey r [] 0 (slotMask l)
  else (settle s).endKey r r.out r.reason 0

/-- OP_DONE (spec/19 R412): while the seam is down an operation pauses at the NVS write of its progress record (spec/02 R44). -/
def execOpDone (s : State) : Step :=
  .next (s.ifBolt fun s => match s.bolt.keys.run with
    | some r =>
      if !s.seamUp && keyLogged r.op then { s with bolt.keys.run := some { r with paused := true } } else s.finishKey r
    | none => s)

/-- An operation that paused at an NVS write ends once the seam is back (spec/02 R44). -/
def State.keyResume (s : State) : State :=
  match s.bolt.keys.run with
  | some r => if r.paused && s.seamUp then s.finishKey r else s
  | none => s

/-- The result of a lifecycle command recorded, with its progress record (spec/19 R404, R425). -/
def State.lcResult (s : State) (kop code : Nat) : State :=
  let r := if code = 0 then 0 else 0x0E00 + code
  (s.set F.KEY_LC_STATUS_REASON r).keyRecord kop 64 (if code = 0 then 2 else 3) r 0 0 0

/-- The lifecycle and the owner shown (spec/19 R403). -/
def State.showFuses (s : State) : State :=
  let f := s.fuses
  let words (n : Nat) (reg : Nat → Nat) (bs : List Byte) (s : State) : State :=
    s.each (List.range n) fun i s => s.wr (reg i) (BitVec.ofNat 32 (leAt bs (4 * i) 4))
  let s1 := s.sets [(F.KEY_STATUS_LIFECYCLE, f.lifecycle), (F.KEY_STATUS_OWNED, b2n (f.owner.any fun b => b != 0))]
  words 24 R.KEY_DEVCERT f.devCert (words 12 R.KEY_OWNER f.owner (words 4 R.KEY_UID f.uid s1))

/-- Input of a lifecycle command. -/
def State.lcInput (s : State) (n : Nat) : List Byte := memBytes s.bolt.sram (s.get F.KEY_OP_IN_ADDR - 0x10000000) n

/-- No owner key is blown. -/
def State.ownerZero (s : State) : Bool := s.fuses.owner.all fun b => b = 0

/-- A lifecycle command starts: refused while the seam is down, and where its input does not lie inside SRAM (spec/02 R44; spec/19
R404, R412). -/
def State.lcGuard (s : State) (n : Nat) (f : State → State) : State :=
  if !s.seamUp then s.set F.KEY_LC_STATUS_REASON 0x0E05
  else if n ≠ 0 && !inSram (s.get F.KEY_OP_IN_ADDR) n then s.set F.KEY_LC_STATUS_REASON 0x0E01
  else f s

/-- BLOW_OWNER (spec/19 R404). -/
def State.blowOwner (s : State) : State :=
  let s1 := s.keyRecord 0x11 64 1 0 0 0 0
  if s.fuses.lifecycle = 1 && s.ownerZero then
    ({ s1 with fuses.owner := s1.lcInput 48 }.showFuses).lcResult 0x11 0
  else s.lcResult 0x11 0x16

/-- DEPLOY (spec/19 R404). -/
def State.deploy (s : State) : State :=
  if s.fuses.lifecycle = 1 && !s.ownerZero && s.on F.PAT_STATUS_STRUCTURE && !s.on F.PAT_STATUS_UNOWNED then
    let s1 := s.keyRecord 0x12 64 1 0 0 0 0
    ({ s1 with fuses.lifecycle := 2 }.showFuses).lcResult 0x12 0
  else s.lcResult 0x12 0x16

/-- Every slot erased; the ops that run on them end as spec/19 R413 says. -/
def State.eraseAll (s : State) : State :=
  s.takeSlots ((List.range 64).filter fun i => (s.slot i).state ≠ 0) 0

/-- KEY_DEVPUB follows the device key. -/
def State.showDevPub (s : State) : State :=
  s.each (List.range 24) fun i x => x.wr (R.KEY_DEVPUB i) (BitVec.ofNat 32 (leAt s.devPub (4 * i) 4))

/-- The part is RETIRED, its device key gone (spec/19 R404). -/
def State.setRetired (s : State) : State := { s with fuses.lifecycle := 3, bolt.keys.device := none }

/-- RETIRE (spec/19 R404): every slot and the device key are erased. -/
def State.retire (s : State) : State :=
  if s.fuses.lifecycle ≠ 1 ∧ s.fuses.lifecycle ≠ 2 then s.lcResult 0x13 0x16
  else
    let inp := s.lcInput 192
    let good := s.ownerZero || (decide (sha384 (inp.take 96) = bytesAt s.fuses.owner 0 48) &&
      Config.ecVerify (inp.take 96) (sha384 (ascii "LNT-RETIRE" ++ bytesAt s.fuses.uid 0 16)) (inp.drop 96))
    if !good then s.lcResult 0x13 0x15
    else
      let s1 := (s.keyRecord 0x13 64 1 0 0 0 0).eraseAll
      ((s1.setRetired.showFuses).showDevPub).lcResult 0x13 0

/-- A lifecycle command of KEY_LC_CMD (spec/19 R404). -/
def State.lcDo (s : State) (cmd : Nat) : State :=
  match cmd with
  | 1 => s.lcGuard 48 State.blowOwner
  | 2 => s.lcGuard 0 State.deploy
  | 3 => s.lcGuard (if s.ownerZero then 0 else 192) State.retire
  | _ => s

/-- BLOW_OWNER. -/
def execLcBlowOwner (who : Requester) (s : State) : Step := .next (s.command who R.KEY_LC_CMD 1 fun s => s.lcDo 1)
/-- DEPLOY. -/
def execLcDeploy (who : Requester) (s : State) : Step := .next (s.command who R.KEY_LC_CMD 2 fun s => s.lcDo 2)
/-- RETIRE. -/
def execLcRetire (who : Requester) (s : State) : Step := .next (s.command who R.KEY_LC_CMD 3 fun s => s.lcDo 3)

/-- The check of KEY at its enable (spec/19 R427): refused in BLANK and RETIRED, and where the TRNG fails its test. -/
def State.checkKey (s : State) : Option (Nat × Nat) :=
  if s.get ⟨R.KEY_CTRL, 1, 31⟩ ≠ 0 then some (0x02, 0xFFFF)
  else if s.fuses.lifecycle = 0 || s.fuses.lifecycle = 3 then some (0x06, 0xFFFF)
  else if Config.trngFails s.free then some (0x18, 0xFFFF)
  else none

/-- KEY goes ON: fuses shown, the device key derived unless BOOT_LOCK holds, BOOTED (spec/19 R403, R409, R423). -/
def State.keyOn (s : State) : State :=
  let s1 := s.showFuses
  let s2 := if s1.on F.KEY_STATUS_BOOT_LOCK then s1 else { s1 with bolt.keys.device := some s1.deviceKey }
  s2.showDevPub.sets [(F.KEY_STATUS_BOOTED, 1), (F.KEY_ATT_CNT_COUNTER, s2.itemNum 0x20)]

/-- The debug port opens (spec/19 R405): slots erased, the device key derived again. -/
def State.debugOpen (s : State) : State :=
  let s1 := (s.eraseAll).set F.KEY_STATUS_DEBUG 1
  if s1.bolt.keys.device.isSome then ({ s1 with bolt.keys.device := some s1.deviceKey }).showDevPub else s1

/-- Agreement on a trunk. -/
def State.link (s : State) (p : Nat) : LinkSt := s.bolt.keys.links.getD p LinkSt.reset

/-- Agreement on a trunk stored. -/
def State.setLink (s : State) (p : Nat) (x : LinkSt) : State := { s with bolt.keys.links := setAt s.bolt.keys.links p x }

/-- Fragments of an agreement message put among the CTRL messages waiting (spec/19 R417). -/
def State.sendAgree (s : State) (p msg count : Nat) (data : List Byte) : State :=
  s.each (List.range count) fun i s =>
    let d := (data.drop (58 * i)).take 58
    s.sendCtrl p 3 (msg * 2 ^ 496 + i * 2 ^ 488 + count * 2 ^ 480 + d.length * 2 ^ 472 + ofBe (bytesAt d 0 58) * 2 ^ 8)

/-- Agreement fails with a cause (spec/19 R418). -/
def State.linkFail (s : State) (p cause : Nat) (abort : Bool) : State :=
  let s1 := if abort then s.sendAgree p 3 1 (leBytes 1 cause) else s
  let s2 := (s1.sets [(F.KEY_LINK_STATUS_STATE p, 3), (F.KEY_LINK_STATUS_FAIL p, cause)]).sat (F.KEY_LINK_CNT_FAILED p) 1
  (s2.portFault p 10).irq bKey 4

/-- KEY entered on a trunk (spec/19 R416, R418): the STATEMENT of an ephemeral key is sent; the key and the NONCE are
random, free values (assumption log 3). -/
def State.keyStart (s : State) (p : Nat) : State :=
  let s0 := s.setBring p 8
  if !s0.isOn .key || s0.on F.KEY_STATUS_BOOT_LOCK then s0.linkFail p 8 false
  else
    let eph := s0.fresh % (p384Order - 1) + 1
    let s1 := s0.used
    let nonce := leBytes 32 s1.fresh
    let s2 := (s1.used).setLink p { LinkSt.reset with eph := eph, nonce := nonce }
    let s3 := s2.sets [(F.KEY_LINK_STATUS_STATE p, 1), (F.KEY_LINK_STATUS_FAIL p, 0)]
    (s3.used).sendAgree p 1 13 (s3.statement 3 0 0xFF 65 0 nonce (bytesAt (Config.ecPublic eph) 0 96))

/-- The partner's STATEMENT is checked in order; the FAIL cause (spec/19 R418). -/
def State.statementBad (s : State) (p : Nat) (st : List Byte) : Option Nat :=
  let uid := bytesAt st 0x10 16
  let devPub := bytesAt st 0x1A0 96
  let devCert := bytesAt st 0x200 96
  let lc := leAt st 5 1
  if st.length ≠ 704 ∨ st.take 4 ≠ ascii "LNTA" ∨ leAt st 4 1 ≠ 1 ∨ leAt st 6 1 ≠ 3 then some 2
  else if (devCert.all fun b => b = 0) ||
      !Config.ecVerify Config.makerKey (sha384 (List.flatten [ascii "LNT-DEVICE", uid, devPub])) devCert then some 2
  else if !Config.ecVerify devPub (sha384 (st.take 0x260)) (bytesAt st 0x260 96) then some 3
  else if uid = bytesAt s.fuses.uid 0 16 then some 10
  else if bytesAt st 0x20 48 ≠ bytesAt s.fuses.owner 0 48 then some 4
  else if lc ≠ 1 ∧ lc ≠ 2 then some 5
  else if bit (leAt st 0xB 1) 1 && s.on (F.KEY_LINK_CFG_REJECT_LOCKED p) then some 6
  else none

/-- The link keys (spec/19 R419): own transmit key and salt, receive key and salt, K_conf; and whether this side is LO. -/
def linkSchedule (z ownUid peerUid ownNonce peerNonce : List Byte) : List (List Byte) × Bool :=
  let lo := decide (ofLe ownUid < ofLe peerUid)
  let ctx := if lo then List.flatten [ownUid, peerUid, ownNonce, peerNonce] else List.flatten [peerUid, ownUid, peerNonce, ownNonce]
  let k := kdf z (ascii "LNT-LINK") ctx 832
  let lh := [bytesAt k 0 32, bytesAt k 32 4]
  let hl := [bytesAt k 36 32, bytesAt k 68 4]
  (List.flatten [if lo then lh else hl, if lo then hl else lh, [bytesAt k 72 32]], lo)

/-- CONFIRM of a side: the first 32 bytes of HMAC(K_conf, "LNT-CONFIRM" ‖ UID) (spec/19 R418). -/
def confirmOf (keys : List (List Byte)) (uid : List Byte) : List Byte :=
  bytesAt (Config.hmac384 (keys.getD 4 []) (ascii "LNT-CONFIRM" ++ uid)) 0 32

/-- STATEMENT_RX (spec/19 R418, R419). -/
def State.statementRx (s : State) (p : Nat) (st : List Byte) : State :=
  match s.statementBad p st with
  | some c => s.linkFail p c true
  | none =>
    let x := s.link p
    let uid := bytesAt st 0x10 16
    let own := bytesAt s.fuses.uid 0 16
    let z := bytesAt (Config.ecShared x.eph (bytesAt st 0x130 96)) 0 48
    let (ks, lo) := linkSchedule z own uid x.nonce (bytesAt st 0x110 32)
    let s1 := s.setLink p { x with keys := some ks, peerUid := uid, frags := [], msg := 0, count := 0 }
    let s2 := s1.each (List.range 4) fun i s => s.wr (R.KEY_LINK_PEER_UID p i) (BitVec.ofNat 32 (leAt uid (4 * i) 4))
    let s3 := s2.sets [(F.KEY_LINK_STATUS_PEER_LOCKED p, b2n (bit (leAt st 0xB 1) 1)), (F.KEY_LINK_STATUS_LO p, b2n lo),
      (F.KEY_LINK_CNT3_PEER_TAMPER p, min (leAt st 0x190 4) 0xFFFF)]
    s3.sendAgree p 2 1 (confirmOf ks own)

/-- CONFIRM_RX: the port enters UP where it verifies (spec/19 R418). -/
def State.confirmRx (s : State) (p : Nat) (d : List Byte) : State :=
  let x := s.link p
  match x.keys with
  | some ks =>
    if d.take 32 = confirmOf ks x.peerUid then
      let s1 := { s.setLink p LinkSt.reset with bolt.linkKeys := setAt s.bolt.linkKeys p (some (ks.take 4)) }
      let s2 := (s1.set (F.KEY_LINK_STATUS_STATE p) 2).sat (F.KEY_LINK_CNT_AGREED p) 1
      (s2.irq bKey 3).enterUp p
    else s.linkFail p 7 false
  | none => s.linkFail p 7 false

/-- KEY_AGREE_RX: reassembly of the fragments (spec/19 R417). -/
def State.agreeRx (s : State) (p : Nat) (m : Nat) : State :=
  let msg := slice m 496 8
  let frag := slice m 488 8
  let count := slice m 480 8
  let len := slice m 472 8
  let data := (beBytes 58 (slice m 8 464)).take len
  if s.bring p ≠ 8 ∨ msg = 0 ∨ 3 < msg then s
  else
    let x := s.link p
    let old := if x.count = count && x.msg = msg then x.frags else []
    let fs := insertKey frag data old
    if (List.range count).all fun i => (lookupKey i fs).isSome then
      let all := (List.range count).flatMap fun i => (lookupKey i fs).getD []
      let s1 := s.setLink p { x with frags := [], msg := 0, count := 0 }
      if msg = 1 then s1.statementRx p all
      else if msg = 2 then s1.confirmRx p all
      else s1.linkFail p 9 false
    else s.setLink p { x with frags := fs, msg := msg, count := count }

/-- KEY_AGREE_RX. -/
def execKeyAgreeRx (p : Fin 2) (m : BitVec 504) (s : State) : Step := .next (s.ifBolt fun s => s.agreeRx p.val m.toNat)

/-- KEY_AGREE_TIMEOUT (spec/19 R418). -/
def execKeyAgreeTimeout (p : Fin 2) (ms : Nat) (s : State) : Step :=
  .next (s.ifBolt fun s =>
    if s.bring p.val = 8 && s.get (F.KEY_LINK_CFG_TIMEOUT_MS p.val) ≤ ms then s.linkFail p.val 1 false else s)

/-- LOCKED set at KEY and TMP. -/
def State.lockKeys (s : State) : State := s.sets [(F.KEY_STATUS_LOCKED, 1), (F.TMP_STATUS_LOCKED, 1)]

/-- A LOCK (1) or ZEROISE (2) response carried out on the running bolt die (spec/19 R423, R426). -/
def State.tamperAct (s : State) (resp : Nat) : State :=
  let s0 := s.irq bKey 6
  let startup := !s.on F.KEY_STATUS_BOOTED
  if resp = 1 then
    match s0.bolt.keys.run with
    | some r => { s0 with bolt.keys.run := some { r with lockAfter := true } }
    | none => s0.lockKeys
  else if startup then
    let s1 := { s0.set F.KEY_STATUS_BOOT_LOCK 1 with bolt.keys.device := none }
    s1.each [0, 1] fun p s => if s.bring p = 8 then s.linkFail p 8 false else s
  else
    let l := (List.range 64).filter fun i => (s0.slot i).state ≠ 0
    let s1 := { s0 with bolt.keys := { s0.bolt.keys with
      run := s0.bolt.keys.run.map fun r : KeyRun => { r with abandoned := true }
      slots := List.replicate 64 KeySlot.reset } }
    (s1.lockKeys).keyRecord 0x21 64 2 0 0 0 (slotMask l)

/-- The response owed to KEY reaches it (spec/19 R423, R424): after a bolt power-up it starts LOCKED; a lock that TMP_CLEAR ended
while the seam was down ends at KEY too. -/
def State.tamperDeliver (s : State) : State :=
  if !s.boltUp || !s.seamUp then s
  else if !s.on F.TMP_STATUS_PENDING then
    if s.on F.KEY_STATUS_LOCKED && !s.on F.TMP_STATUS_LOCKED then s.set F.KEY_STATUS_LOCKED 0 else s
  else
    let z := s.spool.pendingZero
    let s1 := { s.set F.TMP_STATUS_PENDING 0 with spool.pendingZero := false }
    if s1.on F.KEY_STATUS_BOOTED then s1.tamperAct (if z then 2 else 1) else (s1.irq bKey 6).lockKeys

/-- What a sensor reads is an event (spec/19 R422): 0 and 1, the departure from nominal in mV; 2, the temperature in °C as a signed
byte; 3, the deviation of the frequency in 0.01 %, a period below half its length as 100 %; 4 and 5, a lid's level after 1 ms, or the
consecutive mismatches of an active mesh. -/
def State.tamperMeets (s : State) (n reading : Nat) : Bool :=
  if n < 2 then decide (5 * s.get F.TMP_VOLT_GLITCH < reading)
  else if n = 2 then
    decide (toSigned 8 (reading % 256) < toSigned 8 (s.get F.TMP_TEMP_LOW)) ||
      decide (toSigned 8 (s.get F.TMP_TEMP_HIGH) < toSigned 8 (reading % 256))
  else if n = 3 then decide (100 * s.get F.TMP_CLK_DEV_PCT < reading)
  else if s.on (F.TMP_MESH_CFG_MODE (n - 4)) then decide (2 ≤ reading)
  else decide (reading ≠ s.get (F.TMP_MESH_CFG_LEVEL (n - 4)))

/-- TAMPER_EVENT (spec/19 R422, R423): a reading that is no event ends the sensor's condition. -/
def State.tamper (s : State) (n : Nat) (present : Bool) (reading : Nat) : State :=
  if !s.on F.TMP_CTRL_ENABLE || !bit (s.get F.TMP_RESP_EN) n then s
  else if !s.tamperMeets n reading then s.set F.TMP_STATUS_ACTIVE (clrBit (s.get F.TMP_STATUS_ACTIVE) n)
  else
    let resp := slice (s.get F.TMP_RESP_RESP) (2 * n) 2
    let phase := if !s.boltPowered then 3 else if !s.on F.KEY_STATUS_BOOTED then 0
      else if s.bolt.keys.run.isSome then 2 else 1
    let act := s.get F.TMP_STATUS_ACTIVE
    let s1 := (s.setB F.TMP_EVENTS_SENSORS n).set F.TMP_STATUS_ACTIVE (if present then setBit act n else clrBit act n)
    let s2 := (s1.spoolRecord 4 0x25 0x2501 n (phase + 256 * resp) 0).sat F.TMP_CNT_EVENTS 1
    let s3 := { s2.sets [(F.TMP_LAST_SENSOR, n), (F.TMP_LAST_PHASE, phase), (F.TMP_LAST_RESP, resp),
        (F.TMP_LAST_TIME_MS, s2.spool.timeMs)] with spool.tamperCount := s2.spool.tamperCount + 1 }
    let s4 := s3.irq bTmp 1
    if resp = 0 ∨ resp = 3 then s4
    else
      let c := satAdd 16 (s4.get F.TMP_CNT_TAMPER_CNT) 1
      let s5 := (s4.set F.TMP_CNT_TAMPER_CNT c).nvsPut (.identity 0x30 (leBytes 4 c))
      if s5.boltUp && s5.seamUp then s5.tamperAct resp
      else ({ s5.set F.TMP_STATUS_PENDING 1 with spool.pendingZero := s5.spool.pendingZero || resp = 2 }).irq bTmp 2

/-- TAMPER_EVENT. -/
def execTamperEvent (n : Fin 6) (r : TamperReading) (s : State) : Step :=
  .next (s.ifAon fun s => s.tamper n.val r.present r.value)

/-- TMP_CLEAR (spec/19 R424, R428): refused while a sensor set to LOCK or ZEROISE still reports its condition. -/
def execTmpClear (who : Requester) (v : Word) (s : State) : Step :=
  .next (s.command who R.TMP_CLEAR (v ||| 1) fun s =>
    let held := (List.range 6).any fun n => bit (s.get F.TMP_STATUS_ACTIVE) n &&
      (slice (s.get F.TMP_RESP_RESP) (2 * n) 2 = 1 || slice (s.get F.TMP_RESP_RESP) (2 * n) 2 = 2)
    if held then s.set F.TMP_REFUSE_REASON 0x2512
    else ({ s.sets [(F.TMP_STATUS_LOCKED, 0), (F.TMP_STATUS_PENDING, 0)] with spool.pendingZero := false }).tamperDeliver)

end Sys2Proof.Machine
end

