-- ==== Sys2Proof/Machine/Lanes.lean ====
section
/-! DEFINITION. The lane rows of spec/05: stitches received and sent, bring-up events, equalisation, PRBS, module managers,
and the end of a planned opening's drain (spec/10 R251). -/

namespace Sys2Proof.Machine

/-- A lane loses block lock that it held (spec/05 R113, R115, R118): the frame arriving on the port ends as errored, the
adaptation is frozen, the search for lock begins again. -/
def State.dropLock (s : State) (l : Nat) : State :=
  let p := lanePort l
  let s1 := if s.lockLost l then s
    else (s.sets [(F.LANE_STATUS_BLOCK_LOCK l, 0), (F.LANE_DFE_CTRL_AUTO_FROZEN l, 1)]).cutIngress p
  (s1.setLane l { s1.lane l with
    rxGood := 0, rxBad := 0, rxBits := [], phase := 0, cands := [], alignRow := none, alignAge := 0, fifo := [] }).showLocks p

/-- A lane gains block lock in a polarity (spec/05 R113, R118): its adaptation goes on. -/
def State.gainLock (s : State) (l : Nat) (inv : Bool) : State :=
  let s1 := s.sets [(F.LANE_STATUS_BLOCK_LOCK l, 1), (F.LANE_STATUS_RX_INV l, b2n inv), (F.LANE_DFE_CTRL_AUTO_FROZEN l, 0)]
  (s1.setLane l { s1.lane l with rxGood := 4, rxBad := 0, rxBits := [], phase := 0, cands := [] }).showLocks (lanePort l)

/-- Deskew has been lost: SEQ disagreement in 4 rows, or an ALIGN absent in 2 expected rows (spec/05 R114). -/
def State.deskewLost (s : State) (p : Nat) : Bool :=
  let x := s.port p
  decide (4 ≤ x.rxSlips) || decide (2 ≤ x.alignMissed)

/-- Deskew is lost or has failed (spec/05 R114, R115, R121): the frame arriving on the port ends as errored; UP is left with
cause 8, counted in DESKEW_LOST; in DESKEW the attempt fails with cause 5. -/
def State.failDeskew (s : State) (p : Nat) : State :=
  let s1 := s.cutIngress p
  let s2 := (s1.clearDeskew p).each (portLanes p) fun l s => s.setLane l { s.lane l with alignRow := none, alignAge := 0, fifo := [] }
  if s2.portUp p then (s2.sat (F.LANE_PORT_DOWN_CNT_DESKEW_LOST p) 1).portFault p 8
  else if s2.bring p = 5 then s2.portFault p 5
  else s2

/-- What follows received bits (spec/05 R113, R114, R120): LOCK ends when every lane holds block lock; in UP a lane without
lock, or lost deskew, ends UP with cause 8. -/
def State.lineReview (s : State) (l : Nat) : State :=
  let p := lanePort l
  if s.bring p = 4 then
    if (portLanes p).all fun k => !s.lockLost k then
      ((s.clearDeskew p).each (portLanes p) fun k s =>
        s.setLane k { s.lane k with alignRow := none, alignAge := 0, fifo := [] }).setBring p 5
    else s
  else if s.portUp p && s.lockLost l then (s.sat (F.LANE_PORT_DOWN_CNT_LOCK_LOST p) 1).portFault p 8
  else if s.deskewLost p then s.failDeskew p
  else s

/-- The good stitches in a row that a position and polarity of the search has had (spec/05 R113). -/
def candGood (cs : List (Nat × Bool × Nat)) (ph : Nat) (inv : Bool) : Nat :=
  ((cs.find? fun c => c.1 = ph && c.2.1 = inv).map fun c => c.2.2).getD 0

/-- One bit of the search for block lock (spec/05 R113): the 528 bits that end with it are tried in both polarities; a
position locks after 4 consecutive good stitches. -/
def searchBit (x : LaneSt) (b : Bool) : LaneSt × Option Bool :=
  let w := (x.rxBits ++ [b]).drop (x.rxBits.length + 1 - 528)
  let ph := (x.phase + 1) % 528
  let y := { x with rxBits := w, phase := ph }
  if w.length < 528 then (y, none)
  else
    let n (inv : Bool) := if stOk (stitchFrom w inv) then candGood x.cands ph inv + 1 else 0
    let rest := x.cands.filter fun c => c.1 != ph
    let keep := ([(ph, false, n false), (ph, true, n true)]).filter fun c => c.2.2 != 0
    ({ y with cands := rest ++ keep }, if 4 ≤ n false then some false else if 4 ≤ n true then some true else none)

/-- The search over bits, to the bit that gives lock: the polarity found and the bits left (spec/05 R113). -/
def searchBits : List Bool → LaneSt → LaneSt × Option (Bool × List Bool)
  | [], x => (x, none)
  | b :: bs, x => match searchBit x b with
    | (y, some inv) => (y, some (inv, bs))
    | (y, none) => searchBits bs y

/-- The receiver's part that every stitch of a locked lane shares (spec/05 R113, R115): CHK count, the loss of lock after 8
consecutive failures, the descrambler's advance. -/
def State.lineRx (s : State) (l : Nat) (t : Stitch) : State :=
  let ok := stOk t
  let x := s.lane l
  let scr := if stType t = tyAlign then x.rxScr else x.rxScr.map fun k => (scramble k t.payload).1
  let s1 := s.setLane l { x with
    rxGood := if ok then x.rxGood + 1 else 0, rxBad := if ok then 0 else x.rxBad + 1, rxScr := scr
    intervalBad := x.intervalBad || !ok }
  let s2 := if ok then s1 else s1.sat (F.LANE_CHK_ERR_COUNT l) 1
  if ok || x.rxBad + 1 < 8 then s2 else s2.dropLock l

/-- Mbit/s of frame stitches at a largest tack count (spec/05 R111, R112). -/
def State.stitchRate (s : State) (p tmax : Nat) : Nat :=
  let n := if s.on (F.LANE_PORT_STATUS_HALF p) then 6692400000 else 13384800000
  (portLanes p).length * n / (541200 + tmax)

/-- The row number of the stitch that a lane receives next, as its last valid ALIGN gives it (spec/05 R104, R114). -/
def State.laneRow (s : State) (l : Nat) : Option Nat :=
  (s.lane l).alignRow.map fun r => (r + 1 + (s.lane l).alignAge) % 2 ^ 32

/-- IDLE bits and errors (spec/05 R116): counted where SEQ matches the lane's row, on the line side of the elastic buffer; a
failing CHK with no 1 bit counts one. -/
def State.idleCount (s : State) (l : Nat) (t : Stitch) (data : BitVec 512) : State :=
  let ones := popCount 512 data.toNat
  if (s.laneRow l).any fun r => r % 16 = stSeq t then
    (s.count (4 * l + 3) 512).count (4 * l + 2) (if ones = 0 && !stOk t then 1 else ones)
  else s

/-- The lag of a lane whose ALIGN of a row arrives now: row stitches that the earliest lane of the port has received after
its own ALIGN of that row (spec/05 R114). -/
def State.lagOf (s : State) (p row : Nat) : Nat :=
  ((portLanes p).filter fun k => (s.lane k).alignRow = some row).foldl (fun m k => max m (s.lane k).alignAge) 0

/-- Every lane of a port has delivered the ALIGN of one row (spec/05 R112, R114, R120): RX_RATE; a skew above 64 stitches
fails deskew; DESKEW ends. -/
def State.alignDone (s : State) (p row : Nat) : State :=
  let lags := (List.range (portLanes p).length).map fun i => s.get ⟨R.LANE_PORT_SKEW p, 8 * i, 8⟩
  let tmax := ((portLanes p).map fun l => (s.lane l).rxTacks).foldl max 0
  let s1 := s.set (F.LANE_PORT_RX_RATE_RATE p) (s.stitchRate p tmax)
  if lags.any fun g => 64 < g then s1.failDeskew p
  else if (s1.port p).deskewed || (s1.rxOrder p).length ≠ (portLanes p).length then s1
  else
    let s2 := (s1.clearDeskew p).setPort p { (s1.clearDeskew p).port p with deskewed := true, rxRow := (row + 1) % 2 ^ 32 }
    if s2.bring p = 5 then
      (s2.each (portLanes p) fun l s => s.setLane l { s.lane l with kaGood := 0 }).setBring p 6
    else s2

/-- A valid ALIGN stitch (spec/05 R99, R112, R114): position and lag are shown, the descrambler is loaded and a mismatch
counted, the interval's tack bits are taken. -/
def State.alignIn (s : State) (l : Nat) (t : Stitch) : State :=
  let p := lanePort l
  let pl := t.payload.toNat
  let row := slice pl 480 32
  let scr := slice pl 449 31
  let pos := slice pl 447 2
  let x := s.lane l
  let wrong := match x.rxScr with
    | some k => k != scr
    | none => false
  let s1 := if wrong then s.sat (F.LANE_SCR_ERR_COUNT l) 1 else s
  let s2 := s1.sets [(F.LANE_STATUS_POS l, pos), (F.LANE_STATUS_SCR_LOCK l, 1),
    (⟨R.LANE_PORT_SKEW p, 8 * pos, 8⟩, min (s.lagOf p row) 255)]
  let keep := if (s.port p).deskewed then x.fifo else []
  let s3 := (s2.setLane l { s2.lane l with
    rxScr := some scr, rxTacks := x.tackNow, tackNow := 0, alignRow := some row, alignAge := 0, fifo := keep }).showLocks p
  if (portLanes p).all fun k => (s3.lane k).alignRow = some row then s3.alignDone p row else s3

/-- A received stitch in its row (spec/05 R106, R107, R115): FRAME and FRAY go to reassembly, CTRL to its owner; ALIGN, IDLE
and stitches of a reserved TYPE are removed, a good ALIGN or IDLE ends a hunt. -/
def State.rowStitch (s : State) (p pos : Nat) (t : RowStitch) : State :=
  let s1 := if t.ok && t.type != tyFrame && (s.port p).hunting then s.setPort p { s.port p with hunting := false } else s
  if t.type = tyFrame then s1.frameIn p pos t
  else if t.type = tyFray then s1.frayRx p t
  else if t.type = tyCtrl then
    let pl := t.data.toNat
    if !t.ok then s1.sat (F.LANE_PORT_CTRL_DROP_CTRL_BAD_CHK p) 1
    else if s1.bring p < 7 || 9 < s1.bring p then s1
    else if 4 ≤ pl % 256 then s1.sat (F.LANE_PORT_CTRL_DROP_KIND_UNKNOWN p) 1
    else s1.emit (.ctrl p (pl % 256) (pl / 256))
  else s1

/-- The next stitch of a deskewed port's row in progress, in the order of positions (spec/05 R99, R114; spec/04 R93): with
8 rows in the elastic buffer at its start, the row is dropped and a slip counted. -/
def State.rowNext (s : State) (p l : Nat) (t : RowStitch) : State :=
  let x := s.port p
  let pos := x.rxSeqs.length
  let full := pos = 0 && decide (8 ≤ x.ebFill)
  let drop := x.ebDrop || full
  let aligned := t.type = tyAlign && t.ok && decide (slice t.data.toNat 480 32 = x.rxRow)
  let s1 := s.setLane l { s.lane l with fifo := (s.lane l).fifo.drop 1 }
  let s2 := if full then s1.slip else s1
  let s3 := s2.setPort p { x with ebDrop := drop }
  let s4 := if drop then s3 else s3.rowStitch p pos t
  let y := s4.port p
  let s5 := s4.setPort p { y with
    rxSeqs := y.rxSeqs ++ [t.seq], rowAligns := y.rowAligns + b2n aligned, rowNow := y.rowNow ++ [t]
    ebIdle := y.ebIdle && t.type = tyIdle }
  if (s5.port p).rxSeqs.length = (portLanes p).length then s5.rowEnd p else s5

/-- The stitches that deskew can put into their rows, at most `n` (spec/05 R114). -/
def State.rowsOut (s : State) (p : Nat) : Nat → State
  | 0 => s
  | n + 1 =>
    if !(s.port p).deskewed then s
    else match (s.rxOrder p)[(s.port p).rxSeqs.length]? with
      | none => s
      | some l => match (s.lane l).fifo with
        | [] => s
        | t :: _ => (s.rowNext p l t).rowsOut p n

/-- A row-scope stitch of a lane waits for deskew (spec/05 R114): up to 64 stitches; more behind a deskewed port's slowest lane
fail deskew.  `was`: the port was deskewed as the stitch arrived, so that an ALIGN stands in a row of its own. -/
def State.rowPush (s : State) (l : Nat) (t : RowStitch) (was : Bool) : State :=
  let p := lanePort l
  let x := s.lane l
  let good := t.type = tyAlign && t.ok
  let s1 := if was || (x.alignRow.isSome && !good && decide (x.fifo.length < 64)) then s.setLane l { x with fifo := x.fifo ++ [t] }
    else s
  let s2 := if good then s1 else s1.setLane l { s1.lane l with alignAge := (s1.lane l).alignAge + 1 }
  let s3 := s2.rowsOut p 264
  if (s3.port p).deskewed && decide (64 < (s3.lane l).fifo.length) then s3.failDeskew p else s3

/-- READY has ended on every lane: LINKED, then UP, or KEY on a trunk where either side requires encryption
(spec/05 R120). -/
def State.linked (s : State) (p : Nat) : State :=
  let s1 := s.setBring p 7
  let own := bit s1.bolt.pat.inForce.trunkEnc p
  if p < 2 && (own || s1.on (F.LANE_PORT_PARTNER_ENC_REQ p)) then s1.keyStart p else s1.enterUp p

/-- The parameters of a KEEPALIVE match the local port (spec/05 R121). -/
def State.compatible (s : State) (p pl : Nat) : Bool :=
  decide (slice pl 506 2 = (if p < 2 then 0 else 1)) && decide (slice pl 504 2 + 1 = (portLanes p).length) &&
    decide (slice pl 503 1 = s.get (F.LANE_PORT_STATUS_HALF p))

/-- A KEEPALIVE stitch (spec/05 R105, R115, R120, R121): one that fails CHK breaks a lane's run of valid ones; before the
first valid ALIGN it cannot be read. -/
def State.keepIn (s : State) (l : Nat) (ok : Bool) (data : BitVec 512) : State :=
  let p := lanePort l
  let pl := data.toNat
  if !ok then s.setLane l { s.lane l with kaGood := 0 }
  else if (s.lane l).rxScr.isNone then s
  else
    let st := slice pl 508 4
    let s2 := s.sets [(F.LANE_PORT_PARTNER_RX_STATE p, st), (F.LANE_PORT_PARTNER_KIND p, slice pl 506 2),
      (F.LANE_PORT_PARTNER_LANES_M1 p, slice pl 504 2), (F.LANE_PORT_PARTNER_HALF p, slice pl 503 1),
      (F.LANE_PORT_PARTNER_FALLBACK p, slice pl 502 1), (F.LANE_PORT_PARTNER_ENC_REQ p, slice pl 499 1)]
    if s2.bring p = 6 then
      if !s2.compatible p pl then s2.portFault p 7
      else
        let good := if 6 ≤ st ∧ st ≤ 9 then (s2.lane l).kaGood + 1 else 0
        let s3 := s2.setLane l { s2.lane l with kaGood := good }
        if (portLanes p).all fun k => decide (16 ≤ (s3.lane k).kaGood) then s3.linked p else s3
    else if s2.portUp p then
      let seen := (s2.port p).partnerUp
      if st = 10 || st = 11 || (decide (st < 7) && seen) then s2.portFault p 9
      else if 7 ≤ st ∧ st ≤ 9 then s2.setPort p { s2.port p with partnerUp := true }
      else s2
    else s2

/-- A stitch received on a lane that holds block lock (spec/05 R103 to R107, R113 to R116): KEEPALIVE stitches are removed
before deskew; CHK, the descrambler, ALIGN and the IDLE counts are the line's; the stitch then waits for its row. -/
def State.stitchIn (s : State) (l : Nat) (t : Stitch) : State :=
  let data := s.descr l t
  let was := (s.port (lanePort l)).deskewed
  let s1 := s.lineRx l t
  if s1.lockLost l then s1
  else if stType t = tyKeep then s1.keepIn l (stOk t) data
  else
    let s2 :=
      if stType t = tyAlign && stOk t then s1.alignIn l t
      else if stType t = tyIdle then s1.idleCount l t data
      else s1
    s2.rowPush l ⟨stType t, stSeq t, stOk t, data⟩ was

/-- Bits without tack bits: searched for block lock, or cut into stitches of 528 bits where the lane holds it
(spec/05 R113). -/
def State.bitsIn (s : State) (l : Nat) : Nat → List Bool → State
  | 0, _ => s
  | n + 1, bs =>
    let x := s.lane l
    if bs.isEmpty then s
    else if s.lockLost l then
      match searchBits bs x with
      | (y, none) => s.setLane l y
      | (y, some (inv, rest)) => ((s.setLane l y).gainLock l inv).bitsIn l n rest
    else
      let need := 528 - x.rxBits.length
      if bs.length < need then s.setLane l { x with rxBits := x.rxBits ++ bs }
      else
        let t := stitchFrom (x.rxBits ++ bs.take need) (s.on (F.LANE_STATUS_RX_INV l))
        ((s.setLane l { x with rxBits := [] }).stitchIn l t).bitsIn l n (bs.drop need)

/-- The local row clock reads a row from a deskewed port's elastic buffer (spec/04 R93): an empty buffer repeats the last row,
a slip. -/
def State.ebRead (s : State) (p : Nat) : Nat → State
  | 0 => s
  | n + 1 =>
    let x := s.port p
    let s1 :=
      if !x.deskewed then s
      else if x.ebFill = 0 then
        s.slip.each (x.rowLast.zip (List.range 4)) fun tp s => s.rowStitch p tp.2 tp.1
      else s.setPort p { x with ebFill := x.ebFill - 1 }
    s1.ebRead p n

/-- Bits arrive on a lane (spec/05 R108, R112, R113): tack bits are removed and counted, the rest goes to the receiver.  A lane
of a port unit that is OFF, or in raw mode, takes none (R120, R125). -/
def State.lineIn (s : State) (t : LineRx) : State :=
  let l := t.lane.val
  let p := lanePort l
  s.ifBolt fun s =>
    if s.bring p = 0 || s.on (F.LANE_PRBS_STATUS_RAW l) then s
    else
      let x := s.lane l
      let u := tackOut t.bits x.rawLast x.rawRun
      let s1 := (s.setLane l { x with rawLast := u.last, rawRun := u.run, tackNow := x.tackNow + u.tacks }).sat
        (F.LANE_TACK_VIOL l) u.viols
      ((s1.ebRead p t.reads).bitsIn l (u.bits.length + 1) u.bits).lineReview l

/-- FRAME_RX: the receiver acts on the TYPE it reads (spec/05 R115, spec/06 R140). -/
def execFrameRx (t : LineRx) (s : State) : Step := .next (s.lineIn t)

/-- FRAME_STITCH_RX (spec/06 R142). -/
def execFrameStitchRx (l : Fin 20) (r : RxBits) (s : State) : Step := .next (s.lineIn ⟨l, r.bits, r.reads⟩)

/-- FRAY_RX (spec/06 R152). -/
def execFrayRx (t : LineRx) (s : State) : Step := .next (s.lineIn t)

/-- IDLE_STITCH_RX (spec/05 R116). -/
def execIdleStitchRx (l : Fin 20) (r : RxBits) (s : State) : Step := .next (s.lineIn ⟨l, r.bits, r.reads⟩)

/-- CTRL_STITCH_RX (spec/05 R106). -/
def execCtrlStitchRx (t : LineRx) (s : State) : Step := .next (s.lineIn t)

/-- ALIGN_RX (spec/05 R114). -/
def execAlignRx (l : Fin 20) (before marker payload : List Bool) (reads : Nat) (s : State) : Step :=
  .next (s.lineIn ⟨l, before ++ marker ++ payload, reads⟩)

/-- KEEPALIVE_RX (spec/05 R120). -/
def execKeepaliveRx (t : LineRx) (s : State) : Step := .next (s.lineIn t)

/-- SIGNAL_LOSS: the lane loses its lock; in UP the port goes down (spec/05 R113, R121, R122). -/
def execSignalLoss (l : Fin 20) (s : State) : Step :=
  .next (s.ifBolt fun s =>
    if s.bring (lanePort l) = 0 then s
    else ((s.sets [(F.LANE_STATUS_SIGDET l, 0), (F.LANE_STATUS_CDR_LOCK l, 0)]).dropLock l).lineReview l)

/-- A row is sent on a port whose transmitter sends stitches (spec/05 R120). -/
def State.ifSending (s : State) (p : Nat) (f : State → State) : State :=
  s.ifBolt fun s => if (s.port p).sending then f s else s

/-- ALIGN_TX (spec/05 R104): an ALIGN row with its IDLE row, where the present row is a 1,024th. -/
def execAlignTx (p : Fin 8) (s : State) : Step := .next (s.ifSending p fun s => s.alignRow p)

/-- KEEPALIVE_TX (spec/05 R105): sent where the port's state or the lane's run-ahead asks for one. -/
def execKeepaliveTx (p : Fin 8) (pos : Fin 4) (s : State) : Step :=
  .next (s.ifSending p fun s =>
    if (portLanes p)[pos.val]?.any fun l => s.keepMay p l then s.sendKeep p pos else s)

/-- IDLE_ROW_TX (spec/05 R107): a port with a frame on the wire is offered that frame's rows, and no IDLE row stands between
them. -/
def execIdleRowTx (p : Fin 8) (s : State) : Step :=
  .next (s.ifSending p fun s => if (s.port p).onWire.isSome then s else (s.readySlot p).idleRow p)

/-- Tack pressure of a port set or cleared (spec/05 R111). -/
def State.setPressure (s : State) (p : Nat) (on : Bool) : State :=
  let s1 := s.set (F.LANE_PORT_STATUS_PRESSURE p) (b2n on)
  ((if on then s1.setB F.LANE_PORT_SUMMARY_PRESSURE p else s1.clrB F.LANE_PORT_SUMMARY_PRESSURE p)).irq bLane 3

/-- ALIGN_INTERVAL_END (spec/05 R111, R119). -/
def execAlignIntervalEnd (p : Fin 8) (s : State) : Step :=
  .next (s.ifSending p fun s =>
    let ls := portLanes p
    let tmax := (ls.map fun l => (s.lane l).txTacks).foldl max 0
    let past := decide (s.get F.LANE_TACK_CFG_ALLOW < tmax)
    let calm := if past then 0 else (s.port p).calm + 1
    let up := s.portUp p
    let s1 := s.each ls fun l s =>
      let x := s.lane l
      let s := if up && !x.intervalBad then s.saveTaps l else s
      (s.setLane l { s.lane l with txTacks := 0, intervalBad := false }).set (F.LANE_TACK_LAST l) (min x.txTacks 65535)
    let s2 := (s1.setPort p { s1.port p with calm := calm }).sets
      [(F.LANE_PORT_TACK_MAX_T_MAX p, min tmax 65535),
       (F.LANE_PORT_TACK_MAX_PEAK p, max (s1.get (F.LANE_PORT_TACK_MAX_PEAK p)) (min tmax 65535)),
       (F.LANE_PORT_TRUE_RATE_RATE p, s1.stitchRate p tmax)]
    let held := s2.on (F.LANE_PORT_STATUS_PRESSURE p)
    let s3 := if past && !held then s2.setPressure p true
      else if held && decide (s2.get F.LANE_TACK_CFG_CLEAR_INTERVALS ≤ calm) then s2.setPressure p false
      else s2
    s3.setRate p (s3.stitchRate p tmax))

/-- WAIT_SIGNAL ends when every lane has signal, a dock's port controller is in the Elrek alternate mode, and a QSFP28
trunk's module is READY (spec/05 R120). -/
def State.tryCdr (s : State) (p : Nat) : State :=
  let sig := (portLanes p).all fun l => s.on (F.LANE_STATUS_SIGDET l)
  let able := if p < 2 then s.bolt.pat.inForce.media.getD p 0 != 0 || s.on (F.LANE_MOD_STATUS_READY p)
    else s.inAlt p
  if s.bring p = 1 && sig && able then (s.sat (F.LANE_PORT_ATTEMPT_COUNT p) 1).setBring p 2 else s

/-- SIGNAL_STABLE (spec/05 R120). -/
def execSignalStable (p : Fin 8) (s : State) : Step :=
  .next (s.ifBolt fun s => if s.bring p = 0 then s else (s.setLanes p F.LANE_STATUS_SIGDET 1).tryCdr p)

/-- The taps that EQ starts from: zero, preset, or last good (spec/05 R117, R119). -/
def State.loadStart (s : State) (l : Nat) : State :=
  s.each [0, 1, 2, 3] fun k s =>
    let v := match s.get (F.LANE_DFE_CTRL_START l) with
      | 0 => 0
      | 1 => s.rd (R.LANE_DFE_PRE l k)
      | _ => (s.lane l).goodTaps.getD k 0
    s.wr (R.LANE_DFE_TAP l k) v

/-- CDR_LOCK (spec/05 R117, R120). -/
def execCdrLock (p : Fin 8) (s : State) : Step :=
  .next (s.ifBolt fun s =>
    if s.bring p = 2 then
      ((s.setLanes p F.LANE_STATUS_CDR_LOCK 1).each (portLanes p) fun l s =>
        (s.loadStart l).set (F.LANE_DFE_CTRL_AUTO_FROZEN l) 0).setBring p 3
    else s)

/-- The CTLE code with the widest eye, of the widths measured at codes 0 to 15; of equal ones the lowest
(spec/05 R117; assumption log 80). -/
def widest (eyes : List Nat) : Nat :=
  (List.range 16).foldl (fun b c => if eyes.getD b 0 < eyes.getD c 0 then c else b) 0

/-- A lane's equalisation is complete (spec/05 R117): the CTLE code with the widest eye, or the preset. -/
def State.eqLane (s : State) (l : Nat) (eyes : List Nat) : State :=
  s.sets [(F.LANE_RX_CTLE l, if s.on (F.LANE_RX_CTLE_AUTO l) then widest eyes else s.get (F.LANE_RX_CTLE_PRESET l)),
    (F.LANE_STATUS_EQ_DONE l, 1)]

/-- A port's lanes belong to an adapter that is enabled: the quad is not in DOCK mode (spec/05 R98). -/
def State.adapterLanes (s : State) (p : Nat) : Bool :=
  decide (2 ≤ p) && decide (s.qmode ((p - 2) / 2) ≠ 0) && (portLanes p).any fun l => s.laneHeld l

/-- A quad's lanes are equalised no longer: their adapter has stopped. -/
def State.quadUneq (s : State) (q : Nat) : State :=
  s.each [0, 1, 2, 3] fun k s => s.set (F.LANE_STATUS_EQ_DONE (8 + 4 * q + k)) 0

/-- EQ_DONE (spec/05 R98, R117, R120): a port unit goes on to LOCK; an adapter's training is reported in the LANE registers. -/
def execEqDone (p : Fin 8) (eyes : List (List Nat)) (s : State) : Step :=
  .next (s.ifBolt fun s =>
    let done (s : State) := s.each ((portLanes p).zip (List.range 4)) fun lp s => s.eqLane lp.1 (eyes.getD lp.2 [])
    if s.bring p = 3 then (done s).setBring p 4
    else if s.adapterLanes p then done s
    else s)

/-- BRING_TIMEOUT: the limits of CDR to READY give the cause of the same number (spec/05 R120, R121). -/
def execBringTimeout (p : Fin 8) (s : State) : Step :=
  .next (s.ifBolt fun s => if 2 ≤ s.bring p ∧ s.bring p ≤ 6 then s.portFault p (s.bring p) else s)

/-- FAULT_RETRY (spec/05 R120). -/
def execFaultRetry (p : Fin 8) (s : State) : Step :=
  .next (s.ifBolt fun s => if s.bring p = 11 then s.waitSignal p else s)

/-- CLOSING_DONE (spec/05 R120, R124). -/
def execClosingDone (p : Fin 8) (s : State) : Step :=
  .next (s.ifBolt fun s => if s.bring p = 10 then s.portOff p else s)

/-- PORT_DISABLE (spec/05 R124; spec/02 R35): a write of LANE_PORTn_CTRL with ENABLE 0. -/
def execPortDisable (who : Requester) (p : Fin 8) (value : Word) (s : State) : Step :=
  let st := s.get (F.LANE_PORT_STATUS_STATE p)
  .next (s.command who (R.LANE_PORT_CTRL p) (setBits value 0 1 0) fun s =>
    if st = 2 then s.portClose p
    else if st = 1 then s.set (F.LANE_PORT_STATUS_STATE p) 0
    else s)

/-- DOCK_WINDOW_END (spec/05 R123): the next window of the cycle of two full-rate windows and one half-rate window; below
UP a new rate starts a new attempt. -/
def execDockWindowEnd (p : Fin 8) (s : State) : Step :=
  .next (s.ifBolt fun s =>
    if p.val < 2 || !s.inAlt p then s
    else
      let s1 := s.setPort p { s.port p with window := ((s.port p).window + 1) % 3 }
      if s1.bring p = 0 || s1.bring p = 9 || s1.bring p = 10 || s1.nextHalf p = s1.get (F.LANE_PORT_STATUS_HALF p) then s1
      else s1.waitSignal p)

/-- One unit interval of a tap's adaptation (spec/05 R118): once in 2^MU_SHIFT of them the vote counter takes
sign(e) × sign(d[n − k]); at +8 or −8 the tap moves a step within its limit and the counter clears. -/
def dfeVote (mu : Nat) (lim : Int) (x : Int × Nat × Int) (sign : Bool × Bool) : Int × Nat × Int :=
  let (tap, ui, votes) := x
  if ui + 1 < 2 ^ mu then (tap, ui + 1, votes)
  else
    let v := votes + if sign.1 = sign.2 then 1 else -1
    if v = 8 then (min lim (tap + 1), 0, 0)
    else if v = -8 then (max (-lim) (tap - 1), 0, 0)
    else (tap, 0, v)

/-- The DFE of a lane adapts (spec/05 R98, R117, R118): in EQ, with block lock, or under its adapter; not while frozen. -/
def State.dfeRuns (s : State) (l : Nat) : Bool :=
  (decide (s.bring (lanePort l) = 3) || !s.lockLost l || s.adapterLanes (lanePort l)) &&
    !s.on (F.LANE_DFE_CTRL_FREEZE l) && !s.on (F.LANE_DFE_CTRL_AUTO_FROZEN l)

/-- DFE_TAP_STEP: one tap of a lane that adapts over the signs of e and d[n − k] of successive unit intervals; tap 1 within
±127 mV, the others within ±63 mV (spec/05 R118). -/
def execDfeTapStep (l : Fin 20) (k : Fin 12) (signs : List (Bool × Bool)) (s : State) : Step :=
  .next (s.ifBolt fun s =>
    if !s.dfeRuns l then s
    else
      let f : Fld := ⟨R.LANE_DFE_TAP l (k.val / 3), 8 * (k.val % 3), 8⟩
      let lim : Int := if k.val = 0 then 127 else 63
      let (tap, ui, v) := signs.foldl (dfeVote (s.get (F.LANE_DFE_CTRL_MU_SHIFT l)) lim)
        (toSigned 8 (s.get f), (s.lane l).votes.getD k.val (0, 0))
      (s.setLane l { s.lane l with votes := setAt (s.lane l).votes k.val (ui, v) }).set f (ofSigned 8 tap))

/-- LOAD: the preset taps become the live taps (spec/05 R119). -/
def execDfeLoad (who : Requester) (l : Fin 20) (value : Word) (s : State) : Step :=
  .next (s.command who (R.LANE_DFE_CTRL l) (value ||| 2) fun s =>
    (s.each [0, 1, 2, 3] fun k s => s.wr (R.LANE_DFE_TAP l k) (s.rd (R.LANE_DFE_PRE l k))).set
      (F.LANE_DFE_CTRL_LOAD l) 0)

/-- A write of LANEn_PRBS_CTRL (spec/05 R125, R126): ignored where it sets GEN or CHK on a held lane; raw mode follows GEN
and CHK; CLEAR zeroes the counters; INJECT inverts a bit of the generator, or of the next IDLE stitch. -/
def State.prbsWrite (s : State) (who : Requester) (l : Nat) (value : Word) : State :=
  if s.laneHeld l && getBits value 0 2 != 0 then
    if !s.pathLive who then s
    else match s.judge who (R.LANE_PRBS_CTRL l) 4 true with
      | .act => (s.sticky bLane 0).answer who .done 0
      | bad => s.turnAway bad who (R.LANE_PRBS_CTRL l)
  else s.command who (R.LANE_PRBS_CTRL l) value fun t => t.prbsFollow l (s.on (F.LANE_PRBS_CTRL_GEN l)) (s.get (F.LANE_PRBS_CTRL_POLY l))

/-- PRBS_CTRL_WRITE (spec/05 R125). -/
def execPrbsCtrlWrite (who : Requester) (l : Fin 20) (value : Word) (s : State) : Step :=
  .next (s.prbsWrite who l value)

/-- INJECT (spec/05 R126). -/
def execPrbsInject (who : Requester) (l : Fin 20) (value : Word) (s : State) : Step :=
  .next (s.prbsWrite who l (value ||| 16))

/-- CLEAR (spec/05 R126). -/
def execPrbsClear (who : Requester) (l : Fin 20) (value : Word) (s : State) : Step :=
  .next (s.prbsWrite who l (value ||| 32))

/-- One bit of a raw checker (spec/05 R126): seeded from the received bits and counting error-free ones in a row while not
locked; running freely and keeping the errors of the last 256 bits while locked. -/
def chkBit (poly : Nat) (locked : Bool) (x : PrbsChk) (b : Bool) : PrbsChk :=
  let o := prbsNext poly x.reg
  if locked then { x with reg := prbsShift poly x.reg o, window := ((b != o) :: x.window).take 256 }
  else if x.seen < (prbsTaps poly).1 then { x with reg := prbsShift poly x.reg b, seen := x.seen + 1 }
  else { x with reg := prbsShift poly x.reg b, run := if b = o then x.run + 1 else 0 }

/-- The lock of a checker after a bit: gained after 256 error-free bits in a row, lost on more than 32 errors within 256
bits (spec/05 R126). -/
def chkLock (locked : Bool) (x : PrbsChk) : Bool :=
  if locked then decide ((x.window.filter id).length ≤ 32) else decide (256 ≤ x.run)

/-- A checker over bits, up to a change of its lock: checker, bits and errors counted while locked, the bits left. -/
def chkBits (poly : Nat) (locked : Bool) : List Bool → PrbsChk → Nat → Nat → PrbsChk × Nat × Nat × List Bool
  | [], x, n, e => (x, n, e, [])
  | b :: bs, x, n, e =>
    let y := chkBit poly locked x b
    let n' := n + b2n locked
    let e' := e + b2n (locked && y.window.headD false)
    if chkLock locked y = locked then chkBits poly locked bs y n' e' else (y, n', e', bs)

/-- Bits arrive at a lane's raw checker (spec/05 R126): counted while locked; a lock gained is LOCK, a lock lost PRBS_LOST and
a new seed. -/
def State.prbsIn (s : State) (l : Nat) : Nat → List Bool → State
  | 0, _ => s
  | n + 1, bs =>
    let locked := s.on (F.LANE_PRBS_STATUS_LOCK l)
    let (x, bits, errs, rest) := chkBits (s.get (F.LANE_PRBS_CTRL_POLY l)) locked bs (s.lane l).prbs 0 0
    let s1 := if locked then (s.count (4 * l + 1) bits).count (4 * l) errs else s
    if chkLock locked x = locked then s1.setLane l { s1.lane l with prbs := x }
    else
      let s2 := s1.setLane l { s1.lane l with prbs := if locked then PrbsChk.reset else { x with run := 0, window := [] } }
      let s3 := if locked then ((s2.set (F.LANE_PRBS_STATUS_LOCK l) 0).irq bLane 6).ntLock l false
        else (s2.set (F.LANE_PRBS_STATUS_LOCK l) 1).ntLock l true
      s3.prbsIn l n rest

/-- Raw bits received on a lane whose checker is on; CHK_INV expects the inverted pattern (spec/05 R126). -/
def State.prbsRx (s : State) (l : Nat) (bits : List Bool) : State :=
  s.ifBolt fun s =>
    if s.on (F.LANE_PRBS_CTRL_CHK l) then
      s.prbsIn l (bits.length + 1) (bits.map fun b => b != s.on (F.LANE_PRBS_CTRL_CHK_INV l))
    else s

/-- PRBS_LOCK (spec/05 R126). -/
def execPrbsLock (l : Fin 20) (seed bits : List Bool) (s : State) : Step := .next (s.prbsRx l (seed ++ bits))

/-- PRBS_LOST (spec/05 R126). -/
def execPrbsLost (l : Fin 20) (bits last : List Bool) (s : State) : Step := .next (s.prbsRx l (bits ++ last))

/-- A trunk with MEDIA 0 has a module manager; it handles the module while AUTO is 1 (spec/05 R128). -/
def State.ifManaged (s : State) (t : Nat) (f : State → State) : State :=
  s.ifBolt fun s =>
    if s.bolt.pat.inForce.media.getD t 0 = 0 && s.on (F.LANE_MOD_CTRL_AUTO t) then f s else s

/-- MOD_PRESENT: a module was inserted; RESET_N is pulsed (spec/05 R128). -/
def execModPresent (t : Fin 2) (s : State) : Step :=
  .next (s.ifManaged t fun s =>
    if (s.mod t).inserted then s
    else ((s.setMod t { s.mod t with inserted := true, waitMs := 0 }).set (F.LANE_MOD_STATUS_PRESENT t) 1).emit
      (.modBus t 0 0 0))

/-- A read of data-not-ready (spec/05 R128): READY, or MOD_CHANGE where the module is not ready within 2 s. -/
def State.modReady (s : State) (t : Nat) (notReady : Bool) : State :=
  if !(s.mod t).inserted || s.on (F.LANE_MOD_STATUS_READY t) then s
  else if !notReady then (s.set (F.LANE_MOD_STATUS_READY t) 1).tryCdr t
  else
    let w := (s.mod t).waitMs + 10
    let s1 := s.setMod t { s.mod t with waitMs := min w 2010 }
    if w = 2000 then s1.irq bLane 4 else s1

/-- MOD_READY_POLL (spec/05 R128, R129): every 10 ms until READY; the read waits for a command on the bus. -/
def execModReadyPoll (t : Fin 2) (notReady : Bool) (s : State) : Step :=
  .next (s.ifManaged t fun s =>
    if (s.mod t).cmd.isSome then s.setMod t { s.mod t with readyWait := some notReady } else s.modReady t notReady)

/-- MOD_REMOVED (spec/05 R128). -/
def execModRemoved (t : Fin 2) (s : State) : Step :=
  .next (s.ifManaged t fun s =>
    if (s.mod t).inserted then
      ((s.setMod t { s.mod t with inserted := false }).sets
        [(F.LANE_MOD_STATUS_PRESENT t, 0), (F.LANE_MOD_STATUS_READY t, 0)]).irq bLane 4
    else s)

/-- What a poll reads is shown (spec/05 R128). -/
def State.modShow (s : State) (t : Nat) (x : Bool × Nat × Nat × Nat) : State :=
  s.sets [(F.LANE_MOD_STATUS_INT t, b2n x.1), (F.LANE_MOD_STATUS_RX_LOS t, x.2.1), (F.LANE_MOD_STATUS_TX_LOS t, x.2.2.1),
    (F.LANE_MOD_STATUS_TEMP t, x.2.2.2)]

/-- A command transaction takes the bus, with ModSelL (spec/05 R127, R129): offset, write, data. -/
def State.modStart (s : State) (t : Nat) (c : Nat × Bool × Nat) : State :=
  ((s.setMod t { s.mod t with cmd := some c }).emit (.modSel t true)).emit
    (.modBus t (if c.2.1 then 2 else 1) c.1 (if c.2.1 then c.2.2 else 0))

/-- MOD_POLL (spec/05 R128, R129): at POLL_MS, or at once when INT_N falls; a poll waits for a command in progress, and a
command for it, up to its last byte. -/
def execModPoll (t : Fin 2) (intN : Bool) (los : ModLos) (temp : BitVec 16) (more : Bool) (s : State) : Step :=
  .next (s.ifManaged t fun s =>
    let x : Bool × Nat × Nat × Nat := (intN, los.rx.toNat, los.tx.toNat, temp.toNat)
    if !(s.mod t).inserted || !(intN || s.on (F.LANE_MOD_CTRL_POLL_MS t)) then s
    else if (s.mod t).cmd.isSome then s.setMod t { s.mod t with pollWait := some x }
    else
      let s1 := (s.modShow t x).setMod t { s.mod t with polling := more }
      match more, (s.mod t).goWait with
      | false, some c => (s1.setMod t { s1.mod t with goWait := none }).modStart t c
      | _, _ => s1)

/-- RESET: ResetL is pulsed for 10 µs (spec/05 R128). -/
def execModReset (who : Requester) (t : Fin 2) (value : Word) (s : State) : Step :=
  .next (s.command who (R.LANE_MOD_CTRL t) (value ||| 2) fun s =>
    ((s.set (F.LANE_MOD_CTRL_RESET t) 0).emit (.modBus t 0 0 0)).driveLp t)

/-- A command transaction starts where none is on the bus; it waits for a poll's byte; a GO during one starts no second
(spec/05 R129; assumption log 81). -/
def State.modGo (s : State) (t : Nat) (write : Bool) : State :=
  let x := s.mod t
  let c := (s.get (F.LANE_MOD_CMD_OFFSET t), write, s.get (F.LANE_MOD_DATA_DATA t))
  if x.cmd.isSome || x.goWait.isSome then s
  else if x.polling then s.setMod t { x with goWait := some c }
  else s.modStart t c

/-- MOD_CMD_READ (spec/05 R129). -/
def execModCmdRead (who : Requester) (t : Fin 2) (offset : BitVec 8) (s : State) : Step :=
  .next (s.command who (R.LANE_MOD_CMD t) (BitVec.ofNat 32 (512 + offset.toNat)) fun s => s.modGo t false)

/-- MOD_CMD_WRITE (spec/05 R129). -/
def execModCmdWrite (who : Requester) (t : Fin 2) (offset : BitVec 8) (s : State) : Step :=
  .next (s.command who (R.LANE_MOD_CMD t) (BitVec.ofNat 32 (768 + offset.toNat)) fun s => s.modGo t true)

/-- MOD_CMD_DONE (spec/05 R129): the bus is free for a poll that waited. -/
def execModCmdDone (t : Fin 2) (ack : Bool) (data : BitVec 8) (s : State) : Step :=
  .next (s.ifBolt fun s =>
    match (s.mod t).cmd with
    | none => s
    | some (_, w, _) =>
      let x := s.mod t
      let s1 := ((s.setMod t { x with cmd := none, pollWait := none, readyWait := none }).sets
        [(F.LANE_MOD_CMD_GO t, 0), (F.LANE_MOD_DATA_NACK t, b2n (!ack))]).emit (.modSel t false)
      let s2 := if ack && !w then s1.set (F.LANE_MOD_DATA_DATA t) data.toNat else s1
      let s3 := (s2.irq bLane 5).when x.pollWait.isSome fun s => s.modShow t (x.pollWait.getD (false, 0, 0, 0))
      s3.when x.readyWait.isSome fun s => s.modReady t (x.readyWait.getD true))

end Sys2Proof.Machine
end

