-- ==== Sys2Proof/Machine/Stc.lean ====
section
/-! DEFINITION. State channels and check-value units (spec/12): producing, consuming, supervision, the alive test, the
general-purpose units, and the latch of a _LO write that a _HI write takes (spec/02 R33). -/

namespace Sys2Proof.Machine

/-- Base address of STC. -/
abbrev bStc : Nat := 0x40A00000

/-- The _LO value a requester holds for a pair, by the address of its _LO register (spec/02 R33). -/
def State.heldLo (s : State) (w : Requester) (lo : Nat) : Option Word :=
  (s.bolt.ctl.wrLatch.find? fun x => x.who = w.num && x.blk = blockId lo && x.pair = lo).map (·.val)

/-- The held _LO value of a pair applied and the latch emptied (spec/02 R33). -/
def State.takeLo (s : State) (w : Requester) (lo : Nat) : State :=
  match s.heldLo w lo with
  | none => s
  | some v =>
    { s.storeWrite lo v with bolt.ctl.wrLatch := s.bolt.ctl.wrLatch.filter fun x =>
        !(x.who = w.num && x.blk = blockId lo) }

/-- A channel's own state, and it stored. -/
def State.chan (s : State) (c : Nat) : Channel := s.bolt.stc.chans.getD c Channel.reset
def State.setChan (s : State) (c : Nat) (x : Channel) : State :=
  { s with bolt.stc.chans := setAt s.bolt.stc.chans c x }

/-- A channel is ON with a ROLE: 1 PRODUCER, 2 CONSUMER (spec/12 R283). -/
def State.chanRole (s : State) (c r : Nat) : Bool :=
  decide (c < 128) && s.isOn (.stcCh (Fin.ofNat 128 c)) && decide (s.get (F.STC_CH_CFG_ROLE c) = r)

/-- SAFE of a channel. -/
def State.safeValue (s : State) (c : Nat) : Nat :=
  (s.rd (R.STC_CH_SAFE_LO c)).toNat + 2 ^ 32 * (s.rd (R.STC_CH_SAFE_HI c)).toNat

/-- The value a channel presents (spec/12 R287). -/
def State.presented (s : State) (c : Nat) : Nat :=
  if s.on (F.STC_CH_STATUS_SAFE_OUT c) then s.safeValue c else (s.chan c).value

/-- SAFE_OUT and the presented value follow STALE, FROZEN and FALLBACK (spec/12 R287). -/
def State.showChan (s : State) (c : Nat) : State :=
  let bad := s.on (F.STC_CH_STATUS_STALE c) || s.on (F.STC_CH_STATUS_FROZEN c)
  let s1 := s.set (F.STC_CH_STATUS_SAFE_OUT c) (b2n (bad && s.on (F.STC_CH_CFG_FALLBACK c)))
  let v := s1.presented c
  s1.sets [(F.STC_CH_PRES_LO_VALUE c, v), (F.STC_CH_PRES_HI_VALUE c, v / 2 ^ 32)]

/-- The register of a unit's polynomial before any byte (spec/12 R288). -/
def cvuInit (poly : Nat) : Nat := if poly = 0 then 0xFF else if poly = 1 then 0xFFFF else 0xFFFFFFFF

/-- One byte through a unit's register (spec/12 R288). -/
def cvuFeed (poly r : Nat) (b : Byte) : Nat :=
  match poly with
  | 0 => (msbBits 8 b.toNat).foldl (crcStep 8 0x2F) r
  | 1 => (msbBits 8 b.toNat).foldl (crcStep 16 0x1021) r
  | 2 => (lsbBits 8 b.toNat).foldl (crcStepR 0xEDB88320) r
  | _ => (lsbBits 8 b.toNat).foldl (crcStepR 0x82F63B78) r

/-- The result of a register: the final XOR applied (spec/12 R288). -/
def cvuResult (poly r : Nat) : Nat := if poly < 2 then r else r ^^^ 0xFFFFFFFF

/-- A check value over bytes. -/
def cvuOver (poly : Nat) (bs : List Byte) : Nat := cvuResult poly (bs.foldl (cvuFeed poly) (cvuInit poly))

/-- The check value of a channel's frame over DATA_ID, VALUE and ALIVE (spec/12 R289). -/
def State.chanCheck (s : State) (c value alive : Nat) : Nat :=
  cvuOver (s.get (F.STC_CVU_CFG_POLY c))
    (List.flatten [leBytes 2 (s.get (F.STC_CH_CFG2_DATA_ID c)), leBytes 8 value, leBytes 1 alive])

/-- P of a producer (spec/12 R285). -/
def State.sendPeriod (s : State) (c : Nat) : Nat :=
  max (s.get (F.STC_CH_CFG_PROD_PERIOD c)) (s.get (F.STC_CH_CFG_CONS_PERIOD c))

/-- The channel that an entry binds (spec/12 R283). -/
def Entry.channel (e : Entry) : Nat := slice e.binding 0 7

/-- Valid STATE entries with LOCAL_PORT P9 that satisfy a test. -/
def State.stateEntries (s : State) (f : Entry → Bool) : List Nat :=
  (s.validEntries.filter fun ie => ie.2.localPort = 9 && ie.2.service = svState && f ie.2).map (·.1)

/-- The send of a producer channel in a send cycle: the value is sampled, CHECK computed, one frame built
(spec/12 R284, R285; spec/02 R44). -/
def State.stateSend (s : State) (c : Nat) : State :=
  let x := s.chan c
  let src := s.get (F.STC_CH_CFG_SRC c)
  let y := if src = 1 then (if s.seamUp then { x with value := s.bolt.stc.contacts, alive := (x.alive + 1) % 256 } else x)
    else if src = 2 then { x with value := s.bolt.stc.hpd, alive := (x.alive + 1) % 256 }
    else x
  let p := s.sendPeriod c
  let chk := s.on (F.STC_CH_CFG_CHK_EN c)
  let check := s.chanCheck c y.value y.alive
  let s1 := ((s.setChan c y).showChan c).sets [(F.STC_CH_ALIVE_ALIVE c, y.alive), (F.STC_CH_ALIVE_PERIOD c, p),
    (F.STC_CH_LAST_CYCLE_CYCLE c, s.cycle)]
  let s2 := if chk then
      { s1.set (F.STC_CVU_RESULT_CRC c) check with bolt.stc.crcs := setAt s1.bolt.stc.crcs c (cvuResult (s.get (F.STC_CVU_CFG_POLY c)) check) }
    else s1
  let payload := List.flatten [leBytes 8 y.value, leBytes 4 (if chk then check else 0), leBytes 1 p, leBytes 1 (b2n chk),
    leBytes 2 0]
  s2.each (s2.stateEntries fun e => e.source && e.channel = c) fun i s =>
    s.sourceFrame i kState (svcState c y.alive) payload true

/-- The work of STC at a cycle boundary: sends, and the ages of consumers (spec/12 R285, R287). -/
def State.stcCycle (s : State) : State :=
  if !s.isOn .stc then s
  else s.each (List.range 128) fun c s =>
    if s.chanRole c 1 then
      let p := max 1 (s.sendPeriod c)
      if (s.cycle + 2 ^ 32 - s.get (F.STC_CH_CFG_PHASE c)) % 2 ^ 32 % p = 0 then s.stateSend c else s
    else if s.chanRole c 2 then s.setChan c { s.chan c with age := (s.chan c).age + 1 }
    else s

/-- VALUE_HI_WRITE: one update of a firmware channel (spec/12 R285, spec/02 R33). -/
def execValueHiWrite (who : Requester) (c : Fin 128) (value : Word) (s : State) : Step :=
  .next (s.command who (R.STC_CH_VALUE_HI c) value fun s =>
    let s1 := s.takeLo who (R.STC_CH_VALUE_LO c)
    if s1.chanRole c 1 && s1.get (F.STC_CH_CFG_SRC c) = 0 then
      let v := (s1.rd (R.STC_CH_VALUE_LO c)).toNat + 2 ^ 32 * (s1.rd (R.STC_CH_VALUE_HI c)).toNat
      (s1.setChan c { s1.chan c with value := v, alive := ((s1.chan c).alive + 1) % 256 }).showChan c
    else s1)

/-- STC_SUSPECT gets the channel's bit (spec/12 R287). -/
def State.suspect (s : State) (c : Nat) : State := s.setB (F.STC_SUSPECT_CH (c / 32)) (c % 32)

/-- STC_MISMATCH gets the unit's bit. -/
def State.unitMismatch (s : State) (u : Nat) : State := s.setB (F.STC_MISMATCH_UNIT (u / 32)) (u % 32)

/-- The result of the alive test: 1 OK, 2 REPEAT, 3 WINDOW (spec/12 R290). -/
def State.aliveResult (s : State) (u d : Nat) : Nat :=
  if d = 0 then 2 else if d ≤ s.get (F.STC_CVU_CFG_MAXDELTA u) then 1 else 3

/-- An alive value tested by a unit: what it shows of the test, its counters, its bit, the ALIVE interrupt (spec/12 R290). -/
def State.unitAlive (s : State) (u alive delta r : Nat) : State :=
  let s1 := s.sets [(F.STC_CVU_ALIVE_LAST u, alive), (F.STC_CVU_ALIVE_DELTA u, delta), (F.STC_CVU_STATUS_ALIVE_RES u, r)]
  if r = 2 then s1.sat (F.STC_CVU_CNT2_REPEAT u) 1
  else if r = 3 then ((s1.sat (F.STC_CVU_CNT_ALIVE_ERR u) 1).unitMismatch u).irq bStc 4
  else s1

/-- A frame accepted by a consumer (spec/12 R286 step 6); `r` is the alive result, 0 where no test was made. -/
def State.acceptState (s : State) (c r delta : Nat) (f : Frame) : State :=
  let x := s.chan c
  let value := leAt f.payload 0 8
  let alive := hAlive f.hdr
  let y : Channel := { x with
    value := value, alive := alive, seq := f.hdr.seq.toNat, gen := f.hdr.gen.toNat
    period := leAt f.payload 12 1, age := 0, repeats := if r = 2 then x.repeats + 1 else 0 }
  let s1 := (s.setChan c y).sets [(F.STC_CH_STATUS_VALID c, 1), (F.STC_CH_STATUS_STALE c, 0),
    (F.STC_CH_STATUS_CHK_FAIL c, 0), (F.STC_CH_STATUS_PATH c, b2n f.hdr.path), (F.STC_CH_ALIVE_ALIVE c, alive),
    (F.STC_CH_ALIVE_PERIOD c, y.period), (F.STC_CH_LAST_CYCLE_CYCLE c, s.cycle)]
  let s2 := if r = 0 then s1 else s1.set (F.STC_CH_ALIVE_DELTA c) delta
  let s3 := if r = 1 then s2.set (F.STC_CH_STATUS_FROZEN c) 0 else s2
  let limit := s3.get (F.STC_CH_CFG2_REPEAT_MAX c)
  let s4 := if limit ≠ 0 && limit ≤ y.repeats && !s3.on (F.STC_CH_STATUS_FROZEN c) then
      ((s3.set (F.STC_CH_STATUS_FROZEN c) 1).suspect c).irq bStc 2
    else s3
  s4.showChan c

/-- The steps of a consumer for a frame that is well formed (spec/12 R286). -/
def State.consume (s : State) (c : Nat) (f : Frame) : State :=
  let x := s.chan c
  let fresh := !s.on (F.STC_CH_STATUS_VALID c) || s.on (F.STC_CH_STATUS_STALE c) || decide (f.hdr.gen.toNat ≠ x.gen)
  let d := (f.hdr.seq.toNat + 65536 - x.seq) % 65536
  if !fresh && d = 0 then s.sat (F.STC_CH_CNT3_DUP c) 1
  else if !fresh && 32768 ≤ d then s.sat (F.STC_CH_CNT3_OLD c) 1
  else
    let chk := s.on (F.STC_CH_CFG_CHK_EN c)
    let crc := s.chanCheck c (leAt f.payload 0 8) (hAlive f.hdr)
    let checked := leAt f.payload 13 1 % 2 = 1
    let s1 := if chk then s.set (F.STC_CVU_RESULT_CRC c) crc else s
    if (chk && crc != leAt f.payload 8 4) || checked != chk then
      let s2 := (s1.sat (F.STC_CH_CNT2_CHK_ERR c) 1).set (F.STC_CH_STATUS_CHK_FAIL c) 1
      let s3 := if chk && crc != leAt f.payload 8 4 then
          ((s2.set (F.STC_CVU_STATUS_LAST c) 2).sat (F.STC_CVU_CNT_MISMATCH c) 1).unitMismatch c
        else s2
      s3.irq bStc 3
    else if !chk then s1.acceptState c 0 0 f
    else
      let s2 := s1.set (F.STC_CVU_STATUS_LAST c) 1
      if fresh then s2.acceptState c 0 0 f
      else
        let delta := (hAlive f.hdr + 256 - x.alive) % 256
        let r := s2.aliveResult c delta
        let s3 := s2.unitAlive c (hAlive f.hdr) delta r
        let s4 := if r = 2 then s3.sat (F.STC_CH_CNT_REPEAT c) 1
          else if r = 3 then s3.sat (F.STC_CH_CNT_WINDOW_ERR c) 1 else s3
        s4.acceptState c r delta f

/-- A STATE frame handed to STC (spec/12 R284, R286). -/
def State.stateFrame (s : State) (entry : Nat) (f : Frame) : State :=
  let e := s.entry entry
  let c := hChannel f.hdr
  if !s.isOn .stc || !e.valid || !e.sink || e.localPort ≠ 9 then s
  else if f.payload.length ≠ 16 || c ≠ e.channel || 2 ≤ leAt f.payload 13 1 || leAt f.payload 14 2 ≠ 0 ||
      slice f.hdr.svc.toNat 0 24 ≠ 0 || !s.chanRole c 2 then
    (s.sat F.STC_FORMAT_FRAMES 1).irq bStc 5
  else s.consume c f

/-- STATE_STALE: no frame accepted for TIMEOUT × PERIOD cycles; a frame accepted in the cycle of expiry still wins, so the time has run
out once that cycle is over (spec/12 R287, R292). -/
def execStateStale (c : Fin 128) (s : State) : Step :=
  .next (s.ifBolt fun s =>
    let x := s.chan c
    if s.chanRole c 2 && !s.on (F.STC_CH_STATUS_STALE c) &&
        s.get (F.STC_CH_CFG2_TIMEOUT c) * x.period < x.age then
      ((((s.set (F.STC_CH_STATUS_STALE c) 1).sat (F.STC_CH_CNT2_STALE_EVT c) 1).suspect c).irq bStc 1).showChan c
    else s)

/-- A write to a check-value unit: a bound unit ignores it with WRITE_IGNORED; a general one acts while it is ON
(spec/12 R291). -/
def State.cvuWrite (s : State) (who : Requester) (u a : Nat) (value : Word) (act : State → State) : State :=
  s.command who a value fun s =>
    if u < 128 then s.sticky bStc 0
    else if s.isOn (.stcCvu (Fin.ofNat 144 u)) then act s
    else s

/-- Bytes fed to a unit, its RESULT shown (spec/12 R291). -/
def State.cvuBytes (s : State) (u : Nat) (bs : List Byte) : State :=
  let poly := s.get (F.STC_CVU_CFG_POLY u)
  let r := bs.foldl (cvuFeed poly) (s.bolt.stc.crcs.getD u 0)
  { s with bolt.stc.crcs := setAt s.bolt.stc.crcs u r }.set (F.STC_CVU_RESULT_CRC u) (cvuResult poly r)

/-- The register of a unit reset to the initial value. -/
def State.cvuRestart (s : State) (u : Nat) : State :=
  ({ s with bolt.stc.crcs := setAt s.bolt.stc.crcs u (cvuInit (s.get (F.STC_CVU_CFG_POLY u))) }).cvuBytes u []

/-- RESULT compared with EXPECT (spec/12 R291). -/
def State.cvuCompare (s : State) (u : Nat) : State :=
  if s.get (F.STC_CVU_RESULT_CRC u) = s.get (F.STC_CVU_EXPECT_CRC u) then s.set (F.STC_CVU_STATUS_LAST u) 1
  else (((s.set (F.STC_CVU_STATUS_LAST u) 2).sat (F.STC_CVU_CNT_MISMATCH u) 1).unitMismatch u).irq bStc 3

/-- A write of STC_CVUu_CMD: START, then a fed byte, then COMPARE (spec/12 R291, R292). -/
def State.cvuCmd (s : State) (who : Requester) (u : Nat) (value : Word) : State :=
  s.cvuWrite who u (R.STC_CVU_CMD u) value fun s =>
    let s1 := if getBits value 9 1 = 1 then s.cvuRestart u else s
    let s2 := if getBits value 8 1 = 1 then s1.cvuBytes u [value.extractLsb' 0 8] else s1
    if getBits value 10 1 = 1 then s2.cvuCompare u else s2

/-- CVU_DATA: four bytes, least significant first (spec/12 R291). -/
def execCvuData (who : Requester) (u : Fin 144) (value : Word) (s : State) : Step :=
  .next (s.cvuWrite who u (R.STC_CVU_DATA u) value fun s => s.cvuBytes u (leBytes 4 value.toNat))

/-- FEED_BYTE (spec/12 R291). -/
def execCvuFeedByte (who : Requester) (u : Fin 144) (value : Word) (s : State) : Step :=
  .next (s.cvuCmd who u (value ||| 0x100))

/-- START (spec/12 R291). -/
def execCvuStart (who : Requester) (u : Fin 144) (value : Word) (s : State) : Step :=
  .next (s.cvuCmd who u (value ||| 0x200))

/-- COMPARE (spec/12 R291). -/
def execCvuCompare (who : Requester) (u : Fin 144) (value : Word) (s : State) : Step :=
  .next (s.cvuCmd who u (value ||| 0x400))

/-- CVU_ALIVE: the alive test on the written value, modulo 2^W (spec/12 R290, R291). -/
def execCvuAlive (who : Requester) (u : Fin 144) (value : Word) (s : State) : Step :=
  .next (s.cvuWrite who u (R.STC_CVU_ALIVE u) value fun s =>
    let m := if s.on (F.STC_CVU_CFG_ALIVE_W u) then 256 else 16
    let v := getBits value 0 8 % m
    let d := (v + m - s.get (F.STC_CVU_ALIVE_LAST u) % m) % m
    s.unitAlive u v d (s.aliveResult u d))

/-- Why an entry with LOCAL_PORT P9 does not bind (spec/12 R283, R293). -/
def State.stateBinding (s : State) (i : Nat) (e : Entry) : Option Nat :=
  let c := e.channel
  if e.service ≠ svState then some 0x14
  else if slice e.binding 7 9 ≠ 0 then some 0x02
  else if e.source && s.get (F.STC_CH_CFG_ROLE c) ≠ 1 then some 0x13
  else if e.sink && s.get (F.STC_CH_CFG_ROLE c) ≠ 2 then some 0x13
  else if (s.stateEntries fun x => x.channel = c && ((x.source && e.source) || (x.sink && e.sink))).any fun j => j ≠ i then
    some 0x13
  else none

/-- The check of STC at enable: every valid entry with LOCAL_PORT P9 (spec/12 R283). -/
def State.checkStc (s : State) : Option (Nat × Nat) :=
  if s.get ⟨R.STC_CTRL, 1, 31⟩ ≠ 0 then some (0x02, 0xFFFF)
  else (s.validEntries.filter fun ie => ie.2.localPort = 9).findSome? fun ie =>
    (s.stateBinding ie.1 ie.2).map fun r => (r, ie.1)

/-- The check of a bound unit's CFG with its channel, and of a general unit (spec/12 R290, R293). -/
def State.checkCvu (s : State) (u : Nat) : Option Nat :=
  let w := s.on (F.STC_CVU_CFG_ALIVE_W u)
  let m := s.get (F.STC_CVU_CFG_MAXDELTA u)
  if s.get ⟨R.STC_CVU_CFG u, 11, 21⟩ ≠ 0 then some 0x02
  else if u < 128 && !w then some 0x11
  else if m = 0 then some 0x01
  else if !w && 15 < m then some 0x12
  else none

/-- The check of a channel at enable (spec/12 R285, R289, R293). -/
def State.checkChan (s : State) (c : Nat) : Option (Nat × Nat) :=
  let role := s.get (F.STC_CH_CFG_ROLE c)
  let src := s.get (F.STC_CH_CFG_SRC c)
  if s.get ⟨R.STC_CH_CTRL c, 1, 31⟩ ≠ 0 ∨ s.get ⟨R.STC_CH_CFG c, 30, 2⟩ ≠ 0 ∨ s.get ⟨R.STC_CH_CFG2 c, 24, 8⟩ ≠ 0 then
    some (0x02, 0xFFFF)
  else if role = 3 ∨ src = 3 then some (0x01, 0xFFFF)
  else if role = 1 ∧ (s.get (F.STC_CH_CFG_PROD_PERIOD c) = 0 ∨ s.get (F.STC_CH_CFG_CONS_PERIOD c) = 0) then some (0x01, 0xFFFF)
  else if role = 1 ∧ s.sendPeriod c ≤ s.get (F.STC_CH_CFG_PHASE c) then some (0x10, 0xFFFF)
  else if role = 2 ∧ s.get (F.STC_CH_CFG2_TIMEOUT c) = 0 then some (0x01, 0xFFFF)
  else if role = 1 ∧ src = 2 ∧ !(List.range 3).any (fun q => s.qmode q = 1) then some (0x15, 0xFFFF)
  else if s.on (F.STC_CH_CFG_CHK_EN c) then (s.checkCvu c).map fun r => (r, c)
  else none

/-- A channel goes ON: its alive counter starts at 0 and a consumer holds nothing; its unit is in use with CHK_EN
(spec/12 R285, R287, R289). -/
def State.chanOn (s : State) (c : Nat) : State :=
  let v := (s.rd (R.STC_CH_VALUE_LO c)).toNat + 2 ^ 32 * (s.rd (R.STC_CH_VALUE_HI c)).toNat
  let x : Channel := if s.get (F.STC_CH_CFG_ROLE c) = 1 && s.get (F.STC_CH_CFG_SRC c) = 0 then
    { Channel.reset with value := v } else Channel.reset
  let s1 := (s.setChan c x).sets [(F.STC_CH_STATUS_VALID c, 0), (F.STC_CH_STATUS_STALE c, 0), (F.STC_CH_STATUS_FROZEN c, 0),
    (F.STC_CH_STATUS_CHK_FAIL c, 0)]
  (if s1.on (F.STC_CH_CFG_CHK_EN c) then s1.sets [(F.STC_CVU_CTRL_ENABLE c, 1), (F.STC_CVU_STATUS_STATE c, 2)] else s1).showChan c

/-- A channel goes OFF: its unit is free again; no further sends (spec/12 R292). -/
def State.chanOff (s : State) (c : Nat) : State :=
  s.sets [(F.STC_CVU_CTRL_ENABLE c, 0), (F.STC_CVU_STATUS_STATE c, 0)]

end Sys2Proof.Machine
end

