-- ==== Sys2Proof/Machine/Tones.lean ====
section
/-! DEFINITION. The tones and the filter of the audio engine in whole numbers (spec/11 R276 to R278): sines by phase, levels in
tenths of a dB, and the Goertzel magnitude. -/

namespace Sys2Proof.Machine

/-- A quotient whose rounding the spec does not state: exact where it is whole, else rounded either way (assumption log
18). -/
def roundOpen (num : Int) (den : Nat) : Int :=
  if num % den = 0 then num / den else num / den + (if Config.roundUp num den then 1 else 0)

/-- A quarter turn in radians, times 2^60. -/
def quarterRadians : Int := 1811004768519550721

/-- The sine of an angle of at most a quarter turn, both times 2^60, by its power series. -/
def sineSeries (x : Int) : Int :=
  ((List.range 14).foldl (fun (acc : Int × Int) k =>
    (acc.1 + acc.2, -(acc.2 * x / 2 ^ 60 * x / 2 ^ 60) / ((2 * k + 2) * (2 * k + 3) : Nat))) (0, x)).1

/-- The sine, times 2^60, of a phase in units of 2^-48 turn. -/
def sineOf (phase : Nat) : Int :=
  let q := phase / 2 ^ 46 % 4
  let r := phase % 2 ^ 46
  let a : Nat := if q % 2 = 0 then r else 2 ^ 46 - r
  let y := sineSeries (a * quarterRadians / 2 ^ 46)
  if q < 2 then y else -y

/-- The cosine, likewise. -/
def cosineOf (phase : Nat) : Int := sineOf (phase + 2 ^ 46)

/-- The largest number of `k` bits that a downward closed test accepts. -/
def largest (k : Nat) (ok : Nat → Bool) : Nat :=
  (List.range k).reverse.foldl (fun r b => if ok (r + 2 ^ b) then r + 2 ^ b else r) 0

/-- The peak of a level of −`att`/10 dBFS in units of 2^-35: p / 2^35 ≤ 10^(−att/200) (spec/11 R276, R277). -/
def peakOf (att : Nat) : Nat := largest 36 fun p => decide (p ^ 200 * 10 ^ att ≤ 2 ^ 7000)

/-- The step of a 32-bit phase accumulator for a frequency in Hz (spec/11 R276). -/
def phaseStep (f rate : Nat) : Nat := (roundOpen (f * 2 ^ 32 : Nat) rate).toNat

/-- A sine of a peak at a 32-bit phase. -/
def sineSample (peak : Int) (phase : Nat) : Int := roundOpen (peak * sineOf (phase % 2 ^ 32 * 2 ^ 16)) (2 ^ 60)

/-- A generator's signal before its cadence at sample index `n` (spec/11 R276).  The phase at index 0 and the noises within their
peak are free values (assumption log 18). -/
def genRaw (kind f att rate n : Nat) : Int :=
  let peak : Nat := peakOf att
  let phase := (Config.genPhase kind f + n * phaseStep f rate) % 2 ^ 32
  if rate < 2 * f then 0
  else match kind with
    | 1 => sineSample peak phase
    | 2 => if phase < 2 ^ 31 then peak else -peak
    | 3 => (Config.noise kind f att n % (2 * peak + 1) : Nat) - peak
    | 4 => (Config.noise kind f att n % (2 * peak + 1) : Nat) - peak
    | _ => 0

/-- The peak of a pilot of −(20 + level) dBFS, within ±0.05 dB: where in that range is a free value (spec/11 R277). -/
def pilotPeak (level : Nat) : Int :=
  (peakOf (200 + 10 * level) * (994261 + Config.pilotTrim level % 11512) / 1000000 : Nat)

/-- The Goertzel filter over the samples in index order, times 2^40: s1 and s2 at the end (spec/11 R278). -/
def goertzelRun (c : Int) (xs : List Int) : Int × Int :=
  xs.foldl (fun (p : Int × Int) x => (x * 2 ^ 40 + c * p.1 / 2 ^ 60 - p.2, p.1)) (0, 0)

/-- 2 sqrt(P) / M of a filter's end (spec/11 R278). -/
def goertzelMag (c : Int) (p : Int × Int) (m : Nat) : Nat :=
  let pw := p.1 * p.1 + p.2 * p.2 - c * (p.1 * p.2) / 2 ^ 60
  2 * largest 128 (fun r => decide (r * r ≤ pw.toNat)) / (m * 2 ^ 40)

/-- MAG of an integration: the filter's, within 2^-24 of full scale plus 0.05 % of the reading (spec/11 R278); where in that range is
a free value (assumption log 18). -/
def detMag (f rate : Nat) (xs : List Int) : Nat :=
  let c := 2 * cosineOf (f * 2 ^ 48 / rate)
  let m := goertzelMag c (goertzelRun c xs) xs.length
  let tol := 2048 + m / 2000
  min (2 ^ 36 - 1) (m + Config.magError f rate xs % (2 * tol + 1) - tol)

end Sys2Proof.Machine
end

