-- ==== Sys2Proof/Machine/Audio.lean ====
section
/-! DEFINITION. The audio engine (spec/11): TDM ports, playout memory and concealment, the mix, generators, detectors,
packing, and the checks of AUD. -/

namespace Sys2Proof.Machine

/-- Base address of AUD. -/
abbrev bAud : Nat := 0x40900000

/-- The ring rate code of the pattern; samples per cycle; slots per TDM port; remote channels (spec/11 R256). -/
def State.rateCode (s : State) : Nat := min 2 s.bolt.pat.inForce.sampleRate
def State.samplesPer (s : State) : Nat := 6 * 2 ^ s.rateCode
def State.slotsPer (s : State) : Nat := 32 / 2 ^ s.rateCode
def State.remoteCount (s : State) : Nat := 1024 / 2 ^ s.rateCode
def State.ringRate (s : State) : Nat := 48000 * 2 ^ s.rateCode
/-- PLAYOUT_D. -/
def State.playD (s : State) : Nat := s.bolt.pat.inForce.playoutD

/-- The index, modulo 2^14, of the sample at a position of a cycle (spec/11 R258). -/
def State.sampleIx (s : State) (cyc i : Nat) : Nat := (cyc * s.samplesPer + i) % 16384

/-- A 36-bit sample as a signed number, and back with saturation (spec/11 R257). -/
def sampleInt (w : Nat) : Int := toSigned 36 w
def intSample (v : Int) : Nat := satSigned 36 v

/-- The audio engine works: AUD is ON and the hub is not in QUIET (spec/11 R281). -/
def State.audRuns (s : State) : Bool := s.isOn .aud && decide (s.get F.PWR_STATUS_STATE ≠ 2)

/-- A captured sample stored; zero is not listed. -/
def State.putInput (s : State) (n input v : Nat) : State :=
  { s with bolt.aud.inputs := putKey 0 (n * 512 + input) v s.bolt.aud.inputs }

/-- A captured sample. -/
def State.inputAt (s : State) (n input : Nat) : Nat := getKey 0 (n * 512 + input) s.bolt.aud.inputs

/-- The input slots of a frame captured as sample `n` (spec/11 R257, R260). -/
def State.capture (s : State) (t n : Nat) (data : List (BitVec 36)) : State :=
  let w := s.get (F.AUD_TDM_CTRL_WIDTH t)
  let k := if s.on (F.AUD_TDM_CTRL_DIN_EN t) then s.get (F.AUD_TDM_CTRL_SLOTS t) else 0
  s.each (List.range s.slotsPer) fun slot s =>
    let v := if slot < k then ((data.getD slot 0).toNat % 2 ^ w) * 2 ^ (36 - w) else 0
    s.putInput n (t * s.slotsPer + slot) v

/-- An output sample as a slot of width W: dither from free values, rounding, saturation (spec/11 R257). -/
def State.slotValue (s : State) (o w x : Nat) : State × Nat :=
  if 36 ≤ w then (s, x)
  else
    let sh := 36 - w
    let h : Int := (2 ^ (sh - 1) : Nat)
    let dith := s.on (F.AUD_OUT_DITHER o)
    let d : Int := if dith then ((s.fresh % 2 ^ sh : Nat) : Int) - h + (((s.used).fresh % 2 ^ sh : Nat) : Int) - h else 0
    let s1 := if dith then s.used.used else s
    (s1, satSigned w ((sampleInt x + d + h) / (2 ^ sh : Nat)))

/-- FSYNC is high in a bit period of a frame of `n` bit periods, bit 0 being the first of slot 0 (spec/11 R260). -/
def fsyncHigh (mode n b : Nat) : Bool :=
  match mode with
  | 0 => decide (b + 1 = n)
  | 1 => decide (b = 0)
  | _ => decide ((b + 1) % n < n / 2)

/-- A port's frame on its balls by bit period: each slot most significant bit first, slot 0 first, on DOUT; FSYNC beside it where the
port is master (spec/11 R260). -/
def State.tdmWire (s : State) (t : Nat) (slots : List (Option Nat)) : State :=
  let w := s.get (F.AUD_TDM_CTRL_WIDTH t)
  let bits := slots.flatMap fun x => match x with
    | some v => (msbBits w v).map some
    | none => List.replicate w none
  let n := bits.length
  let sync (b : Nat) : Option Bool :=
    if s.on (F.AUD_TDM_CTRL_MASTER t) then some (fsyncHigh (s.get (F.AUD_TDM_CTRL_FSYNC_MODE t)) n b) else none
  s.emit (.tdm t (s.on (F.AUD_TDM_CTRL_BCLK_INV t)) ((List.range n).map fun b => (sync b, bits.getD b none)))

/-- The output slots of a port for sample `n`; with DOUT_EN 0 DOUT is not driven (spec/11 R260). -/
def State.playFrame (s : State) (t n : Nat) : State :=
  let w := s.get (F.AUD_TDM_CTRL_WIDTH t)
  let k := s.get (F.AUD_TDM_CTRL_SLOTS t)
  let step (acc : State × List (Option Nat)) (slot : Nat) : State × List (Option Nat) :=
    let o := t * s.slotsPer + slot
    let s := acc.1
    if s.on (F.AUD_OUT_TDM_EN o) && !s.on (F.AUD_OUT_MODE o) then
      let (s1, v) := s.slotValue o w (getKey 0 (n * 512 + o) s.bolt.aud.plays)
      (s1, acc.2 ++ [some v])
    else (s, acc.2 ++ [if s.on (F.AUD_TDM_CTRL_DOUT_HIZ t) then none else some 0])
  if s.on (F.AUD_TDM_CTRL_DOUT_EN t) then
    let (s1, l) := (List.range k).foldl step (s, [])
    s1.tdmWire t l
  else s.tdmWire t (List.replicate k none)

/-- TDM_MASTER_FRAME (spec/11 R260, R261). -/
def execTdmMasterFrame (t : Fin 16) (i : Fin 24) (data : List (BitVec 36)) (s : State) : Step :=
  .next (s.ifBolt fun s =>
    if s.audRuns && s.isOn (.audTdm t) && s.on (F.AUD_TDM_CTRL_MASTER t) && decide (i.val < s.samplesPer) then
      let n := s.sampleIx s.cycle i
      (s.playFrame t n).capture t n data
    else s)

/-- The next trio fed by a port's inputs, from the sample at an index on, carries GAP_BEFORE (spec/11 R263). -/
def State.tdmGap (s : State) (t n : Nat) : State := { s with bolt.aud.slips := s.bolt.aud.slips ++ [(t, n % 16384)] }

/-- A slip of a slave port, after which sample `n` does not follow without a break (spec/11 R263). -/
def State.tdmSlip (s : State) (t n : Nat) : State :=
  let s1 := { s.tdmGap t n with bolt.aud.runs := setAt s.bolt.aud.runs t 0 }
  ((s1.set (F.AUD_TDM_STATUS_CLOCK t) 2).sat (F.AUD_TDM_CNT_SLIP t) 1).irq bAud 1

/-- An index without a frame: each input of the port repeats its previous sample (spec/11 R263). -/
def State.tdmRepeat (s : State) (t n : Nat) : State :=
  (s.each (List.range s.slotsPer) fun slot s =>
    let i := t * s.slotsPer + slot
    s.putInput n i (s.inputAt ((n + 16383) % 16384) i)).tdmSlip t n

/-- TDM_FSYNC: the frame is assigned the index whose period its FSYNC edge lies in; a second frame of an index sends its output
sample and its inputs are discarded (spec/11 R262, R263).  After a loss the trio that the silence begins in and the first one after it
carry GAP_BEFORE (R259, R263). -/
def execTdmFsync (t : Fin 16) (e : BitVec 72) (data : List (BitVec 36)) (s : State) : Step :=
  .next (s.ifBolt fun s =>
    if s.audRuns && s.isOn (.audTdm t) && !s.on (F.AUD_TDM_CTRL_MASTER t) then
      let k := e.toNat / 32000000
      let i := e.toNat % 32000000 * s.samplesPer / 32000000
      let n := s.sampleIx k i
      let follow (s : State) (run : Nat) : State :=
        let s1 := { s with bolt.aud := { s.bolt.aud with
          expect := setAt s.bolt.aud.expect t.val (some ((n + 1) % 16384)), runs := setAt s.bolt.aud.runs t.val run } }
        let s2 := if 16 ≤ run then s1.set (F.AUD_TDM_STATUS_CLOCK t) 1 else s1
        (s2.playFrame t n).capture t n data
      match s.bolt.aud.expect.getD t.val none with
      | none => follow (if s.get (F.AUD_TDM_STATUS_CLOCK t) = 3 then s.tdmGap t n else s) 0
      | some x =>
        let ahead := (n + 16384 - x) % 16384
        if ahead = 0 then follow s (min 16 (s.bolt.aud.runs.getD t.val 0 + 1))
        else if ahead = 16383 then (s.playFrame t n).tdmSlip t (n + 1)
        else if ahead < 8192 then
          follow (s.each ((List.range (min ahead 4)).map fun j => (x + j) % 16384) fun m s => s.tdmRepeat t m) 0
        else follow (s.tdmSlip t n) 0
    else s)

/-- TDM_LOST: inputs read 0 until frames come again (spec/11 R263). -/
def execTdmLost (t : Fin 16) (s : State) : Step :=
  .next (s.ifBolt fun s =>
    if s.audRuns && s.isOn (.audTdm t) && !s.on (F.AUD_TDM_CTRL_MASTER t) && s.get (F.AUD_TDM_STATUS_CLOCK t) ≠ 3 then
      let n := (s.bolt.aud.expect.getD t.val none).getD (s.sampleIx s.cycle 0)
      let s1 := { s.tdmGap t.val n with
        bolt.aud.expect := setAt s.bolt.aud.expect t.val none
        bolt.aud.runs := setAt s.bolt.aud.runs t.val 0 }
      ((s1.set (F.AUD_TDM_STATUS_CLOCK t) 3).sat (F.AUD_TDM_CNT_LOST t) 1).irq bAud 2
    else s)

/-- A remote channel's state, and it stored. -/
def State.remote (s : State) (c : Nat) : Remote := getKey Remote.reset c s.bolt.aud.remotes
def State.setRemote (s : State) (c : Nat) (x : Remote) : State :=
  { s with bolt.aud.remotes := putKey Remote.reset c x s.bolt.aud.remotes }

/-- FIRST and COUNT of an audio entry's BINDING (spec/11 R267). -/
def Entry.bundleFirst (e : Entry) : Nat := slice e.binding 0 10
def Entry.bundleCount (e : Entry) : Nat := slice e.binding 10 6 + 1

/-- The key of a trio in the playout memory (spec/11 R268). -/
def trioKey (ch pcycle j : Nat) : Nat := (ch * 32 + pcycle % 32) * 8 + j

/-- Fields of a trio (spec/11 R259). -/
def trioIndex (w : Nat) : Nat := slice w 6 14
def trioOrigin (w : Nat) : Nat := slice w 4 2
def trioGap (w : Nat) : Bool := bit w 2
def trioValid (w : Nat) : Nat := slice w 0 2
def trioSample (w q : Nat) : Nat := slice w (92 - 36 * q) 36

/-- One trio of a received frame stored, or discarded by INDEX or as the duplicate copy (spec/11 R268 to R270). -/
def State.storeTrio (s : State) (ch pc j path w : Nat) : State :=
  let cyc := (pc + 2 ^ 32 - s.playD) % 2 ^ 32
  if trioIndex w ≠ s.sampleIx cyc (3 * j) then s.sat F.AUD_LATE_INDEX_ERR 1
  else
    let k := trioKey ch pc j
    let old := getKey 0 k s.bolt.aud.trios
    if old ≠ 0 && trioIndex old = trioIndex w then s
    else
      let w' := w - trioOrigin w * 16 + (1 + path) * 16
      let x := s.remote ch
      let partLate := match x.lastRead with
        | some (c, i) => later c pc || (c = pc && decide (3 * j ≤ i))
        | none => false
      let n := x.fromPath.getD path 0
      let s1 := { s with bolt.aud.trios := putKey 0 k w' s.bolt.aud.trios }.setRemote ch
        { x with fromPath := setAt x.fromPath path ((n + 1) % 65536) }
      if partLate then s1.sat F.AUD_LATE_PART_LATE 1 else s1

/-- AUD_FRAME_RX (spec/11 R266 to R269, R281). -/
def execAudFrameRx (entry : Fin 1024) (f : Frame) (s : State) : Step :=
  .next (s.ifBolt fun s =>
    let e := s.entryGen entry f.hdr.gen.toNat
    let c := e.bundleCount
    let t := s.samplesPer / 3
    let pc := hPcycle f.hdr
    let ahead := (pc + 2 ^ 32 - s.cycle) % 2 ^ 32
    if !s.audRuns || !e.valid || !e.sink || e.localPort ≠ 8 then s
    else if ahead = 0 || 64 ≤ ahead then (s.streamSink entry.val f.hdr).1
    else if f.payload.length ≠ 16 * c * t || slice (hStreamAdapter f.hdr) 1 6 + 1 ≠ c then
      (s.sat F.AUD_FORMAT_FRAMES 1).irq bAud 7
    else if 32 ≤ ahead then s.count 3152 1
    else s.each (List.range t) fun j s => s.each (List.range c) fun b s =>
      s.storeTrio (e.bundleFirst + b) pc j (b2n f.hdr.path) (ofBe (bytesAt f.payload (16 * (j * c + b)) 16)))

/-- The next value of the concealment signal (spec/11 R271). -/
def State.decayed (s : State) (x : Remote) (v : Int) : Int :=
  let d := s.get F.AUD_MIX_CFG_DECAY_SHIFT
  if x.decay then roundOpen (v * ((2 ^ d : Nat) - 1 : Int)) (2 ^ d) else 0

/-- The value that a remote channel gives for sample `q` of a trio: the sample, crossfaded from what hid the gap before it, or
the concealment signal (spec/11 R269 to R271). -/
def State.remoteStep (s : State) (x : Remote) (w q : Nat) (good : Bool) : Int × Remote :=
  let full : Nat := 2 ^ s.get F.AUD_MIX_CFG_RAMP_SHIFT
  if good then
    let v := sampleInt (trioSample w q)
    let start := x.missing || (q = 0 && trioGap w)
    let x1 := if start then { x with fade := 1, under := x.prev } else x
    if x1.fade = 0 then (v, { x1 with missing := false, origin := trioOrigin w })
    else
      let u := s.decayed x1 x1.under
      let m := roundOpen (v * x1.fade + u * ((full : Int) - x1.fade)) full
      (m, { x1 with under := u, fade := if full ≤ x1.fade then 0 else x1.fade + 1, missing := false, origin := trioOrigin w })
  else
    let v := s.decayed x x.prev
    (v, { x with under := v, fade := 0, missing := true, hid := true, samples := satAdd 32 x.samples 1 })

/-- MIX_READ (spec/11 R270, R271). -/
def execMixRead (ch : Fin 1024) (cyc : BitVec 32) (i : Fin 24) (bad : Bool) (s : State) : Step :=
  .next (s.ifBolt fun s =>
    if !s.audRuns || s.remoteCount ≤ ch.val || s.samplesPer ≤ i.val then s
    else
      let pc := cyc.toNat
      let j := i.val / 3
      let q := i.val % 3
      let k := trioKey ch pc j
      let w := getKey 0 k s.bolt.aud.trios
      let src := (pc + 2 ^ 32 - s.playD) % 2 ^ 32
      let here := decide (w ≠ 0) && decide (trioIndex w = s.sampleIx src (3 * j)) && decide (q < trioValid w)
      let x := s.remote ch
      let s0 := if here && bad then s.sat F.AUD_FORMAT_ECC 1 else s
      let (v, y) := s.remoteStep x w q (here && !bad)
      let s1 := s0.setRemote ch { y with prev := v, lastRead := some (pc, i.val) }
      let s2 := { s1 with bolt.aud.heard := putKey 0 (s.sampleIx pc i * 1024 + ch.val) (intSample v) s1.bolt.aud.heard }
      if q = 2 then { s2 with bolt.aud.trios := putKey 0 k 0 s2.bolt.aud.trios } else s2)

/-- A value saturated to a sample. -/
def intSampleInt (v : Int) : Int := sampleInt (intSample v)

/-- A generator's sample at a position of a cycle; before the cycle in which it was enabled it is silent (spec/11 R276). -/
def State.genValue (s : State) (g cyc i : Nat) : Int :=
  let raw := genRaw (s.get (F.AUD_GEN_CFG_KIND g)) (s.get (F.AUD_GEN_FREQ_FREQ g)) (s.get (F.AUD_GEN_CFG_ATT g)) s.ringRate
    (cyc * s.samplesPer + i)
  let on := s.get (F.AUD_GEN_CADENCE_ON_CYCLES g)
  let off := s.get (F.AUD_GEN_CADENCE_OFF_CYCLES g)
  match s.bolt.aud.genSince.getD g none with
  | none => 0
  | some since =>
    if later since cyc then 0
    else if off = 0 then intSampleInt raw
    else
      let p := (cyc + 2 ^ 32 - since) % 2 ^ 32 % (on + off)
      let full : Nat := 2 ^ s.get F.AUD_MIX_CFG_RAMP_SHIFT
      let reached := min full (on * s.samplesPer)
      let level := if p < on then min full (p * s.samplesPer + i + 1)
        else reached - min reached ((p - on) * s.samplesPer + i + 1)
      intSampleInt (roundOpen (raw * level) full)

/-- The generators whose KIND has left or reached silence: the cycle of enabling (spec/11 R276). -/
def State.genReview (s : State) : State :=
  { s with bolt.aud.genSince := (List.range 64).map fun g : Nat =>
      if s.get (F.AUD_GEN_CFG_KIND g) = 0 then none else some ((s.bolt.aud.genSince.getD g none).getD s.cycle) }

/-- A source's sample on a timeline: capture cycle `cyc`, position `i`, and the playout index of remote channels, which
the SEND timeline has none of (spec/11 R272, R273). -/
def State.sourceAt (s : State) (src cyc i : Nat) (play : Option Nat) : Int :=
  if src < 512 then
    if src < 16 * s.slotsPer then sampleInt (s.inputAt (s.sampleIx cyc i) src) else 0
  else if src < 1536 then
    match play with
    | some n => if src - 512 < s.remoteCount then sampleInt (getKey 0 (n * 1024 + (src - 512)) s.bolt.aud.heard) else 0
    | none => 0
  else if src < 1600 then s.genValue (src - 1536) cyc i
  else 0

/-- The present value of a ramp. -/
def Ramp.value (r : Ramp) : Int := if r.len ≤ r.pos then r.goal else roundOpen (r.frm * (r.len - r.pos) + r.goal * r.pos) r.len

/-- One sample of a gain ramp towards a target; a change starts from the gain reached, and a gain never used before has no
ramp (spec/11 R273; assumption log 18). -/
def State.rampTo (s : State) (key : Nat) (target : Int) : State × Int :=
  let full : Nat := 2 ^ s.get F.AUD_MIX_CFG_RAMP_SHIFT
  let r := match lookupKey key s.bolt.aud.ramps with
    | none => ⟨target, target, 1, 1⟩
    | some r =>
      let r1 : Ramp := if r.goal = target then r else ⟨r.value, target, 0, full⟩
      { r1 with pos := min r1.len (r1.pos + 1) }
  ({ s with bolt.aud.ramps := insertKey key r s.bolt.aud.ramps }, r.value)

/-- A value saturated to ±2^(w−1) and whether it saturated. -/
def satTo (w : Nat) (v : Int) : Int × Nat :=
  let m : Int := (2 ^ (w - 1) : Nat)
  if v < -m then (-m, 1) else if m - 1 < v then (m - 1, 1) else (v, 0)

/-- The highest active layer of an output (spec/11 R275). -/
def State.winner (s : State) (o : Nat) : Option Nat := [3, 2, 1, 0].find? fun l => s.on (F.AUD_LAYER_ACTIVE o l)

/-- The terms of an output summed into its layers (spec/11 R273 steps 1 and 2): the sums, saturations, bad terms. -/
def State.mixTerms (s : State) (o cyc i : Nat) (play : Option Nat) : State × List Int × Nat × Nat :=
  (List.range 8).foldl (fun acc u =>
    let (s, sums, clips, bad) := acc
    if !s.on (F.AUD_TERM_EN o u) then acc
    else
      let src := s.get (F.AUD_TERM_SOURCE o u)
      let l := s.get (F.AUD_TERM_LAYER o u)
      let g := if s.on (F.AUD_TERM_GAIN_STC o u) then s.presented (s.get (F.AUD_TERM_STC_CH o u)) % 2 ^ 24
        else s.get (F.AUD_GAIN_GAIN o u)
      let (s1, gain) := s.rampTo (o * 8 + u) (toSigned 24 g)
      let wrong := play.isNone && decide (512 ≤ src ∧ src < 1536)
      let x := s1.sourceAt src cyc i play
      let (v, c) := satTo 48 (sums.getD l 0 + (x * gain + 2048) / 4096)
      (s1, setAt sums l v, clips + c, bad + b2n wrong)) (s, [0, 0, 0, 0], 0, 0)

/-- One layer added to an output's sum under its duck ramp, while layer `win` wins (spec/11 R274, R275). -/
def State.mixLayer (s : State) (o : Nat) (win : Option Nat) (sums : List Int) (l : Nat) (y : Int) (c : Nat) : State × Int × Nat :=
  let sum := sums.getD l 0
  let top := max (getKey 0 (o * 4 + l) s.bolt.aud.levels) sum.natAbs
  let target : Int := match win with
    | some w => if w ≤ l then 2 ^ 20 else toSigned 24 (s.get (F.AUD_OUT_DUCK o))
    | none => 2 ^ 20
  let r := { s with bolt.aud.levels := putKey 0 (o * 4 + l) top s.bolt.aud.levels }.rampTo (4096 + o * 4 + l) target
  let v := satTo 48 (y + (sum * r.2 + 2 ^ 19) / (2 ^ 20 : Nat))
  (r.1, v.1, c + v.2)

/-- The layers of one output summed in order. -/
def State.mixLayers (s : State) (o : Nat) (sums : List Int) : State × Int × Nat :=
  (List.range 4).foldl (fun acc l => acc.1.mixLayer o (s.winner o) sums l acc.2.1 acc.2.2) (s, 0, 0)

/-- Saturations and terms without a sample counted for an output. -/
def State.mixCounts (s : State) (o clips bad : Nat) : State :=
  let s3 := if clips = 0 then s else
    ({ s with bolt.aud.clips := putKey 0 o (satAdd 32 (getKey 0 o s.bolt.aud.clips) clips) s.bolt.aud.clips }.sat
      F.AUD_MIX_STAT_CLIP clips).irq bAud 5
  if bad = 0 then s3 else (s3.sat F.AUD_MIX_STAT_BAD_TERM bad).irq bAud 6

/-- An output's pilot at its next sample: the phase runs on from sample to sample while the pilot stays enabled, from a start that the
spec leaves open (spec/11 R277; assumption log 18). -/
def State.pilot (s : State) (o : Nat) : State × Int :=
  let old := lookupKey o s.bolt.aud.pilots
  if !s.on (F.AUD_PILOT_EN o) then (if old.isNone then s else { s with bolt.aud.pilots := eraseKey o s.bolt.aud.pilots }, 0)
  else
    let s0 := if old.isNone then s.used else s
    let ph := old.getD (s.fresh % 2 ^ 32)
    let next := (ph + phaseStep (18000 + s.get (F.AUD_PILOT_FREQ o)) s.ringRate) % 2 ^ 32
    ({ s0 with bolt.aud.pilots := insertKey o next s0.bolt.aud.pilots }, sineSample (pilotPeak (s.get (F.AUD_PILOT_LEVEL o))) ph)

/-- One sample of one output (spec/11 R273 to R275, R277). -/
def State.mixOutput (s : State) (o cyc i : Nat) (play : Option Nat) : State × Nat :=
  let (s1, sums, c1, bad) := s.mixTerms o cyc i play
  let (s2, y, c2) := s1.mixLayers o sums
  let (s3, pilot) := s2.pilot o
  let r3 := satTo 48 (y + pilot * 256)
  let r4 := satTo 36 ((r3.1 + 128) / 256)
  (s3.mixCounts o (c1 + c2 + r3.2 + r4.2) bad, ofSigned 36 r4.1)

/-- The detectors take a sample each, on the PLAY timeline (assumption log 19). -/
def State.feedDets (s : State) (cyc i n : Nat) : State :=
  let feed (x : Detector) : Detector := match x.cfg with
    | some (c, m) =>
      if x.xs.length < m * s.samplesPer then { x with xs := s.sourceAt (slice c 0 11) cyc i (some n) :: x.xs } else x
    | none => x
  { s with bolt.aud.dets := s.bolt.aud.dets.map feed }

/-- The ports whose inputs feed an output through an enabled term. -/
def State.feeders (s : State) (o : Nat) : List Nat :=
  ((List.range 8).filter fun u => s.on (F.AUD_TERM_EN o u) && decide (s.get (F.AUD_TERM_SOURCE o u) < 16 * s.slotsPer)).map
    fun u => s.get (F.AUD_TERM_SOURCE o u) / s.slotsPer

/-- A port's inputs are silenced: a slave clock lost and not yet back, or USB audio while the seam is down (spec/11 R263, R280). -/
def State.silenced (s : State) (t : Nat) : Bool :=
  (decide (s.get (F.AUD_TDM_STATUS_CLOCK t) = 3) && (s.bolt.aud.expect.getD t none).isNone) ||
    (t = 15 && s.on F.AUD_CTRL_USB_PORT && !s.seamUp)

/-- MIX_SAMPLE (spec/11 R264, R265, R273).  A sample of a SEND output is kept with a bit 36 that says that an input of it was
concealed. -/
def execMixSample (i : Fin 24) (send : Bool) (s : State) : Step :=
  .next (s.ifBolt fun s =>
    if !s.audRuns || s.samplesPer ≤ i.val then s
    else
      let s0 := s.genReview
      let n := s0.sampleIx s0.cycle i
      let cyc := if send then s0.cycle else (s0.cycle + 2 ^ 32 - s0.playD) % 2 ^ 32
      let s1 := if send then s0 else s0.feedDets cyc i n
      s1.each (List.range (16 * s1.slotsPer)) fun o s =>
        if s.on (F.AUD_OUT_MODE o) != send then s
        else
          let (s', v) := s.mixOutput o cyc i (if send then none else some n)
          if send then
            let w := v + 2 ^ 36 * b2n ((s.feeders o).any fun t => s.silenced t)
            { s' with bolt.aud.sends := putKey 0 (n * 512 + o) w s'.bolt.aud.sends }
          else { s' with bolt.aud.plays := putKey 0 (n * 512 + o) v s'.bolt.aud.plays })

/-- DET_INTEGRATION_END (spec/11 R278, R279). -/
def execDetIntegrationEnd (d : Fin 64) (s : State) : Step :=
  .next (s.ifBolt fun s =>
    let x := s.bolt.aud.dets.getD d.val Detector.reset
    match x.cfg with
    | none => s
    | some (c, m) =>
      if !s.audRuns || x.done < m then s
      else
        let mag := detMag (slice c 12 17) s.ringRate x.xs.reverse
        let t := mag / 16
        let cls := if t < s.get (F.AUD_DET_THR_LOW_THR d) then 2 else if s.get (F.AUD_DET_THR_HIGH_THR d) < t then 3 else 1
        let agree := if cls = x.cls then min 15 (x.agree + 1) else 1
        let s1 := { s with bolt.aud.dets := setAt s.bolt.aud.dets d.val { x with xs := [], done := 0, cls := cls, agree := agree } }
        let s2 := s1.sets [(F.AUD_DET_MAG_LO_MAG d, mag), (F.AUD_DET_MAG_HI_MAG d, mag / 2 ^ 32),
          (F.AUD_DET_CYCLE_CYCLE d, (s.cycle + 2 ^ 32 - 1) % 2 ^ 32)]
        if s.get (F.AUD_DET_CFG2_CONFIRM d) ≤ agree && s.get (F.AUD_DET_STATUS_RESULT d) ≠ cls then
          let f := if d.val < 32 then F.AUD_DET_LOW_LO_LOW else F.AUD_DET_LOW_HI_LOW
          let s3 := s2.set (F.AUD_DET_STATUS_RESULT d) cls
          ((if cls = 2 then s3.setB f (d.val % 32) else s3.clrB f (d.val % 32))).irq bAud 4
        else s2)

/-- One trio of a SEND output for cycle `k` (spec/11 R259, R265). -/
def State.packTrio (s : State) (k j o : Nat) (first : Bool) : Nat :=
  let n := s.sampleIx k (3 * j)
  let x (q : Nat) : Nat := getKey 0 ((n + q) % 16384 * 512 + o) s.bolt.aud.sends
  let fs := s.feeders o
  let gap := first || s.bolt.aud.slips.any fun p => fs.contains p.1 && decide ((n + 16384 - p.2) % 16384 < 3)
  let hid := (List.range 3).any fun q => bit (x q) 36
  slice (x 0) 0 36 * 2 ^ 92 + slice (x 1) 0 36 * 2 ^ 56 + slice (x 2) 0 36 * 2 ^ 20 + n * 64 + b2n hid * 8 + b2n gap * 4 + 3

/-- AUD_PACK: the frames of capture cycle `k` (spec/11 R265, R266). -/
def State.audPack (s : State) (k : Nat) : State :=
  let t := s.samplesPer / 3
  let es := s.validEntries.filter fun ie => ie.2.source && ie.2.localPort = 8 && ie.2.service = svStream
  s.each es fun ie s =>
    let e := ie.2
    let c := e.bundleCount
    let fresh := decide (lookupKey ie.1 s.bolt.aud.packed ≠ some e.gen)
    let payload := (List.range t).flatMap fun j => (List.range c).flatMap fun b =>
      beBytes 16 (s.packTrio k j (e.bundleFirst + b) (fresh && j = 0))
    ({ s with bolt.aud.packed := insertKey ie.1 e.gen s.bolt.aud.packed }).sourceFrame ie.1 kStream
      (svcStream (k + s.playD) ((c - 1) * 2)) payload true

/-- A layer sum has exceeded −THR dBFS (spec/11 R274): |sum| / 2^43 > 10^(−THR/20), in whole numbers. -/
def exceeds (mag thr : Nat) : Bool := decide (2 ^ 860 < mag ^ 20 * 10 ^ thr)

/-- LAYER_ACTIVITY: activity of an output's layers, from the first sample of the cycle (spec/11 R274). -/
def State.layerActivity (s : State) (o : Nat) : State :=
  s.each (List.range 4) fun l s =>
    let k := o * 4 + l
    let now := exceeds (getKey 0 k s.bolt.aud.levels) (s.get (F.AUD_LAYER_THR o l))
    let loud := (getKey 0 k s.bolt.aud.loud * 2 + b2n now) % 2 ^ 16
    let used := (List.range 8).any fun u => s.on (F.AUD_TERM_EN o u) && decide (s.get (F.AUD_TERM_LAYER o u) = l)
    let on := match s.get (F.AUD_LAYER_ACT o l) with
      | 0 => true
      | 1 => decide (loud % 2 ^ (s.get (F.AUD_LAYER_HOLD o l) + 1) ≠ 0)
      | 2 => bit (s.presented (s.get (F.AUD_LAYER_STC_CH o l))) (s.get (F.AUD_LAYER_STC_BIT o l))
      | _ => s.on (F.AUD_LAYER_FORCE o l)
    ({ s with bolt.aud := { s.bolt.aud with
      loud := putKey 0 k loud s.bolt.aud.loud, levels := putKey 0 k 0 s.bolt.aud.levels } }).set (F.AUD_LAYER_ACTIVE o l)
      (b2n (used && on))

/-- The end of a cycle for the remote channels (spec/11 R271). -/
def State.concealReview (s : State) : State :=
  s.each (s.bolt.aud.remotes.map (·.1)) fun c s =>
    let x := s.remote c
    let run := if x.hid then x.run + 1 else 0
    let past := decide (s.get F.AUD_MIX_CFG_CONCEAL_ALARM ≤ run)
    let y := { x with run := min run 255, hid := false, concealing := x.hid && (x.concealing || past) }
    let s1 := s.setRemote c y
    if y.concealing && !x.concealing then s1.irq bAud 3 else s1

/-- A detector at a cycle boundary with its present settings, `more` cycles on: a change discards the integration in progress
(spec/11 R278). -/
def State.detStep (s : State) (d more : Nat) : Detector :=
  let x := s.bolt.aud.dets.getD d Detector.reset
  let want := ((s.rd (R.AUD_DET_CFG d)).toNat, s.get (F.AUD_DET_CFG2_CYCLES d))
  if !s.on (F.AUD_DET_CFG_EN d) then { x with cfg := none, xs := [], done := 0 }
  else if x.cfg = some want then { x with done := x.done + more }
  else { x with cfg := some want, xs := [], done := 0 }

/-- The detectors at a cycle boundary. -/
def State.detCycle (s : State) : State :=
  { s with bolt.aud.dets := (List.range 64).map fun d : Nat => s.detStep d 1 }

/-- A detector enabled at a cycle boundary integrates from there (spec/21 R458). -/
def State.detArm (s : State) (d : Nat) : State := { s with bolt.aud.dets := setAt s.bolt.aud.dets d (s.detStep d 0) }

/-- Samples of past cycles are given up: D + 2 cycles are kept. -/
def State.audPrune (s : State) : State :=
  let now := s.sampleIx s.cycle 0
  let span := (s.playD + 2) * s.samplesPer
  let keep (w : Nat) (l : List (Nat × Nat)) : List (Nat × Nat) :=
    l.filter fun x => decide ((now + 16384 + s.samplesPer - x.1 / w) % 16384 ≤ span)
  let a := s.bolt.aud
  { s with bolt.aud := { a with
    inputs := keep 512 a.inputs, heard := keep 1024 a.heard, plays := keep 512 a.plays, sends := []
    slips := a.slips.filter fun p => decide ((now + 16384 - p.2) % 16384 < 3 ∨ 8192 ≤ (now + 16384 - p.2) % 16384) } }

/-- The frames that a jump of ring time cut short, counted at the cycle boundary (spec/11 R281). -/
def State.resync (s : State) : State :=
  if !s.bolt.aud.cut then s
  else ({ s with bolt.aud.cut := false }).each (List.finRange 16) fun t s =>
    if s.isOn (.audTdm t) && s.on (F.AUD_TDM_CTRL_MASTER t) then s.sat (F.AUD_TDM_CNT2_RESYNC t) 1 else s

/-- The work of AUD at a cycle boundary (spec/11 R265, R271, R274, R278, R281). -/
def State.audCycle (s : State) : State :=
  if !s.isOn .aud then s
  else if !s.audRuns then { s with
    bolt.aud.packed := []
    bolt.aud.expect := List.replicate 16 none
    bolt.aud.runs := List.replicate 16 0 }
  else
    let s1 := s.resync.genReview.audPack ((s.cycle + 2 ^ 32 - 1) % 2 ^ 32)
    let s2 := s1.each (List.range (16 * s1.slotsPer)) fun o s => s.layerActivity o
    s2.concealReview.detCycle.audPrune

/-- Why an entry with LOCAL_PORT P8 does not bind (spec/11 R267, R282). -/
def State.audBinding (s : State) (i : Nat) (e : Entry) : Option Nat :=
  let lo := e.bundleFirst
  let hi := lo + e.bundleCount
  if e.service ≠ svStream then some 0x15
  else if e.sink && (s.remoteCount < hi || (s.validEntries.any fun x =>
      x.1 ≠ i && x.2.sink && x.2.localPort = 8 && x.2.bundleFirst < hi && lo < x.2.bundleFirst + x.2.bundleCount)) then
    some 0x11
  else if e.source && (16 * s.slotsPer < hi || (List.range e.bundleCount).any fun b => !s.on (F.AUD_OUT_MODE (lo + b))) then
    some 0x12
  else none

/-- The check of AUD at enable (spec/11 R267, R282); AUD_MCLK_OUT is FUNC 1 of ball AA12, index 942 (spec/23 R492). -/
def State.checkAud (s : State) : Option (Nat × Nat) :=
  let outs := List.range (16 * s.slotsPer)
  let mclk := s.bolt.pat.inForce.pins.any fun p => p.1 = 942 && p.2.1 = 1
  let reserved (o : Nat) : Bool := s.get ⟨R.AUD_OUT o, 3, 1⟩ ≠ 0 || s.get ⟨R.AUD_OUT o, 28, 4⟩ ≠ 0
  let badSend (o : Nat) : Bool := s.on (F.AUD_OUT_MODE o) && (List.range 8).any fun u =>
    let src := s.get (F.AUD_TERM_SOURCE o u)
    s.on (F.AUD_TERM_EN o u) && decide (512 ≤ src ∧ src < 1536)
  if s.get ⟨R.AUD_CTRL, 3, 29⟩ ≠ 0 then some (0x02, 0xFFFF)
  else if s.on F.AUD_CTRL_USB_PORT && s.isOn (.audTdm 15) then some (0x14, 0xFFFF)
  else if s.on F.AUD_CTRL_MCLK_OUT_EN && !mclk then some (0x03, 0xFFFF)
  else match outs.find? reserved with
    | some o => some (0x02, o)
    | none => match outs.find? badSend with
      | some o => some (0x10, o)
      | none => (s.validEntries.filter fun ie => ie.2.localPort = 8).findSome? fun ie =>
          (s.audBinding ie.1 ie.2).map fun r => (r, 0x400 + ie.1)

/-- The check of a TDM port at enable (spec/11 R260, R280, R282). -/
def State.checkTdm (s : State) (t : Nat) : Option (Nat × Nat) :=
  let w := s.get (F.AUD_TDM_CTRL_WIDTH t)
  let k := s.get (F.AUD_TDM_CTRL_SLOTS t)
  if s.get ⟨R.AUD_TDM_CTRL t, 20, 12⟩ ≠ 0 then some (0x02, 0xFFFF)
  else if !([16, 24, 32, 36].contains w) || s.get (F.AUD_TDM_CTRL_FSYNC_MODE t) = 3 || k = 0 then some (0x01, 0xFFFF)
  else if s.slotsPer < k then some (0x13, 0xFFFF)
  else if t = 15 && s.on F.AUD_CTRL_USB_PORT then some (0x14, 0xFFFF)
  else none

/-- A TDM port goes ON: a master port reads LOCKED (spec/11 R263). -/
def State.tdmOn (s : State) (t : Nat) : State :=
  let s1 := { s with bolt.aud := { s.bolt.aud with
    expect := setAt s.bolt.aud.expect t none, runs := setAt s.bolt.aud.runs t 0 } }
  s1.set (F.AUD_TDM_STATUS_CLOCK t) (s1.get (F.AUD_TDM_CTRL_MASTER t))

/-- A TDM port goes OFF: it drives nothing and its clock state reads none. -/
def State.tdmOff (s : State) (t : Nat) : State := s.set (F.AUD_TDM_STATUS_CLOCK t) 0

/-- AUD goes OFF: what it holds is given up; the CONCEAL settings stand. -/
def State.audOff (s : State) : State :=
  { s with bolt.aud := { Audio.reset with
      remotes := (s.bolt.aud.remotes.filter fun r => !r.2.decay).map fun r : Nat × Remote => (r.1, { Remote.reset with decay := false })
      clips := s.bolt.aud.clips } }

end Sys2Proof.Machine
end

