-- ==== Sys2Proof/Machine/Pcie.lean ====
section
/-! DEFINITION. The PCIe tunnelling bridge (spec/13): records, credits, ordering, open requests, the posted-write ledger,
locks, link state; and the RELIABLE rows whose outcome the bridge shares. -/

namespace Sys2Proof.Machine

/-- Base address of PCB. -/
abbrev bPcb : Nat := 0x40B00000

/-- A bridge link's state, and it stored. -/
def State.blink (s : State) (l : Nat) : BridgeLink := s.bolt.links.getD l BridgeLink.reset0
def State.setBlink (s : State) (l : Nat) (x : BridgeLink) : State := { s with bolt.links := setAt s.bolt.links l x }
def State.mapBlink (s : State) (l : Nat) (f : BridgeLink → BridgeLink) : State := s.setBlink l (f (s.blink l))

/-- The tunnel entry of a link unit; its quad; whether this is the upstream end (spec/13 R296). -/
def State.linkEntry (s : State) (l : Nat) : Nat := s.get (F.PCB_LNK_CFG_ENTRY l)
def State.linkQuad (s : State) (l : Nat) : Nat := ((s.entry (s.linkEntry l)).localPort - 2) / 2
def State.upQuad (s : State) (q : Nat) : Bool := s.on (F.PCBQ_STATUS_UPSTREAM q)

/-- A link unit is ON. -/
def State.linkOn (s : State) (l : Nat) : Bool := decide (l < 32) && s.isOn (.pcbLink (Fin.ofNat 32 l))

/-- The link units that are ON, and those of a quad. -/
def State.linksOn (s : State) : List Nat := (List.range 32).filter fun l => s.linkOn l
def State.linksOf (s : State) (q : Nat) : List Nat := s.linksOn.filter fun l => s.linkQuad l = q

/-- The tunnel of a link lives: its entry valid and not DEAD. -/
def State.linkLives (s : State) (l : Nat) : Bool :=
  let e := s.entry (s.linkEntry l)
  e.valid && !e.dead

/-- A TLP from the tunnel can be sent onto the local PCIe link (spec/13 R305, R308). -/
def State.deliverable (s : State) (l : Nat) : Bool :=
  s.on (F.PCBQ_STATUS_LINK_UP (s.linkQuad l)) && !(s.blink l).reset && !(s.blink l).disable

/-- A credit record (spec/13 R300). -/
def creditRecord (g : Nat × Nat) : Nat := g.1 % 4096 + g.2 % 2 ^ 20 * 4096

/-- The credit records of a link put where its acknowledgements take them. -/
def State.showCredits (s : State) (l : Nat) : State :=
  let gs := (s.blink l).granted.map creditRecord
  s.mapEntry (s.linkEntry l) fun e => { e with credits := gs ++ List.replicate 6 0 }

/-- 16-byte units of a TLP's data. -/
def unitsOf (t : Tlp) : Nat := (t.data + 15) / 16

/-- Credit left to send with, of a sub-channel: headers and units (spec/13 R300). -/
def creditLeft (x : BridgeLink) (sub : Nat) : Nat × Nat :=
  let f := x.far.getD sub (0, 0)
  let u := x.used.getD sub (0, 0)
  ((f.1 + 4096 - u.1 % 4096) % 4096, (f.2 + 2 ^ 20 - u.2 % 2 ^ 20) % 2 ^ 20)

/-- PCB_LNKl_CREDIT and OPEN follow the link's state. -/
def State.showLink (s : State) (l : Nat) : State :=
  let x := s.blink l
  let c := creditLeft x 0
  s.sets [(F.PCB_LNK_CREDIT_P_HDR l, c.1), (F.PCB_LNK_CREDIT_P_DATA l, c.2), (F.PCB_LNK_OPEN_TO_FAR l, x.toFar.length),
    (F.PCB_LNK_OPEN_FROM_FAR l, x.fromFar.length)]

/-- Control records that wait go while the window is open, one frame each (spec/13 R298, R299). -/
def State.flushCtl (s : State) (l : Nat) : State :=
  s.each (s.blink l).ctl fun c s =>
    if s.windowOpen (s.linkEntry l) && s.linkLives l then
      (s.mapBlink l fun x => { x with ctl := x.ctl.erase c }).sourceFrame (s.linkEntry l) kData (svcReliable 3 0) c true
    else s

/-- A control record sent: OP, three bytes, two words and an address (spec/13 R299). -/
def State.sendControl (s : State) (l op b1 b2 b3 w1 w2 a : Nat) : State :=
  let body := List.flatten [leBytes 1 op, leBytes 1 b1, leBytes 1 b2, leBytes 1 b3, leBytes 4 w1, leBytes 4 w2, leBytes 8 a]
  (s.mapBlink l fun x => { x with ctl := x.ctl ++ [List.flatten [leBytes 2 20, leBytes 1 1, leBytes 1 0, body]] }).flushCtl l

/-- The frame being packed is closed and built (spec/13 R298); it waits while the window is closed. -/
def State.closeFrame (s : State) (l : Nat) : State :=
  match (s.blink l).frame with
  | none => s
  | some (sub, bs, led) =>
    if s.windowOpen (s.linkEntry l) then
      (s.mapBlink l fun x => { x with frame := none, closed := false }).sourceFrame (s.linkEntry l) kData
        (svcReliable sub (led % 2 ^ 32 * 16)) bs true
    else s.mapBlink l fun x => { x with closed := true }

/-- A total from a record's field: it counts only where it is newer (spec/13 R300, R310). -/
def newer (width : Nat) (old new : Nat) : Nat :=
  if (new + 2 ^ width - old % 2 ^ width) % 2 ^ width < 2 ^ (width - 1) then
    old + (new + 2 ^ width - old % 2 ^ width) % 2 ^ width
  else old

/-- The grants that the far end has last been told, by a CREDIT record or by an acknowledgement (spec/13 R300). -/
def State.reported (s : State) (l sub : Nat) : Nat × Nat :=
  let t := (s.blink l).told.getD sub (0, 0)
  let r := (s.entry (s.linkEntry l)).creditsTold.getD sub 0
  (newer 12 t.1 (r % 4096), newer 20 t.2 (r / 4096))

/-- CREDIT sent with the grants as they stand (spec/13 R300). -/
def State.sendCredit (s : State) (l : Nat) : State :=
  let g := (s.blink l).granted
  (s.mapBlink l fun x => { x with told := x.granted }).sendControl l 2 0 0 0 (creditRecord (g.getD 0 (0, 0)))
    (creditRecord (g.getD 1 (0, 0))) 0

/-- The grants of a link's buffers: headers and units of sub-channels 0 and 1; a non-posted slot of 48 bytes holds a
16-byte header and two units (spec/13 R300, R311; assumption log 21). -/
def State.buffers (s : State) (l : Nat) : List (Nat × Nat) :=
  let np := s.get (F.PCB_LNK_BUF_NP_HDR l)
  [(s.get (F.PCB_LNK_BUF_P_HDR l), s.get (F.PCB_LNK_BUF_P_DATA l) * 64), (np, np * 2)]

/-- Credit granted back for a TLP sent onto the local link; a quarter of the buffer since the last report sends CREDIT
(spec/13 R300). -/
def State.grantBack (s : State) (l sub units : Nat) : State :=
  if 2 ≤ sub then s
  else
    let g := (s.blink l).granted.getD sub (0, 0)
    let g' := (g.1 + 1, g.2 + units)
    let s1 := (s.mapBlink l fun x => { x with granted := setAt x.granted sub g' }).showCredits l
    let t := s.reported l sub
    let b := (s.buffers l).getD sub (0, 0)
    if b.1 ≤ 4 * (g'.1 - t.1) || b.2 ≤ 4 * (g'.2 - t.2) then s1.sendCredit l else s1

/-- A completion made by the hub and sent onto the local link (spec/13 R303, R304). -/
def State.answerLocal (s : State) (l req tag status left : Nat) : State :=
  s.emit (.tlp (s.linkQuad l) 2 req tag true (bytesAt (Config.completion req tag status left) 0 12))

/-- A completion with Unsupported Request for the far end: it joins the queue into the tunnel (spec/13 R304). -/
def State.answerFar (s : State) (l req tag left : Nat) : State :=
  let t : Tlp := {
    kind := 2, req := BitVec.ofNat 16 req, tag := BitVec.ofNat 10 tag, addr := 0, data := 0, asks := 0, ends := true
    err := true, relaxed := false, locked := false, lockRead := false, unlock := false, bad := false, p2p := false
    ecc := false, bytes := bytesAt (Config.completion req tag 1 left) 0 12 }
  ((s.mapBlink l fun x => { x with out := x.out ++ [⟨t, false, false⟩] }).sat (F.PCB_LNK_CNT2_UR_SENT l) 1)

/-- A bridge fault record (spec/13 R304): FLT record 0x0C01, PCB_FAULT_LAST, FAULT, and the error message upstream. -/
def State.bridgeFault (s : State) (l cause first addr : Nat) : State :=
  let s1 := (s.sat F.PCB_FAULT_CNT_COUNT 1).sets [(F.PCB_FAULT_LAST_LINK, l), (F.PCB_FAULT_LAST_CAUSE, cause),
    (F.PCB_FAULT_LAST_CYCLE, s.cycle), (F.PCB_FAULT_ADDR_LO_ADDR, addr), (F.PCB_FAULT_ADDR_HI_ADDR, addr / 2 ^ 32)]
  (((s1.boltFault 0x0C 0x0C01 (l + 256 * cause) first addr).irq bPcb 5)).emit (.pcieReport l 0)

/-- A ledger entry of the sending end (spec/13 R305, R306): the table, PFAIL, LEDGER, the progress record and the fault
record. -/
def State.ledgerAdd (s : State) (l cause first count addr : Nat) : State :=
  let full := decide (64 ≤ s.bolt.ledger.length)
  let s1 := { s with bolt.ledger := ((⟨l, cause, s.cycle, first, count, addr⟩ : LedgerEntry) :: s.bolt.ledger).take 64 }
  let s2 := (if full then s1.sat F.PCB_LEDGER_STATUS_OVERWRITTEN 1 else s1).set F.PCB_LEDGER_STATUS_ENTRIES
    s1.bolt.ledger.length
  (((s2.sat (F.PCB_LNK_PFAIL_COUNT l) count).irq bPcb 4).ledgerRecord l cause first count addr).bridgeFault l cause first addr

/-- A lock ends (spec/13 R307). -/
def State.unlock (s : State) (l : Nat) : State := s.set (F.PCB_LNK_STATUS_LOCKED l) 0

/-- A lock starts. -/
def State.lockLink (s : State) (l : Nat) : State :=
  if s.on (F.PCB_LNK_STATUS_LOCKED l) then s else (s.set (F.PCB_LNK_STATUS_LOCKED l) 1).irq bPcb 6

/-- The requests this end has open are completed with Unsupported Request, and so are those waiting to leave
(spec/13 R304). -/
def State.failOpen (s : State) (l : Nat) : State :=
  let x := s.blink l
  let nps := x.out.filter fun w => w.tlp.kind = 1
  let s1 := s.each x.toFar fun r s => (s.answerLocal l r.req r.tag 1 r.left).sat (F.PCB_LNK_CNT2_UR_SENT l) 1
  let s2 := s1.each nps fun w s =>
    (s.answerLocal l w.tlp.req.toNat w.tlp.tag.toNat 1 w.tlp.asks).sat (F.PCB_LNK_CNT2_UR_SENT l) 1
  ((s2.mapBlink l fun x => { x with toFar := [], out := x.out.filter fun w => w.tlp.kind ≠ 1 }).unlock l).showLink l

/-- What a link's tunnel held is lost (spec/13 R304, R305): requests are completed with Unsupported Request, posted records not
reported become one ledger entry with CAUSE 5. -/
def State.tunnelLost (s : State) (l : Nat) : State :=
  let s2 := (s.failOpen l).mapBlink l fun x => { x with out := [], frame := none, closed := false, ctl := [], fromFar := [] }
  let d := s2.get (F.PCB_LNK_PDISP_DISPOSED l)
  let n := (s2.get (F.PCB_LNK_PSENT_NUMBER l) + 2 ^ 32 - d) % 2 ^ 32
  (if n = 0 then s2 else s2.ledgerAdd l 5 d n 0).showLink l

/-- The downstream port no longer shows its far link up: a hot-plug event (spec/13 R308). -/
def State.farGone (s : State) (l : Nat) : State :=
  let s1 := s.set (F.PCB_LNK_STATUS_FAR_UP l) 0
  if s.on (F.PCB_LNK_STATUS_FAR_UP l) then s1.emit (.pcieReport l 2) else s1

/-- The tunnel of a link became DEAD or was invalidated (spec/13 R304, R305, R308, R310). -/
def State.linkDead (s : State) (l : Nat) : State := (s.set (F.PCB_LNK_STATUS_DEAD l) 1).tunnelLost l |>.farGone l

/-- Every link unit whose tunnel no longer lives is told once. -/
def State.pcbReview (s : State) : State :=
  s.each s.linksOn fun l s => if !s.linkLives l && !s.on (F.PCB_LNK_STATUS_DEAD l) then s.linkDead l else s

/-- Fresh credit from the far end's records of sub-channels 0 and 1 (spec/13 R300). -/
def State.takeCredit (s : State) (l : Nat) (recs : List Nat) : State :=
  (s.mapBlink l fun x => { x with far := (List.range 2).map fun i : Nat =>
      let f := x.far.getD i (0, 0)
      let r := recs.getD i 0
      (newer 12 f.1 (r % 4096), newer 20 f.2 (r / 4096)) }).showLink l

/-- An acknowledgement taken (spec/06 R148), with the credit records that a bridge's carries (spec/13 R300). -/
def State.ackTaken (s : State) (f : Frame) : State :=
  let s1 := s.ackRx f
  match s1.entryOf f.hdr.tunnel.toNat with
  | none => s1
  | some i =>
    if (s1.entry i).credit && f.payload.length = 40 then
      s1.each (s1.linksOn.filter fun l => s1.linkEntry l = i) fun l s =>
        let s2 := s.takeCredit l [leAt f.payload 8 4, leAt f.payload 12 4]
        (if (s2.blink l).closed then s2.closeFrame l else s2).flushCtl l
    else s1

/-- TLP_RX (spec/13 R302, R304, R307, R309): it joins its sub-channel queue, or is answered at once. -/
def execTlpRx (q : Fin 3) (l : Fin 32) (t : Tlp) (s : State) : Step :=
  .next (s.ifBolt fun s =>
    let up := s.upQuad q
    if !s.isOn (.pcbQuad q) then s
    else if t.bad then (s.sat (F.PCBQ_ERR_MALFORMED q) 1).irq bPcb 7
    else if !s.linkOn l || s.linkQuad l ≠ q.val || !s.linkLives l then
      if t.kind = 1 then
        (s.emit (.tlp q 2 t.req.toNat t.tag.toNat true (bytesAt (Config.completion t.req.toNat t.tag.toNat 1 t.asks) 0 12))).sat
          (F.PCB_LNK_CNT2_UR_SENT l) 1
      else s
    else if up && t.lockRead && (s.linksOf q).any fun k => k ≠ l.val &&
        (s.on (F.PCB_LNK_STATUS_LOCKED k) || (s.blink k).out.any fun w => w.tlp.lockRead) then
      (s.answerLocal l t.req.toNat t.tag.toNat 1 t.asks).sat (F.PCB_LNK_CNT2_LOCK_REFUSED l) 1
    else
      let s1 := s.mapBlink l fun x => { x with out := x.out ++ [⟨t, false, false⟩] }
      if t.kind = 2 then
        s1.mapBlink l fun x => { x with fromFar := x.fromFar.filter fun r =>
          !(t.ends && r.req = t.req.toNat && r.tag = t.tag.toNat) }
      else s1)

/-- Completion space of a request: bytes to a multiple of 16, and 16 for each header slot (spec/13 R301). -/
def reserveOf (t : Tlp) : Nat :=
  let a := t.addr.toNat % 64
  let slots := if t.asks = 0 then 1 else (a + t.asks - 1) / 64 + 1
  (t.asks + 15) / 16 * 16 + 16 * slots

/-- Completion space reserved of a quad's pool. -/
def State.poolUsed (s : State) (q : Nat) : Nat :=
  ((s.linksOf q).map fun l => ((s.blink l).toFar.map fun r => r.reserved).sum).sum

/-- What a TLP waits for: 0 nothing, 1 credit, 2 an open-request entry or a reservation (spec/13 R300, R301). -/
def State.tlpWaits (s : State) (l : Nat) (t : Tlp) : Nat :=
  let x := s.blink l
  let c := creditLeft x t.kind.val
  if t.kind = 2 then 0
  else if c.1 = 0 || c.2 < unitsOf t then 1
  else if t.kind = 1 && (256 ≤ x.toFar.length ||
      s.get (F.PCBQ_CPL_POOL_KIB (s.linkQuad l)) * 1024 < s.poolUsed (s.linkQuad l) + reserveOf t) then 2
  else 0

/-- A TLP may pass those ahead of it in the queue (spec/13 R302), and is not held by a lock (R307). -/
def State.mayGo (s : State) (l : Nat) (ahead : List WaitTlp) (t : Tlp) : Bool :=
  let order := match t.kind.val with
    | 0 => !ahead.any fun w => w.tlp.kind = 0
    | 1 => !ahead.any fun w => w.tlp.kind = 0 || w.tlp.kind = 1
    | _ => !ahead.any fun w => w.tlp.kind = 2 || (w.tlp.kind = 0 && !t.relaxed)
  let held := s.upQuad (s.linkQuad l) && s.on (F.PCB_LNK_STATUS_LOCKED l) && t.kind ≠ 2 && !t.locked && !t.unlock
  order && !held

/-- The position of the next TLP that may enter the tunnel; those found waiting are counted once. -/
def State.pickTlp (s : State) (l : Nat) : Nat → State × Option Nat
  | 0 => (s, none)
  | n + 1 =>
    let x := s.blink l
    let k := x.out.length - (n + 1)
    match x.out[k]? with
    | none => s.pickTlp l n
    | some w =>
      if !s.mayGo l (x.out.take k) w.tlp then s.pickTlp l n
      else match s.tlpWaits l w.tlp with
        | 0 => (s, some k)
        | 1 =>
          if w.crWait then s.pickTlp l n
          else ((s.setBlink l { x with out := setAt x.out k { w with crWait := true } }).sat (F.PCB_LNK_STALL_CREDIT_WAIT l) 1).pickTlp l n
        | _ =>
          if w.npWait then s.pickTlp l n
          else ((s.setBlink l { x with out := setAt x.out k { w with npWait := true } }).sat (F.PCB_LNK_STALL_NP_WAIT l) 1).pickTlp l n

/-- A TLP enters the tunnel: credit consumed, a request opened, a posted record numbered, the record packed
(spec/13 R298 to R301, R305, R307). -/
def State.enterTunnel (s : State) (l k : Nat) (t : Tlp) : State :=
  let x := s.blink l
  let sub := t.kind.val
  let u := x.used.getD sub (0, 0)
  let rec' := List.flatten [leBytes 2 t.bytes.length, leBytes 1 0, leBytes 1 0, t.bytes]
  let n := s.get (F.PCB_LNK_PSENT_NUMBER l)
  let fr := match x.frame with
    | some (f, bs, led) => (f, bs ++ rec', led)
    | none => (sub, rec', if sub = 0 then n else 0)
  let y : BridgeLink := { x with
    out := x.out.eraseIdx k, frame := some fr
    used := if sub < 2 then setAt x.used sub (u.1 + 1, u.2 + unitsOf t) else x.used
    toFar := if sub = 1 then x.toFar ++ [⟨t.req.toNat, t.tag.toNat, t.asks, reserveOf t⟩] else x.toFar }
  let s1 := s.setBlink l y
  let s2 := if sub = 0 then s1.set (F.PCB_LNK_PSENT_NUMBER l) (n + 1) else s1
  let s3 := if s2.upQuad (s2.linkQuad l) then
      (if t.lockRead then s2.lockLink l else if t.unlock then s2.unlock l else s2) else s2
  (if s3.get F.PCB_CFG_PACK_NS = 0 then s3.closeFrame l else s3).showLink l

/-- TLP_TO_TUNNEL (spec/13 R298, R300 to R302): a frame of another sub-channel, or one that would exceed MAX_LEN, is closed
first. -/
def execTlpToTunnel (l : Fin 32) (s : State) : Step :=
  .next (s.ifBolt fun s =>
    if !s.linkOn l || !s.linkLives l then s
    else
      let s0 := s.flushCtl l
      match s0.pickTlp l (s0.blink l).out.length with
      | (s1, none) => s1
      | (s1, some k) =>
        match (s1.blink l).out[k]? with
        | none => s1
        | some w =>
          let other := match (s1.blink l).frame with
            | some (sub, bs, _) => (s1.blink l).closed || sub != w.tlp.kind.val ||
                decide ((s1.entry (s1.linkEntry l)).maxLen < bs.length + 4 + w.tlp.bytes.length)
            | none => false
          let s2 := if other then s1.closeFrame l else s1
          if other && (s2.blink l).frame.isSome then s2 else s2.enterTunnel l k w.tlp)

/-- PACK_TIMEOUT (spec/13 R298). -/
def execPackTimeout (l : Fin 32) (s : State) : Step := .next (s.ifBolt fun s => s.closeFrame l)

/-- The records of a bridge frame's payload: RKIND and content; none where they are malformed (spec/13 R298). -/
def parseRecords : Nat → List Byte → Option (List (Nat × List Byte))
  | 0, bs => if bs.isEmpty then some [] else none
  | n + 1, bs =>
    if bs.isEmpty then some []
    else
      let len := leAt bs 0 2
      let kind := leAt bs 2 1
      if bs.length < 4 + len ∨ len % 4 ≠ 0 ∨ 1 < kind ∨ leAt bs 3 1 ≠ 0 ∨ (kind = 1 ∧ len ≠ 20) then none
      else (parseRecords n (bs.drop (4 + len))).map fun t => (kind, (bs.drop 4).take len) :: t

/-- A FAULT control record sent (spec/13 R299, R305). -/
def State.sendFault (s : State) (l cause first count addr : Nat) : State := s.sendControl l 4 cause 0 0 first count addr

/-- Runs of failed records with one cause: cause, first, count, address (spec/13 R305). -/
def faultRuns : List (Nat × Nat × Nat) → Option (Nat × Nat × Nat × Nat) → List (Nat × Nat × Nat × Nat)
  | [], r => r.toList
  | (c, n, a) :: t, r =>
    match r with
    | some (rc, rf, rn, ra) =>
      if rc = c then faultRuns t (some (rc, rf, rn + 1, ra))
      else (rc, rf, rn, ra) :: (if c = 0 then faultRuns t none else faultRuns t (some (c, n, 1, a)))
    | none => if c = 0 then faultRuns t none else faultRuns t (some (c, n, 1, a))

/-- A posted record disposed of: sent onto the link, or failed with its cause, which is answered; 0: applied.  Its buffer is free in
every case, and its credit goes back (DEDUCED, assumption log 21). -/
def State.postedIn (s0 : State) (l : Nat) (t : Tlp) : State × Nat :=
  let s := s0.grantBack l 0 (unitsOf t)
  let q := s.linkQuad l
  if t.bad then ((s.sat (F.PCBQ_ERR_MALFORMED q) 1).irq bPcb 7, 3)
  else if t.ecc then (s, 2)
  else if s.upQuad q && t.p2p then (s.sat F.PCB_UNEXP_P2P 1, 0)
  else if !s.deliverable l then (s, 1)
  else
    let s1 := s.emit (.tlp q 0 t.req.toNat t.tag.toNat false t.bytes)
    (if t.unlock then s1.unlock l else s1, 0)

/-- A non-posted request from the tunnel (spec/13 R302, R304, R307, R309). -/
def State.requestIn (s : State) (l : Nat) (t : Tlp) : State :=
  let q := s.linkQuad l
  let s1 := s.grantBack l 1 (unitsOf t)
  if t.bad then (s1.sat (F.PCBQ_ERR_MALFORMED q) 1).irq bPcb 7
  else if s1.upQuad q && t.p2p then (s1.answerFar l t.req.toNat t.tag.toNat t.asks).sat F.PCB_UNEXP_P2P 1
  else if !s1.deliverable l then s1.answerFar l t.req.toNat t.tag.toNat t.asks
  else
    let s2 := (s1.emit (.tlp q 1 t.req.toNat t.tag.toNat false t.bytes)).mapBlink l fun x => { x with
      fromFar := x.fromFar ++ [⟨t.req.toNat, t.tag.toNat, t.asks, 0⟩] }
    if t.lockRead then s2.lockLink l else s2

/-- A completion from the tunnel: released from its reservation, or late (spec/13 R301, R303, R304). -/
def State.completionIn (s : State) (l : Nat) (t : Tlp) : State :=
  let x := s.blink l
  match x.toFar.find? fun r => r.req = t.req.toNat && r.tag = t.tag.toNat with
  | none =>
    let s1 := (s.sat (F.PCB_LNK_CNT_LATE_CPL l) 1).emit (.pcieReport l 1)
    if t.err then s1.bridgeFault l 0 0 0 else s1
  | some r =>
    let r' : OpenReq := { r with left := r.left - t.data, reserved := r.reserved - ((t.data + 15) / 16 * 16 + 16) }
    let rest := x.toFar.erase r
    let s1 := s.setBlink l { x with toFar := if t.ends then rest else rest ++ [r'] }
    let s2 := s1.emit (.tlp (s1.linkQuad l) 2 t.req.toNat t.tag.toNat t.err t.bytes)
    if t.bad then (s2.sat (F.PCBQ_ERR_MALFORMED (s.linkQuad l)) 1).irq bPcb 7 else s2

/-- Posted records of a frame in order: the outcome of each. -/
def State.postedAll (s : State) (l n : Nat) : List Tlp → State × List (Nat × Nat × Nat)
  | [] => (s, [])
  | t :: ts =>
    let (s1, c) := s.postedIn l t
    let (s2, r) := s1.postedAll l ((n + 1) % 2 ^ 32) ts
    (s2, (c, n, t.addr.toNat) :: r)

/-- PCB_RECORDS_RX (spec/13 R298, R299, R305). -/
def execPcbRecordsRx (entry : Fin 1024) (f : Frame) (tlps : List Tlp) (s : State) : Step :=
  .next (s.ifBolt fun s =>
    match s.linksOn.find? fun l => s.linkEntry l = entry.val with
    | none => s
    | some l =>
      let q := s.linkQuad l
      let sub := hSubch f.hdr
      let broken := (s.sat (F.PCBQ_ERR_MALFORMED q) 1).irq bPcb 7
      match parseRecords f.payload.length f.payload with
      | none => broken
      | some rs =>
        if 4 ≤ sub || rs.any fun r => r.1 ≠ b2n (sub = 3) then broken
        else if sub = 3 then s.each rs fun r s => s.emit (.pcbControl l r.2)
        else
          let ts := (rs.zip tlps).map fun p => { p.2 with bytes := p.1.2 }
          let s1 := match sub with
            | 0 =>
              let x := s.blink l
              let led := hRelAdapter f.hdr / 16
              let n := ts.length
              let count (s : State) : State := s.mapBlink l fun x => { x with
                pRecv := (x.pRecv + n) % 2 ^ 32, pDisp := (x.pDisp + n) % 2 ^ 32 }
              if led ≠ x.pRecv then
                let a := ((ts.head?).map fun t : Tlp => t.addr.toNat).getD 0
                (((count s).each ts fun t s => s.grantBack l 0 (unitsOf t)).bridgeFault l 4 led a).sendFault l 4 led n a
              else
                let (s1, rs) := s.postedAll l x.pRecv ts
                (count s1).each (faultRuns rs none) fun r s => s.sendFault l r.1 r.2.1 r.2.2.1 r.2.2.2
            | 1 => s.each ts fun t s => s.requestIn l t
            | _ => s.each ts fun t s => s.completionIn l t
          s1.showLink l)

/-- LINK_STATE_RX (spec/13 R299, R307, R308): at the upstream end the downstream port shows it; at the downstream end RESET
or DISABLE holds the link. -/
def execLinkStateRx (l : Fin 32) (flags speed width : BitVec 8) (s : State) : Step :=
  .next (s.ifBolt fun s =>
    if !s.linkOn l then s
    else
      let q := s.linkQuad l
      if s.upQuad q then
        let up := bit flags.toNat 0
        let was := s.on (F.PCB_LNK_STATUS_FAR_UP l)
        let s1 := s.sets [(F.PCB_LNK_STATUS_FAR_UP l, b2n up), (F.PCB_LNK_STATUS_FAR_SPEED l, speed.toNat),
          (F.PCB_LNK_STATUS_FAR_WIDTH l, width.toNat)]
        let s2 := if up then s1 else s1.unlock l
        if up = was then s2.irq bPcb 2 else (s2.irq bPcb 2).emit (.pcieReport l 2)
      else
        let r := bit flags.toNat 1
        let d := bit flags.toNat 2
        let s1 := ((s.mapBlink l fun x => { x with reset := r, disable := d }).irq bPcb 2).emit (.pcieHold q r d)
        if r || d then s1.unlock l else s1)

/-- PCB_CREDIT_RX (spec/13 R300). -/
def execPcbCreditRx (l : Fin 32) (rec0 rec1 : BitVec 32) (s : State) : Step :=
  .next (s.ifBolt fun s => if s.linkOn l then s.takeCredit l [rec0.toNat, rec1.toNat] else s)

/-- APPLIED_RX (spec/13 R305). -/
def execAppliedRx (l : Fin 32) (disposed : BitVec 32) (s : State) : Step :=
  .next (s.ifBolt fun s => if s.linkOn l then s.set (F.PCB_LNK_PDISP_DISPOSED l) disposed.toNat else s)

/-- FAULT_RX (spec/13 R305, R306). -/
def execFaultRx (l : Fin 32) (cause : BitVec 8) (first count : BitVec 32) (addr : BitVec 64) (s : State) : Step :=
  .next (s.ifBolt fun s =>
    if s.linkOn l then s.ledgerAdd l cause.toNat first.toNat count.toNat addr.toNat else s)

/-- COMPLETION_TIMEOUT (spec/13 R303). -/
def execCompletionTimeout (l : Fin 32) (req : BitVec 16) (tag : BitVec 10) (s : State) : Step :=
  .next (s.ifBolt fun s =>
    let x := s.blink l
    match x.toFar.find? fun r => r.req = req.toNat && r.tag = tag.toNat with
    | none => s
    | some r =>
      let s1 := (s.setBlink l { x with toFar := x.toFar.erase r }).answerLocal l r.req r.tag 4 r.left
      (((s1.sat (F.PCB_LNK_CNT_TIMEOUT l) 1).irq bPcb 3)).showLink l)

/-- The local link of a quad has gone down (spec/13 R304, R307, R308): what it held from the far end is answered, what it issued itself is
completed with Unsupported Request. -/
def State.quadDown (s : State) (q : Nat) : State :=
  s.each (s.linksOf q) fun l s =>
    let s1 := s.each (s.blink l).fromFar fun r s => s.answerFar l r.req r.tag r.left
    (s1.mapBlink l fun y => { y with fromFar := [] }).failOpen l

/-- The PCIe link of a quad changes state (spec/13 R299, R308): LINK_STATE from a downstream end; an upstream link that is
down resets the links behind it. -/
def State.linkChange (s : State) (q : Nat) (up : Bool) (speed width ltssm : Nat) : State :=
  let was := s.on (F.PCBQ_STATUS_LINK_UP q)
  let sp := if up then speed else 0
  let wd := if up then width else 0
  let s1 := s.sets [(F.PCBQ_STATUS_LINK_UP q, b2n up), (F.PCBQ_STATUS_SPEED q, sp), (F.PCBQ_STATUS_WIDTH q, wd),
    (F.PCBQ_STATUS_LTSSM q, ltssm)]
  let s2 := if was && !up then (s1.sat (F.PCBQ_DOWN_COUNT q) 1).quadDown q else s1
  let s3 := if s2.upQuad q then
      let s' := { s2 with bolt.pcieUp := up }
      if was = up then s' else s'.each (s'.linksOf q) fun l s => s.sendControl l 1 (if up then 0 else 2) 0 0 s.cycle 0 0
    else s2.each (s2.linksOf q) fun l s => s.sendControl l 1 (b2n up) sp wd s.cycle 0 0
  (s3.rateReview [2 + 2 * q, 3 + 2 * q]).irq bPcb 1

/-- A quad's PCIe link may run: outside QUIET, and the boot link in the boot QUIET (spec/04 R78, spec/02 R498, spec/18 R386,
spec/22 R467). -/
def State.pcieMay (s : State) (q : Nat) : Bool :=
  decide (s.get F.PWR_STATUS_STATE ≠ 2) || (decide (q = 2) && s.bolt.bootLink && s.on F.PWR_STATUS_BOOT)

/-- The highest SPEED that QMODE bits [6:5] permit a quad (spec/13 R295). -/
def State.topSpeed (s : State) (q : Nat) : Nat := 4 - slice (s.bolt.pat.inForce.qmode.getD q 5) 5 2

/-- PCIE_LINK_CHANGE (spec/13 R308), at a rate that QMODE permits; the boot link too (spec/22 R467).  A quad whose reference is absent, or that is stopped,
does not train (spec/01 R17, spec/04 R78). -/
def execPcieLinkChange (q : Fin 3) (up : Bool) (speed width : BitVec 3) (ltssm : BitVec 6) (s : State) : Step :=
  .next (s.ifBolt fun s =>
    if up && !(bit (s.get F.CLK_STATUS_PCIE_REF_OK) q && s.pcieMay q) then s
    else if s.isOn (.pcbQuad q) || (decide (q = 2) && s.bolt.bootLink) then 
      s.linkChange q up (min speed.toNat (s.topSpeed q)) width.toNat ltssm.toNat
    else s)

/-- DOWNSTREAM_RESET (spec/13 R307, R308): a reset of the locked link releases the lock. -/
def execDownstreamReset (l : Fin 32) (reset disable : Bool) (s : State) : Step :=
  .next (s.ifBolt fun s =>
    if s.linkOn l && s.upQuad (s.linkQuad l) then
      (if reset || disable then s.unlock l else s).sendControl l 1 (2 * b2n reset + 4 * b2n disable) 0 0 s.cycle 0 0
    else s)

/-- The work of PCB at the end of a cycle: CREDIT for grants that no acknowledgement reported, APPLIED for a changed count
(spec/13 R300, R305). -/
def State.pcbCycle (s : State) : State :=
  s.each s.linksOn fun l s =>
    let x := s.blink l
    let told := [s.reported l 0, s.reported l 1]
    let s0 := s.mapBlink l fun x => { x with told := told }
    let s1 := if told = x.granted then s0 else s0.sendCredit l
    let s2 := if x.pDisp = x.pTold then s1
      else (s1.mapBlink l fun x => { x with pTold := x.pDisp }).sendControl l 3 0 0 0 x.pDisp 0 0
    s2.flushCtl l

/-- PCB memory that a quad's pool and links take, in KiB (spec/13 R311). -/
def State.pcbMemory (s : State) (q : Nat) (links : List Nat) : Nat :=
  let ofLink (l : Nat) : Nat := s.get (F.PCB_LNK_BUF_P_HDR l) * 16 + s.get (F.PCB_LNK_BUF_P_DATA l) * 1024 +
    s.get (F.PCB_LNK_BUF_NP_HDR l) * 48
  s.get (F.PCBQ_CPL_POOL_KIB q) + ((links.map ofLink).sum + 1023) / 1024

/-- A lane of a quad is in raw mode (spec/05 R125). -/
def State.rawLane (s : State) (q : Nat) : Option Nat :=
  (List.range 4).map (fun k => 8 + 4 * q + k) |>.find? fun l => s.on (F.LANE_PRBS_STATUS_RAW l)

/-- The check of PCB at enable. -/
def State.checkPcb (s : State) : Option (Nat × Nat) :=
  if s.get ⟨R.PCB_CTRL, 1, 31⟩ ≠ 0 ∨ s.get ⟨R.PCB_ID2, 8, 24⟩ ≠ 0 then some (0x02, 0xFFFF) else none

/-- The check of a quad adapter at enable (spec/13 R311; spec/05 R125). -/
def State.checkPcbQuad (s : State) (q : Nat) : Option (Nat × Nat) :=
  if s.get ⟨R.PCBQ_CTRL q, 1, 31⟩ ≠ 0 ∨ s.get ⟨R.PCBQ_CPL_POOL q, 12, 20⟩ ≠ 0 then some (0x02, 0xFFFF)
  else if s.qmode q ≠ 2 then some (0x03, 0xFFFF)
  else if 2048 < s.get (F.PCBQ_CPL_POOL_KIB q) then some (0x01, 0xFFFF)
  else (s.rawLane q).map fun l => (0x04, l)

/-- The check of a link unit at enable (spec/13 R296, R311). -/
def State.checkPcbLink (s : State) (l : Nat) : Option (Nat × Nat) :=
  let i := s.linkEntry l
  let e := s.entry i
  let p := e.localPort
  let q := s.linkQuad l
  let dev := slice e.binding 0 5
  let others := (s.linksOf q).filter fun k => k ≠ l
  let cto := s.get (F.PCB_LNK_CFG_CTO l)
  let ph := s.get (F.PCB_LNK_BUF_P_HDR l)
  let pd := s.get (F.PCB_LNK_BUF_P_DATA l)
  let nh := s.get (F.PCB_LNK_BUF_NP_HDR l)
  if s.get ⟨R.PCB_LNK_CTRL l, 1, 31⟩ ≠ 0 ∨ s.get ⟨R.PCB_LNK_CFG l, 10, 6⟩ ≠ 0 ∨ s.get ⟨R.PCB_LNK_CFG l, 29, 3⟩ ≠ 0 ∨
      s.get ⟨R.PCB_LNK_BUF l, 31, 1⟩ ≠ 0 then some (0x02, 0xFFFF)
  else if !e.valid ∨ p < 2 ∨ 8 ≤ p then some (0x10, i)
  else if s.qmode q ≠ 2 then some (0x03, i)
  else if e.service ≠ svReliable ∨ !e.credit ∨ e.maxLen < 536 then some (0x10, i)
  else if slice e.binding 5 11 ≠ 0 then some (0x02, i)
  else if (s.upQuad q && (dev = 0 || others.any fun k => slice (s.entry (s.linkEntry k)).binding 0 5 = dev)) ||
      (!s.upQuad q && (dev ≠ 0 || !others.isEmpty)) then some (0x11, i)
  else if cto < 5 ∨ 6400 < cto then some (0x13, 0xFFFF)
  else if ph < 1 ∨ 1024 < ph ∨ pd < 1 ∨ 1024 < pd ∨ nh < 1 ∨ 256 < nh then some (0x01, 0xFFFF)
  else if 2048 < s.pcbMemory q (l :: others) then some (0x12, 0xFFFF)
  else if !(q < 3 && s.isOn (.pcbQuad (Fin.ofNat 3 q))) then some (0x14, 0xFFFF)
  else none

/-- PCBq_MEM follows the links that are ON. -/
def State.showMemory (s : State) (q : Nat) : State := s.set (F.PCBQ_MEM_USED q) (s.pcbMemory q (s.linksOf q))

/-- A bridge link starts afresh: grants and counts from zero, its whole buffer granted (spec/13 R300). -/
def State.linkRestart (s : State) (l : Nat) : State :=
  let x : BridgeLink := { BridgeLink.reset0 with
    granted := s.buffers l, reset := (s.blink l).reset, disable := (s.blink l).disable }
  (((s.setBlink l x).sets [(F.PCB_LNK_PSENT_NUMBER l, 0), (F.PCB_LNK_PDISP_DISPOSED l, 0), (F.PCB_LNK_STATUS_DEAD l, 0),
    (F.PCB_LNK_STATUS_LOCKED l, 0), (F.PCB_LNK_STATUS_FAR_SPEED l, 0),
    (F.PCB_LNK_STATUS_FAR_WIDTH l, 0)]).farGone l |>.showCredits l).sendCredit l

/-- A link unit goes ON; a downstream end reports its link as it stands (spec/13 R299; assumption log 21). -/
def State.linkUnitOn (s : State) (l : Nat) : State :=
  let q := s.linkQuad l
  let s1 := (s.linkRestart l).showMemory q
  let s2 := if s1.upQuad q then s1
    else s1.sendControl l 1 (s1.get (F.PCBQ_STATUS_LINK_UP q)) (s1.get (F.PCBQ_STATUS_SPEED q))
      (s1.get (F.PCBQ_STATUS_WIDTH q)) s1.cycle 0 0
  s2.showLink l

/-- A link unit goes OFF: open requests are completed with Unsupported Request (spec/13 R304). -/
def State.linkUnitOff (s : State) (l : Nat) : State :=
  let q := s.linkQuad l
  (((s.failOpen l).setBlink l BridgeLink.reset0).farGone l).showMemory q

/-- A quad adapter goes OFF: its link goes down. -/
def State.pcbQuadOff (s : State) (q : Nat) : State :=
  if s.on (F.PCBQ_STATUS_LINK_UP q) then s.linkChange q false 0 0 0 else s

end Sys2Proof.Machine
end

