-- ==== Sys2Proof/Machine/Dpe.lean ====
section
/-! DEFINITION. DisplayPort and Ethernet tunnels (spec/14): display encapsulation, timing regeneration, AUX, EDID and hot
plug; Ethernet mapping, learning and ageing; and the row STATE_RX, whose outcome the display receiver shares. -/

namespace Sys2Proof.Machine

/-- A DP quad's own state, and it stored. -/
def State.dpq (s : State) (q : Nat) : DpQuad := s.bolt.dp.getD q DpQuad.reset
def State.mapDp (s : State) (q : Nat) (f : DpQuad → DpQuad) : State :=
  { s with bolt.dp := setAt s.bolt.dp q (f (s.dpq q)) }

/-- A DP quad runs: DPE and its unit are ON, not in QUIET (spec/14 R326). -/
def State.dpOn (s : State) (q : Nat) : Bool := decide (q < 3) && s.dpeRuns && s.isOn (.dpeDp (Fin.ofNat 3 q))

/-- FUNC of a DPE entry (spec/14 R313). -/
def Entry.func (e : Entry) : Nat := slice e.binding 0 2

/-- The stream (0) or AUX (1) entry of a slot: 0 the receiver, 1 the transmitter of a quad (spec/14 R313). -/
def State.dpEntry (s : State) (q slot func : Nat) : Option Nat :=
  (s.validEntries.find? fun x => x.2.localPort = 2 + 2 * q + slot && x.2.func = func).map (·.1)

/-- Bits as bytes, most significant first, zero-padded to a whole byte (spec/14 R315). -/
def packBits : Nat → List Bool → List Byte
  | 0, _ => []
  | n + 1, bs =>
    let b := bs.take 8
    let v := (b ++ List.replicate (8 - b.length) false).foldl (fun a x => 2 * a + b2n x) 0
    BitVec.ofNat 8 v :: packBits n (bs.drop 8)

/-- Components of a pixel and bits of a component, from FORMAT (spec/14 R315). -/
def pixComps (format : Nat) : Nat := if slice format 0 3 = 2 then 2 else 3
def pixBpc (format : Nat) : Nat := 6 + 2 * slice format 3 3

/-- Bytes of a line of `w` pixels. -/
def lineBytes (format w : Nat) : Nat := (w * pixComps format * pixBpc format + 7) / 8

/-- The segments of a line: first pixel and pixel count, equal but for the remainder in the last (spec/14 R315). -/
def segments (format w : Nat) : List (Nat × Nat) :=
  let n := max 1 ((lineBytes format w + 9591) / 9592)
  (List.range n).map fun k => (k * (w / n), if k + 1 = n then w - k * (w / n) else w / n)

/-- Bytes 0 to 23 of a descriptor (spec/14 R315). -/
def timingBytes (t : DpTiming) : List Byte := List.flatten [
  leBytes 2 t.htotal.toNat, leBytes 2 t.hstart.toNat, leBytes 2 t.hwidth.toNat, leBytes 2 t.hsync.toNat,
  leBytes 2 t.vtotal.toNat, leBytes 2 t.vstart.toNat, leBytes 2 t.vheight.toNat, leBytes 2 t.vsync.toNat,
  leBytes 3 t.mvid.toNat, leBytes 3 t.nvid.toNat, leBytes 1 t.misc0.toNat, leBytes 1 t.misc1.toNat]

/-- A descriptor (spec/14 R315). -/
def descriptor (t : DpTiming) (frame : Nat) (noVideo : Bool) : List Byte := List.flatten [
  timingBytes t, leBytes 8 t.vtNs.toNat, leBytes 4 frame, leBytes 1 (b2n noVideo), List.replicate 11 0]

/-- DRATE of a timing in kbit/s, rounded up (spec/14 R316); free where the timing has no pixel clock. -/
def State.drate (s : State) (t : DpTiming) : Nat :=
  let segs := (segments t.format.toNat t.hwidth.toNat).map fun g =>
    s.countedLen 0 (8 + (g.2 * pixComps t.format.toNat * pixBpc t.format.toNat + 7) / 8)
  let perFrame := s.countedLen 0 48 + 4 * s.countedLen 0 36
  let num := 8 * t.symClk * t.mvid.toNat * (segs.sum * t.vtotal.toNat + perFrame)
  let den := t.nvid.toNat * t.htotal.toNat * t.vtotal.toNat * 1000
  if den = 0 then s.fresh else (num + den - 1) / den

/-- A display frame built by a receiver (spec/14 R314): DKIND, VFIRST, VFRAME in SVC.ADAPTER; it plays PLAYOUT_D later. -/
def State.sendDisplay (s : State) (i dkind : Nat) (first : Bool) (vframe : Nat) (payload : List Byte) : State :=
  s.sourceFrame i kStream (svcStream (s.cycle + s.playD) (dkind * 32 + b2n first * 16 + vframe % 16)) payload true

/-- DP_VIDEO_FRAME (spec/14 R312, R315, R316). -/
def execDpVideoFrame (q : Fin 3) (t : DpTiming) (sdps : List (Bool × List Byte)) (s : State) : Step :=
  .next (s.ifBolt fun s =>
    if !s.dpOn q.val then s
    else
      let x := s.dpq q.val
      let rate := s.drate t
      let s0 := if t.nvid.toNat * t.htotal.toNat * t.vtotal.toNat = 0 then s.used else s
      let s1 := ((if s0.on (F.DPE_DP_STATUS_RX_LINK q) then s0 else (s0.set (F.DPE_DP_STATUS_RX_LINK q) 1).irq bDpe 1).mapDp q.val
        fun x => { x with rxMbit := t.symClk * 8 * dpLanes t.lanes.val / 1000000 }).rateReview [2 + 2 * q.val]
      let s2 := s1.sets [(F.DPE_DP_STATUS_VIDEO q, 1), (F.DPE_DP_DRATE_KBPS q, rate),
        (F.DPE_DP_TIMING_HACTIVE q, t.hwidth.toNat), (F.DPE_DP_TIMING_VACTIVE q, t.vheight.toNat)]
      let changed := decide (x.rxTiming ≠ timingBytes t) || decide (x.format ≠ t.format.toNat)
      let s3 := (if changed then s2.irq bDpe 2 else s2).mapDp q.val fun x => { x with
        rxTiming := timingBytes t, format := t.format.toNat }
      match s3.dpEntry q.val 0 0 with
      | none => s3.sat (F.DPE_DP_CNT2_SDP_DROP q) sdps.length
      | some i =>
        let short := decide ((s3.bucket s3.cycle i 0x0C).1 < rate)
        let n := x.frames
        let s4 := s3.mapDp q.val fun x => { x with short := short, frames := (n + 1) % 2 ^ 32 }
        let s5 := (if short then s4.irq bDpe 3 else s4).sendDisplay i 1 true n (descriptor t n short)
        let send := if short then [] else ((sdps.filter fun d => d.1).take 4).map (·.2)
        let s6 := s5.each send fun d s => s.sendDisplay i 2 false n (bytesAt d 0 36)
        s6.sat (F.DPE_DP_CNT2_SDP_DROP q) (sdps.length - send.length))

/-- DP_LINE (spec/14 R315). -/
def execDpLine (q : Fin 3) (line : BitVec 16) (comps : List Nat) (s : State) : Step :=
  .next (s.ifBolt fun s =>
    let x := s.dpq q.val
    match if s.dpOn q.val && !x.short && x.rxTiming ≠ [] then s.dpEntry q.val 0 0 else none with
    | none => s
    | some i =>
      let k := pixComps x.format
      let b := pixBpc x.format
      s.each (segments x.format (leAt x.rxTiming 4 2)) fun g s =>
        let bits := ((comps.drop (g.1 * k)).take (g.2 * k)).flatMap fun c => msbBits b c
        let len := (g.2 * k * b + 7) / 8
        let body := List.flatten [leBytes 2 line.toNat, leBytes 2 g.1, leBytes 2 g.2, leBytes 1 x.format, leBytes 1 0,
          packBits len bits]
        s.sendDisplay i 0 false (x.frames + 2 ^ 32 - 1) body)

/-- A display frame is good: its DKIND is one of the three and its LENGTH that of its DKIND (spec/14 R314, R315). -/
def goodDisplay (dkind : Nat) (payload : List Byte) : Bool :=
  let len := payload.length
  let format := leAt payload 6 1
  match dkind with
  | 0 => decide (8 ≤ len) && decide (len = 8 + (leAt payload 4 2 * pixComps format * pixBpc format + 7) / 8)
  | 1 => decide (len = 48)
  | 2 => decide (len = 36)
  | _ => false

/-- A frame of a display stream taken by its adapter: pixels of a line, the timing of a frame, or a packet (spec/14 R318). -/
def State.dpTake (s : State) (q kind frame : Nat) (payload : List Byte) : State :=
  match kind with
  | 0 =>
    let key := frame * 2 ^ 32 + leAt payload 0 2 * 65536 + leAt payload 2 2
    s.mapDp q fun x => { x with
      segs := insertKey key (payload.drop 8) x.segs, txFormat := leAt payload 6 1, noPixels := 0, black := false }
  | 1 => s.mapDp q fun x => { x with txTiming := payload, black := x.black || bit (leAt payload 36 1) 0 }
  | _ => s.emit (.dpSdp q payload)

/-- DP_FRAME_RX (spec/14 R314, R315, R318; spec/06 R144): the first good copy of each SEQ of a buddy stream, over the last 1,024; a
frame that is late or not good is discarded. -/
def execDpFrameRx (entry : Fin 1024) (f : Frame) (s : State) : Step :=
  .next (s.ifBolt fun s =>
    let e := s.entry entry.val
    let q := (e.localPort - 3) / 2
    let sq := f.hdr.seq.toNat
    if !e.valid || !e.sink || e.func ≠ 0 || e.localPort % 2 ≠ 1 || e.localPort < 3 || !s.dpOn q then s
    else if e.buddy && (s.dpq q).seen.contains sq then s
    else
      let a := hStreamAdapter f.hdr
      let (s0, inTime) := s.streamSink entry.val f.hdr
      if !inTime || !goodDisplay (a / 32) f.payload then s0
      else
        (s0.mapDp q fun x => { x with seen := (sq :: x.seen).take 1024 }).dpTake q (a / 32) (a % 16) f.payload)

/-- The segments of a line as sent, and how many were filled from the line before; the first active line has none before it
and is sent black where missing (spec/14 R318). -/
def fillLine (segs : List (Nat × List Byte)) (base : Nat) (prev : Option (List (Option (List Byte)))) :
    List (Nat × Nat) → Nat → List (Option (List Byte)) × Nat
  | [], _ => ([], 0)
  | g :: gs, k =>
    let (r, n) := fillLine segs base prev gs (k + 1)
    match lookupKey (base + g.1) segs with
    | some b => (some b :: r, n)
    | none => match prev with
      | some p => (p.getD k none :: r, n + 1)
      | none => (none :: r, n)

/-- The lines of a video frame, from line `y` on. -/
def fillFrame (segs : List (Nat × List Byte)) (gs : List (Nat × Nat)) (vframe : Nat) :
    Nat → Nat → Option (List (Option (List Byte))) → List (List (Option (List Byte))) × Nat
  | 0, _, _ => ([], 0)
  | n + 1, y, prev =>
    let (l, c) := fillLine segs (vframe * 2 ^ 32 + y * 65536) prev gs 0
    let (r, c') := fillFrame segs gs vframe n (y + 1) (some l)
    (l :: r, c + c')

/-- DP_TX_VSYNC (spec/14 R317, R318): the video frame that was displayed goes out with its missing segments filled; the error
e trims the clock, changes the next VTOTAL or blanks a frame.  The last timing is kept while descriptors are missing.  The
rate and lanes are those the link to the display has trained to (spec/08 R499). -/
def execDpTxVsync (q : Fin 3) (own : BitVec 64) (video : TxVideo) (link : DpTrained) (s : State) : Step :=
  let lineNs := video.lineNs
  let frameNs := video.frameNs
  .next (s.ifBolt fun s =>
    let x := s.dpq q.val
    if !s.dpOn q.val || x.txTiming = [] then s
    else
      let s0 := ((if s.on (F.DPE_DP_STATUS_TX_LINK q) then s else (s.set (F.DPE_DP_STATUS_TX_LINK q) 1).irq bDpe 1).mapDp q.val
        fun x => { x with txMbit := dpLaneRate link.rate.val * dpLanes link.lanes.val }).rateReview [3 + 2 * q.val]
      let e : Int := toSigned 64 ((own.toNat + 2 ^ 65 - leAt x.txTiming 24 8 - s.playD * 125000) % 2 ^ 64)
      let width := leAt x.txTiming 4 2
      let gs := segments x.txFormat width
      let (lines, filled) := match if x.black then none else x.play with
        | some v => fillFrame x.segs gs v (leAt x.txTiming 12 2) 0 none
        | none => ([], 0)
      let v := leAt x.txTiming 32 4 % 16
      let full : Int := frameNs
      let trim : Int := if frameNs = 0 then 0 else (-e * 1000000000) / full
      let lim : Int := 500000
      let adjust := lineNs < e.natAbs
      let lines' : Int := (2 * (e.natAbs : Int) + lineNs) / (2 * max 1 (lineNs : Int))
      let blank := frameNs < e.natAbs
      let s1 := (s0.emit (.dpVideo q.val lines)).mapDp q.val fun x => { x with
        play := if blank then none else some v
        segs := x.segs.filter fun g => g.1 / 2 ^ 32 = v
        trim := if trim < -lim then -lim else if lim < trim then lim else trim
        vAdj := if adjust then (if 0 ≤ e then -lines' else lines') else 0
        noPixels := x.noPixels + 1 }
      let s2 := if adjust then s1.sat (F.DPE_DP_CNT_FRAME_ADJ q) 1 else s1
      (s2.sat (F.DPE_DP_CNT_LINE_REPEAT q) filled).set (F.DPE_DP_ERR_E_NS q) (ofSigned 32 e))

/-- DP_NO_VIDEO (spec/14 R318): after 4 video frame periods without a pixel frame black frames are sent. -/
def execDpNoVideo (q : Fin 3) (s : State) : Step :=
  .next (s.ifBolt fun s =>
    if s.dpOn q.val && 4 ≤ (s.dpq q.val).noPixels then s.mapDp q.val fun x => { x with black := true } else s)

/-- The value of SRC 2 (spec/14 R319). -/
def hpdValue (x : DpQuad) : Nat :=
  b2n x.hpd + 2 * b2n x.edidOk + x.irqs % 256 * 256 + crc32 x.edid * 65536

/-- The state sampled for SRC 2: that of the one quad with HPD_PROD; 0 without one (spec/14 R319). -/
def State.sampleHpd (s : State) : State :=
  let q := (List.finRange 3).find? fun q => s.isOn (.dpeDp q) && s.on (F.DPE_DP_CTRL_HPD_PROD q)
  { s with bolt.stc.hpd := (q.map fun q => hpdValue (s.dpq q)).getD 0 }

/-- HPD_RISE (spec/14 R319): at most four EDID blocks are read; a changed EDID raises EDID_CHANGE. -/
def execHpdRise (q : Fin 3) (high : Bool) (irqs : BitVec 8) (ok : Bool) (edid : List Byte) (s : State) : Step :=
  .next (s.ifBolt fun s =>
    if !s.dpOn q.val then s
    else
      let x := s.dpq q.val
      let rise := high && !x.hpd
      let s1 := s.mapDp q.val fun x => { x with
        hpd := high, irqs := (x.irqs + irqs.toNat) % 256
        edid := if rise then edid.take 512 else x.edid
        edidOk := if rise then ok else x.edidOk }
      (if crc32 (s1.dpq q.val).edid ≠ crc32 x.edid then s1.irq bDpe 4 else s1).sampleHpd)

/-- Frames that wait for the window of a slot's AUX tunnel go while it is open (spec/06 R145). -/
def State.flushAux (s : State) (q : Nat) : State :=
  s.each (s.dpq q).auxOut fun m s =>
    match s.dpEntry q m.1 1 with
    | some i =>
      if s.windowOpen i then
        (s.mapDp q fun x => { x with auxOut := x.auxOut.erase m }).sourceFrame i kData (svcReliable 0 0) m.2 true
      else s
    | none => s

/-- A frame sent through the AUX tunnel of a slot (spec/14 R313, R320), once its window is open. -/
def State.sendAux (s : State) (q slot : Nat) (payload : List Byte) : State :=
  (s.mapDp q fun x => { x with auxOut := x.auxOut ++ [(slot, payload)] }).flushAux q

/-- The request for the next 16 EDID bytes: an I2C-over-AUX read at address 0x50. -/
def edidRequest : List Byte := [0x50, 0x00, 0x50, 0x0F]

/-- The receiver looks at the value its channel presents (spec/14 R320): a changed EDID_CRC lowers HPD and starts a refill;
a changed IRQ count sends one pulse; HPD is high only while HPD, EDID_VALID and the cache agree, and 3 ms have passed. -/
def State.hpdReview (s : State) (q : Nat) : State :=
  let c := s.get (F.DPE_DP_CTRL_HPD_CH q)
  if !s.dpOn q || !s.on (F.DPE_DP_CTRL_HPD_USE q) || !s.chanRole c 2 then s
  else
    let v := s.presented c
    let crc := slice v 16 32
    let irq := slice v 8 8
    let x := s.dpq q
    let news := decide (crc ≠ x.crcSeen)
    let s1 := if news then
        ((s.mapDp q fun x => { x with crcSeen := crc, lowFor := 0, refill := some 0, cache := x.cache }).sendAux q 0
          edidRequest).irq bDpe 4
      else s
    let s2 := if irq = x.irqSeen then s1 else (s1.mapDp q fun x => { x with irqSeen := irq }).emit (.hpdIrq q)
    let y := s2.dpq q
    let ok := decide (crc32 y.cache = crc) && !y.cache.isEmpty
    let high := bit v 0 && bit v 1 && ok && decide (24 ≤ y.lowFor)
    let s3 := s2.set (F.DPE_DP_STATUS_EDID_OK q) (b2n ok)
    if high = y.pin then s3 else (s3.mapDp q fun x => { x with pin := high }).emit (.hpdPin q high)

/-- STATE_RX (spec/12 R284, R286), with what a receiver does on a change of the value (spec/14 R320). -/
def execStateRx (entry : Fin 1024) (f : Frame) (s : State) : Step :=
  .next (s.ifBolt fun s => (s.stateFrame entry.val f).each [0, 1, 2] fun q s => s.hpdReview q)

/-- AUX_REQUEST (spec/14 R320): the own link's DPCD, EDID reads from the cache, all else through the AUX tunnel. -/
def execAuxRequest (q : Fin 3) (native write : Bool) (addr : BitVec 20) (offset : BitVec 9) (len : BitVec 5)
    (raw : List Byte) (s : State) : Step :=
  .next (s.ifBolt fun s =>
    let a := addr.toNat
    let x := s.dpq q.val
    if !s.dpOn q.val then s
    else if native && (a ≤ 0x2FF || a = 0x600) then s.emit (.aux q.val 3 raw)
    else if !native && !write && a = 0x50 then s.emit (.aux q.val 0 (bytesAt x.cache offset.toNat len.toNat))
    else if x.auxWait || x.refill.isSome then s.emit (.aux q.val 1 [])
    else ((s.mapDp q.val fun x => { x with auxWait := true }).sendAux q.val 0 raw).emit (.aux q.val 1 []))

/-- A part of the EDID arrives in a refill; it is over when the bytes match EDID_CRC or four blocks have come. -/
def State.refillCache (s : State) (q : Nat) (bs : List Byte) : State :=
  let x := s.dpq q
  let n := x.refill.getD 0
  let c := (x.cache.take n ++ bs).take 512
  let past := decide (c.length % 128 = 0) && (decide (crc32 c = x.crcSeen) || decide (512 ≤ c.length))
  let s1 := s.mapDp q fun x => { x with cache := c, refill := if past then none else some c.length }
  if past then s1 else s1.sendAux q 0 edidRequest

/-- AUX_REPLY_RX (spec/14 R320): at the source's side the reply goes to the refill or to the video source; at the display's
side the request goes to the display and its answer back. -/
def execAuxReplyRx (entry : Fin 1024) (f : Frame) (reply : List Byte) (s : State) : Step :=
  .next (s.ifBolt fun s =>
    let e := s.entry entry.val
    let q := (e.localPort - 2) / 2
    if !e.valid || e.func ≠ 1 || e.localPort < 2 || !s.dpOn q then s
    else if e.localPort % 2 = 1 then (s.emit (.aux q 4 f.payload)).sendAux q 1 reply
    else if (s.dpq q).refill.isSome then (s.refillCache q f.payload).hpdReview q
    else if (s.dpq q).auxWait then (s.mapDp q fun x => { x with auxWait := false }).emit (.aux q 0 f.payload)
    else s)

/-- AUX_TIMEOUT (spec/14 R320). -/
def execAuxTimeout (q : Fin 3) (ms : Nat) (s : State) : Step :=
  .next (s.ifBolt fun s =>
    if (s.dpq q.val).auxWait && s.get (F.DPE_DP_AUX_WAIT_MS q) ≤ ms then
      ((s.mapDp q.val fun x => { x with auxWait := false }).emit (.aux q.val 2 [])).sat (F.DPE_DP_CNT2_AUX_NACK q) 1
    else s)

/-- An Ethernet type that marks a VLAN tag. -/
def isTag (t : Nat) : Bool := decide (t = 0x8100) || decide (t = 0x88A8)

/-- The place of the EtherType after all tags. -/
def typeAt (bs : List Byte) : Nat → Nat → Nat
  | 0, o => o
  | n + 1, o => if isTag (ofBe (bytesAt bs o 2)) then typeAt bs n (o + 4) else o

/-- The sub-flow key of a frame (spec/14 R324). -/
def subFlowKey (bs : List Byte) (vid : Nat) : List Byte :=
  let o := typeAt bs bs.length 12
  let t := ofBe (bytesAt bs o 2)
  let ip := o + 2
  let ports (proto at' : Nat) : List Byte := if proto = 6 ∨ proto = 17 then bytesAt bs at' 4 else []
  let rest :=
    if t = 0x0800 then
      (if slice (ofBe (bytesAt bs (ip + 6) 2)) 0 14 = 0 then
        bytesAt bs (ip + 12) 8 ++ ports (leAt bs (ip + 9) 1) (ip + 4 * (leAt bs ip 1 % 16))
      else [])
    else if t = 0x86DD then bytesAt bs (ip + 8) 32 ++ ports (leAt bs (ip + 6) 1) (ip + 40)
    else []
  List.flatten [bs.take 12, leBytes 2 vid, bytesAt bs o 2, rest]

/-- Bytes of frames that wait in the ingress FIFO of a MAC (spec/14 R322). -/
def State.fifoUsed (s : State) (m : Nat) : Nat :=
  ((s.validEntries.filter fun x => !x.2.waiting.isEmpty && (s.macOf x.1).any fun y => y.1 = m).map fun x =>
    (x.2.waiting.map fun f => f.payload.length).sum).sum

/-- Where a frame of a multipoint entry goes: none, discarded as local (spec/14 R325). -/
def State.ethTarget (s : State) (i b mac : Nat) : Option Nat :=
  if bit mac 40 then some 255
  else match s.bolt.learn.find? fun x => x.mac = mac && x.entry = i with
    | none => some 255
    | some x =>
      if x.node = s.addr then none
      else if s.reaches (s.dirOf i b) x.node then some x.node else some 255

/-- A frame received by a MAC, with the entry it maps to (spec/14 R322 to R325). -/
def State.wrapEth (s : State) (m i vid tci : Nat) (pop tagged : Bool) (bs : List Byte) : State :=
  let e := s.entry i
  let body := if pop then withFcs (bs.take 12 ++ (bs.take (bs.length - 4)).drop 16) else bs
  let key := subFlowKey bs vid
  let b := crc16Bytes (leBytes 2 e.tunnel ++ key) % 64
  let pd := if tagged then slice tci 13 3 * 2 + slice tci 12 1 else 0
  let adapter := (if pop then vid * 2 ^ 21 + 2 ^ 20 else 0) + pd * 2 ^ 16
  let s1 := if e.multipoint then s.learnAddr i (ethSrc bs) s.addr else s
  match if e.multipoint then s1.ethTarget i b (ethDst bs) else some e.dst with
  | none => s1.sat (F.DPE_MAC_CNT2_LOCAL_FILTER m) 1
  | some dst =>
    if 131072 < s1.fifoUsed m + body.length then s1.sat (F.DPE_MAC_CNT2_FIFO_DROP m) 1
    else s1.sourceFrameTo i kDatagram (svcDatagram b adapter) body true dst

/-- ETH_RX (spec/14 R321 to R325): bad FCS and a tagged frame without a map are counted; a received PAUSE stops the MAC. -/
def execEthRx (m : Fin 12) (frame : List Byte) (fcs : BitVec 32) (s : State) : Step :=
  let bytes := frame ++ leBytes 4 fcs.toNat
  .next (s.ifBolt fun s =>
    let q := m.val / 4
    let k := m.val % 4
    let t := ofBe (bytesAt bytes 12 2)
    if !s.ethOn q || !s.dpeRuns || !(s.macsOf q).contains k || !bit (s.get (F.DPE_ETH_STATUS_LINK q)) k then s
    else if bytes != withFcs (bytes.take (bytes.length - 4)) then s.sat (F.DPE_MAC_CNT_FCS_DROP m) 1
    else if bytes.length < 64 || 9216 < bytes.length then s
    else if t = 0x8808 && ofBe (bytesAt bytes 14 2) = 1 && s.on (F.DPE_ETH_CTRL_PAUSE_RX q) then
      let quantum := if s.qmode q = 4 then 20480 else 51200
      let x := s.mac m.val
      (s.setMac m.val { x with paused := max 1 (ofBe (bytesAt bytes 16 2) * quantum) }).macTime
        (if ofBe (bytesAt bytes 16 2) = 0 then 1 else 0)
    else if isTag t then
      let tci := ofBe (bytesAt bytes 14 2)
      let vid := tci % 4096
      match (s.maps q).find? fun v => v.2.1 = k && v.2.2.1 = vid with
      | none => s.sat (F.DPE_MAC_CNT_NOMAP_DROP m) 1
      | some v => s.wrapEth m.val v.2.2.2.1 vid tci v.2.2.2.2 true bytes
    else if s.on (F.DPE_MAC_DEFAULT_EN m) then
      s.wrapEth m.val (s.get (F.DPE_MAC_DEFAULT_ENTRY m)) 0 0 false false bytes
    else s)

/-- ETH_AGE (spec/14 R325): a second passes; addresses unseen for AGE_S seconds leave, at the end of the second in which they expire, a
frame in which keeps them.  Ageing goes on in QUIET (R326). -/
def execEthAge (s : State) : Step :=
  .next (s.ifBolt fun s =>
    let lim := s.get F.DPE_LEARN_CFG_AGE_S
    if !s.isOn .dpe then s
    else
      let older := s.bolt.learn.map fun x : Learned => { x with age := x.age + 1 }
      let keep := if lim = 0 then older else older.filter fun x => x.age ≤ lim
      let s1 : State := { s with bolt.learn := keep }
      (s1.showLearn).sat F.DPE_LEARN_STAT2_AGED (older.length - keep.length))

/-- GO (spec/14, DPE_LEARN_FLUSH): one entry's addresses or all are flushed. -/
def execLearnGo (who : Requester) (value : Word) (s : State) : Step :=
  .next (s.command who R.DPE_LEARN_FLUSH value fun s =>
    if !s.on F.DPE_LEARN_FLUSH_GO then s
    else
      let i := s.get F.DPE_LEARN_FLUSH_ENTRY
      let keep := if s.on F.DPE_LEARN_FLUSH_ALL then [] else s.bolt.learn.filter fun x => x.entry ≠ i
      let s1 : State := { s with bolt.learn := keep }
      (s1.showLearn).set F.DPE_LEARN_FLUSH_GO 0)

/-- ETH_LINK_CHANGE (spec/14 R322). -/
def execEthLinkChange (m : Fin 12) (up : Bool) (s : State) : Step :=
  .next (s.ifBolt fun s =>
    let q := m.val / 4
    let k := m.val % 4
    if !s.ethOn q || !(s.macsOf q).contains k then s
    else
      let f := F.DPE_ETH_STATUS_LINK q
      let s1 := if up then s.setB f k else (s.clrB f k).setMac m.val ⟨0, []⟩
      if bit (s.get f) k = up then s else s1.irq bDpe 5)

/-- The work of DPE at the end of a cycle: the hot-plug values, the time of HPD and of PAUSE. -/
def State.dpeCycle (s : State) : State :=
  let s1 := s.each [0, 1, 2] fun q s => (s.flushAux q).mapDp q (fun x => { x with lowFor := min 24 (x.lowFor + 1) }) |>.hpdReview q
  (s1.macTime cyclePs).sampleHpd

/-- The check of an entry's BINDING (spec/14 R313, R327). -/
def State.dpeBinding (s : State) (i : Nat) (e : Entry) : Option Nat :=
  let q := (e.localPort - 2) / 2
  let odd := decide (e.localPort % 2 = 1)
  let role := (e.source && !odd && !e.sink) || (e.sink && odd && !e.source)
  let twice := s.validEntries.any fun x => x.1 ≠ i && x.2.localPort = e.localPort && x.2.func = e.func
  if slice e.binding 2 14 ≠ 0 then some 0x02
  else match e.func with
    | 0 => if s.qmode q = 1 && e.service = svStream && e.cls = 3 && role && !twice then none else some 0x15
    | 1 => if s.qmode q = 1 && e.service = svReliable && !twice then none else some 0x15
    | 2 => if (s.qmode q = 3 || s.qmode q = 4) && e.service = svDatagram then none else some 0x15
    | _ => some 0x10

/-- An entry is the DPE's: its LOCAL_PORT is a slot of a DP or ETH quad. -/
def State.isDpeEntry (s : State) (e : Entry) : Bool :=
  decide (2 ≤ e.localPort) && decide (e.localPort < 8) && [1, 3, 4].contains (s.qmode ((e.localPort - 2) / 2))

/-- The check of DPE at enable. -/
def State.checkDpe (s : State) : Option (Nat × Nat) :=
  if s.get ⟨R.DPE_CTRL, 1, 31⟩ ≠ 0 then some (0x02, 0xFFFF)
  else (s.validEntries.filter fun x => s.isDpeEntry x.2).findSome? fun x => (s.dpeBinding x.1 x.2).map fun r => (r, x.1)

/-- The check of a DP quad at enable (spec/14 R327; spec/05 R125). -/
def State.checkDp (s : State) (q : Nat) : Option (Nat × Nat) :=
  let others := (List.range 3).filter fun p => p ≠ q && s.on (F.DPE_DP_CTRL_ENABLE p) && s.on (F.DPE_DP_CTRL_HPD_PROD p)
  if s.get ⟨R.DPE_DP_CTRL q, 14, 18⟩ ≠ 0 then some (0x02, 0xFFFF)
  else if s.qmode q ≠ 1 then some (0x03, 0xFFFF)
  else if s.get (F.DPE_DP_CTRL_MAX_LANES q) = 3 then some (0x01, 0xFFFF)
  else if s.on (F.DPE_DP_CTRL_HPD_PROD q) && !others.isEmpty then some (0x13, 0xFFFF)
  else (s.rawLane q).map fun l => (0x04, l)

/-- The check of an ETH quad at enable (spec/14 R323, R327; spec/05 R125). -/
def State.checkEth (s : State) (q : Nat) : Option (Nat × Nat) :=
  let fec := s.get (F.DPE_ETH_CTRL_FEC q)
  let maps := s.maps q
  let others := ((List.range 3).filter fun p => p ≠ q && s.ethOn p).flatMap fun p => s.maps p
  let defaults := (List.range 12).filterMap fun m =>
    if (m / 4 = q || s.ethOn (m / 4)) && s.on (F.DPE_MAC_DEFAULT_EN m) then some (s.get (F.DPE_MAC_DEFAULT_ENTRY m)) else none
  let dup := defaults.any fun d => decide (1 < (defaults.filter fun x => x = d).length)
  if s.get ⟨R.DPE_ETH_CTRL q, 4, 28⟩ ≠ 0 then some (0x02, 0xFFFF)
  else if s.qmode q ≠ 3 ∧ s.qmode q ≠ 4 then some (0x03, 0xFFFF)
  else if fec = 3 then some (0x01, 0xFFFF)
  else if fec = 2 && s.qmode q = 3 then some (0x14, 0xFFFF)
  else match (List.range 64).find? fun v => s.get ⟨R.DPE_VMAP q v, 26, 6⟩ ≠ 0 with
    | some v => some (0x02, v)
    | none => match maps.find? fun v => !(s.macsOf q).contains v.2.1 ||
        maps.any fun w => w.1 < v.1 && w.2.1 = v.2.1 && w.2.2.1 = v.2.2.1 with
      | some v => some (0x11, v.1)
      | none => match maps.find? fun v => defaults.contains v.2.2.2.1 ||
          maps.any (fun w => w.1 < v.1 && w.2.2.2.1 = v.2.2.2.1) || others.any fun w => w.2.2.2.1 = v.2.2.2.1 with
        | some v => some (0x12, v.1)
        | none => if dup then some (0x12, 0xFFFF) else (s.rawLane q).map fun l => (0x04, l)

/-- A DP quad goes OFF: its links are down, its stream is gone, its HPD pin is low. -/
def State.dpOff (s : State) (q : Nat) : State :=
  let s1 := if (s.dpq q).pin then s.emit (.hpdPin q false) else s
  (((s1.mapDp q fun _ => DpQuad.reset).sets [(F.DPE_DP_STATUS_RX_LINK q, 0), (F.DPE_DP_STATUS_TX_LINK q, 0),
    (F.DPE_DP_STATUS_VIDEO q, 0), (F.DPE_DP_STATUS_EDID_OK q, 0)]).rateReview [2 + 2 * q, 3 + 2 * q]).sampleHpd

/-- An ETH quad goes OFF: its links are down. -/
def State.ethOff (s : State) (q : Nat) : State :=
  (s.each (List.range 4) fun k s => s.setMac (4 * q + k) ⟨0, []⟩).set (F.DPE_ETH_STATUS_LINK q) 0

end Sys2Proof.Machine
end

