-- ==== Sys2Proof/Machine/Seam.lean ====
section
/-! DEFINITION. The seam (spec/02 R39 to R45): flits, acknowledgement, going down, what recovery does; loss of the bolt
die's power or clock (spec/01 R24, spec/04 R95); the token's return to firmware (spec/02 R28). -/

namespace Sys2Proof.Machine

/-- Base address of SEAM. -/
abbrev bSeam : Nat := 0x41000000

/-- The CRC of a flit holds: over TYPE, CH, SEQ and DATA, most significant bit first (spec/02 R39). -/
def flitOk (type : Nat) (f : FlitBody) : Bool :=
  decide (f.crc.toNat = crc16 (List.flatten [msbBits 4 type, msbBits 4 f.ch.toNat, msbBits 8 f.seq.toNat, msbBits 64 f.data.toNat]))

/-- A flit outside the sequence: ACK (0xA) or NAK (0xB), whose SEQ names a flit (DEDUCED, assumption log 23). -/
def State.sendAckFlit (s : State) (d : Die) (type seq : Nat) : State := s.emit (.flit d type 0 (seq % 256) 0)

/-- The P10 copies that wait are discarded and counted for their tunnels (spec/02 R44). -/
def State.dropP10 (s : State) : State :=
  s.each s.bolt.swb.frames fun x s =>
    s.each (x.2.copies.filter fun c => c.port = 10 && (c.st = .queued || c.st = .placed || c.st = .threshold)) fun c s =>
      (s.countLoss x.2.entry 1).dropCopy x.1 c.queue

/-- The seam is declared down (spec/02 R41, R44): SEAM_DOWN at both dies, one down period counted, the spool blocks with an
access in flight marked, P10 egress discarded; a read in flight ends in an access error, on the SPI target with the status of a
seam that is down (R43; the status is DEDUCED, assumption log 23).  While it is down nothing more is declared. -/
def State.seamDown (s : State) : State :=
  if !s.seamUp then s
  else
    let reads := s.bolt.ctl.rdSent
    let blks := (s.bolt.ctl.wrSent.map baseOf ++ reads.map fun r => baseOf r.2).eraseDups
    let s1 := s.sets [(F.SEAM_STATUS_UP, 0), (F.SEAM_STATUS_SNAPSHOT_DONE, 0), (F.LAN_STATUS_SEAM_DOWN, 1)]
    let s2 := { (s1.sat F.SEAM_DOWN_CNT_COUNT 1) with
      bolt.ctl.seam := SeamEnd.reset, spool.seam := SeamEnd.reset, bolt.ctl.down := true, bolt.ctl.rdSent := [],
      bolt.ctl.snapLeft := 0, bolt.heldDropped := 0 }
    let s3 := s2.each blks fun b s => s.sticky b 3
    ((s3.each reads fun r s => s.answer r.1 .seamDown 0).dropP10).irq bSeam 0

/-- The flits that an acknowledgement of SEQ `seq` covers are freed (spec/02 R41): those up to it, in order of sending. -/
def freeFlits (seq : Nat) (l : List TxFlit) : List TxFlit :=
  if l.any fun f => f.seq = seq then (l.dropWhile fun f => f.seq != seq).drop 1 else l

/-- Resend from the failed flit onwards (spec/02 R41): it is the flit that failed; its third failure takes the seam down.  A flit
resent behind it counts as a retry in SEAM_RETRY_CNT and not as a sending of its own: a DESIGN CHOICE, since the spec makes each
flit's retry count its own and does not say how a go-back counts (assumption log 69). -/
def State.resendFlits (s : State) (d : Die) (seq : Nat) : State :=
  let e := s.seamEnd d
  if !e.replay.any fun f => f.seq = seq then s
  else
    let rest := e.replay.dropWhile fun f => f.seq != seq
    match rest with
    | [] => s
    | f :: t =>
      if 3 ≤ f.sends then (s.setSeamEnd d { e with replay := rest }).seamDown
      else
        let l := { f with sends := f.sends + 1 } :: t
        let s1 := (s.setSeamEnd d { e with replay := l }).sat F.SEAM_RETRY_CNT_COUNT l.length
        s1.each l fun x s => s.emit (.flit d x.type x.ch x.seq x.data)

/-- A sequenced flit received by a die (spec/02 R41): a bad CRC or a gap is answered with NAK, a flit received before with
ACK; the expected flit is acknowledged and acts. -/
def State.flitRx (s : State) (d : Die) (type : Nat) (f : FlitBody) (act : State → State) : State :=
  if !s.seamUp || !s.boltUp then s
  else
    let e := s.seamEnd d
    if !flitOk type f then s.sendAckFlit d 0xB e.expect
    else if f.seq.toNat = e.expect then
      act ((s.setSeamEnd d { e with expect := (e.expect + 1) % 256 }).sendAckFlit d 0xA f.seq.toNat)
    else if (e.expect + 256 - f.seq.toNat) % 256 ≤ 128 then s.sendAckFlit d 0xA (e.expect + 255)
    else s.sendAckFlit d 0xB e.expect

/-- A flit that carries traffic for the unit at the other side. -/
def State.carryFlit (s : State) (d : Die) (type : Nat) (f : FlitBody) : State :=
  s.flitRx d type f fun s => s.emit (.deliver d type f.ch.toNat f.data.toNat)

/-- IDLE_FLIT: it carries nothing and takes no place in the sequence. -/
def execIdleFlit (d : Die) (f : FlitBody) (s : State) : Step :=
  .next (if !s.seamUp || !s.boltUp || flitOk 0 f then s else s.sendAckFlit d 0xB (s.seamEnd d).expect)

/-- PD_MSG_FLIT. -/
def execPdMsgFlit (d : Die) (f : FlitBody) (s : State) : Step := .next (s.carryFlit d 4 f)

/-- USB_FLIT. -/
def execUsbFlit (d : Die) (f : FlitBody) (s : State) : Step := .next (s.carryFlit d 5 f)

/-- The causes by which an EVENT flit of the snapshot tells a power gate's STATUS (0xC0 + gate) and a Dock port's contract (0xD0 +
port), with the block ID as for INT_STATUS (DESIGN CHOICE, assumption log 67). -/
def gateCause (n : Nat) : Nat := 0xC0 + n
def contractCause (p : Nat) : Nat := 0xD0 + p

/-- What an EVENT flit tells the bolt die (spec/02 R38, R42; spec/20 R433): a gate's state, a Dock port's contract, or a spool
block's INT_STATUS, which its PLIC source follows; an event is counted. -/
def State.noteEvent (s : State) (w blk cause : Nat) : State :=
  if 0xC0 ≤ cause ∧ cause < 0xC7 then { s with bolt.ctl.gateCopy := putKey 0 (cause - 0xC0) w s.bolt.ctl.gateCopy }
  else if 0xD0 ≤ cause ∧ cause < 0xD6 then { s with bolt.ctl.contractCopy := putKey 0 (cause - 0xD0) w s.bolt.ctl.contractCopy }
  else
    let s1 := { s with bolt.ctl.intCopy := putKey 0 blk w s.bolt.ctl.intCopy }
    (if cause = 0xFF then s1 else s1.countEvent (blk * 256 + cause)).refreshInts

/-- An EVENT flit of the snapshot has arrived; with the last of them SNAPSHOT_DONE is set (spec/02 R42). -/
def State.snapFlit (s : State) : State :=
  if s.bolt.ctl.snapLeft = 0 then s
  else
    let s1 := { s with bolt.ctl.snapLeft := s.bolt.ctl.snapLeft - 1 }
    if s1.bolt.ctl.snapLeft = 0 then s1.set F.SEAM_STATUS_SNAPSHOT_DONE 1 else s1

/-- EVENT_FLIT (spec/02 R38, R42). -/
def execEventFlit (f : FlitBody) (s : State) : Step :=
  .next (s.flitRx .bolt 6 f fun s =>
    (s.noteEvent (slice f.data.toNat 0 32) (slice f.data.toNat 32 8) (slice f.data.toNat 40 8)).snapFlit)

/-- NVS_REQ_FLIT. -/
def execNvsReqFlit (f : FlitBody) (s : State) : Step := .next (s.carryFlit .spool 7 f)

/-- NVS_DATA_FLIT. -/
def execNvsDataFlit (d : Die) (f : FlitBody) (s : State) : Step := .next (s.carryFlit d 8 f)

/-- SWITCH_FLIT (spec/02 R40): P10 frame data crosses. -/
def execSwitchFlit (d : Die) (f : FlitBody) (s : State) : Step := .next (s.carryFlit d 9 f)

/-- ACK_FLIT (spec/02 R41). -/
def execAckFlit (d : Die) (f : FlitBody) (s : State) : Step :=
  .next (if !s.seamUp || !s.boltUp then s
    else if !flitOk 0xA f then s.sendAckFlit d 0xB (s.seamEnd d).expect
    else
      let e := s.seamEnd d
      (s.setSeamEnd d { e with replay := freeFlits f.seq.toNat e.replay }).pump d 128)

/-- NAK_FLIT (spec/02 R41): the flits before the named one are acknowledged, the named one has failed. -/
def execNakFlit (d : Die) (f : FlitBody) (s : State) : Step :=
  .next (if !s.seamUp || !s.boltUp then s
    else if !flitOk 0xB f then s.sendAckFlit d 0xB (s.seamEnd d).expect
    else s.resendFlits d f.seq.toNat)

/-- FLIT_ACK_TIMEOUT (spec/02 R41): the oldest unacknowledged flit of a die has failed. -/
def execFlitAckTimeout (d : Die) (s : State) : Step :=
  .next (if !s.seamUp || !s.boltUp then s
    else match (s.seamEnd d).replay with
      | [] => s
      | f :: _ => s.resendFlits d f.seq)

/-- SEAM_RX_TIMEOUT (spec/02 R41). -/
def execSeamRxTimeout (_d : Die) (s : State) : Step := .next (if s.boltUp then s.seamDown else s)

/-- SEAM_RETRAIN_TIMER (spec/02 R42): a retrain attempt starts.  SEAM_CTRL.RETRAIN shows an automatic attempt as it shows one the
host starts: a DESIGN CHOICE, the spec describes the bit for the host's (assumption log 70). -/
def execSeamRetrainTimer (s : State) : Step :=
  .next (s.ifBolt fun s =>
    if !s.seamUp && s.on F.SEAM_CTRL_AUTO_RETRAIN then s.set F.SEAM_CTRL_RETRAIN 1 else s)

/-- RETRAIN (spec/02 R42): the host starts an attempt; with the seam up there is nothing to retrain. -/
def execRetrain (who : Requester) (s : State) : Step :=
  .next (s.command who R.SEAM_CTRL (s.rd R.SEAM_CTRL ||| 2) fun s => if s.seamUp then s.set F.SEAM_CTRL_RETRAIN 0 else s)

/-- The spool blocks. -/
def spoolIds : List Nat := [0x20, 0x21, 0x22, 0x23, 0x24, 0x25, 0x26]

/-- The spool die sends its snapshot before any other flit (spec/02 R42): every spool INT_STATUS, each power gate's state, each PD
contract. -/
def State.sendSnapshot (s : State) : State :=
  let tell (blk w cause : Nat) (s : State) : State := s.sendFlit .spool 6 0 (cause * 2 ^ 40 + blk * 2 ^ 32 + w)
  let s1 := s.each spoolIds fun id s => tell id (s.intStatus (blockBase id)) 0xFF s
  let s2 := s1.each (List.range 7) fun n s => tell 0x22 (s.rd (R.PGT_GATE_STATUS n)).toNat (gateCause n) s
  s2.each (List.range 6) fun p s => tell 0x20 (s.rd (R.TCP_PORT_CONTRACT p)).toNat (contractCause p) s

/-- What recovery does (spec/02 R41 to R44): lost writes reported, the down period logged, the snapshot sent, held records
and items written, a tamper response owed carried out. -/
def State.seamRecover (s : State) (downUs : Nat) : State :=
  let lost := s.bolt.ctl.wrSent
  let s1 := s.sets [(F.SEAM_STATUS_UP, 1), (F.SEAM_STATUS_SNAPSHOT_DONE, 0), (F.LAN_STATUS_SEAM_DOWN, 0), (F.SEAM_CTRL_RETRAIN, 0)]
  let s2 := if s1.bolt.ctl.down then
      s1.sets [(F.SEAM_LOST_WR_COUNT, min 16 lost.length), (F.SEAM_LOST_WR_ADDR_ADDR, lost.headD 0)]
    else s1
  let held := s2.bolt.held
  let items := s2.bolt.heldItems
  let dropped := s2.bolt.heldDropped
  let was := s2.bolt.ctl.down
  let s3 := { s2 with
    bolt.ctl.wrSent := [], bolt.ctl.snapLeft := 20, bolt.ctl.down := false, spool.applied := 0
    bolt.held := [], bolt.heldItems := [], bolt.heldDropped := 0 }.sendSnapshot
  let s4 := s3.each (held ++ items) fun op s => s.nvsPut op
  let s5 := if dropped = 0 then s4 else s4.boltFault 0x10 0x1001 dropped 0 0
  let s6 := if was then
      s5.boltFault 0x11 0x1101 (min downUs (2 ^ 32 - 1)) (s5.get F.SEAM_LOST_WR_COUNT) (s5.get F.SEAM_LOST_WR_ADDR_ADDR)
    else s5
  (((s6.refreshInts).irq bSeam 1).tamperDeliver).keyResume

/-- The token passes to firmware because of a lapse (0) or a stopped path (1) (spec/02 R28; spec/20 R444). -/
def State.tokenHome (s : State) (cause : Nat) : State :=
  let old := s.get F.TOP_HOST_TOKEN_OWNER
  if old = 0 then s
  else
    let s1 := s.sets [(F.TOP_HOST_TOKEN_OWNER, 0), (F.TOP_HOST_TOKEN_EPOCH, s.get F.TOP_HOST_TOKEN_EPOCH + 1)]
    (s1.boltFault 0x01 0x0101 old (s1.get F.TOP_HOST_TOKEN_EPOCH) cause).refreshInts

/-- The bolt die's registers and state at their reset values; those of the spool die are kept (spec/01 R24).  The straps last
sampled stand (spec/22 R464). -/
def State.boltReset (s : State) : State :=
  let st := s.spool.strapsKept
  let s1 := { s with bolt := { Bolt.reset with testN := bit st 3 }, spool.seam := SeamEnd.reset, spool.applied := 0 }
  let s2 : State := { s1 with regs := s1.regs.filter fun r => 0x50000000 ≤ r.1 }
  s2.sets [(F.TOP_BOOT_STATUS_BOOT_SRC, st % 4), (F.TOP_BOOT_STATUS_MASTER_OK, b2n (bit st 2)),
    (F.TOP_BOOT_STATUS_TEST_N, b2n (bit st 3)), (F.LAN_STATUS_SEAM_DOWN, 1),
    (F.CLK_STATUS_REFCLK_OK, b2n s.spool.refclk)]

/-- PWR's request for bolt power, shown in BOLT_REQ of both blocks. -/
def State.boltReq (s : State) : Bool := s.on F.PGT_STATUS_BOLT_REQ
def State.setBoltReq (s : State) (b : Bool) : State := s.sets [(F.PGT_STATUS_BOLT_REQ, b2n b), (F.PWR_STATUS_BOLT_REQ, b2n b)]

/-- A wake begins: MOVING, its cause (spec/18 R391, R392). -/
def State.wakeBegins (s : State) (cause : Nat) : State :=
  { s with spool.pwr := { s.spool.pwr with waking := true, go := false, warm := false, cold := false } }.sets
    [(F.PWR_STATUS_MOVING, 1), (F.PWR_STATUS_WAKE_CAUSE, cause)]

/-- PG0_GOOD rises: the straps are sampled and the bolt die's registers reset (spec/01 R24, spec/22 R464).  Where the bolt die
had lost power without a command a wake begins, with WAKE_CAUSE 4 (spec/18 R392). -/
def State.pg0Rise (s : State) : State :=
  let s1 := { s.set F.PGT_STATUS_PG0_GOOD 1 with spool.strapsKept := s.spool.straps }
  let s2 := if s1.spool.pwr.started && !s1.spool.pwr.waking then s1.wakeBegins 4
    else { s1 with spool.pwr := { s1.spool.pwr with started := true, go := false, warm := false, cold := false } }
  ((s2.boltReset).setB F.PGT_EVENT_GATES_GATES 0).irq 0x50200000 6

/-- PG0_GOOD falls: the bolt die's state is lost (spec/01 R24; spec/17 R379); bolt power stays withdrawn for 5 ms (spec/18
R390), and is wanted again unless PWR has withdrawn it. -/
def State.pg0Fall (s : State) : State :=
  let w := s.boltReq
  let s1 := (((s.set F.PGT_STATUS_PG0_GOOD 0).boltReset).setB F.PGT_EVENT_GATES_GATES 0).irq 0x50200000 6
  { s1.setBoltReq false with spool.pwr := { s1.spool.pwr with hold := true, want := w } }

/-- PG0_GOOD follows PG0's power-good and PWR's request (spec/17 R379). -/
def State.drivePg0 (s : State) : State :=
  let want := s.on (F.PGT_GATE_STATUS_PGOOD 0) && s.boltReq
  if want = s.boltPowered then s else if want then s.pg0Rise else s.pg0Fall

end Sys2Proof.Machine
end

