-- ==== Sys2Proof/Machine/Gates.lean ====
section
/-! DEFINITION. The power gates (spec/17): windows, start-up, openings, trips, retries, pending fields, checks. -/

namespace Sys2Proof.Machine

/-- Base address of PGT. -/
abbrev bPgt : Nat := 0x50200000

/-- GSTATE codes (spec/17 R374). -/
abbrev gsOff : Nat := 0
abbrev gsWindow : Nat := 1
abbrev gsInsert : Nat := 2
abbrev gsPre : Nat := 3
abbrev gsRamp : Nat := 4
abbrev gsOn : Nat := 5
abbrev gsWait : Nat := 6
abbrev gsLatched : Nat := 7
abbrev gsFast : Nat := 8
abbrev gsRide : Nat := 9

/-- A gate's own state, and it changed. -/
def State.gate (s : State) (n : Nat) : GateSt := s.spool.gates.getD n GateSt.reset
def State.mapGate (s : State) (n : Nat) (f : GateSt → GateSt) : State :=
  { s with spool.gates := setAt s.spool.gates n (f (s.gate n)) }

/-- A Dock port's own state, and it changed. -/
def State.dock (s : State) (p : Nat) : DockPort := s.spool.docks.getD p DockPort.reset
def State.mapDock (s : State) (p : Nat) (f : DockPort → DockPort) : State :=
  { s with spool.docks := setAt s.spool.docks p (f (s.dock p)) }

/-- GSTATE of a gate. -/
def State.gstate (s : State) (n : Nat) : Nat := s.get (F.PGT_GATE_STATUS_GSTATE n)

/-- What a gate drives on PGn_GATE and PGn_PRE: RAMP regulates the rise, and the precharge path conducts from PRECHARGE until
power-good (spec/17 R370, R374). -/
def State.pgPins (s : State) (n : Nat) : Nat × Nat × Bool :=
  let gs := s.gstate n
  let ramp := decide (gs = gsRamp)
  (if ramp then 1 else if gs = gsOn || gs = gsRide || gs = gsFast then 2 else 0,
    if ramp then s.get (F.PGT_GATE_RAMP_DVDT n) else 0, s.on (F.PGT_GATE_CTRL_PRE_EN n) && (gs = gsPre || ramp))

/-- GSTATE changes, and the pins with it. -/
def State.setGs (s : State) (n gs : Nat) : State :=
  let s1 := s.set (F.PGT_GATE_STATUS_GSTATE n) gs
  let p := s1.pgPins n
  if s.pgPins n = p then s1 else s1.emit (.gatePins n p.1 p.2.1 p.2.2)

/-- A gate event: the cause raised, the gate named in PGT_EVENT_GATES. -/
def State.gateEvent (s : State) (n cause : Nat) : State := (s.setB F.PGT_EVENT_GATES_GATES n).irq bPgt cause

/-- The thresholds UV_ON, UV_OFF, OV_OFF, OV_ON of a gate in units of 10 µV; with TRACK from its port's setpoint, during a
transition from the lower and the higher of the old and new ones (spec/17 R372). -/
def State.thresholds (s : State) (n : Nat) : Nat × Nat × Nat × Nat :=
  if n ≠ 0 && s.on (F.PGT_GATE_CTRL_TRACK n) then
    let d := s.dock (n - 1)
    let moving := s.on (F.TCP_PORT_STATUS_TRANSITION (n - 1))
    let lo := if moving then min d.vset d.vold else d.vset
    let hi := if moving then max d.vset d.vold else d.vset
    (90 * lo, 80 * lo, 110 * hi, 105 * hi)
  else
    (10000 * s.get (F.PGT_GATE_WIN_UV_UV_ON n), 10000 * s.get (F.PGT_GATE_WIN_UV_UV_OFF n),
      10000 * s.get (F.PGT_GATE_WIN_OV_OV_OFF n), 10000 * s.get (F.PGT_GATE_WIN_OV_OV_ON n))

/-- The window flags follow an input voltage in mV (spec/17 R372). -/
def State.measureVin (s : State) (n vin : Nat) : State :=
  let (uvOn, uvOff, ovOff, ovOn) := s.thresholds n
  let v := 100 * vin
  (s.mapGate n fun g => { g with
    vin := vin
    uvIn := if uvOn < v then true else if v < uvOff then false else g.uvIn
    ovOut := if ovOff < v then true else if v < ovOn then false else g.ovOut }).set (F.PGT_GATE_VMEAS_VIN n) (min 1023 (vin / 100))

/-- An output voltage in mV as measured; below 0.8 V a discharge ends (spec/17 R377). -/
def State.measureVout (s : State) (n vout : Nat) : State :=
  let s1 := (s.mapGate n fun g => { g with vout := vout }).set (F.PGT_GATE_VMEAS_VOUT n) (min 1023 (vout / 100))
  if vout < 800 then s1.set (F.PGT_GATE_STATUS_DSCH n) 0 else s1

/-- The input is inside its windows (spec/17 R372). -/
def State.inside (s : State) (n : Nat) : Bool := (s.gate n).uvIn && !(s.gate n).ovOut

/-- The gate is enabled and commanded on: PG0 by CTRL.ON, the others by their TCP port or, with OWNER 1, by CTRL.ON
(spec/17 R374); PWR commands every gate open in OFF and some Dock gates in STANDBY (spec/17 R379, R382). -/
def State.commanded (s : State) (n : Nat) : Bool :=
  decide (s.get (F.PGT_GATE_STATUS_STATE n) = 2) && !s.spool.pwr.off && !s.spool.pwr.opened.contains n &&
    if n = 0 || s.on (F.PGT_GATE_CTRL_OWNER n) then s.on (F.PGT_GATE_CTRL_ON n) else (s.gate n).cmd

/-- The gate conducts. -/
def State.conducts (s : State) (n : Nat) : Bool := [gsPre, gsRamp, gsOn, gsFast, gsRide].contains (s.gstate n)

/-- The PG0 boot record as its registers stand (spec/20 R441). -/
def State.bootRecord (s : State) : List Byte :=
  ([R.PGT_GATE_CTRL 0, R.PGT_GATE_WIN_UV 0, R.PGT_GATE_WIN_OV 0, R.PGT_GATE_TIMING 0, R.PGT_GATE_RAMP 0, R.PGT_GATE_LIMIT 0,
    R.PGT_GATE_I2T 0, R.PGT_GATE_RETRY 0].flatMap fun a => leBytes 4 (s.rd a).toNat) ++ List.replicate 8 0

/-- The pending copy of a gate takes effect; that of PG0 rewrites the boot record (spec/17 R380, R381). -/
def State.applyPending (s : State) (n : Nat) : State :=
  let own (x : Nat × Word) : Bool := R.PGT_GATE_CTRL n ≤ x.1 && x.1 < R.PGT_GATE_CTRL n + 0x80
  let mine := s.spool.gatePending.filter own
  if mine.isEmpty then s
  else
    let s1 := s.each mine fun x s => s.wr x.1 x.2
    let rest := s.spool.gatePending.filter fun x => !own x
    let s2 := { s1 with spool.gatePending := rest }.set (F.PGT_GATE_STATUS_PEND n) 0
    if n = 0 then s2.nvsPut (.identity 0x50 s2.bootRecord) else s2

/-- WAIT_WINDOW, and INSERT at once where the input is inside its windows. -/
def State.toWindow (s : State) (n : Nat) : State :=
  s.setGs n (if s.inside n then gsInsert else gsWindow)

/-- A start from OFF, RETRY_WAIT's end or LATCHED: the pending copy first (spec/17 R374, R381). -/
def State.launch (s : State) (n : Nat) : State := (s.applyPending n).toWindow n

/-- A start is requested: from OFF the gate starts; RETRY_WAIT and LATCHED keep it waiting (spec/17 R378). -/
def State.startGate (s : State) (n : Nat) : State :=
  if s.gstate n = gsOff && s.commanded n then s.launch n else s

/-- Power-good as driven and shown; PG0_GOOD follows that of PG0 (spec/17 R379). -/
def State.setPgood (s : State) (n : Nat) (b : Bool) : State :=
  if s.on (F.PGT_GATE_STATUS_PGOOD n) = b then s
  else
    let s1 := (s.set (F.PGT_GATE_STATUS_PGOOD n) (b2n b)).gateEvent n 1
    if n = 0 then s1.drivePg0 else s1

/-- A gate opens with a cause into a state (spec/17 R373, R375, R383). -/
def State.openGate (s : State) (n cause gs : Nat) : State :=
  ((s.set (F.PGT_GATE_STATUS_CAUSE n) cause).setGs n gs).setPgood n false

/-- A commanded opening; an OFF gate, or one that waits or is latched, is left OFF or as it is. -/
def State.commandOff (s : State) (n : Nat) : State :=
  if s.conducts n || s.gstate n = gsWindow || s.gstate n = gsInsert then s.openGate n 1 gsOff else s

/-- An opening on a window: counted, not a trip; the gate starts again once the input is inside (spec/17 R373). -/
def State.windowOpen' (s : State) (n cause : Nat) : State :=
  let s1 := ((s.openGate n cause gsWindow).sat (F.PGT_GATE_CNT3_WINDOW n) 1).gateEvent n 4
  if s1.commanded n then s1.toWindow n else s1.setGs n gsOff

/-- ON and RIDE against the windows (spec/17 R373). -/
def State.watchWindows (s : State) (n : Nat) : State :=
  let g := s.gate n
  if s.gstate n = gsOn || s.gstate n = gsRide then
    if g.ovOut then s.windowOpen' n 3
    else if !g.uvIn then s.setGs n gsRide
    else s.setGs n gsOn
  else s

/-- USB shows an over-current on the hub port of a Dock gate, and its change (spec/17 R377, spec/16 R352). -/
def State.overcurrent (s : State) (n : Nat) (b : Bool) : State :=
  if n = 0 then s
  else if s.on (F.USB_PORT_STATUS_OVERCURRENT n) = b then s
  else
    let s1 : State := { s with spool.usb := { s.spool.usb with
      changes := setAt s.spool.usb.changes n (setBit (s.spool.usb.changes.getD n 0) 3) } }
    (s1.set (F.USB_PORT_STATUS_OVERCURRENT n) (b2n b)).irq 0x50100000 2

/-- A trip (spec/17 R377): the gate opens, a Dock gate in source direction discharges, the trip is counted; RETRY_WAIT lasts
max(32 × A, RETRY_MIN_MS), or the gate is LATCHED. -/
def State.tripGate (s : State) (n cause aUs : Nat) : State :=
  let s1 := if cause = 4 then s.sat (F.PGT_GATE_CNT_FAST n) 1
    else if cause = 5 then s.sat (F.PGT_GATE_CNT_SLOW n) 1
    else if cause = 8 then s.sat (F.PGT_GATE_CNT2_RAMP_FAIL n) 1
    else s.sat (F.PGT_GATE_CNT2_PRE_FAIL n) 1
  let s2 := (s1.sat (F.PGT_GATE_ATTEMPT_COUNT n) 1).set (F.PGT_GATE_ATTEMPT_A_US n) (min aUs (2 ^ 24 - 1))
  let mx := s2.get (F.PGT_GATE_RETRY_RETRY_MAX n)
  let latch := mx ≠ 0 && mx ≤ s2.get (F.PGT_GATE_ATTEMPT_COUNT n)
  let wait := max ((32 * aUs + 999) / 1000) (s2.get (F.PGT_GATE_RETRY_RETRY_MIN_MS n))
  let s3 := s2.set (F.PGT_GATE_WAIT_LEFT_MS n) (if latch then 0 else min wait (2 ^ 20 - 1))
  let s4 := if n ≠ 0 && !s3.on (F.PGT_GATE_STATUS_DIR n) then s3.set (F.PGT_GATE_STATUS_DSCH n) 1 else s3
  let s5 := (s4.openGate n cause (if latch then gsLatched else gsWait)).gateEvent n 2
  (if latch then s5.gateEvent n 3 else s5).overcurrent n true

/-- COUNT returns to 0. -/
def State.clearCount (s : State) (n : Nat) : State := s.set (F.PGT_GATE_ATTEMPT_COUNT n) 0

/-- RETRY_WAIT ends or LATCHED is left (spec/17 R377, R378). -/
def State.leaveWait (s : State) (n : Nat) : State :=
  let s1 := (s.set (F.PGT_GATE_WAIT_LEFT_MS n) 0).setGs n gsOff
  if s1.commanded n then s1.launch n else s1

/-- CMD.CLEAR (spec/17 R377): a latched gate goes to OFF, from where a gate that is commanded on starts. -/
def State.clearGate (s : State) (n : Nat) : State :=
  let s1 := s.clearCount n
  if s1.gstate n = gsLatched then s1.leaveWait n else s1

/-- A removal (spec/17 R378). -/
def State.removal (s : State) (n : Nat) : State :=
  let s1 := s.clearCount n
  if s1.gstate n = gsWait || s1.gstate n = gsLatched then s1.leaveWait n else s1

/-- The end of INSERT: the attempt begins with E at 0 (spec/17 R374, R376). -/
def State.insertDone (s : State) (n : Nat) : State :=
  if s.gstate n = gsInsert && s.inside n then
    ((s.mapGate n fun g => { g with e := 0 }).set (F.PGT_GATE_IMEAS_I2T_PCT n) 0).setGs n
      (if s.on (F.PGT_GATE_CTRL_PRE_EN n) then gsPre else gsRamp)
  else s

/-- FAST_START (spec/17 R375, R383): refused in RETRY_WAIT and LATCHED, on a gate without BIDIR, and with the input outside
its windows.  True: the gate conducts. -/
def State.fastStart (s : State) (n : Nat) : State × Bool :=
  if s.gstate n = gsWait || s.gstate n = gsLatched || !s.on (F.PGT_GATE_CTRL_BIDIR n) ||
      s.get (F.PGT_GATE_STATUS_STATE n) ≠ 2 then
    ((s.set (F.PGT_GATE_STATUS_CAUSE n) 9).gateEvent n 5, false)
  else
    let s1 := ((s.applyPending n).mapGate n fun g => { g with e := 0, cmd := true }).sat (F.PGT_GATE_CNT3_FRS_START n) 1
    let s2 := (s1.sets [(F.PGT_GATE_STATUS_DIR n, 0), (F.PGT_GATE_IMEAS_I2T_PCT n, 0)]).setGs n gsFast
    if s2.inside n then (s2, true) else ((s2.openGate n 9 gsOff).gateEvent n 5, false)

/-- RAMP or FAST_START reaches power-good (spec/17 R374, R375); so does a gate that lost it in RIDE. -/
def State.rampDone (s : State) (n vout vgs : Nat) : State :=
  let s1 := (s.measureVout n vout).set (F.PGT_GATE_VMEAS_VGS n) (min 255 vgs)
  if (s1.gstate n = gsRamp || s1.gstate n = gsFast) && 100 ≤ vgs && (s1.gate n).vin ≤ vout + 1000 then
    let s2 := ((s1.setGs n gsOn).setPgood n true).overcurrent n false
    s2.watchWindows n
  else if (s1.gstate n = gsOn || s1.gstate n = gsRide) && 100 ≤ vgs && (s1.gate n).vin ≤ vout + 1000 then s1.setPgood n true
  else s1

/-- I2T every 10 µs (spec/17 R376): E = max(0, E + (I² − LIMIT²) × 10 µs); the percentage shown. -/
def State.i2t (s : State) (n i : Nat) : State :=
  let lim := s.get (F.PGT_GATE_LIMIT_LIMIT n)
  let level := lim * lim * s.get (F.PGT_GATE_I2T_T_TRIP n) * 100
  let e := (s.gate n).e + i * i - lim * lim
  let pct := if level = 0 then 100 else 100 * e / level
  let up := level ≠ 0 && 100 * e % level ≠ 0 && Config.roundUp (100 * e : Nat) level
  (s.mapGate n fun g => { g with e := e }).sets [(F.PGT_GATE_IMEAS_CURRENT n, min i 8191),
    (F.PGT_GATE_IMEAS_I2T_PCT n, min 127 (pct + b2n up))]

/-- E has reached the trip level. -/
def State.i2tTrips (s : State) (n : Nat) : Bool :=
  let lim := s.get (F.PGT_GATE_LIMIT_LIMIT n)
  decide (lim * lim * s.get (F.PGT_GATE_I2T_T_TRIP n) * 100 ≤ (s.gate n).e)

/-- The check of a gate at enable (spec/17 R384). -/
def State.checkGate (s : State) (n : Nat) : Option (Nat × Nat) :=
  let g (f : Nat → Fld) : Nat := s.get (f n)
  let uvOn := g F.PGT_GATE_WIN_UV_UV_ON
  let uvOff := g F.PGT_GATE_WIN_UV_UV_OFF
  let ovOff := g F.PGT_GATE_WIN_OV_OV_OFF
  let ovOn := g F.PGT_GATE_WIN_OV_OV_ON
  let ins := g F.PGT_GATE_TIMING_INS_MS
  let pre := g F.PGT_GATE_TIMING_PRE_TO_MS
  let short := g F.PGT_GATE_TIMING_SHORT_MS
  let sh := g F.PGT_GATE_LIMIT_SHUNT
  let rmin := g F.PGT_GATE_RETRY_RETRY_MIN_MS
  let rem := g F.PGT_GATE_RETRY_REMOVE_MS
  let reserved := s.get ⟨R.PGT_GATE_CTRL n, 7, 25⟩ ≠ 0 || s.get ⟨R.PGT_GATE_WIN_UV n, 20, 12⟩ ≠ 0 ||
    s.get ⟨R.PGT_GATE_WIN_OV n, 20, 12⟩ ≠ 0 || s.get ⟨R.PGT_GATE_RAMP n, 27, 5⟩ ≠ 0 ||
    s.get ⟨R.PGT_GATE_LIMIT n, 29, 3⟩ ≠ 0 || s.get ⟨R.PGT_GATE_I2T n, 14, 18⟩ ≠ 0 || s.get ⟨R.PGT_GATE_RETRY n, 28, 4⟩ ≠ 0
  let range := 650 < uvOn || 650 < uvOff || 650 < ovOff || 650 < ovOn || ins < 1 || 2500 < ins || pre < 1 || 4000 < pre ||
    short < 1 || g F.PGT_GATE_RAMP_DVDT < 1 || 640 < g F.PGT_GATE_RAMP_DVDT || g F.PGT_GATE_RAMP_RAMP_TO_MS < 1 ||
    100 < g F.PGT_GATE_RAMP_UV_RIDE_MS || sh < 100 || 50000 < sh || g F.PGT_GATE_I2T_T_TRIP < 1 ||
    10000 < g F.PGT_GATE_I2T_T_TRIP || rmin < 10 || 1000 < rmin || rem < 10 || 1000 < rem
  if reserved then some (0x02, 0xFFFF)
  else if range then some (0x01, 0xFFFF)
  else if uvOn ≤ uvOff ∨ ovOff ≤ ovOn ∨ ovOn ≤ uvOn then some (0x10, 0xFFFF)
  else if 10000000 < 2 * g F.PGT_GATE_LIMIT_LIMIT * sh then some (0x11, 0xFFFF)
  else if pre ≤ short then some (0x12, 0xFFFF)
  else if n ≠ 0 && !s.on (F.PGT_GATE_CTRL_BIDIR n) &&
      (s.on (F.TCP_PORT_CTRL_SINK_PATH (n - 1)) || s.on (F.TCP_PORT_CTRL_FRS (n - 1))) then some (0x13, 0xFFFF)
  else if n = 0 && (s.on (F.PGT_GATE_CTRL_OWNER 0) || s.on (F.PGT_GATE_CTRL_TRACK 0) || s.on (F.PGT_GATE_CTRL_STBY_OFF 0)) then
    some (0x14, 0xFFFF)
  else none

end Sys2Proof.Machine
end

