-- ==== Sys2Proof/Machine/Dock.lean ====
section
/-! DEFINITION. What the Dock ports and the USB hub share: a port's state, its messages, its gate (spec/15, spec/17). -/

namespace Sys2Proof.Machine

/-- Base address of TCP. -/
abbrev bTcp : Nat := 0x50000000

/-- A port event: the cause raised, the port named in TCP_EVENT_PORTS. -/
def State.tcpEvent (s : State) (p cause : Nat) : State := (s.setB F.TCP_EVENT_PORTS_PORTS p).irq bTcp cause

/-- A PD message sent, and an act at the port's wires. -/
def State.pd (s : State) (p : Nat) (m : PdMsg) : State := s.emit (.pd p m)
def State.typec (s : State) (p : Nat) (a : TypecAct) : State := s.emit (.typec p a)

/-- The port answers its wires: its unit is ON; a held port stays so (spec/15 R349). -/
def State.dockOn (s : State) (p : Nat) : Bool := decide (s.get (F.TCP_PORT_STATUS_STATE p) = 2) || s.on (F.TCP_PORT_STATUS_HELD p)

/-- Attached.SRC, Attached.SNK, either. -/
def State.isSource (s : State) (p : Nat) : Bool := decide (s.get (F.TCP_PORT_STATUS_CC p) = 3)
def State.isSink (s : State) (p : Nat) : Bool := decide (s.get (F.TCP_PORT_STATUS_CC p) = 4)
def State.attached (s : State) (p : Nat) : Bool := s.isSource p || s.isSink p

/-- An explicit contract (SPR or EPR). -/
def State.explicit (s : State) (p : Nat) : Bool := decide (2 ≤ s.get (F.TCP_PORT_STATUS_CONTRACT p))

/-- The port's gate is driven: commanded on in a direction, or off (spec/17 R374). -/
def State.gateOnFor (s : State) (p : Nat) (sink : Bool) : State :=
  ((s.mapGate (p + 1) fun g => { g with cmd := true }).set (F.PGT_GATE_STATUS_DIR (p + 1)) (b2n sink)).startGate (p + 1)
def State.gateOffFor (s : State) (p : Nat) : State :=
  let s1 := s.mapGate (p + 1) fun g => { g with cmd := false }
  if s1.commanded (p + 1) then s1 else s1.commandOff (p + 1)

end Sys2Proof.Machine
end

