-- ==== Sys2Proof/Machine/HubCore.lean ====
section
/-! DEFINITION. The USB hub's state and its upstream connection, which follows the Dock ports (spec/16 R353, R354). -/

namespace Sys2Proof.Machine

/-- Base address of USB. -/
abbrev bUsb : Nat := 0x50100000

/-- The USB hub's own state changed. -/
def State.mapUsb (s : State) (f : Usb → Usb) : State := { s with spool.usb := f s.spool.usb }

/-- Something at the hub's wires. -/
def State.usbOut (s : State) (o : UsbOut) : State := s.emit (.usb o)

/-- The hub is ON. -/
def State.usbOn (s : State) : Bool := s.isOn .usb

/-- The upstream choice (spec/16 R353). -/
def State.upstream (s : State) : Nat := s.get F.USB_CFG_UPSTREAM

/-- The near and far end of a remote port, and they changed. -/
def State.near (s : State) (k : Nat) : NearPort := s.spool.usb.near.getD k NearPort.reset
def State.mapNear (s : State) (k : Nat) (f : NearPort → NearPort) : State :=
  s.mapUsb fun u => { u with near := setAt u.near k (f (u.near.getD k NearPort.reset)) }
def State.farPort (s : State) (j : Nat) : FarPort := s.spool.usb.far.getD j FarPort.reset
def State.mapFar (s : State) (j : Nat) (f : FarPort → FarPort) : State :=
  s.mapUsb fun u => { u with far := setAt u.far j (f (u.far.getD j FarPort.reset)) }

/-- Hub port k is a near remote port. -/
def State.remotePort (s : State) (k : Nat) : Bool := 1 ≤ k && decide (k ≤ 6) && s.on (F.USB_PORT_CFG_REMOTE k)

/-- The entry of a near remote port. -/
def State.nearEntry (s : State) (k : Nat) : Nat := s.get (F.USB_PORT_CFG_ENTRY k)

/-- The device function as after a bus reset (spec/16 R368): address and configuration 0, toggles DATA0, a control transfer
abandoned, a reply withdrawn. -/
def State.deviceReset (s : State) : State :=
  let u := s.spool.usb
  let s1 := if u.ctrl.isSome then s.sat F.USB_DEV_CNT_ABANDONED 1 else s
  let s2 := s1.sets [(F.USB_DEV_STATUS_ADDR, 0), (F.USB_DEV_STATUS_CONFIGURED, 0), (F.USB_DEV_STATUS_ALT_OUT, 0),
    (F.USB_DEV_STATUS_ALT_IN, 0), (F.USB_DEV_STATUS_SUSPENDED, 0), (F.USB_DEV_STATUS_WAKE_EN, 0)]
  let s3 := s2.mapUsb fun u => { u with
    ctrl := none, reply := none, toggles := [false, false, false], outFifo := [], inFifo := [], outPrev := [] }
  if u.reply.isSome then
    s3.sets [(F.USB_MBX_STATUS_TX_BUSY, 0), (F.USB_MBX_STATUS_CANCELLED, 1), (F.USB_MBX_TX_CTRL_TX_GO, 0)]
  else s3

/-- The hub as after a bus reset. -/
def State.hubReset (s : State) : State :=
  let s1 := s.set F.USB_STATUS_SUSPENDED 0
  let s2 := s1.each [1, 2, 3, 4, 5, 6] fun k s =>
    (s.sets [(F.USB_PORT_STATUS_ENABLED k, 0), (F.USB_PORT_STATUS_SUSPEND k, 0), (F.USB_PORT_STATUS_RESET k, 0)]).mapNear k
      fun x => { x with txs := [], cache := [], outs := [], late := [] }
  (s2.mapUsb fun u => { u with changes := List.replicate 8 0, hubWake := false }).deviceReset

/-- The upstream connection is wanted (spec/16 R354, R355). -/
def State.wantsUpstream (s : State) : Bool :=
  s.usbOn && (s.get F.PWR_STATUS_STATE = 1 || s.get F.PWR_STATUS_STATE = 2) && s.spool.pwr.entry ≠ 2 &&
    (if s.upstream = 0 then s.on F.USB_HC_CTRL_RUN
     else decide (s.upstream ≤ 6) && s.attached (s.upstream - 1) && s.on (F.TCP_PORT_STATUS_DATA (s.upstream - 1)))

/-- Power of a hub port removed (spec/16 R352, R354): it shows nothing connected; the gate of a port attached as source without
an explicit contract is opened (DEDUCED from spec/17 R382); at STANDBY entry PWR opens gates itself. -/
def State.portUnpower (s : State) (k : Nat) : State :=
  let s1 := (s.mapUsb fun u => { u with power := clrBit u.power k }).sets
    [(F.USB_PORT_STATUS_CONNECT k, 0), (F.USB_PORT_STATUS_SPEED k, 0), (F.USB_PORT_STATUS_ENABLED k, 0),
      (F.USB_PORT_STATUS_SUSPEND k, 0), (F.USB_PORT_STATUS_RESET k, 0)]
  if s1.spool.pwr.entry = 0 && 1 ≤ k && k ≤ 6 && !s1.remotePort k && s1.isSource (k - 1) && !s1.explicit (k - 1) then s1.gateOffFor (k - 1) else s1

/-- The upstream connection follows its conditions (spec/16 R354): the hub resets itself as it disconnects. -/
def State.usbReview (s : State) : State :=
  let want := s.wantsUpstream
  if s.on F.USB_STATUS_CONNECTED = want then s
  else if want then ((s.set F.USB_STATUS_CONNECTED 1).usbOut (.pull true)).irq bUsb 1
  else
    let s1 := ((s.set F.USB_STATUS_CONNECTED 0).usbOut (.pull false)).hubReset
    (s1.each [1, 2, 3, 4, 5, 6] fun k s => s.portUnpower k).irq bUsb 1

end Sys2Proof.Machine
end

