-- ==== Sys2Proof/Machine/Tcp.lean ====
section
/-! DEFINITION. The Dock ports (spec/15): attach, moisture, contracts, swaps, Wait, the Elrek mode, the power budget,
detach, held ports. -/

namespace Sys2Proof.Machine

/-- The port carries the Elrek mode (spec/15 R339): ELREK_EN, and its quad in DOCK mode. -/
def State.offersElrek (s : State) (p : Nat) : Bool := s.on (F.TCP_PORT_CTRL_ELREK_EN p) && decide (s.qmode (p / 2) = 0)

/-- The mode VDO (spec/15 R339). -/
def State.modeVdo (s : State) (p : Nat) : Word :=
  BitVec.ofNat 32 (2 ^ 28 + b2n (!s.on (F.LANE_PORT_CTRL_HALF_RATE (2 + p))) * 2 ^ 27 + 2 ^ 26 +
    s.get (F.LANE_PORT_CTRL_FALLBACK (2 + p)) * 2 ^ 25)

/-- The allotment that the port offers from: the staged value while it shrinks (spec/15 R345). -/
def State.allotment (s : State) (p : Nat) : Nat :=
  let live := s.get (F.TCP_BLIVE_LIVE p)
  match (s.dock p).target with
  | some v => min v live
  | none => live

/-- The Rp code for an allotment, none below 10 (spec/15 R331); while the seam is down default current only (spec/02 R44). -/
def State.rpCode (s : State) (p : Nat) : Option Nat :=
  let b := s.allotment p
  if b < 10 then none else if !s.seamUp || b < 30 then some 0 else if b < 60 then some 1 else some 2

/-- The terminations follow the allotment: Rp on a source, open CC where a source-only port may not source (spec/15 R331). -/
def State.advertise (s : State) (p : Nat) : State :=
  match s.rpCode p with
  | some a => s.typec p (.presentRp a)
  | none => s.typec p .openCc

/-- The allotment has changed: a source, and an unattached port that presents Rp, changes its Rp; a DRP port that may source no
more presents Rd; a held port keeps its terminations (spec/15 R331, R345, R349). -/
def State.rpChanged (s : State) (p : Nat) : State :=
  let role := s.get (F.TCP_PORT_CTRL_POWER_ROLE p)
  if !s.dockOn p || s.on (F.TCP_PORT_STATUS_HELD p) || s.on (F.TCP_PORT_STATUS_WET p) || s.isSink p then s
  else if s.isSource p || role = 0 then s.advertise p
  else if role = 2 && (s.dock p).presentRp then
    if (s.rpCode p).isSome then s.advertise p
    else (s.mapDock p fun d => { d with presentRp := false }).typec p .presentRd
  else s

/-- The terminations of an unattached port (spec/15 R330 to R332). -/
def State.idleCc (s : State) (p : Nat) : State :=
  let role := s.get (F.TCP_PORT_CTRL_POWER_ROLE p)
  if s.on (F.TCP_PORT_STATUS_WET p) then (s.set (F.TCP_PORT_STATUS_CC p) 0).typec p .presentRd
  else if role = 0 then (s.set (F.TCP_PORT_STATUS_CC p) 0).advertise p
  else if role = 1 then (s.set (F.TCP_PORT_STATUS_CC p) 0).typec p .presentRd
  else ((s.mapDock p fun d => { d with presentRp := false }).set (F.TCP_PORT_STATUS_CC p) 1).typec p .presentRd

/-- The current in 10 mA that a PDO is offered with (spec/15 R334). -/
def State.pdoCurrent (s : State) (p b : Nat) (w : Word) : Nat :=
  let cable := if s.on (F.TCP_PORT_CABLE_CURR_5A p) then 500 else 300
  min (min (getBits w 0 10) cable) (25000 * b / (50 * getBits w 10 10))

/-- The PDOs of a range of positions that are offered: word, voltage in 50 mV, current. -/
def State.offersIn (s : State) (p b : Nat) (l : List Nat) : List (Word × Nat × Nat) :=
  l.filterMap fun i =>
    let w := s.rd (R.TCP_PORT_PDO p i)
    let c := s.pdoCurrent p b w
    if w = 0 || c < 50 then none else some (setBits w 0 10 c, getBits w 10 10, c)

/-- Source_Capabilities (spec/15 R334): the words, and what is offered at which object position.  EPR objects stand from
position 8, behind zeros, and only in EPR mode with an EPR-capable e-marked cable. -/
def State.caps (s : State) (p : Nat) : List Word × List (Nat × Nat × Nat) :=
  let b := s.allotment p
  if s.pdoCurrent p b (s.rd (R.TCP_PORT_PDO p 0)) < 50 then ([], [])
  else
    let spr := s.offersIn p b (List.range 7)
    let epr := if (s.dock p).epr && s.on (F.TCP_PORT_CABLE_EMARKED p) && s.on (F.TCP_PORT_CABLE_EPR_OK p) then
      s.offersIn p b [7, 8, 9, 10] else []
    let pad := if epr.isEmpty then [] else List.replicate (7 - spr.length) (0 : Word)
    let num (k : Nat) (l : List (Word × Nat × Nat)) : List (Nat × Nat × Nat) :=
      (l.zip (List.range l.length)).map fun x => (k + x.2, x.1.2.1, x.1.2.2)
    (List.flatten [spr.map (·.1), pad, epr.map (·.1)], num 1 spr ++ num 8 epr)

/-- New Source_Capabilities cancel a retry, but never the DR_Swap of a USB upstream port, which never gives up
(spec/15 R331, R338, R350). -/
def State.cancelRetry (s : State) (p : Nat) : State :=
  if (s.dock p).retry && !((s.dock p).own = 2 && s.on (F.TCP_PORT_CTRL_USB_UP p)) then
    s.mapDock p fun d => { d with own := 0, waits := 0, retry := false }
  else s

/-- Source_Capabilities sent, or none where 5 V falls below 0.5 A; while the seam is down a port stays at default Type-C
current, and a held port starts no exchange (spec/15 R334, R349, spec/02 R44). -/
def State.sendCaps (s : State) (p : Nat) : State :=
  if !s.seamUp || s.on (F.TCP_PORT_STATUS_HELD p) then s
  else
    let c := s.caps p
    let s1 := (s.cancelRetry p).mapDock p fun d => { d with offered := c.2 }
    if c.1.isEmpty then s1 else s1.pd p (.sourceCaps c.1)

/-- VBUS discharged after a source port's gate has opened (spec/15 R348). -/
def State.dischargeFor (s : State) (p : Nat) : State :=
  if 800 ≤ (s.gate (p + 1)).vout then s.set (F.PGT_GATE_STATUS_DSCH (p + 1)) 1 else s

/-- The Elrek mode ends: ALT cleared and raised, the transmitter stops, the lane port leaves UP (spec/15 R341; spec/05 R120).
The cause 8 is DEDUCED: the pairs carry nothing any more. -/
def State.altEnd (s : State) (p : Nat) : State :=
  if !s.on (F.TCP_PORT_STATUS_ALT p) then s
  else
    let s1 := (s.sets [(F.TCP_PORT_STATUS_ALT p, 0), (F.TCP_PORT_STATUS_HALF_ONLY p, 0)]).tcpEvent p 6
    let s2 := s1.mapDock p fun d => { d with disc := 4 }
    if !s2.boltUp then s2
    else
      let s3 := s2.setPort (2 + p) { s2.port (2 + p) with sending := false, window := 0 }
      if s3.portUp (2 + p) then s3.portFault (2 + p) 8 else s3

/-- The Elrek mode is entered: STATUS.ALT, the pairs switched to the lanes, LANE told (spec/15 R340; spec/05 R120, R123). -/
def State.altEntered (s : State) (p : Nat) (half : Bool) : State :=
  let s1 := (s.sets [(F.TCP_PORT_STATUS_ALT p, 1), (F.TCP_PORT_STATUS_HALF_ONLY p, b2n half)]).tcpEvent p 6
  if !s1.boltUp || s1.quadDark (2 + p) || s1.bring (2 + p) = 0 then s1
  else
    let s2 := (s1.setPort (2 + p) { s1.port (2 + p) with window := 0 }).startTx (2 + p)
    (s2.set (F.LANE_PORT_STATUS_HALF (2 + p)) (s2.nextHalf (2 + p))).tryCdr (2 + p)

/-- The contract, its transition and every exchange of the port are forgotten; CONTRACT takes `k`. -/
def State.dropContract (s : State) (p k : Nat) : State :=
  let s1 := s.sets [(F.TCP_PORT_STATUS_CONTRACT p, k), (F.TCP_PORT_STATUS_TRANSITION p, 0), (F.TCP_PORT_ASK_KIND p, 0),
    (F.TCP_BLIVE_DRAW p, 0)]
  let s2 := (s1.wr (R.TCP_PORT_CONTRACT p) 0).mapDock p fun d =>
    { DockPort.reset with target := d.target, heldBudget := d.heldBudget, heldWords := d.heldWords, presentRp := d.presentRp }
  s2.typec p (.regulator 5000)

/-- Sum of the live allotments. -/
def State.liveSum (s : State) : Nat := ((List.range 6).map fun p => s.get (F.TCP_BLIVE_LIVE p)).sum

/-- A live allotment stored, with the sum. -/
def State.setLive (s : State) (p v : Nat) : State :=
  let s1 := s.set (F.TCP_BLIVE_LIVE p) v
  s1.set F.TCP_LIVE_SUM_UNITS s1.liveSum

/-- A shrinking port whose draw fits falls to its staged value (spec/15 R345). -/
def State.shrinkPort (s : State) (p : Nat) : State :=
  match (s.dock p).target with
  | none => s
  | some v =>
    if v < s.get (F.TCP_BLIVE_LIVE p) && s.get (F.TCP_BLIVE_DRAW p) ≤ v then
      (s.setLive p v).mapDock p fun d => { d with target := none, again := false, heldBudget := false }
    else s

/-- A growing port takes what the board has left; complete, it advertises it (spec/15 R345). -/
def State.growPort (s : State) (p : Nat) : State :=
  match (s.dock p).target with
  | none => s
  | some v =>
    let live := s.get (F.TCP_BLIVE_LIVE p)
    if v < live then s
    else
      let got := min (v - live) (s.get F.TCP_BOARD_UNITS - s.liveSum)
      let s1 := s.setLive p (live + got)
      if live + got < v then s1
      else
        let s2 := (s1.mapDock p fun d => { d with target := none }).rpChanged p
        if s2.isSource p then s2.sendCaps p else s2

/-- The attachment ends (spec/15 R341, R347, R348): gate opened, VBUS discharged, the mode and the contract ended, DETACH
raised, a moisture test due; a held port is OFF.  The live allotment stays, but for a shrinking port. -/
def State.leaveAttach (s : State) (p : Nat) : State :=
  let src := s.isSource p
  let s1 := (s.altEnd p).gateOffFor p
  let s2 := if src then s1.dischargeFor p else s1
  let s3 := (s2.dropContract p 0).sets [(F.TCP_PORT_STATUS_VCONN p, 0), (F.TCP_PORT_STATUS_DATA p, 0)]
  let s4 := (((s3.wr (R.TCP_PORT_CABLE p) 0).wr (R.TCP_PORT_PARTNER_VDO p) 0).set (F.TCP_PORT_STATUS_CC p) 0).tcpEvent p 2
  let s4 := s4.usbReview
  if s4.on (F.TCP_PORT_STATUS_HELD p) then
    (s4.sets [(F.TCP_PORT_STATUS_HELD p, 0), (F.TCP_PORT_STATUS_STATE p, 0), (F.TCP_PORT_STATUS_CC p, 0)]).typec p .openCc
  else (s4.idleCc p).typec p .moistureTest

/-- A source whose live allotment has fallen below 10 sources nothing any more: its attachment ends (spec/15 R331). -/
def State.starve (s : State) (p : Nat) : State :=
  if s.isSource p && !s.on (F.TCP_PORT_STATUS_HELD p) && decide (s.get (F.TCP_BLIVE_LIVE p) < 10) then s.leaveAttach p else s

/-- The budget moves on (spec/15 R345): shrinking ports first, then growth in port order; the end raises BUDGET_DONE. -/
def State.budgetStep (s : State) : State :=
  let s1 := s.each (List.range 6) fun p s => (s.shrinkPort p).starve p
  let s2 := s1.each (List.range 6) fun p s => s.growPort p
  let held := (List.range 6).any fun p => (s2.dock p).heldBudget
  let s3 := s2.set F.TCP_STATUS_HELD_BUDGET (b2n held)
  if s3.on F.TCP_STATUS_MOVING && (List.range 6).all fun p => (s3.dock p).target.isNone then
    (s3.set F.TCP_STATUS_MOVING 0).irq bTcp 10
  else s3

/-- A commit accepted (spec/15 R345). -/
def State.takeBudget (s : State) : State :=
  let s1 := s.set F.TCP_STATUS_MOVING 1
  let s2 := s1.each (List.range 6) fun p s =>
    let v := s.get (F.TCP_BSTAGE_UNITS p)
    let live := s.get (F.TCP_BLIVE_LIVE p)
    let s3 := s.mapDock p fun d =>
      { d with target := if v = live then none else some v, again := false, heldBudget := false }
    if live ≤ v then s3
    else
      let s4 := if s3.explicit p then s3 else s3.rpChanged p
      if s4.isSource p then s4.sendCaps p else s4
  s2.budgetStep

/-- The attachment ends, and what a shrinking port drew is free (spec/15 R345, R348). -/
def State.endAttach (s : State) (p : Nat) : State := (s.leaveAttach p).budgetStep

/-- Type-C ErrorRecovery (spec/15 R349): CC opens, the partner sees a detach. -/
def State.errorRecovery (s : State) (p : Nat) : State :=
  let held := s.on (F.TCP_PORT_STATUS_HELD p)
  let s1 := (s.endAttach p).typec p .openCc
  if held then s1 else s1.set (F.TCP_PORT_STATUS_CC p) 7

/-- A termination that the attach state explains on CC pin `pin` (spec/15 R332): 1 Ra on the pin not in use, 2 the sink's Rd or
3 the source's Rp on the pin in use. -/
def State.explained (s : State) (p pin term : Nat) : Bool :=
  let used := decide (pin = s.get (F.TCP_PORT_STATUS_ORIENT p))
  (s.attached p && !used && term = 1) || (s.isSource p && used && term = 2) || (s.isSink p && used && term = 3)

/-- The lowest impedance of a moisture test and its pin (spec/15 R332): CC1, CC2, SBU1, SBU2 in turn, an explained CC pin exempt;
of equal impedances the earlier pin's. -/
def State.moistLowest (s : State) (p cc1 cc2 sbu1 sbu2 term1 term2 : Nat) : Nat × Nat :=
  let cc := (if s.explained p 0 term1 then [] else [(cc1, 0)]) ++ if s.explained p 1 term2 then [] else [(cc2, 1)]
  (cc ++ [(sbu1, 2)]).foldr (fun x best => if x.1 ≤ best.1 then x else best) (sbu2, 3)

/-- What a wet result does (spec/15 R332): the port presents Rd only, opens its gate, stops VCONN and leaves the Elrek mode. -/
def State.goWet (s : State) (p : Nat) : State :=
  let s1 := ((s.sat (F.TCP_PORT_CNT3_WET p) 1).set (F.TCP_PORT_STATUS_WET p) 1).tcpEvent p 4
  let s2 := ((s1.gateOffFor p).set (F.TCP_PORT_STATUS_VCONN p) 0).altEnd p
  (if s2.isSource p then s2.endAttach p else s2).typec p .presentRd

/-- The port's own request sent, or sent again (spec/15 R331, R336 to R338, R342). -/
def State.sendOwn (s : State) (p own : Nat) : State :=
  let s1 := s.mapDock p fun d => { d with own := own, retry := false }
  match own with
  | 1 => s1.pd p .prSwap
  | 2 => s1.pd p .drSwap
  | 3 => s1.pd p .vconnSwap
  | 4 => match (s1.dock p).next with
    | some n =>
      let short := n.2.2.1 ≠ s1.get (F.TCP_PORT_SINK_VOLT p) || decide (n.2.1 < s1.get (F.TCP_PORT_SINK_CURR p))
      s1.pd p (.request n.1 n.2.1 (short && s1.on (F.TCP_PORT_CTRL_SINK_PATH p)))
    | none => s1
  | _ => s1

/-- The port's own request is over. -/
def State.endOwn (s : State) (p : Nat) : State := s.mapDock p fun d => { d with own := 0, waits := 0, retry := false }

/-- A USB upstream port that is DFP asks for the UFP role (spec/15 R331). -/
def State.seekUfp (s : State) (p : Nat) : State :=
  if s.on (F.TCP_PORT_CTRL_USB_UP p) && s.get (F.TCP_PORT_STATUS_DATA p) = 0 && (s.dock p).own = 0 &&
      !s.on (F.TCP_PORT_STATUS_HELD p) then s.sendOwn p 2 else s

/-- Power starts after a dry attach: a source applies VBUS and VCONN, reads the cable, sends Source_Capabilities; a sink's gate
passes power with SINK_PATH 1 (spec/15 R330 to R336). -/
def State.powerUp (s : State) (p : Nat) : State :=
  let s1 := s.set (F.TCP_PORT_STATUS_CONTRACT p) 1
  if s1.isSource p then
    let s2 := ((s1.set (F.TCP_PORT_STATUS_VCONN p) 1).typec p (.regulator 5000)).gateOnFor p false
    (((s2.advertise p).pd p (.discover true)).sendCaps p).seekUfp p
  else if s1.on (F.TCP_PORT_CTRL_SINK_PATH p) then s1.gateOnFor p true
  else s1.set (F.PGT_GATE_STATUS_DIR (p + 1)) 1

/-- A wet port is dry again and returns to its configured role (spec/15 R332): a sink attached meanwhile is powered, but for a
source-only port, whose attachment as sink ends. -/
def State.goDry (s : State) (p : Nat) : State :=
  let s1 := s.set (F.TCP_PORT_STATUS_WET p) 0
  if !s1.attached p then s1.idleCc p
  else if s1.get (F.TCP_PORT_CTRL_POWER_ROLE p) = 0 then s1.endAttach p
  else if s1.get (F.TCP_PORT_STATUS_CONTRACT p) = 0 then s1.powerUp p
  else if s1.on (F.TCP_PORT_CTRL_SINK_PATH p) then s1.gateOnFor p true
  else s1

/-- The result of a moisture test (spec/15 R332): wet below WET_KOHM, dry again after DRY_COUNT dry tests; the test that follows
an ErrorRecovery ends it. -/
def State.moistResult (s : State) (p kohm pin : Nat) : State :=
  let wet := decide (kohm < s.get (F.TCP_PORT_TMR2_WET_KOHM p))
  let dry := if wet then 0 else min 15 (s.get (F.TCP_PORT_MOIST_DRY p) + 1)
  let s1 := s.sets [(F.TCP_PORT_MOIST_KOHM p, min 1023 kohm), (F.TCP_PORT_MOIST_PIN p, pin), (F.TCP_PORT_MOIST_DRY p, dry)]
  if wet then s1.goWet p
  else if s1.on (F.TCP_PORT_STATUS_WET p) then
    if s1.get (F.TCP_PORT_TMR2_DRY_COUNT p) ≤ dry then s1.goDry p else s1
  else if s1.get (F.TCP_PORT_STATUS_CC p) = 7 then s1.idleCc p
  else s1

/-- An attach with a role is possible (spec/15 R330 to R332): a wet port presents Rd only, a port below 10 sources nothing. -/
def State.canAttach (s : State) (p : Nat) (sink : Bool) : Bool :=
  let role := s.get (F.TCP_PORT_CTRL_POWER_ROLE p)
  s.dockOn p && !s.on (F.TCP_PORT_STATUS_HELD p) && !s.attached p &&
    (if sink then s.on (F.TCP_PORT_STATUS_WET p) || role = 1 || role = 2
     else !s.on (F.TCP_PORT_STATUS_WET p) && role ≠ 1 && decide (10 ≤ s.allotment p))

/-- Try.SRC or Try.SNK begins instead of an attach in the other role (spec/15 R330): the role tried, where TRY asks for one, the
port may take it and is not trying it yet. -/
def State.triesFirst (s : State) (p : Nat) (asSink : Bool) : Bool :=
  let t := s.get (F.TCP_PORT_CTRL_TRY p)
  let cc := s.get (F.TCP_PORT_STATUS_CC p)
  (asSink && t = 1 && cc ≠ 5 && s.canAttach p false) || (!asSink && t = 2 && cc ≠ 6 && s.canAttach p true)

/-- The port tries the other role: it presents Rp in Try.SRC, Rd in Try.SNK (spec/15 R330). -/
def State.tryRole (s : State) (p : Nat) (source : Bool) : State :=
  let s1 := (s.mapDock p fun d => { d with presentRp := source }).set (F.TCP_PORT_STATUS_CC p) (if source then 5 else 6)
  if source then s1.advertise p else s1.typec p .presentRd

/-- A confirmed attach in a role (spec/15 R330, R332): the moisture test runs, and power starts where it finds the port dry. -/
def State.attachAs (s : State) (p : Nat) (asSink orient : Bool) (cc1 cc2 sbu1 sbu2 term1 term2 : Nat) : State :=
  let s1 := s.sets [(F.TCP_PORT_STATUS_CC p, if asSink then 4 else 3), (F.TCP_PORT_STATUS_ORIENT p, b2n orient),
    (F.TCP_PORT_STATUS_DATA p, b2n asSink)]
  let s1 := s1.usbReview
  let m := s1.moistLowest p cc1 cc2 sbu1 sbu2 term1 term2
  let s2 := (((s1.sat (F.TCP_PORT_CNT_ATTACH p) 1).tcpEvent p 1).typec p .moistureTest).moistResult p m.1 m.2
  if s2.on (F.TCP_PORT_STATUS_WET p) || s2.get (F.TCP_PORT_STATUS_CONTRACT p) ≠ 0 then s2 else s2.powerUp p

/-- ATTACH (spec/15 R330, R332, R348): CC that returns within DETACH_MS lets a transition go on. -/
def execAttach (p : Fin 6) (asSink orient : Bool) (z : PinKohm) (t : CcTerms) (s : State) : Step :=
  .next (s.ifAon fun s =>
    if (s.dock p).ccOpen then
      (s.mapDock p fun d => { d with ccOpen := false, frozen := false }).typec p (.regulator (s.dock p).vset)
    else if !s.canAttach p asSink then s
    else if s.triesFirst p asSink then s.tryRole p asSink
    else s.attachAs p asSink orient z.cc1 z.cc2 z.sbu1 z.sbu2 t.term1 t.term2)

/-- DETACH (spec/15 R348): during a source's transition the setpoint freezes and DETACH_MS runs. -/
def execDetach (p : Fin 6) (s : State) : Step :=
  .next (s.ifAon fun s =>
    if !s.attached p then s
    else if s.isSource p && s.on (F.TCP_PORT_STATUS_TRANSITION p) then
      if (s.dock p).ccOpen then s
      else (s.mapDock p fun d => { d with ccOpen := true, frozen := true }).typec p .freeze
    else s.endAttach p)

/-- DETACH_DECLARE (spec/15 R348). -/
def execDetachDeclare (p : Fin 6) (ms : Nat) (s : State) : Step :=
  .next (s.ifAon fun s =>
    if (s.dock p).ccOpen && s.get (F.TCP_PORT_TMR2_DETACH_MS p) ≤ ms then
      (s.sat (F.TCP_PORT_CNT4_XFER_DETACH p) 1).endAttach p
    else s)

/-- The share of TOGGLE_MS for which the present termination stands has passed (spec/15 R330). -/
def State.toggleDue (s : State) (p ms : Nat) : Bool :=
  let duty := s.get (F.TCP_PORT_TMR_SRC_DUTY p)
  decide (s.get (F.TCP_PORT_TMR_TOGGLE_MS p) * (if (s.dock p).presentRp then duty else 100 - duty) ≤ 100 * ms)

/-- The other termination is presented (spec/15 R330, R331): a port below 10 stays at Rd. -/
def State.toggle (s : State) (p cc : Nat) : State :=
  let rp := !(s.dock p).presentRp && (s.rpCode p).isSome
  let s1 := (s.mapDock p fun d => { d with presentRp := rp }).set (F.TCP_PORT_STATUS_CC p) cc
  if rp then s1.advertise p else s1.typec p .presentRd

/-- DRP_TOGGLE (spec/15 R330, R331).  A try that found no partner presents the other termination once more before the port
toggles again, as the Type-C specification has it (PRESUMED, assumption log 91). -/
def execDrpToggle (x : PortMs) (s : State) : Step :=
  let p := x.port
  .next (s.ifAon fun s =>
    let cc := s.get (F.TCP_PORT_STATUS_CC p)
    if s.dockOn p && s.get (F.TCP_PORT_CTRL_POWER_ROLE p) = 2 && !s.attached p && !s.on (F.TCP_PORT_STATUS_WET p) then
      if (cc = 5 && (s.dock p).presentRp) || (cc = 6 && !(s.dock p).presentRp) then s.toggle p cc
      else if cc = 5 || cc = 6 || s.toggleDue p x.ms then s.toggle p 1
      else s
    else s)

/-- MOISTURE_TEST (spec/15 R332). -/
def execMoistureTest (p : Fin 6) (z : PinKohm) (t : CcTerms) (s : State) : Step :=
  .next (s.ifAon fun s =>
    let m := s.moistLowest p z.cc1 z.cc2 z.sbu1 z.sbu2 t.term1 t.term2
    if s.dockOn p then s.moistResult p m.1 m.2 else s)

/-- MOISTURE_TIMER (spec/15 R332). -/
def execMoistureTimer (p : Fin 6) (s : State) : Step :=
  .next (s.ifAon fun s => if s.dockOn p && s.on (F.TCP_PORT_STATUS_WET p) then s.typec p .moistureTest else s)

/-- Wait sent and counted (spec/15 R338). -/
def State.sendWait (s : State) (p : Nat) : State := (s.pd p .wait).sat (F.TCP_PORT_CNT2_WAIT_TX p) 1

/-- A Request of the partner meets an own request that waits for its answer (spec/15 R350). -/
def State.crosses (s : State) (p : Nat) : Bool := (s.dock p).own ≠ 0 && !(s.dock p).retry

/-- EPR mode is entered with the partner's first EPR_Request (assumption log 24). -/
def State.enterEpr (s : State) (p : Nat) : State :=
  if !(s.dock p).epr && s.on (F.TCP_PORT_CTRL_EPR_EN p) && s.explicit p && s.on (F.TCP_PORT_CABLE_EPR_OK p) then
    (s.mapDock p fun d => { d with epr := true }).sendCaps p
  else s

/-- A growing port: a commit moves it and its Source_Capabilities have not been sent (spec/15 R335, R345). -/
def State.budgetGrows (s : State) (p : Nat) : Bool :=
  match (s.dock p).target with
  | some v => decide (s.get (F.TCP_BLIVE_LIVE p) < v)
  | none => false

/-- A Request accepted: the regulator moves if the voltage changes (spec/15 R335, R348). -/
def State.acceptRequest (s : State) (p pos curr v50 : Nat) : State :=
  let mv := 50 * v50
  let d0 := s.dock p
  let s1 := (s.pd p .accept).mapDock p fun d => { d with next := some (pos, curr, v50, decide (8 ≤ pos)) }
  if mv = d0.vset then s1
  else
    ((s1.mapDock p fun d => { d with vold := d0.vset, vset := mv }).set (F.TCP_PORT_STATUS_TRANSITION p) 1).typec p (.regulator mv)

/-- REQUEST_RX (spec/15 R335, R349, R350). -/
def execRequestRx (p : Fin 6) (pos : Nat) (curr : Nat) (epr : Bool) (s : State) : Step :=
  .next (s.ifAon fun s =>
    if !s.dockOn p || !s.isSource p then s
    else
      let s1 := if epr && s.seamUp && !s.on (F.TCP_PORT_STATUS_HELD p) then s.enterEpr p else s
      if s1.crosses p then (s1.sat (F.TCP_PORT_CNT4_COLLISION p) 1).sendWait p
      else if s1.on (F.TCP_PORT_STATUS_HELD p) || !s1.seamUp || s1.on (F.TCP_PORT_STATUS_TRANSITION p) || s1.budgetGrows p then
        s1.sendWait p
      else match (s1.dock p).offered.find? fun o => o.1 = pos with
        | some o => if curr ≤ o.2.2 then s1.acceptRequest p pos curr o.2.1 else s1.pd p .reject
        | none => s1.pd p .reject)

/-- The rate that the cable allows: none, half rate only, or full rate (spec/15 R340). -/
def cableRate (marked : Bool) (speed : Nat) (bothFull : Bool) : Option Bool :=
  if !marked then some true else if 3 ≤ speed then some (!bothFull) else if speed = 2 then some true else none

/-- Both mode VDOs set FULL. -/
def State.bothFull (s : State) (p : Nat) : Bool := getBits (s.modeVdo p) 27 1 = 1 && getBits (s.rd (R.TCP_PORT_PARTNER_VDO p)) 27 1 = 1

/-- Enter Mode sent where the cable permits it (spec/15 R340). -/
def State.sendEnter (s : State) (p : Nat) (marked : Bool) : State :=
  match cableRate marked (s.get (F.TCP_PORT_CABLE_SPEED p)) (s.bothFull p) with
  | some half => (s.mapDock p fun d => { d with disc := 3, half := half }).pd p .enterMode
  | none => s.mapDock p fun d => { d with disc := 4 }

/-- The cable is discovered where the hub sources VCONN; else the mode is entered at half rate only (spec/15 R340). -/
def State.readCable (s : State) (p : Nat) : State :=
  if s.on (F.TCP_PORT_STATUS_VCONN p) then s.pd p (.discover true) else s.sendEnter p false

/-- The own VCONN_Swap that went before the discovery of the cable is over, with whatever result (spec/15 R342). -/
def State.vconnSettled (s : State) (p : Nat) : State := if (s.dock p).disc = 2 then s.readCable p else s

/-- The partner offers the mode: the cable comes next, behind one VCONN_Swap where the hub is not VCONN source and may ask
(spec/15 R340, R342). -/
def State.discoverCable (s : State) (p : Nat) : State :=
  let s1 := s.mapDock p fun d => { d with disc := 2 }
  if !s1.on (F.TCP_PORT_STATUS_VCONN p) && s1.on (F.TCP_PORT_CTRL_VCONN_SWAP p) && (s1.dock p).own = 0 then s1.sendOwn p 3
  else s1.readCable p

/-- After an explicit contract a DFP port with ELREK_EN 1 discovers its partner (spec/15 R340). -/
def State.startDiscovery (s : State) (p : Nat) : State :=
  let d := s.dock p
  if !s.offersElrek p || s.get (F.TCP_PORT_STATUS_DATA p) ≠ 0 || s.on (F.TCP_PORT_STATUS_ALT p) || d.disc ≠ 0 ||
      s.on (F.TCP_PORT_STATUS_HELD p) || s.on (F.TCP_PORT_STATUS_WET p) then s
  else (s.mapDock p fun d => { d with disc := 1 }).pd p (.discover false)

/-- The roles of power exchanged at the end of a PR_Swap (spec/15 R337). -/
def State.flipPower (s : State) (p : Nat) : State :=
  let toSink := s.isSource p
  let s1 := (s.dropContract p 1).set (F.TCP_PORT_STATUS_CC p) (if toSink then 4 else 3)
  if toSink then
    if s1.on (F.TCP_PORT_CTRL_SINK_PATH p) then s1.gateOnFor p true
    else (s1.gateOffFor p).set (F.PGT_GATE_STATUS_DIR (p + 1)) 1
  else ((s1.gateOnFor p false).advertise p).sendCaps p

/-- The contract entered: CONTRACT, its register and its draw in 0.25 W, rounded up (spec/15 R335). -/
def State.enterContract (s : State) (p : Nat) (n : Nat × Nat × Nat × Bool) : State :=
  let draw := (n.2.2.1 * n.2.1 + 499) / 500
  let s1 := s.sets [(F.TCP_PORT_STATUS_CONTRACT p, if n.2.2.2 then 3 else 2), (F.TCP_PORT_STATUS_TRANSITION p, 0),
    (F.TCP_PORT_CONTRACT_VOLT p, n.2.2.1), (F.TCP_PORT_CONTRACT_CURR p, n.2.1), (F.TCP_PORT_CONTRACT_POS p, n.1),
    (F.TCP_PORT_CONTRACT_EPR p, b2n n.2.2.2), (F.TCP_BLIVE_DRAW p, if s.isSource p then draw else 0)]
  let s2 := s1.mapDock p fun d => { d with next := none, vold := d.vset }
  if s2.isSource p then s2.pd p .psRdy else s2

/-- PS_RDY (spec/15 R335, R340, R345): CONTRACT is raised at each; a port whose CC is open sends none (R348). -/
def execPsRdy (p : Fin 6) (s : State) : Step :=
  .next (s.ifAon fun s =>
    let d := s.dock p
    if !s.dockOn p || !s.attached p || d.ccOpen then s
    else if d.swapping then (s.flipPower p).tcpEvent p 3
    else match d.next with
      | none => s
      | some n =>
        if d.own = 4 then s
        else ((((s.enterContract p n).tcpEvent p 3).budgetStep).startDiscovery p).seekUfp p)

/-- The PDO a sink asks for: object position, current, voltage (spec/15 R336). -/
def State.sinkChoice (s : State) (p : Nat) (pdos : List Word) : Nat × Nat × Nat :=
  let i5 := getBits (pdos.headD 0) 0 10
  let volt := s.get (F.TCP_PORT_SINK_VOLT p)
  let curr := s.get (F.TCP_PORT_SINK_CURR p)
  if !s.on (F.TCP_PORT_CTRL_SINK_PATH p) then (1, 50, 100)
  else match findFirst (fun i => let w := pdos.getD i 0
      getBits w 30 2 = 0 && getBits w 10 10 = volt && decide (curr ≤ getBits w 0 10)) pdos.length with
    | some i => (i + 1, curr, volt)
    | none => (1, i5, 100)

/-- SOURCE_CAPABILITIES_RX (spec/15 R336, R338): a retry is cancelled. -/
def execSourceCapabilitiesRx (p : Fin 6) (pdos : List Word) (s : State) : Step :=
  .next (s.ifAon fun s =>
    if !s.dockOn p || !s.isSink p || pdos.isEmpty then s
    else
      let c := s.sinkChoice p pdos
      ((s.endOwn p).mapDock p fun d => { d with next := some (c.1, c.2.1, c.2.2, false) }).sendOwn p 4)

/-- What a partner's swap request meets before its own policy (spec/15 R332, R337, R349, R350; spec/02 R44): true, and the
state, where it has been answered; an own request of a sink is withdrawn for a retry. -/
def State.swapGuard (s : State) (p : Nat) : State × Bool :=
  if s.on (F.TCP_PORT_STATUS_HELD p) then (s.sendWait p, true)
  else if s.on (F.TCP_PORT_STATUS_WET p) then (s.pd p .reject, true)
  else if !s.seamUp || s.on (F.TCP_PORT_STATUS_TRANSITION p) then (s.sendWait p, true)
  else if (s.dock p).target.isSome then ((if s.isSource p then s.sendCaps p else s).sendWait p, true)
  else if s.crosses p then
    let s1 := s.sat (F.TCP_PORT_CNT4_COLLISION p) 1
    if s1.isSource p then (s1.sendWait p, true) else (s1.mapDock p fun d => { d with retry := true }, false)
  else (s, false)

/-- A PR_Swap can be carried out: a DRP port, and as new source an allotment to source from (spec/15 R328, R331). -/
def State.canPrSwap (s : State) (p : Nat) : Bool :=
  s.get (F.TCP_PORT_CTRL_POWER_ROLE p) = 2 && (s.isSource p || decide (10 ≤ s.allotment p))

/-- A PR_Swap agreed: an old source's gate opens; the roles change at PS_RDY. -/
def State.beginPrSwap (s : State) (p : Nat) : State :=
  let s1 := s.mapDock p fun d => { d with swapping := true, next := none }
  if s1.isSource p then (s1.gateOffFor p).dischargeFor p else s1.gateOffFor p

/-- The data role exchanged; the USB hub's upstream connection follows it at once (spec/15 R331; spec/16 R354). -/
def State.flipData (s : State) (p : Nat) : State :=
  (s.set (F.TCP_PORT_STATUS_DATA p) (1 - s.get (F.TCP_PORT_STATUS_DATA p))).usbReview

/-- A partner's swap accepted; before a DR_Swap the Elrek mode is exited (spec/15 R337, R350). -/
def State.acceptSwap (s : State) (p : Nat) (data : Bool) : State :=
  if data then
    let s1 := if s.on (F.TCP_PORT_STATUS_ALT p) then (s.pd p .exitMode).altEnd p else s
    ((s1.pd p .accept).flipData p).seekUfp p
  else (s.pd p .accept).beginPrSwap p

/-- SWAP_RX (spec/15 R337, R350). -/
def execSwapRx (p : Fin 6) (data : Bool) (s : State) : Step :=
  .next (s.ifAon fun s =>
    if !s.dockOn p || !s.attached p then s
    else
      let g := s.swapGuard p
      if g.2 then g.1
      else
        let kind := if data then 2 else 1
        let pol := g.1.get (if data then F.TCP_PORT_POLICY_DR_SWAP p else F.TCP_PORT_POLICY_PR_SWAP p)
        if !data && !g.1.canPrSwap p then g.1.pd p .reject
        else if pol = 1 then g.1.acceptSwap p data
        else if pol = 2 then
          match (g.1.dock p).answer with
          | some a =>
            if a.1 = kind then
              let s1 := (g.1.mapDock p fun d => { d with answer := none }).set (F.TCP_PORT_ASK_KIND p) 0
              if a.2 then s1.acceptSwap p data else s1.pd p .reject
            else ((g.1.set (F.TCP_PORT_ASK_KIND p) kind).sendWait p).tcpEvent p 5
          | none =>
            if g.1.get (F.TCP_PORT_ASK_KIND p) = kind then g.1.sendWait p
            else ((g.1.set (F.TCP_PORT_ASK_KIND p) kind).sendWait p).tcpEvent p 5
        else g.1.pd p .reject)

/-- ASK_ANSWER (spec/15 R337). -/
def execAskAnswer (who : Requester) (p : Fin 6) (value : Word) (s : State) : Step :=
  .next (s.command who (R.TCP_PORT_ASK p) value fun s =>
    let kind := s.get (F.TCP_PORT_ASK_KIND p)
    if getBits value 3 1 = 1 && kind ≠ 0 then s.mapDock p fun d => { d with answer := some (kind, getBits value 2 1 = 1) }
    else s)

/-- WAIT_RX (spec/15 R338). -/
def execWaitRx (p : Fin 6) (s : State) : Step :=
  .next (s.ifAon fun s =>
    if !s.crosses p then s
    else (s.sat (F.TCP_PORT_CNT2_WAIT_RX p) 1).mapDock p fun d => { d with retry := true, waits := d.waits + 1 })

/-- WAIT_RETRY (spec/15 R331, R338): WAIT_MAX ends every retry but the DR_Swap of a USB upstream port; a held port starts
nothing (R349). -/
def execWaitRetry (p : Fin 6) (ms : Nat) (s : State) : Step :=
  .next (s.ifAon fun s =>
    let d := s.dock p
    let mx := s.get (F.TCP_PORT_TMR_WAIT_MAX p)
    if !d.retry || ms < s.get (F.TCP_PORT_TMR_WAIT_MS p) || s.on (F.TCP_PORT_STATUS_HELD p) then s
    else if mx ≠ 0 && mx ≤ d.waits && !(d.own = 2 && s.on (F.TCP_PORT_CTRL_USB_UP p)) then ((s.endOwn p).tcpEvent p 9).vconnSettled p
    else s.sendOwn p d.own)

/-- VCONN_SWAP_RX (spec/15 R342, R350). -/
def execVconnSwapRx (p : Fin 6) (s : State) : Step :=
  .next (s.ifAon fun s =>
    if !s.dockOn p || !s.attached p then s
    else
      let g := s.swapGuard p
      if g.2 then g.1
      else if g.1.on (F.TCP_PORT_CTRL_VCONN_SWAP p) then
        (g.1.pd p .accept).set (F.TCP_PORT_STATUS_VCONN p) (1 - g.1.get (F.TCP_PORT_STATUS_VCONN p))
      else g.1.pd p .reject)

/-- SWAP_ANSWER_RX (spec/15 R331, R337, R338, R342): Reject of a USB upstream port's DR_Swap is retried. -/
def execSwapAnswerRx (p : Fin 6) (accept : Bool) (s : State) : Step :=
  .next (s.ifAon fun s =>
    let d := s.dock p
    if !s.crosses p then s
    else if accept then
      let s1 := s.endOwn p
      match d.own with
      | 1 => s1.beginPrSwap p
      | 2 => s1.flipData p
      | 3 => (s1.set (F.TCP_PORT_STATUS_VCONN p) (1 - s1.get (F.TCP_PORT_STATUS_VCONN p))).vconnSettled p
      | _ => match d.next with
        | some n =>
          if 50 * n.2.2.1 = d.vset then s1
          else (s1.mapDock p fun x => { x with vold := d.vset, vset := 50 * n.2.2.1 }).set (F.TCP_PORT_STATUS_TRANSITION p) 1
        | none => s1
    else if d.own = 2 && s.on (F.TCP_PORT_CTRL_USB_UP p) then s.mapDock p fun d => { d with retry := true }
    else
      let s1 := (s.endOwn p).mapDock p fun x => { x with next := if d.own = 4 then none else x.next }
      if d.own = 3 then s1.vconnSettled p else s1)

/-- The swap of FR_SWAP_SIGNAL failed (spec/17 R375): PRESUMED ErrorRecovery, as PD has it. -/
def State.frsFailed (s : State) (p : Nat) : State := s.errorRecovery p

/-- FR_SWAP_SIGNAL (spec/15 R343, R344; spec/17 R375): FR_Swap is sent, every exchange abandoned, the gate driven on. -/
def execFrSwapSignal (p : Fin 6) (s : State) : Step :=
  .next (s.ifAon fun s =>
    if !s.dockOn p || !s.isSink p || !s.on (F.TCP_PORT_CTRL_FRS p) || s.on (F.TCP_PORT_STATUS_HELD p) ||
        s.on (F.TCP_PORT_STATUS_WET p) then s
    else
      let s1 := (((s.dropContract p 1).pd p .frSwap).sat (F.TCP_PORT_CNT3_FRS p) 1).tcpEvent p 7
      let r := s1.fastStart (p + 1)
      if !r.2 then r.1.frsFailed p
      else
        let s2 := r.1.set (F.TCP_PORT_STATUS_CC p) 3
        let s3 := if s2.on (F.TCP_PORT_CTRL_VCONN_SWAP p) then s2.set (F.TCP_PORT_STATUS_VCONN p) 1 else s2
        (s3.advertise p).sendCaps p)

/-- The port signals FR_Swap when PG0's input leaves its UV window (spec/15 R343). -/
def State.signalFrs (s : State) : State :=
  s.each (List.range 6) fun p s =>
    if s.dockOn p && s.isSource p && s.on (F.TCP_PORT_CTRL_FRS p) then s.typec p .frSignal else s

/-- ENTER_MODE_RX (spec/15 R340): ACK where the mode is advertised and the seam is up, BUSY while it is down. -/
def execEnterModeRx (p : Fin 6) (half : Bool) (s : State) : Step :=
  .next (s.ifAon fun s =>
    if !s.dockOn p || !s.attached p || s.get (F.TCP_PORT_STATUS_DATA p) ≠ 1 then s
    else if s.on (F.TCP_PORT_STATUS_HELD p) || !s.seamUp then s.pd p .vdmBusy
    else if s.offersElrek p && !s.on (F.TCP_PORT_STATUS_WET p) then (s.pd p (.vdmAck [])).altEntered p half
    else s.pd p .vdmNak)

/-- EXIT_MODE_RX (spec/15 R341). -/
def execExitModeRx (p : Fin 6) (s : State) : Step :=
  .next (s.ifAon fun s =>
    if !s.dockOn p || !s.on (F.TCP_PORT_STATUS_ALT p) then s
    else if s.on (F.TCP_PORT_STATUS_HELD p) then s.pd p .vdmBusy
    else (s.pd p (.vdmAck [])).altEnd p)

/-- DISCOVER_RX (spec/15 R339): the SVID and the mode VDO where the mode is advertised, NAK where not; the objects of Discover
Identity are not stated and left out. -/
def execDiscoverRx (p : Fin 6) (what : Fin 3) (s : State) : Step :=
  .next (s.ifAon fun s =>
    if !s.dockOn p || !s.attached p then s
    else if what = 0 then s.pd p (.vdmAck [])
    else if !s.offersElrek p then s.pd p .vdmNak
    else s.pd p (.vdmAck [if what = 1 then BitVec.ofNat 32 (s.get F.TCP_ALT_ID_SVID * 2 ^ 16) else s.modeVdo p]))

/-- A Hard Reset, from either side (spec/15 R345, R346, R350): contract and Elrek mode end, the data role follows the power role
again, VBUS returns to 5 V; a source offers anew. -/
def State.doHardReset (s : State) (p : Nat) : State :=
  let s1 := ((s.sat (F.TCP_PORT_CNT_HARD_RESET p) 1).tcpEvent p 8).altEnd p
  let src := s1.isSource p
  let s2 := (s1.dropContract p 1).sets [(F.TCP_PORT_STATUS_DATA p, b2n (!src)), (F.TCP_PORT_STATUS_VCONN p, b2n src)]
  let s3 := s2.usbReview.budgetStep
  if src then (s3.sendCaps p).seekUfp p else s3

/-- HARD_RESET_RX (spec/15 R350). -/
def execHardResetRx (p : Fin 6) (s : State) : Step :=
  .next (s.ifAon fun s => if s.dockOn p && s.attached p then s.doHardReset p else s)

/-- SENDER_RESPONSE_TIMEOUT (spec/15 R346): once more, then the budget is held. -/
def execSenderResponseTimeout (p : Fin 6) (s : State) : Step :=
  .next (s.ifAon fun s =>
    let d := s.dock p
    match d.target with
    | none => s
    | some v =>
      if s.get (F.TCP_BLIVE_LIVE p) ≤ v || !s.isSource p || d.heldBudget then s
      else if !d.again && !s.on (F.TCP_PORT_STATUS_HELD p) then ((s.mapDock p fun d => { d with again := true }).pd p .softReset).sendCaps p
      else
        let s1 := (s.setLive p (s.get (F.TCP_BLIVE_DRAW p))).mapDock p fun d => { d with heldBudget := true }
        (s1.set F.TCP_STATUS_HELD_BUDGET 1).tcpEvent p 11 |>.budgetStep)

/-- BUDGET_COMMIT (spec/15 R345). -/
def execBudgetCommit (who : Requester) (value : Word) (s : State) : Step :=
  .next (s.command who R.TCP_BUDGET_CMD value fun s =>
    let result (s : State) (code detail : Nat) : State :=
      s.sets [(F.TCP_BUDGET_RESULT_REASON, code), (F.TCP_BUDGET_RESULT_DETAIL, detail)]
    let staged (p : Nat) : Nat := s.get (F.TCP_BSTAGE_UNITS p)
    if getBits value 0 1 = 0 then s
    else if s.get F.TCP_BOARD_UNITS < ((List.range 6).map staged).sum then result s 0x2007 0xFFFF
    else match (List.range 6).find? fun p => staged p != 0 && s.get (F.TCP_PORT_CTRL_POWER_ROLE p) = 1 with
      | some p => result s 0x2014 p
      | none =>
        if s.on F.TCP_STATUS_MOVING && !s.on F.TCP_STATUS_HELD_BUDGET then result s 0x2005 0xFFFF
        else (result s 0 0xFFFF).takeBudget)

/-- The RWE words of a port. -/
def State.portWords (s : State) (p : Nat) : List Word :=
  (s.rd (R.TCP_PORT_CTRL p) &&& 0xFFFFFDFE#32) :: s.rd (R.TCP_PORT_SINK p) ::
    (List.range 11).map fun i => s.rd (R.TCP_PORT_PDO p i)

/-- ENABLE of a port cleared: held where attached, else OFF with open CC (spec/15 R349). -/
def State.holdPort (s : State) (p : Nat) : State :=
  let s0 := s.set (F.TCP_PORT_CTRL_ENABLE p) 0
  if s0.get (F.TCP_PORT_STATUS_STATE p) = 1 then s0.set (F.TCP_PORT_STATUS_STATE p) (2 * s0.get (F.TCP_PORT_STATUS_HELD p))
  else if !s0.dockOn p then s0
  else if s0.attached p then
    (s0.mapDock p fun d => { d with heldWords := s0.portWords p }).set (F.TCP_PORT_STATUS_HELD p) 1
  else (s0.sets [(F.TCP_PORT_STATUS_STATE p, 0), (F.TCP_PORT_STATUS_CC p, 0)]).typec p .openCc

/-- TCP_PORT_HOLD (spec/15 R349). -/
def execTcpPortHold (who : Requester) (p : Fin 6) (value : Word) (s : State) : Step :=
  .next (s.command who (R.TCP_PORT_CTRL p) (setBits value 0 1 0) fun s => s.holdPort p)

/-- A port unit goes ON (spec/15 R330, R332, R349): a held port leaves the held state, offers anew what changed, and exits the
Elrek mode if ELREK_EN is 0; else the port presents its role and runs a moisture test. -/
def State.tcpPortOn (s : State) (p : Nat) : State :=
  if s.on (F.TCP_PORT_STATUS_HELD p) then
    let s1 := s.set (F.TCP_PORT_STATUS_HELD p) 0
    let s2 := if s1.isSource p && s1.portWords p ≠ (s1.dock p).heldWords then s1.sendCaps p else s1
    if s2.on (F.TCP_PORT_STATUS_ALT p) && !s2.on (F.TCP_PORT_CTRL_ELREK_EN p) then (s2.pd p .exitMode).altEnd p else s2
  else (s.idleCc p).typec p .moistureTest

/-- A port command (spec/15, TCP_PORTn_CMD): refused with 0x2013 in a state it is not valid in. -/
def State.portCmd (s : State) (who : Requester) (p op : Nat) (ok : State → Bool) (act : State → State) : State :=
  s.command who (R.TCP_PORT_CMD p) (BitVec.ofNat 32 op) fun s =>
    if s.dockOn p && ok s then
      act (s.sets [(F.TCP_PORT_CMD_STATUS_REASON p, 0), (F.TCP_PORT_CMD_STATUS_DETAIL p, 0xFFFF)])
    else s.sets [(F.TCP_PORT_CMD_STATUS_REASON p, 0x2013), (F.TCP_PORT_CMD_STATUS_DETAIL p, 0xFFFF)]

/-- The port may start an exchange of its own (spec/15 R348, R349). -/
def State.freeToAsk (s : State) (p : Nat) : Bool :=
  s.attached p && !s.on (F.TCP_PORT_STATUS_HELD p) && !s.on (F.TCP_PORT_STATUS_TRANSITION p) && (s.dock p).own = 0 &&
    !(s.dock p).swapping

/-- CMD_DETACH (spec/15 R349). -/
def execCmdDetach (who : Requester) (p : Fin 6) (s : State) : Step :=
  .next (s.portCmd who p 1 (fun s => s.attached p) fun s => s.errorRecovery p)

/-- PR_SWAP (spec/15 R337). -/
def execPrSwap (who : Requester) (p : Fin 6) (s : State) : Step :=
  .next (s.portCmd who p 2 (fun s => s.freeToAsk p && s.explicit p && s.canPrSwap p && !s.on (F.TCP_PORT_STATUS_WET p))
    fun s => s.sendOwn p 1)

/-- DR_SWAP (spec/15 R331, R350): the Elrek mode is exited first. -/
def execDrSwap (who : Requester) (p : Fin 6) (s : State) : Step :=
  .next (s.portCmd who p 3 (fun s => s.freeToAsk p && s.explicit p && !s.on (F.TCP_PORT_STATUS_WET p)) fun s =>
    (if s.on (F.TCP_PORT_STATUS_ALT p) then (s.pd p .exitMode).altEnd p else s).sendOwn p 2)

/-- VCONN_SWAP (spec/15 R342). -/
def execVconnSwap (who : Requester) (p : Fin 6) (s : State) : Step :=
  .next (s.portCmd who p 4 (fun s => s.freeToAsk p && s.explicit p && s.on (F.TCP_PORT_CTRL_VCONN_SWAP p)) fun s =>
    s.sendOwn p 3)

/-- HARD_RESET (spec/15 R346). -/
def execHardReset (who : Requester) (p : Fin 6) (s : State) : Step :=
  .next (s.portCmd who p 5 (fun s => s.attached p && !s.on (F.TCP_PORT_STATUS_HELD p)) fun s =>
    (s.pd p .hardReset).doHardReset p)

/-- SEND_CAPS (spec/15 R334). -/
def execSendCaps (who : Requester) (p : Fin 6) (s : State) : Step :=
  .next (s.portCmd who p 6 (fun s => s.isSource p && !s.on (F.TCP_PORT_STATUS_HELD p) &&
    !s.on (F.TCP_PORT_STATUS_TRANSITION p)) fun s => s.sendCaps p)

/-- ENTER (spec/15 R340): a DFP that knows its partner's mode. -/
def execEnterMode (who : Requester) (p : Fin 6) (s : State) : Step :=
  .next (s.portCmd who p 7 (fun s => s.freeToAsk p && s.explicit p && s.offersElrek p && !s.on (F.TCP_PORT_STATUS_WET p) &&
      !s.on (F.TCP_PORT_STATUS_ALT p) && decide (s.get (F.TCP_PORT_STATUS_DATA p) = 0) &&
      decide (getBits (s.rd (R.TCP_PORT_PARTNER_VDO p)) 28 4 = 1)) fun s =>
    s.sendEnter p (s.on (F.TCP_PORT_CABLE_EMARKED p)))

/-- EXIT (spec/15 R341). -/
def execExitMode (who : Requester) (p : Fin 6) (s : State) : Step :=
  .next (s.portCmd who p 8 (fun s => s.on (F.TCP_PORT_STATUS_ALT p) && !s.on (F.TCP_PORT_STATUS_HELD p)) fun s =>
    (s.pd p .exitMode).altEnd p)

/-- The e-marker's answer stored; a source whose offers it changes offers them anew (spec/15 R328, R334). -/
def State.takeCable (s : State) (p : Nat) (ok : Bool) (speed : Nat) (fiveA eprOk : Bool) : State :=
  let s1 := s.sets [(F.TCP_PORT_CABLE_EMARKED p, b2n ok), (F.TCP_PORT_CABLE_SPEED p, if ok then speed else 0),
    (F.TCP_PORT_CABLE_CURR_5A p, b2n (ok && fiveA)), (F.TCP_PORT_CABLE_EPR_OK p, b2n (ok && eprOk))]
  if s1.isSource p && (s1.caps p).2 ≠ (s1.dock p).offered then s1.sendCaps p else s1

/-- VDM_ACK_RX (spec/15 R340): partner, then cable, then entry. -/
def execVdmAckRx (p : Fin 6) (what : Fin 3) (ok : Bool) (vdo : Word) (speed : Fin 8) (fiveA : Bool) (eprOk : Bool)
    (s : State) : Step :=
  .next (s.ifAon fun s =>
    let d := s.dock p
    if !s.dockOn p || !s.attached p then s
    else match what with
      | 0 =>
        if d.disc ≠ 1 then s
        else if !ok || getBits vdo 28 4 ≠ 1 then
          (s.wr (R.TCP_PORT_PARTNER_VDO p) (if ok then vdo else 0)).mapDock p fun d => { d with disc := 4 }
        else
          let s1 := s.wr (R.TCP_PORT_PARTNER_VDO p) vdo
          s1.discoverCable p
      | 1 =>
        if !s.on (F.TCP_PORT_STATUS_VCONN p) then s
        else
          let s1 := s.takeCable p ok speed.val fiveA eprOk
          if d.disc = 2 then s1.sendEnter p ok else s1
      | 2 =>
        if d.disc ≠ 3 then s
        else if ok then (s.mapDock p fun d => { d with disc := 4 }).altEntered p d.half
        else s.mapDock p fun d => { d with disc := 4 })

/-- The check of TCP at enable. -/
def State.checkTcp (s : State) : Option (Nat × Nat) :=
  if s.get ⟨R.TCP_CTRL, 1, 31⟩ ≠ 0 || s.get ⟨R.TCP_BOARD, 13, 19⟩ ≠ 0 || s.get ⟨R.TCP_ALT_ID, 16, 16⟩ ≠ 0 then
    some (0x02, 0xFFFF)
  else none

/-- The first PDO position that breaks the table (spec/15 R333). -/
def State.badPdo (s : State) (p : Nat) : Option Nat :=
  let w (i : Nat) : Word := s.rd (R.TCP_PORT_PDO p i)
  let volt (i : Nat) : Nat := getBits (w i) 10 10
  let falls (lo i : Nat) : Bool := (List.range i).any fun j => decide (lo ≤ j) && w j != 0 && decide (volt i ≤ volt j)
  findFirst (fun i =>
    if i = 0 then getBits (w 0) 30 2 != 0 || volt 0 != 100
    else if w i = 0 then false
    else getBits (w i) 30 2 != 0 || (if i < 7 then decide (400 < volt i) || falls 0 i
      else decide (volt i < 560) || decide (960 < volt i) || falls 7 i)) 11

/-- The check of a port at enable (spec/15 R330, R333, R339, R343). -/
def State.checkTcpPort (s : State) (p : Nat) : Option (Nat × Nat) :=
  let role := s.get (F.TCP_PORT_CTRL_POWER_ROLE p)
  let try' := s.get (F.TCP_PORT_CTRL_TRY p)
  let eprPdos := [7, 8, 9, 10].any fun i => s.rd (R.TCP_PORT_PDO p i) != 0
  if s.get ⟨R.TCP_PORT_CTRL p, 11, 21⟩ ≠ 0 || s.get ⟨R.TCP_PORT_SINK p, 20, 12⟩ ≠ 0 then some (0x02, 0xFFFF)
  else if role = 3 || try' = 3 then some (0x01, 0xFFFF)
  else if s.on (F.TCP_PORT_CTRL_ELREK_EN p) && s.qmode (p / 2) ≠ 0 then some (0x03, 0xFFFF)
  else match s.badPdo p with
    | some i => some (0x10, i)
    | none =>
      if s.on (F.TCP_PORT_CTRL_EPR_EN p) ≠ eprPdos then some (0x11, 0xFFFF)
      else if (s.on (F.TCP_PORT_CTRL_FRS p) || try' ≠ 0) && role ≠ 2 then some (0x12, 0xFFFF)
      else none

end Sys2Proof.Machine
end

