-- ==== Sys2Proof/Machine/GateRows.lean ====
section
/-! DEFINITION. The commands of the power gates (spec/17). -/

namespace Sys2Proof.Machine

/-- A trip, with what TCP makes of one during a voltage transition (spec/17 R377, R383). -/
def State.gateTrip (s : State) (n cause aUs : Nat) : State :=
  let s1 := s.tripGate n cause aUs
  if n ≠ 0 && s1.isSource (n - 1) && s1.on (F.TCP_PORT_STATUS_TRANSITION (n - 1)) then
    (s1.sat (F.TCP_PORT_CNT4_XFER_DETACH (n - 1)) 1).endAttach (n - 1)
  else s1

/-- INPUT_WINDOW (spec/17 R372, R373): Fast Role Swap signalling follows PG0's UV crossing itself (spec/15 R343). -/
def execInputWindow (n : Fin 7) (vin : Nat) (s : State) : Step :=
  .next (s.ifAon fun s =>
    let s1 := s.measureVin n vin
    let s2 := if n = 0 && (s.gate 0).uvIn && !(s1.gate 0).uvIn then s1.signalFrs else s1
    if s2.gstate n = gsWindow && s2.inside n then s2.setGs n gsInsert
    else s2.watchWindows n)

/-- UV_RIDE_END (spec/17 R373). -/
def execUvRideEnd (x : GateMs) (s : State) : Step :=
  let n := x.gate
  .next (s.ifAon fun s =>
    if s.gstate n = gsRide && decide (s.get (F.PGT_GATE_RAMP_UV_RIDE_MS n) ≤ x.ms) then s.windowOpen' n 2 else s)

/-- INSERT_DONE (spec/17 R374; spec/01 R21): a break in the windows wins. -/
def execInsertDone (x : GateMs) (s : State) : Step :=
  let n := x.gate
  .next (s.ifAon fun s => if s.get (F.PGT_GATE_TIMING_INS_MS n) ≤ x.ms then s.insertDone n else s)

/-- PRECHARGE_DONE (spec/17 R374). -/
def execPrechargeDone (n : Fin 7) (vout : Nat) (s : State) : Step :=
  .next (s.ifAon fun s =>
    let s1 := s.measureVout n vout
    if s1.gstate n = gsPre && decide ((s1.gate n).vin ≤ vout + 1000) then s1.setGs n gsRamp else s1)

/-- PRE_SHORT_CHECK (spec/17 R374). -/
def execPreShortCheck (n : Fin 7) (vout : Nat) (aUs : Nat) (s : State) : Step :=
  .next (s.ifAon fun s =>
    let s1 := s.measureVout n vout
    if s1.gstate n = gsPre && decide (1000 * s1.get (F.PGT_GATE_TIMING_SHORT_MS n) ≤ aUs) && decide (8 * vout < (s1.gate n).vin) then s1.gateTrip n 6 aUs else s1)

/-- PRE_TIMEOUT (spec/17 R374). -/
def execPreTimeout (n : Fin 7) (vout : Nat) (aUs : Nat) (s : State) : Step :=
  .next (s.ifAon fun s =>
    let s1 := s.measureVout n vout
    let vin := (s1.gate n).vin
    if s1.gstate n ≠ gsPre ∨ aUs < 1000 * s1.get (F.PGT_GATE_TIMING_PRE_TO_MS n) then s1
    else if vin ≤ vout + 1000 ∨ vin ≤ 2 * vout then s1.setGs n gsRamp
    else s1.gateTrip n 7 aUs)

/-- RAMP_DONE (spec/17 R374, R375). -/
def execRampDone (n : Fin 7) (vout : Nat) (vgs : Nat) (s : State) : Step := .next (s.ifAon fun s => s.rampDone n vout vgs)

/-- RAMP_TIMEOUT (spec/17 R374). -/
def execRampTimeout (x : GateMs) (aUs : Nat) (s : State) : Step :=
  let n := x.gate
  .next (s.ifAon fun s => if s.gstate n = gsRamp && decide (s.get (F.PGT_GATE_RAMP_RAMP_TO_MS n) ≤ x.ms) then s.gateTrip n 8 aUs else s)

/-- PGOOD_FALL (spec/17 R374): below 9 V of V_GS or VIN − 2 V; inside the windows it is a trip. -/
def execPgoodFall (n : Fin 7) (vout : Nat) (vgs : Nat) (aUs : Nat) (s : State) : Step :=
  .next (s.ifAon fun s =>
    let s1 := (s.measureVout n vout).set (F.PGT_GATE_VMEAS_VGS n) (min 255 vgs)
    if !s1.on (F.PGT_GATE_STATUS_PGOOD n) || (90 ≤ vgs && decide ((s1.gate n).vin ≤ vout + 2000)) then s1
    else if s1.inside n then s1.gateTrip n 8 aUs
    else s1.setPgood n false)

/-- FRS_TIMEOUT (spec/17 R375): TCP treats the swap as failed. -/
def execFrsTimeout (n : Fin 7) (s : State) : Step :=
  .next (s.ifAon fun s =>
    if s.gstate n = gsFast then
      let s1 := (s.openGate n 9 gsOff).gateEvent n 5
      if n = 0 then s1 else s1.frsFailed (n - 1)
    else s)

/-- A shunt voltage in µV reaches 2 × LIMIT × SHUNT: LIMIT in 10 mA, SHUNT in µΩ (spec/17 R376). -/
def State.fastLevel (s : State) (n uV : Nat) : Bool :=
  decide (2 * s.get (F.PGT_GATE_LIMIT_LIMIT n) * s.get (F.PGT_GATE_LIMIT_SHUNT n) ≤ 100 * uV)

/-- FAST_TRIP (spec/17 R376, R377): in any conducting state. -/
def execFastTrip (x : GateShunt) (aUs : Nat) (s : State) : Step :=
  .next (s.ifAon fun s => if s.conducts x.gate && s.fastLevel x.gate x.uV then s.gateTrip x.gate 4 aUs else s)

/-- I2T_UPDATE (spec/17 R376). -/
def execI2tUpdate (n : Fin 7) (i : Nat) (aUs : Nat) (s : State) : Step :=
  .next (s.ifAon fun s =>
    if !s.conducts n then s
    else
      let s1 := s.i2t n i
      if s1.i2tTrips n then s1.gateTrip n 5 aUs else s1)

/-- RETRY_WAIT_END (spec/17 R377). -/
def execRetryWaitEnd (n : Fin 7) (s : State) : Step :=
  .next (s.ifAon fun s => if s.gstate n = gsWait && s.get (F.PGT_GATE_WAIT_LEFT_MS n) = 0 then s.leaveWait n else s)

/-- PGOOD_HELD (spec/17 R377). -/
def execPgoodHeld (n : Fin 7) (s : State) : Step :=
  .next (s.ifAon fun s => if s.on (F.PGT_GATE_STATUS_PGOOD n) then s.clearCount n else s)

/-- REMOVAL (spec/17 R378). -/
def execGateRemoval (x : GateMs) (s : State) : Step :=
  let n := x.gate
  .next (s.ifAon fun s =>
    if decide (s.get (F.PGT_GATE_RETRY_REMOVE_MS n) ≤ x.ms) && (!(s.gate n).uvIn || (n ≠ 0 && !s.attached (n - 1))) then s.removal n else s)

/-- GATE_CMD_CLEAR (spec/17 R377). -/
def execGateCmdClear (who : Requester) (n : Fin 7) (s : State) : Step :=
  .next (s.command who (R.PGT_GATE_CMD n) 1 fun s => s.clearGate n)

/-- A discharge starts (spec/17, PGT_GATEn_CMD): PG1 to PG6, while OFF, down to 0.8 V. -/
def State.discharge (s : State) (n : Nat) : State :=
  if n ≠ 0 && s.gstate n = gsOff && 800 ≤ (s.gate n).vout then s.set (F.PGT_GATE_STATUS_DSCH n) 1 else s

/-- DISCHARGE. -/
def execGateDischarge (who : Requester) (n : Fin 7) (s : State) : Step :=
  .next (s.command who (R.PGT_GATE_CMD n) 2 fun s => s.discharge n)

/-- DISCHARGE_DONE (spec/17 R377). -/
def execDischargeDone (n : Fin 7) (vout : Nat) (s : State) : Step :=
  .next (s.ifAon fun s =>
    s.measureVout n vout)

/-- The gate follows its command after CTRL.ON has changed (spec/17 R374, R378, R383). -/
def State.followCommand (s : State) (n : Nat) : State := if s.commanded n then s.startGate n else s.commandOff n

/-- GATE_ON_WRITE (spec/17 R374, R379): a 0 for PG0 is ignored and marked. -/
def execGateOnWrite (who : Requester) (n : Fin 7) (turnOn : Bool) (s : State) : Step :=
  let w := s.rd (R.PGT_GATE_CTRL n)
  if n = 0 && !turnOn then .next (s.command who (R.PGT_GATE_CTRL n) w fun s => s.sticky bPgt 0)
  else .next (s.command who (R.PGT_GATE_CTRL n) (setBits w 1 1 (b2n turnOn)) fun s => s.followCommand n)

/-- ENABLE of a gate cleared (spec/17 R379, R381): ignored for PG0; a Dock gate opens, and a port attached as source through it
passes through ErrorRecovery. -/
def State.gateOff (s : State) (n : Nat) : State :=
  if n = 0 then (s.set (F.PGT_GATE_CTRL_ENABLE 0) 1).sticky bPgt 0
  else
    let s1 := (s.commandOff n).set (F.PGT_GATE_STATUS_STATE n) 0
    let s2 := if s1.gstate n = gsWait || s1.gstate n = gsLatched then s1.setGs n gsOff else s1
    if s2.isSource (n - 1) then s2.errorRecovery (n - 1) else s2

end Sys2Proof.Machine
end

