-- ==== Sys2Proof/Machine/Usb.lean ====
section
/-! DEFINITION. The USB hub, its internal host, its device function and its remote ports (spec/16). -/

namespace Sys2Proof.Machine

/-- The entry of the far binding of a Dock port (spec/16 R362): PORT in bits [2:0], FAR in bit [3]. -/
def State.farEntry (s : State) (j : Nat) : Option Nat :=
  (s.validEntries.find? fun x => x.2.localPort = 10 && x.2.service = svReliable && decide (x.2.binding = j + 8)).map (·.1)

/-- Records that wait go as their windows and the seam allow (spec/16 R363; spec/02 R44). -/
def State.flushUsb (s : State) : State :=
  if !s.seamUp || !s.boltUp then s
  else s.each s.spool.usb.waiting fun r s =>
    if s.windowOpen r.1 && s.canSource r.1 then
      (s.mapUsb fun u => { u with waiting := u.waiting.erase r }).sourceFrame r.1 kData (svcReliable 0 0) r.2 true
    else s

/-- A record padded to 4 bytes and sent under an entry (spec/16 R363). -/
def State.sendRecord (s : State) (entry : Nat) (bs : List Byte) : State :=
  let r := bs ++ List.replicate ((4 - bs.length % 4) % 4) 0
  (s.mapUsb fun u => { u with waiting := u.waiting ++ [(entry, r)] }).flushUsb

/-- An EVENT record from the near end of a port, or from the far end (spec/16 R363, R367). -/
def State.nearEvent (s : State) (k ev : Nat) : State :=
  s.sendRecord (s.nearEntry k) (List.flatten [leBytes 1 3, leBytes 1 ev, leBytes 6 0])
def State.farEvent (s : State) (j ev : Nat) : State :=
  match s.farEntry j with
  | some i => s.sendRecord i (List.flatten [leBytes 1 3, leBytes 1 ev, leBytes 6 0])
  | none => s

/-- A change bit of a hub port set, and PORT_CHANGE raised. -/
def State.portChange (s : State) (k bitNo : Nat) : State :=
  (s.mapUsb fun u => { u with changes := setAt u.changes k (setBit (u.changes.getD k 0) bitNo) }).irq bUsb 2

/-- A device seen on a hub port at a speed, or gone (spec/16). -/
def State.portConnect (s : State) (k speed : Nat) : State :=
  if k = 7 || k = s.upstream || !bit s.spool.usb.power k then s
  else
    let up := speed ≠ 0
    if s.on (F.USB_PORT_STATUS_CONNECT k) = up && s.get (F.USB_PORT_STATUS_SPEED k) = speed then s
    else
      (s.sets [(F.USB_PORT_STATUS_CONNECT k, b2n up), (F.USB_PORT_STATUS_SPEED k, speed), (F.USB_PORT_STATUS_ENABLED k, 0),
        (F.USB_PORT_STATUS_SUSPEND k, 0), (F.USB_PORT_STATUS_RESET k, 0)]).portChange k 0

/-- A near remote port reports disconnect; prefetched packets and transactions are discarded (spec/16 R367, R368). -/
def State.nearGone (s : State) (k : Nat) : State :=
  (s.mapNear k fun x => { x with txs := [], cache := [], outs := [], late := [], seen := 0 }).portConnect k 0

/-- A tunnel that becomes DEAD takes the near port of its binding with it (spec/16 R367). -/
def State.usbDead (s : State) (i : Nat) : State :=
  s.each ((List.range 7).filter fun k => s.remotePort k && s.nearEntry k = i) fun k s => s.nearGone k

/-- USB_BUS_RESET (spec/16 R368). -/
def execUsbBusReset (s : State) : Step :=
  .next (s.ifAon fun s =>
    if s.usbOn && s.on F.USB_STATUS_CONNECTED then (s.sat F.USB_DEV_CNT_RESETS 1).hubReset else s)

/-- USB_UPSTREAM_CONNECT (spec/16 R354). -/
def execUsbUpstreamConnect (s : State) : Step := .next (s.ifAon fun s => s.usbReview)

/-- RUN (spec/16 R354; R369): refused with a Dock upstream. -/
def execHostRun (who : Requester) (value : Word) (s : State) : Step :=
  .next (s.command who R.USB_HC_CTRL value fun s =>
    if s.on F.USB_HC_CTRL_RUN && s.upstream ≠ 0 then
      s.sets [(F.USB_HC_CTRL_RUN, 0), (F.USB_REFUSE_REASON, 0x2115), (F.USB_REFUSE_DETAIL, 0xFFFF)]
    else (s.set F.USB_HC_STATUS_HALTED (1 - s.get F.USB_HC_CTRL_RUN)).usbReview)

/-- The internal host works: upstream 0, RUN, the hub ON. -/
def State.hostRuns (s : State) : Bool := s.usbOn && decide (s.upstream = 0) && s.on F.USB_HC_CTRL_RUN

/-- A pipe's configuration is valid (spec/16, R369). -/
def State.pipeOk (s : State) (p : Nat) (setup : Bool) : Bool :=
  let speed := s.get (F.USB_PIPE_CFG_SPEED p)
  let mps := s.get (F.USB_PIPE_CFG_MPS p)
  let o := s.get (F.USB_PIPE_BUF_OFFSET p)
  let len := s.get (F.USB_PIPE_BUF_LEN p)
  speed ≠ 0 && decide (8 ≤ mps) && decide (mps ≤ 1024) && o % 4 = 0 && decide (o + len ≤ 65536) &&
    (speed = 3 || s.get (F.USB_PIPE_CFG2_HUB_PORT p) ≠ 0) &&
    (!setup || (s.get (F.USB_PIPE_CFG_TYPE p) = 0 && decide (8 ≤ len)))

/-- A transfer starts; ignored while BUSY (spec/16 R357): the first 8 bytes are the SETUP stage where one is asked for, and bit 7
of bmRequestType gives the direction of the rest. -/
def State.pipeGo (s : State) (p : Nat) (setup : Bool) : State :=
  if s.on (F.USB_PIPE_STATUS_BUSY p) then s
  else if !s.pipeOk p setup then s.sets [(F.USB_REFUSE_REASON, 0x2114), (F.USB_REFUSE_DETAIL, p)]
  else
    let s1 := s.sets [(F.USB_PIPE_STATUS_BUSY p, 1), (F.USB_PIPE_STATUS_RESULT p, 0), (F.USB_PIPE_STATUS_BYTES p, 0)]
    let bytes := memBytes s.spool.usb.mem (s.get (F.USB_PIPE_BUF_OFFSET p)) (s.get (F.USB_PIPE_BUF_LEN p))
    let first := if setup then bytes.take 8 else []
    let isIn := if setup then bit (leAt first 0 1) 7 else s.on (F.USB_PIPE_CFG_DIR p)
    (s1.mapUsb fun u => { u with setups := setAt u.setups p setup, aborts := setAt u.aborts p false }).usbOut
      (.pipe p (s.rd (R.USB_PIPE_CFG p)) (s.rd (R.USB_PIPE_CFG2 p)) first (if isIn then [] else bytes.drop first.length))

/-- PIPE_GO. -/
def execPipeGo (who : Requester) (p : Fin 16) (setup : Bool) (s : State) : Step :=
  .next (s.command who (R.USB_PIPE_CMD p) (BitVec.ofNat 32 (1 + 2 * b2n setup)) fun s => s.pipeGo p setup)

/-- A transfer ends after the packet in progress (spec/16 R357). -/
def State.pipeAbort (s : State) (p : Nat) : State :=
  if s.on (F.USB_PIPE_STATUS_BUSY p) then s.mapUsb fun u => { u with aborts := setAt u.aborts p true } else s

/-- ABORT. -/
def execPipeAbort (who : Requester) (p : Fin 16) (s : State) : Step :=
  .next (s.command who (R.USB_PIPE_CMD p) 4 fun s => s.pipeAbort p)

/-- The request of a SETUP stage resets toggles (spec/16 R361): 1 SetConfiguration, 2 SetInterface, 3 ClearFeature of an endpoint's
halt. -/
def toggleRequest (b : List Byte) : Nat :=
  let rt := leAt b 0 1
  let rq := leAt b 1 1
  if rt = 0 && rq = 9 then 1 else if rt = 1 && rq = 11 then 2 else if rt = 2 && rq = 1 && leAt b 2 2 = 0 then 3 else 0

/-- The pipes of a device whose toggle a completed request resets (spec/16 R361). -/
def State.resetPipes (s : State) (p : Nat) (setup : List Byte) (eps : List (Fin 32)) : State :=
  let dev := s.get (F.USB_PIPE_CFG_ADDR p)
  let ep := leAt setup 4 1
  let hit (q : Nat) : Bool :=
    let own := s.get (F.USB_PIPE_CFG_DIR q) * 16 + s.get (F.USB_PIPE_CFG_EP q)
    match toggleRequest setup with
    | 1 => true
    | 2 => eps.any fun e => e.val = own
    | 3 => decide (ep / 128 * 16 + ep % 16 = own)
    | _ => false
  s.each ((List.range 16).filter fun q => s.get (F.USB_PIPE_CFG_ADDR q) = dev && hit q) fun q s =>
    s.set (F.USB_PIPE_STATUS_TOGGLE q) 0

/-- PIPE_DONE (spec/16 R357, R361): read data go to the buffer, RESULT and BYTES are set, the toggle has moved with each packet. -/
def execPipeDone (p : Fin 16) (result : Fin 4) (bytes : Nat) (data : List Byte) (eps : List (Fin 32)) (s : State) : Step :=
  .next (s.ifAon fun s =>
    if !s.on (F.USB_PIPE_STATUS_BUSY p) || !s.hostRuns then s
    else
      let u := s.spool.usb
      let setup := u.setups.getD p false
      let o := s.get (F.USB_PIPE_BUF_OFFSET p)
      let len := s.get (F.USB_PIPE_BUF_LEN p)
      let sb := memBytes u.mem o 8
      let isIn := if setup then bit (leAt sb 0 1) 7 else s.on (F.USB_PIPE_CFG_DIR p)
      let room := len - (if setup then 8 else 0)
      let moved := min (if isIn then data.length else bytes) room
      let mps := max 1 (s.get (F.USB_PIPE_CFG_MPS p))
      let r := if u.aborts.getD p false then 3 else result.val
      let short : Nat := if moved % mps ≠ 0 || (moved < room && r = 1) || (room = 0 && r = 1) then 1 else 0
      let tog := if s.get (F.USB_PIPE_CFG_TYPE p) = 0 || s.get (F.USB_PIPE_CFG_TYPE p) = 1 then 0
        else (s.get (F.USB_PIPE_STATUS_TOGGLE p) + moved / mps + short) % 2
      let s1 := if isIn then s.mapUsb fun u => { u with mem := memPut u.mem (o + (if setup then 8 else 0)) (data.take room) } else s
      let s2 := s1.sets [(F.USB_PIPE_STATUS_BUSY p, 0), (F.USB_PIPE_STATUS_RESULT p, r), (F.USB_PIPE_STATUS_BYTES p, moved),
        (F.USB_PIPE_STATUS_TOGGLE p, tog)]
      let s3 := if setup && r = 1 then s2.resetPipes p sb eps else s2
      (s3.mapUsb fun u => { u with aborts := setAt u.aborts p false }).irq bUsb 5)

/-- What a control request to the device function does as its status stage completes (spec/16 R358, R361). -/
def State.devRequest (s : State) (b : List Byte) : State :=
  let rt := leAt b 0 1
  let rq := leAt b 1 1
  let v := leAt b 2 2
  let i := leAt b 4 2
  let clearAll (s : State) : State := s.mapUsb fun u => { u with toggles := [false, false, false] }
  if rt = 0 && rq = 5 then s.set F.USB_DEV_STATUS_ADDR (v % 128)
  else if rt = 0 && rq = 9 then
    if 1 < v then s.usbOut .stall
    else clearAll (s.sets [(F.USB_DEV_STATUS_CONFIGURED, v), (F.USB_DEV_STATUS_ALT_OUT, 0), (F.USB_DEV_STATUS_ALT_IN, 0)])
  else if rt = 1 && rq = 11 then
    if i = 2 && v ≤ 2 then
      (s.set F.USB_DEV_STATUS_ALT_OUT v).mapUsb fun u => { u with outFifo := [], outPrev := [] }
    else if i = 3 && v ≤ 2 then (s.set F.USB_DEV_STATUS_ALT_IN v).mapUsb fun u => { u with inFifo := [] }
    else if i = 0 && v = 0 then clearAll s
    else if i = 1 && v = 0 then s
    else s.usbOut .stall
  else if rt = 2 && rq = 1 && v = 0 then
    let k := match i % 256 with
      | 0x01 => some 0
      | 0x81 => some 1
      | 0x82 => some 2
      | _ => none
    match k with
    | some k => s.mapUsb fun u => { u with toggles := setAt u.toggles k false }
    | none => s
  else if rt = 0 && v = 1 && (rq = 1 || rq = 3) then s.set F.USB_DEV_STATUS_WAKE_EN (if rq = 3 then 1 else 0)
  else s

/-- DEV_SETUP (spec/16 R352, R361, R368): a new SETUP abandons the transfer before it; the device descriptor carries the
identities of USB_ID and USB_ID2. -/
def execDevSetup (setup : List Byte) (status : Bool) (s : State) : Step :=
  .next (s.ifAon fun s =>
    if !s.usbOn || !s.on F.USB_STATUS_CONNECTED then s
    else if !status then
      let s1 := if s.spool.usb.ctrl.isSome then s.sat F.USB_DEV_CNT_ABANDONED 1 else s
      let s2 := s1.mapUsb fun u => { u with ctrl := some setup }
      if leAt setup 0 1 = 0x80 && leAt setup 1 1 = 6 && leAt setup 2 2 = 0x100 then
        s2.usbOut (.ids (s.get F.USB_ID_VID) (s.get F.USB_ID2_DEV_PID) (s.get F.USB_ID2_BCD))
      else s2
    else match s.spool.usb.ctrl with
      | none => s
      | some b => (s.mapUsb fun u => { u with ctrl := none }).devRequest b)

/-- MBX_STATUS follows the mailbox. -/
def State.showMbx (s : State) : State :=
  s.sets [(F.USB_MBX_STATUS_RX_COUNT, s.spool.usb.mbx.length), (F.USB_MBX_STATUS_RX_LEN, (s.spool.usb.mbx.headD []).length)]

/-- A toggle of the device function moves with a number of packets. -/
def State.flipToggle (s : State) (k packets : Nat) : State :=
  if packets % 2 = 0 then s
  else s.mapUsb fun u => { u with toggles := setAt u.toggles k (!u.toggles.getD k false) }

/-- The management interface serves the host (spec/16 R355, R358). -/
def State.mgmtRuns (s : State) : Bool :=
  s.usbOn && s.on F.USB_STATUS_CONNECTED && s.on F.USB_DEV_STATUS_CONFIGURED && s.seamUp

/-- MBX_RX (spec/16 R360): NAK while four messages wait. -/
def execMbxRx (bytes : List Byte) (s : State) : Step :=
  .next (s.ifAon fun s =>
    if !s.mgmtRuns || 4 ≤ s.spool.usb.mbx.length || 512 < bytes.length then s
    else
      let s1 := s.mapUsb fun u => { u with mbx := u.mbx ++ [bytes] }
      ((s1.showMbx).flipToggle 0 (bytes.length / 512 + 1)).irq bUsb 3)

/-- POP (spec/16 R360). -/
def execMbxPop (who : Requester) (value : Word) (s : State) : Step :=
  .next (s.command who R.USB_MBX_RX_POP value fun s =>
    if getBits value 0 1 = 1 then (s.mapUsb fun u => { u with mbx := u.mbx.drop 1 }).showMbx else s)

/-- TX_GO (spec/16 R360): one reply at a time. -/
def execTxGo (who : Requester) (value : Word) (s : State) : Step :=
  .next (s.command who R.USB_MBX_TX_CTRL value fun s =>
    if getBits value 10 1 = 0 || s.spool.usb.reply.isSome then s
    else
      let n := min 512 (s.get F.USB_MBX_TX_CTRL_LEN)
      let bs := ((List.range 128).flatMap fun i => leBytes 4 (s.rd (R.USB_MBX_TXD i)).toNat).take n
      ((s.mapUsb fun u => { u with reply := some bs }).set F.USB_MBX_STATUS_TX_BUSY 1).usbOut (.reply bs))

/-- MBX_TX_DONE (spec/16 R360): EP1 IN ends with a short or zero-length packet; EP2 sent one notice. -/
def execMbxTxDone (s : State) : Step :=
  .next (s.ifAon fun s =>
    match s.spool.usb.reply with
    | none => s
    | some bs =>
      if !s.mgmtRuns then s
      else
        let s1 := (s.mapUsb fun u => { u with reply := none }).sets [(F.USB_MBX_STATUS_TX_BUSY, 0), (F.USB_MBX_TX_CTRL_TX_GO, 0)]
        ((s1.flipToggle 1 (bs.length / 512 + 1)).flipToggle 2 1).irq bUsb 4)

/-- A FIFO slip counted (spec/16 R359): the next trio of every affected channel carries GAP_BEFORE. -/
def State.usbSlip (s : State) : State :=
  let s1 := (s.sat F.USB_AUD_CNT_SLIP 1).irq bUsb 6
  if !s1.boltUp then s1
  else { s1 with bolt.aud := { s1.bolt.aud with slips := s1.bolt.aud.slips ++ [(15, s1.sampleIx s1.cycle 0)] } }

/-- The fills shown (spec/16): whole cycles of samples. -/
def State.showFill (s : State) : State :=
  s.sets [(F.USB_AUD_STATUS_FILL_OUT, s.spool.usb.outFifo.length / s.samplesPer),
    (F.USB_AUD_STATUS_FILL_IN, s.spool.usb.inFifo.length / s.samplesPer)]

/-- The audio interfaces stream silence: in QUIET and while the seam is down (spec/16 R355). -/
def State.usbSilent (s : State) : Bool := !s.seamUp || !s.audRuns

/-- ISO_OUT_PACKET (spec/16 R355, R358, R359): at most S + 1 samples; a FIFO of 4 cycles, the newest samples discarded as it
overflows; nothing is taken while the interfaces stream silence. -/
def execIsoOutPacket (samples : List (List Nat)) (s : State) : Step :=
  .next (s.ifAon fun s =>
    if !s.usbOn || !s.on F.USB_DEV_STATUS_CONFIGURED || s.get F.USB_DEV_STATUS_ALT_OUT = 0 || s.usbSilent ||
        s.samplesPer + 1 < samples.length then s
    else
      let all := s.spool.usb.outFifo ++ samples
      let cap := 4 * s.samplesPer
      let s1 := (s.mapUsb fun u => { u with outFifo := all.take cap }).showFill
      if cap < all.length then s1.usbSlip else s1)

/-- ISO_IN_PACKET (spec/16 R355, R359): the samples that wait, up to S + 1; S samples of silence in QUIET and while the seam is
down. -/
def execIsoInPacket (s : State) : Step :=
  .next (s.ifAon fun s =>
    if !s.usbOn || !s.on F.USB_DEV_STATUS_CONFIGURED || s.get F.USB_DEV_STATUS_ALT_IN = 0 then s
    else if s.usbSilent then s.usbOut (.isoIn (List.replicate s.samplesPer (List.replicate s.slotsPer 0)))
    else
      let n := s.samplesPer + 1
      let s1 := (s.mapUsb fun u => { u with inFifo := u.inFifo.drop n }).showFill
      s1.usbOut (.isoIn (s.spool.usb.inFifo.take n)))

/-- The number of the ring sample of this instant (spec/11 R258). -/
def State.ringSample (s : State) : Nat := s.cycle * s.samplesPer + s.bolt.sch.now * s.samplesPer / cyclePs

/-- The ring samples counted over the last 1,024 host micro-frames, from the counts at the last 128 reports of 8 each; S for
each micro-frame until so many have passed (assumption log 92). -/
def State.countedSamples (s : State) : Nat :=
  let marks := s.spool.usb.marks
  if marks.length < 128 then 1024 * s.samplesPer
  else (s.ringSample + 2 ^ 32 * s.samplesPer - marks.getD 127 0) % (2 ^ 32 * s.samplesPer)

/-- AUD_FEEDBACK (spec/16 R356, R359): 16.16 samples per micro-frame; with the internal host exactly S × 2^16.  With a Dock
upstream the hub follows the frame number of the upstream host's SOF. -/
def execAudFeedback (frame : Fin 2048) (s : State) : Step :=
  .next (s.ifAon fun s =>
    if !s.usbOn || !s.on F.USB_STATUS_CONNECTED then s
    else
      let counted := s.countedSamples
      let s := s.mapUsb fun u => { u with marks := (s.ringSample :: u.marks).take 128 }
      let s := if s.upstream = 0 then s else s.sets [(F.USB_FRAME_UFRAME, 0), (F.USB_FRAME_FRAME, frame)]
      if s.get F.USB_DEV_STATUS_ALT_OUT = 0 then s
      else
      let sp := s.samplesPer
      let fb : Int := (counted * 64 : Nat) + (2 * (sp : Int) - (s.spool.usb.outFifo.length : Nat)) * 16
      let v := if s.upstream = 0 then sp * 2 ^ 16 else ofSigned 32 fb
      (s.set F.USB_AUD_FB_FB v).usbOut (.feedback v))

/-- The exchange between AUD and the audio interfaces at the start of a cycle (spec/16 R359, spec/11 R280): S samples of the OUT
FIFO become the inputs of TDM15, S samples of its outputs go to the IN FIFO. -/
def State.usbAudio (s : State) : State :=
  if !s.audRuns || !s.on F.AUD_CTRL_USB_PORT then s
  else
    let sp := s.samplesPer
    let m := s.slotsPer
    let live := s.seamUp && s.usbOn
    let alt := if live then s.get F.USB_DEV_STATUS_ALT_OUT else 0
    let w := if alt = 2 then 24 else 32
    let u := s.spool.usb
    let got := u.outFifo.take sp
    let last := got.getLastD u.outPrev
    let empty := alt ≠ 0 && decide (got.length < sp)
    let s1 := s.each (List.range sp) fun i s =>
      let x := if alt = 0 then [] else got.getD i last
      s.each (List.range m) fun slot s =>
        s.putInput (s.sampleIx s.cycle i) (15 * m + slot) (x.getD slot 0 % 2 ^ w * 2 ^ (36 - w))
    let s2 := if live then s1.mapUsb fun u => { u with outFifo := u.outFifo.drop sp, outPrev := last } else s1
    let s3 := if empty then s2.usbSlip else s2
    let altIn := if live then s3.get F.USB_DEV_STATUS_ALT_IN else 0
    if altIn = 0 then s3.showFill
    else
      let w' := if altIn = 2 then 24 else 32
      let prev := (s3.cycle + 2 ^ 32 - 1) % 2 ^ 32
      let step (acc : State × List Nat) (o : Nat) (n : Nat) : State × List Nat :=
        let r := acc.1.slotValue o w' (getKey 0 (n * 512 + o) acc.1.bolt.aud.plays)
        (r.1, acc.2 ++ [r.2])
      let s4 := s3.each (List.range sp) fun i s =>
        let n := s.sampleIx prev i
        let r := (List.range m).foldl (fun acc slot => step acc (15 * m + slot) n) (s, [])
        r.1.mapUsb fun u => { u with inFifo := (u.inFifo ++ [r.2]).take (4 * sp) }
      s4.showFill

/-- SOF (spec/16 R355, R356): the internal host's micro-frame of this cycle; none while the seam is down. -/
def State.usbSof (s : State) : State :=
  if s.hostRuns && s.on F.USB_STATUS_CONNECTED && s.seamUp then
    let c := s.cycle
    (s.sets [(F.USB_FRAME_UFRAME, c % 8), (F.USB_FRAME_FRAME, c / 8 % 2048)]).usbOut (.sof (c / 8 % 2048) (c % 8))
  else s

/-- The work of USB at a cycle boundary. -/
def State.usbCycle (s : State) : State := (s.usbSof.usbAudio).flushUsb

/-- The IN endpoint `ep` is affected by a SETUP that resets toggles; `eps` are the IN endpoints of an interface that it names
(spec/16 R361). -/
def affected (setup : List Byte) (eps : List (Fin 16)) (ep : Nat) : Bool :=
  match toggleRequest setup with
  | 1 => true
  | 2 => eps.any fun e => e.val = ep
  | _ => decide (leAt setup 4 1 = 128 + ep)

/-- A device behind a remote port: GEN advanced and prefetched packets of the endpoints discarded (spec/16 R365). -/
def State.nearGen (s : State) (k : Nat) (setup : List Byte) (eps : List (Fin 16)) : State :=
  s.mapNear k fun x => { x with gen := (x.gen + 1) % 256, cache := x.cache.filter fun c => !affected setup eps c.1 }

/-- A TRANSACTION record (spec/16 R363). -/
def transactionRecord (pid addr ep typ tag : Nat) (low toggle : Bool) (data : List Byte) : List Byte :=
  List.flatten [leBytes 1 1, leBytes 1 (pid + 4 * b2n low + 8 * b2n toggle), leBytes 1 addr, leBytes 1 (ep + 16 * typ),
    leBytes 2 tag, leBytes 2 data.length, data]

/-- A TRANSACTION sent with the next TAG. -/
def State.sendTransaction (s : State) (k pid addr ep typ : Nat) (low toggle : Bool) (data : List Byte) : State :=
  let tag := (s.near k).tag
  (s.mapNear k fun x => { x with tag := (tag + 1) % 2 ^ 16 }).sendRecord (s.nearEntry k)
    (transactionRecord pid addr ep typ tag low toggle data)

/-- The near translator of hub port k works. -/
def State.nearWorks (s : State) (k : Nat) : Bool :=
  s.usbOn && s.on F.USB_STATUS_CONNECTED && s.remotePort k && s.on (F.USB_PORT_STATUS_ENABLED k)

/-- START_SPLIT (spec/16 R364 to R366): isochronous ones go unanswered; a third transaction, or one that the tunnel cannot take,
gets NAK. -/
def execStartSplit (k : Fin 6) (addr : Fin 128) (ep : Fin 16) (typ : Fin 4) (pid : Fin 3) (low : Bool) (toggle : Bool)
    (data : List Byte) (eps : List (Fin 16)) (s : State) : Step :=
  .next (s.ifAon fun s =>
    let h := k.val + 1
    if !s.nearWorks h then s
    else if typ = 1 then s.sat (F.USB_PORT_CNT2_ISO_DROP h) 1
    else if typ = 3 then
      if pid = 2 then s.usbOut (.split h 0 false [])
      else
        let s1 := s.mapNear h fun x => { x with outs := x.outs ++ [(x.tag, ep.val)] }
        (s1.sendTransaction h pid addr ep typ low toggle data).usbOut (.split h 0 false [])
    else if 2 ≤ (s.near h).txs.length || !s.seamUp || !s.windowOpen (s.nearEntry h) then s.usbOut (.split h 1 false [])
    else
      let s1 := if pid = 0 && toggleRequest data ≠ 0 then s.nearGen h data eps else s
      let s2 := s1.mapNear h fun x => { x with txs := x.txs ++ [⟨x.tag, addr, ep, pid, none⟩] }
      (s2.sendTransaction h pid addr ep typ low toggle data).usbOut (.split h 0 false []))

/-- COMPLETE_SPLIT (spec/16 R364, R365): NYET until the RESULT is there; an interrupt IN from the prefetched packet, whose
consumption is told to the far end; an interrupt OUT is acknowledged, or answered with an earlier failure. -/
def execCompleteSplit (k : Fin 6) (addr : Fin 128) (ep : Fin 16) (typ : Fin 4) (pid : Fin 3) (s : State) : Step :=
  .next (s.ifAon fun s =>
    let h := k.val + 1
    let x := s.near h
    if !s.nearWorks h || typ = 1 then s
    else if typ = 3 then
      if pid = 2 then
        match lookupKey ep.val x.cache with
        | some c =>
          let s1 := s.mapNear h fun x => { x with cache := eraseKey ep.val x.cache }
          (s1.sendTransaction h 2 addr ep 3 false c.1 []).usbOut (.split h 0 c.1 c.2)
        | none => s.usbOut (.split h 1 false [])
      else match lookupKey ep.val x.late with
        | some hs =>
          let s1 := s.mapNear h fun x => { x with late := eraseKey ep.val x.late }
          (s1.sat (F.USB_PORT_CNT2_LATE_FAIL h) 1).usbOut (.split h hs false [])
        | none => s.usbOut (.split h 0 false [])
    else match x.txs.find? fun t => t.addr = addr.val && t.ep = ep.val && t.pid = pid.val with
      | none => s
      | some t => match t.result with
        | none => s.usbOut (.split h 4 false [])
        | some r => (s.mapNear h fun x => { x with txs := x.txs.erase t }).usbOut (.split h r.1 r.2.1 r.2.2))

/-- The far end's GEN advanced: of the affected endpoints it discards its held packet and expects DATA0 (spec/16 R365). -/
def State.farGen (s : State) (j : Nat) (hit : Nat → Bool) : State :=
  s.mapFar j fun x => { x with
    gen := (x.gen + 1) % 256
    held := x.held.filter fun e => !hit e
    ones := x.ones.filter fun e => !hit e }

/-- A RESULT record (spec/16 R363). -/
def resultRecord (hs gen ep tag : Nat) (toggle prefetch : Bool) (data : List Byte) : List Byte :=
  List.flatten [leBytes 1 2, leBytes 1 (hs + 8 * b2n toggle + 16 * b2n prefetch), leBytes 1 gen, leBytes 1 ep, leBytes 2 tag,
    leBytes 2 data.length, data]

/-- TRANSACTION_RX (spec/16 R364, R365): run on the Dock port's bus, its RESULT returned; an interrupt IN says that the host has
consumed the prefetched packet. -/
def execTransactionRx (j : Fin 6) (tag : BitVec 16) (at' : UsbEndpoint) (typ : Fin 4) (pid : Fin 3) (toggle : Bool)
    (data : List Byte) (eps : List (Fin 16)) (hs : Fin 4) (rtoggle : Bool) (rdata : List Byte) (s : State) : Step :=
  let ep := at'.ep
  .next (s.ifAon fun s =>
    match s.farEntry j with
    | none => s
    | some i =>
      if !s.usbOn then s
      else if typ = 3 && pid = 2 then s.mapFar j fun x => { x with held := x.held.filter fun e => e != ep.val }
      else
        let s1 := s.usbOut (.bus j pid at'.addr ep toggle data)
        let s2 := if pid = 0 && toggleRequest data ≠ 0 then s1.farGen j (affected data eps) else s1
        s2.sendRecord i (resultRecord hs (s2.farPort j).gen ep tag.toNat rtoggle false rdata))

/-- RESULT_RX (spec/16 R364, R365): one without its transaction, or a PREFETCH of another GEN, is discarded as stale. -/
def execResultRx (k : Fin 6) (tag : BitVec 16) (ep : Fin 16) (hs : Fin 4) (toggle : Bool) (prefetch : Bool) (gen : Byte)
    (data : List Byte) (s : State) : Step :=
  .next (s.ifAon fun s =>
    let h := k.val + 1
    let x := s.near h
    if !s.usbOn || !s.remotePort h then s
    else if prefetch then
      if gen.toNat ≠ x.gen then s.sat (F.USB_PORT_CNT_STALE h) 1
      else s.mapNear h fun x => { x with cache := insertKey ep.val (toggle, data) x.cache }
    else if x.outs.any fun o => o.1 = tag.toNat then
      s.mapNear h fun x => { x with
        outs := x.outs.filter fun o => o.1 != tag.toNat
        late := if 2 ≤ hs.val then insertKey ep.val hs.val x.late else x.late }
    else if x.txs.any fun t => t.tag = tag.toNat && t.result.isNone then
      s.mapNear h fun x => { x with
        txs := x.txs.map fun t => if t.tag = tag.toNat then { t with result := some (hs.val, toggle, data) } else t }
    else s.sat (F.USB_PORT_CNT_STALE h) 1)

/-- REMOTE_RESULT_TIMEOUT (spec/16 R364; spec/01 R21). -/
def execRemoteResultTimeout (k : Fin 6) (tag : BitVec 16) (ms : Nat) (s : State) : Step :=
  .next (s.ifAon fun s =>
    let h := k.val + 1
    if s.get F.USB_RMT_CFG_RESULT_MS ≤ ms && (s.near h).txs.any fun t => t.tag = tag.toNat && t.result.isNone then
      let s1 := s.mapNear h fun x => { x with txs := x.txs.filter fun t => t.tag != tag.toNat }
      (s1.sat (F.USB_PORT_CNT_TIMEOUT h) 1).irq bUsb 7
    else s)

/-- PREFETCH_POLL (spec/16 R365): no poll while the host has not consumed the packet before; a packet with another toggle than the
one expected is a repetition. -/
def execPrefetchPoll (j : Fin 6) (ep : Fin 16) (toggle : Bool) (data : List Byte) (s : State) : Step :=
  .next (s.ifAon fun s =>
    let x := s.farPort j
    match s.farEntry j with
    | none => s
    | some i =>
      if !s.usbOn || x.resetting || x.held.contains ep.val || x.ones.contains ep.val ≠ toggle then s
      else
        let s1 := s.mapFar j fun x => { x with
          held := x.held ++ [ep.val]
          ones := if toggle then x.ones.filter fun e => e != ep.val else x.ones ++ [ep.val] }
        s1.sendRecord i (resultRecord 0 x.gen ep 0 toggle true data))

/-- The hub may signal resume upstream (spec/16 R367). -/
def State.wakeUp (s : State) : State :=
  if s.on F.USB_STATUS_SUSPENDED && s.spool.usb.hubWake then s.usbOut .resumeUp else s

/-- EVENT_RX (spec/16 R367, R368). -/
def execEventRx (far : Bool) (n : Fin 6) (ev : Fin 9) (s : State) : Step :=
  .next (s.ifAon fun s =>
    let h := n.val + 1
    if !s.usbOn then s
    else if far then
      match ev.val with
      | 5 => ((s.farGen n fun _ => true).mapFar n fun x => { x with resetting := true }).usbOut (.port true n 0)
      | 7 => s.usbOut (.port true n 1)
      | 8 => s.usbOut (.port true n 2)
      | _ => s
    else if !s.remotePort h then s
    else match ev.val with
      | 1 => (s.mapNear h fun x => { x with seen := 2 }).portConnect h 2
      | 2 => (s.mapNear h fun x => { x with seen := 1 }).portConnect h 1
      | 3 => s.nearGone h
      | 4 =>
        if s.on (F.USB_PORT_STATUS_SUSPEND h) then
          ((s.set (F.USB_PORT_STATUS_SUSPEND h) 0).portChange h 2).wakeUp
        else if s.on F.USB_STATUS_SUSPENDED then s.wakeUp
        else s.sat (F.USB_PORT_CNT2_WAKE_LATE h) 1
      | 6 =>
        if s.on (F.USB_PORT_STATUS_RESET h) then
          (s.sets [(F.USB_PORT_STATUS_RESET h, 0), (F.USB_PORT_STATUS_ENABLED h, 1)]).portChange h 4
        else s
      | _ => s)

/-- USB_SUSPEND_RESUME (spec/16 R352, R367, R368). -/
def execUsbSuspendResume (suspend : Bool) (s : State) : Step :=
  .next (s.ifAon fun s =>
    if !s.usbOn || !s.on F.USB_STATUS_CONNECTED || s.on F.USB_STATUS_SUSPENDED = suspend then s
    else
      let s1 := s.sets [(F.USB_STATUS_SUSPENDED, b2n suspend), (F.USB_DEV_STATUS_SUSPENDED, b2n suspend)]
      s1.each ((List.range 7).filter fun k => s1.remotePort k && s1.on (F.USB_PORT_STATUS_ENABLED k) &&
        !s1.on (F.USB_PORT_STATUS_SUSPEND k)) fun k s => s.nearEvent k (if suspend then 7 else 8))

/-- A reset of a hub port (spec/16 R365, R368): a remote port's transactions and prefetched packets are discarded, GEN advances and
the far end resets its bus; a local port's reset ends in this step (DESIGN CHOICE, assumption log 25). -/
def State.resetHubPort (s : State) (k : Nat) : State :=
  if k = 7 then (s.sat F.USB_DEV_CNT_RESETS 1).deviceReset
  else if !s.on (F.USB_PORT_STATUS_CONNECT k) then s
  else if s.remotePort k then
    let s1 := s.mapNear k fun x => { x with gen := (x.gen + 1) % 256, txs := [], cache := [], outs := [], late := [] }
    (s1.sets [(F.USB_PORT_STATUS_RESET k, 1), (F.USB_PORT_STATUS_ENABLED k, 0), (F.USB_PORT_STATUS_SUSPEND k, 0)]).nearEvent k 5
  else
    ((s.sets [(F.USB_PORT_STATUS_ENABLED k, 1), (F.USB_PORT_STATUS_SUSPEND k, 0)]).usbOut (.port false (k - 1) 0)).portChange k 4

/-- A hub port suspended or resumed by the host (spec/16 R367, R368). -/
def State.suspendHubPort (s : State) (k : Nat) (on : Bool) : State :=
  if k = 7 then s.set F.USB_DEV_STATUS_SUSPENDED (b2n on)
  else if !s.on (F.USB_PORT_STATUS_ENABLED k) || s.on (F.USB_PORT_STATUS_SUSPEND k) = on then s
  else
    let s1 := s.set (F.USB_PORT_STATUS_SUSPEND k) (b2n on)
    let s2 := if s1.remotePort k then s1.nearEvent k (if on then 7 else 8) else s1.usbOut (.port false (k - 1) (if on then 1 else 2))
    if on then s2 else s2.portChange k 2

/-- HUB_CLASS_REQUEST (spec/16 R352, R353, R368): features of USB 2.0: of the hub 1 DEVICE_REMOTE_WAKEUP; of a port 1 ENABLE, 2 SUSPEND,
4 RESET, 8 POWER, 16 to 20 the change bits. -/
def execHubClassRequest (k : Fin 8) (set : Bool) (feature : Nat) (s : State) : Step :=
  .next (s.ifAon fun s =>
    let h := k.val
    if !s.usbOn || !s.on F.USB_STATUS_CONNECTED then s
    else if h = 0 then (if feature = 1 then s.mapUsb fun u => { u with hubWake := set } else s)
    else match feature, set with
      | 8, true =>
        if h = s.upstream then s
        else
          let s1 := s.mapUsb fun u => { u with power := setBit u.power h }
          if s1.remotePort h then s1.portConnect h (s1.near h).seen
          else if h ≤ 6 && s1.isSource (h - 1) then s1.gateOnFor (h - 1) false
          else s1
      | 8, false => if h = s.upstream then s else s.portUnpower h
      | 4, true => s.resetHubPort h
      | 2, on => s.suspendHubPort h on
      | 1, false => if h = 7 then s else s.set (F.USB_PORT_STATUS_ENABLED h) 0
      | n, false =>
        if 16 ≤ n && n ≤ 20 then
          s.mapUsb fun u => { u with changes := setAt u.changes h (clrBit (u.changes.getD h 0) (n - 16)) }
        else s
      | _, _ => s)

/-- DOWNSTREAM_PORT_CHANGE (spec/16 R362, R367, R368): a device at a proxy attaches at full speed at most. -/
def execDownstreamPortChange (far : Bool) (n : Fin 6) (what : Fin 5) (s : State) : Step :=
  .next (s.ifAon fun s =>
    let h := n.val + 1
    if !s.usbOn then s
    else if far then
      if (s.farEntry n).isNone then s
      else match what.val with
        | 0 => (s.mapFar n fun x => { x with held := [], ones := [] }).farEvent n 3
        | 1 => s.farEvent n 2
        | 4 => s.farEvent n 4
        | _ => s.farEvent n 1
    else if s.remotePort h || h = s.upstream then s
    else match what.val with
      | 4 =>
        if s.on (F.USB_PORT_STATUS_SUSPEND h) then
          ((s.set (F.USB_PORT_STATUS_SUSPEND h) 0).portChange h 2).wakeUp
        else s.wakeUp
      | sp => s.portConnect h sp)

/-- REMOTE_RESET_DONE (spec/16 R367). -/
def execRemoteResetDone (j : Fin 6) (s : State) : Step :=
  .next (s.ifAon fun s =>
    if (s.farPort j).resetting then (s.mapFar j fun x => { x with resetting := false }).farEvent j 6 else s)

/-- REMOTE_DISCONNECT_TIMER (spec/16 R367; spec/02 R44). -/
def execRemoteDisconnectTimer (s : State) : Step :=
  .next (s.ifAon fun s =>
    if s.seamUp then s else s.each ((List.range 7).filter fun k => s.remotePort k) fun k s => s.nearGone k)

/-- USB goes ON: the upstream port marked, the conditions looked at (spec/16 R353, R354). -/
def State.usbStart (s : State) : State :=
  (s.each [1, 2, 3, 4, 5, 6] fun k s => s.set (F.USB_PORT_STATUS_UPSTREAM k) (b2n (k = s.upstream))).usbReview

/-- USB stops. -/
def State.usbStop (s : State) : State := (s.set F.USB_STATUS_STATE 0).usbReview

/-- A USB entry of TUN (spec/16 R362): the code that refuses it. -/
def State.usbBinding (s : State) (i : Nat) (e : Entry) : Option Nat :=
  let port := e.binding % 8
  let far := bit e.binding 3
  let same := s.validEntries.filter fun x => x.1 ≠ i && x.2.localPort = 10 && bit x.2.binding 3 = far
  if e.service ≠ svReliable || 5 < port || 16 ≤ e.binding then some 0x12
  else if !far && s.usbOn && !(s.remotePort (port + 1) && s.nearEntry (port + 1) = i) then some 0x12
  else if port + 1 = s.upstream then some 0x13
  else if 4 ≤ same.length then some 0x11
  else none

/-- The check of USB at enable (spec/16 R353, R362, R369). -/
def State.checkUsb (s : State) : Option (Nat × Nat) :=
  let ks := [1, 2, 3, 4, 5, 6].filter fun k => s.on (F.USB_PORT_CFG_REMOTE k)
  let bad (k : Nat) : Bool :=
    let e := s.entry (s.nearEntry k)
    !(e.valid && e.service = svReliable && e.localPort = 10 && decide (e.binding = k - 1))
  if s.get ⟨R.USB_CTRL, 1, 31⟩ ≠ 0 || s.get ⟨R.USB_CFG, 3, 29⟩ ≠ 0 then some (0x02, 0xFFFF)
  else match [1, 2, 3, 4, 5, 6].find? fun k => s.get ⟨R.USB_PORT_CFG k, 11, 21⟩ ≠ 0 with
    | some k => some (0x02, k)
    | none =>
      if s.upstream = 7 then some (0x01, 0xFFFF)
      else if s.upstream ≠ 0 && !s.on (F.TCP_PORT_CTRL_USB_UP (s.upstream - 1)) then some (0x10, 0xFFFF)
      else if 4 < ks.length || 4 < ((List.range 6).filter fun j => (s.farEntry j).isSome).length then some (0x11, 0xFFFF)
      else match ks.find? fun k => decide (k = s.upstream) with
        | some k => some (0x13, k)
        | none => (ks.find? bad).map fun k => (0x12, k)

end Sys2Proof.Machine
end

