-- ==== Sys2Proof/Machine/NightRows.lean ====
section
/-! DEFINITION. The night test's commands, its check and its work at a cycle boundary (spec/21). -/

namespace Sys2Proof.Machine

/-- The payload of a TEST frame: scrambler output seeded with (SEQ << 15) | 0x7FFF (spec/21 R459). -/
def testPayload (seq n : Nat) : List Byte := beBytes n (scrBits (8 * n) (seq % 65536 * 2 ^ 15 + 0x7FFF) 0).2

/-- The SVC word of a TEST frame: STEP and RUN (spec/21 R459). -/
def svcTest (step run : Nat) : Nat := step % 32 * 2 ^ 34 + run % 256 * 2 ^ 26

/-- The check of the sequencer at enable (spec/21 R455, R458; spec/01 R19). -/
def State.ntBadArg (s : State) (i : Nat) : Bool :=
  let a (lsb w : Nat) : Nat := s.ntArg i lsb w
  let k := s.ntKind i
  if k = nkIdle then a 20 12 ≠ 0
  else if k = nkPrbs then a 22 10 ≠ 0
  else if k = nkPath then
    let e := s.entry (a 0 10)
    !e.valid || e.service ≠ svDatagram || e.cls ≠ 0 || e.localPort ≠ 11 || 9600 < a 11 14
  else if k = nkPilot then
    let f := a 0 6
    let c := a 6 7
    c = 0 || 64 < f + c || (List.range c).any fun j =>
      decide (s.ntDur i < s.get (F.AUD_DET_CFG2_CYCLES (f + j)) * s.get (F.AUD_DET_CFG2_CONFIRM (f + j)))
  else if k = nkAlive then a 7 8 = 0 || 128 < a 0 7 + a 7 8
  else if k = nkScrub then s.ntDur i < 24 * s.get F.SWB_SCRUB_CFG_PERIOD_MS
  else false

/-- The check of the sequencer at enable. -/
def State.checkNts (s : State) : Option (Nat × Nat) :=
  let n := s.ntSteps
  if s.get ⟨R.NTS_CTRL, 1, 31⟩ ≠ 0 then some (0x02, 0xFFFF)
  else if s.get F.NTS_REPORT_ADDR_ADDR % 256 ≠ 0 || !inSram (s.get F.NTS_REPORT_ADDR_ADDR) (32 + 16 * n) then some (0x01, 0xFFFF)
  else match findFirst (fun i => slice (s.ntWord i 0) 5 11 ≠ 0 || slice (s.ntWord i 1) 24 8 ≠ 0) n with
    | some i => some (0x02, i)
    | none => match findFirst (fun i => s.ntDur i = 0 || 9 ≤ s.ntKind i ||
        (i ≠ 0 && decide (s.ntOfs i < s.ntOfs (i - 1) + s.ntDur (i - 1)))) n with
      | some i => some (0x10, i)
      | none => (findFirst (fun i => s.ntBadArg i) n).map fun i => (0x11, i)

/-- Sums of a counter over the lanes of a mask. -/
def State.laneSum (s : State) (mask off : Nat) : Nat := ((maskBits mask 20).map fun l => s.counter (4 * l + off)).sum

/-- The lanes of a mask whose port is UP. -/
def State.upLanes (s : State) (mask : Nat) : Nat := ((maskBits mask 20).filter fun l => s.portUp (lanePort l)).map (2 ^ ·) |>.sum

/-- Concealed samples of the remote channels that BUDDY sink entries bind (spec/21 R460). -/
def State.buddyHidden (s : State) : Nat :=
  let es := s.validEntries.filter fun ie => ie.2.sink && ie.2.buddy && ie.2.localPort = 8 && ie.2.service = svStream
  ((es.flatMap fun ie => (List.range ie.2.bundleCount).map fun j => (s.remote (ie.2.bundleFirst + j)).samples)).sum

/-- A channel of an ALIVE step is in trouble now (spec/21 R458). -/
def State.notAlive (s : State) (c base : Nat) : Bool :=
  s.get (F.STC_CH_STATUS_STATE c) ≠ 2 || !s.on (F.STC_CH_STATUS_VALID c) || s.on (F.STC_CH_STATUS_STALE c) ||
    s.on (F.STC_CH_STATUS_FROZEN c) || s.on (F.STC_CH_STATUS_CHK_FAIL c) || s.get (F.STC_CH_CNT_WINDOW_ERR c) ≠ base

/-- The sequencer requests the attestation of a step once KEY is free (spec/21 R458). -/
def State.ntAttest (s : State) (i : Nat) : State :=
  if s.on F.KEY_OP_STATUS_BUSY then s
  else
    let nonce := (List.range 8).flatMap fun k => leBytes 4 (s.get (F.NTS_NONCE_NONCE k))
    let s1 := s.mapNight fun r => { r with key := 1 }
    let s2 := s1.keyGoAs 8 (s1.planAttest (s1.ntArg i 0 6) nonce (s1.get F.NTS_REPORT_ADDR_ADDR + 0x400))
    if s2.on F.KEY_OP_STATUS_BUSY then s2 else s2.ntKeyDone (s2.get F.KEY_OP_STATUS_REASON) []

/-- A step starts and takes up its work (spec/21 R456, R458, R460). -/
def State.ntStart (s : State) (i : Nat) : State :=
  let k := s.ntKind i
  let m := s.ntArg i 0 20
  let s0 := (s.set F.NTS_STATUS_STEP i).mapNight fun r => { NightRun.reset r.start i with live := true }
  let skip (s : State) (code : Nat) : State := s.mapNight fun r => { r with reason := code, bad := 2 ^ 200 }
  let with' (s : State) (l : List Nat) : State := s.mapNight fun r => { r with base := l }
  if k = nkIdle then
    let u := s0.upLanes m
    (with' s0 [s0.laneSum u 3, s0.laneSum u 2]).mapNight fun r => { r with locked := u }
  else if k = nkPrbs then
    if (maskBits m 20).any fun l => s0.laneHeld l then skip s0 0x1204
    else
      let s1 := s0.each (maskBits m 20) fun l s => s.lanePrbs l (s.ntArg i 20 2) 1 1
      s1.mapNight fun r => { r with lanes := m }
  else if k = nkPilot then
    let ds := (List.range (s0.ntArg i 6 7)).map (· + s0.ntArg i 0 6)
    let s1 := s0.mapNight fun r => { r with ens := ds.map fun d => (d, s0.get (F.AUD_DET_CFG_EN d)) }
    s1.each ds fun d s => (s.set (F.AUD_DET_CFG_EN d) 1).detArm d
  else if k = nkAlive then
    with' s0 ((List.range (s0.ntArg i 7 8)).map fun j => s0.get (F.STC_CH_CNT_WINDOW_ERR (s0.ntArg i 0 7 + j)))
  else if k = nkBreak then
    if s0.get F.RNG_STATUS_RING ≠ 1 then skip s0 0x1212
    else if !s0.on F.RNG_CTRL_AUTO_HEAL then skip s0 0x1213
    else
      let p := s0.ntArg i 0 1
      let s1 := (with' s0 [s0.buddyHidden, s0.cycle]).mapNight fun r => { r with opened := some p }
      s1.portClose p
  else if k = nkScrub then
    with' s0 [s0.get F.SWB_SCRUB_STATUS_PASSES, s0.get F.SWB_ECC_CNT_CORR, s0.get F.SWB_ECC_CNT_UNCORR, s0.get F.SWB_RETIRE_COUNT]
  else if k = nkAttest then s0.ntAttest i
  else s0

/-- One TEST frame of a sending PATH step, of entry `e` (spec/21 R459). -/
def State.sendTest (s : State) (step e len : Nat) : State :=
  if !s.canSource e then s
  else
    let seq := (s.entry e).nxt
    let h := s.buildHdr e kTest seq len (svcTest step (s.get F.NTS_RUN_STATUS_RUN)) (s.dirOf e 0) true
    let s1 := (s.mapEntry e fun x => { x with nxt := (x.nxt + 1) % 65536 }).mapNight fun r => { r with frames := r.frames + 1 }
    if (s1.sourceTrunks e 0).isEmpty then s1.sat F.RNG_CUT2_UNREACHABLE 1 else s1.policeSource e ⟨h, testPayload seq len⟩

/-- What a live step does and watches in each cycle (spec/21 R458 to R460); `t` cycles since it started. -/
def State.ntWatch (s : State) (i t : Nat) (r : NightRun) : State :=
  let k := s.ntKind i
  let m := s.ntArg i 0 20
  let fail (s : State) (mask code : Nat) : State :=
    if mask = 0 then s else s.mapNight fun r => { r with bad := r.bad ||| mask, reason := code }
  if 2 ^ 200 ≤ r.bad then s
  else if k = nkIdle then
    let lost := (maskBits r.locked 20).filter fun l => !s.portUp (lanePort l)
    fail s ((lost.map (2 ^ ·)).sum) 0x1215
  else if k = nkPrbs then
    if 64 ≤ t then fail s ((((maskBits m 20).filter fun l => !bit r.locked l).map (2 ^ ·)).sum) r.reason else s
  else if k = nkPath then
    if s.ntArg i 10 1 = 0 then
      s.each (List.range (s.ntLimit i 0 16)) fun _ s => s.sendTest i (s.ntArg i 0 10) (s.ntArg i 11 14)
    else s
  else if k = nkPilot then
    let ds := (List.range (s.ntArg i 6 7)).map (· + s.ntArg i 0 6)
    fail s (((ds.filter fun d => 2 ≤ s.get (F.AUD_DET_STATUS_RESULT d)).map (2 ^ ·)).sum) 0
  else if k = nkAlive then
    let cs := (List.range (s.ntArg i 7 8)).filter fun j => s.notAlive (s.ntArg i 0 7 + j) (r.base.getD j 0)
    fail s ((cs.map fun j => 2 ^ (s.ntArg i 0 7 + j)).sum) 0
  else if k = nkBreak then
    let s1 := if r.opened.isSome && s.ntLimit i 0 16 ≤ t then s.ntBreakEnd else s
    s1.mapNight fun r =>
      if r.again.isSome && r.closed.isNone && s1.get F.RNG_STATUS_RING = 1 then { r with closed := some s1.cycle } else r
  else if k = nkAttest && r.key = 0 then s.ntAttest i
  else s

/-- A step's result as it ends (spec/21 R458 to R460). -/
def State.ntJudge (s : State) (i : Nat) (r : NightRun) : State :=
  let k := s.ntKind i
  let m := s.ntArg i 0 20
  let b (j : Nat) : Nat := r.base.getD j 0
  let res (ok : Bool) (v v2 : Nat) : State :=
    let s1 := s.ntResult i (if ok then nsPass else nsFail) (if ok then 0 else r.reason) v v2
    if ok then s1 else s1.irq bNts 2
  let ber (bits errs : Nat) : Bool := decide (errs * 10 ^ s.ntLimit i 0 6 ≤ bits) && r.bad = 0
  if 2 ^ 200 ≤ r.bad then s.ntResult i nsSkip r.reason 0 0
  else if k = nkIdle then
    let bits := s.laneSum r.locked 3 + 2 ^ 48 * 20 - b 0
    let errs := s.laneSum r.locked 2 + 2 ^ 48 * 20 - b 1
    res (ber (bits % 2 ^ 48) (errs % 2 ^ 48)) (bits % 2 ^ 48) (errs % 2 ^ 48)
  else if k = nkPrbs then
    let bits := s.laneSum m 1
    let errs := s.laneSum m 0
    res (ber bits errs && (maskBits m 20).all fun l => bit r.locked l) bits errs
  else if k = nkPath then
    if s.ntArg i 10 1 = 0 then res true r.frames 0
    else res (decide (r.gaps ≤ s.ntLimit i 0 16) && r.errs = 0) r.frames r.errs
  else if k = nkPilot then
    let none' := ((List.range (s.ntArg i 6 7)).map (· + s.ntArg i 0 6)).filter fun d => s.get (F.AUD_DET_STATUS_RESULT d) = 0
    let bad := r.bad ||| (none'.map (2 ^ ·)).sum
    res (bad = 0) bad 0
  else if k = nkAlive then
    res (r.bad = 0) (popCount 128 r.bad) ((findFirst (fun c => bit r.bad c) 128).getD 0)
  else if k = nkBreak then
    if r.reason = 0x1214 then s
    else
      let hid := s.buddyHidden - b 0
      let took := match r.again, r.closed with
        | some a, some c => (c + 2 ^ 32 - a) % 2 ^ 32
        | _, _ => 0
      res (hid = 0 && r.closed.isSome) hid took
  else if k = nkScrub then
    let corr := s.get F.SWB_ECC_CNT_CORR - b 1
    let unc := s.get F.SWB_ECC_CNT_UNCORR - b 2
    let w := F.SWB_SCRUB_STATUS_PASSES.width
    res (decide (2 ≤ (s.get F.SWB_SCRUB_STATUS_PASSES + 2 ^ w - b 0) % 2 ^ w) && unc = 0 && s.get F.SWB_RETIRE_COUNT = b 3 &&
      decide (corr ≤ s.ntLimit i 0 16)) corr unc
  else if r.key = 0 then s.ntResult i nsSkip 0x0E05 0 0
  else
    let reason := if r.key = 1 then 0x0E05 else r.keyReason
    res (r.key = 2 && reason = 0 && !r.keyLocked) r.keyCount reason

/-- The end of the step in progress; after the last one the run ends (spec/21 R457). -/
def State.ntStepEnd (s : State) (r : NightRun) : State :=
  let s1 := (s.ntJudge r.step r).ntRestore.ntBreakEnd
  let s2 := s1.mapNight fun r => NightRun.reset r.start (r.step + 1)
  if s2.ntSteps ≤ r.step + 1 then s2.ntEnd ((s.cycle + 2 ^ 32 - 1) % 2 ^ 32) 0 else s2

/-- The last look at a step that ends, and its end: no frame is sent and no attestation begun any more. -/
def State.ntFinish (s : State) (r : NightRun) (t : Nat) : State :=
  let k := s.ntKind r.step
  let s1 := if k = nkPath || k = nkAttest then s else s.ntWatch r.step t r
  match s1.bolt.nts.run with
  | some r' => s1.ntStepEnd r'
  | none => s1

/-- The step in progress ends when its duration has passed. -/
def State.ntDue (s : State) (r : NightRun) : State :=
  if s.ntSince r < 2 ^ 31 ∧ r.live ∧ s.ntOfs r.step + s.ntDur r.step ≤ s.ntSince r then
    s.ntFinish r (s.ntSince r - s.ntOfs r.step)
  else s

/-- A step just begun is looked at once. -/
def State.ntFirst (s : State) : State :=
  match s.bolt.nts.run with
  | some r => s.ntWatch r.step 0 r
  | none => s

/-- The next step begins, the run ends after the last, or the step in progress is watched, `el` cycles after GO. -/
def State.ntNext (s : State) (el : Nat) : State :=
  match s.bolt.nts.run with
  | none => s
  | some r =>
    if 2 ^ 31 ≤ el then s
    else if r.live then s.ntWatch r.step (el - s.ntOfs r.step) r
    else if s.ntSteps ≤ r.step then s.ntEnd ((s.cycle + 2 ^ 32 - 1) % 2 ^ 32) 0
    else if s.ntOfs r.step ≤ el then (s.ntStart r.step).ntFirst
    else s

/-- The sequencer at a cycle boundary (spec/21 R457 to R460): the step that has ended is judged, the next one starts at its
offset, a live one works. -/
def State.ntCycle (s : State) : State :=
  match s.ntReopen.bolt.nts.run with
  | none => s.ntReopen
  | some r => (s.ntReopen.ntDue r).ntNext (s.ntReopen.ntSince r)

/-- NTS_CMD_STATUS. -/
def State.ntAnswer (s : State) (code detail : Nat) : State :=
  s.sets [(F.NTS_CMD_STATUS_REASON, code), (F.NTS_CMD_STATUS_DETAIL, detail)]

/-- GO (spec/21 R457). -/
def State.ntGo (s : State) : State :=
  if !s.isOn .nts || s.bolt.nts.run.isSome then s.ntAnswer 0x1205 0xFFFF
  else if s.get F.PWR_STATUS_STATE ≠ 1 then s.ntAnswer 0x1205 0x0023
  else if later ((s.cycle + 2) % 2 ^ 32) (s.get F.NTS_START_CYCLE) then s.ntAnswer 0x1201 0xFFFF
  else
    let s1 := (s.ntAnswer 0 0xFFFF).each (List.range 32) fun i s => s.ntResult i 0 0 0 0
    { s1.sets [(F.NTS_STATUS_RUNNING, 1), (F.NTS_STATUS_STEP, 0)] with
      bolt.nts.run := some (NightRun.reset (s.get F.NTS_START_CYCLE) 0) }

/-- NTS_GO. -/
def execNtsGo (who : Requester) (s : State) : Step := .next (s.command who R.NTS_CMD 1 State.ntGo)

/-- ABORT (spec/21 R461). -/
def State.ntAbort (s : State) : State := (s.ntAnswer 0 0xFFFF).ntAbandon 2

/-- NTS_ABORT. -/
def execNtsAbort (who : Requester) (s : State) : Step := .next (s.command who R.NTS_CMD 2 State.ntAbort)

/-- TEST_FRAME_RX (spec/21 R459): a checking step counts the frame, the SEQs missing before it and its wrong bits. -/
def execTestFrameRx (f : Frame) (s : State) : Step :=
  .next (s.ifBolt fun s => match s.bolt.nts.run with
    | some r =>
      let st := (f.hdr.svc.extractLsb' 34 5).toNat
      let rn := (f.hdr.svc.extractLsb' 26 8).toNat
      if !r.live || s.ntKind r.step ≠ nkPath || s.ntArg r.step 10 1 ≠ 1 || st ≠ r.step || f.hdr.kind.toNat ≠ kTest ||
          rn ≠ s.get F.NTS_RUN_STATUS_RUN % 256 then s
      else
        let seq := f.hdr.seq.toNat
        let n := f.payload.length
        let wrong := popCount (8 * n) (ofBe f.payload ^^^ ofBe (testPayload seq n))
        let d := match r.lastSeq with
          | some l => (seq + 65536 - l) % 65536
          | none => 1
        let fwd := decide (1 ≤ d ∧ d < 32768)
        s.mapNight fun r => { r with
          frames := r.frames + 1, errs := r.errs + wrong, gaps := if fwd then r.gaps + (d - 1) else r.gaps
          lastSeq := if fwd then some seq else r.lastSeq }
    | none => s)

end Sys2Proof.Machine
end

