-- ==== Sys2Proof/Machine/Power.lean ====
section
/-! DEFINITION. Power states (spec/18 R385 to R394): the transitions, the entry to STANDBY, the wake; power-on, brown-out and
loss of the clock (spec/04 R95, R96; spec/23 R478). -/

namespace Sys2Proof.Machine

/-- Base addresses of PWR and LAN. -/
abbrev bPwr : Nat := 0x50300000
abbrev bLan : Nat := 0x50400000

/-- STATE codes of PWR_STATUS. -/
abbrev psOff : Nat := 0
abbrev psRun : Nat := 1
abbrev psQuiet : Nat := 2
abbrev psStandby : Nat := 3

def State.pwrState (s : State) : Nat := s.get F.PWR_STATUS_STATE
def State.pwrTarget (s : State) : Nat := s.get F.PWR_STATUS_TARGET
def State.mapPwr (s : State) (f : Pwr → Pwr) : State := { s with spool.pwr := f s.spool.pwr }

/-- Wakefulness (spec/18 R394). -/
def awake (st : Nat) : Nat := if st = psRun then 3 else if st = psQuiet then 2 else if st = psStandby then 1 else 0

/-- The state entered (spec/18 R388; PWR registers). -/
def State.setPwrState (s : State) (st : Nat) : State :=
  ((s.sets [(F.PWR_STATUS_STATE, st), (F.PWR_STATUS_TARGET, st), (F.PWR_STATUS_MOVING, 0), (F.PWR_STATUS_BOOT, 0)]).sat
    F.PWR_CNT_CHANGES 1).irq bPwr 0

/-- The harts run, or stop unless CORES is 1 (spec/18 R385). -/
def State.harts (s : State) (stop : Bool) : State := { s with bolt.coresStopped := stop && !s.on F.PWR_STATUS_CORES }

/-- RUN to QUIET (spec/18 R385, R388; spec/02 R28): the flex quads stop, the mode of a dock stays entered; the token of a stopped
PCIe function comes home and the harts then keep running. -/
def State.quietWork (s : State) : State :=
  if !s.boltUp then s
  else
    let s1 := s.each [2, 3, 4, 5, 6, 7] fun p s =>
      if s.bring p = 0 then s
      else
        (if s.portUp p then s.leftUp p 9 else s).portDark p
    let s2 := s1.each (List.finRange 3) fun q s =>
      if s.isOn (.pcbQuad q) || (decide (q = 2) && s.bolt.bootLink && s.on (F.PCBQ_STATUS_LINK_UP q)) then s.linkChange q false 0 0 0
      else s
    let had := s2.get F.TOP_HOST_TOKEN_OWNER = 2
    let s3 := if had then (s2.tokenHome 1).set F.PWR_STATUS_CORES 1 else s2
    (s3.harts true).each (List.finRange 16) fun t s => if s.isOn .aud && s.isOn (.audTdm t) then s.emit (.tdmLow t) else s

/-- QUIET to RUN (spec/18 R388): the stopped blocks restart. -/
def State.runWork (s : State) : State :=
  if !s.boltUp then s
  else (s.harts false).each [2, 3, 4, 5, 6, 7] fun p s =>
    if s.get (F.LANE_PORT_STATUS_STATE p) = 2 && s.bring p = 0 then s.portOn p else s

/-- The Dock gates that STANDBY opens (spec/17 R382). -/
def State.sleepGates (s : State) : List Nat :=
  [1, 2, 3, 4, 5, 6].filter fun n => s.on (F.PGT_GATE_CTRL_STBY_OFF n) && s.conducts n && !s.on (F.PGT_GATE_STATUS_DIR n) &&
    decide (s.get (F.TCP_PORT_STATUS_CONTRACT (n - 1)) ≤ 1) && s.upstream ≠ n

/-- Step 3 of the entry (spec/18 R389; spec/15 R341; spec/16 R355; spec/17 R382): DFP ports send Exit Mode, USB disconnects, gates
open. -/
def State.entryStep3 (s : State) : State :=
  let s1 := s.each [0, 1, 2, 3, 4, 5] fun p s =>
    if s.on (F.TCP_PORT_STATUS_ALT p) && !s.on (F.TCP_PORT_STATUS_DATA p) then (s.pd p .exitMode).altEnd p else s
  let s2 := (s1.mapPwr fun x => { x with entry := 2 }).usbReview
  let gs := s2.sleepGates
  (s2.mapPwr fun x => { x with opened := gs }).each gs fun n s => s.commandOff n

/-- The valid RELIABLE entries' delivery records at a planned opening (spec/06 R159). -/
def State.deliveryRecords (s : State) : State :=
  s.each (s.validEntries.filter fun ie => ie.2.service = svReliable) fun ie s => s.deliveryRecord ie.1 3

/-- Steps 1 and 2 of the entry: with a trunk UP the opening is announced and its end awaited; with none they are skipped (spec/18
R389). -/
def State.entryStep1 (s : State) : State :=
  if s.boltUp && (s.portUp 0 || s.portUp 1) then
    let s1 := if s.bolt.rng.opening.isSome then s else s.startOpening 1
    s1.deliveryRecords.mapPwr fun x => { x with entry := 1 }
  else s.entryStep3

/-- The entry to STANDBY, or through it to OFF, begins (spec/18 R389); while the seam is down it pauses. -/
def State.startEntry (s : State) (st : Nat) : State :=
  let s1 := s.sets [(F.PWR_STATUS_MOVING, 1), (F.PWR_STATUS_TARGET, st)]
  let s2 := if s1.pwrState = psRun then s1.quietWork.set F.PWR_STATUS_STATE psQuiet else s1
  if s2.seamUp || !s2.boltUp then s2.entryStep1 else s2.mapPwr fun x => { x with entry := 3 }

/-- The gates opened for STANDBY start again (spec/17 R382). -/
def State.gatesBack (s : State) : State :=
  let gs := s.spool.pwr.opened
  (s.mapPwr fun x => { x with opened := [] }).each gs fun n s => s.startGate n

/-- OFF is left (spec/18 R388): PG0 starts first, the gates and TCP ports follow. -/
def State.leaveOff (s : State) : State :=
  if !s.spool.pwr.off then s
  else
    let s1 := (s.mapPwr fun x => { x with off := false }).each [0, 1, 2, 3, 4, 5, 6] fun n s => s.startGate n
    s1.each [0, 1, 2, 3, 4, 5] fun p s =>
      if s.on (F.TCP_PORT_CTRL_ENABLE p) then (s.set (F.TCP_PORT_STATUS_STATE p) 2).tcpPortOn p else s

/-- OFF (spec/18 R388): every gate commanded open, every TCP port stopped with open CC, USB off. -/
def State.goOff (s : State) : State :=
  let s1 := s.each [0, 1, 2, 3, 4, 5] fun p s =>
    if s.dockOn p then
      let s' := if s.attached p then s.endAttach p else s
      (s'.sets [(F.TCP_PORT_STATUS_STATE p, 0), (F.TCP_PORT_STATUS_CC p, 0), (F.TCP_PORT_STATUS_HELD p, 0)]).typec p .openCc
    else s
  (s1.mapPwr fun x => { x with off := true, opened := [] }).each [0, 1, 2, 3, 4, 5, 6] fun n s => s.commandOff n

/-- Bolt power requested, at once or when it may be (spec/18 R390, R392). -/
def State.requestBolt (s : State) : State :=
  if s.spool.pwr.hold || !s.spool.refclk then s.mapPwr fun x => { x with want := true }
  else ((s.mapPwr fun x => { x with want := false }).setBoltReq true).drivePg0

/-- A wake from STANDBY or OFF (spec/18 R391). -/
def State.startWake (s : State) (st cause : Nat) : State :=
  (((s.wakeBegins cause).set F.PWR_STATUS_TARGET st).leaveOff.gatesBack).requestBolt

/-- The entry to STANDBY is abandoned (spec/18 R389): trunks are enabled again, the node rejoins, gates and USB return. -/
def State.abandonEntry (s : State) (st : Nat) : State :=
  let ts := s.spool.pwr.trunks
  let was := s.spool.pwr.entry
  let s1 := s.mapPwr fun x => { x with entry := 0, trunks := [] }
  let s2 := if s1.boltUp && was ≠ 3 then
      let s' : State := { s1 with bolt.rng.opening := none, bolt.nts.reopen := s1.bolt.nts.reopen ++ ts }
      s'.ntReopen.rejoin
    else s1
  let s3 := s2.gatesBack
  let s4 := if st = psRun then s3.runWork else s3.harts true
  (s4.setPwrState st).usbReview

/-- A transition to a state, with CORES taken (spec/18 R388). -/
def State.moveTo (s : State) (st cores cause : Nat) : State :=
  let now := s.pwrState
  let s1 := s.set F.PWR_STATUS_CORES cores
  if st = now then (if now = psQuiet then s1.harts true else s1)
  else if now = psRun ∨ now = psQuiet then
    if st = psRun then (s1.runWork.setPwrState psRun).usbReview
    else if st = psQuiet then (s1.quietWork.setPwrState psQuiet).usbReview
    else s1.startEntry st
  else if st = psRun ∨ st = psQuiet then s1.startWake st cause
  else if st = psOff then s1.goOff.setPwrState psOff
  else s1.leaveOff.setPwrState psStandby

/-- A standing command's TARGET (1 RUN, 2 QUIET, 3 STANDBY, 4 OFF) reaches PWR (spec/18 R393, R394; R67, R471). -/
def State.standTo (s : State) (t k : Nat) : State :=
  let st := if t = 4 then psOff else t
  let s := s.set F.PWR_STATUS_WAKE_K k
  let x := s.spool.pwr
  if x.waking then
    if awake s.pwrTarget < awake st then s.set F.PWR_STATUS_TARGET st
    else if awake st < awake s.pwrTarget then s.mapPwr fun x => { x with next := some (st, k) }
    else s
  else if x.entry ≠ 0 then
    if st = psRun ∨ st = psQuiet then s.ntAbandon 3 |>.abandonEntry st
    else s.set F.PWR_STATUS_TARGET st
  else if st = s.pwrState then s
  else (s.ntAbandon 3).moveTo st 0 2

/-- A load that runs is abandoned, and the structure in force acts on (spec/03 R66, R67). -/
def State.endLoadEarly (s : State) : State :=
  ({ s with bolt.pat.active := false, bolt.pat.abandon := false }).sets [(F.PAT_STATUS_STATE, 0), (F.PAT_CTRL_ENABLE, 0),
    (F.PAT_STATUS_PAUSED, 0), (F.PAT_STATUS_STOPPING, 0)]

/-- A full load runs (spec/03 R67). -/
def State.fullLoad (s : State) : Bool := s.bolt.pat.active && !s.on F.PAT_CTRL_CHECK_ONLY

/-- A standing command fires (spec/18 R393): held before the first commit and in a load past step 3; a load not past step 3 is
abandoned. -/
def State.standCommand (s : State) (t k : Nat) : State :=
  if !s.spool.committedOnce then s.mapPwr fun x => { x with stand := some (t, k) }
  else if s.boltUp && s.fullLoad then
    if s.get F.PAT_STATUS_STEP ≤ 3 then s.endLoadEarly.standTo t k
    else s.mapPwr fun x => { x with stand := some (t, k) }
  else s.standTo t k

/-- The standing command, and the alarm command, that waited for a load act (spec/03 R67; spec/09 R226; spec/22 R471). -/
def State.releaseStand (s : State) : State :=
  let s1 := match s.spool.pwr.stand with
    | some (t, k) => if s.spool.committedOnce then (s.mapPwr fun x => { x with stand := none }).standTo t k else s
    | none => s
  s1.alarmDue

/-- A wake ends in its target state (spec/18 R391): USB returns, a command held meanwhile is carried out. -/
def State.finishWake (s : State) (us : Nat) : State :=
  let st := s.pwrTarget
  let s1 := s.mapPwr fun x => { x with waking := false, next := none }
  let s2 := s1.set F.PWR_WAKE_TIME_US (min us (2 ^ 20 - 1))
  let s3 := if st = psRun then s2.runWork else s2.harts true
  let s4 := (s3.setPwrState st).usbReview
  match s.spool.pwr.next with
  | some (t, k) => s4.standTo (if t = psOff then 4 else t) k
  | none => s4

/-- The wake is complete: a load has committed and firmware has written GO. -/
def State.wakeReady (s : State) : Bool := s.spool.pwr.waking && s.spool.pwr.warm && s.spool.pwr.go

/-- A load has committed (spec/03 R63; spec/18 R391, R393; spec/22 R471). -/
def State.pwrCommitted (s : State) (us : Nat) : State :=
  let s1 := { s with spool.committedOnce := true }
  let s2 := if s1.spool.pwr.waking then s1.mapPwr fun x => { x with warm := true } else s1
  let s3 := if s2.wakeReady then s2.finishWake us else s2
  s3.releaseStand

/-- The refusal of a host command (spec/18 R387): REASON and DETAIL. -/
def State.pwrRefusal (s : State) (st cores : Nat) : Option (Nat × Nat) :=
  if s.fullLoad then some (0x2305, 0x0002)
  else if s.on F.PWR_STATUS_MOVING then some (0x2305, 0x0023)
  else if st = s.pwrState && cores = s.get F.PWR_STATUS_CORES then some (0x2310, 0xFFFF)
  else if st = psRun ∨ st = psQuiet then none
  else if s.portUp 0 || s.portUp 1 then s.openRefused.map fun c => (0x2311, 0x0900 + c)
  else none

/-- A host command (spec/18 R387). -/
def State.hostPwr (s : State) (who : Requester) (code st : Nat) (cores : Bool) : State :=
  s.command who R.PWR_CMD (BitVec.ofNat 32 (code + 8 * b2n cores)) fun s =>
    match s.pwrRefusal st (b2n cores) with
    | some (r, d) => ((s.sets [(F.PWR_CMD_STATUS_REASON, r), (F.PWR_CMD_STATUS_DETAIL, d)]).sat F.PWR_CNT_REFUSED 1).irq bPwr 1
    | none => ((s.sets [(F.PWR_CMD_STATUS_REASON, 0), (F.PWR_CMD_STATUS_DETAIL, 0xFFFF)]).ntAbandon 3).moveTo st (b2n cores) 1

/-- PWR_CMD_RUN (spec/18 R388). -/
def execPwrCmdRun (who : Requester) (cores : Bool) (s : State) : Step := .next (s.hostPwr who 1 psRun cores)
/-- PWR_CMD_QUIET (spec/18 R388). -/
def execPwrCmdQuiet (who : Requester) (cores : Bool) (s : State) : Step := .next (s.hostPwr who 2 psQuiet cores)
/-- PWR_CMD_STANDBY (spec/18 R389). -/
def execPwrCmdStandby (who : Requester) (cores : Bool) (s : State) : Step := .next (s.hostPwr who 3 psStandby cores)
/-- PWR_CMD_OFF (spec/18 R388). -/
def execPwrCmdOff (who : Requester) (cores : Bool) (s : State) : Step := .next (s.hostPwr who 4 psOff cores)

/-- OPEN_DRAIN_END (spec/10 R251): after cycle N + OPEN_DRAIN the departing node clears its trunk enables; an entry to STANDBY goes
on, or pauses while the seam is down (spec/18 R389). -/
def execOpenDrainEnd (s : State) : Step :=
  .next (s.ifBolt fun s =>
    match s.bolt.rng.opening with
    | some (n, _, _) =>
      if later s.cycle ((n + s.get F.RNG_CFG_OPEN_DRAIN) % 2 ^ 32) then
        let ts := [0, 1].filter fun p => s.on (F.LANE_PORT_CTRL_ENABLE p)
        let s1 := ({ s with bolt.rng.opening := none }).each ts fun p s => s.portClose p
        if s1.spool.pwr.entry = 1 then
          let s2 := s1.mapPwr fun x => { x with trunks := ts }
          if s2.seamUp then s2.entryStep3 else s2.mapPwr fun x => { x with entry := 4 }
        else s1
      else s
    | none => s)

/-- An entry that paused for the seam goes on (spec/18 R389). -/
def State.entryResume (s : State) : State :=
  if s.spool.pwr.entry = 3 then s.entryStep1 else if s.spool.pwr.entry = 4 then s.entryStep3 else s

/-- Every NVS write that waits is made, in the order of service (spec/20 R449; spec/18 R389 step 4). -/
def State.drainNvs (s : State) : Nat → State
  | 0 => s
  | n + 1 => s.nvsStep.drainNvs n

/-- STANDBY_BOLT_OFF (spec/18 R389 steps 4 and 5): the NVS snapshot that NVS_AUTO asks for, every waiting NVS write, then bolt
power withdrawn; a target of OFF goes on to OFF.  It waits for the seam. -/
def execStandbyBoltOff (s : State) : Step :=
  .next (s.ifAon fun s =>
    let x := s.spool.pwr
    if x.entry = 0 || (s.boltUp && (x.entry ≠ 2 || !s.seamUp)) then s
    else
      let s0 := if x.entry = 2 then s else s.entryStep3
      let s1 := if s0.boltUp && s0.on F.CNT_CTRL_NVS_AUTO && !s0.snapshotIdsBad then s0.writeSnapshot else s0
      let s2 := s1.drainNvs (s1.spool.nvsQueue.length + 2)
      let s3 := (s2.setBoltReq false).drivePg0
      let s4 := s3.mapPwr fun x => { x with entry := 0, trunks := [], want := false }
      if s4.pwrTarget = psOff then s4.goOff.setPwrState psOff else s4.setPwrState psStandby)

/-- BOLT_OFF_HOLD_END (spec/18 R390). -/
def execBoltOffHoldEnd (s : State) : Step :=
  .next (s.ifAon fun s =>
    if !s.spool.pwr.hold || s.boltPowered then s
    else
      let s1 := s.mapPwr fun x => { x with hold := false }
      if s1.spool.pwr.want then s1.requestBolt else s1)

/-- GO_READY (spec/18 R391). -/
def execGoReady (who : Requester) (us : Nat) (s : State) : Step :=
  .next (s.command who R.PWR_READY 1 fun s =>
    if !s.spool.pwr.waking then s
    else
      let s1 := s.mapPwr fun x => { x with go := true }
      if s1.wakeReady then s1.finishWake us else s1)

/-- WAKE_LATE_READY (spec/18 R391): after 170 ms without commit and GO the target state is entered; not while the cold load that
follows a failed warm load is awaited, nor before the bolt die has its power. -/
def execWakeLateReady (us : Nat) (s : State) : Step :=
  .next (s.ifAon fun s =>
    if s.spool.pwr.waking && s.boltPowered && !s.spool.pwr.cold && 170000 ≤ us then (s.finishWake us).irq bPwr 2 else s)

/-- ALARM_CMD (spec/18 R393): the alarm command that waits leaves, at the latest 10 ms after the wake's commit. -/
def execAlarmCmd (ms : Nat) (s : State) : Step :=
  .next (s.ifAon fun s =>
    if s.spool.pwr.alarm = 1 && s.alarmMay && 10 ≤ ms then s.alarmNow else s.alarmDue)

/-- The clocks of the spool die run from the backup oscillator, or do not (spec/04 R95). -/
def State.setBackup (s : State) (b : Bool) : State :=
  { s with spool.backupClk := b }.sets [(F.PGT_STATUS_BACKUP_CLK, b2n b), (F.LAN_STATUS_BACKUP_CLK, b2n b)]

/-- A clock is lost (spec/04 R95; spec/20 R444): a fault record, the backup oscillator, the bolt die held in reset. -/
def State.clockLost (s : State) (code cause : Nat) : State :=
  let s1 := { (s.spoolRecord 1 0x23 code 0 0 0).setBackup true with spool.refclk := false }
  if s1.boltPowered then ({ s1 with spool.boltHeld := true }.boltReset).irq bClk cause else s1

/-- REFCLK_LOST (spec/04 R95). -/
def execRefclkLost (s : State) : Step := .next (s.ifAon fun s => if s.spool.refclk then s.clockLost 0x0301 5 else s)

/-- PLL_UNLOCK (spec/04 R95): as REFCLK lost. -/
def execPllUnlock (s : State) : Step := .next (s.ifBolt fun s => s.clockLost 0x0302 6)

/-- REFCLK_RETURN (spec/04 R96; spec/18 R392): the spool die switches back and the bolt die is released; it starts as at a wake. -/
def execRefclkReturn (s : State) : Step :=
  .next (s.ifAon fun s =>
    if s.spool.refclk then s
    else
      let s1 := { s.setBackup false with spool.refclk := true }
      if s1.spool.boltHeld then
        let s2 := { s1 with spool.boltHeld := false }.set F.CLK_STATUS_REFCLK_OK 1
        if s2.spool.pwr.waking || !s2.boltPowered then s2.mapPwr fun x => { x with go := false, warm := false, cold := false }
        else s2.wakeBegins 3
      else if s1.spool.pwr.want && !s1.spool.pwr.hold then s1.requestBolt
      else s1)

/-- The 64-byte slots of an area of NVS that hold anything: an unlisted slot is no record. -/
def State.usedSlots (s : State) (base n : Nat) : List Nat :=
  ((s.spool.nvs.filter fun c => decide (base ≤ c.1 ∧ c.1 < base + 64 * n)).map fun c => (c.1 - base) / 64).eraseDups

/-- The valid records of an area: slot and SEQ. -/
def State.validSlots (s : State) (base n : Nat) : List (Nat × Nat) :=
  ((s.usedSlots base n).map fun i => (i, s.nvsBytes (base + 64 * i) 64)).filterMap fun x =>
    if recordValid x.2 then some (x.1, leAt x.2 4 4) else none

/-- The record with the highest SEQ, modulo 2^32 (spec/20 R442). -/
def highest : List (Nat × Nat) → Option (Nat × Nat)
  | [] => none
  | x :: t => match highest t with
    | some y => some (if later x.2 y.2 then y else x)
    | none => some x

/-- Records and items of NVS that fail their check; a place that holds nothing holds no record (DESIGN CHOICE, assumption log
26). -/
def State.badRecords (s : State) : Nat :=
  let slots (base n : Nat) : Nat := (s.usedSlots base n).length - (s.validSlots base n).length
  let items := ([0x00, 0x10, 0x20, 0x30, 0x40, 0x50].flatMap fun o => [(o, 0), (o, 1)]).filter fun x =>
    ((s.nvsBytes (x.1 + 0x200 * x.2) (itemSize x.1 + 8)).any fun b => b != 0) && !(s.itemCopy x.1 x.2).2.2
  let table := (((s.spool.nvs.filter fun c => decide (0x1400 ≤ c.1 ∧ c.1 < 0x5400)).map fun c => (c.1 - 0x1400) / 16).eraseDups).filter
    fun n => leAt (s.nvsBytes (0x1400 + 16 * n) 16) 15 1 != crc8Bytes (s.nvsBytes (0x1400 + 16 * n) 15)
  slots 0x40000 4096 + slots 0x5400 144 + items.length + table.length

/-- The NVS scan at VDD_AON power-on (spec/20 R442, R443): each area's SEQ resumes above its highest valid record. -/
def State.scanNvs (s : State) : State :=
  let l := s.validSlots 0x40000 4096
  let p := s.validSlots 0x5400 144
  let (ln, ls) := match highest l with
    | some (i, q) => ((i + 1) % 4096, (q + 1) % 2 ^ 32)
    | none => (0, 0)
  let ps := match highest p with
    | some (_, q) => (q + 1) % 2 ^ 32
    | none => 0
  let bad := s.badRecords
  let s1 := { s with spool.logNext := ln, spool.logSeq := ls, spool.logCount := l.length, spool.progSeq := ps }.sets
    [(F.TMP_CNT_TAMPER_CNT, s.itemNum 0x30), (F.NVS_STATUS_SCANNED, 1), (F.NVS_ERR_BAD, min 65535 bad)]
  if bad = 0 then s1 else s1.irq 0x50600000 0

/-- The PG0 boot record applied, where it is valid (spec/17 R380). -/
def State.applyBootRecord (s : State) : State :=
  match s.item 0x50 with
  | none => s
  | some bs =>
    let s1 := s.each (List.range 8) fun i s =>
      let a := ([R.PGT_GATE_CTRL 0, R.PGT_GATE_WIN_UV 0, R.PGT_GATE_WIN_OV 0, R.PGT_GATE_TIMING 0, R.PGT_GATE_RAMP 0,
        R.PGT_GATE_LIMIT 0, R.PGT_GATE_I2T 0, R.PGT_GATE_RETRY 0]).getD i 0
      s.wr a (BitVec.ofNat 32 (leAt bs (4 * i) 4))
    s1.set F.PGT_STATUS_BOOT_VALID 1

/-- POWER_ON (spec/18 R386; spec/22 R469 phase A): the spool die leaves reset, NVS is scanned, the PG0 boot record applied, PG0
starts; PWR is in boot QUIET. -/
def execPowerOn (straps : BitVec 4) (s : State) : Step :=
  .next (if s.spool.aon then s
    else
      let s1 := { s with
        regs := [], bolt := Bolt.reset
        spool := { Spool.reset with nvs := s.spool.nvs, aon := true, straps := straps.toNat } }
      let s2 := s1.scanNvs.applyBootRecord
      ((s2.set (F.PGT_GATE_STATUS_STATE 0) 2).setBoltReq true).startGate 0)

/-- BROWN_OUT (spec/23 R478; spec/20 R440): NVS finishes the word in progress and starts no other; everything but NVS, flash and
fuses is lost. -/
def execBrownOut (words : Nat) (s : State) : Step :=
  .next (if !s.spool.aon then s
    else
      let s1 := match s.spool.nvsQueue.head? with
        | some op => s.nvsWrite (s.nvsPlan op).1 ((s.nvsPlan op).2.take (4 * words))
        | none => s
      { s1 with regs := [], bolt := Bolt.reset, spool := { Spool.reset with nvs := s1.spool.nvs } })

end Sys2Proof.Machine
end

