-- ==== Sys2Proof/Machine/Lantern.lean ====
section
/-! DEFINITION. The lantern (spec/18 R393 to R400): samples, filters, contacts, rules, standing commands, WAKE_N, the event
queue; what follows the seam's recovery (spec/02 R42, R44) and the PCIe reference check (spec/04 R80). -/

namespace Sys2Proof.Machine

def State.mapLan (s : State) (f : Lantern → Lantern) : State := { s with spool.lan := f s.spool.lan }

/-- The spool die temperature of a code of channel 12, T = c / 8 − 273 °C rounded down, as a signed byte with saturation
(spec/18 R396; the rounding is a DESIGN CHOICE, assumption log 94). -/
def dieTemperature (c : Nat) : Nat := satSigned 8 ((c / 8 : Nat) - 273)

/-- A sample of an ADC channel: RAW, and FILT the mean of the last 2^AVG_SHIFT samples, or of those present (spec/18 R397).  An
inexact mean is rounded up or down by a free choice (assumption log 3). -/
def State.adcSample (s : State) (c v : Nat) : State :=
  let h := (v :: (s.spool.lan.hist.getD c [])).take 64
  let w := h.take (2 ^ min 6 (s.get (F.LAN_ADC_CFG_AVG_SHIFT c)))
  let n := w.length
  let q := w.sum / n + (if w.sum % n ≠ 0 && Config.roundUp w.sum n then 1 else 0)
  let s1 := (s.mapLan fun x => { x with hist := setAt x.hist c h }).sets [(F.LAN_ADC_VALUE_RAW c, v), (F.LAN_ADC_VALUE_FILT c, q)]
  if c = 12 then s1.set F.TMP_TEMP_NOW_TEMP (dieTemperature v) else s1

/-- The band of a loop resistance (spec/18 R398); at a shared edge the row listed first (DEDUCED). -/
def loopBand (ohm : Nat) : Nat := if ohm < 200 then 0 else if ohm ≤ 2200 then 1 else if ohm ≤ 10000 then 2 else 3

/-- A contact's STATE stored; a change is counted and raised. -/
def State.contactState (s : State) (i v : Nat) : State :=
  if s.get (F.LAN_CON_STATUS_STATE i) = v then s
  else
    let s1 := (s.set (F.LAN_CON_STATUS_STATE i) v).sat (F.LAN_CON_CNT_CHANGES i) 1
    let m := s1.get F.LAN_CONTACTS_STATE
    (s1.set F.LAN_CONTACTS_STATE (if v = 1 then setBit m i else clrBit m i)).irq bLan 2

/-- A contact's FAULT stored; an entry is counted and raised. -/
def State.contactFault (s : State) (i : Nat) (b : Bool) : State :=
  if s.on (F.LAN_CON_STATUS_FAULT i) = b then s
  else
    let m := s.get F.LAN_CONTACTS_FAULT
    let s1 := s.sets [(F.LAN_CON_STATUS_FAULT i, b2n b), (F.LAN_CONTACTS_FAULT, if b then setBit m i else clrBit m i)]
    if b then (s1.sat (F.LAN_CON_CNT_FAULTS i) 1).irq bLan 3 else s1

/-- A sample of a contact (spec/18 R398): a supervised input in SHORT or BREAK is at once a fault and takes what FAULT_AS names;
otherwise STATE follows DEBOUNCE_MS agreeing samples.  Samples in a fault do not count as agreeing (DEDUCED). -/
def State.contactSample (s : State) (i ohm : Nat) : State :=
  let b := loopBand ohm
  let x := s.spool.lan
  let sup := s.on (F.LAN_CON_CFG_MODE i)
  let inv := s.on (F.LAN_CON_CFG_INVERT i)
  let was := x.closed.getD i false
  let closed := if b = 2 then was else decide (b < 2)
  let raw := if sup then decide (b = 1) else closed
  let v := b2n (raw != inv)
  let s1 := s.sets [(F.LAN_CON_STATUS_BAND i, b), (F.LAN_CON_STATUS_OHM i, min ohm (2 ^ 16 - 1))]
  let s2 := s1.mapLan fun x => { x with closed := setAt x.closed i closed }
  if sup && (b = 0 || b = 3) then
    let as := s2.get (F.LAN_CON_CFG_FAULT_AS i)
    let s3 := (s2.mapLan fun x => { x with run := setAt x.run i 0 }).contactFault i true
    if as < 2 then s3.contactState i as else s3
  else
    let s3 := s2.contactFault i false
    let n := if x.last.getD i 0 = v then x.run.getD i 0 + 1 else 1
    let s4 := s3.mapLan fun x => { x with last := setAt x.last i v, run := setAt x.run i (min n 255) }
    if max 1 (s4.get (F.LAN_CON_CFG_DEBOUNCE_MS i)) ≤ n then s4.contactState i v else s4

/-- The value of a rule's source (spec/18 R399). -/
def State.ruleValue (s : State) (src : Nat) : Nat :=
  if src < 16 then s.get (F.LAN_ADC_VALUE_FILT src)
  else if src < 24 then s.get (F.LAN_CON_STATUS_STATE (src - 16))
  else if src < 32 then s.get (F.LAN_CON_STATUS_FAULT (src - 24))
  else if src = 32 then b2n (s.spool.tamperCount != 0)
  else if src = 33 then b2n (!s.seamUp)
  else if src = 34 then s.get (F.PGT_GATE_STATUS_PGOOD 0)
  else b2n s.spool.refclk

/-- The condition of a rule, with the hysteresis of an ADC source (spec/18 R397, R399). -/
def State.ruleCond (s : State) (r : Nat) : Bool :=
  let src := s.get (F.LAN_RULE_CFG_SOURCE r)
  let v := s.ruleValue src
  let lo := s.get (F.LAN_RULE_THR_LOW r)
  let hi := s.get (F.LAN_RULE_THR_HIGH r)
  let was := s.spool.lan.cond.getD r false
  match s.get (F.LAN_RULE_CFG_COND r) with
  | 0 => decide (hi < v) || (was && decide (lo ≤ v))
  | 1 => decide (v < lo) || (was && decide (v ≤ hi))
  | 2 => v != 0
  | _ => v == 0

/-- Rule `r` is evaluated (spec/18 R399); true: it fires in this cycle. -/
def State.ruleEval (s : State) (r : Nat) : State × Bool :=
  if s.get (F.LAN_RULE_STATUS_STATE r) ≠ 2 then (s, false)
  else
    let c := s.ruleCond r
    let held := c && (!s.on (F.LAN_RULE_CFG_AND_EN r) || s.on (F.LAN_RULE_STATUS_HELD (s.get (F.LAN_RULE_CFG_AND_RULE r))))
    let n := s.spool.lan.held.getD r 0
    let fires := held && decide (s.get (F.LAN_RULE_HOLD_HOLD_MS r) ≤ n) && !s.on (F.LAN_RULE_STATUS_FIRED r)
    let s1 := s.mapLan fun x => { x with
      cond := setAt x.cond r c, held := setAt x.held r (if held then min (n + 1) (2 ^ 16) else 0) }
    let fired := held && (fires || s.on (F.LAN_RULE_STATUS_FIRED r))
    let s2 := s1.sets [(F.LAN_RULE_STATUS_HELD r, b2n held), (F.LAN_RULE_STATUS_FIRED r, b2n fired)]
    (if fires then (s2.sat (F.LAN_RULE_CNT_FIRED r) 1).irq bLan 1 else s2, fires)

/-- All rules evaluated in order, and those that fire. -/
def State.rulesEval (s : State) : State × List Nat :=
  (List.range 32).foldl (fun p r => let q := p.1.ruleEval r; (q.1, if q.2 then p.2 ++ [r] else p.2)) (s, [])

/-- WAKE (spec/18 R400). -/
def State.wakeOut (s : State) : State :=
  let ms := s.get F.LAN_WAKE_WAKE_MS
  (s.set F.LAN_WAKE_ASSERTED 1).mapLan fun x => { x with wakeLeft := if ms = 0 then none else some ms }

/-- LOG (spec/18 R400; spec/20 R444; spec/02 R44). -/
def State.logRule (s : State) (r : Nat) : State :=
  let v := s.ruleValue (s.get (F.LAN_RULE_CFG_SOURCE r))
  let s1 := (s.spoolRecord 3 0x24 0x2401 r v s.recCycle).sat F.LAN_EVT_CNT_LOGGED 1
  if s1.seamUp then s1
  else if 256 ≤ s1.spool.lan.queue.length then (s1.sat F.LAN_EVT_CNT_OVERFLOW 1).irq bLan 4
  else
    let s2 := s1.mapLan fun x => { x with queue := x.queue ++ [(r, v, s1.recCycle)] }
    s2.set F.LAN_STATUS_QUEUED s2.spool.lan.queue.length

/-- The alarm command of a slot that fired (spec/18 R393; spec/22 R471). -/
def State.alarmFired (s : State) : State :=
  if s.alarmMay then s.alarmNow
  else
    let w := if !s.spool.committedOnce then 2 else if s.boltUp && !s.spool.pwr.waking then 3 else 1
    s.mapPwr fun x => { x with alarm := w }

/-- What the standing commands fired in one cycle ask for: the most awake TARGET and its slot, and whether any has ALARM. -/
structure StandAsk where
  want : Option (Nat × Nat)
  alarm : Bool
  deriving DecidableEq, Repr

/-- STAND (spec/18 R393): a slot that is not armed, or whose TARGET is 5 to 7, only counts. -/
def State.fireStand (s : State) (r : Nat) (q : StandAsk) : State × StandAsk :=
  let k := s.get (F.LAN_RULE_CFG_STAND_K r)
  let t := s.get (F.LAN_STAND_TARGET k)
  if !s.on (F.LAN_STAND_ARMED k) || 5 ≤ t then (s.sat (F.LAN_RULE_CNT_NOT_ARMED r) 1, q)
  else
    let s1 := s.setB F.LAN_STAND_FIRED_SLOTS k
    let s2 := if s1.on (F.LAN_STAND_ONE_SHOT k) then s1.set (F.LAN_STAND_ARMED k) 0 else s1
    let rank (t : Nat) : Nat := awake (if t = 4 then psOff else t)
    let want := match q.want with
      | none => if t = 0 then none else some (t, k)
      | some (t', k') => if t = 0 ∨ rank t ≤ rank t' then some (t', k') else some (t, k)
    (s2, ⟨want, q.alarm || s2.on (F.LAN_STAND_ALARM k)⟩)

/-- The actions of one rule, in the order listed (spec/18 R400). -/
def State.ruleActs (p : State × StandAsk) (r : Nat) : State × StandAsk :=
  let s1 := if p.1.on (F.LAN_RULE_CFG_WAKE r) then p.1.wakeOut else p.1
  let s2 := if s1.on (F.LAN_RULE_CFG_LOG r) then s1.logRule r else s1
  let p2 := if s2.on (F.LAN_RULE_CFG_STAND r) then s2.fireStand r p.2 else (s2, p.2)
  (if p2.1.on (F.LAN_RULE_CFG_PG0_CLEAR r) then p2.1.clearGate 0 else p2.1, p2.2)

/-- What PWR makes of the standing commands of one cycle (spec/18 R394); one that asks for the alarm alone abandons a full load not
past step 3 too (spec/03 R67). -/
def State.standActs (s : State) (q : StandAsk) : State :=
  let s1 := match q.want with
    | some (t, k) => s.standCommand t k
    | none =>
      if q.alarm && s.spool.committedOnce && s.boltUp && s.fullLoad && !s.loadHolds then s.endLoadEarly else s
  if q.alarm then s1.alarmFired else s1

/-- The lantern's timers: WAKE_N and the waits of the gates (spec/17 R377; spec/18 R400). -/
def State.lanTimers (s : State) : State :=
  let s1 := s.each (List.range 7) fun n s =>
    if s.gstate n = gsWait then s.set (F.PGT_GATE_WAIT_LEFT_MS n) (s.get (F.PGT_GATE_WAIT_LEFT_MS n) - 1) else s
  s1.mapLan fun x => { x with wakeLeft := x.wakeLeft.map fun n => n - 1 }

/-- The contact states that SRC 1 channels send, as the bolt die has them (spec/12 R285; spec/02 R44). -/
def State.contactReport (s : State) : State :=
  if s.boltUp && s.seamUp then { s with bolt.stc := { s.bolt.stc with contacts := s.get F.LAN_CONTACTS_STATE } } else s

/-- The rules judged and acted on, lowest number first, and the standing commands they ask for. -/
def State.lanRules (s : State) : State :=
  let p := s.rulesEval
  let q := p.2.foldl State.ruleActs (p.1, ⟨none, false⟩)
  ({ q.1 with spool.tamperCount := 0 }).standActs q.2

/-- A cycle of the lantern. -/
def State.lanCycle (s : State) (adc ohms : List Nat) : State :=
  let s0 := ({ s with spool.timeMs := (s.spool.timeMs + 1) % 2 ^ 32 }).lanTimers
  let s1 := s0.each (List.range 16) fun c s => s.adcSample c (adc.getD c 0)
  ((s1.each (List.range 8) fun i s => s.contactSample i (ohms.getD i 0)).contactReport).lanRules

/-- LANTERN_CYCLE (spec/18 R395). -/
def execLanternCycle (adc : List (BitVec 12)) (ohms : List Nat) (s : State) : Step :=
  .next (s.ifAon fun s => s.lanCycle (adc.map BitVec.toNat) ohms)

/-- WAKE_N released. -/
def State.wakeRelease (s : State) : State :=
  (s.set F.LAN_WAKE_ASSERTED 0).mapLan fun x => { x with wakeLeft := none }

/-- WAKE_N_RELEASE (spec/18 R400). -/
def execWakeNRelease (s : State) : Step :=
  .next (s.ifAon fun s => if s.on F.LAN_WAKE_ASSERTED && s.spool.lan.wakeLeft == some 0 then s.wakeRelease else s)

/-- WAKE_CLEAR (spec/18 R400). -/
def execWakeClear (who : Requester) (s : State) : Step :=
  .next (s.command who R.LAN_WAKE (s.rd R.LAN_WAKE ||| 0x200) State.wakeRelease)

/-- The check of a lantern rule at enable (spec/18 R399, R402). -/
def State.checkRule (s : State) (r : Nat) : Option (Nat × Nat) :=
  let src := s.get (F.LAN_RULE_CFG_SOURCE r)
  let cond := s.get (F.LAN_RULE_CFG_COND r)
  if s.get ⟨R.LAN_RULE_CTRL r, 1, 31⟩ ≠ 0 ∨ s.get ⟨R.LAN_RULE_CFG r, 22, 10⟩ ≠ 0 ∨ s.get ⟨R.LAN_RULE_THR r, 24, 8⟩ ≠ 0 ∨
      s.get ⟨R.LAN_RULE_HOLD r, 16, 16⟩ ≠ 0 then some (0x02, 0xFFFF)
  else if 35 < src ∨ (src < 16 ∧ 1 < cond) ∨ (16 ≤ src ∧ src ≠ 32 ∧ cond ≠ 2 ∧ cond ≠ 3) ∨ (src = 32 ∧ cond ≠ 2) then
    some (0x10, 0xFFFF)
  else if src < 16 ∧ s.get (F.LAN_RULE_THR_HIGH r) ≤ s.get (F.LAN_RULE_THR_LOW r) then some (0x11, 0xFFFF)
  else if s.on (F.LAN_RULE_CFG_AND_EN r) && s.get (F.LAN_RULE_CFG_AND_RULE r) = r then some (0x12, 0xFFFF)
  else none

/-- A rule goes ON or OFF: it is not held and has not fired. -/
def State.ruleClear (s : State) (r : Nat) : State :=
  (s.sets [(F.LAN_RULE_STATUS_HELD r, 0), (F.LAN_RULE_STATUS_FIRED r, 0)]).mapLan fun x => { x with
    cond := setAt x.cond r false, held := setAt x.held r 0 }

/-- The events queued while the seam was down, oldest first (spec/02 R44). -/
def State.lanReplay (s : State) : State :=
  let n := s.spool.lan.queue.length
  let s1 := (List.range n).foldl (fun s _ => s.sendEvent bLan 1) s
  (s1.mapLan fun x => { x with queue := [] }).set F.LAN_STATUS_QUEUED 0

/-- What the seam's recovery does at both dies (spec/02 R42 to R44). -/
def State.seamBack (s : State) (downUs : Nat) : State :=
  let s1 := (s.seamRecover downUs).lanReplay.contactReport
  (s1.flushUsb.alarmDue).entryResume

/-- SEAM_RETRAIN_DONE (spec/02 R42). -/
def execSeamRetrainDone (success : Bool) (downUs : Nat) (s : State) : Step :=
  .next (s.ifBolt fun s =>
    if s.seamUp then s
    else if success then s.seamBack downUs
    else s.set F.SEAM_CTRL_RETRAIN 0)

/-- PCIE_REF_CHECK (spec/04 R79, R80, R95; spec/13 R308): a quad's link goes down with its reference; CLK, which measures, is not
held in reset until the root PLL locks. -/
def execPcieRefCheck (q : Fin 3) (ppmOff : Nat) (s : State) : Step :=
  .next (if !s.boltPowered || s.spool.boltHeld then s else
    let s1 := s.pcieRef q ppmOff
    if ppmOff ≤ 300 then s1 else if s1.isOn (.pcbQuad q) || (decide (q = 2) && s1.bolt.bootLink) then s1.linkChange q false 0 0 0 else s1)

end Sys2Proof.Machine
end

