-- ==== Sys2Proof/Machine/Commit.lean ====
section
/-! DEFINITION. Commits of tunnel entries (spec/06 R157 to R161): checks, the pending commit, its effect; the retransmit timer. -/

namespace Sys2Proof.Machine

/-- A shadow word of an entry (spec/06 R160). -/
def State.shadowWord (s : State) (i k : Nat) : Word := getKey (if k = 3 then 0x10004 else 0) (4 * i + k) s.bolt.shadow
def State.setShadow (s : State) (i k : Nat) (w : Word) : State :=
  { s with bolt.shadow := putKey (if k = 3 then 0x10004 else 0) (4 * i + k) w s.bolt.shadow }

/-- An entry with four words. -/
def Entry.withWords (e : Entry) (ws : List Nat) : Entry :=
  { e with w0 := ws.getD 0 0, w1 := ws.getD 1 0, w2 := ws.getD 2 0, w3 := ws.getD 3 0 }

/-- A reserved bit of an entry's words is 1 (spec/06 R160). -/
def Entry.reserved (e : Entry) : Bool :=
  slice e.w0 25 7 != 0 || slice e.w1 20 12 != 0 || slice e.w2 14 2 != 0 || slice e.w3 17 15 != 0

/-- A role or flag combination that spec/06 R161 refuses with 0x12. -/
def Entry.badRole (e : Entry) : Bool :=
  !(e.source || e.sink || e.transit) || e.cls = 7 || (e.buddy && 2 ≤ e.service) ||
    ((e.credit || e.progress) && e.service ≠ svReliable) || (e.dst = 255 && e.service = svReliable) ||
    ((e.source || e.sink) && (e.localPort < 2 || 11 < e.localPort))

/-- The adapter whose unit is ON checks BINDING (spec/11 R267, spec/12 R283, spec/14 R313, spec/16 R362). -/
def State.bindingRefusal (s : State) (i : Nat) (e : Entry) : Option Nat :=
  if !(e.source || e.sink) then none
  else if e.localPort = 8 then (if s.isOn .aud then (s.audBinding i e).map fun c => 0x0A00 + c else none)
  else if e.localPort = 9 then (if s.isOn .stc then (s.stateBinding i e).map fun c => 0x0B00 + c else none)
  else if e.localPort = 10 then (s.usbBinding i e).map fun c => 0x2100 + c
  else if s.isDpeEntry e && s.isOn .dpe then (s.dpeBinding i e).map fun c => 0x0D00 + c
  else none

/-- The words of an entry judged by themselves and against the other valid entries (spec/06 R161); the order of the tests is
DEDUCED (assumption log 6). -/
def State.entryRefusal (s : State) (i : Nat) (e : Entry) : Option Nat :=
  let others := s.validEntries.filter fun x => x.1 ≠ i
  if e.reserved then some 0x0502
  else if 3 < e.service then some 0x0501
  else if e.badRole then some 0x0512
  else if 9600 < e.maxLen then some 0x0513
  else if (e.source || e.sink) && !s.hasFunction e.localPort then some 0x0503
  else if e.service = svReliable && (e.rto = 0 || e.window = 0 || 256 < e.window) then some 0x0501
  else if others.any fun x => x.2.tunnel = e.tunnel then some 0x0511
  else if e.progress && 16 ≤ (others.filter fun x => x.2.progress).length then some 0x0514
  else s.bindingRefusal i e

/-- The refusal of a commit (spec/06 R157, R161); while no structure is in force every commit is refused (spec/01 R19). -/
def State.commitRefusal (s : State) (i : Nat) (inv : Bool) (ws : List Nat) : Option Nat :=
  let e := s.entry i
  if e.pending.isSome then some 0x0505
  else if !s.bolt.pat.holds then some 0x0503
  else if e.drain.isSome then some 0x0510
  else if inv then (if e.valid then none else some 0x0515)
  else s.entryRefusal i ((Entry.reset).withWords ws)

/-- TUN_STATUS.VALID follows the table. -/
def State.showValid (s : State) : State := s.set F.TUN_STATUS_VALID s.validEntries.length

/-- Frames of a generation that are queued, staged or being transmitted (spec/07 R185). -/
def State.drainFrames (s : State) (i g : Nat) : Nat :=
  (s.bolt.swb.frames.filter fun x => x.2.entry = i && x.2.gen = g && (!x.2.copies.isEmpty || !x.2.complete)).length

/-- The retransmit buffer of an entry given up: stored frames that only wait for an acknowledgement leave (spec/06 R149). -/
def State.dropRetx (s : State) (i : Nat) : State :=
  let s1 := s.mapEntry i fun e => { e with retx := [], resent := [], held := [] }
  s1.each (s1.bolt.swb.frames.filter fun x => x.2.entry = i && x.2.copies.isEmpty && x.2.complete) fun x s => s.freeFrame x.1

/-- The effect of a commit (spec/06 R149, R157; spec/07 R185; spec/08 R197; spec/13 R300, R304; spec/20 R430).  Frames that a hold
list keeps are delivered first (DEDUCED). -/
def State.commitNow (s : State) (i : Nat) : State :=
  match (s.entry i).pending with
  | none => s
  | some (inv, _, ws) =>
    let s0 := s.each (s.entry i).holds fun h s => s.each h.frames fun f s => s.deliverDatagram i f
    let e := s0.entry i
    let s1 := if inv && e.service = svReliable && e.una ≠ e.nxt then s0.deliveryRecord i 2 else s0
    let n := s1.drainFrames i e.gen
    let old := if e.valid then some (e.gen, [e.w0, e.w1, e.w2, e.w3], n) else none
    let s2 := s1.dropRetx i
    let fresh : Entry := { Entry.reset with
      valid := !inv, gen := (e.gen + 1) % 4, lastGen := e.lastGen, drain := old, polDrop := e.polDrop, polExcess := e.polExcess
      waiting := if inv then [] else e.waiting, heldCounted := !inv && e.heldCounted, perBucket := s1.elastic? s1.cycle i }
    let next := { fresh.withWords (if inv then [e.w0, e.w1, e.w2, e.w3] else ws) with
      lastPath := if inv then e.lastPath else [s2.cycle, s2.cycle] }
    let s3 := (s2.mapEntry i fun _ => next).noteHolds
    let s4 := if !inv && e.valid && next.service ≠ e.service then
        [0, 1, 2].foldl (fun s k => s.setCounter (80 + 3 * i + k) 0) s3
      else s3
    let s5 := if inv then s4 else s4.fillBuckets i
    let s6 := if (s5.get F.TUN_COMMIT_STATUS_INDEX) = i then s5.set F.TUN_COMMIT_STATUS_PENDING 0 else s5
    let s7 := s6.each (s6.linksOn.filter fun l => s6.linkEntry l = i && s6.linkLives l) fun l s =>
      (if s.on (F.PCB_LNK_STATUS_DEAD l) then s else s.tunnelLost l).linkRestart l
    (s7.pcbReview.showValid).irq bTun 1

/-- A write of TUN_COMMIT (spec/06 R157). -/
def State.commit (s : State) (i : Nat) (inv atCycle : Bool) : State :=
  let ws := if inv then [] else (List.range 4).map fun k => (s.shadowWord i k).toNat
  let s1 := s.sets [(F.TUN_COMMIT_STATUS_INDEX, i), (F.TUN_COMMIT_STATUS_PENDING, 0)]
  match s.commitRefusal i inv ws with
  | some r => (s1.set F.TUN_COMMIT_STATUS_REASON r).set F.TUN_COMMIT_STATUS_PENDING (b2n (s.entry i).pending.isSome)
  | none => (s1.sets [(F.TUN_COMMIT_STATUS_REASON, 0), (F.TUN_COMMIT_STATUS_PENDING, 1)]).mapEntry i fun e =>
      { e with pending := some (inv, atCycle, ws) }

/-- The value of TUN_COMMIT that a commit writes. -/
def commitValue (index : BitVec 10) (atCycle inv : Bool) : Word :=
  BitVec.ofNat 32 (index.toNat + 0x10000 * b2n atCycle + 0x20000 * b2n inv)

/-- TUN_COMMIT (spec/06 R157). -/
def execTunCommit (who : Requester) (index : BitVec 10) (atCycle : Bool) (s : State) : Step :=
  .next (s.command who R.TUN_COMMIT (commitValue index atCycle false) fun s => s.commit index.toNat false atCycle)

/-- INVALIDATE (spec/06 R157). -/
def execInvalidate (who : Requester) (index : BitVec 10) (atCycle : Bool) (s : State) : Step :=
  .next (s.command who R.TUN_COMMIT (commitValue index atCycle true) fun s => s.commit index.toNat true atCycle)

/-- COMMIT_EFFECT (spec/06 R157): a pending commit without AT_CYCLE takes effect. -/
def execCommitEffect (i : Fin 1024) (s : State) : Step :=
  .next (s.ifBolt fun s => match (s.entry i.val).pending with
    | some (_, false, _) => s.commitNow i.val
    | _ => s)

/-- The commits that take effect at a cycle boundary. -/
def State.commitsAtCycle (s : State) : State :=
  s.each (s.bolt.tun.filter fun x => match x.2.pending with
    | some (_, at_, _) => at_
    | none => false) fun x s => s.commitNow x.1

/-- RETRANSMIT_TIMEOUT (spec/06 R149), with what a DEAD tunnel means to the bridge (spec/13 R304) and to USB (spec/16 R367).
Retransmission of USB tunnels waits while the seam is down (spec/02 R44). -/
def execRetransmitTimeout (i : Fin 1024) (bits : Nat) (s : State) : Step :=
  .next (s.ifBolt fun s =>
    let s1 := if (s.entry i.val).localPort = 10 && !s.seamUp then s else (s.retransmit i.val bits).pcbReview
    if (s1.entry i.val).dead && !(s.entry i.val).dead then s1.usbDead i.val else s1)

/-- What tunnels that have become DEAD mean to the bridge (spec/13 R304) and to USB (spec/16 R367). -/
def State.deadReview (s was : State) : State :=
  let gone := (s.bolt.tun.filter fun x => x.2.dead && !(was.entry x.1).dead).map (·.1)
  if gone.isEmpty then s else s.pcbReview.each gone fun i s => s.usbDead i

/-- RELIABLE_ACK_RX (spec/06 R148; spec/13 R300). -/
def execReliableAckRx (f : Frame) (s : State) : Step := .next (s.ifBolt fun s => (s.ackTaken f).deadReview s)

/-- PLACEMENT_FIXED (spec/08 R201, spec/07 R166). -/
def execPlacementFixed (p : Fin 12) (row : RowError) (link : Nat) (s : State) : Step :=
  .next (s.ifBolt fun s => (s.fixPlacement p.val row.word row.bits link).deadReview s)

/-- A copy has left in full: an adapter receives the frame; P10's crosses the seam (spec/02 R40), and is discarded and counted for
its tunnel while the seam is down (spec/02 R44). -/
def State.copyLeft (s : State) (p : Nat) (x : Stored) : State :=
  if s.elrek p then s
  else if p = 10 then (if s.seamUp then (s.emit (.local p x.frame)).crossSeam .bolt x.frame else s.countLoss x.entry 1)
  else s.emit (.local p x.frame)

/-- COPY_DONE: the copy on a port's wire sends its last stitch, and is done; a word read on the way with an uncorrectable error
ends it with FRAY instead (spec/06 R151; spec/07 R166, R172, R179). -/
def execCopyDone (c : CopyEnd) (s : State) : Step :=
  let p := c.port
  .next (s.ifBolt fun s => match (s.port p.val).onWire with
    | none => s
    | some (id, k) =>
      match s.stored id with
      | none => s.wireFree p.val
      | some x =>
        if !x.complete then s
        else match if c.row.bits = 0 && !x.poisoned && decide (s.readBits x.cells < 3) then (s, false)
          else s.readFrame x c.row.word c.row.bits with
          | (s1, true) => s1.progressError p.val id k x
          | (s1, false) =>
            let s2 := (s1.pushTo p.val (stitchesOf x.frame.hdr.length.toNat (s.keyed p.val))).wireFree p.val
            (s2.copyLeft p.val x).endCopy id k true)

end Sys2Proof.Machine
end

