-- ==== Sys2Proof/Machine/Units.lean ====
section
/-! DEFINITION. Configurable units (spec/02 R35, R36; spec/01 R23): the check of each, what turning one on and off does. -/

namespace Sys2Proof.Machine

/-- The check of TUN at enable: every valid entry (spec/06 R161). -/
def State.checkTun (s : State) : Option (Nat × Nat) :=
  if s.get ⟨R.TUN_CTRL, 1, 31⟩ ≠ 0 then some (0x02, 0xFFFF)
  else s.validEntries.findSome? fun ie => match s.entryRefusal ie.1 ie.2 with
    | some r => if r / 256 = 5 then some (r % 256, ie.1) else none
    | none => none

/-- The check of RNG at enable (spec/10, RNG registers). -/
def State.checkRng (s : State) : Option (Nat × Nat) :=
  if s.get ⟨R.RNG_CTRL, 4, 28⟩ ≠ 0 then some (0x02, 0xFFFF)
  else if !s.isOn .clk then some (0x05, 0x03)
  else none

/-- The check of CNT at enable (spec/20 R435 to R437, R451). -/
def State.checkCnt (s : State) : Option (Nat × Nat) :=
  let n := s.get F.CNT_DUMP_PERIOD_N
  let slots := s.get F.CNT_DUMP_RING_SLOTS
  let q := s.get F.CNT_DUMP_RING_QCOUNT
  let lo := s.get F.CNT_DUMP_BASE_LO_ADDR
  let hi := s.get F.CNT_DUMP_BASE_HI_ADDR
  let dest := s.on F.CNT_CTRL_DEST
  if s.get ⟨R.CNT_CTRL, 3, 29⟩ ≠ 0 ∨ s.get ⟨R.CNT_DUMP_PERIOD, 24, 8⟩ ≠ 0 ∨ s.get ⟨R.CNT_DUMP_PHASE, 24, 8⟩ ≠ 0 ∨
      s.get ⟨R.CNT_DUMP_RING, 14, 18⟩ ≠ 0 then some (0x02, 0xFFFF)
  else if n < 8 ∨ slots = 0 ∨ 32 < q then some (0x01, 0xFFFF)
  else match (List.range 32).find? fun i => s.get ⟨R.CNT_QSEL i, 12, 20⟩ ≠ 0 with
    | some i => some (0x02, i)
    | none => match (List.range (min q 32)).find? fun i => s.get (F.CNT_QSEL_QUEUE i) = 3 with
      | some i => some (0x01, i)
      | none =>
        if lo % 256 ≠ 0 || (!dest && (hi ≠ 0 || lo < 0x10000000 || 0x11000000 < lo + 36864 * slots)) then some (0x10, 0xFFFF)
        else if dest && !(List.range 3).any (fun q => s.upQuad q) then some (0x11, 0xFFFF)
        else if n ≤ s.get F.CNT_DUMP_PHASE_PHASE then some (0x12, 0xFFFF)
        else none

/-- The balls of TMP_MESHn_OUT and TMP_MESHn_IN, SPL_IO(2n) and SPL_IO(2n + 1) from BC28 (spec/23 R490, R492), are assigned. -/
def State.meshPins (s : State) (n : Nat) : Bool :=
  [0, 1].all fun k => s.spool.splPins.any fun p => p.1 = 1987 + 2 * n + k && p.2.1 = 1

/-- The check of TMP at enable (spec/19 R428). -/
def State.checkTmp (s : State) : Option (Nat × Nat) :=
  let g := s.get F.TMP_VOLT_GLITCH
  let d := s.get F.TMP_CLK_DEV_PCT
  let mesh (n : Nat) : Bool := s.on (F.TMP_MESH_CFG_MODE n)
  if s.get ⟨R.TMP_CTRL, 1, 31⟩ ≠ 0 ∨ s.get ⟨R.TMP_RESP, 18, 14⟩ ≠ 0 ∨ s.get ⟨R.TMP_VOLT, 8, 24⟩ ≠ 0 ∨
      s.get ⟨R.TMP_TEMP, 16, 16⟩ ≠ 0 ∨ s.get ⟨R.TMP_CLK, 4, 28⟩ ≠ 0 ∨ s.get ⟨R.TMP_MESH_CFG 0, 18, 14⟩ ≠ 0 ∨
      s.get ⟨R.TMP_MESH_CFG 1, 18, 14⟩ ≠ 0 then some (0x02, 0xFFFF)
  else if g < 10 ∨ 100 < g ∨ d < 1 ∨ 9 < d then some (0x01, 0xFFFF)
  else match (List.range 6).find? fun n => slice (s.get F.TMP_RESP_RESP) (2 * n) 2 = 3 with
    | some n => some (0x10, n)
    | none =>
      if toSigned 8 (s.get F.TMP_TEMP_HIGH) ≤ toSigned 8 (s.get F.TMP_TEMP_LOW) then some (0x11, 0xFFFF)
      else match [0, 1].find? fun n => mesh n && s.get (F.TMP_MESH_CFG_SEED n) = 0 with
        | some n => some (0x01, 4 + n)
        | none => ([0, 1].find? fun n => mesh n && !s.meshPins n).map fun n => (0x03, 4 + n)

/-- The check of a unit at its enable: the code and DETAIL that refuse it, or none (spec/02 R35). -/
def State.checkUnit (s : State) : HUnit → Option (Nat × Nat)
  | .pat => none
  | .clk => s.checkClk
  | .lanePort n => s.checkPort n
  | .tun => s.checkTun
  | .swb => s.checkSwb
  | .sch => s.checkSch
  | .altBaste => none
  | .altAlarm => none
  | .rng => s.checkRng
  | .aud => s.checkAud
  | .audTdm t => s.checkTdm t
  | .stc => s.checkStc
  | .stcCh c => s.checkChan c
  | .stcCvu u => if s.get ⟨R.STC_CVU_CTRL u, 1, 31⟩ ≠ 0 then some (0x02, 0xFFFF) else (s.checkCvu u).map fun r => (r, 0xFFFF)
  | .pcb => s.checkPcb
  | .pcbQuad q => s.checkPcbQuad q
  | .pcbLink l => s.checkPcbLink l
  | .dpe => s.checkDpe
  | .dpeDp q => s.checkDp q
  | .dpeEth q => s.checkEth q
  | .key => s.checkKey
  | .cnt => s.checkCnt
  | .nts => s.checkNts
  | .tcp => s.checkTcp
  | .tcpPort n => s.checkTcpPort n
  | .usb => s.checkUsb
  | .gate n => s.checkGate n
  | .lanRule r => s.checkRule r
  | .tmp => s.checkTmp

/-- SWB goes ON: the retire table is reloaded, the reserves take effect (spec/07 R168, R173). -/
def State.swbOn (s : State) : State :=
  let cs := s.retireTable.filter fun c => !s.bolt.swb.retired.contains c
  let s1 := { s with bolt.swb := { s.bolt.swb with
    retired := s.bolt.swb.retired ++ cs, freeCells := cs.foldl (fun l c => dropCell c l) s.bolt.swb.freeCells } }
  (s1.set F.SWB_RETIRE_COUNT s1.bolt.swb.retired.length).loadReserves

/-- RNG goes OFF: the node plays no part in the ring. -/
def State.rngOff (s : State) : State :=
  let s1 := { s with bolt.rng := { Ring.reset with masterOk := s.bolt.rng.masterOk, seq := s.bolt.rng.seq } }
  (s1.sets [(F.RNG_STATUS_ROLE, 0), (F.RNG_STATUS_JOIN, 0), (F.RNG_STATUS_EDGE_E, 0), (F.RNG_STATUS_EDGE_W, 0)]).reviewSource

/-- The ports whose BOOK follows a unit's fields (spec/08 R499). -/
def bookPorts : HUnit → List Nat
  | .lanePort n => [n.val]
  | .dpeDp q => [2 + 2 * q.val, 3 + 2 * q.val]
  | .dpeEth q => [2 + 2 * q.val, 3 + 2 * q.val]
  | .pcbQuad q => [2 + 2 * q.val, 3 + 2 * q.val]
  | _ => []

/-- What going ON does beside STATE. -/
def State.turnOn (s : State) (u : HUnit) : State :=
  let s := s.refreshBook (bookPorts u)
  match u with
  | .clk => s.clkOn
  | .lanePort n => s.portOn n
  | .swb => s.swbOn
  | .sch => s.schOn
  | .rng => s.rngOn
  | .audTdm t => s.tdmOn t
  | .stcCh c => s.chanOn c
  | .pcbLink l => s.linkUnitOn l
  | .key => s.keyOn
  | .cnt => s.set F.CNT_DUMP_SEQ_SEQ 0
  | .tcpPort n => s.tcpPortOn n
  | .usb => s.usbStart
  | .gate n => s.startGate n
  | .lanRule r => s.ruleClear r
  | _ => s

/-- What going OFF does beside STATE. -/
def State.turnOff (s : State) (u : HUnit) : State :=
  match u with
  | .rng => s.rngOff
  | .altBaste => s.sendReady 2
  | .aud => s.audOff
  | .audTdm t => s.tdmOff t
  | .stcCh c => s.chanOff c
  | .pcbQuad q => (s.pcbQuadOff q).quadUneq q
  | .pcbLink l => s.linkUnitOff l
  | .dpeDp q => (s.dpOff q).quadUneq q
  | .dpeEth q => (s.ethOff q).quadUneq q
  | .nts => s.ntAbandon 2
  | .usb => s.usbStop
  | .lanRule r => s.ruleClear r
  | _ => s

/-- A unit's STATE becomes ON: REASON 0, CHECK_DONE (spec/02 R35); a unit that passes has no DETAIL (DEDUCED). -/
def State.passUnit (s : State) (u : HUnit) : State :=
  ((s.sets [(u.state, 2), (u.reason, 0), (u.detail, 0xFFFF)]).turnOn u).irq (baseOf u.ctrl) 0

/-- The check of a unit ends (spec/02 R35). -/
def State.endCheck (s : State) (u : HUnit) : State :=
  if s.get u.state ≠ 1 then s
  else match u with
    | .pat => s
    | .altBaste => s.planDone false
    | .altAlarm => s.planDone true
    | u => (match s.checkUnit u with
      | some (code, detail) => s.refuseUnit u code detail
      | none => s.passUnit u).when (u = HUnit.key) State.used

/-- CHECK_DONE (spec/02 R35). -/
def execCheckDone (u : HUnit) (s : State) : Step :=
  .next (if (if isSpool u.ctrl then s.spool.aon else s.boltUp) then s.endCheck u else s)

/-- ENABLE of a unit other than PAT has gone from 0 to 1 (spec/02 R35). -/
def State.unitStarts (s : State) (u : HUnit) : State :=
  if s.on u.stopping then
    s.sets [(u.state, 3), (u.reason, blockId u.ctrl * 256 + 0x05), (u.detail, blockId u.ctrl), (u.enable, 0)]
  else
    let s1 := s.set u.state 1
    match u with
    | .altBaste => s1.planStart 1
    | .altAlarm => s1.planStart 2
    | _ => s1

/-- ENABLE of a unit other than PAT has gone from 1 to 0 (spec/02 R35; spec/05 R124; spec/09 R228; spec/15 R349; spec/17 R381). -/
def State.unitStops (s : State) (u : HUnit) : State :=
  match u with
  | .gate n => s.gateOff n
  | .tcpPort n => s.holdPort n
  | .altAlarm =>
    if s.on F.ALT_ALARM_STATUS_IN_FORCE then (s.set HUnit.altAlarm.enable 1).sticky 0x40700000 0
    else s.set HUnit.altAlarm.state 0
  | u =>
    if s.get u.state = 1 then
      let s1 := s.set u.state 0
      if u = .altBaste then s1.sendReady 2 else s1
    else if s.get u.state ≠ 2 then s
    else match u with
      | .lanePort n => s.portClose n
      | u => ((s.sets [(u.state, 0), (u.stopping, 1)]).turnOff u)

/-- UNIT_STOPPED (spec/02 R35). -/
def execUnitStopped (u : HUnit) (s : State) : Step :=
  .next (if !(if isSpool u.ctrl then s.spool.aon else s.boltUp) || !s.on u.stopping then s
    else match u with
      | .lanePort p => if s.bring p = 10 then s.portDark p else s
      | u => s.set u.stopping 0)

end Sys2Proof.Machine
end

