-- ==== Sys2Proof/Machine/Writes.lean ====
section
/-! DEFINITION. What a write of any register does (spec/02 R27 to R36): plain registers by their access types, command registers
by the command they start, unit controls, the windows of ALT, USB and NVS. -/

namespace Sys2Proof.Machine

/-- The state a meaning answers with; the state as it was where it stops. -/
def stateOf (o : Step) (s : State) : State := match o with
  | .next t => t
  | _ => s

/-- The instance that an address selects of an array of registers: first address, stride, count. -/
def arr (a base stride n : Nat) : Option Nat :=
  if base ≤ a ∧ (a - base) % stride = 0 ∧ (a - base) / stride < n then some ((a - base) / stride) else none

/-- A write whose register is not stored by access type: judged, then acted on. -/
def State.guarded (s : State) (who : Requester) (a : Nat) (act : State → State) : State :=
  if !s.pathLive who then s
  else match s.judge who a 4 true with
    | .act => (act (s.countSpoolWrite a)).answer who .done 0
    | bad => s.turnAway bad who a

/-- A write of a unit's CTRL other than PAT's: ENABLE from 0 to 1 starts its check, from 1 to 0 its stop; a gate follows ON, and
PG0 keeps ENABLE and ON (spec/02 R35; spec/17 R374, R379). -/
def State.ctrlWrite (s : State) (who : Requester) (u : HUnit) (v : Word) : State :=
  let was := s.on u.enable
  let v' := if u = HUnit.gate 0 then v ||| (s.rd u.ctrl &&& 3) else v
  let kept := v' != v
  s.command who u.ctrl v' fun t =>
    let t1 := if !was && t.on u.enable then t.unitStarts u else if was && !t.on u.enable then t.unitStops u else t
    let t2 := t1.when kept fun t => t.sticky bPgt 0
    match u with
    | .gate n => if s.on (F.PGT_GATE_CTRL_ON n) = t2.on (F.PGT_GATE_CTRL_ON n) then t2 else t2.followCommand n
    | _ => t2

/-- The BASTED bank is no longer the one that was in force (spec/09 R224): a pending unpick of the plan in force has nothing to
go back to (DEDUCED, assumption log 86). -/
def State.prevGone (s : State) : State :=
  let s1 := s.set F.ALT_BASTE_STATUS_PREV 0
  match s.bolt.alt.unpick with
  | some c =>
    if c.plan = s.get F.ALT_SEWN_PLAN_PLAN then
      ({ s1 with bolt.alt.unpick := none }.altRecord 2 5 c.plan c.target (s.get F.ALT_SEWN_PLAN_PLAN)).showPending
    else s1
  | none => s1

/-- A word written in the window of a bank (spec/09 R211, R224): SEWN is read only, BASTED and ALARM are RWE; the revert bank in
the ALARM role keeps its words.  PREV clears with a word stored (DEDUCED); a bank that is written is no longer a checked one
(spec/09 R214). -/
def State.bankWrite (s : State) (a : Nat) (v : Word) : State :=
  let r := (a - 0x40710000) / 0x10000
  let off := (a - 0x40710000) % 0x10000
  let b := s.role r
  let bank := s.bolt.alt.banks.getD b []
  if r = 0 || (r = 2 && s.on F.ALT_ALARM_STATUS_IN_FORCE) then s
  else if s.on (if r = 1 then HUnit.altBaste.enable else HUnit.altAlarm.enable) then
    if getKey 0 (off / 4) bank = v then s else s.sticky 0x40700000 0
  else
    let s1 : State := { s with
      bolt.alt.banks := setAt s.bolt.alt.banks b (putKey 0 (off / 4) v bank)
      bolt.alt.checked := setAt s.bolt.alt.checked b false }
    (if r = 1 then s1.prevGone else s1).bankReview

/-- A write in a window that holds no registers. -/
def State.windowWrite (s : State) (who : Requester) (a : Nat) (v : Word) : State :=
  s.guarded who a fun s =>
    if a < 0x50000000 then s.bankWrite a v
    else if a < 0x50200000 then { s with spool.usb.mem := memPut s.spool.usb.mem (a - 0x50110000) (leBytes 4 v.toNat) }
    else s.sticky 0x50600000 1

/-- A write of TOP_HOST_TOKEN from a requester that may not use a field leaves it out; the bits it may use act (spec/02 R27, R28). -/
def State.external (s : State) (n : Nat) : Bool :=
  if s.bolt.pat.committed then bit s.bolt.pat.inForce.hostPaths (n - 1)
  else decide (s.get F.TOP_BOOT_STATUS_BOOT_SRC = n)

/-- The token handed over by its holder (spec/02 R28, R30; spec/22 R467). -/
def State.handOver (s : State) (next : Nat) : State :=
  if next = 3 then s.sets [(F.TOP_REFUSE_REASON, 0x0111), (F.TOP_REFUSE_DETAIL, 3)]
  else if next ≠ 0 && !s.external next then s.sets [(F.TOP_REFUSE_REASON, 0x0110), (F.TOP_REFUSE_DETAIL, next)]
  else if next = s.get F.TOP_HOST_TOKEN_OWNER then s
  else
    let s1 := s.sets [(F.TOP_HOST_TOKEN_OWNER, next), (F.TOP_HOST_TOKEN_EPOCH, s.get F.TOP_HOST_TOKEN_EPOCH + 1)]
    let s2 := if next = 1 then s1.set F.TOP_HOST_TOKEN_REQ_SPI 0 else if next = 2 then s1.set F.TOP_HOST_TOKEN_REQ_PCIE 0 else s1
    s2.refreshInts

/-- A request for the token by its owner's bit (spec/02 R27, R29): TOKEN_REQ each time the bit is set. -/
def State.tokenAsk (s : State) (f : Fld) : State := if s.on f then s else (s.set f 1).irq 0x40000000 0

/-- A write of TOP_HOST_TOKEN (spec/02 R27, R28). -/
def State.tokenWrite (s : State) (who : Requester) (v : Word) : State :=
  s.guarded who R.TOP_HOST_TOKEN fun s =>
    let s1 := if getBits v 12 1 = 1 && who = .spi then s.tokenAsk F.TOP_HOST_TOKEN_REQ_SPI
      else if getBits v 13 1 = 1 && who = .pcie then s.tokenAsk F.TOP_HOST_TOKEN_REQ_PCIE else s
    if !s.holder who then s1
    else
      let s2 := s1.set F.TOP_HOST_TOKEN_NEXT (getBits v 4 2)
      let s3 := if getBits v 16 1 = 1 then s2.sets [(F.TOP_HOST_TOKEN_REQ_SPI, 0), (F.TOP_HOST_TOKEN_REQ_PCIE, 0)] else s2
      if getBits v 8 1 = 1 then s3.handOver (getBits v 4 2) else s3

/-- A write of TOP_HART_RELEASE: each hart released starts at 0x0000_0000 (spec/02 R26). -/
def State.hartWrite (s : State) (who : Requester) (v : Word) : State :=
  s.command who R.TOP_HART_RELEASE v fun s =>
    s.each [1, 2, 3] fun h s =>
      if getBits v h 1 = 1 && !bit s.bolt.ctl.hartsOn h then
        let pc := s.get F.TOP_HART_ENTRY_LO_ADDR + 2 ^ 32 * s.get F.TOP_HART_ENTRY_HI_ADDR
        ({ s with bolt.ctl.hartsOn := setBit s.bolt.ctl.hartsOn h }.emit (.hartStart h 0)).emit (.hartStart h pc)
      else s

/-- The registers of TOP, SEAM and LANE whose write starts something. -/
def State.writeTop (s : State) (who : Requester) (a : Nat) (v : Word) : Option State :=
  (if a = R.TOP_HOST_TOKEN then some (s.tokenWrite who v) else none) <|>
  (if a = R.TOP_HART_RELEASE then some (s.hartWrite who v) else none) <|>
  (if a = R.TOP_HOST_INT_MASK_LO ∨ a = R.TOP_HOST_INT_MASK_HI then some (s.command who a v State.refreshInts) else none) <|>
  (if a = R.SEAM_CTRL then some (s.command who a v fun s => if s.seamUp then s.set F.SEAM_CTRL_RETRAIN 0 else s) else none) <|>
  ((arr a (R.LANE_DFE_CTRL 0) 0x100 20).map fun l =>
    if getBits v 1 1 = 1 then stateOf (execDfeLoad who (Fin.ofNat 20 l) v s) s else s.command who a v id) <|>
  ((arr a (R.LANE_PRBS_CTRL 0) 0x100 20).map fun l => s.prbsWrite who l v) <|>
  ((arr a (R.LANE_MOD_CTRL 0) 0x40 2).map fun t =>
    if getBits v 1 1 = 1 then stateOf (execModReset who (Fin.ofNat 2 t) v s) s else s.command who a v fun s => s.driveLp t) <|>
  ((arr a (R.LANE_MOD_CMD 0) 0x40 2).map fun t =>
    s.command who a v fun s => if getBits v 9 1 = 1 then s.modGo t (getBits v 8 1 = 1) else s)

/-- The registers of TUN, SWB, SCH and ALT whose write starts something. -/
def State.writeSwitch (s : State) (who : Requester) (a : Nat) (v : Word) : Option State :=
  ((arr a (R.TUN_SHADOW 0) 4 4).map fun k => s.command who a v fun s => s.setShadow (s.get F.TUN_SHADOW_SEL_INDEX) k v) <|>
  (if a = R.TUN_COMMIT then
    some (s.command who a v fun s => s.commit (getBits v 0 10) (getBits v 17 1 = 1) (getBits v 16 1 = 1)) else none) <|>
  (if a = R.SWB_ECC_INJECT then some (stateOf (execEccArm who v s) s) else none) <|>
  (if a = R.SCH_SAMP_CTRL then some (stateOf (execSampClear who v s) s) else none) <|>
  (if a = R.ALT_CMD_PLAN then some (stateOf (execCmdPlanWrite who v s) s) else none) <|>
  (if a = R.ALT_CMD then some (match getBits v 0 3 with
    | 1 => stateOf (execAltSew who s) s
    | 2 => stateOf (execAltUnpick who s) s
    | 3 => stateOf (execAltAlarm who s) s
    | 4 => stateOf (execAltPoll who s) s
    | _ => s.command who a v id) else none)

/-- The registers of RNG, AUD, STC and DPE whose write starts something. -/
def State.writeRing (s : State) (who : Requester) (a : Nat) (v : Word) : Option State :=
  (if a = R.RNG_CMD then some (match getBits v 0 3 with
    | 1 => stateOf (execRingRollcall who s) s
    | 2 => stateOf (execRingResign who s) s
    | 3 => stateOf (execOpenRing who s) s
    | 4 => stateOf (execRingHeal who s) s
    | 5 => stateOf (execRingForget who s) s
    | _ => s.command who a v id) else none) <|>
  (if a = R.RNG_TX_CTRL then some (stateOf (execMsgSend who v s) s) else none) <|>
  (if a = R.RNG_RX_POP && getBits v 0 1 = 1 then some (stateOf (execRxPop who s) s) else none) <|>
  (if a = R.AUD_RCH_CFG then some (s.command who a v fun s =>
    let c := s.get F.AUD_RCH_SEL_CHANNEL
    s.setRemote c { s.remote c with decay := getBits v 0 1 = 1 }) else none) <|>
  ((arr a (R.STC_CH_VALUE_HI 0) 0x40 128).map fun c => stateOf (execValueHiWrite who (Fin.ofNat 128 c) v s) s) <|>
  ((arr a (R.STC_CH_SAFE_HI 0) 0x40 128).map fun c => s.command who a v fun s => s.showChan c) <|>
  ((arr a (R.STC_CVU_DATA 0) 0x40 144).map fun u => stateOf (execCvuData who (Fin.ofNat 144 u) v s) s) <|>
  ((arr a (R.STC_CVU_CMD 0) 0x40 144).map fun u => s.cvuCmd who u v) <|>
  ((arr a (R.STC_CVU_ALIVE 0) 0x40 144).map fun u => stateOf (execCvuAlive who (Fin.ofNat 144 u) v s) s) <|>
  ((arr a (R.STC_CVU_EXPECT 0) 0x40 128).map fun _ => s.guarded who a fun s => s.sticky bStc 0) <|>
  (if a = R.DPE_LEARN_FLUSH then some (stateOf (execLearnGo who v s) s) else none)

/-- An op number of KEY_OP_GO or KEY_LC_CMD and the other registers of KEY, CNT, FLT and NTS whose write starts something. -/
def State.writeKey (s : State) (who : Requester) (a : Nat) (v : Word) : Option State :=
  (if a = R.KEY_MR_EXT then some (stateOf (execMrExtend who v s) s) else none) <|>
  (if a = R.KEY_OP_GO then some (s.command who a v fun s =>
    if 1 ≤ getBits v 0 4 ∧ getBits v 0 4 ≤ 9 then s.keyGo (getBits v 0 4) else s) else none) <|>
  (if a = R.KEY_LC_CMD then some (s.command who a v fun s => s.lcDo (getBits v 0 2)) else none) <|>
  (if a = R.CNT_CMD then some (s.command who a v fun s => s.cntCmd v) else none) <|>
  (if a = R.CNT_NVS_CTRL then some (s.command who a v fun s => if getBits v 0 1 = 1 then s.takeSnapshot else s) else none) <|>
  (if a = R.FLT_SW_CMD then some (s.command who a v fun s =>
    if getBits v 16 1 = 1 then s.swRecord (getBits v 0 16) else s) else none) <|>
  (if a = R.NTS_CMD then some (s.command who a v fun s =>
    (s.when (getBits v 0 1 = 1) State.ntGo).when (getBits v 1 1 = 1) State.ntAbort) else none)

/-- A write of TCP_PORTn_CMD. -/
def State.portCmdWrite (s : State) (who : Requester) (p : Fin 6) (v : Word) : State :=
  match getBits v 0 4 with
  | 1 => stateOf (execCmdDetach who p s) s
  | 2 => stateOf (execPrSwap who p s) s
  | 3 => stateOf (execDrSwap who p s) s
  | 4 => stateOf (execVconnSwap who p s) s
  | 5 => stateOf (execHardReset who p s) s
  | 6 => stateOf (execSendCaps who p s) s
  | 7 => stateOf (execEnterMode who p s) s
  | 8 => stateOf (execExitMode who p s) s
  | _ => s.command who (R.TCP_PORT_CMD p) v id

/-- A write of PWR_READY with GO: the time of a wake that ends here is not stated by the write, a free value (log 3). -/
def State.readyWrite (s : State) (who : Requester) (v : Word) : State :=
  if getBits v 0 1 = 1 then (stateOf (execGoReady who s.fresh s) s).used else s.command who R.PWR_READY v id

/-- A write of PWR_CMD. -/
def State.pwrWrite (s : State) (who : Requester) (v : Word) : State :=
  let cores := getBits v 3 1 = 1
  match getBits v 0 3 with
  | 1 => s.hostPwr who 1 psRun cores
  | 2 => s.hostPwr who 2 psQuiet cores
  | 3 => s.hostPwr who 3 psStandby cores
  | 4 => s.hostPwr who 4 psOff cores
  | _ => s.command who R.PWR_CMD v id

/-- The registers of the spool die whose write starts something. -/
def State.writeSpool (s : State) (who : Requester) (a : Nat) (v : Word) : Option State :=
  (if a = R.TCP_BUDGET_CMD then some (stateOf (execBudgetCommit who v s) s) else none) <|>
  ((arr a (R.TCP_PORT_ASK 0) 0x100 6).map fun p => stateOf (execAskAnswer who (Fin.ofNat 6 p) v s) s) <|>
  ((arr a (R.TCP_PORT_CMD 0) 0x100 6).map fun p => s.portCmdWrite who (Fin.ofNat 6 p) v) <|>
  (if a = R.USB_HC_CTRL then some (stateOf (execHostRun who v s) s) else none) <|>
  (if a = R.USB_MBX_RX_POP then some (stateOf (execMbxPop who v s) s) else none) <|>
  (if a = R.USB_MBX_TX_CTRL then some (stateOf (execTxGo who v s) s) else none) <|>
  ((arr a (R.USB_PIPE_CMD 0) 0x20 16).map fun p => s.command who a v fun s =>
    (s.when (getBits v 0 1 = 1) fun s => s.pipeGo p (getBits v 1 1 = 1)).when (getBits v 2 1 = 1) fun s => s.pipeAbort p) <|>
  ((arr a (R.PGT_GATE_CMD 0) 0x80 7).map fun n => s.command who a v fun s =>
    (s.when (getBits v 0 1 = 1) fun s => s.clearGate n).when (getBits v 1 1 = 1) fun s => s.discharge n) <|>
  (if a = R.PWR_CMD then some (s.pwrWrite who v) else none) <|>
  (if a = R.PWR_READY then some (s.readyWrite who v) else none) <|>
  (if a = R.LAN_WAKE then some (s.command who a v fun s => s.when (getBits v 9 1 = 1) State.wakeRelease) else none) <|>
  (if a = R.TMP_CLEAR && getBits v 0 1 = 1 then
    some (stateOf (execTmpClear who v s) s) else none) <|>
  (if a = R.NVS_CMD then some (s.command who a v fun s =>
    if getBits v 0 2 = 0 then s else s.nvsCmd (getBits v 0 1 = 1) (getBits v 1 1 = 1) s.fuses.lifecycle) else none)

/-- A 32-bit write of a register block's address, PAT_CTRL apart (spec/02 R27 to R36). -/
def State.writeReg (s : State) (who : Requester) (a : Nat) (v : Word) : State :=
  if inWindow a then s.windowWrite who a v
  else match (s.writeTop who a v <|> s.writeSwitch who a v <|> s.writeRing who a v <|> s.writeKey who a v <|> s.writeSpool who a v) with
    | some t => t
    | none => match unitAt a with
      | some .pat => s.command who a v id
      | some u => s.ctrlWrite who u v
      | none => s.command who a v id

/-- A _LO value held for its requester and block until the _HI write of its pair (spec/02 R33). -/
def State.holdLo (s : State) (who : Requester) (a : Nat) (v : Word) : State :=
  let keep := s.bolt.ctl.wrLatch.filter fun x => !(x.who = who.num && x.blk = blockId a)
  { s with bolt.ctl.wrLatch := keep ++ [⟨who.num, blockId a, a, v⟩] }

/-- A write of a _LO register (spec/02 R33). -/
def State.writeLo (s : State) (who : Requester) (a : Nat) (v : Word) : State := s.guarded who a fun s => s.holdLo who a v

/-- A write of a _HI register: the held low half takes effect with it (spec/02 R33). -/
def State.writeHi (s : State) (who : Requester) (a : Nat) (v : Word) : State :=
  if s.pathLive who && decide (s.judge who a 4 true = .act) then (s.takeLo who (a - 4)).writeReg who a v else s.writeReg who a v

/-- The half of a pair that an address is; not of a pair outside the register tables. -/
def halfOf (a : Nat) : Half := ((findReg a).map fun r => r.1.half).getD .none

/-- A write of any register but PAT_CTRL (spec/02 R31 to R36). -/
def State.writeAny (s : State) (who : Requester) (a : Nat) (v : Word) : State :=
  match halfOf a with
  | .lo => s.writeLo who a v
  | .hi => s.writeHi who a v
  | .none => s.writeReg who a v

end Sys2Proof.Machine
end

