-- ==== Sys2Proof/Machine/Views.lean ====
section
/-! DEFINITION. What a read of a register shows where the register is a view of what the hub holds elsewhere: selected entries,
counts, tokens, queues, logs. -/

namespace Sys2Proof.Machine

/-- The one of an array of registers that an address names, shown by a function of its instance. -/
def viewArr (a base stride n : Nat) (f : Nat → Nat) : Option Nat := (arr a base stride n).map f

/-- A register shown by a value. -/
def viewAt (a reg : Nat) (v : Nat) : Option Nat := if a = reg then some v else none

/-- The pattern loader's warm-image slots (spec/03 R72, R73): address, header fields, whether committed, the wake image. -/
def warmAddr (k : Nat) : Nat := 0x8000 + 0x1C000 * k
def State.warmSeq (s : State) (k : Nat) : Nat := leAt (s.nvsBytes (warmAddr k) 8) 4 4
def State.warmLen (s : State) (k : Nat) : Nat := leAt (s.nvsBytes (warmAddr k) 12) 8 4
def State.warmCommitted (s : State) (k : Nat) : Bool :=
  let h := s.nvsBytes (warmAddr k) 16
  decide (h.take 4 = ([0x4C, 0x4E, 0x54, 0x57] : List Byte)) && decide (leAt h 12 4 = leAt h 4 4)
def State.wakeImage (s : State) : Option Nat :=
  match s.warmCommitted 0, s.warmCommitted 1 with
  | true, true => some (if later (s.warmSeq 1) (s.warmSeq 0) then 1 else 0)
  | true, false => some 0
  | false, true => some 1
  | false, false => none

/-- PAT (spec/03 R75). -/
def State.viewPat (s : State) (a : Nat) : Option Nat :=
  let fw := s.bolt.pat.fw.find? fun x => x.1 = s.get F.PAT_FWDATA_SEL_INSTANCE
  viewAt a R.PAT_FLOOR (s.itemNum 0x10) <|>
  viewAt a R.PAT_FWDATA_OFFSET ((fw.map (·.2.1)).getD 0xFFFFFFFF) <|>
  viewAt a R.PAT_FWDATA_LEN ((fw.map (·.2.2)).getD 0) <|>
  viewAt a R.PAT_WARM ((s.wakeImage.getD 0) + 2 * b2n (s.warmCommitted 0) + 4 * b2n (s.warmCommitted 1)) <|>
  viewAt a R.PAT_WARM_LEN ((s.wakeImage.map s.warmLen).getD 0)

/-- LANE: the 48-bit counters of a lane (spec/05 R116, R126). -/
def State.viewLane (s : State) (a : Nat) : Option Nat :=
  let part (k h : Nat) : Nat → Nat := fun l => slice (s.counter (4 * l + k)) (32 * h) 32
  viewArr a (R.LANE_PRBS_ERR_LO 0) 0x100 20 (part 0 0) <|> viewArr a (R.LANE_PRBS_ERR_HI 0) 0x100 20 (part 0 1) <|>
  viewArr a (R.LANE_PRBS_BITS_LO 0) 0x100 20 (part 1 0) <|> viewArr a (R.LANE_PRBS_BITS_HI 0) 0x100 20 (part 1 1) <|>
  viewArr a (R.LANE_IDLE_ERR_LO 0) 0x100 20 (part 2 0) <|> viewArr a (R.LANE_IDLE_ERR_HI 0) 0x100 20 (part 2 1) <|>
  viewArr a (R.LANE_IDLE_BITS_LO 0) 0x100 20 (part 3 0) <|> viewArr a (R.LANE_IDLE_BITS_HI 0) 0x100 20 (part 3 1)

/-- TUN (spec/06 R160). -/
def State.viewTun (s : State) (a : Nat) : Option Nat :=
  let e := s.entry (s.get F.TUN_VIEW_SEL_INDEX)
  viewArr a (R.TUN_SHADOW 0) 4 4 (fun k => (s.shadowWord (s.get F.TUN_SHADOW_SEL_INDEX) k).toNat) <|>
  viewArr a (R.TUN_VIEW 0) 4 4 (fun k => [e.w0, e.w1, e.w2, e.w3].getD k 0) <|>
  viewAt a R.TUN_VIEW_STATE
    (b2n e.valid + 2 * e.gen + 8 * e.lastGen + 32 * b2n e.dead + 64 * b2n e.drain.isSome) <|>
  viewAt a R.TUN_VIEW_TX (e.una % 65536 + 65536 * (e.nxt % 65536)) <|>
  viewAt a R.TUN_VIEW_RX (e.rcvNxt % 65536 + 65536 * min 15 e.expiries)

/-- The frames of an entry's queue that have not started (spec/07 R187, spec/08 R208). -/
def State.queueFrames (s : State) (i q : Nat) : List Stored :=
  (s.bolt.swb.frames.map (·.2)).filter fun f => f.copies.any fun c =>
    c.queue / 16 = i && c.queue % 4 = q && (c.st = .queued || c.st = .placed || c.st = .threshold)

/-- SWB (spec/07 R187). -/
def State.viewSwb (s : State) (a : Nat) : Option Nat :=
  let drain := match (s.entry (s.get F.SWB_DRAIN_SEL_INDEX)).drain with
    | some (g, _, n) => g + 4 + 16 * min n (2 ^ 18 - 1)
    | none => 0
  let q := s.queueFrames (s.get F.SWB_QVIEW_SEL_INDEX) (min 2 (s.get F.SWB_QVIEW_SEL_QUEUE))
  viewAt a R.SWB_STATUS (setBits (s.rd a) 4 1 (b2n s.growing)).toNat <|>
  viewAt a R.SWB_FREE s.freeCount <|> viewAt a R.SWB_SHARED s.sharedSize <|> viewAt a R.SWB_SHARED_FREE s.sharedFree <|>
  viewAt a R.SWB_DRAIN drain <|>
  viewAt a R.SWB_QVIEW ((q.map fun f => f.cells.length).sum) <|> viewAt a R.SWB_QVIEW_FR q.length <|>
  viewArr a (R.SWB_CREDIT_AVAIL 0) 4 64 (fun j => min (2 ^ 18 - 1) (s.avail (j / 8) (j % 8)))

/-- Whole bytes of a bucket's TOKENS, within its field. -/
def wholeBytes (t : Int) : Nat := min (2 ^ 23 - 1) (t / 2 ^ 24).toNat

/-- SCH (spec/08 R208). -/
def State.viewSch (s : State) (a : Nat) : Option Nat :=
  let i := s.get F.SCH_ENT_SEL_INDEX
  let q := min 2 (s.get F.SCH_ENT_SEL_QUEUE)
  let e := s.entry i
  let k := qKey i e.gen q
  let placed := ((s.bolt.sch.ports.map fun p => (p.slots.filter fun x => x.queue = k).length)).sum
  let z := (lookupKey (i * 4 + q) s.bolt.queueStats).getD ⟨0, 0, 0, 0, List.replicate 16 0, List.replicate 16 0⟩
  viewAt a R.SCH_ENT_POL_TOKENS (wholeBytes e.polTok) <|> viewAt a R.SCH_ENT_SHP_TOKENS (wholeBytes e.shpTok) <|>
  viewAt a R.SCH_ENT_DEFICIT (s.queue k).deficit <|>
  viewAt a R.SCH_ENT_POL (min 65535 e.polDrop + 65536 * min 65535 e.polExcess) <|>
  viewAt a R.SCH_ENT_STAGE (min placed 4095 + 4096 * b2n (s.queue k).active) <|>
  viewAt a R.SCH_SAMP_DEPTH_MIN z.depthMin <|> viewAt a R.SCH_SAMP_DEPTH_MAX z.depthMax <|>
  viewAt a R.SCH_SAMP_DELAY_MIN z.delayMin <|> viewAt a R.SCH_SAMP_DELAY_MAX z.delayMax <|>
  viewArr a (R.SCH_SAMP_BIN 0) 4 16 (fun b => (if s.on F.SCH_SAMP_CTRL_METRIC then z.delayBins else z.depthBins).getD b 0) <|>
  viewArr a (R.SCH_PORT_STAGE 0) (R.SCH_PORT_STAGE 1 - R.SCH_PORT_STAGE 0) 12
    (fun p => (setBits (s.rd a) 0 13 (s.psch p).slots.length).toNat) <|>
  ((List.range 12).findSome? fun p => viewArr a (R.SCH_PORT_GUARD p 0) 4 7 fun c =>
    min 65535 (guardNs (s.guardLen c p) (s.rate p)) + 65536 * min 65535 (s.guardLen c p))

/-- ALT (spec/09 R232). -/
def State.viewAlt (s : State) (a : Nat) : Option Nat :=
  let rep := (lookupKey (s.get F.ALT_REPORT_SEL_ADDR) s.bolt.alt.reports).getD (0, 0)
  let check := s.bolt.alt.checks.getD (s.get F.ALT_CHECK_SEL_BANK) ⟨[], []⟩
  let delay := (check.delays.find? fun d => d.1 = s.get F.ALT_CHECK_SEL_INDEX).map fun d => min d.2.1 (2 ^ 24 - 1) + 2 ^ 24 * d.2.2
  let pc := (check.service.find? fun d => d.1 = s.get F.ALT_CHECK_PC_SEL_PORT * 8 + s.get F.ALT_CHECK_PC_SEL_CLASS).getD (0, 0, 0)
  viewAt a R.ALT_REPORT rep.1 <|> viewAt a R.ALT_REPORT_DIGEST rep.2 <|>
  viewAt a R.ALT_CHECK_DELAY (delay.getD 0) <|> viewAt a R.ALT_CHECK_SERVICE pc.2.1 <|> viewAt a R.ALT_CHECK_DEMAND pc.2.2

/-- RNG (spec/10 R254). -/
def State.viewRng (s : State) (a : Nat) : Option Nat :=
  let edge := (s.allEdges)[s.get F.RNG_EDGE_SEL_INDEX]?
  let addr := s.get F.RNG_MAP_SEL_ADDR
  let cen := lookupKey addr s.bolt.rng.census
  let mail := s.bolt.rng.mail.head?
  let status := match mail with
    | some m => s.bolt.rng.mail.length + 32 * m.data.length + 4096 * m.src + 2 ^ 20 * b2n m.toMaster
    | none => 0
  let e := s.entry (s.get F.RNG_BUDDY_SEL_INDEX)
  viewAt a R.RNG_STATUS (setBits (s.rd a) 10 1 (b2n s.eligible)).toNat <|>
  viewAt a R.RNG_NEIGH (setBits (s.rd a) 16 8 s.bolt.rng.census.length).toNat <|>
  viewAt a R.RNG_EDGE ((edge.map fun x => x.node + 256 * x.side + 512 * x.cause + 4096).getD 0) <|>
  viewAt a R.RNG_EDGE_CYCLE ((edge.map (·.since)).getD 0) <|>
  viewAt a R.RNG_MAP ((lookupKey addr s.bolt.rng.he).getD 255 + 256 * (lookupKey addr s.bolt.rng.hw).getD 255 + 65536 * b2n cen.isSome) <|>
  viewArr a (R.RNG_MAP_UID 0) 4 4 (fun k => (cen.map fun c => slice c.uid (32 * k) 32).getD 0) <|>
  viewAt a R.RNG_MAP_SEEN ((cen.map (·.seen)).getD 0) <|>
  viewAt a R.RNG_RX_STATUS (setBits (s.rd a) 0 21 status).toNat <|>
  viewArr a (R.RNG_RX_DATA 0) 4 24 (fun k => (mail.map fun m => leAt m.data (4 * k) 4).getD 0) <|>
  viewAt a R.RNG_BUDDY (min 65535 (e.fromPath.getD 0 0) + 65536 * min 65535 (e.fromPath.getD 1 0)) <|>
  viewAt a R.RNG_BUDDY_STATE (b2n e.single + 2 * (e.silent % 2)) <|>
  viewAt a R.RNG_BUDDY_SINCE (e.lastPath.getD (e.silent % 2) 0)

/-- AUD (spec/11 R281). -/
def State.viewAud (s : State) (a : Nat) : Option Nat :=
  let c := s.get F.AUD_RCH_SEL_CHANNEL
  let x := s.remote c
  let sink := s.validEntries.find? fun ie => ie.2.service = svStream && ie.2.sink && ie.2.localPort = 8 &&
    decide (ie.2.bundleFirst ≤ c) && decide (c < ie.2.bundleFirst + ie.2.bundleCount)
  viewAt a R.AUD_CFG (s.rateCode + 4 * s.playD + 256 * s.samplesPer) <|>
  viewAt a R.AUD_RCH_CFG (b2n x.decay) <|>
  viewAt a R.AUD_RCH_STATUS ((sink.map fun ie => ie.1 + 1024).getD 0 + 2048 * b2n x.concealing + 4096 * x.origin) <|>
  viewAt a R.AUD_RCH_CONCEALED (min (2 ^ 32 - 1) x.samples) <|>
  viewAt a R.AUD_RCH_USED (x.fromPath.getD 0 0 + 65536 * x.fromPath.getD 1 0) <|>
  viewAt a R.AUD_OUT_CLIP (min (2 ^ 32 - 1) (getKey 0 (s.get F.AUD_OUT_SEL_OUTPUT) s.bolt.aud.clips))

/-- PCB (spec/13 R294, R310): the configuration space of a function is stated in part only, the rest is a free value. -/
def State.viewPcb (s : State) (a : Nat) : Option Nat :=
  let target := s.get F.PCB_CFG_SEL_TARGET
  let dword := s.get F.PCB_CFG_SEL_DWORD
  let data := if 33 ≤ target then 0
    else if dword = 0 then (s.rd (if s.bolt.bootLink then R.TOP_BOOT_PCIE_ID else R.PCB_ID)).toNat
    else if dword = 2 then (if target = 32 then 0x08800000 else s.fresh / 256 % 2 ^ 24 * 256) +
      (if s.bolt.bootLink then s.fresh % 256 else s.get F.PCB_ID2_REV)
    else if dword = 3 then s.fresh % 2 ^ 16 + 2 ^ 16 * b2n (target ≠ 32) + s.fresh / 2 ^ 24 % 256 * 2 ^ 24
    else s.fresh
  let x := s.bolt.ledger.getD (s.get F.PCB_LEDGER_SEL_INDEX) ⟨0, 0, 0, 0, 0, 0⟩
  viewAt a R.PCB_CFG_DATA (data % 2 ^ 32) <|>
  viewAt a R.PCB_LEDGER_INFO (x.link % 32 + 32 * (x.cause % 8) + 256 * (x.cycle % 2 ^ 24)) <|>
  viewAt a R.PCB_LEDGER_FIRST x.first <|> viewAt a R.PCB_LEDGER_COUNT x.count <|>
  viewAt a R.PCB_LEDGER_ADDR_LO (slice x.addr 0 32) <|> viewAt a R.PCB_LEDGER_ADDR_HI (slice x.addr 32 32)

/-- KEY (spec/19 R426). -/
def State.viewKey (s : State) (a : Nat) : Option Nat :=
  let n := s.get F.KEY_SLOT_SEL_SLOT
  let x := s.slot n
  let slots := s.bolt.keys.slots
  let children := (slots.filter fun y => y.state ≠ 0 && y.parent = n).length
  let valid := ((List.range 64).map fun i => if (s.slot i).state = 2 then 2 ^ i else 0).sum
  viewArr a (R.KEY_MR_WORD 0) 4 12 (fun k => leAt (s.mr (s.get F.KEY_MR_SEL_REG)) (4 * k) 4) <|>
  viewAt a R.KEY_SLOT_INFO
    (x.state + 4 * x.type + 16 * x.usage + 256 * x.mrsel + 4096 * x.parent + 2 ^ 19 * min 63 children) <|>
  viewAt a R.KEY_VALID_LO (slice valid 0 32) <|> viewAt a R.KEY_VALID_HI (slice valid 32 32)

/-- CNT and FLT (spec/20 R432, R443). -/
def State.viewCnt (s : State) (a : Nat) : Option Nat :=
  let v := s.counter (s.get F.CNT_SEL_ID)
  viewAt a R.CNT_VAL_LO (slice v 0 32) <|> viewAt a R.CNT_VAL_HI (slice v 32 16) <|>
  viewAt a R.FLT_HELD (setBits (s.rd a) 0 7 (min 64 s.bolt.held.length)).toNat <|>
  viewAt a R.FLT_LOG_NEXT s.spool.logNext <|> viewAt a R.FLT_LOG_SEQ s.spool.logSeq <|>
  viewAt a R.FLT_LOG_COUNT s.spool.logCount

/-- The spool die: the mailbox, the state of NVS (spec/16 R368, spec/20 R449). -/
def State.viewSpool (s : State) (a : Nat) : Option Nat :=
  let n := s.spool.nvsQueue.length
  viewArr a (R.USB_MBX_RXD 0) 4 128 (fun k => ((s.spool.usb.mbx.head?).map fun m => leAt m (4 * k) 4).getD 0) <|>
  viewAt a R.NVS_STATUS (setBits (setBits (s.rd a) 0 1 (b2n (n != 0))) 16 16 (min 65535 (n - 1))).toNat

/-- A word in a window: packet memory, a bank by its role, NVS (spec/16 R363, spec/09 R211, spec/20 R439). -/
def State.viewWindow (s : State) (a : Nat) : Nat :=
  if a < 0x50000000 then s.physWord (s.role ((a - 0x40710000) / 0x10000)) ((a - 0x40710000) % 0x10000)
  else if a < 0x50200000 then leAt (memBytes s.spool.usb.mem (a - 0x50110000) 4) 0 4
  else leAt (s.nvsBytes (a - 0x50680000) 4) 0 4

/-- The word that a read of an assigned register gives. -/
def State.viewReg (s : State) (a : Nat) : Word :=
  if inWindow a then BitVec.ofNat 32 (s.viewWindow a)
  else if a % 0x100000 = 8 then BitVec.ofNat 32 (s.intStatus (baseOf a))
  else match s.viewPat a <|> s.viewLane a <|> s.viewTun a <|> s.viewSwb a <|> s.viewSch a <|> s.viewAlt a <|>
      s.viewRng a <|> s.viewAud a <|> s.viewPcb a <|> s.viewKey a <|> s.viewCnt a <|> s.viewSpool a with
    | some v => BitVec.ofNat 32 v
    | none => s.rd a

/-- The reads whose value the spec leaves open take a free value (assumption log 3). -/
def openView (a : Nat) : Bool := a = R.PCB_CFG_DATA

/-- What reading an assigned register does beside answering: the use of a free value, a sampled address counted as read
(spec/20 R434). -/
def State.readDone (s : State) (a : Nat) : State :=
  let s1 := if openView a then s.used else s
  match arr a (R.CNT_SAMP_PC_LO 0) 0x10 4 with
  | some h => { s1 with bolt.sampUnread := clrBit s1.bolt.sampUnread h }
  | none => s1

/-- The latches that a read of a _LO register fills for its requester: the _HI register's value, and SUB beside ring time
(spec/02 R32; spec/04 R96). -/
def State.latchHigh (s : State) (w : Requester) (lo : Nat) : State :=
  let keep := s.bolt.ctl.rdLatch.filter fun x => !(x.who = w.num && x.blk = blockId lo)
  let hi : List Latch := [⟨w.num, blockId lo, lo + 4, s.viewReg (lo + 4)⟩]
  let sub : List Latch := if lo = R.CLK_RT_NS_LO then [⟨w.num, blockId lo, lo + 8, s.viewReg (lo + 8)⟩] else []
  { s with bolt.ctl.rdLatch := keep ++ hi ++ sub }

/-- The value latched for a requester and a register. -/
def State.latched (s : State) (w : Requester) (a : Nat) : Option Word :=
  (s.bolt.ctl.rdLatch.find? fun x => x.who = w.num && x.pair = a).map (·.val)

/-- A read of an assigned register by a requester: the word, and the state after it (spec/02 R32). -/
def State.readReg (s : State) (w : Requester) (a : Nat) : State × Word :=
  let v := (s.latched w a).getD (s.viewReg a)
  let s1 := s.readDone a
  (match halfOf a with | .lo => s1.latchHigh w a | _ => s1, v)

end Sys2Proof.Machine
end

