-- ==== Sys2Proof/Machine/PatCheck.lean ====
section
/-! DEFINITION. What the pattern loader reads and checks (spec/03 R46 to R60, R69 to R72): header, directory, structural
sections, records, claims and sums. -/

namespace Sys2Proof.Machine

/-- A refusal of a load: code, DETAIL, byte offset of the offending item. -/
structure Bad where
  code : Nat
  detail : Nat
  off : Nat
  deriving DecidableEq, Repr

/-- No item. -/
abbrev noOffset : Nat := 0xFFFFFFFF

/-- A fault in the header or the manifest. -/
def Bad.head (code off : Nat) : Bad := ⟨code, 0xFFFF, off⟩

/-- The first of a list of findings. -/
def firstBad {α : Type} (l : List α) (f : α → Option Bad) : Option Bad := l.findSome? f

/-- A finding where a condition holds. -/
def badIf (c : Bool) (b : Bad) : Option Bad := if c then some b else none

/-- The section types (spec/03 R51): TYPE, required, target blocks. -/
def sectionTypes : List (Nat × Bool × List Nat) := [
  (0x01, true, []), (0x02, true, []), (0x03, true, []), (0x04, true, []), (0x05, true, []),
  (0x10, true, [0x06, 0x07]), (0x11, false, [0x05]), (0x12, false, [0x08]), (0x13, false, [0x0B]), (0x14, false, [0x0A]),
  (0x15, false, [0x0C, 0x0D, 0x04]), (0x16, false, [0x12]), (0x20, false, [0x20, 0x21]), (0x21, false, [0x22]),
  (0x22, false, [0x24]), (0x23, false, [0x25]), (0xF0, false, [])]

/-- The order in which step 5 writes the sections (spec/03 R63). -/
def applyOrder : List Nat := [0x04, 0x03, 0x02, 0x01, 0x05, 0x10, 0x11, 0x12, 0x13, 0x14, 0x15, 0x16, 0x23, 0x21, 0x20, 0x22]

/-- A bolt-die section, and one that the warm image holds (spec/03 R48, R51, R72). -/
def Section.bolt (x : Section) : Bool := decide (x.type < 0x20)
def Section.warm (x : Section) : Bool := x.bolt && !bit x.flags 0

/-- A length padded to 64 bytes. -/
def pad64 (n : Nat) : Nat := (n + 63) / 64 * 64

/-- The bytes of a section in what was read. -/
def Section.bytes (x : Section) (img : List Byte) : List Byte := bytesAt img x.offset x.length

/-- Some byte of a range is not 0. -/
def anyByte (l : List Byte) (o n : Nat) : Bool := (bytesAt l o n).any fun b => b != 0

/-- Bytes of a load's source from an offset: QSPI flash, SRAM, or the wake image beyond its slot header (spec/03 R61, R72). -/
def State.sourceBytes (s : State) (o n : Nat) : List Byte :=
  let a := s.get F.PAT_SRC_ADDR_ADDR
  match s.get F.PAT_CTRL_SRC with
  | 0 => memBytes s.flash (a + o) n
  | 1 => memBytes s.bolt.sram (a - 0x10000000 + o) n
  | _ => s.nvsBytes (warmAddr (s.wakeImage.getD 0) + 64 + o) n

/-- How many bytes the source can hold from its address: the QSPI device is taken as 256 MiB (DESIGN CHOICE, assumption log
27). -/
def State.sourceRoom (s : State) : Nat :=
  let a := s.get F.PAT_SRC_ADDR_ADDR
  match s.get F.PAT_CTRL_SRC with
  | 0 => 0x10000000 - a
  | 1 => if a < 0x10000000 then 0 else 0x11000000 - a
  | _ => 114688

/-- The refusals of a start (spec/03 R61).  A wake's load runs before the hub is in QUIET (DEDUCED, spec/18 R391). -/
def State.startRefused (s : State) : Option Nat :=
  let src := s.get F.PAT_CTRL_SRC
  if s.get F.PWR_STATUS_STATE ≠ 2 && !s.spool.pwr.waking && !s.on F.PAT_CTRL_CHECK_ONLY then some 0x0219
  else if !s.seamUp then some 0x0205
  else if s.get ⟨R.PAT_CTRL, 4, 28⟩ ≠ 0 then some 0x0202
  else if src = 3 then some 0x0201
  else if src < 2 && (s.get F.PAT_SRC_ADDR_ADDR % 256 ≠ 0 || s.sourceRoom < 64) then some 0x0201
  else if src = 2 && s.wakeImage.isNone then some 0x021D
  else none

/-- The header checked (spec/03 R47).  A SECTION_COUNT of 0 or above 32 is refused as a directory fault, 0x0213: a DESIGN CHOICE, the
spec gives that case no code (assumption log 71). -/
def headerBad (h : List Byte) (room rev : Nat) (warm : Bool) : Option Bad :=
  let total := leAt h 8 4
  let n := leAt h 0x0C 2
  badIf (h.take 4 != ([0x4C, 0x4E, 0x54, 0x50] : List Byte) || leAt h 4 2 != 1) (.head 0x10 0) <|>
  badIf (leAt h 6 2 != 0x0512) (.head 0x11 6) <|>
  badIf (anyByte h 0x0E 2) (.head 0x02 0x0E) <|> badIf (anyByte h 0x1A 38) (.head 0x02 0x1A) <|>
  badIf (n = 0 || 32 < n) (.head 0x13 0x0C) <|>
  badIf (total < 1344 || 4194304 < total || (!warm && room < total)) (.head 0x12 8) <|>
  badIf (rev < leAt h 0x19 1) (.head 0x11 0x19)

/-- A directory entry (spec/03 R48). -/
def sectionAt (m : List Byte) (i : Nat) : Section :=
  let o := 64 + 64 * i
  ⟨leAt m o 2, leAt m (o + 2) 1, leAt m (o + 3) 1, leAt m (o + 4) 4, leAt m (o + 8) 4, bytesAt m (o + 16) 48, true⟩

/-- A directory entry against those before it (spec/03 R48, R51). -/
def entryBad (m : List Byte) (l : List Section) (i sigEnd : Nat) : Option Bad :=
  let x := l.getD i ⟨0, 0, 0, 0, 0, [], true⟩
  let o := 64 + 64 * i
  let before := l.take i
  let prev := (before.getLast?.map fun y => y.offset + y.length).getD sigEnd
  badIf (1 < x.flags || anyByte m (o + 12) 4) ⟨0x02, i, o⟩ <|>
  badIf (!sectionTypes.any (fun t => t.1 = x.type) || (x.type ≠ 0xF0 && x.inst ≠ 0) || 15 < x.inst ||
    before.any (fun y => y.type = x.type && y.inst = x.inst) || x.offset % 64 ≠ 0 || x.offset < prev || x.length = 0)
    ⟨0x13, i, o⟩

/-- The directory checked (spec/03 R47, R48, R51). -/
def dirBad (m : List Byte) (l : List Section) (total : Nat) : Option Bad :=
  let sigEnd := 64 + 64 * l.length + 256
  firstBad (List.range l.length) (fun i => entryBad m l i sigEnd) <|>
  badIf ((l.getLast?.map fun y => y.offset + y.length).getD 0 ≠ total) (.head 0x12 8) <|>
  badIf (sectionTypes.any fun t => t.2.1 && !l.any fun x => x.type = t.1) (.head 0x14 noOffset)

/-- The sections of a warm image, each at its place behind the manifest (spec/03 R72). -/
def warmPlaces : List Section → Nat → List Section
  | [], _ => []
  | x :: t, o => if x.warm then { x with offset := o } :: warmPlaces t (o + pad64 x.length)
    else { x with stored := false } :: warmPlaces t o

/-- Step 1 (spec/03 R47, R48): what was read and the sections, or a refusal. -/
def State.readSource (s : State) : Except Bad (List Byte × List Section) :=
  let warm := s.get F.PAT_CTRL_SRC = 2
  let h := s.sourceBytes 0 64
  match headerBad h s.sourceRoom (s.get ⟨0x40000000, 8, 8⟩) warm with
  | some b => .error b
  | none =>
    let n := leAt h 0x0C 2
    let manifest := 64 + 64 * n + 256
    let img := s.sourceBytes 0 (if warm then s.warmLen (s.wakeImage.getD 0) - 64 else leAt h 8 4)
    let l := (List.range n).map fun i => sectionAt img i
    match dirBad img l (leAt h 8 4) with
    | some b => .error b
    | none => .ok (img, if warm then warmPlaces l manifest else l)

/-- Step 2 (spec/03 R49, R50): signature, lifecycle, signer, rollback floor. -/
def State.manifestBad (s : State) (img : List Byte) : Option Bad :=
  let o := 64 + 64 * leAt img 0x0C 2
  let pub := bytesAt img o 96
  let own := s.ownerZero
  badIf (!Config.ecVerify pub (sha384 (img.take o)) (bytesAt img (o + 96) 96)) (.head 0x15 (o + 96)) <|>
  badIf (s.fuses.lifecycle = 3) (.head 0x06 o) <|>
  badIf (!own && sha384 pub != s.fuses.owner) (.head 0x16 o) <|>
  badIf (leAt img 0x10 4 < s.itemNum 0x10) (.head 0x18 0x10)

/-- The reserved bytes of a signature block are not judged: the loader ignores what no digest covers (spec/03 R48). -/
def findSection (l : List Section) (t : Nat) : Option (Nat × Section) :=
  (List.range l.length).findSome? fun i => match l[i]? with
    | some x => if x.type = t && x.stored then some (i, x) else none
    | none => none

/-- QUAD (spec/03 R52). -/
def quadBad (i o : Nat) (q : List Byte) : Option Bad :=
  let modes := (List.range 3).map fun k => leAt q (1 + k) 1
  badIf (4 ≤ leAt q 0 1 || anyByte q 6 10 || modes.any fun m => 128 ≤ m) ⟨0x02, i, o⟩ <|>
  badIf (modes.any (fun m => 5 < m % 8) || 1 < leAt q 4 1 || 1 < leAt q 5 1) ⟨0x01, i, o⟩ <|>
  badIf (1 < (modes.filter fun m => m % 8 = 2 && bit m 3).length) ⟨0x04, i, o⟩

/-- The blocks that are always present (spec/03 R53). -/
def alwaysPresent : List Nat := [0x01, 0x02, 0x03, 0x0E, 0x0F, 0x10, 0x11, 0x20, 0x21, 0x22, 0x23, 0x24, 0x25, 0x26]

/-- The blocks that trunks and quad modes need (spec/03 R53). -/
def neededBlocks (q : List Byte) : List Nat :=
  (if leAt q 0 1 = 0 then [] else [0x04, 0x05, 0x06, 0x07, 0x08, 0x09]) ++
    (List.range 3).flatMap fun k => match leAt q (1 + k) 1 % 8 with
      | 0 => [0x04]
      | 1 => [0x0D]
      | 2 => [0x0C]
      | 3 => [0x0D]
      | 4 => [0x0D]
      | _ => []

/-- BLOCKS (spec/03 R53). -/
def blocksBad (i o : Nat) (b q : List Byte) (iq oq : Nat) : Option Bad :=
  let m := leAt b 0 8
  badIf (anyByte b 8 8) ⟨0x02, i, o + 8⟩ <|>
  badIf (alwaysPresent.any fun n => !bit m n) ⟨0x01, i, o⟩ <|>
  badIf ((neededBlocks q).any fun n => !bit m n) ⟨0x03, iq, oq⟩

/-- Balls of a row, by column. -/
def rowBalls (row : Nat) (cols : List (Nat × Nat)) : List Nat :=
  cols.flatMap fun c => (List.range (c.2 + 1 - c.1)).map fun k => row * 49 + c.1 + k - 1

/-- The balls that a PINMUX entry may name: the signal balls that are no lane, supply, power-gate or Type-C ball (spec/23 R490 to
R492). -/
def signalBalls : List Nat := List.flatten [
  rowBalls 9 [(3, 9), (11, 17), (20, 21), (24, 25), (28, 29), (32, 33)], rowBalls 19 [(10, 41)],
  [20, 21, 22, 23].flatMap fun r => rowBalls r ((List.range 16).map fun t => (10 + 2 * t, 10 + 2 * t)),
  rowBalls 24 [(10, 15), (18, 22), (25, 32), (34, 37)], rowBalls 25 [(10, 13), (16, 20)],
  rowBalls 40 [(4, 15), (18, 25), (28, 35), (38, 38)]]

/-- The balls with an alternative function, and the SPL_IO balls (spec/23 R492). -/
def altBalls : List Nat := [940, 941, 942, 1987, 1988, 1989, 1990]
def splBalls : List Nat := rowBalls 40 [(28, 35)]

/-- The entries of PINMUX: (ball, FUNC, PAD). -/
def pinsOf (d : List Byte) : List (Nat × Nat × Nat) :=
  (List.range (leAt d 0 4)).map fun k => (leAt d (8 + 8 * k) 2, leAt d (10 + 8 * k) 2, leAt d (12 + 8 * k) 2)

/-- PINMUX (spec/03 R54, R70; spec/23 R492): two entries for one ball are two claimants (DEDUCED). -/
def pinmuxBad (i o : Nat) (d : List Byte) : Option Bad :=
  let n := leAt d 0 4
  let pins := pinsOf d
  badIf (d.length ≠ 8 + 8 * n) ⟨0x13, i, 64 + 64 * i⟩ <|> badIf (anyByte d 4 4) ⟨0x02, i, o + 4⟩ <|>
  firstBad (List.range n) fun k =>
    let (ball, func, pad) := pins.getD k (0, 0, 0)
    let at' := o + 8 + 8 * k
    badIf (64 ≤ pad || anyByte d (14 + 8 * k) 2) ⟨0x02, i, at'⟩ <|>
    badIf (!signalBalls.contains ball || 1 < func || (func = 1 && !altBalls.contains ball) || slice pad 2 2 = 3 ||
      (splBalls.contains ball && 2 ≤ slice pad 0 2)) ⟨0x01, i, at'⟩ <|>
    badIf ((pins.take k).any fun p => p.1 = ball) ⟨0x04, i, at'⟩

/-- SECURITY (spec/03 R55). -/
def securityBad (i o : Nat) (d : List Byte) : Option Bad :=
  badIf (4 ≤ leAt d 0 1 || 4 ≤ leAt d 1 1 || 8 ≤ leAt d 2 1 || anyByte d 3 5 || anyByte d 16 16) ⟨0x02, i, o⟩

/-- RING (spec/03 R56). -/
def ringBad (i o : Nat) (d : List Byte) : Option Bad :=
  let fixed := leAt d 3 1
  badIf (anyByte d 4 12) ⟨0x02, i, o + 4⟩ <|>
  badIf (2 < leAt d 0 1 || leAt d 1 1 < 2 || 16 < leAt d 1 1 || 1 < leAt d 2 1 ||
    (if leAt d 2 1 = 1 then fixed = 0 || 250 < fixed else fixed ≠ 0)) ⟨0x01, i, o⟩

/-- The structural sections checked; a LENGTH that is not the section's is a directory fault (DEDUCED). -/
def structureBad (img : List Byte) (l : List Section) : Option Bad :=
  let part (t len : Nat) (f : Nat → Nat → List Byte → Option Bad) : Option Bad :=
    match findSection l t with
    | none => none
    | some (i, x) => badIf (len ≠ 0 && x.length ≠ len) ⟨0x13, i, 64 + 64 * i⟩ <|> f i x.offset (x.bytes img)
  let q := ((findSection l 0x01).map fun x => (x.1, x.2.offset, x.2.bytes img)).getD (0, 0, [])
  part 0x01 16 quadBad <|> part 0x03 16 (fun i o d => blocksBad i o d q.2.2 q.1 q.2.1) <|> part 0x02 0 pinmuxBad <|>
  part 0x04 32 securityBad <|> part 0x05 16 ringBad

/-- The structure that the sections describe (spec/03 R52 to R56). -/
def structureOf (img : List Byte) (l : List Section) : Structure :=
  let d (t : Nat) : List Byte := ((findSection l t).map fun x => x.2.bytes img).getD []
  let q := d 0x01
  let c := d 0x04
  let r := d 0x05
  let none' := (findSection l 0x01).isNone
  { trunkEn := leAt q 0 1
    qmode := if none' then [5, 5, 5] else (List.range 3).map fun k => leAt q (1 + k) 1
    media := [leAt q 4 1, leAt q 5 1]
    present := if (findSection l 0x03).isNone then 2 ^ 64 - 1 else leAt (d 0x03) 0 8
    hostPaths := leAt c 0 1
    trunkEnc := leAt c 1 1
    secFlags := leAt c 2 1
    keySlots := leAt c 8 8
    sampleRate := leAt r 0 1
    playoutD := leAt r 1 1
    addrMode := leAt r 2 1
    fixedAddr := leAt r 3 1
    pins := pinsOf (d 0x02)
    priority := leAt img 0x18 1
    siteId := leAt img 0x14 4
    serial := leAt img 0x10 4 }

/-- One record of a register-image section: directory index, byte offset, ADDR, DATA. -/
structure Rec57 where
  idx : Nat
  off : Nat
  addr : Nat
  data : Nat
  deriving DecidableEq, Repr

/-- The records of a section's bytes. -/
def recordsOf (idx : Nat) : Nat → Nat → List Byte → List Rec57
  | 0, _, _ => []
  | n + 1, off, d => ⟨idx, off, leAt d 0 4, leAt d 4 4⟩ :: recordsOf idx n (off + 8) (d.drop 8)

/-- The target blocks of a section. -/
def targetsOf (t : Nat) : List Nat := ((sectionTypes.find? fun x => x.1 = t).map (·.2.2)).getD []

/-- The records of a section, in order. -/
def sectionRecords (img : List Byte) (l : List Section) (t : Nat) : List Rec57 :=
  match findSection l t with
  | some (i, x) =>
    let d := x.bytes img
    if (targetsOf t).isEmpty then [] else recordsOf i (leAt d 0 4) (x.offset + 8) (d.drop 8)
  | none => []

/-- A record that is not permitted (spec/03 R53, R57, R58), in a pattern of a PRESENT mask and a SAMPLE_RATE. -/
def recordBad (present rate : Nat) (targets : List Nat) (r : Rec57) : Option Bad :=
  let id := blockId r.addr
  badIf (r.addr % 4 ≠ 0 || !targets.contains id || r.addr % 0x100000 < 0x10 || !assigned r.addr || beyondRate rate r.addr ||
    (0x40710000 ≤ r.addr && r.addr < 0x4071C000) ||
    ((r.addr = R.ALT_BASTE_CTRL || r.addr = R.ALT_ALARM_CTRL) && r.data % 2 = 1)) ⟨0x1A, r.idx, r.off⟩ <|>
  badIf (!bit present id) ⟨0x03, r.idx, r.off⟩

/-- A register-image section checked (spec/03 R53, R57): with every target block absent it is refused whatever it holds, with some of
them by its records (DEDUCED, assumption log 38). -/
def imageBad (img : List Byte) (l : List Section) (present rate t : Nat) : Option Bad :=
  match findSection l t with
  | none => none
  | some (i, x) =>
    let d := x.bytes img
    badIf (!(targetsOf t).any fun b => bit present b) ⟨0x03, i, x.offset⟩ <|>
    badIf (d.length ≠ 8 + 8 * leAt d 0 4) ⟨0x13, i, 64 + 64 * i⟩ <|> badIf (anyByte d 4 4) ⟨0x02, i, x.offset + 4⟩ <|>
    firstBad (sectionRecords img l t) (recordBad present rate (targetsOf t))

/-- The last value that records give a register. -/
def lastValue (rs : List Rec57) (a : Nat) : Option Nat := (rs.reverse.find? fun r => r.addr = a).map (·.data)

/-- The commits that the TUNNELS records make: entry words by index (spec/03 R70, spec/06 R157, R160). -/
def tunnelsOf : List Rec57 → Nat → List (Nat × Word) → List (Nat × List Nat) → List (Nat × List Nat)
  | [], _, _, live => live
  | r :: t, sel, sh, live =>
    if r.addr = R.TUN_SHADOW_SEL then tunnelsOf t (slice r.data 0 10) sh live
    else match arr r.addr (R.TUN_SHADOW 0) 4 4 with
      | some k => tunnelsOf t sel (insertKey (4 * sel + k) (BitVec.ofNat 32 r.data) sh) live
      | none =>
        if r.addr = R.TUN_COMMIT then
          let i := slice r.data 0 10
          let word (k : Nat) : Nat := (getKey (if k = 3 then 0x10004 else 0) (4 * i + k) sh).toNat
          tunnelsOf t sel sh (if bit r.data 17 then eraseKey i live else insertKey i [word 0, word 1, word 2, word 3] live)
        else tunnelsOf t sel sh live

/-- The retransmit reserves of the TUNNELS section (spec/07 R172). -/
def State.retxOf (s : State) (rs : List Rec57) : List (Nat × Nat) :=
  (tunnelsOf rs (s.get F.TUN_SHADOW_SEL_INDEX) s.bolt.shadow []).filterMap fun x =>
    let e := Entry.reset.withWords x.2
    if e.service = svReliable && e.source then some (x.1, e.window * cellsOf e.maxLen) else none

/-- The sum of the reserves and the retired cells (spec/03 R71): a register that no record names keeps its value. -/
def State.reserveSum (s : State) (cls tun : List Rec57) : Nat :=
  let v (a : Nat) : Nat := slice ((lastValue cls a).getD (s.rd a).toNat) 0 18
  ((List.range 96).map fun i => v (R.SWB_RES i)).sum + ((List.range 64).map fun j => v (R.SWB_LAND j)).sum +
    ((s.retxOf tun).map (·.2)).sum + s.itemNum 0x40

/-- The lanes that trunks and quads claim (spec/03 R70). -/
def Structure.lanes (x : Structure) : Nat :=
  (if bit x.trunkEn 0 then 0xF else 0) + (if bit x.trunkEn 1 then 0xF0 else 0) +
    ((List.range 3).map fun q => if x.qmode.getD q 5 % 8 = 5 then 0 else 0xF * 2 ^ (8 + 4 * q)).sum

/-- A night-test step that holds lanes another function claims (spec/03 R70, spec/21 R456).  Two steps that hold one lane are not two
claimants, since the night test is one function: a DESIGN CHOICE (assumption log 72). -/
def State.holdBad (s : State) (x : Structure) (night : List Rec57) : Option Bad :=
  firstBad (List.range 32) fun i =>
    let word (w : Nat) : Nat := (lastValue night (R.NTS_STEP i w)).getD (s.ntWord i w)
    match night.find? fun r => r.addr = R.NTS_STEP i 2 with
    | none => none
    | some r => badIf (slice (word 0) 0 4 = nkPrbs && bit (word 0) 4 && slice (word 2) 0 20 &&& x.lanes != 0) ⟨0x04, r.idx, r.off⟩

/-- The size of the warm image (spec/03 R72). -/
def warmSize (l : List Section) : Nat :=
  64 + 64 + 64 * l.length + 256 + ((l.filter Section.warm).map fun x => pad64 x.length).sum

/-- Whether the pattern keeps the path of the token's holder (spec/03 R69). -/
def State.keepsHolder (s : State) (x : Structure) : Bool :=
  match s.get F.TOP_HOST_TOKEN_OWNER with
  | 1 => bit x.hostPaths 0
  | 2 => bit x.hostPaths 1 && x.qmode.any fun m => m % 8 = 2 && bit m 3
  | _ => true

/-- The spool sections. -/
def spoolTypes : List Nat := [0x20, 0x21, 0x22, 0x23]

/-- Step 3 (spec/03 R51 to R60, R69 to R72). -/
def State.sectionsBad (s : State) (img : List Byte) (l : List Section) (full : Bool) : Option Bad :=
  let x := structureOf img l
  let recs (t : Nat) : List Rec57 := sectionRecords img l t
  let warm := s.get F.PAT_CTRL_SRC = 2
  firstBad (List.range l.length) (fun i => match l[i]? with
    | some y => badIf (y.stored && sha384 (y.bytes img) != y.digest) ⟨0x17, i, y.offset⟩
    | none => none) <|>
  structureBad img l <|>
  firstBad (sectionTypes.map (·.1)) (fun t => if (targetsOf t).isEmpty then none else imageBad img l x.present x.sampleRate t) <|>
  badIf (16384 < (spoolTypes.map fun t => (recs t).length).sum) (.head 0x07 noOffset) <|>
  s.holdBad x (recs 0x16) <|>
  badIf (196608 < s.reserveSum (recs 0x10) (recs 0x11)) (.head 0x07 noOffset) <|>
  badIf (!warm && 114688 < warmSize l) (.head 0x1C noOffset) <|>
  badIf (full && !s.keepsHolder x) (.head 0x1F noOffset)

end Sys2Proof.Machine
end

