-- ==== Sys2Proof/Machine/Pattern.lean ====
section
/-! DEFINITION. The pattern load (spec/03 R58 to R68, R72 to R75): its start and refusals, its eight steps, abandonment, the pause
for the seam. -/

namespace Sys2Proof.Machine

/-- Base address of PAT. -/
abbrev bPat : Nat := 0x40100000

/-- The loader's state changed. -/
def State.mapPat (s : State) (f : Loader → Loader) : State := { s with bolt.pat := f s.bolt.pat }

/-- STEP. -/
def State.patStepNo (s : State) : Nat := s.get F.PAT_STATUS_STEP

/-- A pattern-load progress record (spec/03 R75), of a check-only load too. -/
def State.patProgress (s : State) (sect reason : Nat) : State :=
  s.boltProgress 0 2 0x02 (List.flatten [leBytes 1 1, leBytes 1 s.patStepNo, leBytes 1 (s.get F.PAT_CTRL_SRC), leBytes 1 sect,
    leBytes 4 (leAt s.bolt.pat.image 0x10 4), bytesAt s.bolt.pat.digest 0 8, leBytes 2 reason])

/-- A step is completed (spec/03 R63, R75). -/
def State.toStep (s : State) (n : Nat) : State := ((s.set F.PAT_STATUS_STEP n).irq bPat 1).patProgress 0xFF 0

/-- A unit turned OFF at once, whatever it does (spec/03 R58, R66). -/
def State.forceOff (s : State) (u : HUnit) : State :=
  match u with
  | .lanePort p => (((if s.portUp p then s.leftUp p 9 else s.dropKeys p).portOff p)).set u.enable 0
  | u => (if s.get u.state = 2 || (u = .altBaste && s.get u.state = 1) then s.turnOff u else s).sets [(u.state, 0), (u.stopping, 0), (u.enable, 0)]

/-- Every bolt-die unit OFF, but PAT, whose load it is, and those kept (spec/03 R58, R66). -/
def State.allOff (s : State) (keep : List HUnit) : State :=
  s.each (allUnits.filter fun u => !isSpool u.ctrl && u != .pat && !keep.contains u) fun u s => s.forceOff u

/-- The load is over: nothing runs. -/
def State.patEnd (s : State) : State :=
  (s.mapPat fun x => { x with
    active := false, abandon := false, queued := [], opened := false, begun := false, todo := [], flight := [] }).sets
    [(F.PAT_STATUS_PAUSED, 0), (F.PAT_STATUS_STOPPING, 0)]

/-- The structure is given up where the load had opened the ring or begun step 5 (spec/03 R64, R66). -/
def State.dropStructure (s : State) (keep : List HUnit) : State :=
  let x := s.bolt.pat
  if x.opened || x.begun || decide (5 ≤ s.patStepNo) then
    ((s.allOff keep).mapPat fun x => { x with holds := false }).set F.PAT_STATUS_STRUCTURE 0
  else s

/-- A load is refused (spec/03 R66, R74, R75); a warm load that fails before step 3 has an invalid image. -/
def State.loadFails (s : State) (b : Bad) (keep : List HUnit) : State :=
  let warm := s.get F.PAT_CTRL_SRC = 2 && decide (s.patStepNo < 3)
  let code := if warm then 0x1D else b.code
  let s1 := (s.dropStructure keep).set F.PAT_ERR_OFFSET_OFFSET b.off
  let s2 := s1.patProgress 0xFF (0x200 + code)
  let s3 := (s2.patEnd).refuseUnit .pat code b.detail
  let s4 := if warm then (s3.mapPwr fun x => { x with cold := x.waking }).irq bPat 3 else s3
  s4.releaseStand

/-- A load starts, or is refused at once (spec/03 R61, R63). -/
def State.patStart (s : State) : State :=
  let s0 := s.sets [(F.PAT_ERR_OFFSET_OFFSET, noOffset), (F.PAT_UNIT_REASON_REASON, 0), (F.PAT_UNIT_REASON_DETAIL, 0xFFFF)]
  match s0.startRefused with
  | some c => s0.refuseUnit .pat (c % 256) (if c = 0x0205 then 0x0011 else 0xFFFF)
  | none =>
    let total := leAt (s0.sourceBytes 0 16) 8 4
    (s0.mapPat fun x => { x with
      active := true, image := [], sections := [], queued := [], abandon := false, opened := false, begun := false
      total := total, digest := [], unowned := false }).sets
      [(F.PAT_STATUS_STATE, 1), (F.PAT_STATUS_STEP, 0), (F.PAT_STATUS_PAUSED, 0), (F.PAT_STATUS_STOPPING, 0)]

/-- ENABLE is written 0 (spec/03 R66): before step 5 begins the load ends at once, afterwards at the next boundary; with no load
running the unit goes OFF. -/
def State.patStop (s : State) : State :=
  let x := s.bolt.pat
  if x.active then
    if x.opened || x.begun || decide (5 ≤ s.patStepNo) then
      (s.mapPat fun x => { x with abandon := true }).set F.PAT_STATUS_STOPPING 1
    else ((s.patProgress 0xFF 0).endLoadEarly).releaseStand
  else s.set F.PAT_STATUS_STATE 0

/-- A write of PAT_CTRL (spec/02 R35; spec/03 R61, R66). -/
def State.patCtrl (s : State) (who : Requester) (v : Word) : State :=
  let was := s.on F.PAT_CTRL_ENABLE
  s.command who R.PAT_CTRL v fun s =>
    if !was && s.on F.PAT_CTRL_ENABLE then s.patStart else if was && !s.on F.PAT_CTRL_ENABLE then s.patStop else s

/-- PAT_LOAD_START (spec/03 R61, R63). -/
def execPatLoadStart (who : Requester) (value : Word) (s : State) : Step := .next (s.patCtrl who (setBits value 0 1 1))

/-- PAT_ABANDON (spec/03 R66). -/
def execPatAbandon (who : Requester) (value : Word) (s : State) : Step := .next (s.patCtrl who (setBits value 0 1 0))

/-- The bare plan (spec/09 R214): no bank is in force, nothing is pending. -/
def State.barePlan (s : State) : State :=
  let s1 := s.cancelChanges
  let s2 : State := { s1 with bolt.alt := { s1.bolt.alt with checked := [false, false, false], preempt := none, resend := [] } }
  s2.sets [(F.ALT_SEWN_PLAN_PLAN, 0), (F.ALT_ALARM_STATUS_IN_FORCE, 0), (F.ALT_BASTE_STATUS_PREV, 0), (F.SCH_STATUS_PREEMPT, 0)]

/-- The buffer, its queues and the schedulers emptied; retired cells stay out (DEDUCED). -/
def State.clearSwitch (s : State) : State :=
  let w := s.bolt.swb
  let fresh : Switch := { Switch.reset with
    nextId := w.nextId, retired := w.retired, failing := w.failing, badRows := w.badRows, injectBits := w.injectBits
    freeCells := w.retired.foldl (fun l c => dropCell c l) [(0, 196608)] }
  let s1 : State := { s with
    bolt.swb := fresh, bolt.sch := { Sched.reset with now := s.bolt.sch.now, tokNext := s.bolt.sch.tokNext }
    bolt.ports := s.bolt.ports.map fun (p : PortSt) => { p with ing := none, onWire := none, wireSent := 0, stall := List.replicate 8 none } }
  let s2 := s1.each (s1.bolt.tun.map (·.1)) fun i s => s.mapEntry i fun e => { e with retx := [], resent := [], waiting := [], heldCounted := false, holds := [] }
  let s3 := s2.each (List.range 96) fun i s => s.set (F.SWB_OCC_CELLS i) 0
  s3.each (List.range 64) fun j s => s.set (F.SWB_LAND_HELD_CELLS j) 0

/-- The structural sections written (spec/03 R52 to R56; spec/08 R499 follows at the end; spec/15 R341; spec/19 R405; spec/22 R468;
spec/23 R492). -/
def State.applyStructure (s : State) : State :=
  let x := s.bolt.pat.parsed
  let leaves (p : Nat) : Bool := decide (s.qmode (p / 2) = 0) && decide (x.qmode.getD (p / 2) 5 % 8 ≠ 0)
  let s1 := s.each ([0, 1, 2, 3, 4, 5].filter leaves) fun p s => s.altEnd p
  let s2 := if s1.bolt.bootLink then { s1.linkChange 2 false 0 0 0 with bolt.bootLink := false } else s1
  let s3 := if bit x.secFlags 2 && !s2.on F.KEY_STATUS_DEBUG then s2.debugOpen else s2
  let spl := x.pins.filter fun p => splBalls.contains p.1
  let s4 := { s3 with spool.splPins := spl }.mapPat fun y => { y with inForce := x, holds := true }
  let s5 := s4.each [0, 1, 2] fun q s => s.set (F.PCBQ_STATUS_UPSTREAM q) (b2n (x.qmode.getD q 5 % 8 = 2 && bit (x.qmode.getD q 5) 3))
  s5.each [0, 1, 2, 3, 4, 5, 6, 7] fun p s =>
    s.set (F.LANE_PORT_CTRL_FALLBACK p) (if p < 2 then 0 else b2n (bit (x.qmode.getD ((p - 2) / 2) 5) 4))

/-- The unit whose ENABLE guards the RWE fields of a register. -/
def ownerUnit (a : Nat) : Option HUnit := match findReg a with
  | some (r, ix) => unitAt (r.owner ix)
  | none => none

/-- A word would change an RWE field of a register, and what the word becomes where RWE fields keep their values. -/
def State.rweChange (s : State) (a : Nat) (v : Word) : Word × Bool := match findReg a with
  | some (r, _) => r.fields.foldl (writeField true v) (s.rd a, false)
  | none => (v, false)

/-- A word as written with every field accepted. -/
def State.rweTaken (s : State) (a : Nat) (v : Word) : Word := match findReg a with
  | some (r, _) => (r.fields.foldl (writeField false v) (s.rd a, false)).1
  | none => v

/-- A record of a gate that is ON (spec/03 R60; spec/17 R381): changed RWE fields go to the pending copy; ENABLE stays, and ON of
a gate commanded on: a reload drops no supply. -/
def State.gateRecord (s : State) (n : Fin 7) (a : Nat) (v : Word) : State :=
  let v' := if a = R.PGT_GATE_CTRL n then v ||| 1 ||| (s.rd a &&& 2) else v
  let (w, changed) := s.rweChange a v'
  let s1 := if changed then
      { s with spool.gatePending := insertKey a (s.rweTaken a v') s.spool.gatePending }.set (F.PGT_GATE_STATUS_PEND n) 1
    else s
  let s2 := s1.wr a w
  if s.on (F.PGT_GATE_CTRL_ON n) = s2.on (F.PGT_GATE_CTRL_ON n) then s2 else s2.followCommand n

/-- An enable request queued, once per unit (spec/03 R58). -/
def State.queueEnable (s : State) (idx : Nat) (u : HUnit) : State :=
  s.mapPat fun x => { x with queued := (x.queued.filter fun y => y.2 != u) ++ [(idx, u)] }

/-- A record of a unit's CTRL: ENABLE is stored as 0 and queued (spec/03 R58).  A later record with ENABLE 0 withdraws a request
that waits: a DESIGN CHOICE, the spec says nothing of it (assumption log 73). -/
def State.ctrlRecord (s : State) (idx : Nat) (u : HUnit) (v : Word) : State :=
  let s1 := s.storeWrite u.ctrl (setBits v 0 1 0)
  if getBits v 0 1 = 1 then s1.queueEnable idx u else s1.mapPat fun x => { x with queued := x.queued.filter fun y => y.2 != u }

/-- A register written by the loader; a commit takes effect at once unless AT_CYCLE asks for a cycle (spec/06 R157). -/
def State.plainRecord (s : State) (a : Nat) (v : Word) : State :=
  match halfOf a with
  | .lo => s.holdLo .hub a v
  | .hi => (s.takeLo .hub (a - 4)).writeReg .hub a v
  | .none =>
    let s1 := s.writeReg .hub a v
    if a = R.TUN_COMMIT && getBits v 16 1 = 0 then s1.commitNow (getBits v 0 10) else s1

/-- A spool unit that is ON is disabled to be rewritten (spec/03 R60). -/
def State.spoolStop (s : State) (idx : Nat) (u : HUnit) : State :=
  (match u with
    | .tcpPort _ => (s.set u.enable 0).unitStops u
    | u => s.forceOff u).queueEnable idx u

/-- One record written (spec/03 R57, R58, R60). -/
def State.applyRecord (s : State) (r : Rec57) : State :=
  let v := BitVec.ofNat 32 r.data
  let off (s : State) : State := match unitAt r.addr with
    | some u => s.ctrlRecord r.idx u v
    | none => s.plainRecord r.addr v
  match ownerUnit r.addr <|> unitAt r.addr with
  | none => off s
  | some (.gate n) => if s.isOn (.gate n) then s.gateRecord n r.addr v else off s
  | some u =>
    if !isSpool r.addr || !s.on u.enable then off s
    else
      let isCtrl := decide (u.ctrl = r.addr)
      let stops := isCtrl && getBits v 0 1 = 0
      if (s.rweChange r.addr v).2 || stops then off (s.spoolStop r.idx u)
      else if isCtrl then s.storeWrite r.addr v
      else s.plainRecord r.addr v

/-- The records of step 5 in order, each section opened by a mark with ADDR 0 (spec/03 R63). -/
def State.allRecords (s : State) : List (Nat × Nat × Nat) :=
  let x := s.bolt.pat
  applyOrder.flatMap fun t => match findSection x.sections t with
    | none => []
    | some (i, _) => (i, 0, 0) :: (sectionRecords x.image x.sections t).map fun r => (r.idx, r.addr, r.data)

/-- Records written in order, a progress record as each section starts (spec/03 R63, R75), and those left: a spool record waits
while the seam is down (R68), and where `landed` counts them only so many reach the spool die. -/
def State.writeRecords (s : State) (landed : Option Nat) : List (Nat × Nat × Nat) → State × List (Nat × Nat × Nat)
  | [] => (s, [])
  | (i, a, v) :: t =>
    if a = 0 then (s.patProgress i 0).writeRecords landed t
    else if isSpool a then
      if !s.seamUp || landed = some 0 then (s, (i, a, v) :: t)
      else (s.applyRecord ⟨i, 0, a, v⟩).writeRecords (landed.map (· - 1)) t
    else (s.applyRecord ⟨i, 0, a, v⟩).writeRecords landed t

/-- The retransmit reserves of a structure in force (spec/07 R172). -/
def State.setRetx (s : State) (rs : List (Nat × Nat)) : State := { s with bolt.swb.retxReserve := rs }

/-- Step 5 begins (spec/03 R58, R63; spec/07 R172; spec/09 R214): every unit's ENABLE is held at 0, KEY's too, which stays as it is
otherwise, since it is enabled once and by no record (spec/19 R409; assumption log 39); the structural sections are written. -/
def State.beginApply (s : State) : State :=
  let k := s.on HUnit.key.enable
  let s1 := (s.allOff [.key]).mapPat fun x => { x with begun := true, keyEnable := k }
  let s2 := (s1.set HUnit.key.enable 0).barePlan.clearSwitch.applyStructure
  let x := s2.bolt.pat
  let rs := s2.retxOf (sectionRecords x.image x.sections 0x11)
  (s2.setRetx rs).mapPat fun y => { y with todo := s2.allRecords }

/-- The records that were on their way are written (spec/03 R68): they have reached the spool die, or are written again. -/
def State.landFlight (s : State) : State :=
  let l := s.bolt.pat.flight
  let s1 := l.foldl (fun s r => s.applyRecord ⟨r.1, 0, r.2.1, r.2.2⟩) s
  { s1.mapPat fun x => { x with flight := [] } with
    bolt.ctl.wrSent := l.foldl (fun w r => w.erase r.2.1) s1.bolt.ctl.wrSent }

/-- Step 5 goes on (spec/03 R58 to R60, R63, R68): at most 16 writes are on their way at once (spec/02 R45). -/
def State.applyOn (s : State) (landed : Option Nat) : State :=
  let s0 := if s.seamUp then s.landFlight else s
  let (s1, rest) := s0.writeRecords landed s0.bolt.pat.todo
  if rest.isEmpty then
    let s2 := (s1.mapPat fun x => { x with todo := [] }).set HUnit.key.enable (b2n s1.bolt.pat.keyEnable)
    (s2.refreshBook (List.range 12)).toStep 5
  else if !s1.seamUp then (s1.mapPat fun x => { x with todo := rest }).set F.PAT_STATUS_PAUSED 1
  else
    let sent := (rest.takeWhile fun r => isSpool r.2.1).take 16
    { s1.mapPat fun x => { x with todo := rest.drop sent.length, flight := sent } with
      bolt.ctl.wrSent := s1.bolt.ctl.wrSent ++ sent.map fun r => r.2.1 }

/-- PAT_RESUME (spec/03 R68): the writes that did not reach the spool die are written again, then the load goes on. -/
def execPatResume (s : State) : Step :=
  .next (s.ifBolt fun s =>
    if s.on F.PAT_STATUS_PAUSED && s.seamUp then (s.set F.PAT_STATUS_PAUSED 0).landFlight else s)

/-- Step 5 waits for the end of the opening it announces where the node is joined (spec/03 R64; spec/06 R159; spec/10 R251; spec/13
R306).  A node is joined where RNG is ON and a trunk UP, whatever JOIN reads: a DESIGN CHOICE (assumption log 74). -/
def State.patStep5 (s : State) (landed : Option Nat) : State :=
  let x := s.bolt.pat
  if x.begun then s.applyOn landed
  else if !x.opened && s.isOn .rng && (s.portUp 0 || s.portUp 1) then
    let s1 := if s.bolt.rng.opening.isSome then s else s.startOpening 2
    s1.deliveryRecords.mapPat fun y => { y with opened := true }
  else if x.opened && s.bolt.rng.opening.isSome then s
  else ((if x.opened then s else s.ledgerRecords.deliveryRecords).beginApply).applyOn landed

/-- The bytes of the warm image (spec/03 R72), COMMIT 0. -/
def warmImage (img : List Byte) (l : List Section) (seq : Nat) : List Byte :=
  let manifest := img.take (64 + 64 * l.length + 256)
  let body := manifest ++ (l.filter Section.warm).flatMap fun x => x.bytes img ++ List.replicate (pad64 x.length - x.length) 0
  List.flatten [([0x4C, 0x4E, 0x54, 0x57] : List Byte), leBytes 4 seq, leBytes 4 (64 + body.length), leBytes 4 0, List.replicate 48 0, body]

/-- The slot that the next warm image takes, and its SLOT_SEQ (spec/03 R73). -/
def State.nextImage (s : State) : Nat × Nat := match s.wakeImage with
  | some k => (1 - k, (s.warmSeq k + 1) % 2 ^ 32)
  | none => (0, 1)

/-- A load from the wake image. -/
def State.warmLoad (s : State) : Bool := decide (s.get F.PAT_CTRL_SRC = 2)

/-- The warm image issued to NVS at the end of step 6; a warm load writes none (DEDUCED). -/
def State.issueWarm (s : State) : State :=
  if s.warmLoad then s
  else
    let (k, q) := s.nextImage
    s.nvsPut (.warm (warmAddr k) (warmImage s.bolt.pat.image s.bolt.pat.sections q))

/-- The raised rollback floor, where SECURITY asks for it, and COMMIT issued at the end of step 7 (spec/03 R63, R73). -/
def State.issueCommit (s : State) : State :=
  if s.warmLoad then s
  else
    let (k, q) := s.nextImage
    let floor := s.bolt.pat.parsed.serial
    let s1 := if bit s.bolt.pat.parsed.secFlags 0 then s.nvsPut (.identity 0x10 (leBytes 4 floor ++ leBytes 4 0)) else s
    s1.nvsPut (.warm (warmAddr k + 12) (leBytes 4 q))

/-- A warm-image write waits in NVS. -/
def NvsOp.isWarm : NvsOp → Bool
  | .warm .. => true
  | _ => false
def State.warmWaits (s : State) : Bool := s.spool.nvsQueue.any NvsOp.isWarm

/-- The loader's waiting NVS writes withdrawn; a write in progress finishes (spec/20 R449). -/
def State.withdraw (s : State) : State :=
  { s with spool.nvsQueue := s.spool.nvsQueue.take 1 ++ ((s.spool.nvsQueue.drop 1).filter fun op => !op.isWarm && (match op with
    | .identity o _ => o != 0x10
    | _ => true)) }

/-- Step 6 (spec/03 R58, R63): one queued enable request carried out. -/
def State.carryOut (s : State) (u : HUnit) : State := ((s.set u.enable 1).unitStarts u).endCheck u

/-- The queued enable requests in order and those left: the first refusal ends them, with its directory index and unit; a spool
unit's waits while the seam is down (spec/03 R68). -/
def State.enableAll (s : State) : List (Nat × HUnit) → State × List (Nat × HUnit) × Option (Nat × HUnit)
  | [] => (s, [], none)
  | (i, u) :: t =>
    if isSpool u.ctrl && !s.seamUp then (s, (i, u) :: t, none)
    else
      let s1 := s.carryOut u
      if s1.get u.state = 3 then (s1, t, some (i, u)) else s1.enableAll t

/-- Step 6 (spec/03 R63, R68): it ends as the warm image is issued, for which the seam must be up. -/
def State.patStep6 (s : State) : State :=
  let q := s.bolt.pat.queued
  match s.enableAll ((q.filter fun x => !isSpool x.2.ctrl) ++ q.filter fun x => isSpool x.2.ctrl) with
  | (s1, rest, none) =>
    if rest.isEmpty && (s1.seamUp || s1.warmLoad) then (s1.toStep 6).issueWarm
    else (s1.mapPat fun x => { x with queued := rest }).set F.PAT_STATUS_PAUSED 1
  | (s1, _, some (i, u)) =>
    (s1.sets [(F.PAT_UNIT_REASON_REASON, s1.get u.reason), (F.PAT_UNIT_REASON_DETAIL, s1.get u.detail)]).loadFails
      ⟨0x1B, i, noOffset⟩ [u]

/-- Step 8 (spec/03 R63, R64; spec/18 R391, R393): the load is committed.  Its progress record goes to NVS behind COMMIT, the last
write of the image: a DESIGN CHOICE between R73's last NVS write and R75's record at each transition (assumption log 75).
PAT_FWDATA_OFFSET counts from the start of the source device, so that it includes PAT_SRC_ADDR: a DESIGN CHOICE (assumption log
76). -/
def State.patStep8 (s : State) (us : Nat) : State :=
  let x := s.bolt.pat
  let p := x.parsed
  let src := s.get F.PAT_SRC_ADDR_ADDR
  let fw := if s.warmLoad then x.fw
    else (x.sections.filter fun y => y.type = 0xF0).map fun y => (y.inst, src + y.offset, y.length)
  let s1 := s.each (List.range 12) fun i s => s.set (F.PAT_DIGEST_WORD i) (leAt x.digest (4 * i) 4)
  let s2 := s1.sets [(F.PAT_SERIAL_SERIAL, p.serial), (F.PAT_SITE_SITE_ID, p.siteId), (F.PAT_STATUS_UNOWNED, b2n x.unowned),
    (F.PAT_STATUS_STRUCTURE, if s.warmLoad then 2 else 1), (F.PAT_STATUS_STATE, 2), (F.PAT_REFUSE_REASON, 0), (F.PAT_REFUSE_DETAIL, 0xFFFF)]
  let s3 := (s2.toStep 8).patEnd.mapPat fun y => { y with committed := true, fw := fw }
  ((s3.irq bPat 0).rejoin).pwrCommitted us

/-- An abandonment takes effect (spec/03 R66). -/
def State.loadAbandoned (s : State) : State :=
  let s1 := (s.dropStructure []).withdraw
  ((s1.patProgress 0xFF 0).patEnd.sets [(F.PAT_STATUS_STATE, 0), (F.PAT_CTRL_ENABLE, 0)]).releaseStand

/-- COMMIT is being written or has been: step 8 can no longer be prevented. -/
def State.commitWritten (s : State) : Bool :=
  let floor := s.spool.nvsQueue.any fun op => match op with
    | .identity o _ => o == 0x10
    | _ => false
  decide (s.patStepNo = 7) && !s.warmLoad && (!s.warmWaits || (bit s.bolt.pat.parsed.secFlags 0 && !floor))

/-- Steps 1 to 4. -/
def State.patEarly (s : State) (readFails : Bool) : State :=
  let x := s.bolt.pat
  let full := !s.on F.PAT_CTRL_CHECK_ONLY
  if readFails && s.get F.PAT_CTRL_SRC ≤ 1 && s.patStepNo < 3 then s.loadFails ⟨0x1E, 0xFFFF, noOffset⟩ []
  else match s.patStepNo with
    | 0 => match s.readSource with
      | .error b => s.loadFails b []
      | .ok (img, l) => (s.mapPat fun x => { x with image := img, sections := l }).toStep 1
    | 1 => match s.manifestBad x.image with
      | some b => s.loadFails b []
      | none =>
        let d := sha384 (x.image.take (64 + 64 * x.sections.length))
        let un := s.ownerZero && decide (s.fuses.lifecycle ≤ 1)
        (s.mapPat fun x => { x with digest := d, unowned := un }).toStep 2
    | 2 => match s.sectionsBad x.image x.sections full with
      | some b => s.loadFails b []
      | none =>
        let s1 := (s.mapPat fun y => { y with parsed := structureOf x.image x.sections }).toStep 3
        if full then s1
        else (s1.patEnd.sets [(F.PAT_STATUS_STATE, 2), (F.PAT_REFUSE_REASON, 0), (F.PAT_REFUSE_DETAIL, 0xFFFF)]).irq bPat 0
    | _ => (s.extendMr 2 x.digest).toStep 4

/-- The work of the next step ends (spec/03 R63 to R68).  The load pauses where its next write needs the seam (R68); progress records
do not pause it, FLT holds them (spec/02 R44). -/
def State.patNext (s : State) (us : Nat) (readFails : Bool) (landed : Option Nat) : State :=
  let x := s.bolt.pat
  if !x.active then s
  else if x.abandon && !s.commitWritten then s.loadAbandoned
  else if s.on F.PAT_STATUS_PAUSED then s
  else match s.patStepNo with
    | 4 => s.patStep5 landed
    | 5 => s.patStep6
    | 6 =>
      if s.warmWaits then s
      else if !s.seamUp && !s.warmLoad then s.set F.PAT_STATUS_PAUSED 1
      else (s.toStep 7).issueCommit
    | 7 => if s.warmWaits then s else s.patStep8 us
    | _ => s.patEarly readFails

/-- PAT_STEP_COMPLETE (spec/03 R63). -/
def execPatStepComplete (us : Nat) (r : StepReport) (s : State) : Step :=
  .next (s.ifBolt fun s => s.patNext us r.readFails r.landed)

end Sys2Proof.Machine
end

