-- ==== Sys2Proof/Machine/Boot.lean ====
section
/-! DEFINITION. The boot ROM (spec/22 R465 to R468, R473): fetch, checks, measurement, jump, halt, delivery by an external
processor; the warm load it starts at a wake (spec/03 R74). -/

namespace Sys2Proof.Machine

/-- STAGE set. -/
def State.bootStage (s : State) (n : Nat) : State := s.set F.TOP_BOOT_STATUS_STAGE n

/-- The ROM halts (spec/22 R466, R473): ERROR, the fault record, hart 0 parked.  ARG1 is the STAGE reached before (DEDUCED). -/
def State.bootHalt (s : State) (err : Nat) : State :=
  let st := s.get F.TOP_BOOT_STATUS_STAGE
  let s1 := (s.boltFault 0x01 0x0102 err st (s.get F.TOP_BOOT_STATUS_BOOT_SRC)).set F.TOP_BOOT_STATUS_ERROR err
  { s1.bootStage 15 with bolt.ctl.hartsOn := clrBit s1.bolt.ctl.hartsOn 0 }

/-- LENGTH and ENTRY of a stage-1 image. -/
def imageLength (h : List Byte) : Nat := leAt h 8 4
def imageEntry (h : List Byte) : Nat := leAt h 0x0C 4

/-- The header of a stage-1 image is invalid (spec/22 R465). -/
def imageHeaderBad (h : List Byte) : Bool :=
  h.take 4 != ([0x4C, 0x4E, 0x54, 0x53] : List Byte) || leAt h 4 2 != 1 || leAt h 6 2 != 0x0512 ||
    decide (imageLength h = 0 ∨ 261888 < imageLength h ∨ imageEntry h % 4 ≠ 0 ∨ 64 + imageLength h ≤ imageEntry h) || anyByte h 0x10 48

/-- A stage-1 image judged (spec/22 R465, R466; spec/03 R50): 2 header invalid, 3 signature or signer refused. -/
def State.imageBad (s : State) (img : List Byte) : Option Nat :=
  let n := 64 + imageLength img
  let pub := bytesAt img n 96
  if imageHeaderBad img || img.length < n + 192 then some 2
  else if !Config.ecVerify pub (sha384 (img.take n)) (bytesAt img (n + 96) 96) then some 3
  else if s.fuses.lifecycle = 3 || (!s.ownerZero && sha384 pub != s.fuses.owner) then some 3
  else none

/-- At a STANDBY wake the ROM starts a load of the wake image (spec/03 R74; spec/18 R391); where it is refused at once a cold load
is awaited (DEDUCED). -/
def State.bootWarm (s : State) : State :=
  if s.spool.pwr.waking then
    let s1 := s.patCtrl (.hart 0) 9
    if s1.get F.PAT_STATUS_STATE = 3 then s1.mapPwr fun x => { x with cold := true } else s1
  else s

/-- Steps 4 and 5 with a valid image in SRAM (spec/22 R466; spec/19 R406). -/
def State.bootJump (s : State) (img : List Byte) : State :=
  let s1 := ((s.bootStage 3).extendMr 0 (sha384 (img.take (64 + imageLength img)))).sets [(F.KEY_MR_LOCK_MR0, 1), (F.TOP_BOOT_STATUS_ERROR, 0)]
  ((s1.bootStage 4).emit (.hartStart 0 (0x10000000 + imageEntry img))).bootWarm

/-- The stage-1 image of a QSPI copy, as much as its LENGTH claims. -/
def State.flashImage (s : State) (a : Nat) : List Byte := memBytes s.flash a (256 + min 261888 (imageLength (memBytes s.flash a 64)))

/-- A copy fails: a read that times out, or step 3. -/
def State.copyBad (s : State) (img : List Byte) (timeout : Bool) : Option Nat := if timeout then some 4 else s.imageBad img

/-- Boot from QSPI (spec/22 R466): copy A at 0, copy B at 0x0004_0000; the image is put into SRAM. -/
def State.bootFlash (s : State) (timeoutA timeoutB : Bool) : State :=
  let a := s.flashImage 0
  let b := s.flashImage 0x40000
  match s.copyBad a timeoutA with
  | none => ((s.bootStage 2).sramPut 0 a).bootJump a
  | some _ =>
    let s1 := (if timeoutA then s else s.bootStage 2).set F.TOP_BOOT_STATUS_COPY 1
    match s1.copyBad b timeoutB with
    | none => ((s1.bootStage 2).sramPut 0 b).bootJump b
    | some e => (if e = 4 then s1 else s1.bootStage 2).bootHalt e

/-- Boot through an external processor (spec/22 R467): the boot link for source 2, then the token. -/
def State.bootOffer (s : State) (src : Nat) : State :=
  if src = 2 && !bit (s.get F.CLK_STATUS_PCIE_REF_OK) 2 then s.bootHalt 6
  else
    let s1 := if src = 2 then { s.set (F.PCBQ_STATUS_UPSTREAM 2) 1 with bolt.bootLink := true } else s
    s1.handOver src

/-- The boot ROM may run: hart 0 has started and the strap asks for normal operation (spec/22 R464). -/
def State.bootMay (s : State) : Bool := s.boltUp && s.bolt.testN && bit s.bolt.ctl.hartsOn 0

/-- Steps 1 and 2 (spec/22 R466). -/
def State.bootRun (s : State) (timeoutA timeoutB : Bool) : State :=
  let s1 := if s.isOn .key then s else s.carryOut .key
  if !s1.isOn .key then s1.bootHalt 5
  else
    let s2 := s1.bootStage 1
    match s2.get F.TOP_BOOT_STATUS_BOOT_SRC with
    | 0 => s2.bootFlash timeoutA timeoutB
    | 3 => s2.bootHalt 1
    | src => s2.bootOffer src

/-- BOOT_ROM (spec/22 R466): once in each life of the bolt die. -/
def execBootRom (timeoutA timeoutB : Bool) (s : State) : Step :=
  .next (if s.bootMay && decide (s.get F.TOP_BOOT_STATUS_STAGE = 0) then s.bootRun timeoutA timeoutB else s)

/-- Whether the ROM waits for an image from outside. -/
def State.bootWaits (s : State) : Bool :=
  s.bootMay && decide (1 ≤ s.get F.TOP_BOOT_STATUS_STAGE ∧ s.get F.TOP_BOOT_STATUS_STAGE ≤ 2) && decide (s.get F.TOP_HOST_TOKEN_OWNER = 0)

/-- The delivered image: TOP_BOOT_IMAGE.LEN bytes of SRAM. -/
def State.deliveredImage (s : State) : List Byte := memBytes s.bolt.sram 0 (min 262144 (s.get F.TOP_BOOT_IMAGE_LEN))

/-- BOOT_IMAGE_VALIDATE (spec/22 R467). -/
def execBootImageValidate (s : State) : Step :=
  .next (if s.bootWaits then
      match s.imageBad s.deliveredImage with
      | none => (s.bootStage 2).bootJump s.deliveredImage
      | some e => ((s.bootStage 2).sets [(F.TOP_BOOT_STATUS_ERROR, e), (F.TOP_BOOT_IMAGE_LEN, 0)]).handOver (s.get F.TOP_BOOT_STATUS_BOOT_SRC)
    else s)

end Sys2Proof.Machine
end

