-- ==== Sys2Proof/Machine/Bus.lean ====
section
/-! DEFINITION. Accesses by address (spec/02 R25 to R33, R37, R39, R43, R498; spec/13 R294): the ranges of the address map, the token,
the heartbeat, the unit controls, register accesses that cross the seam as flits. -/

namespace Sys2Proof.Machine

/-- The PLIC's words (PRESUMED: the RISC-V PLIC layout, 64 sources, 8 contexts; spec/02 R37 numbers both). -/
abbrev plicBase : Nat := 0x0C000000

/-- The source that a claim by a context takes: the highest priority, the lowest number among equals; 0 for none. -/
def State.plicBest (s : State) (c : Nat) : Nat :=
  let x := s.bolt.ctl.plic
  let live := (List.range 64).filter fun i => bit s.plicPending i && bit (x.enable.getD c 0) i && x.priority.getD i 0 != 0
  live.foldl (fun b i => if b = 0 ∨ x.priority.getD b 0 < x.priority.getD i 0 then i else b) 0

/-- A PLIC word read. -/
def State.plicRead (s : State) (o : Nat) : State × Nat :=
  let x := s.bolt.ctl.plic
  if o < 0x100 then (s, x.priority.getD (o / 4) 0)
  else if o = 0x1000 ∨ o = 0x1004 then (s, slice s.plicPending (8 * (o - 0x1000)) 32)
  else if 0x2000 ≤ o ∧ o < 0x2400 ∧ o % 0x80 < 8 then (s, slice (x.enable.getD ((o - 0x2000) / 0x80) 0) (8 * (o % 0x80)) 32)
  else if 0x200000 ≤ o ∧ o < 0x208000 ∧ o % 0x1000 = 0 then (s, x.threshold.getD ((o - 0x200000) / 0x1000) 0)
  else if 0x200000 ≤ o ∧ o < 0x208000 ∧ o % 0x1000 = 4 then
    let i := s.plicBest ((o - 0x200000) / 0x1000)
    (if i = 0 then s else { s with bolt.ctl.plic := { x with claimed := setBit x.claimed i } }.refreshInts, i)
  else (s, 0)

/-- A PLIC word written.  Priorities and thresholds hold three bits, priorities 1 to 7 and 0 for never (spec/02, cores and memory;
the bits kept are PRESUMED, assumption log 6). -/
def State.plicWrite (s : State) (o v : Nat) : State :=
  let x := s.bolt.ctl.plic
  let put (y : Plic) : State := { s with bolt.ctl.plic := y }.refreshInts
  if 4 ≤ o ∧ o < 0x100 then put { x with priority := setAt x.priority (o / 4) (v % 8) }
  else if 0x2000 ≤ o ∧ o < 0x2400 ∧ o % 0x80 < 8 then
    let c := (o - 0x2000) / 0x80
    let e := x.enable.getD c 0
    put { x with enable := setAt x.enable c (if o % 0x80 < 4 then e / 2 ^ 32 * 2 ^ 32 + v / 2 * 2 else e % 2 ^ 32 + v * 2 ^ 32) }
  else if 0x200000 ≤ o ∧ o < 0x208000 ∧ o % 0x1000 = 0 then put { x with threshold := setAt x.threshold ((o - 0x200000) / 0x1000) (v % 8) }
  else if 0x200000 ≤ o ∧ o < 0x208000 ∧ o % 0x1000 = 4 then
    if v < 64 && bit (x.enable.getD ((o - 0x200000) / 0x1000) 0) v then put { x with claimed := clrBit x.claimed v } else s
  else s

/-- An access that ends in an access error outside the register blocks (spec/02 R25, R31). -/
def State.outOfMap (s : State) (who : Requester) : State := (s.sticky 0x40000000 1).answer who .error 0

/-- A write of a spool register whose REG_WR flit has not reached the spool die (spec/02 R39, R43). -/
def State.sendWrite (s : State) (who : Requester) (a : Nat) (v : Word) : State :=
  let s1 := s.sendFlit .bolt 1 0 (a * 2 ^ 32 + v.toNat)
  { s1 with bolt.ctl.wrSent := s1.bolt.ctl.wrSent ++ [a] }.answer who .done 0

/-- A write inside the register blocks (spec/02 R27, R31 to R35, R43). -/
def State.blockWrite (s : State) (who : Requester) (a : Nat) (v : Word) (width : Nat) (delivered : Bool) : State :=
  let verdict := s.judge who a width true
  if verdict = .misaligned then s.turnAway .misaligned who a
  else if a = R.PAT_CTRL then s.patCtrl who v
  else if isSpool a && !delivered && verdict = .act then s.sendWrite who a v
  else s.writeAny who a v

/-- A write by address (spec/02 R25). -/
def State.busWrite (s : State) (who : Requester) (a : Nat) (v : Word) (width : Nat) (delivered : Bool) : Step :=
  if !s.pathLive who then .next s
  else match rangeOf a with
    | .periph => if width ≠ 4 ∨ a % 4 ≠ 0 then .next (s.outOfMap who) else .fault .peripheralWindow
    | .rom => .next (s.outOfMap who)
    | .out => .next (s.outOfMap who)
    | .plic => .next (if width ≠ 4 ∨ a % 4 ≠ 0 then s.outOfMap who else (s.plicWrite (a - plicBase) v.toNat).answer who .done 0)
    | .sram => .next (if s.sourceGuarded a width then (s.irq bPat 2).answer who .done 0
        else (s.sramPut (a - 0x10000000) (leBytes width v.toNat)).answer who .done 0)
    | .block => .next (s.blockWrite who a v width delivered)

/-- A read of a spool register whose answer is not yet back: its REG_RD flit (spec/02 R39, R43). -/
def State.sendRead (s : State) (who : Requester) (a : Nat) : State :=
  let s1 := s.sendFlit .bolt 2 0 (a * 2 ^ 32)
  { s1 with bolt.ctl.rdSent := s1.bolt.ctl.rdSent ++ [(who, a)] }

/-- A read inside the register blocks (spec/02 R31, R32, R43; spec/03 R53). -/
def State.blockRead (s : State) (who : Requester) (a width : Nat) (delivered : Bool) : State :=
  match s.judge who a width false with
  | .act =>
    if isSpool a && !delivered then s.sendRead who a
    else
      let (t, v) := s.readReg who a
      t.answer who .done v
  | bad => s.turnAway bad who a

/-- A read by address (spec/02 R25).  The contents of the boot ROM and of a peripheral's register are not in the spec: free values
(assumption log 3). -/
def State.busRead (s : State) (who : Requester) (a width : Nat) (delivered : Bool) : Step :=
  if !s.pathLive who then .next s
  else match rangeOf a with
    | .periph => .next (if width ≠ 4 ∨ a % 4 ≠ 0 then s.outOfMap who else s.used.answer who .done (BitVec.ofNat 32 s.fresh))
    | .rom => .next (s.used.answer who .done (BitVec.ofNat 32 s.fresh))
    | .out => .next (s.outOfMap who)
    | .plic => .next (if width ≠ 4 ∨ a % 4 ≠ 0 then s.outOfMap who else
        let (t, v) := s.plicRead (a - plicBase)
        t.answer who .done (BitVec.ofNat 32 v))
    | .sram => .next (s.answer who .done (BitVec.ofNat 32 (leAt (memBytes s.bolt.sram (a - 0x10000000) width) 0 width)))
    | .block => .next (s.blockRead who a width delivered)

/-- REG_WRITE (spec/02 R27, R31). -/
def execRegWrite (who : Requester) (addr value : Word) (width : Nat) (delivered : Bool) (s : State) : Step :=
  s.busWrite who addr.toNat value width delivered

/-- LO_READ (spec/02 R32). -/
def execLoRead (who : Requester) (a : ReadAt) (s : State) : Step := s.busRead who a.addr.toNat 4 a.delivered

/-- LO_WRITE (spec/02 R33). -/
def execLoWrite (who : Requester) (addr value : Word) (s : State) : Step := s.busWrite who addr.toNat value 4 true

/-- HI_WRITE (spec/02 R33). -/
def execHiWrite (who : Requester) (addr value : Word) (s : State) : Step := s.busWrite who addr.toNat value 4 true

/-- HART_RELEASE (spec/02 R26). -/
def execHartRelease (who : Requester) (value : Word) (s : State) : Step := .next (s.hartWrite who value)

/-- A value of TOP_HOST_TOKEN that keeps NEXT, with other bits. -/
def State.tokenValue (s : State) (bits : Nat) : Word := BitVec.ofNat 32 (16 * s.get F.TOP_HOST_TOKEN_NEXT + bits)

/-- TOKEN_RELEASE (spec/02 R28). -/
def execTokenRelease (who : Requester) (next : Fin 4) (s : State) : Step :=
  .next (s.tokenWrite who (BitVec.ofNat 32 (16 * next.val + 256)))

/-- TOKEN_REQUEST (spec/02 R27). -/
def execTokenRequest (who : Requester) (reqSpi reqPcie : Bool) (s : State) : Step :=
  .next (s.tokenWrite who (s.tokenValue (2 ^ 12 * b2n reqSpi + 2 ^ 13 * b2n reqPcie)))

/-- TOKEN_DENY (spec/02 R27). -/
def execTokenDeny (who : Requester) (s : State) : Step := .next (s.tokenWrite who (s.tokenValue (2 ^ 16)))

/-- HOST_HB_BEAT (spec/02 R28): the time of the last beat is told with HOST_HB_LAPSE. -/
def execHostHbBeat (who : Requester) (period : BitVec 16) (s : State) : Step :=
  .next (s.command who R.TOP_HOST_HB (BitVec.ofNat 32 (2 ^ 31 + period.toNat)) id)

/-- HOST_HB_LAPSE (spec/02 R28). -/
def execHostHbLapse (sinceBeatMs : Nat) (s : State) : Step :=
  .next (s.ifBolt fun s => if 2 * s.get F.TOP_HOST_HB_PERIOD_MS ≤ sinceBeatMs then s.tokenHome 0 else s)

/-- SPI_WRITE (spec/02 R30, R498). -/
def execSpiWrite (addr value : Word) (delivered : Bool) (s : State) : Step := s.busWrite .spi addr.toNat value 4 delivered

/-- SPI_READ (spec/02 R30, R498). -/
def execSpiRead (a : ReadAt) (s : State) : Step := s.busRead .spi a.addr.toNat 4 a.delivered

/-- A write or a read of BAR 2, which holds the MSI-X table of 64 vectors at offset 0 (spec/13 R294).  The pending bits at 0x1000 and the
rest of it read 0: the hub holds no message back (PRESUMED, assumption log 20). -/
def State.bar2 (s : State) (o : Nat) (write : Bool) (v : Word) (width : Nat) : State :=
  let inTable := decide (o + width ≤ 1024)
  if !s.pathLive .pcie then s
  else if write then
    (if inTable then { s with bolt.msixTable := memPut s.bolt.msixTable o (leBytes width v.toNat) } else s).answer .pcie .done 0
  else s.answer .pcie .done (BitVec.ofNat 32 (if inTable then leAt (memBytes s.bolt.msixTable o width) 0 width else 0))

/-- PCIE_BAR_ACCESS (spec/13 R294): BAR 0 maps the address map from offset 0. -/
def execPcieBarAccess (place : BarAt) (write : Bool) (value : Word) (width : Nat) (delivered : Bool) (s : State) : Step :=
  let offset := place.offset.toNat
  if place.bar2 then .next (s.bar2 offset write value width)
  else if write then s.busWrite .pcie offset value width delivered else s.busRead .pcie offset width delivered

/-- A write of a unit's CTRL. -/
def State.unitWrite (s : State) (who : Requester) (u : HUnit) (v : Word) : State :=
  match u with
  | .pat => s.patCtrl who v
  | u => s.ctrlWrite who u v

/-- UNIT_ENABLE (spec/02 R35). -/
def execUnitEnable (who : Requester) (u : HUnit) (value : Word) (s : State) : Step := .next (s.unitWrite who u (setBits value 0 1 1))

/-- UNIT_DISABLE (spec/02 R35). -/
def execUnitDisable (who : Requester) (u : HUnit) (value : Word) (s : State) : Step := .next (s.unitWrite who u (setBits value 0 1 0))

/-- REG_WR_FLIT (spec/02 R39, R43): the spool die applies the write and counts it. -/
def execRegWrFlit (f : FlitBody) (s : State) : Step :=
  .next (s.flitRx .spool 1 f fun s =>
    let a := slice f.data.toNat 32 32
    if isSpool a && rangeOf a = .block then
      { s with bolt.ctl.wrSent := s.bolt.ctl.wrSent.erase a }.writeAny .hub a (BitVec.ofNat 32 (slice f.data.toNat 0 32))
    else s)

/-- REG_RD_FLIT (spec/02 R39): the spool die answers; the place of the address is DEDUCED from REG_WR. -/
def execRegRdFlit (f : FlitBody) (s : State) : Step :=
  .next (s.flitRx .spool 2 f fun s =>
    let a := slice f.data.toNat 32 32
    let who := ((s.bolt.ctl.rdSent.find? fun r => r.2 = a).map (·.1)).getD .hub
    if isSpool a && rangeOf a = .block && assigned a then
      let (t, v) := s.readReg who a
      t.sendFlit .spool 3 f.ch.toNat v.toNat
    else s.sendFlit .spool 3 f.ch.toNat 0)

/-- REG_RESP_FLIT (spec/02 R39): the oldest read of a spool register not answered is answered with the data, DATA [31:0]; the place
is DEDUCED (assumption log 23). -/
def execRegRespFlit (f : FlitBody) (s : State) : Step :=
  .next (s.flitRx .bolt 3 f fun s => match s.bolt.ctl.rdSent with
    | [] => s
    | r :: t => { s with bolt.ctl.rdSent := t }.answer r.1 .done (BitVec.ofNat 32 (slice f.data.toNat 0 32)))

end Sys2Proof.Machine
end

