-- ==== Sys2Proof/Machine/Cycle.lean ====
section
/-! DEFINITION. CYCLE_BOUNDARY (spec/04 R82): what every unit does as a cycle begins. -/

namespace Sys2Proof.Machine

/-- What CLK shows outside as a cycle begins (spec/04, CLK_CYCLE_INT and CLK_CTRL.PPS_OUT_EN): CYCLE every DIV cycles, counted
from cycle 0 (DESIGN CHOICE, assumption log 64); a pulse on PPS_OUT, FUNC 1 of ball AA11 (spec/23 R492), at each second of ring
time. -/
def State.clockShown (s : State) : State :=
  let div := s.get F.CLK_CYCLE_INT_DIV
  let out := s.bolt.pat.inForce.pins.any fun p => p.1 = 941 && p.2.1 = 1
  let s1 := if div ≠ 0 ∧ s.cycle % div = 0 then s.irq bClk 1 else s
  if s1.on F.CLK_CTRL_PPS_OUT_EN && out && decide (s1.ringTime / 256 % 1000000000 = 0) then s1.emit .ppsOut else s1

/-- Ring time reaches the next cycle boundary, on the first root tick at or beyond it (spec/04 R81, R82); the scheduler's time in the cycle starts again, a rebuild is
complete. -/
def State.nextCycle (s : State) : State :=
  let s1 := s.addTicks (s.ticksTo s.cycleEnd)
  let tok := s1.bolt.sch.tokNext
  let next := if cyclePs ≤ tok then tok - cyclePs else (40960 - (cyclePs - tok) % 40960) % 40960
  (({ s1 with bolt.sch.now := 0, bolt.sch.tokNext := next, bolt.time.cycleTicks := s1.bolt.time.ticks }.rebuilt).refillAll
    195312).clockShown

/-- The BCLK divider of a TDM port: K = SLOTS × WIDTH × S for a master port that is ON (spec/11 R261). -/
def State.bclkDivider (s : State) (t : Fin 16) (ticks : Nat) : Nat × Nat :=
  if s.isOn (.audTdm t) && s.on (F.AUD_TDM_CTRL_MASTER t) then
    divider (s.get (F.AUD_TDM_CTRL_SLOTS t) * s.get (F.AUD_TDM_CTRL_WIDTH t) * s.samplesPer) ticks
  else (0, 0)

/-- The ring-time unit: servo, counts, the dividers of AUD_MCLK and of the master TDM ports (spec/04 R85, R86, R94). -/
def State.clockCycle (s : State) : State :=
  let s1 := s.servo.timeCycle
  let t := s1.ticksTo s1.cycleEnd
  { s1 with
    bolt.mclkPeriods := divider 3072 t
    bolt.aud.bclk := (List.finRange 16).map fun p => s1.bclkDivider p t }

/-- The residue timers advance (spec/07 R180). -/
def State.residueCycle (s : State) : State :=
  { s with bolt.swb.frames := s.bolt.swb.frames.map fun f : Nat × Stored =>
      (f.1, { f.2 with residue := f.2.residue.map (· + 1) }) }

/-- The frames that head their queues in a class of a port, those placed first: identity and cells (spec/07 R174). -/
def State.classHeads (s : State) (p c : Nat) : List (Nat × Nat) :=
  let x := s.psch p
  let placed := (x.slots.filter fun y => y.cls = c).map (·.frame)
  let queued := (x.active.getD c []).filterMap fun k => (s.queue k).frames.head?
  (placed ++ queued).filterMap fun id => (s.stored id).map fun f => (id, f.cells.length)

/-- The wait of a class's head frame after one more cycle: the frame that waits still stands at the head and lacks credit, or
the first that does begins (spec/07 R174). -/
def State.waitOn (s : State) (p c : Nat) : Option CreditWait :=
  let w := (s.port p).stall.getD c none
  let lacks := (if c = 7 then (s.port p).cl7.take 1 |>.map fun f => (0, cellsOf f.payload.length)
    else s.classHeads p c).filter fun h => decide (s.avail p c < h.2)
  match w.bind fun x => if lacks.any fun h => h.1 = x.frame then some { x with cycles := x.cycles + 1 } else none with
  | some x => some x
  | none => lacks.head?.map fun h => ⟨h.1, 1, false⟩

/-- The cycles for which the head frame of each class has waited for credit (spec/07 R174). -/
def State.stallCycle (s : State) : State :=
  s.each ((List.range 8).filter fun p => s.elrek p && s.portUp p) fun p s =>
    s.setPort p { s.port p with stall := (List.range 8).map fun c => s.waitOn p c }

/-- The plan: commits at a cycle, change-overs, messages resent (spec/06 R157; spec/09 R219, R223). -/
def State.planCycle (s : State) : State := s.commitsAtCycle.sewSwap.altResend

/-- The adapters (spec/11 R265; spec/12 R285; spec/13 R300; spec/14 R319; spec/16 R356). -/
def State.adapterCycle (s : State) : State := s.audCycle.stcCycle.pcbCycle.dpeCycle.usbCycle

/-- The ring: its engine, then one TIME message on each trunk (spec/10 R236; spec/04 R83). -/
def State.ringWork (s : State) : State := (s.ringCycle.sendTime 0).sendTime 1

/-- Slot lists of every port (spec/08 R201). -/
def State.listCycle (s : State) : State := s.each (List.range 12) fun p s => s.buildPort p

/-- The dump of this cycle, by period or by DUMP_NOW (spec/20 R435). -/
def State.dumpCycle (s : State) : State :=
  let forced := s.on F.CNT_DUMP_NOW_GO
  if s.isOn .cnt && (s.dumpDue || forced) then s.dumpSnapshot forced else s

/-- A cycle begins (spec/04 R82). -/
def State.beginCycle (s : State) : State :=
  let s1 := s.nextCycle.clockCycle.planCycle
  let s2 := s1.residueCycle.stallCycle.sampleAll
  (s2.ringWork.tunnelCycle.adapterCycle.listCycle).dumpCycle.ntCycle

/-- The levels of the peripheral sources, which the spec does not derive: free from cycle to cycle (spec/02 R37; assumption log
66). -/
def State.peripheralLevels (s : State) : State :=
  { s with bolt.ctl.periph := s.fresh % 1024 * 2 ^ 48 }.used.refreshInts

/-- CYCLE_BOUNDARY (spec/04 R82, R89): ring time runs while the CLK unit is ON. -/
def execCycleBoundary (s : State) : Step :=
  .next (s.ifBolt fun s => (if s.isOn .clk then s.beginCycle else s).peripheralLevels)

end Sys2Proof.Machine
end

