-- ==== Sys2Proof/Machine/Dispatch.lean ====
section
/-! DEFINITION. The dispatch: one arm per command of the table, each one direct call of the command's meaning. -/

namespace Sys2Proof.Machine

def exec (i : Instr) (s : State) : Host.Outcome State Fault Refusal :=
  match i with
  | .regWrite who addr value width delivered => Sys2Proof.Machine.execRegWrite who addr value width delivered s
  | .loRead who a => Sys2Proof.Machine.execLoRead who a s
  | .loWrite who addr value => Sys2Proof.Machine.execLoWrite who addr value s
  | .hiWrite who addr value => Sys2Proof.Machine.execHiWrite who addr value s
  | .hartRelease who value => Sys2Proof.Machine.execHartRelease who value s
  | .tokenRelease who next => Sys2Proof.Machine.execTokenRelease who next s
  | .tokenRequest who reqSpi reqPcie => Sys2Proof.Machine.execTokenRequest who reqSpi reqPcie s
  | .tokenDeny who => Sys2Proof.Machine.execTokenDeny who s
  | .hostHbBeat who period => Sys2Proof.Machine.execHostHbBeat who period s
  | .hostHbLapse sinceBeatMs => Sys2Proof.Machine.execHostHbLapse sinceBeatMs s
  | .spiWrite addr value delivered => Sys2Proof.Machine.execSpiWrite addr value delivered s
  | .spiRead a => Sys2Proof.Machine.execSpiRead a s
  | .pcieBarAccess place write value width delivered => Sys2Proof.Machine.execPcieBarAccess place write value width delivered s
  | .unitEnable who u value => Sys2Proof.Machine.execUnitEnable who u value s
  | .checkDone u => Sys2Proof.Machine.execCheckDone u s
  | .unitDisable who u value => Sys2Proof.Machine.execUnitDisable who u value s
  | .unitStopped u => Sys2Proof.Machine.execUnitStopped u s
  | .idleFlit die f => Sys2Proof.Machine.execIdleFlit die f s
  | .regWrFlit f => Sys2Proof.Machine.execRegWrFlit f s
  | .regRdFlit f => Sys2Proof.Machine.execRegRdFlit f s
  | .regRespFlit f => Sys2Proof.Machine.execRegRespFlit f s
  | .pdMsgFlit die f => Sys2Proof.Machine.execPdMsgFlit die f s
  | .usbFlit die f => Sys2Proof.Machine.execUsbFlit die f s
  | .eventFlit f => Sys2Proof.Machine.execEventFlit f s
  | .nvsReqFlit f => Sys2Proof.Machine.execNvsReqFlit f s
  | .nvsDataFlit die f => Sys2Proof.Machine.execNvsDataFlit die f s
  | .switchFlit die f => Sys2Proof.Machine.execSwitchFlit die f s
  | .ackFlit die f => Sys2Proof.Machine.execAckFlit die f s
  | .nakFlit die f => Sys2Proof.Machine.execNakFlit die f s
  | .flitAckTimeout die => Sys2Proof.Machine.execFlitAckTimeout die s
  | .seamRxTimeout die => Sys2Proof.Machine.execSeamRxTimeout die s
  | .seamRetrainTimer => Sys2Proof.Machine.execSeamRetrainTimer s
  | .retrain who => Sys2Proof.Machine.execRetrain who s
  | .seamRetrainDone success downUs => Sys2Proof.Machine.execSeamRetrainDone success downUs s
  | .patLoadStart who value => Sys2Proof.Machine.execPatLoadStart who value s
  | .patAbandon who value => Sys2Proof.Machine.execPatAbandon who value s
  | .patResume => Sys2Proof.Machine.execPatResume s
  | .rootPllLock => Sys2Proof.Machine.execRootPllLock s
  | .pcieRefCheck q ppmOff => Sys2Proof.Machine.execPcieRefCheck q ppmOff s
  | .cycleBoundary => Sys2Proof.Machine.execCycleBoundary s
  | .timeRx p m t4 => Sys2Proof.Machine.execTimeRx p m t4 s
  | .timeSourceLost p => Sys2Proof.Machine.execTimeSourceLost p s
  | .timeFault => Sys2Proof.Machine.execTimeFault s
  | .holdoverLong => Sys2Proof.Machine.execHoldoverLong s
  | .ppsEdge t falling => Sys2Proof.Machine.execPpsEdge t falling s
  | .ppsLost t => Sys2Proof.Machine.execPpsLost t s
  | .refclkLost => Sys2Proof.Machine.execRefclkLost s
  | .pllUnlock => Sys2Proof.Machine.execPllUnlock s
  | .refclkReturn => Sys2Proof.Machine.execRefclkReturn s
  | .frameStitchRx l r => Sys2Proof.Machine.execFrameStitchRx l r s
  | .idleStitchRx l r => Sys2Proof.Machine.execIdleStitchRx l r s
  | .ctrlStitchRx t => Sys2Proof.Machine.execCtrlStitchRx t s
  | .alignRx l before marker payload reads => Sys2Proof.Machine.execAlignRx l before marker payload reads s
  | .keepaliveRx t => Sys2Proof.Machine.execKeepaliveRx t s
  | .signalLoss l => Sys2Proof.Machine.execSignalLoss l s
  | .alignTx p => Sys2Proof.Machine.execAlignTx p s
  | .keepaliveTx p pos => Sys2Proof.Machine.execKeepaliveTx p pos s
  | .idleRowTx p => Sys2Proof.Machine.execIdleRowTx p s
  | .alignIntervalEnd p => Sys2Proof.Machine.execAlignIntervalEnd p s
  | .signalStable p => Sys2Proof.Machine.execSignalStable p s
  | .cdrLock p => Sys2Proof.Machine.execCdrLock p s
  | .eqDone p eyes => Sys2Proof.Machine.execEqDone p eyes s
  | .bringTimeout p => Sys2Proof.Machine.execBringTimeout p s
  | .faultRetry p => Sys2Proof.Machine.execFaultRetry p s
  | .closingDone p => Sys2Proof.Machine.execClosingDone p s
  | .portDisable who p value => Sys2Proof.Machine.execPortDisable who p value s
  | .dockWindowEnd p => Sys2Proof.Machine.execDockWindowEnd p s
  | .dfeTapStep l k signs => Sys2Proof.Machine.execDfeTapStep l k signs s
  | .dfeLoad who l value => Sys2Proof.Machine.execDfeLoad who l value s
  | .prbsCtrlWrite who l value => Sys2Proof.Machine.execPrbsCtrlWrite who l value s
  | .prbsInject who l value => Sys2Proof.Machine.execPrbsInject who l value s
  | .prbsClear who l value => Sys2Proof.Machine.execPrbsClear who l value s
  | .prbsLock l seed bits => Sys2Proof.Machine.execPrbsLock l seed bits s
  | .prbsLost l bits last => Sys2Proof.Machine.execPrbsLost l bits last s
  | .modPresent t => Sys2Proof.Machine.execModPresent t s
  | .modReadyPoll t notReady => Sys2Proof.Machine.execModReadyPoll t notReady s
  | .modRemoved t => Sys2Proof.Machine.execModRemoved t s
  | .modPoll t intN los temp more => Sys2Proof.Machine.execModPoll t intN los temp more s
  | .modReset who t value => Sys2Proof.Machine.execModReset who t value s
  | .modCmdRead who t offset => Sys2Proof.Machine.execModCmdRead who t offset s
  | .modCmdWrite who t offset => Sys2Proof.Machine.execModCmdWrite who t offset s
  | .modCmdDone t ack data => Sys2Proof.Machine.execModCmdDone t ack data s
  | .frameRx t => Sys2Proof.Machine.execFrameRx t s
  | .reliableDataRx f => Sys2Proof.Machine.execReliableDataRx f s
  | .reliableAckRx f => Sys2Proof.Machine.execReliableAckRx f s
  | .retransmitTimeout entry bits => Sys2Proof.Machine.execRetransmitTimeout entry bits s
  | .frayRx t => Sys2Proof.Machine.execFrayRx t s
  | .datagramRx f => Sys2Proof.Machine.execDatagramRx f s
  | .knotRx f => Sys2Proof.Machine.execKnotRx f s
  | .knotTimeout entry bucket => Sys2Proof.Machine.execKnotTimeout entry bucket s
  | .tunCommit who index atCycle => Sys2Proof.Machine.execTunCommit who index atCycle s
  | .invalidate who index atCycle => Sys2Proof.Machine.execInvalidate who index atCycle s
  | .commitEffect entry => Sys2Proof.Machine.execCommitEffect entry s
  | .progressTimer ms => Sys2Proof.Machine.execProgressTimer ms s
  | .readyListAdmit port clocks => Sys2Proof.Machine.execReadyListAdmit port clocks s
  | .scrubRead bank bits => Sys2Proof.Machine.execScrubRead bank bits s
  | .creditRx port msg => Sys2Proof.Machine.execCreditRx port msg s
  | .creditStall port cls => Sys2Proof.Machine.execCreditStall port cls s
  | .pauseRepeat => Sys2Proof.Machine.execPauseRepeat s
  | .pauseRx port msg => Sys2Proof.Machine.execPauseRx port msg s
  | .copyDone c => Sys2Proof.Machine.execCopyDone c s
  | .residueExpiry => Sys2Proof.Machine.execResidueExpiry s
  | .cutThroughStart port => Sys2Proof.Machine.execCutThroughStart port s
  | .drainDone entry => Sys2Proof.Machine.execDrainDone entry s
  | .eccArm who value => Sys2Proof.Machine.execEccArm who value s
  | .tokenAdd => Sys2Proof.Machine.execTokenAdd s
  | .placementFixed port row link => Sys2Proof.Machine.execPlacementFixed port row link s
  | .placementStart port => Sys2Proof.Machine.execPlacementStart port s
  | .sampClear who value => Sys2Proof.Machine.execSampClear who value s
  | .planCheckDone alarm => Sys2Proof.Machine.execPlanCheckDone alarm s
  | .cmdPlanWrite who value => Sys2Proof.Machine.execCmdPlanWrite who value s
  | .altSew who => Sys2Proof.Machine.execAltSew who s
  | .altUnpick who => Sys2Proof.Machine.execAltUnpick who s
  | .altAlarm who => Sys2Proof.Machine.execAltAlarm who s
  | .altPoll who => Sys2Proof.Machine.execAltPoll who s
  | .alarmCmd ms => Sys2Proof.Machine.execAlarmCmd ms s
  | .readyRx f => Sys2Proof.Machine.execReadyRx f s
  | .sewRx f => Sys2Proof.Machine.execSewRx f s
  | .alarmSewRx f => Sys2Proof.Machine.execAlarmSewRx f s
  | .unpickRx f => Sys2Proof.Machine.execUnpickRx f s
  | .reportRx f => Sys2Proof.Machine.execReportRx f s
  | .pollRx f => Sys2Proof.Machine.execPollRx f s
  | .ringCtrlRx port f => Sys2Proof.Machine.execRingCtrlRx port f s
  | .beaconRx port f => Sys2Proof.Machine.execBeaconRx port f s
  | .announceRx port f => Sys2Proof.Machine.execAnnounceRx port f s
  | .announceTimer => Sys2Proof.Machine.execAnnounceTimer s
  | .edgeRx port f => Sys2Proof.Machine.execEdgeRx port f s
  | .edgeExpire => Sys2Proof.Machine.execEdgeExpire s
  | .claimRx port f => Sys2Proof.Machine.execClaimRx port f s
  | .beaconLoss => Sys2Proof.Machine.execBeaconLoss s
  | .claimWaitExpiry => Sys2Proof.Machine.execClaimWaitExpiry s
  | .rollcallRx port f => Sys2Proof.Machine.execRollcallRx port f s
  | .takenRx f => Sys2Proof.Machine.execTakenRx f s
  | .rollcallEnd => Sys2Proof.Machine.execRollcallEnd s
  | .joinReqRx f => Sys2Proof.Machine.execJoinReqRx f s
  | .joinAckRx f => Sys2Proof.Machine.execJoinAckRx f s
  | .joinRetry => Sys2Proof.Machine.execJoinRetry s
  | .healRx f => Sys2Proof.Machine.execHealRx f s
  | .openingRx f => Sys2Proof.Machine.execOpeningRx f s
  | .openDrainEnd => Sys2Proof.Machine.execOpenDrainEnd s
  | .nakRx f => Sys2Proof.Machine.execNakRx f s
  | .msgRx f => Sys2Proof.Machine.execMsgRx f s
  | .forgetRx f => Sys2Proof.Machine.execForgetRx f s
  | .ringRollcall who => Sys2Proof.Machine.execRingRollcall who s
  | .ringResign who => Sys2Proof.Machine.execRingResign who s
  | .openRing who => Sys2Proof.Machine.execOpenRing who s
  | .ringHeal who => Sys2Proof.Machine.execRingHeal who s
  | .ringForget who => Sys2Proof.Machine.execRingForget who s
  | .msgSend who value => Sys2Proof.Machine.execMsgSend who value s
  | .rxPop who => Sys2Proof.Machine.execRxPop who s
  | .buddySingle entry => Sys2Proof.Machine.execBuddySingle entry s
  | .tdmMasterFrame t ix data => Sys2Proof.Machine.execTdmMasterFrame t ix data s
  | .tdmFsync t e data => Sys2Proof.Machine.execTdmFsync t e data s
  | .tdmLost t => Sys2Proof.Machine.execTdmLost t s
  | .audFrameRx entry f => Sys2Proof.Machine.execAudFrameRx entry f s
  | .mixRead ch cyc ix bad => Sys2Proof.Machine.execMixRead ch cyc ix bad s
  | .mixSample ix send => Sys2Proof.Machine.execMixSample ix send s
  | .detIntegrationEnd d => Sys2Proof.Machine.execDetIntegrationEnd d s
  | .valueHiWrite who c value => Sys2Proof.Machine.execValueHiWrite who c value s
  | .stateRx entry f => Sys2Proof.Machine.execStateRx entry f s
  | .stateStale c => Sys2Proof.Machine.execStateStale c s
  | .cvuData who u value => Sys2Proof.Machine.execCvuData who u value s
  | .cvuFeedByte who u value => Sys2Proof.Machine.execCvuFeedByte who u value s
  | .cvuStart who u value => Sys2Proof.Machine.execCvuStart who u value s
  | .cvuCompare who u value => Sys2Proof.Machine.execCvuCompare who u value s
  | .cvuAlive who u value => Sys2Proof.Machine.execCvuAlive who u value s
  | .tlpRx q l t => Sys2Proof.Machine.execTlpRx q l t s
  | .tlpToTunnel l => Sys2Proof.Machine.execTlpToTunnel l s
  | .pcbRecordsRx entry f tlps => Sys2Proof.Machine.execPcbRecordsRx entry f tlps s
  | .packTimeout l => Sys2Proof.Machine.execPackTimeout l s
  | .linkStateRx l flags speed width => Sys2Proof.Machine.execLinkStateRx l flags speed width s
  | .pcbCreditRx l rec0 rec1 => Sys2Proof.Machine.execPcbCreditRx l rec0 rec1 s
  | .appliedRx l disposed => Sys2Proof.Machine.execAppliedRx l disposed s
  | .faultRx l cause first count addr => Sys2Proof.Machine.execFaultRx l cause first count addr s
  | .completionTimeout l req tag => Sys2Proof.Machine.execCompletionTimeout l req tag s
  | .pcieLinkChange q up speed width ltssm => Sys2Proof.Machine.execPcieLinkChange q up speed width ltssm s
  | .downstreamReset l reset disable => Sys2Proof.Machine.execDownstreamReset l reset disable s
  | .dpVideoFrame q t sdps => Sys2Proof.Machine.execDpVideoFrame q t sdps s
  | .dpLine q line comps => Sys2Proof.Machine.execDpLine q line comps s
  | .dpFrameRx entry f => Sys2Proof.Machine.execDpFrameRx entry f s
  | .dpTxVsync q own video link => Sys2Proof.Machine.execDpTxVsync q own video link s
  | .dpNoVideo q => Sys2Proof.Machine.execDpNoVideo q s
  | .hpdRise q high irqs ok edid => Sys2Proof.Machine.execHpdRise q high irqs ok edid s
  | .auxRequest q native write addr offset len raw => Sys2Proof.Machine.execAuxRequest q native write addr offset len raw s
  | .auxReplyRx entry f reply => Sys2Proof.Machine.execAuxReplyRx entry f reply s
  | .auxTimeout q ms => Sys2Proof.Machine.execAuxTimeout q ms s
  | .ethRx m bytes fcs => Sys2Proof.Machine.execEthRx m bytes fcs s
  | .ethAge => Sys2Proof.Machine.execEthAge s
  | .learnGo who value => Sys2Proof.Machine.execLearnGo who value s
  | .drpToggle x => Sys2Proof.Machine.execDrpToggle x s
  | .attach p asSink orient z t => Sys2Proof.Machine.execAttach p asSink orient z t s
  | .detach p => Sys2Proof.Machine.execDetach p s
  | .detachDeclare p ms => Sys2Proof.Machine.execDetachDeclare p ms s
  | .moistureTest p z t => Sys2Proof.Machine.execMoistureTest p z t s
  | .moistureTimer p => Sys2Proof.Machine.execMoistureTimer p s
  | .requestRx p pos curr epr => Sys2Proof.Machine.execRequestRx p pos curr epr s
  | .psRdy p => Sys2Proof.Machine.execPsRdy p s
  | .sourceCapabilitiesRx p pdos => Sys2Proof.Machine.execSourceCapabilitiesRx p pdos s
  | .swapRx p data => Sys2Proof.Machine.execSwapRx p data s
  | .askAnswer who p value => Sys2Proof.Machine.execAskAnswer who p value s
  | .waitRx p => Sys2Proof.Machine.execWaitRx p s
  | .waitRetry p ms => Sys2Proof.Machine.execWaitRetry p ms s
  | .vconnSwapRx p => Sys2Proof.Machine.execVconnSwapRx p s
  | .frSwapSignal p => Sys2Proof.Machine.execFrSwapSignal p s
  | .enterModeRx p half => Sys2Proof.Machine.execEnterModeRx p half s
  | .exitModeRx p => Sys2Proof.Machine.execExitModeRx p s
  | .discoverRx p what => Sys2Proof.Machine.execDiscoverRx p what s
  | .hardResetRx p => Sys2Proof.Machine.execHardResetRx p s
  | .senderResponseTimeout p => Sys2Proof.Machine.execSenderResponseTimeout p s
  | .budgetCommit who value => Sys2Proof.Machine.execBudgetCommit who value s
  | .tcpPortHold who p value => Sys2Proof.Machine.execTcpPortHold who p value s
  | .cmdDetach who p => Sys2Proof.Machine.execCmdDetach who p s
  | .prSwap who p => Sys2Proof.Machine.execPrSwap who p s
  | .drSwap who p => Sys2Proof.Machine.execDrSwap who p s
  | .vconnSwap who p => Sys2Proof.Machine.execVconnSwap who p s
  | .hardReset who p => Sys2Proof.Machine.execHardReset who p s
  | .sendCaps who p => Sys2Proof.Machine.execSendCaps who p s
  | .enterMode who p => Sys2Proof.Machine.execEnterMode who p s
  | .exitMode who p => Sys2Proof.Machine.execExitMode who p s
  | .usbBusReset => Sys2Proof.Machine.execUsbBusReset s
  | .usbUpstreamConnect => Sys2Proof.Machine.execUsbUpstreamConnect s
  | .hostRun who value => Sys2Proof.Machine.execHostRun who value s
  | .pipeGo who p setup => Sys2Proof.Machine.execPipeGo who p setup s
  | .pipeAbort who p => Sys2Proof.Machine.execPipeAbort who p s
  | .pipeDone p result bytes data eps => Sys2Proof.Machine.execPipeDone p result bytes data eps s
  | .devSetup setup status => Sys2Proof.Machine.execDevSetup setup status s
  | .mbxRx bytes => Sys2Proof.Machine.execMbxRx bytes s
  | .mbxPop who value => Sys2Proof.Machine.execMbxPop who value s
  | .txGo who value => Sys2Proof.Machine.execTxGo who value s
  | .mbxTxDone => Sys2Proof.Machine.execMbxTxDone s
  | .isoOutPacket samples => Sys2Proof.Machine.execIsoOutPacket samples s
  | .isoInPacket => Sys2Proof.Machine.execIsoInPacket s
  | .audFeedback frame => Sys2Proof.Machine.execAudFeedback frame s
  | .startSplit k addr ep typ pid low toggle data eps => Sys2Proof.Machine.execStartSplit k addr ep typ pid low toggle data eps s
  | .completeSplit k addr ep typ pid => Sys2Proof.Machine.execCompleteSplit k addr ep typ pid s
  | .transactionRx j tag at' typ pid toggle data eps hs rtoggle rdata => Sys2Proof.Machine.execTransactionRx j tag at' typ pid toggle data eps hs rtoggle rdata s
  | .resultRx k tag ep hs toggle prefetch gen data => Sys2Proof.Machine.execResultRx k tag ep hs toggle prefetch gen data s
  | .remoteResultTimeout k tag ms => Sys2Proof.Machine.execRemoteResultTimeout k tag ms s
  | .prefetchPoll j ep toggle data => Sys2Proof.Machine.execPrefetchPoll j ep toggle data s
  | .eventRx far n ev => Sys2Proof.Machine.execEventRx far n ev s
  | .inputWindow n vin => Sys2Proof.Machine.execInputWindow n vin s
  | .uvRideEnd x => Sys2Proof.Machine.execUvRideEnd x s
  | .insertDone x => Sys2Proof.Machine.execInsertDone x s
  | .prechargeDone n vout => Sys2Proof.Machine.execPrechargeDone n vout s
  | .preShortCheck n vout aUs => Sys2Proof.Machine.execPreShortCheck n vout aUs s
  | .preTimeout n vout aUs => Sys2Proof.Machine.execPreTimeout n vout aUs s
  | .rampDone n vout vgs => Sys2Proof.Machine.execRampDone n vout vgs s
  | .rampTimeout x aUs => Sys2Proof.Machine.execRampTimeout x aUs s
  | .pgoodFall n vout vgs aUs => Sys2Proof.Machine.execPgoodFall n vout vgs aUs s
  | .frsTimeout n => Sys2Proof.Machine.execFrsTimeout n s
  | .fastTrip x aUs => Sys2Proof.Machine.execFastTrip x aUs s
  | .i2tUpdate n ix aUs => Sys2Proof.Machine.execI2tUpdate n ix aUs s
  | .retryWaitEnd n => Sys2Proof.Machine.execRetryWaitEnd n s
  | .pgoodHeld n => Sys2Proof.Machine.execPgoodHeld n s
  | .gateRemoval x => Sys2Proof.Machine.execGateRemoval x s
  | .gateCmdClear who n => Sys2Proof.Machine.execGateCmdClear who n s
  | .gateDischarge who n => Sys2Proof.Machine.execGateDischarge who n s
  | .gateOnWrite who n turnOn => Sys2Proof.Machine.execGateOnWrite who n turnOn s
  | .powerOn straps => Sys2Proof.Machine.execPowerOn straps s
  | .brownOut words => Sys2Proof.Machine.execBrownOut words s
  | .pwrCmdRun who cores => Sys2Proof.Machine.execPwrCmdRun who cores s
  | .pwrCmdQuiet who cores => Sys2Proof.Machine.execPwrCmdQuiet who cores s
  | .pwrCmdStandby who cores => Sys2Proof.Machine.execPwrCmdStandby who cores s
  | .pwrCmdOff who cores => Sys2Proof.Machine.execPwrCmdOff who cores s
  | .standbyBoltOff => Sys2Proof.Machine.execStandbyBoltOff s
  | .boltOffHoldEnd => Sys2Proof.Machine.execBoltOffHoldEnd s
  | .goReady who us => Sys2Proof.Machine.execGoReady who us s
  | .wakeLateReady us => Sys2Proof.Machine.execWakeLateReady us s
  | .lanternCycle adc ohms => Sys2Proof.Machine.execLanternCycle adc ohms s
  | .wakeNRelease => Sys2Proof.Machine.execWakeNRelease s
  | .wakeClear who => Sys2Proof.Machine.execWakeClear who s
  | .keyDerive who => Sys2Proof.Machine.execKeyDerive who s
  | .keyGenerate who => Sys2Proof.Machine.execKeyGenerate who s
  | .keyAgree who => Sys2Proof.Machine.execKeyAgree who s
  | .keySign who => Sys2Proof.Machine.execKeySign who s
  | .keySeal who => Sys2Proof.Machine.execKeySeal who s
  | .keyUnseal who => Sys2Proof.Machine.execKeyUnseal who s
  | .keyPublic who => Sys2Proof.Machine.execKeyPublic who s
  | .keyAttest who => Sys2Proof.Machine.execKeyAttest who s
  | .keyErase who => Sys2Proof.Machine.execKeyErase who s
  | .opDone => Sys2Proof.Machine.execOpDone s
  | .lcBlowOwner who => Sys2Proof.Machine.execLcBlowOwner who s
  | .lcDeploy who => Sys2Proof.Machine.execLcDeploy who s
  | .lcRetire who => Sys2Proof.Machine.execLcRetire who s
  | .mrExtend who value => Sys2Proof.Machine.execMrExtend who value s
  | .mrLock1 who => Sys2Proof.Machine.execMrLock1 who s
  | .keyAgreeRx port msg => Sys2Proof.Machine.execKeyAgreeRx port msg s
  | .keyAgreeTimeout port ms => Sys2Proof.Machine.execKeyAgreeTimeout port ms s
  | .tamperEvent sensor r => Sys2Proof.Machine.execTamperEvent sensor r s
  | .tmpClear who value => Sys2Proof.Machine.execTmpClear who value s
  | .counterClear who => Sys2Proof.Machine.execCounterClear who s
  | .counterLoad who => Sys2Proof.Machine.execCounterLoad who s
  | .clearGroup who group => Sys2Proof.Machine.execClearGroup who group s
  | .counterWrap id => Sys2Proof.Machine.execCounterWrap id s
  | .samplePeriod h pc => Sys2Proof.Machine.execSamplePeriod h pc s
  | .dumpNow who => Sys2Proof.Machine.execDumpNow who s
  | .dumpDone => Sys2Proof.Machine.execDumpDone s
  | .nvsSnapshot who count => Sys2Proof.Machine.execNvsSnapshot who count s
  | .fltSwRecord who code => Sys2Proof.Machine.execFltSwRecord who code s
  | .nvsWriteDone => Sys2Proof.Machine.execNvsWriteDone s
  | .wipeLog who => Sys2Proof.Machine.execWipeLog who s
  | .wipeProg who => Sys2Proof.Machine.execWipeProg who s
  | .ntsGo who => Sys2Proof.Machine.execNtsGo who s
  | .testFrameRx f => Sys2Proof.Machine.execTestFrameRx f s
  | .ntsAbort who => Sys2Proof.Machine.execNtsAbort who s
  | .bootRom timeoutA timeoutB => Sys2Proof.Machine.execBootRom timeoutA timeoutB s
  | .bootImageValidate => Sys2Proof.Machine.execBootImageValidate s
  | .patStepComplete us report => Sys2Proof.Machine.execPatStepComplete us report s
  | .ethLinkChange m up => Sys2Proof.Machine.execEthLinkChange m up s
  | .swapAnswerRx p accept => Sys2Proof.Machine.execSwapAnswerRx p accept s
  | .vdmAckRx p what ok vdo speed fiveA eprOk => Sys2Proof.Machine.execVdmAckRx p what ok vdo speed fiveA eprOk s
  | .downstreamPortChange far n what => Sys2Proof.Machine.execDownstreamPortChange far n what s
  | .usbSuspendResume suspend => Sys2Proof.Machine.execUsbSuspendResume suspend s
  | .hubClassRequest k set feature => Sys2Proof.Machine.execHubClassRequest k set feature s
  | .remoteResetDone j => Sys2Proof.Machine.execRemoteResetDone j s
  | .remoteDisconnectTimer => Sys2Proof.Machine.execRemoteDisconnectTimer s
  | .dischargeDone n vout => Sys2Proof.Machine.execDischargeDone n vout s

end Sys2Proof.Machine
end

