-- ==== Sys2Proof/Safety.lean ====
section
/-! DEFINITION. What a safe run of the hub is, in the terms that claims use: the stores keep their canonical form, the fuses
only ever gain what was not blown, commands take nothing from the queue but themselves. -/

namespace Sys2Proof.Machine

/-- A byte store is in canonical form: offsets strictly rising, no byte listed that an unlisted offset reads as. -/
def Memory.wf (m : Mem) : Bool := sortedKeys m && m.all fun c => c.2 != 0

/-- The register store is in canonical form: addresses strictly rising, no word listed that equals the register's reset
word. -/
def Regs.wf (l : List (Nat × Word)) : Bool := sortedKeys l && l.all fun c => c.2 != regReset c.1

/-- An owner key hash is blown (spec/19 R404: all zero means none). -/
def Fuses.owned (f : Fuses) : Prop := f.owner.any (fun b => b != 0) = true

/-- Fuses only grow (spec/19 R403, R404): the unique number, the root secret and the certificate stay, the lifecycle never
goes back, an owner key hash once blown stays. -/
structure Fuses.Grow (a b : Fuses) : Prop where
  uid : b.uid = a.uid
  root : b.root = a.root
  devCert : b.devCert = a.devCert
  lifecycle : a.lifecycle ≤ b.lifecycle
  owner : a.owned → b.owner = a.owner

/-- A part is sound: a DEPLOYED part has an owner key blown (spec/19 R404), and every store is in canonical form. -/
structure State.Inv (s : State) : Prop where
  deployed : s.fuses.lifecycle = 2 → s.fuses.owned
  regs : Regs.wf s.regs = true
  sram : Memory.wf s.bolt.sram = true
  nvs : Memory.wf s.spool.nvs = true
  usb : Memory.wf s.spool.usb.mem = true
  msix : Memory.wf s.bolt.msixTable = true

/-- What every command keeps, whatever it does: from a sound state it leaves a sound one, its fuses grown from the first,
the flash device and the waiting commands as they were. -/
structure Kept (a b : State) : Prop where
  inv : b.Inv
  fuses : Fuses.Grow a.fuses b.fuses
  flash : b.flash = a.flash
  pending : b.pending = a.pending

/-- The same of a command's outcome. -/
def KeptStep (a : State) (o : Step) : Prop := ∀ b, o = .next b → Kept a b

/-- From `a` to `b` no register changed but those of the blocks with the named base addresses, and no byte of SRAM, of the MSI-X
table, of NVS or of the USB packet memory, no key slot, fuse, flash byte or waiting command did. -/
structure Within (bases : List Nat) (a b : State) : Prop where
  regs : ∀ x, baseOf x ∉ bases → b.rd x = a.rd x
  sram : b.bolt.sram = a.bolt.sram
  msix : b.bolt.msixTable = a.bolt.msixTable
  nvs : b.spool.nvs = a.spool.nvs
  usbMem : b.spool.usb.mem = a.spool.usb.mem
  slots : b.bolt.keys.slots = a.bolt.keys.slots
  flash : b.flash = a.flash
  fuses : b.fuses = a.fuses
  pending : b.pending = a.pending

/-- The same of a command's outcome. -/
def WithinStep (bases : List Nat) (a : State) (o : Step) : Prop := ∀ b, o = .next b → Within bases a b

/-- A requester's write to a register acts: its path answers, and neither token, alignment, presence nor the seam turns it
away (spec/02 R26, R27, R31, R43; spec/03 R53). -/
abbrev State.accepts (s : State) (who : Requester) (a : Nat) : Prop := s.pathLive who = true ∧ s.judge who a 4 true = .act

/-- The state in which an accepted write has stored its value by the register's access types, before what the write sets
off. -/
def State.written (s : State) (a : Nat) (v : Word) : State := (s.countSpoolWrite a).storeWrite a v

end Sys2Proof.Machine
end

