-- ==== Sys2Proof/Certificates/Slice0/Obligations.lean ====
section
/-! DEFINITION. The statements: what the commands do, what every command keeps, what reset leaves. -/

open Sys2Proof Sys2Proof.Machine

/-- A write command of a register with a row of its own: accepted, it stores its value, has the effect `f`, and its requester
is answered. -/
abbrev OnWrite (a : Nat) (v : Word) (c : Requester → Instr) (f : State → State) : Prop :=
  ∀ (s : State) (who : Requester), s.accepts who a → exec (c who) s = .next ((f (s.written a v)).answer who .done 0)

/-- A write of a register that has no row of its own, stands in no window and is no unit's CTRL: it starts nothing. -/
abbrev startsNothing (s : State) (w : Requester) (a : Nat) (v : Word) : Prop :=
  inWindow a = false ∧ unitAt a = none ∧
    (s.writeTop w a v <|> s.writeSwitch w a v <|> s.writeRing w a v <|> s.writeKey w a v <|> s.writeSpool w a v) = none

/-- A ring message that the engine has not acted on within 16 cycles, and the state that notes it acted on (spec/10 R236). -/
def actsOnce (s : State) (f : Frame) (t : State) : Prop :=
  (s.ringSeen f = none ∧ t = s.ringNote f true) ∨ ∃ x, s.ringSeen f = some x ∧ x.2.2.2 = false ∧
    t = { s with bolt.rng.seen := s.bolt.rng.seen.map fun y => if y = x then (x.1, x.2.1, x.2.2.1, true) else y }

/-- The slots that an extension of register m reaches: VALID slots bound to m, and slots that name a reached slot as their
parent (spec/19 R407, R413). -/
inductive ReachedByExtension (s : State) (m : Nat) : Nat → Prop
  | bound (i : Nat) : i < 64 → (s.slot i).state = 2 → bit (s.slot i).mrsel m = true → ReachedByExtension s m i
  | child (p i : Nat) : ReachedByExtension s m p → i < 64 → (s.slot i).state ≠ 0 → (s.slot i).parent = p →
      ReachedByExtension s m i

/-- A step takes the command at the front of the queue and runs it with the rest; an empty queue idles. -/
def Obligations.StepRunsTheFrontCommand : Prop :=
  ∀ (s : State), (∀ (c : Instr) (rest : List Instr), s.pending = c :: rest → step s = exec c { s with pending := rest }) ∧
    (s.pending = [] → step s = .next s)

/-- Reset is a sound state: the stores in canonical form, nothing blown, nothing waiting, every register at its reset word. -/
def Obligations.ResetIsSound : Prop :=
  State.reset.Inv ∧ State.reset.pending = [] ∧ State.reset.fuses.lifecycle = 0 ∧ ∀ a, State.reset.rd a = regReset a

/-- From every sound state every step leaves a sound one: canonical stores, a DEPLOYED part always with an owner key. -/
def Obligations.EveryStepKeepsTheInvariant : Prop :=
  ∀ s t : State, s.Inv → step s = .next t → t.Inv

/-- No command takes a fuse back: the lifecycle never falls, a blown owner key, the unique number, root and certificate stay. -/
def Obligations.FusesOnlyGrow : Prop :=
  ∀ (s t : State) (c : Instr), s.Inv → exec c s = .next t →
    Fuses.Grow s.fuses t.fuses ∧ t.flash = s.flash ∧ t.pending = s.pending

/-- Every command answers a next state in every state, but writes to the peripheral window, which stop by name. -/
def Obligations.OnlyThePeripheralWindowStops : Prop :=
  ∀ (s : State) (c : Instr), (∃ t, exec c s = .next t) ∨ (exec c s = .fault .peripheralWindow ∧
    ∃ a : Word, rangeOf a.toNat = .periph ∧ ((∃ w v n d, c = .regWrite w a v n d) ∨
      (∃ w v, c = .loWrite w a v) ∨ (∃ w v, c = .hiWrite w a v) ∨ (∃ v d, c = .spiWrite a v d) ∨
      ∃ v n d, c = .pcieBarAccess ⟨false, a⟩ true v n d))

/-- Accesses by address: SRAM and registers are written and read, outside the map is an error, a _LO write waits for its _HI write. -/
def Obligations.AccessesByAddress : Prop :=
  (∀ (s : State) (w : Requester) (a v : Word) (n : Nat) (d : Bool), s.pathLive w = true →
    (rangeOf a.toNat = .sram → s.sourceGuarded a.toNat n = false → exec (.regWrite w a v n d) s =
      .next ((s.sramPut (a.toNat - 0x10000000) (leBytes n v.toNat)).answer w .done 0)) ∧
    (rangeOf a.toNat = .out → exec (.regWrite w a v n d) s = .next ((s.sticky 0x40000000 1).answer w .error 0))) ∧
  (∀ (s : State) (w : Requester) (a v : Word) (d : Bool), rangeOf a.toNat = .block → s.accepts w a.toNat →
    (∃ t : State, exec (.regWrite w a v 4 d) s = .next t) ∧
    (isSpool a.toNat = false ∨ d = true → a.toNat ≠ R.PAT_CTRL → halfOf a.toNat = .none → startsNothing s w a.toNat v →
      exec (.regWrite w a v 4 d) s = .next ((s.written a.toNat v).answer w .done 0))) ∧
  (∀ (s : State) (a v : Word) (n : Nat) (d : Bool), rangeOf a.toNat = .sram →
    (s.pathLive .spi = true → s.sourceGuarded a.toNat 4 = false → exec (.spiWrite a v d) s =
      .next ((s.sramPut (a.toNat - 0x10000000) (leBytes 4 v.toNat)).emit (.spiStatus 0 0))) ∧
    (s.pathLive .spi = true → exec (.spiRead ⟨a, d⟩) s =
      .next (s.emit (.spiStatus 0 (BitVec.ofNat 32 (leAt (memBytes s.bolt.sram (a.toNat - 0x10000000) 4) 0 4))))) ∧
    (s.pathLive .pcie = true → s.sourceGuarded a.toNat n = false → exec (.pcieBarAccess ⟨false, a⟩ true v n d) s =
      .next ((s.sramPut (a.toNat - 0x10000000) (leBytes n v.toNat)).emit (.access .pcie .done 0))) ∧
    (s.pathLive .pcie = true → exec (.pcieBarAccess ⟨false, a⟩ false v n d) s =
      .next (s.emit (.access .pcie .done (BitVec.ofNat 32 (leAt (memBytes s.bolt.sram (a.toNat - 0x10000000) n) 0 n)))))) ∧
  (∀ (s : State) (o v : Word) (n : Nat) (d : Bool), s.pathLive .pcie = true → o.toNat + n ≤ 1024 →
    exec (.pcieBarAccess ⟨true, o⟩ true v n d) s =
      .next ({ s with bolt.msixTable := memPut s.bolt.msixTable o.toNat (leBytes n v.toNat) }.emit (.access .pcie .done 0)) ∧
    exec (.pcieBarAccess ⟨true, o⟩ false v n d) s =
      .next (s.emit (.access .pcie .done (BitVec.ofNat 32 (leAt (memBytes s.bolt.msixTable o.toNat n) 0 n))))) ∧
  (∀ (s : State) (w : Requester) (a v : Word), rangeOf a.toNat = .block → halfOf a.toNat = .lo → a.toNat ≠ R.PAT_CTRL →
    s.accepts w a.toNat → exec (.loWrite w a v) s =
      .next (((s.countSpoolWrite a.toNat).holdLo w a.toNat v).answer w .done 0)) ∧
  (∀ (s : State) (w : Requester) (l v : Word), s.accepts w R.CNT_LOAD_HI → s.heldLo w R.CNT_LOAD_LO = some l →
    ∃ t : State, exec (.hiWrite w (BitVec.ofNat 32 R.CNT_LOAD_HI) v) s = .next t ∧ t.rd R.CNT_LOAD_LO = l ∧
      t.get F.CNT_LOAD_HI_VALUE = getBits v 0 16) ∧
  ∀ (s : State) (w : Requester) (a : Word) (d : Bool), s.pathLive w = true → rangeOf a.toNat = .block → halfOf a.toNat = .lo →
    isSpool a.toNat = false ∨ d = true → s.judge w a.toNat 4 false = .act → exec (.loRead w ⟨a, d⟩) s =
      .next (((s.readDone a.toNat).latchHigh w a.toNat).answer w .done ((s.latched w a.toNat).getD (s.viewReg a.toNat)))

/-- A release to a known receiver changes the holder and advances EPOCH by 1; one that names an absent requester changes nothing but TOP_REFUSE. -/
def Obligations.TheTokenPassesByRelease : Prop :=
  (∀ (s : State) (who : Requester) (next : Fin 4), s.accepts who R.TOP_HOST_TOKEN → s.holder who = true → next ≠ 3 →
    next.val ≠ s.get F.TOP_HOST_TOKEN_OWNER → (next = 0 ∨ s.external next.val = true) →
    ∃ t : State, exec (.tokenRelease who next) s = .next t ∧ t.get F.TOP_HOST_TOKEN_OWNER = next.val ∧
      t.get F.TOP_HOST_TOKEN_EPOCH = (s.get F.TOP_HOST_TOKEN_EPOCH + 1) % 256 ∧
      ∀ a, a ≠ R.TOP_HOST_TOKEN → t.rd a = s.rd a) ∧
  (∀ (s : State) (who : Requester) (next : Fin 4), s.accepts who R.TOP_HOST_TOKEN → s.holder who = true →
    next = 1 ∨ next = 2 → s.external next.val = false →
    ∃ t : State, exec (.tokenRelease who next) s = .next t ∧
      t.get F.TOP_HOST_TOKEN_OWNER = s.get F.TOP_HOST_TOKEN_OWNER ∧
      t.get F.TOP_HOST_TOKEN_EPOCH = s.get F.TOP_HOST_TOKEN_EPOCH ∧
      t.get F.TOP_REFUSE_REASON = 0x0110 ∧ t.get F.TOP_REFUSE_DETAIL = next.val ∧
      ∀ a, a ≠ R.TOP_HOST_TOKEN → a ≠ R.TOP_REFUSE → t.rd a = s.rd a) ∧
  ∀ (s : State) (ms : Nat), s.boltUp = true → 2 * s.get F.TOP_HOST_HB_PERIOD_MS ≤ ms → s.get F.TOP_HOST_TOKEN_OWNER ≠ 0 →
    ∃ t : State, exec (.hostHbLapse ms) s = .next t ∧ t.get F.TOP_HOST_TOKEN_OWNER = 0 ∧
      t.get F.TOP_HOST_TOKEN_EPOCH = (s.get F.TOP_HOST_TOKEN_EPOCH + 1) % 256 ∧
      (s.seamUp = true → t.spool.nvsQueue = s.spool.nvsQueue ++ [.log 1 0x01 0x0101 s.cycle
        (faultPayload (s.get F.TOP_HOST_TOKEN_OWNER) ((s.get F.TOP_HOST_TOKEN_EPOCH + 1) % 256) 0)])

/-- Token requests and denials, heartbeat, harts released, a unit enabled, checked and stopped, as the tables say. -/
def Obligations.TokenRequestsHartsAndUnits : Prop :=
  (∀ (s : State), s.accepts .spi R.TOP_HOST_TOKEN → s.on F.TOP_HOST_TOKEN_REQ_SPI = false → s.holder .spi = false →
    exec (.tokenRequest .spi true false) s =
      .next (((s.set F.TOP_HOST_TOKEN_REQ_SPI 1).irq 0x40000000 0).answer .spi .done 0)) ∧
  (∀ (s : State), s.accepts .pcie R.TOP_HOST_TOKEN → s.on F.TOP_HOST_TOKEN_REQ_PCIE = false → s.holder .pcie = false →
    exec (.tokenRequest .pcie false true) s =
      .next (((s.set F.TOP_HOST_TOKEN_REQ_PCIE 1).irq 0x40000000 0).answer .pcie .done 0)) ∧
  (∀ (s : State) (who : Requester), s.accepts who R.TOP_HOST_TOKEN → s.holder who = true → exec (.tokenDeny who) s =
    .next ((s.sets [(F.TOP_HOST_TOKEN_NEXT, s.get F.TOP_HOST_TOKEN_NEXT), (F.TOP_HOST_TOKEN_REQ_SPI, 0),
      (F.TOP_HOST_TOKEN_REQ_PCIE, 0)]).answer who .done 0)) ∧
  (∀ (s : State) (who : Requester) (p : BitVec 16), s.accepts who R.TOP_HOST_HB →
    ∃ t : State, exec (.hostHbBeat who p) s = .next t ∧ t.get F.TOP_HOST_HB_PERIOD_MS = clamp 1 1000 p.toNat) ∧
  (∀ (s : State) (who : Requester) (h : Nat), s.accepts who R.TOP_HART_RELEASE → 1 ≤ h → h ≤ 3 →
    bit s.bolt.ctl.hartsOn h = false → ∃ t : State, exec (.hartRelease who (BitVec.ofNat 32 (2 ^ h))) s = .next t ∧
      bit t.bolt.ctl.hartsOn h = true ∧ Output.hartStart h 0 ∈ t.out ∧
      bit (t.get ⟨R.TOP_HART_RELEASE, 0, 4⟩) h = true) ∧
  (∀ (s : State) (who : Requester) (v : Word), s.accepts who R.CNT_CTRL → s.on F.CNT_CTRL_ENABLE = false →
    (s.on F.CNT_STATUS_STOPPING = false → ∃ t : State, exec (.unitEnable who .cnt v) s = .next t ∧ t.get F.CNT_STATUS_STATE = 1 ∧
      t.get F.CNT_CTRL_ENABLE = 1) ∧
    (s.on F.CNT_STATUS_STOPPING = true → ∃ t : State, exec (.unitEnable who .cnt v) s = .next t ∧ t.get F.CNT_STATUS_STATE = 3 ∧
      t.get F.CNT_REFUSE_REASON = 0x0F05 ∧ t.get F.CNT_REFUSE_DETAIL = 0x0F ∧ t.get F.CNT_CTRL_ENABLE = 0)) ∧
  (∀ (s : State) (u : HUnit) (code detail : Nat), u ≠ .pat → u ≠ .altBaste → u ≠ .altAlarm → s.boltUp = true → s.spool.aon = true →
    s.get u.state = 1 → s.checkUnit u = some (code, detail) →
    let refused : State := (s.sets [(u.state, 3), (u.reason, blockId u.ctrl * 256 + code), (u.detail, detail), (u.enable, 0)]).irq
      (baseOf u.ctrl) 0
    exec (.checkDone u) s = .next (if u = .key then refused.used else refused)) ∧
  (∀ (s : State), s.boltUp = true → s.get F.CNT_STATUS_STATE = 1 → s.checkCnt = none → exec (.checkDone .cnt) s =
    .next ((s.sets [(F.CNT_STATUS_STATE, 2), (F.CNT_REFUSE_REASON, 0), (F.CNT_REFUSE_DETAIL, 0xFFFF),
      (F.CNT_DUMP_SEQ_SEQ, 0)]).irq 0x40E00000 0)) ∧
  (∀ (s : State) (who : Requester) (v : Word), s.accepts who R.CNT_CTRL → s.on F.CNT_CTRL_ENABLE = true →
    s.get F.CNT_STATUS_STATE = 2 → ∃ t : State, exec (.unitDisable who .cnt v) s = .next t ∧ t.get F.CNT_STATUS_STATE = 0 ∧
      t.get F.CNT_STATUS_STOPPING = 1 ∧ t.get F.CNT_CTRL_ENABLE = 0) ∧
  ∀ (s : State), s.boltUp = true → s.on F.CNT_STATUS_STOPPING = true →
    exec (.unitStopped .cnt) s = .next (s.set F.CNT_STATUS_STOPPING 0)

/-- A flit with a good CRC and the expected SEQ is acknowledged and acts: writes applied, reads answered, events recorded, traffic delivered. -/
def Obligations.FlitsInOrderAreAcknowledgedAndAct : Prop :=
  (∀ (s : State) (d : Die) (f : FlitBody), s.seamUp = true → s.boltUp = true →
    let go (d : Die) : State := (s.setSeamEnd d { s.seamEnd d with expect := ((s.seamEnd d).expect + 1) % 256 }).emit
      (.flit d 0xA 0 f.seq.toNat 0)
    let w := slice f.data.toNat 0 32
    let block := slice f.data.toNat 32 8
    let cause := slice f.data.toNat 40 8
    let deliver (d : Die) (type : Nat) : Step := .next ((go d).emit (.deliver d type f.ch.toNat f.data.toNat))
    let ok (d : Die) (type : Nat) : Prop := flitOk type f = true ∧ f.seq.toNat = (s.seamEnd d).expect
    let address := slice f.data.toNat 32 32
    (∀ r rest, s.bolt.ctl.rdSent = r :: rest → ok .bolt 3 → exec (.regRespFlit f) s =
      .next ({ go .bolt with bolt.ctl.rdSent := rest }.answer r.1 .done (BitVec.ofNat 32 w))) ∧ (ok d 4 → exec (.pdMsgFlit d f) s = deliver d 4) ∧
    (ok d 5 → exec (.usbFlit d f) s = deliver d 5) ∧ (ok .spool 7 → exec (.nvsReqFlit f) s = deliver .spool 7) ∧
    (ok d 8 → exec (.nvsDataFlit d f) s = deliver d 8) ∧ (ok d 9 → exec (.switchFlit d f) s = deliver d 9) ∧
    (ok .bolt 6 → s.bolt.ctl.snapLeft = 0 →
      let copied : State := { go .bolt with bolt.ctl.intCopy := putKey 0 block w s.bolt.ctl.intCopy }
      (cause = 0xFF → exec (.eventFlit f) s = .next copied.refreshInts) ∧
      (cause < 0xC0 → exec (.eventFlit f) s = .next (copied.countEvent (block * 256 + cause)).refreshInts) ∧
      (0xC0 ≤ cause → cause < 0xC7 → exec (.eventFlit f) s =
        .next { go .bolt with bolt.ctl.gateCopy := putKey 0 (cause - 0xC0) w s.bolt.ctl.gateCopy }) ∧
      (0xD0 ≤ cause → cause < 0xD6 → exec (.eventFlit f) s =
        .next { go .bolt with bolt.ctl.contractCopy := putKey 0 (cause - 0xD0) w s.bolt.ctl.contractCopy })) ∧
    (ok .bolt 6 → s.bolt.ctl.snapLeft = 1 → ∃ t : State, exec (.eventFlit f) s = .next t ∧ t.bolt.ctl.snapLeft = 0 ∧
      t.get F.SEAM_STATUS_SNAPSHOT_DONE = 1) ∧
    (ok .spool 1 → isSpool address = true → rangeOf address = .block → exec (.regWrFlit f) s =
      .next ({ go .spool with bolt.ctl.wrSent := s.bolt.ctl.wrSent.erase address }.writeAny .hub address
        (BitVec.ofNat 32 w))) ∧
    (ok .spool 2 → isSpool address = true → rangeOf address = .block → assigned address = true →
      let who := ((s.bolt.ctl.rdSent.find? fun r => r.2 = address).map (·.1)).getD .hub
      exec (.regRdFlit f) s = .next (((go .spool).readReg who address).1.sendFlit .spool 3 f.ch.toNat ((go .spool).readReg who address).2.toNat))) ∧
  ∀ (s : State) (d : Die) (f : FlitBody), s.seamUp = true → s.boltUp = true →
    let nak (d : Die) : Step := .next (s.emit (.flit d 0xB 0 ((s.seamEnd d).expect % 256) 0))
    (flitOk 0 f = true → exec (.idleFlit d f) s = .next s) ∧ (flitOk 0 f = false → exec (.idleFlit d f) s = nak d) ∧
    (flitOk 1 f = false → exec (.regWrFlit f) s = nak .spool) ∧ (flitOk 2 f = false → exec (.regRdFlit f) s = nak .spool) ∧
    (flitOk 3 f = false → exec (.regRespFlit f) s = nak .bolt) ∧ (flitOk 4 f = false → exec (.pdMsgFlit d f) s = nak d) ∧
    (flitOk 5 f = false → exec (.usbFlit d f) s = nak d) ∧ (flitOk 6 f = false → exec (.eventFlit f) s = nak .bolt) ∧
    (flitOk 7 f = false → exec (.nvsReqFlit f) s = nak .spool) ∧ (flitOk 8 f = false → exec (.nvsDataFlit d f) s = nak d) ∧
    (flitOk 9 f = false → exec (.switchFlit d f) s = nak d)

/-- ACK frees the flits it covers, a failed flit is resent with those after it until its third failure; a retrain brings the seam back. -/
def Obligations.FailedFlitsAndSeamRecovery : Prop :=
  (∀ (s : State) (d : Die) (f : FlitBody), s.seamUp = true → s.boltUp = true →
    (flitOk 0xA f = true → exec (.ackFlit d f) s = .next ((s.setSeamEnd d { s.seamEnd d with
      replay := freeFlits f.seq.toNat (s.seamEnd d).replay }).pump d 128)) ∧
    ∀ (x : TxFlit) (rest : List TxFlit), (s.seamEnd d).replay = x :: rest →
      let l := { x with sends := x.sends + 1 } :: rest
      let again : State := ((s.setSeamEnd d { s.seamEnd d with replay := l }).sat F.SEAM_RETRY_CNT_COUNT l.length).each l
        fun y s => s.emit (.flit d y.type y.ch y.seq y.data)
      (x.sends < 3 → exec (.flitAckTimeout d) s = .next again ∧
        (flitOk 0xB f = true → f.seq.toNat = x.seq → exec (.nakFlit d f) s = .next again)) ∧
      (3 ≤ x.sends → exec (.flitAckTimeout d) s = .next s.seamDown ∧
        (flitOk 0xB f = true → f.seq.toNat = x.seq → exec (.nakFlit d f) s = .next s.seamDown))) ∧
  (∀ (s : State) (d : Die), s.seamUp = true → s.boltUp = true →
    let down : State := (s.sets [(F.SEAM_STATUS_UP, 0), (F.SEAM_STATUS_SNAPSHOT_DONE, 0), (F.LAN_STATUS_SEAM_DOWN, 1)]).sat
      F.SEAM_DOWN_CNT_COUNT 1
    let cut : State := { down with
      bolt.ctl.seam := SeamEnd.reset, spool.seam := SeamEnd.reset, bolt.ctl.down := true, bolt.ctl.rdSent := []
      bolt.ctl.snapLeft := 0, bolt.heldDropped := 0 }
    let lost : State := cut.each (s.bolt.ctl.wrSent.map baseOf ++ s.bolt.ctl.rdSent.map fun r => baseOf r.2).eraseDups
      fun b s => s.sticky b 3
    exec (.seamRxTimeout d) s =
      .next (((lost.each s.bolt.ctl.rdSent fun r s => s.answer r.1 .seamDown 0).dropP10).irq 0x41000000 0)) ∧
  (∀ (s : State), s.seamUp = false → s.boltUp = true → s.on F.SEAM_CTRL_AUTO_RETRAIN = true →
    exec .seamRetrainTimer s = .next (s.set F.SEAM_CTRL_RETRAIN 1)) ∧
  (∀ (s : State) (who : Requester), s.seamUp = false → s.accepts who R.SEAM_CTRL →
    ∃ t : State, exec (.retrain who) s = .next t ∧ t.get F.SEAM_CTRL_RETRAIN = 1) ∧
  ∀ (s : State) (us : Nat), s.seamUp = false → s.boltUp = true → s.on F.SEAM_CTRL_RETRAIN = true →
    exec (.seamRetrainDone false us) s = .next (s.set F.SEAM_CTRL_RETRAIN 0) ∧
    (s.on F.TMP_STATUS_PENDING = false → s.spool.pwr.alarm = 0 → s.spool.lan.queue = [] → s.spool.usb.waiting = [] →
      s.spool.pwr.entry = 0 → s.bolt.ctl.down = true → s.bolt.heldDropped = 0 → s.bolt.keys.run = none →
      ∃ t : State, exec (.seamRetrainDone true us) s = .next t ∧ t.get F.SEAM_STATUS_UP = 1 ∧ t.get F.SEAM_STATUS_SNAPSHOT_DONE = 0 ∧ t.bolt.ctl.snapLeft = 20 ∧
        t.get F.SEAM_LOST_WR_COUNT = min 16 s.bolt.ctl.wrSent.length ∧ t.bolt.ctl.wrSent = [] ∧ t.bolt.ctl.down = false ∧
        t.bolt.held = [] ∧ t.bolt.heldItems = [] ∧
        t.spool.nvsQueue = s.spool.nvsQueue ++ s.bolt.held ++ s.bolt.heldItems ++ [.log 1 0x11 0x1101 s.cycle
          (faultPayload (min us (2 ^ 32 - 1)) (min 16 s.bolt.ctl.wrSent.length) (t.get F.SEAM_LOST_WR_ADDR_ADDR))])

/-- CLEAR sets the selected counter to 0, LOAD sets it to CNT_LOAD, CLEAR_GROUP clears its group; every other counter stays. -/
def Obligations.CounterCommandsSetTheirCounters : Prop :=
  ∀ (s : State) (who : Requester), s.accepts who R.CNT_CMD →
    (∃ t : State, exec (.counterClear who) s = .next t ∧ t.counter (s.get F.CNT_SEL_ID) = 0 ∧
      (∀ id, id ≠ s.get F.CNT_SEL_ID → t.counter id = s.counter id) ∧ ∀ a, a ≠ R.CNT_CMD → t.rd a = s.rd a) ∧
    (∃ t : State, exec (.counterLoad who) s = .next t ∧
      t.counter (s.get F.CNT_SEL_ID) = (s.get F.CNT_LOAD_LO_VALUE + 2 ^ 32 * s.get F.CNT_LOAD_HI_VALUE) % 2 ^ 48 ∧
      (∀ id, id ≠ s.get F.CNT_SEL_ID → t.counter id = s.counter id) ∧ ∀ a, a ≠ R.CNT_CMD → t.rd a = s.rd a) ∧
    ∀ (g : Fin 8), ∃ t : State, exec (.clearGroup who g) s = .next t ∧
      (∀ id, t.counter id = if counterGroup id = g.val then 0 else s.counter id) ∧ ∀ a, a ≠ R.CNT_CMD → t.rd a = s.rd a

/-- A counter at 2^48 - 1 wraps to 0 and marks its group; a hart's counter at a multiple of PERIOD latches the hart's address. -/
def Obligations.CountersWrapAndSample : Prop :=
  (∀ (s : State) (id : Fin 3800), s.boltUp = true → s.counter id = 2 ^ 48 - 1 → s.watchers 0x0F03 = [] →
    ∃ t : State, exec (.counterWrap id) s = .next t ∧ t.counter id = 0 ∧ bit (t.get F.CNT_WRAP_GROUPS) (counterGroup id) = true ∧
      t.bolt.wrapped = s.bolt.wrapped ++ [id.val] ∧ ∀ a, a ≠ R.CNT_WRAP → a ≠ 0x40E00008 → t.rd a = s.rd a) ∧
  ∀ (s : State) (h : Fin 4) (pc : BitVec 64), s.pathLive (.hart h) = true → s.on (F.CNT_SAMP_CFG_EN h) = true →
    s.get (F.CNT_SAMP_PERIOD_PERIOD h) ≠ 0 → s.get (F.CNT_SAMP_CFG_COUNTER h) ≤ 5 →
    ∃ t : State, exec (.samplePeriod h pc) s = .next t ∧ t.get (F.CNT_SAMP_PC_LO_PC h) = slice pc.toNat 0 32 ∧
      t.get (F.CNT_SAMP_PC_HI_PC h) = slice pc.toNat 32 32 ∧ bit t.bolt.mip16 h = true ∧ bit t.bolt.sampUnread h = true ∧
      (bit s.bolt.sampUnread h = true → t.get F.CNT_SAMP_LOST_COUNT =
        satAdd F.CNT_SAMP_LOST_COUNT.width (s.get F.CNT_SAMP_LOST_COUNT) 1)

/-- Dumps, NVS snapshots and NVS writes: what waits, what is written and what moves on. -/
def Obligations.DumpsSnapshotsAndRecords : Prop :=
  (∀ (s : State) (who : Requester), s.accepts who R.CNT_DUMP_NOW →
    exec (.dumpNow who) s = .next ((s.written R.CNT_DUMP_NOW 1).answer who .done 0)) ∧
  (∀ (s : State) (sn : Snapshot), s.boltUp = true → s.bolt.snapshot = some sn →
    let slot := s.get F.CNT_DUMP_WR_SLOT
    let base := s.get F.CNT_DUMP_BASE_LO_ADDR + 2 ^ 32 * s.get F.CNT_DUMP_BASE_HI_ADDR + 36864 * slot
    let bytes := dumpBytes sn (s.get F.CNT_DUMP_SEQ_SEQ) (s.get F.RNG_ADDR_ADDR)
    let put : State := if s.on F.CNT_CTRL_DEST then s.emit (.hostWrite base bytes) else s.sramStore (base - 0x10000000) bytes
    exec .dumpDone s = .next ({ put.sets [(F.CNT_DUMP_WR_SLOT, (slot + 1) % max 1 (s.get F.CNT_DUMP_RING_SLOTS)),
      (F.CNT_STATUS_DUMPING, 0)] with bolt.snapshot := none }.irq 0x40E00000 1)) ∧
  (∀ (s : State) (who : Requester) (n : BitVec 8), s.accepts who R.CNT_NVS_CTRL → s.seamUp = false → s.snapshotWaits = false →
    ∃ t : State, exec (.nvsSnapshot who n) s = .next t ∧ t.get F.CNT_REFUSE_REASON = 0x0F05 ∧ t.get F.CNT_REFUSE_DETAIL = 0x11 ∧
      t.get F.CNT_NVS_CTRL_GO = 0 ∧ t.spool.nvsQueue = s.spool.nvsQueue) ∧
  (∀ (s : State) (who : Requester) (n : BitVec 8), s.accepts who R.CNT_NVS_CTRL → s.seamUp = true → s.snapshotWaits = false → n = 0 →
    ∃ t : State, exec (.nvsSnapshot who n) s = .next t ∧ t.spool.nvsQueue = s.spool.nvsQueue ++
      [.progress 10 2 0x0F s.cycle (snapshotProgress 1 (s.get F.CNT_DUMP_SEQ_SEQ) s.cycle 0),
       .snapshot 0x7800 (snapshotBytes (s.get F.CNT_DUMP_SEQ_SEQ) s.cycle [])] ∧ t.get F.CNT_NVS_CTRL_GO = 1) ∧
  (∀ (s : State), s.spool.nvsQueue = [] → exec .nvsWriteDone s = .next s) ∧
  (∀ (s : State) (op : NvsOp) (rest : List NvsOp), s.spool.nvsQueue = op :: rest → (∀ a bs, op ≠ .snapshot a bs) →
    (rest = [] → exec .nvsWriteDone s = .next ({ s with spool.nvsQueue := [] }.applyNvs op)) ∧
    ∀ o r, nextWrite rest = some (o, r) → exec .nvsWriteDone s = .next ({ s with spool.nvsQueue := o :: r }.applyNvs op)) ∧
  (∀ (s : State) (a : Nat) (bs : List Byte), s.spool.nvsQueue = [.snapshot a bs] → s.boltUp = true →
    ∃ t : State, exec .nvsWriteDone s = .next t ∧ t.get F.CNT_NVS_CTRL_GO = 0 ∧ bit (t.rd 0x40E00008).toNat 4 = true) ∧
  ∀ (s : State) (who : Requester), s.accepts who R.NVS_CMD →
    (s.fuses.lifecycle ≠ 2 → ∃ t : State, exec (.wipeLog who) s = .next t ∧ t.get F.NVS_CMD_STATUS_REASON = 0 ∧
      t.spool.logCount = 0 ∧ t.spool.nvs = s.spool.nvs.filter (fun c => decide (c.1 < 0x40000))) ∧
    (s.fuses.lifecycle ≠ 2 → (s.progInForce.any progOpen) = false → ∃ t : State, exec (.wipeProg who) s = .next t ∧
      t.get F.NVS_CMD_STATUS_REASON = 0 ∧
      t.spool.nvs = s.spool.nvs.filter (fun c => decide (c.1 < 0x1400) || decide (0x7800 ≤ c.1))) ∧
    (s.fuses.lifecycle = 2 → (∃ t : State, exec (.wipeLog who) s = .next t ∧ t.get F.NVS_CMD_STATUS_REASON = 0x2610 ∧
        t.spool.nvs = s.spool.nvs) ∧
      ∃ t : State, exec (.wipeProg who) s = .next t ∧ t.get F.NVS_CMD_STATUS_REASON = 0x2610 ∧ t.spool.nvs = s.spool.nvs)

/-- TIME messages, timing sources, holdover, PPS and the references: what each event of the clock unit does. -/
def Obligations.RingTimeFollowsAndFallsBack : Prop :=
  (∀ (s : State) (p : Fin 2), s.boltUp = true → (s.trunkTime p).live = true → 4 ≤ (s.trunkTime p).since →
    exec (.timeSourceLost p) s = .next (s.setTrunkTime p { s.trunkTime p with live := false }).reviewSource) ∧
  (∀ (s : State), s.boltUp = true → s.get F.CLK_STATUS_SYNC = syLocked ∨ s.get F.CLK_STATUS_SYNC = syHoldover →
    8 ≤ s.bolt.time.outside → exec .timeFault s = .next (({ s with bolt.time := { s.bolt.time with
      run := [], integral := 0, stepped := false, inside := 0, outside := 0 } }.set F.CLK_STATUS_SYNC syAcquire).irq bClk 9).rejoin) ∧
  (∀ (s : State), s.boltUp = true → s.get F.CLK_STATUS_SYNC = syHoldover → 8000 ≤ s.bolt.time.holdover →
    exec .holdoverLong s = .next (s.set F.CLK_STATUS_HOLDOVER_LONG 1)) ∧
  (∀ (s : State) (t : BitVec 72) (falling : Bool), s.boltUp = true → s.isOn .clk = true → s.isMaster = true →
    s.on F.CLK_CTRL_PPS_EN = true → s.on F.CLK_CTRL_PPS_EDGE = falling → s.get F.CLK_STATUS_SYNC = syFree →
    s.bolt.time.ppsLast = none →
    let r := s.timeReaches t.toNat
    exec (.ppsEdge t falling) s =
      .next ((((r.set F.CLK_PPS_ERR_ERR (satSigned 32 (ppsError t.toNat (r.get F.CLK_PPS_OFFSET_NS)))).ppsTake t.toNat 1
        r.bolt.time.ppsRatio 0).set F.CLK_STATUS_SYNC syPpsAcquire).irq bClk 2)) ∧
  (∀ (s : State) (t : BitVec 72), s.boltUp = true →
    s.get F.CLK_STATUS_SYNC = syPpsAcquire ∨ s.get F.CLK_STATUS_SYNC = syPpsLocked →
    s.bolt.time.ppsWait + 384000000000 ≤ t.toNat → exec (.ppsLost t) s =
      .next (({ s with bolt.time := { s.bolt.time with ppsLast := none, ppsGood := 0, ppsLeft := 0 } }.set
        F.CLK_STATUS_SYNC syFree).irq bClk 3)) ∧
  (∀ (s : State) (p : Fin 2) (m : TimeMsg) (t4 : BitVec 72), s.boltUp = true →
    let r := s.timeReaches t4.toNat
    let old := r.trunkTime p
    let shown := if p = 0 then F.CLK_DELAY_E_DELAY else F.CLK_DELAY_W_DELAY
    let d : Int := ((m.echoT2.toNat - m.echoT1.toNat : Int) + (t4.toNat - m.tTx.toNat)) / 2
    let heard (ds : List Int) : State := ((r.setTrunkTime p { old with
      lastTx := m.tTx.toNat, lastAt := t4.toNat, delays := ds, since := 0, live := true
      hops := m.hops.toNat, master := m.master.toNat, epoch := m.epoch.toNat, sync := m.sync.toNat
      meas := ((m.tTx.toNat, r.bolt.time.ticks) :: old.meas).take 65 }).set shown (ofSigned 32 (meanDelay ds))).reviewSource
    (m.echoT1 = 0 → exec (.timeRx p m t4) s = .next (heard old.delays)) ∧
    let t := heard ((d :: old.delays).take 64)
    let off : Int := t4.toNat - m.tTx.toNat - (meanDelay ((d :: old.delays).take 64) + t.asym p / 2)
    (m.echoT1 ≠ 0 → old.delays = [] ∨ (d - meanDelay old.delays).natAbs ≤ 1280 →
      (t.bolt.time.source ≠ some p.val → exec (.timeRx p m t4) s = .next t) ∧
      (t.bolt.time.source = some p.val → t.isOn .clk = true → t.isMaster = false → exec (.timeRx p m t4) s =
        .next ((t.set F.CLK_OFFSET_OFFSET (satSigned 32 off)).judgeOffset p off (some d)
          (m.tTx.toNat + d + t.asym p / 2).toNat)))) ∧
  (∀ (s : State), s.boltPowered = true → s.spool.boltHeld = false → s.spool.refclk = true → s.bolt.running = false →
    s.bolt.testN = true → ∃ t : State, exec .rootPllLock s = .next t ∧ t.bolt.running = true ∧ t.bolt.ctl.hartsOn = 1 ∧
      t.get F.CLK_STATUS_PLL_LOCK = 1 ∧ t.get F.CLK_STATUS_REFCLK_OK = 1 ∧ t.out = .hartStart 0 0 :: s.out) ∧
  ∀ (s : State) (q : Fin 3) (ppm : Nat), s.boltPowered = true → s.spool.boltHeld = false →
    (ppm ≤ 300 → exec (.pcieRefCheck q ppm) s = .next (s.setB F.CLK_STATUS_PCIE_REF_OK q)) ∧
    (300 < ppm → s.isOn (.pcbQuad q) = false → s.bolt.bootLink = false → bit (s.get F.CLK_STATUS_PCIE_REF_OK) q = true →
      ∃ t : State, exec (.pcieRefCheck q ppm) s = .next t ∧ bit (t.get F.CLK_STATUS_PCIE_REF_OK) q = false)

/-- Firmware's record: FLT_SW0 to FLT_SW9 with CODE and GO; a CODE outside 0x10F0 to 0x10FF is refused with 0x1010. -/
def Obligations.FirmwareWritesItsOwnRecord : Prop :=
  ∀ (s : State) (who : Requester) (code : BitVec 16), s.accepts who R.FLT_SW_CMD →
    let op : NvsOp := .log 1 0x10 code.toNat s.cycle ((List.range 10).flatMap fun i => leBytes 4 (s.rd (R.FLT_SW i)).toNat)
    (0x10F0 ≤ code.toNat → code.toNat ≤ 0x10FF → ∃ t : State, exec (.fltSwRecord who code) s = .next t ∧
      t.get F.FLT_SW_STATUS_REASON = 0 ∧ (s.seamUp = true → t.spool.nvsQueue = s.spool.nvsQueue ++ [op]) ∧
      (s.seamUp = false → s.bolt.held.length < 64 → t.bolt.held = s.bolt.held ++ [op])) ∧
    (code.toNat < 0x10F0 ∨ 0x10FF < code.toNat → ∃ t : State, exec (.fltSwRecord who code) s = .next t ∧
      t.get F.FLT_SW_STATUS_REASON = 0x1010 ∧ t.spool.nvsQueue = s.spool.nvsQueue ∧ t.bolt.held = s.bolt.held)

/-- Line bits lose their tack bits; 528 make a stitch, which acts by its type; four good ones lock a lane, eight bad ones or a lost signal unlock it. -/
def Obligations.StitchesAreReceived : Prop :=
  (∀ (s : State) (t : LineRx), s.boltUp = true → s.bring (lanePort t.lane) ≠ 0 → s.on (F.LANE_PRBS_STATUS_RAW t.lane) = false →
    let l := t.lane.val
    let u := tackOut t.bits (s.lane l).rawLast (s.lane l).rawRun
    let came : State := (s.setLane l { s.lane l with
      rawLast := u.last, rawRun := u.run, tackNow := (s.lane l).tackNow + u.tacks }).sat (F.LANE_TACK_VIOL l) u.viols
    let done : Step := .next (((came.ebRead (lanePort l) t.reads).bitsIn l (u.bits.length + 1) u.bits).lineReview l)
    exec (.frameRx t) s = done ∧ exec (.frameStitchRx t.lane ⟨t.bits, t.reads⟩) s = done ∧ exec (.frayRx t) s = done ∧
    exec (.idleStitchRx t.lane ⟨t.bits, t.reads⟩) s = done ∧ exec (.ctrlStitchRx t) s = done ∧ exec (.keepaliveRx t) s = done ∧
    ∀ before marker payload, t.bits = before ++ marker ++ payload → exec (.alignRx t.lane before marker payload t.reads) s = done) ∧
  (∀ (x : LaneSt) (b inv : Bool), x.rxBits.length = 527 → candGood x.cands ((x.phase + 1) % 528) inv = 3 →
    stOk (stitchFrom (x.rxBits ++ [b]) inv) = true → stOk (stitchFrom (x.rxBits ++ [b]) (!inv)) = false →
    (searchBit x b).2 = some inv) ∧
  (∀ (s : State) (l n : Nat) (bits : List Bool), s.lockLost l = false → (s.lane l).rxBits = [] → bits.length = 528 →
    s.bitsIn l (n + 1) bits = (s.setLane l { s.lane l with rxBits := [] }).stitchIn l
      (stitchFrom bits (s.on (F.LANE_STATUS_RX_INV l)))) ∧
  (∀ (s : State) (l : Nat) (t : Stitch),
    let s1 := s.lineRx l t
    let row : RowStitch := ⟨stType t, stSeq t, stOk t, s.descr l t⟩
    let was := (s.port (lanePort l)).deskewed
    (stOk t = false → s.lockLost l = false → (s.lane l).rxBad = 7 → s1.lockLost l = true) ∧
    (s1.lockLost l = true → s.stitchIn l t = s1) ∧
    (s1.lockLost l = false →
      (stType t = tyKeep → s.stitchIn l t = s1.keepIn l (stOk t) (s.descr l t)) ∧
      (stType t = tyAlign → stOk t = true → s.stitchIn l t = (s1.alignIn l t).rowPush l row was) ∧
      (stType t = tyIdle → s.stitchIn l t = (s1.idleCount l t (s.descr l t)).rowPush l row was) ∧
      (stType t ≠ tyKeep → stType t ≠ tyAlign → stType t ≠ tyIdle → s.stitchIn l t = s1.rowPush l row was))) ∧
  (∀ (s : State) (p pos q : Nat) (ok : Bool) (d : BitVec 512), (s.port p).hunting = false →
    s.rowStitch p pos ⟨tyFrame, q, ok, d⟩ = s.frameIn p pos ⟨tyFrame, q, ok, d⟩ ∧
    s.rowStitch p pos ⟨tyFray, q, ok, d⟩ = s.frayRx p ⟨tyFray, q, ok, d⟩ ∧
    s.rowStitch p pos ⟨tyCtrl, q, false, d⟩ = s.sat (F.LANE_PORT_CTRL_DROP_CTRL_BAD_CHK p) 1 ∧
    (7 ≤ s.bring p → s.bring p ≤ 9 → d.toNat % 256 < 4 →
      s.rowStitch p pos ⟨tyCtrl, q, true, d⟩ = s.emit (.ctrl p (d.toNat % 256) (d.toNat / 256))) ∧
    (7 ≤ s.bring p → s.bring p ≤ 9 → 4 ≤ d.toNat % 256 →
      s.rowStitch p pos ⟨tyCtrl, q, true, d⟩ = s.sat (F.LANE_PORT_CTRL_DROP_KIND_UNKNOWN p) 1)) ∧
  (∀ (s : State) (l : Nat) (t : Stitch) (d : BitVec 512) (r : Nat), s.laneRow l = some r → r % 16 = stSeq t → popCount 512 d.toNat ≠ 0 →
    s.idleCount l t d = (s.count (4 * l + 3) 512).count (4 * l + 2) (popCount 512 d.toNat)) ∧
  (∀ (s : State) (l k : Fin 20) (t : Stitch), k ∈ (portLanes (lanePort l)).map (Fin.ofNat 20) → k ≠ l →
    (s.lane k).alignRow ≠ some (slice t.payload.toNat 480 32) →
    (s.alignIn l t).get (F.LANE_STATUS_POS l) = slice t.payload.toNat 447 2 ∧ (s.alignIn l t).get (F.LANE_STATUS_SCR_LOCK l) = 1) ∧
  (∀ (s : State) (l : Fin 20) (d : BitVec 512), (s.lane l).rxScr.isSome = true → s.bring (lanePort l) = 6 →
    s.compatible (lanePort l) d.toNat = false → ∃ x : State, s.keepIn l true d = x.portFault (lanePort l) 7 ∧
      x.get (F.LANE_PORT_PARTNER_RX_STATE (lanePort l)) = slice d.toNat 508 4) ∧
  ∀ (s : State) (l : Fin 20), s.boltUp = true → s.bring (lanePort l) ≠ 0 →
    let dark : State := s.sets [(F.LANE_STATUS_SIGDET l, 0), (F.LANE_STATUS_CDR_LOCK l, 0)]
    exec (.signalLoss l) s = .next ((dark.dropLock l).lineReview l) ∧ (dark.dropLock l).lockLost l = true

/-- Bring-up: each event takes a port unit from its state to the next, a limit missed takes it to FAULT with the cause of that state. -/
def Obligations.BringUpAdvances : Prop :=
  (∀ (s : State) (p : Fin 8), s.boltUp = true →
    (s.bring p = 2 → ∃ t : State, exec (.cdrLock p) s = .next t ∧ t.bring p = 3) ∧
    (∀ eyes, s.bring p = 3 → ∃ t : State, exec (.eqDone p eyes) s = .next t ∧ t.bring p = 4 ∧
      ∀ i l, (portLanes p)[i]? = some l → t.get (F.LANE_STATUS_EQ_DONE l) = 1 ∧
        (s.on (F.LANE_RX_CTLE_AUTO l) = true → t.get (F.LANE_RX_CTLE l) = widest (eyes.getD i []))) ∧
    (2 ≤ s.bring p → s.bring p ≤ 6 → ∃ t : State, exec (.bringTimeout p) s = .next t ∧ t.bring p = 11 ∧
      t.get (F.LANE_PORT_ATTEMPT_LAST_FAIL p) = s.bring p) ∧
    (s.bring p = 11 → ∃ t : State, exec (.faultRetry p) s = .next t ∧ t.bring p = 1) ∧
    (s.bring p = 10 → ∃ t : State, exec (.closingDone p) s = .next t ∧ t.bring p = 0 ∧
      t.get (F.LANE_PORT_STATUS_STATE p) = 0 ∧ t.get (F.LANE_PORT_STATUS_STOPPING p) = 0) ∧
    (s.bring p ≠ 0 → ∃ t : State, exec (.signalStable p) s = .next t ∧ ∀ l ∈ portLanes p, t.get (F.LANE_STATUS_SIGDET l) = 1) ∧
    (2 ≤ p.val → s.inAlt p = true → s.bring p = 9 → exec (.dockWindowEnd p) s =
      .next (s.setPort p { s.port p with window := ((s.port p).window + 1) % 3 })) ∧
    ((s.port p).sending = true → exec (.alignTx p) s = .next (s.alignRow p) ∧
      ((s.port p).onWire = none → exec (.idleRowTx p) s = .next ((s.readySlot p).idleRow p)) ∧
      ∀ (pos : Fin 4) l, (portLanes p)[pos.val]? = some l → s.keepMay p l = true →
        exec (.keepaliveTx p pos) s = .next (s.sendKeep p pos))) ∧
  (∀ (s : State) (p : Fin 8), s.boltUp = true → (s.port p).sending = true →
    ∃ t : State, exec (.alignIntervalEnd p) s = .next t ∧
      ∀ l ∈ portLanes p, (t.lane l).txTacks = 0 ∧ t.get (F.LANE_TACK_LAST l) = min (s.lane l).txTacks 65535) ∧
  (∀ (s : State) (who : Requester) (p : Fin 8) (v : Word), s.accepts who (R.LANE_PORT_CTRL p) →
    let w : State := s.written (R.LANE_PORT_CTRL p) (setBits v 0 1 0)
    (s.get (F.LANE_PORT_STATUS_STATE p) = 2 →
      exec (.portDisable who p v) s = .next ((w.portClose p).answer who .done 0)) ∧
    (s.get (F.LANE_PORT_STATUS_STATE p) = 1 →
      exec (.portDisable who p v) s = .next ((w.set (F.LANE_PORT_STATUS_STATE p) 0).answer who .done 0))) ∧
  (∀ (s : State) (l : Fin 20) (k : Fin 12) (signs : List (Bool × Bool)), s.boltUp = true → s.dfeRuns l = true →
    let tap : Fld := ⟨R.LANE_DFE_TAP l (k.val / 3), 8 * (k.val % 3), 8⟩
    let limit : Int := if k.val = 0 then 127 else 63
    let votes := (s.lane l).votes.getD k.val (0, 0)
    (∃ t : State, exec (.dfeTapStep l k signs) s = .next t ∧
      t.get tap = ofSigned 8 (signs.foldl (dfeVote (s.get (F.LANE_DFE_CTRL_MU_SHIFT l)) limit) (toSigned 8 (s.get tap), votes)).1) ∧
    (votes = (0, 0) → s.get (F.LANE_DFE_CTRL_MU_SHIFT l) = 0 → ∃ t : State,
      exec (.dfeTapStep l k (List.replicate 8 (true, true))) s = .next t ∧
      t.get tap = ofSigned 8 (min limit (toSigned 8 (s.get tap) + 1)))) ∧
  ∀ (s : State) (who : Requester) (l : Fin 20) (v : Word), s.accepts who (R.LANE_DFE_CTRL l) →
    ∃ t : State, exec (.dfeLoad who l v) s = .next t ∧ t.get (F.LANE_DFE_CTRL_LOAD l) = 0 ∧
      ∀ k, k < 4 → t.rd (R.LANE_DFE_TAP l k) = s.rd (R.LANE_DFE_PRE l k)

/-- PRBS generators and checkers, and the module managers: what their commands and events do. -/
def Obligations.PrbsAndModules : Prop :=
  (∀ (s : State) (who : Requester) (l : Fin 20) (v : Word), s.accepts who (R.LANE_PRBS_CTRL l) →
    (s.laneHeld l = true → getBits v 0 2 ≠ 0 → exec (.prbsCtrlWrite who l v) s = .next ((s.sticky bLane 0).answer who .done 0)) ∧
    (s.laneHeld l = false → getBits v 0 6 = 3 → ∃ t : State, exec (.prbsCtrlWrite who l v) s = .next t ∧
      t.get (F.LANE_PRBS_STATUS_RAW l) = 1 ∧ t.get (F.LANE_PRBS_CTRL_GEN l) = 1 ∧ t.get (F.LANE_PRBS_CTRL_CHK l) = 1) ∧
    (s.laneHeld l = false → getBits v 0 6 = 1 → ∃ t : State, exec (.prbsInject who l v) s = .next t ∧
      Output.prbsFlip l ∈ t.out ∧ t.get (F.LANE_PRBS_CTRL_INJECT l) = 0) ∧
    (getBits v 0 6 = 0 → (∃ t : State, exec (.prbsInject who l v) s = .next t ∧ t.get (F.LANE_PRBS_CTRL_INJECT l) = 1) ∧
      ∃ t : State, exec (.prbsClear who l v) s = .next t ∧ t.counter (4 * l) = 0 ∧ t.counter (4 * l + 1) = 0)) ∧
  (∀ (s : State) (l : Fin 20) (first last rest : List Bool) (x : PrbsChk) (n e : Nat), s.boltUp = true → s.on (F.LANE_PRBS_CTRL_CHK l) = true →
    let poly := s.get (F.LANE_PRBS_CTRL_POLY l)
    let bits := first ++ last
    let line := bits.map fun b => b != s.on (F.LANE_PRBS_CTRL_CHK_INV l)
    (s.on (F.LANE_PRBS_STATUS_LOCK l) = false → chkBits poly false line (s.lane l).prbs 0 0 = (x, n, e, []) →
      (256 ≤ x.run → exec (.prbsLock l first last) s =
        .next (((((s.setLane l { s.lane l with prbs := { x with run := 0, window := [] } }).set (F.LANE_PRBS_STATUS_LOCK l) 1).ntLock
          l true)).prbsIn l bits.length [])) ∧
      (x.run < 256 → exec (.prbsLock l first last) s = .next (s.setLane l { s.lane l with prbs := x }))) ∧
    (s.on (F.LANE_PRBS_STATUS_LOCK l) = true → chkBits poly true line (s.lane l).prbs 0 0 = (x, n, e, rest) →
      32 < (x.window.filter id).length →
      let counted : State := (s.count (4 * l + 1) n).count (4 * l) e
      exec (.prbsLost l first last) s = .next (((((counted.setLane l { counted.lane l with prbs := PrbsChk.reset }).set
        (F.LANE_PRBS_STATUS_LOCK l) 0).irq bLane 6).ntLock l false).prbsIn l bits.length rest))) ∧
  (∀ (s : State) (t : Fin 2), s.boltUp = true → s.bolt.pat.inForce.media.getD t 0 = 0 → s.on (F.LANE_MOD_CTRL_AUTO t) = true →
    ((s.mod t).inserted = false → exec (.modPresent t) s =
      .next (((s.setMod t { s.mod t with inserted := true, waitMs := 0 }).set (F.LANE_MOD_STATUS_PRESENT t) 1).emit (.modBus t 0 0 0))) ∧
    ((s.mod t).inserted = true → s.on (F.LANE_MOD_STATUS_READY t) = false → (s.mod t).cmd = none →
      exec (.modReadyPoll t false) s = .next ((s.set (F.LANE_MOD_STATUS_READY t) 1).tryCdr t) ∧
      ((s.mod t).waitMs = 1990 → exec (.modReadyPoll t true) s =
        .next ((s.setMod t { s.mod t with waitMs := 2000 }).irq bLane 4))) ∧
    ((s.mod t).inserted = true → exec (.modRemoved t) s = .next (((s.setMod t { s.mod t with inserted := false }).sets
        [(F.LANE_MOD_STATUS_PRESENT t, 0), (F.LANE_MOD_STATUS_READY t, 0)]).irq bLane 4)) ∧
    ∀ (rx tx : BitVec 4) (temp : BitVec 16), (s.mod t).inserted = true →
      let shown : State := s.sets [(F.LANE_MOD_STATUS_INT t, 1), (F.LANE_MOD_STATUS_RX_LOS t, rx.toNat),
        (F.LANE_MOD_STATUS_TX_LOS t, tx.toNat), (F.LANE_MOD_STATUS_TEMP t, temp.toNat)]
      ((s.mod t).cmd = none → ∀ more, more = true ∨ (s.mod t).goWait = none → exec (.modPoll t true ⟨rx, tx⟩ temp more) s =
        .next (shown.setMod t { shown.mod t with polling := more })) ∧
      ((s.mod t).cmd.isSome = true → ∀ more, exec (.modPoll t true ⟨rx, tx⟩ temp more) s =
        .next (s.setMod t { s.mod t with pollWait := some (true, rx.toNat, tx.toNat, temp.toNat) }))) ∧
  (∀ (s : State) (who : Requester) (t : Fin 2) (v : Word), s.accepts who (R.LANE_MOD_CTRL t) →
    exec (.modReset who t v) s = .next (((((s.written (R.LANE_MOD_CTRL t) (v ||| 2)).set (F.LANE_MOD_CTRL_RESET t) 0).emit
      (.modBus t 0 0 0)).driveLp t).answer who .done 0)) ∧
  (∀ (s : State) (who : Requester) (t : Fin 2) (o : BitVec 8), s.accepts who (R.LANE_MOD_CMD t) → (s.mod t).cmd = none → (s.mod t).goWait = none →
    (s.mod t).polling = false → s.bolt.mods.length = 2 →
    (∃ x : State, exec (.modCmdRead who t o) s = .next x ∧ ∃ d, (x.mod t).cmd = some (o.toNat, false, d)) ∧
    ∃ x : State, exec (.modCmdWrite who t o) s = .next x ∧ (x.mod t).cmd = some (o.toNat, true, s.get (F.LANE_MOD_DATA_DATA t))) ∧
  ∀ (s : State) (t : Fin 2) (c : Nat × Bool × Nat) (ack : Bool) (d : BitVec 8), s.boltUp = true → (s.mod t).cmd = some c → c.2.1 = true →
    let ended : State := (((s.setMod t { s.mod t with cmd := none, pollWait := none, readyWait := none }).sets
      [(F.LANE_MOD_CMD_GO t, 0), (F.LANE_MOD_DATA_NACK t, b2n (!ack))]).emit (.modSel t false)).irq bLane 5
    ((s.mod t).pollWait = none → (s.mod t).readyWait = none → exec (.modCmdDone t ack d) s = .next ended) ∧
    ∀ x, (s.mod t).pollWait = some x → (s.mod t).readyWait = none → exec (.modCmdDone t ack d) s = .next (ended.modShow t x)

/-- RELIABLE frames are delivered in order, held ahead of a gap and acknowledged; DATAGRAM frames follow their bucket's path and its knots. -/
def Obligations.ReliableAndDatagramTunnels : Prop :=
  (∀ (s : State) (f : Frame) (i : Nat), s.boltUp = true → s.isOn .tun = true → s.entryOf f.hdr.tunnel.toNat = some i →
    (s.entry i).sink = true → (s.entry i).service = svReliable →
    let d := (f.hdr.seq.toNat + 65536 - (s.entry i).rcvNxt) % 65536
    let seen : State := s.mapEntry i fun e => { e with
      lastGen := f.hdr.gen.toNat, lastSrc := f.hdr.src.toNat, sinceAck := e.sinceAck + 1 }
    (d = 0 → (s.entry i).held = [] → (s.entry i).sinceAck + 1 < s.get F.TUN_ARQ_CFG_ACK_EVERY →
      ∃ t : State, exec (.reliableDataRx f) s = .next t ∧ (t.entry i).rcvNxt = ((s.entry i).rcvNxt + 1) % 65536 ∧
        (t.entry i).sinceAck = (s.entry i).sinceAck + 1 ∧ t.out = .service i f :: s.out ∧ ∀ j, j ≠ i → t.entry j = s.entry j) ∧
    (0 < d → d ≤ 255 → ((s.entry i).held.any fun x => x.1 = f.hdr.seq.toNat) = false → exec (.reliableDataRx f) s =
      .next (((seen.mapEntry i fun e => { e with held := e.held ++ [(f.hdr.seq.toNat, f)] }).holdCells i f).sendAck i)) ∧
    (0 < d → d ≤ 255 → ((s.entry i).held.any fun x => x.1 = f.hdr.seq.toNat) = true → exec (.reliableDataRx f) s = .next (seen.sendAck i)) ∧
    (32768 ≤ d → exec (.reliableDataRx f) s = .next ((seen.count (81 + 3 * i) 1).sendAck i)) ∧
    (255 < d → d < 32768 → exec (.reliableDataRx f) s = .next (s.count (82 + 3 * i) 1))) ∧
  (∀ (s : State) (f : Frame) (i : Nat), s.boltUp = true → s.isOn .tun = true → s.entryOf f.hdr.tunnel.toNat = some i →
    (s.entry i).source = true → (s.entry i).service = svReliable → leAt f.payload 0 8 = 0 → s.bolt.swb.frames = [] →
    (∀ x ∈ s.bolt.tun, x.2.dead = false) → (s.entry i).credit = false ∨ f.payload.length ≠ 40 →
    (f.hdr.seq.toNat + 65536 - (s.entry i).una) % 65536 ≤ ((s.entry i).nxt + 65536 - (s.entry i).una) % 65536 →
    f.hdr.seq.toNat ≠ (s.entry i).una → ∃ t : State, exec (.reliableAckRx f) s = .next t ∧
      (t.entry i).una = f.hdr.seq.toNat ∧ (t.entry i).expiries = 0 ∧ (t.entry i).timer = 0 ∧ (t.entry i).bitmap = 0) ∧
  (∀ (s : State) (i : Fin 1024) (bits : Nat), s.boltUp = true → (s.entry i).valid = true → (s.entry i).service = svReliable →
    (s.entry i).dead = false → (s.entry i).una ≠ (s.entry i).nxt → (s.entry i).timeout ≤ (s.entry i).timer →
    s.bolt.swb.frames = [] → s.bolt.swb.badRows = [] → bits < 3 → (s.entry i).localPort ≠ 10 ∨ s.seamUp = true →
    let late : State := s.mapEntry i fun e => { e with expiries := e.expiries + 1, timer := 0, resent := [] }
    let missing := (seqsFrom (s.entry i).una (s.entry i).nxt).filter fun q =>
      !(decide ((q + 65536 - ((s.entry i).una + 1)) % 65536 < 64) &&
        bit (s.entry i).bitmap ((q + 65536 - ((s.entry i).una + 1)) % 65536))
    let ends (u : State) : State := if (u.entry i).dead then u.usbDead i else u
    (s.get F.TUN_ARQ_CFG_RETRY_MAX = 0 ∨ (s.entry i).expiries + 1 < s.get F.TUN_ARQ_CFG_RETRY_MAX → exec (.retransmitTimeout i bits) s =
      .next (ends (late.each missing fun q s => s.resend i q).pcbReview)) ∧
    (s.get F.TUN_ARQ_CFG_RETRY_MAX ≠ 0 → s.get F.TUN_ARQ_CFG_RETRY_MAX ≤ (s.entry i).expiries + 1 →
      exec (.retransmitTimeout i bits) s = .next (ends (late.tunnelDead i).pcbReview))) ∧
  (∀ (s : State) (i : Fin 1024) (bits : Nat), s.boltUp = true → (s.entry i).localPort = 10 → s.seamUp = false →
    exec (.retransmitTimeout i bits) s = .next s) ∧
  (∀ (s : State) (f : Frame) (i : Nat), s.boltUp = true → s.isOn .tun = true → s.entryOf f.hdr.tunnel.toNat = some i →
    (s.entry i).sink = true → (s.entry i).service = svDatagram →
    (s.curPath i (hBucket f.hdr) = some (b2n f.hdr.path) → exec (.datagramRx f) s = .next (s.deliverDatagram i f)) ∧
    (s.curPath i (hBucket f.hdr) = none → exec (.datagramRx f) s = .next ((s.mapEntry i fun e => { e with
      basePath := insertKey (hBucket f.hdr) (b2n f.hdr.path) e.basePath }).deliverDatagram i f)) ∧
    (∀ b old p, b = leAt f.payload 1 1 % 64 → old = leAt f.payload 0 1 % 2 → b ≠ 0 ∨ (s.entry i).perBucket = true →
      s.curPath i b = some p →
      let seen : State := (s.count (3155 + 4 * svDatagram) 1).mapEntry i fun e => { e with lastGen := f.hdr.gen.toNat }
      (p ≠ old → exec (.knotRx f) s = .next (seen.count (81 + 3 * i) 1)) ∧
      (p = old → exec (.knotRx f) s = .next (((seen.mapEntry i fun e => { e with
        rxCount := e.rxCount.filter fun x => x.1 != b + 64 * old }).countLoss i
          (let got := (lookupKey (b + 64 * old) (s.entry i).rxCount).getD 0 % 2 ^ 32
           leAt f.payload 8 4 - got + (got - leAt f.payload 8 4))).switchPath i b (leAt f.payload 0 1 / 2 % 2)
            f.hdr.seq.toNat)))) ∧
  ∀ (s : State) (i : Fin 1024) (b : Fin 64) (h : Hold) (f : Frame) (rest : List Frame) (cur : Nat), s.boltUp = true →
    ((s.entry i).holds.find? fun x => x.bucket = b.val) = some h → h.frames = f :: rest → s.get F.TUN_KNOT_CFG_TIMEOUT ≤ h.age →
    s.curPath i b = some cur → exec (.knotTimeout i b) s = .next ((((s.mapEntry i fun e => { e with
      rxCount := eraseKey (b.val + 64 * cur) e.rxCount }).switchPath i b (1 - cur) ((f.hdr.seq.toNat + 65535) % 65536)).count
      (82 + 3 * i.val) 1).irq bTun 3)

/-- A commit copies the shadow words and waits, a refused one changes nothing but its status; its effect advances GEN. -/
def Obligations.TunnelCommits : Prop :=
  (∀ (s : State) (who : Requester) (n : BitVec 10) (atCycle : Bool), s.accepts who R.TUN_COMMIT →
    let words := (List.range 4).map fun k => (s.shadowWord n.toNat k).toNat
    let asked (invalid : Bool) : State := s.written R.TUN_COMMIT (commitValue n atCycle invalid)
    (∀ r, (asked false).commitRefusal n.toNat false words = some r → r < 65536 → ∃ t : State, exec (.tunCommit who n atCycle) s = .next t ∧
      t.get F.TUN_COMMIT_STATUS_INDEX = n.toNat ∧ t.get F.TUN_COMMIT_STATUS_REASON = r ∧ t.bolt.tun = s.bolt.tun) ∧
    ((asked false).commitRefusal n.toNat false words = none → ∃ t : State, exec (.tunCommit who n atCycle) s = .next t ∧
      t.get F.TUN_COMMIT_STATUS_INDEX = n.toNat ∧ t.get F.TUN_COMMIT_STATUS_REASON = 0 ∧ t.get F.TUN_COMMIT_STATUS_PENDING = 1 ∧
      t.entry n.toNat = { s.entry n.toNat with pending := some (false, atCycle, words) } ∧
      ∀ j, j ≠ n.toNat → t.entry j = s.entry j) ∧
    ((asked true).commitRefusal n.toNat true [] = none → ∃ t : State, exec (.invalidate who n atCycle) s = .next t ∧
      t.get F.TUN_COMMIT_STATUS_REASON = 0 ∧ t.entry n.toNat = { s.entry n.toNat with pending := some (true, atCycle, []) } ∧
      ∀ j, j ≠ n.toNat → t.entry j = s.entry j)) ∧
  (∀ (s : State) (i : Fin 1024), s.boltUp = true → (s.entry i).pending = some (true, false, []) → (s.entry i).holds = [] →
    (s.entry i).una = (s.entry i).nxt → (s.entry i).valid = true →
    let e := s.entry i
    let gone : State := ((s.dropRetx i).mapEntry i fun _ => { Entry.reset with
      w0 := e.w0, w1 := e.w1, w2 := e.w2, w3 := e.w3, valid := false, gen := (e.gen + 1) % 4, lastGen := e.lastGen
      lastPath := e.lastPath, perBucket := s.elastic? s.cycle i
      drain := some (e.gen, [e.w0, e.w1, e.w2, e.w3], s.drainFrames i e.gen), polDrop := e.polDrop, polExcess := e.polExcess }).noteHolds
    let shown : State := if gone.get F.TUN_COMMIT_STATUS_INDEX = i.val then gone.set F.TUN_COMMIT_STATUS_PENDING 0 else gone
    exec (.commitEffect i) s = .next (((shown.each (shown.linksOn.filter fun l => shown.linkEntry l = i.val && shown.linkLives l)
      fun l s => (if s.on (F.PCB_LNK_STATUS_DEAD l) then s else s.tunnelLost l).linkRestart l).pcbReview.showValid).irq bTun 1)) ∧
  ∀ (s : State) (ms : Nat), s.boltUp = true → s.get F.TUN_ARQ_CFG_PROG_S ≠ 0 → s.get F.TUN_ARQ_CFG_PROG_S * 1000 ≤ ms →
    exec (.progressTimer ms) s =
      .next (s.each (s.bolt.tun.filter fun e => e.2.valid && e.2.progress) fun ie s => s.deliveryRecord ie.1 4)

/-- The switch: ready list, scrubber, credit, PAUSE, copies that end and drains. -/
def Obligations.SwitchEventsAndCredit : Prop :=
  (∀ (s : State) (p : Fin 12) (clocks : Nat), s.boltUp = true →
    let refilled : State := { s with bolt.swb.ready := min (min 512 s.freeCount) (s.bolt.swb.ready + 4 * clocks) }
    exec (.readyListAdmit p clocks) s = .next ((refilled.retryIngress p).retryLocal (some p.val)) ∧
    ((s.port p).ing = none → (s.bolt.swb.waitLocal.any fun x => x.ingress = p.val) = false →
      exec (.readyListAdmit p clocks) s = .next refilled)) ∧
  (∀ (s : State) (bank : Fin 16) (bits : Nat), s.boltUp = true → s.isOn .swb = true → s.on F.SWB_CTRL_SCRUB_EN = true →
    let cell := s.get F.SWB_SCRUB_STATUS_CELL
    (bank.val < 15 → exec (.scrubRead bank bits) s = .next (s.scrubRow cell bank bits)) ∧
    (bank.val = 15 → cell + 1 < 196608 → exec (.scrubRead bank bits) s =
      .next ((s.scrubRow cell 15 bits).set F.SWB_SCRUB_STATUS_CELL (cell + 1))) ∧
    (bank.val = 15 → 196608 ≤ cell + 1 → exec (.scrubRead bank bits) s =
      .next (((s.scrubRow cell 15 bits).set F.SWB_SCRUB_STATUS_CELL 0).sat F.SWB_SCRUB_STATUS_PASSES 1))) ∧
  (∀ (s : State) (p : Fin 8) (msg : BitVec 504), s.boltUp = true → s.elrek p = true → s.portUp p = true →
    (exec (.pauseRx p msg) s = .next (s.setPort p { s.port p with
      pauseMask := slice msg.toNat 498 6, pauseRows := slice msg.toNat 480 16 })) ∧
    (s.bolt.ports.length = 12 → (s.port p).granted.length = 8 → (s.port p).recv.length = 8 →
      ∃ t : State, exec (.creditRx p msg) s = .next (t.flushCl7 p) ∧
        (t.port p).granted = (List.range 8).map (fun c => slice msg.toNat (312 + 24 * c) 24) ∧
        (t.port p).recv = (List.range 8).map (fun c => slice msg.toNat (120 + 24 * c) 24))) ∧
  (∀ (s : State) (p c : Fin 8) (w : CreditWait), s.boltUp = true → s.elrek p = true → (s.port p).stall.getD c none = some w →
    (w.told = false → s.get F.SWB_CREDIT_CFG_STALL_CYCLES ≤ w.cycles → exec (.creditStall p c) s =
      .next ((s.setPort p { s.port p with stall := setAt (s.port p).stall c (some { w with told := true }) }).irq bSwb 7)) ∧
    (w.told = true → exec (.creditStall p c) s = .next s)) ∧
  (∀ (s : State), s.boltUp = true → s.on F.SWB_STATUS_PAUSING = true →
    (s.get F.SWB_FREE_HIGH_CELLS ≤ s.freeCount → exec .pauseRepeat s = .next ((s.set F.SWB_STATUS_PAUSING 0).sendPause 0)) ∧
    (s.freeCount < s.get F.SWB_FREE_HIGH_CELLS → exec .pauseRepeat s = .next (s.sendPause (s.get F.SWB_PAUSE_CFG_ROWS)))) ∧
  (∀ (s : State) (p : Fin 12) (id k word : Nat) (x : Stored), s.boltUp = true → (s.port p).onWire = some (id, k) →
    s.stored id = some x → x.complete = true →
    let sent : State := (s.pushTo p (stitchesOf x.frame.hdr.length.toNat (s.keyed p))).wireFree p
    (x.poisoned = false → s.readBits x.cells < 3 → exec (.copyDone ⟨p, word, 0⟩) s = .next ((sent.copyLeft p x).endCopy id k true)) ∧
    (∀ bits, 3 ≤ bits → x.cells ≠ [] → ∃ t : State, exec (.copyDone ⟨p, word, bits⟩) s = .next (t.progressError p id k x))) ∧
  (∀ (s : State) (p : Nat) (x : Stored), s.elrek p = false →
    (p ≠ 10 → s.copyLeft p x = s.emit (.local p x.frame)) ∧
    (p = 10 → s.seamUp = true → s.copyLeft p x = (s.emit (.local p x.frame)).crossSeam .bolt x.frame) ∧
    (p = 10 → s.seamUp = false → (s.entry x.entry).service ≠ svReliable →
      s.copyLeft p x = s.count (80 + 3 * x.entry) 1)) ∧
  (∀ (s : State) (id : Nat) (x : Stored), s.boltUp = true → s.bolt.swb.frames = [(id, x)] →
    (x.residue.any fun r => s.get F.SWB_MC_CFG_RESIDUE < r) = true →
    let late := x.copies.filter Copy.unstarted
    late ≠ [] → exec .residueExpiry s =
      .next ((s.each late fun c s => (s.sat (F.SWB_MC_RESIDUE_DROP c.port) 1).dropCopy id c.queue).irq bSwb 6)) ∧
  (∀ (s : State) (i : Fin 1024) (g : Nat) (ws : List Nat), s.boltUp = true → (s.entry i).drain = some (g, ws, 0) →
    exec (.drainDone i) s = .next ((s.mapEntry i fun e => { e with drain := none }).irq bSwb 5)) ∧
  ∀ (s : State) (who : Requester) (v : Word), s.accepts who R.SWB_ECC_INJECT →
    (s.written R.SWB_ECC_INJECT v).on F.SWB_ECC_INJECT_ARM = true →
    ∃ t : State, exec (.eccArm who v) s = .next t ∧
      t.bolt.swb.injectBits = some ((s.written R.SWB_ECC_INJECT v).get F.SWB_ECC_INJECT_BITS)

/-- The scheduler: tokens added, placements fixed and started, cut-through, samples cleared. -/
def Obligations.SchedulerEvents : Prop :=
  (∀ (s : State), s.boltUp = true →
    let then' : State := { s.showInstant (min (cyclePs - 1) s.bolt.sch.tokNext) with bolt.sch.tokNext := s.bolt.sch.tokNext + 40960 }
    let gained : State := then'.addAllTokens.refillAll 64
    let tried : State := gained.each (gained.bolt.tun.filter fun e => !e.2.waiting.isEmpty) fun ie s => s.retryWaiting ie.1
    exec .tokenAdd s = .next (tried.placeAll).rebuilt) ∧
  (∀ (s : State) (p : Fin 12) (y : Placement) (word bits link : Nat), s.boltUp = true →
    ((s.psch p).slots.find? fun z => !z.isFixed) = some y →
    s.absPs y.cycle y.start - s.get F.SCH_STAGE_CFG_LEAD_NS * 1000 < cyclePs →
    let done : State := (s.showInstant (s.absPs y.cycle y.start - s.get F.SCH_STAGE_CFG_LEAD_NS * 1000)).mapPsch
      p fun x => { x with slots := x.slots.map fun z => if z = y then { z with isFixed := true } else z }
    (link = 0 → exec (.placementFixed p ⟨word, bits⟩ link) s = .next ((done.egressRead y.frame word bits).deadReview s)) ∧
    (1 ≤ link → link ≤ 2 → exec (.placementFixed p ⟨word, bits⟩ link) s =
      .next (((done.sat F.SWB_ECC_CNT_CORR 1).egressRead y.frame word bits).deadReview s)) ∧
    (3 ≤ link → exec (.placementFixed p ⟨word, bits⟩ link) s = .next ((done.linkLost y word).deadReview s))) ∧
  (∀ (s : State) (p : Fin 12) (y : Placement) (rest : List Placement) (x : Stored), s.boltUp = true →
    (s.psch p).slots = y :: rest → (s.port p).onWire = none → s.absPs y.cycle y.start < cyclePs →
    ((s.psch p).late.any fun z => z.queue / 16 = y.queue / 16) = false →
    let at' : State := s.showInstant (s.absPs y.cycle y.start)
    at'.stored y.frame = some x →
    (at'.mayStart p y.cls (cellsOf x.frame.hdr.length.toNat) = true →
      (x.complete = true ∨ at'.threshold x p ≤ x.got → exec (.placementStart p) s =
        .next ((at'.mapPsch p fun z => { z with slots := rest }).wireStart p y.frame y.queue y.cl)) ∧
      (x.complete = false → x.got < at'.threshold x p → exec (.placementStart p) s =
        .next ((at'.mapPsch p fun z => { z with slots := rest, late := z.late ++ [y] }).mapCopy y.frame y.queue fun c =>
          { c with st := .threshold }))) ∧
    (at'.mayStart p y.cls (cellsOf x.frame.hdr.length.toNat) = false → exec (.placementStart p) s = .next (at'.giveBack p [y]))) ∧
  (∀ (s : State) (p : Fin 12) (y : Placement) (x : Stored), s.boltUp = true → (s.port p).onWire = none → (s.psch p).late = [y] →
    s.stored y.frame = some x → x.complete = true ∨ s.threshold x p ≤ x.got →
    let fits := s.fits p y.cls s.cycle s.bolt.sch.now (s.lastsPs p y.cl) && s.mayStart p y.cls (cellsOf x.frame.hdr.length.toNat)
    (fits = true → exec (.cutThroughStart p) s =
      .next ((s.mapPsch p fun z => { z with late := z.late.filter fun w => w != y }).wireStart p y.frame y.queue y.cl)) ∧
    (fits = false → exec (.cutThroughStart p) s = .next (((s.mapCopy y.frame y.queue fun c => { c with whole := true }).giveBack p
      [y]).sat (F.SCH_PORT_HOLD_SPILL p) 1))) ∧
  ∀ (s : State) (who : Requester) (v : Word), s.accepts who R.SCH_SAMP_CTRL →
    (s.written R.SCH_SAMP_CTRL v).on F.SCH_SAMP_CTRL_CLEAR = true → ∃ t : State, exec (.sampClear who v) s = .next t ∧
      t.get F.SCH_SAMP_CTRL_CLEAR = 0 ∧ t.bolt.queueStats = eraseKey
        ((s.written R.SCH_SAMP_CTRL v).get F.SCH_ENT_SEL_INDEX * 4 + min 2 ((s.written R.SCH_SAMP_CTRL v).get F.SCH_ENT_SEL_QUEUE))
        s.bolt.queueStats

/-- The first copy of a SEW, alarm SEW or UNPICK for a known plan is taken, reported and recorded; READY, REPORT and POLL as the rules say. -/
def Obligations.AllotmentMessages : Prop :=
  (∀ (s s0 : State) (f : Frame), s.boltUp = true → s.isOn .rng = true → actsOnce s f s0 →
    let plan := aPlan f
    let n := aCycle f
    let prev := s.get F.ALT_SEWN_PLAN_PLAN
    let noted (op : Nat) : State := { s0 with bolt.alt.seen := (op, plan, n, s0.cycle) :: s0.bolt.alt.seen }
    let new (op : Nat) : Prop := (s.bolt.alt.seen.any fun x => x.1 = op && x.2.1 = plan && x.2.2.1 = n) = false
    let quiet : Prop := s.on F.ALT_ALARM_STATUS_IN_FORCE = false ∧ s.bolt.alt.alarm = none
    (aArg f = 0 → new 2 →
      (s.bankPlan 1 ≠ plan → exec (.sewRx f) s = .next ((noted 2).sat F.ALT_MSG_DROP_PLAN_MISMATCH 1)) ∧
      (s.bankPlan 1 = plan → s.isOn .altBaste = false →
        exec (.sewRx f) s = .next (((noted 2).report (aNode f) plan 4).altRecord 0 5 plan n prev)) ∧
      (s.bankPlan 1 = plan → s.isOn .altBaste = true → lateFor s.cycle n = true → exec (.sewRx f) s =
        .next (((((noted 2).sat F.ALT_SEW_CNT_LATE 1).irq bAlt 5).report (aNode f) plan 2).altRecord 0 3 plan n prev)) ∧
      (s.bankPlan 1 = plan → s.isOn .altBaste = true → lateFor s.cycle n = false → quiet →
        (s.bolt.alt.sew.any fun c => c.plan = plan) = false → s.unpickAhead plan = none → exec (.sewRx f) s =
        .next (((({ noted 2 with bolt.alt.sew := some ⟨plan, n, aNode f⟩ }.irq bAlt 3).report (aNode f) plan 1).altRecord
          0 1 plan n prev).changesMoved))) ∧
    (aArg f = 0 → ¬ new 2 → (s.bolt.alt.sew.any fun c => c.plan = plan) = true →
      exec (.sewRx f) s = .next (s0.sat F.ALT_MSG_DROP_STALE 1)) ∧
    (new 18 → quiet → s.bankPlan 2 = plan → s.isOn .altAlarm = true → s.unpickAhead plan = none →
      exec (.alarmSewRx f) s = .next ((noted 18).acceptAlarm plan n (aNode f))) ∧
    (new 3 → quiet → lateFor s.cycle n = false →
      (prev = plan → s.bolt.alt.sew = none → s.on F.ALT_BASTE_STATUS_PREV = true → exec (.unpickRx f) s =
        .next ((({ noted 3 with bolt.alt.unpick := some ⟨plan, n, aNode f⟩ }.report (aNode f) plan 5).altRecord
          2 1 plan n prev).changesMoved)) ∧
      (∀ c, s.bolt.alt.sew = some c → c.plan = plan → later n c.target = false → exec (.unpickRx f) s =
        .next ((((({ noted 3 with bolt.alt.sew := none }.altRecord 2 1 plan n prev).cancelled 0 c).report (aNode f) plan 5)).changesMoved))) ∧
    (new 5 →
      (s.bankPlan 1 ≠ plan → exec (.pollRx f) s = .next ((noted 5).sat F.ALT_MSG_DROP_PLAN_MISMATCH 1)) ∧
      (s.bankPlan 1 = plan →
        (s.get HUnit.altBaste.state = 2 → exec (.pollRx f) s = .next ((noted 5).sendReady 0)) ∧
        (s.get HUnit.altBaste.state = 3 → exec (.pollRx f) s = .next ((noted 5).sendReady 1)) ∧
        (s.get HUnit.altBaste.state = 0 → exec (.pollRx f) s = .next ((noted 5).sendReady 2)))) ∧
    let known : Prop := plan = s.get F.ALT_CMD_PLAN_PLAN
    (known → aArg f = 0 →
      let ready : State := { s0.markNode F.ALT_READY_NODES (aNode f) true with
        bolt.alt.reports := insertKey (aNode f) (leAt f.payload 12 4, leAt f.payload 16 4) s.bolt.alt.reports }
      let all := (List.range 8).all fun k =>
        ready.get (F.ALT_PART_NODES k) &&& ready.get (F.ALT_READY_NODES k) = ready.get (F.ALT_PART_NODES k)
      exec (.readyRx f) s = .next (if all then (ready.irq bAlt 1).irq bAlt 2 else ready.irq bAlt 1)) ∧
    (known → aArg f = 1 ∨ aArg f = 5 → exec (.reportRx f) s =
      .next ((s0.markNode F.ALT_ACK_NODES (aNode f) true).irq bAlt 1)) ∧
    (known → aArg f = 2 ∨ aArg f = 3 ∨ aArg f = 4 → exec (.reportRx f) s =
      .next (((s0.markNode F.ALT_LATE_NODES (aNode f) true).irq bAlt 1).irq bAlt 5)) ∧
    (¬ known → exec (.readyRx f) s = .next (s0.sat F.ALT_MSG_DROP_PLAN_MISMATCH 1) ∧
      exec (.reportRx f) s = .next (s0.sat F.ALT_MSG_DROP_PLAN_MISMATCH 1))) ∧
  (∀ (s : State) (f : Frame) (x : Nat × Nat × Nat × Bool), s.boltUp = true → s.ringSeen f = some x → x.2.2.2 = true →
    exec (.sewRx f) s = .next s ∧ exec (.alarmSewRx f) s = .next s ∧ exec (.unpickRx f) s = .next s ∧
    exec (.readyRx f) s = .next s ∧ exec (.reportRx f) s = .next s ∧ exec (.pollRx f) s = .next s) ∧
  ∀ (s : State) (plan n origin : Nat), later ((s.cycle + 4) % 2 ^ 32) n = false → s.acceptAlarm plan n origin =
    ((((({ (s.preemptFor plan n).ntAbandon 1 with bolt.alt.alarm := some ⟨plan, n, origin⟩ }.report origin plan 1).altRecord
      1 1 plan n (s.get F.ALT_SEWN_PLAN_PLAN)).dropSew n).dropUnpick n)).changesMoved

/-- The coordinator's commands: SEW, UNPICK, ALARM and POLL with a trunk UP are sent to all and handled here; without one refused with 0x0803. -/
def Obligations.AllotmentCommands : Prop :=
  (∀ (s : State) (who : Requester) (v : Word), s.accepts who R.ALT_CMD_PLAN → ∃ t : State, exec (.cmdPlanWrite who v) s = .next t ∧
    t.get F.ALT_CMD_PLAN_PLAN = v.toNat ∧
    ∀ k, k < 8 → t.get (F.ALT_READY_NODES k) = 0 ∧ t.get (F.ALT_ACK_NODES k) = 0 ∧ t.get (F.ALT_LATE_NODES k) = 0) ∧
  (∀ (s : State) (who : Requester), s.accepts who R.ALT_CMD →
    let w (v : Word) : State := s.written R.ALT_CMD v
    let refused (v : Word) : Step :=
      .next (((w v).sets [(F.ALT_CMD_STATUS_REASON, 0x0803), (F.ALT_CMD_STATUS_DETAIL, 0xFFFF)]).answer who .done 0)
    let plan (v : Word) := (w v).get F.ALT_CMD_PLAN_PLAN
    let n (v : Word) := (w v).get F.ALT_CMD_TARGET_CYCLE
    let told (v : Word) (op : Nat) : State :=
      ((w v).sets [(F.ALT_CMD_STATUS_REASON, 0), (F.ALT_CMD_STATUS_DETAIL, 0xFFFF)]).sendAlt 255
        (altPayload op 0 (w v).addr (plan v) (n v) 0 0 0)
    let again (v : Word) (op : Nat) : State := { told v op with
      bolt.alt.resend := (told v op).bolt.alt.resend ++ [(altPayload op 0 (w v).addr (plan v) (n v) 0 0 0, n v)] }
    ((w 1).noTrunk = true → exec (.altSew who) s = refused 1) ∧ ((w 2).noTrunk = true → exec (.altUnpick who) s = refused 2) ∧
    ((w 3).noTrunk = true → exec (.altAlarm who) s = refused 3) ∧ ((w 4).noTrunk = true → exec (.altPoll who) s = refused 4) ∧
    ((w 1).noTrunk = false → (w 1).tooNear (n 1) = false → (w 1).notReady = none → (w 1).alarmOn = false →
      exec (.altSew who) s = .next ((((again 1 2).firstCopy 2 (plan 1) (n 1)).1.handleSew (plan 1) (n 1) (w 1).addr).answer who .done 0)) ∧
    ((w 2).noTrunk = false → (w 2).tooNear (n 2) = false → exec (.altUnpick who) s =
      .next ((((again 2 3).firstCopy 3 (plan 2) (n 2)).1.handleUnpick (plan 2) (n 2) (w 2).addr).answer who .done 0)) ∧
    ((w 3).noTrunk = false →
      let ok : State := (w 3).sets [(F.ALT_CMD_STATUS_REASON, 0), (F.ALT_CMD_STATUS_DETAIL, 0xFFFF)]
      ((w 3).loadHolds = false → exec (.altAlarm who) s = .next (ok.alarmCommand.answer who .done 0)) ∧
      ((w 3).loadHolds = true → exec (.altAlarm who) s =
        .next ({ ok with spool.pwr := { (w 3).spool.pwr with alarm := 3 } }.answer who .done 0))) ∧
    ((w 4).noTrunk = false →
      let polled : State := ((w 4).sets [(F.ALT_CMD_STATUS_REASON, 0), (F.ALT_CMD_STATUS_DETAIL, 0xFFFF)]).sendAlt 255
        (altPayload 5 0 (w 4).addr (plan 4) 0 0 0 0)
      exec (.altPoll who) s = .next (((polled.firstCopy 5 (plan 4) 0).1.handlePoll (plan 4)).answer who .done 0))) ∧
  (∀ (s : State), s.boltUp = true → s.get HUnit.altBaste.state = 1 →
    let base := s.bolt.alt.bases.getD 0 ⟨[], []⟩
    let shown : State := s.set F.ALT_BASTE_DIGEST_CRC (s.bankDigest 1)
    let view : State := { shown with bolt.tun := base.entries }
    let kept : State := { shown with bolt.alt.checks := setAt s.bolt.alt.checks 0 (view.checkResults 1) }
    (∀ code detail, view.planCheck 1 base.rates = some (code, detail) → exec (.planCheckDone false) s =
      .next ((kept.refuseUnit .altBaste code detail).sendReady
        (if (kept.refuseUnit .altBaste code detail).isOn .altBaste then 0 else 1))) ∧
    (view.planCheck 1 base.rates = none →
      let passed : State := { kept.sets [(HUnit.altBaste.state, 2), (HUnit.altBaste.reason, 0), (HUnit.altBaste.detail, 0xFFFF)] with
        bolt.alt.checked := setAt kept.bolt.alt.checked (kept.role 1) true }.irq bAlt 0
      exec (.planCheckDone false) s = .next (passed.sendReady (if passed.isOn .altBaste then 0 else 1)))) ∧
  (∀ (s : State) (alarm : Bool), s.boltUp = true → s.get (if alarm then HUnit.altAlarm else HUnit.altBaste).state ≠ 1 →
    exec (.planCheckDone alarm) s = .next s) ∧
  ∀ (s : State) (ms : Nat), s.spool.aon = true → s.alarmMay = true →
    let now : State := { s with spool.pwr := { s.spool.pwr with alarm := 0 } }.alarmCommand
    (s.spool.pwr.alarm = 1 → 10 ≤ ms → exec (.alarmCmd ms) s = .next now) ∧
    (s.spool.pwr.alarm ≠ 0 → s.portUp 0 = true ∨ s.portUp 1 = true → exec (.alarmCmd ms) s = .next now) ∧
    (s.spool.pwr.alarm = 3 → exec (.alarmCmd ms) s = .next now)

/-- Ring messages that the engine acts on: beacons, announcements, edges, claims, roll call, joins, heals, openings, NAKs, mail. -/
def Obligations.RingMessages : Prop :=
  (∀ (s t : State) (p : Fin 2) (f : Frame), s.boltUp = true → s.isOn .rng = true → actsOnce s f t →
    let u := leAt f.payload 0 16
    let src := f.hdr.src.toNat
    let clash := (lookupKey src s.bolt.rng.census).any fun c => c.uid != u
    (ringLenOk f = false → exec (.ringCtrlRx p f) s = .next (s.sat F.RNG_DROP2_UNKNOWN_OP 1)) ∧
    (ringLenOk f = true → s.ringMine f = true → rToMaster f.hdr = false → rFromMaster f.hdr = false → rOp f.hdr = opMsg →
      (s.ringSeen f = none → exec (.ringCtrlRx p f) s = .next ((s.ringNote f false).ringForward p f)) ∧
      (s.ringSeen f ≠ none → exec (.ringCtrlRx p f) s = .next ((s.sat F.RNG_DROP2_DUP 1).ringForward p f))) ∧
    (rOp f.hdr = opBeacon → ringLenOk f = true → s.sameRing f = true → s.roleVerdict f = 0 → src ≠ s.addr → s.isMaster = false →
      exec (.beaconRx p f) s = .next (t.followBeacon f)) ∧
    (rOp f.hdr = opBeacon → ringLenOk f = true → s.sameRing f = false → exec (.beaconRx p f) s = .next (s.mismatchOn p)) ∧
    (rOp f.hdr = opAnnounce → ringLenOk f = true → src ≠ 0 →
      (rHops f.hdr ≠ 0 → s.get F.RNG_STATUS_RING = 2 → clash = false → exec (.announceRx p f) s = .next (s.censusPut src u)) ∧
      (rHops f.hdr ≠ 0 → s.get F.RNG_STATUS_RING = 2 → clash = true → exec (.announceRx p f) s = .next s) ∧
      (rHops f.hdr = 0 → p = 0 → s.get F.RNG_STATUS_RING = 2 → clash = false → exec (.announceRx p f) s =
        .next ({ s.set F.RNG_NEIGH_EAST src with bolt.rng.own := setAt s.bolt.rng.own 0 ((s.bolt.rng.own.getD 0 none).map
          fun (e : Edge) => { e with far := src }) }.censusPut src u)) ∧
      (rHops f.hdr ≠ 0 → p = 0 → s.get F.RNG_STATUS_RING = 1 → clash = false → exec (.announceRx p f) s =
        .next ({ s with bolt.rng.he := insertKey src (rHops f.hdr + 1) s.bolt.rng.he }.censusPut src u))) ∧
    (rOp f.hdr = opEdge → ringLenOk f = true → src ≠ 0 → src ≠ s.addr → leAt f.payload 1 1 = 2 → exec (.edgeRx p f) s =
      .next ((t.putEdge ⟨src, leAt f.payload 0 1 % 2, 2, leAt f.payload 4 4, leAt f.payload 8 1, 0⟩).ntEdge
        src (leAt f.payload 8 1)).autoHeal) ∧
    (rOp f.hdr = opClaim → ringLenOk f = true → s.ownCause p ≠ 3 → s.ringRole = 1 → s.bolt.rng.better = none →
      exec (.claimRx p f) s = .next (t.ringForward p f)) ∧
    (rOp f.hdr = opRollcall → ringLenOk f = true → s.addr ≠ 0 → exec (.rollcallRx p f) s = .next (s.ringForward p f)) ∧
    (∀ i, s.ringActs opRollcall f = true → s.addr = 0 → s.bolt.rng.taken = none →
      findFirst (fun i => bit (leAt f.payload 0 32) (i + 1)) 250 = some i →
      let changed : Frame := { f with payload := leBytes 32 (clrBit (leAt f.payload 0 32) (i + 1)) ++ f.payload.drop 32 }
      let sent : State := { t.ringForward p changed with bolt.rng.taken := some (i + 1) }
      exec (.rollcallRx p f) s = .next (sent.originate (sent.ringFrame (i + 1) opTaken src sent.epoch true false
        (leBytes 1 (i + 1) ++ [0, 0, 0] ++ bytesAt f.payload 32 4 ++ leBytes 16 sent.uid)) [0, 1]))) ∧
  ∀ (s t : State) (f : Frame), s.boltUp = true → actsOnce s f t →
    let asked := leAt f.payload 16 1
    let ub := bytesAt f.payload 0 16
    (s.ringActs opTaken f = true → s.isMaster = true →
      let running : State := { t with bolt.rng.roll := t.bolt.rng.roll.map fun r : Nat × Nat => (r.1, 0) }
      (((lookupKey (leAt f.payload 0 1) s.bolt.rng.census).any fun c => c.uid != leAt f.payload 8 16) = false →
        exec (.takenRx f) s = .next ((running.censusPut (leAt f.payload 0 1) (leAt f.payload 8 16)).sendJoinAck (leAt f.payload 0 1) 0
          (bytesAt f.payload 8 16))) ∧
      (((lookupKey (leAt f.payload 0 1) s.bolt.rng.census).any fun c => c.uid != leAt f.payload 8 16) = true →
        exec (.takenRx f) s = .next (running.sendJoinAck (leAt f.payload 0 1) 1 (bytesAt f.payload 8 16)))) ∧
    (s.ringActs opJoinReq f = true → s.isMaster = true →
      let clash := (lookupKey asked s.bolt.rng.census).any fun c => c.uid != leAt f.payload 0 16
      (leAt f.payload 20 4 ≠ s.bolt.pat.inForce.siteId → exec (.joinReqRx f) s = .next (t.sendJoinAck asked 2 ub)) ∧
      (leAt f.payload 20 4 = s.bolt.pat.inForce.siteId → clash = false →
        exec (.joinReqRx f) s = .next ((t.censusPut asked (leAt f.payload 0 16)).sendJoinAck asked 0 ub)) ∧
      (leAt f.payload 20 4 = s.bolt.pat.inForce.siteId → clash = true → exec (.joinReqRx f) s =
        .next (if leAt f.payload 17 1 = 0 then (t.sendJoinAck asked 1 ub).startRoll else t.sendJoinAck asked 1 ub))) ∧
    (s.ringActs opJoinAck f = true → leAt f.payload 0 1 = 2 → exec (.joinAckRx f) s = .next ({ t with
      bolt.rng := { t.bolt.rng with joinWait := none, taken := none, joinBlocked := true } }.irq bRng 7)) ∧
    (s.ringActs opHeal f = true → exec (.healRx f) s = .next { t with bolt.rng.heals := t.bolt.rng.heals ++
      [⟨leAt f.payload 0 1, leAt f.payload 1 1, leAt f.payload 2 1, leAt f.payload 3 1, leAt f.payload 4 4⟩] }) ∧
    (s.ringActs opOpening f = true → f.hdr.src.toNat ≠ s.addr →
      later s.cycle ((leAt f.payload 4 4 + 2 ^ 32 - 4) % 2 ^ 32) = false →
      let opens : Nat × Nat × Nat × Bool :=
        (f.hdr.src.toNat, leAt f.payload 0 1 % 4 + 4 * (leAt f.payload 2 1 % 2), leAt f.payload 4 4, false)
      let rest := t.bolt.rng.openings.filter fun o => o.1 != f.hdr.src.toNat
      exec (.openingRx f) s = .next { t with bolt.rng.openings := opens :: rest }) ∧
    (s.ringActs opNak f = true → leAt f.payload 7 1 ≠ 1 → leAt f.payload 7 1 ≠ 2 → leAt f.payload 0 1 ≠ opTaken →
      exec (.nakRx f) s = .next (((t.sat F.RNG_NAK_RECEIVED 1).sets [(F.RNG_NAK_LAST_OP, leAt f.payload 0 1),
        (F.RNG_NAK_LAST_REASON, leAt f.payload 7 1), (F.RNG_NAK_LAST_EPOCH, leAt f.payload 4 2)]).irq bRng 8)) ∧
    (s.ringActs opMsg f = true → s.bolt.rng.mail.length < 16 → exec (.msgRx f) s = .next ({ t with
      bolt.rng.mail := t.bolt.rng.mail ++ [(⟨f.hdr.src.toNat, rToMaster f.hdr, f.payload⟩ : Mail)] }.irq bRng 9)) ∧
    (s.ringActs opMsg f = true → 16 ≤ s.bolt.rng.mail.length → exec (.msgRx f) s = .next (t.sat F.RNG_RX_STATUS_OVERFLOW 1)) ∧
    (s.ringActs opForget f = true → exec (.forgetRx f) s =
      .next { t with bolt.rng.census := eraseKey (leAt f.payload 0 1) t.bolt.rng.census })

/-- The ring engine's timers and the host's ring commands: announce, expire, claim, roll call, open, heal, forget, mail, buddy supervision. -/
def Obligations.RingTimersAndCommands : Prop :=
  (∀ (s : State), s.boltUp = true → s.isOn .rng = true → s.addr ≠ 0 → s.isMaster = false →
    s.get F.RNG_CFG2_ANNOUNCE ≤ s.bolt.rng.cyclesSinceAnnounce → exec .announceTimer s =
      .next ({ s with bolt.rng.cyclesSinceAnnounce := 0 }.sendRing opAnnounce 255 false false
        (leBytes 16 s.uid ++ leBytes 1 0 ++ leBytes 1 (s.neighbour 0) ++ leBytes 1 (s.neighbour 1) ++ [0]))) ∧
  (∀ (s : State), s.boltUp = true →
    let keep := s.bolt.rng.edges.filter fun e => e.age < s.get F.RNG_CFG_EDGE_HOLD
    keep.length ≠ s.bolt.rng.edges.length → exec .edgeExpire s = .next ({ s with bolt.rng.edges := keep }.irq bRng 2)) ∧
  (∀ (s : State), s.boltUp = true → s.isOn .rng = true → s.eligible = true → s.bolt.rng.noStand = false → s.ringRole ≠ 2 →
    s.ringRole ≠ 3 → s.get F.RNG_CFG_BEACON_LOSS ≤ s.bolt.rng.beaconAge → s.bolt.rng.better = none → exec .beaconLoss s =
      .next (((({ s with bolt.rng := { s.bolt.rng with claim := some ((s.epoch + 1) % 65536, 0), better := none } }.set
        F.RNG_STATUS_ROLE 3).irq bRng 1).irq bRng 4).sendClaim ((s.epoch + 1) % 65536))) ∧
  (∀ (s : State) (e n : Nat), s.boltUp = true → s.bolt.rng.claim = some (e, n) → s.get F.RNG_CFG_CLAIM_WAIT ≤ n → n < 2 ^ 16 →
    exec .claimWaitExpiry s = .next { s with bolt.rng.claim := some (e, 2 ^ 16) }) ∧
  (∀ (s : State) (id n : Nat), s.boltUp = true → s.bolt.rng.roll = some (id, n) → s.get F.RNG_CFG2_ROLL_WAIT ≤ n →
    exec .rollcallEnd s = .next ({ s with bolt.rng.roll := none }.irq bRng 5)) ∧
  (∀ (s : State) (n : Nat), s.boltUp = true → s.isOn .rng = true → s.bolt.rng.joinWait = some n → 16 ≤ n →
    exec .joinRetry s = .next s.sendJoinReq) ∧
  (∀ (s : State) (n r : Nat) (m : Bool), s.boltUp = true → s.bolt.rng.opening = some (n, r, m) →
    s.on (F.LANE_PORT_CTRL_ENABLE 0) = true → s.on (F.LANE_PORT_CTRL_ENABLE 1) = true →
    later s.cycle ((n + s.get F.RNG_CFG_OPEN_DRAIN) % 2 ^ 32) = true →
    let closed : State := ({ s with bolt.rng.opening := none }.portClose 0).portClose 1
    exec .openDrainEnd s = .next (if closed.spool.pwr.entry = 1 then
      let x : State := closed.mapPwr fun x => { x with trunks := [0, 1] }
      if x.seamUp then x.entryStep3 else x.mapPwr fun x => { x with entry := 4 } else closed)) ∧
  (∀ (s : State) (who : Requester), s.accepts who R.RNG_CMD →
    let w (v : Word) : State := s.written R.RNG_CMD v
    let result (v : Word) (c : Nat) : State := (w v).sets [(F.RNG_CMD_STATUS_REASON, c), (F.RNG_CMD_STATUS_DETAIL, 0xFFFF)]
    let done (t : State) : Step := .next (t.answer who .done 0)
    ((w 1).isMaster = true → exec (.ringRollcall who) s = done (result 1 0).startRoll) ∧
    ((w 1).isMaster = false → exec (.ringRollcall who) s = done (result 1 0x0910)) ∧
    ((w 2).isMaster = true → exec (.ringResign who) s = done (result 2 0).resign) ∧
    ((w 2).isMaster = false → exec (.ringResign who) s = done (result 2 0x0910)) ∧
    ((w 3).openRefused = none → exec (.openRing who) s = done ((result 3 0).startOpening 3)) ∧
    (s.bolt.rng.opening.isSome = true → exec (.openRing who) s = done (result 3 0x0913)) ∧
    ((w 4).isMaster = false → exec (.ringHeal who) s = done (result 4 0x0910)) ∧
    (∀ e x : Edge, (w 4).isMaster = true → ((result 4 0).allEdges.find? fun y => y.node = (result 4 0).get F.RNG_CMD_ARG_ADDR &&
      y.side = (result 4 0).get F.RNG_CMD_ARG_SIDE) = some e → (result 4 0).healable e = some x → exec (.ringHeal who) s =
        done ((result 4 0).sendHeal ((result 4 0).get F.RNG_CMD_ARG_ADDR) ((result 4 0).get F.RNG_CMD_ARG_SIDE) x.node x.side)) ∧
    ((w 5).isMaster = true → (result 5 0).live ((result 5 0).get F.RNG_CMD_ARG_ADDR) = false →
      let told : State := (result 5 0).sendRing opForget 255 false true (leBytes 1 ((result 5 0).get F.RNG_CMD_ARG_ADDR) ++ [0, 0, 0])
      exec (.ringForget who) s = done { told with bolt.rng.census := eraseKey ((result 5 0).get F.RNG_CMD_ARG_ADDR) told.bolt.rng.census })) ∧
  (∀ (s : State) (who : Requester) (v : Word), s.accepts who R.RNG_TX_CTRL →
    let go : State := (s.written R.RNG_TX_CTRL v).set F.RNG_TX_CTRL_GO 0
    let n := go.get F.RNG_TX_CTRL_LEN
    (s.written R.RNG_TX_CTRL v).on F.RNG_TX_CTRL_GO = true →
    (go.isOn .rng = false ∨ go.addr = 0 ∨ n = 0 ∨ 96 < n →
      exec (.msgSend who v) s = .next ((go.set F.RNG_TX_STATUS_REASON 0x0915).answer who .done 0)) ∧
    (go.isOn .rng = true → go.addr ≠ 0 → 0 < n → n ≤ 96 → go.get F.RNG_TX_CTRL_DST = 0 →
      exec (.msgSend who v) s = .next ((go.set F.RNG_TX_STATUS_REASON 0x0901).answer who .done 0)) ∧
    (go.isOn .rng = true → go.addr ≠ 0 → 0 < n → n ≤ 96 → go.get F.RNG_TX_CTRL_DST ≠ 0 → exec (.msgSend who v) s =
      .next (((go.sets [(F.RNG_TX_STATUS_REASON, 0), (F.RNG_TX_STATUS_SEQ, go.bolt.rng.seq)]).sendRing opMsg
        (go.get F.RNG_TX_CTRL_DST) (go.on F.RNG_TX_CTRL_TO_MASTER) false
        (((List.range 24).flatMap fun i => leBytes 4 (go.rd (R.RNG_TX_DATA i)).toNat).take n)).answer who .done 0))) ∧
  (∀ (s : State) (who : Requester), s.accepts who R.RNG_RX_POP → ∃ t : State, exec (.rxPop who) s = .next t ∧
    t.bolt.rng.mail = s.bolt.rng.mail.drop 1) ∧
  ∀ (s : State) (i : Fin 1024), s.boltUp = true → s.isOn .rng = true → (s.entry i).valid = true → (s.entry i).buddy = true →
    (s.entry i).sink = true → (s.entry i).single = false →
    s.get F.RNG_CFG2_BUDDY_SINGLE ≤ (s.cycle + 2 ^ 32 - (s.entry i).lastPath.getD 0 0) % 2 ^ 32 →
    later ((s.entry i).lastPath.getD 1 0) ((s.entry i).lastPath.getD 0 0) = true → exec (.buddySingle i) s =
      .next ((s.mapEntry i fun e => { e with single := true, silent := 0 }).irq bRng 11)

/-- An extension of measurement register m revokes every VALID slot bound to m and every VALID descendant slot. -/
def Obligations.ExtensionRevokesBoundKeys : Prop :=
  ∀ (s : State) (m : Nat) (digest : List Byte) (i : Nat), i < 64 → (s.slot i).state = 2 → ReachedByExtension s m i →
    let t : State := s.extendMr m digest
    ((∀ r, s.bolt.keys.run = some r → r.slot ≠ i) → (t.slot i).state = 3) ∧
    (∀ r, s.bolt.keys.run = some r → r.slot = i → ∃ q : KeyRun, t.bolt.keys.run = some q ∧ q.slot = i ∧ q.revoked = true ∧
      q.after = some 3)

/-- Key operations: a start records the run and BUSY, a second start is refused, the end writes outputs, the slot and OP_DONE. -/
def Obligations.KeyOperations : Prop :=
  (∀ (s : State) (who : Requester), s.accepts who R.KEY_OP_GO →
    (∀ x : Nat × Instr, x ∈ [(1, Instr.keyDerive who), (2, .keyGenerate who), (3, .keyAgree who), (4, .keySign who),
        (5, .keySeal who), (6, .keyUnseal who), (7, .keyPublic who), (8, .keyAttest who), (9, .keyErase who)] →
      let w : State := s.written R.KEY_OP_GO (BitVec.ofNat 32 x.1)
      (w.on F.KEY_OP_STATUS_BUSY = true →
        exec x.2 s = .next ((w.set F.KEY_OP_STATUS_REASON 0x0E05).answer who .done 0)) ∧
      (∀ r : KeyRun, w.on F.KEY_OP_STATUS_BUSY = false → w.isOn .key = true → w.on F.KEY_STATUS_LOCKED = false →
        w.fuses.lifecycle ≠ 3 → w.seamUp = true → w.planKey x.1 = .ok r →
        let made : State := if x.1 ≤ 3 then w.setSlot r.slot { r.made with state := 1, key := [] } else w
        let begun : State := ({ made.used with bolt.keys.run := some r }).sets [(F.KEY_OP_STATUS_REASON, 0),
          (F.KEY_OP_STATUS_OP, x.1), (F.KEY_OP_STATUS_BUSY, 1)]
        exec x.2 s = .next ((if x.1 ≤ 3 ∨ 8 ≤ x.1 then begun.keyRecord x.1 r.slot 1 0 r.made.parent r.made.mrsel 0
          else begun).answer who .done 0)) ∧
      (∀ c : Nat, w.on F.KEY_OP_STATUS_BUSY = false → w.isOn .key = true → w.on F.KEY_STATUS_LOCKED = false →
        w.fuses.lifecycle ≠ 3 → w.seamUp = true → w.planKey x.1 = .error c →
        exec x.2 s = .next ((w.sets [(F.KEY_OP_STATUS_REASON, 0x0E00 + c), (F.KEY_OP_STATUS_OP, x.1)]).answer who .done 0)) ∧
      (w.on F.KEY_OP_STATUS_BUSY = false → w.fuses.lifecycle = 3 →
        exec x.2 s = .next ((w.sets [(F.KEY_OP_STATUS_REASON, 0x0E06), (F.KEY_OP_STATUS_OP, x.1)]).answer who .done 0)))) ∧
  (∀ (s : State),
    let sl := s.get F.KEY_OP_CFG_SLOT
    let ty := s.get F.KEY_OP_CFG_TYPE
    let us := s.get F.KEY_OP_CFG_USAGE
    let ms := s.get F.KEY_OP_CFG_MRSEL
    let label := memBytes s.bolt.sram (s.get F.KEY_OP_IN_ADDR - 0x10000000) (s.get F.KEY_OP_LEN_LEN)
    bit s.bolt.pat.inForce.keySlots sl = true → usageOk ty us = true → (s.slot sl).state ≠ 1 → (s.slot sl).state ≠ 2 →
    (inSram (s.get F.KEY_OP_IN_ADDR) (s.get F.KEY_OP_LEN_LEN) = true → s.get F.KEY_OP_CFG_PARENT = 64 →
      s.on F.KEY_STATUS_BOOT_LOCK = false → labelOk label = true → s.planKey 1 = .ok (keyRunOf 1 sl ⟨2, ty, us, 64, ms,
        kdf s.fuses.root label (s.keyContext ty us ms) (8 * keyBytes ty)⟩ [] (s.get F.KEY_OP_OUT_ADDR) 0)) ∧
    s.planKey 2 = .ok (keyRunOf 2 sl ⟨2, ty, us, 65, ms, leBytes (keyBytes ty) s.fresh⟩ [] (s.get F.KEY_OP_OUT_ADDR) 0)) ∧
  ∀ (s : State) (r : KeyRun), s.boltUp = true → s.bolt.keys.run = some r →
    (s.seamUp = false → keyLogged r.op = true →
      exec .opDone s = .next { s with bolt.keys.run := some { r with paused := true } }) ∧
    (s.seamUp = true → r.abandoned = false → r.after = none →
    (r.op ≤ 3 → exec .opDone s = .next ((s.setSlot r.slot r.made).endKey r [] 0 0)) ∧
    (4 ≤ r.op → r.op ≤ 7 → exec .opDone s = .next (s.endKey r r.out r.reason 0)) ∧
    (r.op = 8 → r.revoked = false →
      let n := (s.get F.KEY_ATT_CNT_COUNTER + 1) % 2 ^ 32
      let counted : State := (s.set F.KEY_ATT_CNT_COUNTER n).boltNvs (.identity 0x20 (leBytes 4 n))
      exec .opDone s = .next (counted.used.endKey r (counted.statement r.made.type r.made.usage r.slot r.made.parent r.made.mrsel
        (r.out.take 32) (if r.made.type < 2 then List.replicate 96 0 else ecPoint r.made.key)) 0 0)) ∧
    (r.op = 9 →
      let l := (descendants s.bolt.keys.slots 64 [r.slot]).eraseDups
      exec .opDone s = .next ((({ s with bolt.keys.run := none } : State).takeSlots l 0).endKey r [] 0 (slotMask l))))

/-- Lifecycle commands, measurement extension and lock, trunk key agreement, tamper events and their clearing. -/
def Obligations.LifecycleMeasurementAndTamper : Prop :=
  (∀ (s : State) (who : Requester), s.accepts who R.KEY_LC_CMD →
    let w (v : Word) : State := s.written R.KEY_LC_CMD v
    let done (t : State) : Step := .next (t.answer who .done 0)
    ((w 1).seamUp = true → inSram ((w 1).get F.KEY_OP_IN_ADDR) 48 = true → (w 1).fuses.lifecycle = 1 → (w 1).ownerZero = true →
      let begun : State := (w 1).keyRecord 0x11 64 1 0 0 0 0
      exec (.lcBlowOwner who) s = done (({ begun with fuses.owner := begun.lcInput 48 } : State).showFuses.lcResult 0x11 0)) ∧
    ((w 1).seamUp = true → inSram ((w 1).get F.KEY_OP_IN_ADDR) 48 = true → (w 1).fuses.lifecycle ≠ 1 →
      exec (.lcBlowOwner who) s = done ((w 1).lcResult 0x11 0x16)) ∧
    ((w 1).seamUp = true → inSram ((w 1).get F.KEY_OP_IN_ADDR) 48 = false →
      exec (.lcBlowOwner who) s = done ((w 1).set F.KEY_LC_STATUS_REASON 0x0E01)) ∧
    ((w 2).seamUp = false → exec (.lcDeploy who) s = done ((w 2).set F.KEY_LC_STATUS_REASON 0x0E05)) ∧
    ((w 2).seamUp = true → (w 2).fuses.lifecycle = 1 → (w 2).ownerZero = false → (w 2).on F.PAT_STATUS_STRUCTURE = true →
      (w 2).on F.PAT_STATUS_UNOWNED = false →
      let begun : State := (w 2).keyRecord 0x12 64 1 0 0 0 0
      exec (.lcDeploy who) s = done (({ begun with fuses.lifecycle := 2 } : State).showFuses.lcResult 0x12 0)) ∧
    ((w 2).seamUp = true → (w 2).fuses.lifecycle ≠ 1 → exec (.lcDeploy who) s = done ((w 2).lcResult 0x12 0x16)) ∧
    ((w 3).seamUp = true → (w 3).fuses.lifecycle = 1 ∨ (w 3).fuses.lifecycle = 2 → (w 3).ownerZero = true →
      let begun : State := ((w 3).keyRecord 0x13 64 1 0 0 0 0).eraseAll
      exec (.lcRetire who) s =
        done (({ begun with fuses.lifecycle := 3, bolt.keys.device := none } : State).showFuses.showDevPub.lcResult 0x13 0)) ∧
    ((w 3).seamUp = true → (w 3).ownerZero = true → (w 3).fuses.lifecycle = 0 → exec (.lcRetire who) s = done ((w 3).lcResult 0x13 0x16))) ∧
  (∀ (s : State) (who : Requester) (v : Word), s.accepts who R.KEY_MR_EXT →
    let w : State := s.written R.KEY_MR_EXT v
    let m := w.get F.KEY_MR_EXT_REG
    let shown : State := (w.set F.KEY_MR_EXT_GO 0).set F.KEY_MR_STATUS_REG m
    w.on F.KEY_MR_EXT_GO = true →
    (shown.mayExtend who m = true → exec (.mrExtend who v) s = .next (((shown.extendMr m
      ((List.range 12).flatMap fun i => leBytes 4 (shown.rd (R.KEY_MR_DIGEST i)).toNat)).set F.KEY_MR_STATUS_REASON 0).answer who .done 0)) ∧
    (shown.mayExtend who m = false →
      exec (.mrExtend who v) s = .next ((shown.set F.KEY_MR_STATUS_REASON 0x0E17).answer who .done 0))) ∧
  (∀ (s : State) (who : Requester), s.accepts who R.KEY_MR_LOCK →
    exec (.mrLock1 who) s = .next ((s.written R.KEY_MR_LOCK 2).answer who .done 0)) ∧
  (∀ (s : State) (p : Fin 2), s.boltUp = true → s.bring p.val = 8 →
    (∀ ms : Nat, s.get (F.KEY_LINK_CFG_TIMEOUT_MS p.val) ≤ ms →
      exec (.keyAgreeTimeout p ms) s = .next (s.linkFail p.val 1 false)) ∧
    (∀ m : BitVec 504, slice m.toNat 496 8 = 2 → slice m.toNat 488 8 = 0 → slice m.toNat 480 8 = 1 →
      let d := (beBytes 58 (slice m.toNat 8 464)).take (slice m.toNat 472 8)
      let x : LinkSt := { s.link p.val with frags := [], msg := 0, count := 0 }
      exec (.keyAgreeRx p m) s = .next ((s.setLink p.val x).confirmRx p.val ((List.range 1).flatMap fun i =>
        (lookupKey i (insertKey 0 d (if (s.link p.val).count = 1 && (s.link p.val).msg = 2 then (s.link p.val).frags else []))).getD []))) ∧
    (∀ (d : List Byte) (ks : List (List Byte)), (s.link p.val).keys = some ks → d.take 32 = confirmOf ks (s.link p.val).peerUid →
      let kept : State := { s.setLink p.val LinkSt.reset with bolt.linkKeys := setAt s.bolt.linkKeys p.val (some (ks.take 4)) }
      s.confirmRx p.val d = ((((kept.set (F.KEY_LINK_STATUS_STATE p.val) 2).sat (F.KEY_LINK_CNT_AGREED p.val) 1).irq bKey 3).enterUp p.val))) ∧
  (∀ (s : State) (n : Fin 6) (present : Bool) (reading : Nat), s.spool.aon = true → s.on F.TMP_CTRL_ENABLE = true →
    bit (s.get F.TMP_RESP_EN) n.val = true →
    (s.tamperMeets n.val reading = false →
      exec (.tamperEvent n ⟨present, reading⟩) s = .next (s.set F.TMP_STATUS_ACTIVE (clrBit (s.get F.TMP_STATUS_ACTIVE) n.val))) ∧
    (s.tamperMeets n.val reading = true →
    let resp := slice (s.get F.TMP_RESP_RESP) (2 * n.val) 2
    let phase := if !s.boltPowered then 3 else if !s.on F.KEY_STATUS_BOOTED then 0 else if s.bolt.keys.run.isSome then 2 else 1
    let act := s.get F.TMP_STATUS_ACTIVE
    let seen : State := (s.setB F.TMP_EVENTS_SENSORS n.val).set F.TMP_STATUS_ACTIVE (if present then setBit act n.val else clrBit act n.val)
    let noted : State := (seen.spoolRecord 4 0x25 0x2501 n.val (phase + 256 * resp) 0).sat F.TMP_CNT_EVENTS 1
    let told : State := ({ noted.sets [(F.TMP_LAST_SENSOR, n.val), (F.TMP_LAST_PHASE, phase), (F.TMP_LAST_RESP, resp),
      (F.TMP_LAST_TIME_MS, noted.spool.timeMs)] with spool.tamperCount := noted.spool.tamperCount + 1 } : State).irq bTmp 1
    (resp = 0 ∨ resp = 3 → exec (.tamperEvent n ⟨present, reading⟩) s = .next told) ∧
    (resp = 1 →
      let c := satAdd 16 (told.get F.TMP_CNT_TAMPER_CNT) 1
      let kept : State := (told.set F.TMP_CNT_TAMPER_CNT c).nvsPut (.identity 0x30 (leBytes 4 c))
      kept.boltUp = true → kept.seamUp = true →
      exec (.tamperEvent n ⟨present, reading⟩) s = .next (kept.tamperAct 1)))) ∧
  ∀ (s : State) (who : Requester) (v : Word), s.accepts who R.TMP_CLEAR →
    let w : State := s.written R.TMP_CLEAR (v ||| 1)
    let resp (n : Nat) : Nat := slice (w.get F.TMP_RESP_RESP) (2 * n) 2
    let cleared : State := { w.sets [(F.TMP_STATUS_LOCKED, 0), (F.TMP_STATUS_PENDING, 0)] with spool.pendingZero := false }
    ((∀ n < 6, bit (w.get F.TMP_STATUS_ACTIVE) n = true → resp n ≠ 1 ∧ resp n ≠ 2) →
      (cleared.boltUp = true → cleared.seamUp = true → cleared.on F.TMP_STATUS_PENDING = false →
        cleared.on F.TMP_STATUS_LOCKED = false → cleared.on F.KEY_STATUS_LOCKED = true →
        exec (.tmpClear who v) s = .next ((cleared.set F.KEY_STATUS_LOCKED 0).answer who .done 0)) ∧
      (cleared.seamUp = false → exec (.tmpClear who v) s = .next (cleared.answer who .done 0))) ∧
    (∀ n < 6, bit (w.get F.TMP_STATUS_ACTIVE) n = true → resp n = 1 ∨ resp n = 2 →
      exec (.tmpClear who v) s = .next ((w.set F.TMP_REFUSE_REASON 0x2512).answer who .done 0))

/-- The pattern load: its start, abandonment, pause and resume, and each of its eight steps. -/
def Obligations.PatternLoadSteps : Prop :=
  (∀ (s : State) (who : Requester) (v : Word), s.accepts who R.PAT_CTRL →
    (s.on F.PAT_CTRL_ENABLE = false →
      let w : State := s.written R.PAT_CTRL (setBits v 0 1 1)
      let fresh : State := w.sets [(F.PAT_ERR_OFFSET_OFFSET, 0xFFFFFFFF), (F.PAT_UNIT_REASON_REASON, 0), (F.PAT_UNIT_REASON_DETAIL, 0xFFFF)]
      w.on F.PAT_CTRL_ENABLE = true →
      (fresh.startRefused = none →
        let begun : Loader := { fresh.bolt.pat with
          active := true, image := [], sections := [], queued := [], abandon := false, opened := false, begun := false
          total := leAt (fresh.sourceBytes 0 16) 8 4, digest := [], unowned := false }
        exec (.patLoadStart who v) s = .next ((({ fresh with bolt.pat := begun } : State).sets [(F.PAT_STATUS_STATE, 1),
          (F.PAT_STATUS_STEP, 0), (F.PAT_STATUS_PAUSED, 0), (F.PAT_STATUS_STOPPING, 0)]).answer who .done 0)) ∧
      (∀ c, fresh.startRefused = some c → exec (.patLoadStart who v) s =
        .next ((fresh.refuseUnit .pat (c % 256) (if c = 0x0205 then 0x0011 else 0xFFFF)).answer who .done 0))) ∧
    (s.on F.PAT_CTRL_ENABLE = true →
      let w : State := s.written R.PAT_CTRL (setBits v 0 1 0)
      w.on F.PAT_CTRL_ENABLE = false → w.bolt.pat.active = true →
      (w.bolt.pat.opened = false → w.bolt.pat.begun = false → w.get F.PAT_STATUS_STEP < 5 →
        exec (.patAbandon who v) s = .next ((((w.patProgress 0xFF 0).endLoadEarly).releaseStand).answer who .done 0)) ∧
      (5 ≤ w.get F.PAT_STATUS_STEP → exec (.patAbandon who v) s =
        .next ((({ w with bolt.pat := { w.bolt.pat with abandon := true } } : State).set F.PAT_STATUS_STOPPING 1).answer who .done 0)))) ∧
  (∀ (s : State), s.boltUp = true → s.on F.PAT_STATUS_PAUSED = true → s.seamUp = true →
    exec .patResume s = .next (s.set F.PAT_STATUS_PAUSED 0).landFlight) ∧
  ∀ (s : State) (us : Nat) (bad : Bool) (landed : Option Nat), s.boltUp = true → s.bolt.pat.active = true →
    let x := s.bolt.pat
    let n := s.get F.PAT_STATUS_STEP
    let does (b : Bool) (t : State) : Prop := exec (.patStepComplete us ⟨b, landed⟩) s = .next t
    (x.abandon = true → s.commitWritten = false → does bad s.loadAbandoned) ∧
    (x.abandon = false → s.on F.PAT_STATUS_PAUSED = false →
      (n < 3 → s.get F.PAT_CTRL_SRC ≤ 1 → does true (s.loadFails ⟨0x1E, 0xFFFF, 0xFFFFFFFF⟩ [])) ∧
      (n = 0 → does false (match s.readSource with
        | .error b => s.loadFails b []
        | .ok (img, l) => ({ s with bolt.pat := { x with image := img, sections := l } } : State).toStep 1)) ∧
      (n = 1 → does false (match s.manifestBad x.image with
        | some b => s.loadFails b []
        | none => ({ s with bolt.pat := { x with
            digest := sha384 (x.image.take (64 + 64 * x.sections.length))
            unowned := s.ownerZero && decide (s.fuses.lifecycle ≤ 1) } } : State).toStep 2)) ∧
      (n = 2 → s.on F.PAT_CTRL_CHECK_ONLY = false → does false (match s.sectionsBad x.image x.sections true with
        | some b => s.loadFails b []
        | none => ({ s with bolt.pat := { x with parsed := structureOf x.image x.sections } } : State).toStep 3)) ∧
      (n = 3 → does bad ((s.extendMr 2 x.digest).toStep 4)) ∧
      (n = 4 → x.begun = false → x.opened = false → s.isOn .rng = false →
        does bad (s.ledgerRecords.deliveryRecords.beginApply.applyOn landed)) ∧
      (n = 4 → x.begun = false → x.opened = false → s.isOn .rng = true → s.portUp 0 = true → s.bolt.rng.opening = none →
        let told : State := (s.startOpening 2).deliveryRecords
        does bad { told with bolt.pat := { told.bolt.pat with opened := true } }) ∧
      (n = 4 → x.begun = true → x.flight = [] → x.todo = [] →
        let told : State := ({ s with bolt.pat := { x with todo := [] } } : State).set HUnit.key.enable (b2n x.keyEnable)
        does bad ((told.refreshBook (List.range 12)).toStep 5)) ∧
      (∀ t : State, n = 5 → s.enableAll ((x.queued.filter fun y => !isSpool y.2.ctrl) ++ x.queued.filter fun y => isSpool y.2.ctrl) =
        (t, [], none) → t.seamUp = true → does bad (t.toStep 6).issueWarm) ∧
      (n = 6 → s.warmWaits = false → s.seamUp = true → does bad (s.toStep 7).issueCommit) ∧
      (n = 6 → s.warmWaits = false → s.seamUp = false → s.get F.PAT_CTRL_SRC ≠ 2 → does bad (s.set F.PAT_STATUS_PAUSED 1)) ∧
      (n = 7 → s.warmWaits = false → does bad (s.patStep8 us)))

/-- The boot ROM: it enables KEY, takes copy A or copy B from QSPI or offers the token, judges a delivered image, and halts. -/
def Obligations.BootRomStarts : Prop :=
  (∀ (s : State) (ta tb : Bool), s.bootMay = true → s.get F.TOP_BOOT_STATUS_STAGE = 0 → s.isOn .key = true →
    let r : State := s.bootStage 1
    (r.get F.TOP_BOOT_STATUS_BOOT_SRC = 0 → exec (.bootRom ta tb) s = .next (match r.copyBad (r.flashImage 0) ta with
      | none => ((r.bootStage 2).sramPut 0 (r.flashImage 0)).bootJump (r.flashImage 0)
      | some _ =>
        let c : State := (if ta then r else r.bootStage 2).set F.TOP_BOOT_STATUS_COPY 1
        match c.copyBad (r.flashImage 0x40000) tb with
        | none => ((c.bootStage 2).sramPut 0 (r.flashImage 0x40000)).bootJump (r.flashImage 0x40000)
        | some e => (if e = 4 then c else c.bootStage 2).bootHalt e)) ∧
    (r.get F.TOP_BOOT_STATUS_BOOT_SRC = 1 → exec (.bootRom ta tb) s = .next (r.handOver 1)) ∧
    (r.get F.TOP_BOOT_STATUS_BOOT_SRC = 3 → exec (.bootRom ta tb) s = .next (r.bootHalt 1))) ∧
  (∀ (s : State) (ta tb : Bool), s.bootMay = true → s.get F.TOP_BOOT_STATUS_STAGE = 0 → s.isOn .key = false →
    (s.carryOut .key).isOn .key = false → exec (.bootRom ta tb) s = .next ((s.carryOut .key).bootHalt 5)) ∧
  (∀ (s : State) (e : Nat),
    let t : State := (s.boltFault 0x01 0x0102 e (s.get F.TOP_BOOT_STATUS_STAGE) (s.get F.TOP_BOOT_STATUS_BOOT_SRC)).sets
      [(F.TOP_BOOT_STATUS_ERROR, e), (F.TOP_BOOT_STATUS_STAGE, 15)]
    s.bootHalt e = { t with bolt.ctl.hartsOn := clrBit t.bolt.ctl.hartsOn 0 }) ∧
  (∀ (s : State) (img : List Byte), s.spool.pwr.waking = false →
    s.bootJump img = (((((s.set F.TOP_BOOT_STATUS_STAGE 3).extendMr 0 (sha384 (img.take (64 + imageLength img)))).sets
      [(F.KEY_MR_LOCK_MR0, 1), (F.TOP_BOOT_STATUS_ERROR, 0)]).set F.TOP_BOOT_STATUS_STAGE 4).emit
        (.hartStart 0 (0x10000000 + imageEntry img)))) ∧
  ∀ (s : State), s.bootMay = true → 1 ≤ s.get F.TOP_BOOT_STATUS_STAGE → s.get F.TOP_BOOT_STATUS_STAGE ≤ 2 →
    s.get F.TOP_HOST_TOKEN_OWNER = 0 → exec .bootImageValidate s = .next (match s.imageBad s.deliveredImage with
      | none => (s.bootStage 2).bootJump s.deliveredImage
      | some e => ((s.bootStage 2).sets [(F.TOP_BOOT_STATUS_ERROR, e), (F.TOP_BOOT_IMAGE_LEN, 0)]).handOver (s.get F.TOP_BOOT_STATUS_BOOT_SRC))

/-- A cycle boundary brings ring time to the cycle's end on a root tick and runs the clock, plan, queues, ring, tunnels, adapters, dump. -/
def Obligations.CycleBegins : Prop :=
  (∀ (s : State), s.boltUp = true → s.isOn .clk = true →
    let ticked : State := s.addTicks (s.ticksTo s.cycleEnd)
    let tok := ticked.bolt.sch.tokNext
    let started : State := { ticked with
      bolt.sch.now := 0
      bolt.sch.tokNext := if cyclePs ≤ tok then tok - cyclePs else (40960 - (cyclePs - tok) % 40960) % 40960
      bolt.time.cycleTicks := ticked.bolt.time.ticks }
    let begun : State := (started.rebuilt.refillAll 195312).clockShown
    let planned : State := begun.clockCycle.commitsAtCycle.sewSwap.altResend
    let queued : State := planned.residueCycle.stallCycle.sampleAll
    let rung : State := ((queued.ringCycle.sendTime 0).sendTime 1).tunnelCycle
    let adapted : State := rung.audCycle.stcCycle.pcbCycle.dpeCycle.usbCycle
    exec .cycleBoundary s = .next (adapted.listCycle.dumpCycle.ntCycle).peripheralLevels) ∧
  ∀ (s : State), s.boltUp = true → s.isOn .clk = false → exec .cycleBoundary s = .next s.peripheralLevels

/-- TDM frames: a master frame plays and captures its sample, a slave frame follows its index, repeats on a gap, slips, is lost. -/
def Obligations.TdmFramesAreCapturedAndPlayed : Prop :=
  ∀ (s : State) (t : Fin 16), s.boltUp = true → s.isOn .aud = true → s.get F.PWR_STATUS_STATE ≠ 2 → s.isOn (.audTdm t) = true →
    (∀ (i : Fin 24) (data : List (BitVec 36)), s.on (F.AUD_TDM_CTRL_MASTER t) = true → i.val < s.samplesPer →
      let n := (s.cycle * s.samplesPer + i) % 16384
      exec (.tdmMasterFrame t i data) s = .next ((s.playFrame t n).capture t n data)) ∧
    (s.on (F.AUD_TDM_CTRL_MASTER t) = false →
      (∀ (e : BitVec 72) (data : List (BitVec 36)),
        let n := s.sampleIx (e.toNat / 32000000) (e.toNat % 32000000 * s.samplesPer / 32000000)
        let expects (run : Nat) (s : State) : State := { s with bolt.aud := { s.bolt.aud with
          expect := setAt s.bolt.aud.expect t.val (some ((n + 1) % 16384)), runs := setAt s.bolt.aud.runs t.val run } }
        (s.bolt.aud.expect.getD t.val none = none → exec (.tdmFsync t e data) s =
          .next (((expects 0 (if s.get (F.AUD_TDM_STATUS_CLOCK t) = 3 then s.tdmGap t n else s)).playFrame t n).capture t n data)) ∧
        (s.bolt.aud.expect.getD t.val none = some n → n < 16384 →
          let run := min 16 (s.bolt.aud.runs.getD t.val 0 + 1)
          exec (.tdmFsync t e data) s = .next (((if 16 ≤ run then (expects run s).set (F.AUD_TDM_STATUS_CLOCK t) 1
            else expects run s).playFrame t n).capture t n data)) ∧
        (s.bolt.aud.expect.getD t.val none = some ((n + 1) % 16384) → 
          exec (.tdmFsync t e data) s = .next ((s.playFrame t n).tdmSlip t (n + 1))) ∧
        (s.bolt.aud.expect.getD t.val none = some ((n + 16383) % 16384) →
          exec (.tdmFsync t e data) s = .next (((expects 0 (s.tdmRepeat t ((n + 16383) % 16384))).playFrame t n).capture t n data))) ∧
      (s.get (F.AUD_TDM_STATUS_CLOCK t) ≠ 3 →
        let n := (s.bolt.aud.expect.getD t.val none).getD (s.sampleIx s.cycle 0)
        let lost : State := { s with bolt.aud := { s.bolt.aud with
          expect := setAt s.bolt.aud.expect t.val none, runs := setAt s.bolt.aud.runs t.val 0
          slips := s.bolt.aud.slips ++ [(t.val, n % 16384)] } }
        exec (.tdmLost t) s = .next (((lost.set (F.AUD_TDM_STATUS_CLOCK t) 3).sat (F.AUD_TDM_CNT_LOST t) 1).irq bAud 2)))

/-- Received audio frames, playout reads with concealment, mixed samples of SEND and PLAY outputs, detector integrations. -/
def Obligations.AudioFramesPlayoutMixAndDetectors : Prop :=
  (∀ (s : State), s.boltUp = true → s.isOn .aud = true → s.get F.PWR_STATUS_STATE ≠ 2 →
    (∀ (entry : Fin 1024) (f : Frame),
      let e := s.entryGen entry f.hdr.gen.toNat
      let c := e.bundleCount
      let ahead := (hPcycle f.hdr + 2 ^ 32 - s.cycle) % 2 ^ 32
      e.valid = true → e.sink = true → e.localPort = 8 →
      (1 ≤ ahead → ahead < 64 → f.payload.length ≠ 16 * c * (s.samplesPer / 3) →
        exec (.audFrameRx entry f) s = .next ((s.sat F.AUD_FORMAT_FRAMES 1).irq bAud 7)) ∧
      (f.payload.length = 16 * c * (s.samplesPer / 3) → slice (hStreamAdapter f.hdr) 1 6 + 1 = c →
        (1 ≤ ahead → ahead < 32 → exec (.audFrameRx entry f) s = .next (s.each (List.range (s.samplesPer / 3)) fun j s =>
          s.each (List.range c) fun b s => s.storeTrio (e.bundleFirst + b) (hPcycle f.hdr) j (b2n f.hdr.path)
            (ofBe (bytesAt f.payload (16 * (j * c + b)) 16)))) ∧
        (32 ≤ ahead → ahead < 64 → exec (.audFrameRx entry f) s = .next (s.count 3152 1)))) ∧
    (∀ (ch : Fin 1024) (cyc : BitVec 32) (i : Fin 24) (bad : Bool), ch.val < s.remoteCount → i.val < s.samplesPer →
      let pc := cyc.toNat
      let k := trioKey ch pc (i.val / 3)
      let w := getKey 0 k s.bolt.aud.trios
      let here := decide (w ≠ 0) && decide (trioIndex w = s.sampleIx ((pc + 2 ^ 32 - s.playD) % 2 ^ 32) (3 * (i.val / 3))) &&
        decide (i.val % 3 < trioValid w)
      let counted : State := if here && bad then s.sat F.AUD_FORMAT_ECC 1 else s
      let r := s.remoteStep (s.remote ch) w (i.val % 3) (here && !bad)
      let kept : State := counted.setRemote ch { r.2 with prev := r.1, lastRead := some (pc, i.val) }
      let samples := putKey 0 (s.sampleIx pc i * 1024 + ch.val) (intSample r.1) kept.bolt.aud.heard
      let heard : State := { kept with bolt.aud.heard := samples }
      exec (.mixRead ch cyc i bad) s = .next (if i.val % 3 = 2 then
        ({ heard with bolt.aud.trios := putKey 0 k 0 heard.bolt.aud.trios } : State) else heard)) ∧
    (∀ (i : Fin 24), i.val < s.samplesPer →
      let r : State := s.genReview
      let n := r.sampleIx r.cycle i
      exec (.mixSample i true) s = .next (r.each (List.range (16 * r.slotsPer)) fun o s =>
        if s.on (F.AUD_OUT_MODE o) = false then s else
          let m := s.mixOutput o r.cycle i none
          let v := m.2 + 2 ^ 36 * b2n ((s.feeders o).any fun t => s.silenced t)
          { m.1 with bolt.aud.sends := putKey 0 (n * 512 + o) v m.1.bolt.aud.sends }) ∧
      (let c := (r.cycle + 2 ^ 32 - r.playD) % 2 ^ 32
       let fed : State := r.feedDets c i n
       exec (.mixSample i false) s = .next (fed.each (List.range (16 * fed.slotsPer)) fun o s =>
        if s.on (F.AUD_OUT_MODE o) = true then s else
          let m := s.mixOutput o c i (some n)
          { m.1 with bolt.aud.plays := putKey 0 (n * 512 + o) m.2 m.1.bolt.aud.plays }))) ∧
    (∀ (d : Fin 64) (c m : Nat), (s.bolt.aud.dets.getD d.val Detector.reset).cfg = some (c, m) →
      m ≤ (s.bolt.aud.dets.getD d.val Detector.reset).done →
      let x := s.bolt.aud.dets.getD d.val Detector.reset
      let mag := detMag (slice c 12 17) s.ringRate x.xs.reverse
      let cls := if mag / 16 < s.get (F.AUD_DET_THR_LOW_THR d) then 2 else if s.get (F.AUD_DET_THR_HIGH_THR d) < mag / 16 then 3 else 1
      let agree := if cls = x.cls then min 15 (x.agree + 1) else 1
      let dets := setAt s.bolt.aud.dets d.val { x with xs := [], done := 0, cls := cls, agree := agree }
      let noted : State := { s with bolt.aud.dets := dets }
      let shown : State := noted.sets [(F.AUD_DET_MAG_LO_MAG d, mag), (F.AUD_DET_MAG_HI_MAG d, mag / 2 ^ 32),
        (F.AUD_DET_CYCLE_CYCLE d, (s.cycle + 2 ^ 32 - 1) % 2 ^ 32)]
      let low := if d.val < 32 then F.AUD_DET_LOW_LO_LOW else F.AUD_DET_LOW_HI_LOW
      let told : State := shown.set (F.AUD_DET_STATUS_RESULT d) cls
      exec (.detIntegrationEnd d) s = .next
        (if s.get (F.AUD_DET_CFG2_CONFIRM d) ≤ agree && s.get (F.AUD_DET_STATUS_RESULT d) ≠ cls then
          (if cls = 2 then told.setB low (d.val % 32) else told.clrB low (d.val % 32)).irq bAud 4 else shown)))

/-- State channels: a firmware value and its alive count, STATE frames checked, accepted, duplicate, old or malformed, and staleness. -/
def Obligations.StateChannels : Prop :=
  (∀ (s : State) (who : Requester) (c : Fin 128) (v : Word), s.accepts who (R.STC_CH_VALUE_HI c) →
    let w : State := (s.written (R.STC_CH_VALUE_HI c) v).takeLo who (R.STC_CH_VALUE_LO c)
    w.isOn (.stcCh c) = true → w.get (F.STC_CH_CFG_ROLE c) = 1 → w.get (F.STC_CH_CFG_SRC c) = 0 →
    let n := (w.rd (R.STC_CH_VALUE_LO c)).toNat + 2 ^ 32 * (w.rd (R.STC_CH_VALUE_HI c)).toNat
    exec (.valueHiWrite who c v) s = .next (((w.setChan c { w.chan c with value := n, alive := ((w.chan c).alive + 1) % 256 }).showChan c).answer
      who .done 0)) ∧
  (∀ (s : State) (entry : Fin 1024) (f : Frame), s.boltUp = true → s.isOn .stc = true → (s.entry entry).valid = true →
    (s.entry entry).sink = true → (s.entry entry).localPort = 9 →
    let c := hChannel f.hdr
    let x := s.chan c
    let review (t : State) : Step := .next (((t.hpdReview 0).hpdReview 1).hpdReview 2)
    let formed := f.payload.length = 16 ∧ c = (s.entry entry).channel ∧ leAt f.payload 13 1 < 2 ∧ leAt f.payload 14 2 = 0 ∧
      slice f.hdr.svc.toNat 0 24 = 0 ∧ s.chanRole c 2 = true
    let fresh := s.on (F.STC_CH_STATUS_VALID c) = false ∨ s.on (F.STC_CH_STATUS_STALE c) = true ∨ f.hdr.gen.toNat ≠ x.gen
    let d := (f.hdr.seq.toNat + 65536 - x.seq) % 65536
    (f.payload.length ≠ 16 → exec (.stateRx entry f) s = review ((s.sat F.STC_FORMAT_FRAMES 1).irq bStc 5)) ∧
    (formed → ¬ fresh → d = 0 → exec (.stateRx entry f) s = review (s.sat (F.STC_CH_CNT3_DUP c) 1)) ∧
    (formed → ¬ fresh → 32768 ≤ d → exec (.stateRx entry f) s = review (s.sat (F.STC_CH_CNT3_OLD c) 1)) ∧
    (formed → fresh → s.on (F.STC_CH_CFG_CHK_EN c) = false → leAt f.payload 13 1 = 0 →
      s.get (F.STC_CH_CFG2_REPEAT_MAX c) = 0 →
      let y : Channel := { x with
        value := leAt f.payload 0 8, alive := hAlive f.hdr, seq := f.hdr.seq.toNat, gen := f.hdr.gen.toNat
        period := leAt f.payload 12 1, age := 0, repeats := 0 }
      exec (.stateRx entry f) s = review (((s.setChan c y).sets [(F.STC_CH_STATUS_VALID c, 1), (F.STC_CH_STATUS_STALE c, 0),
        (F.STC_CH_STATUS_CHK_FAIL c, 0), (F.STC_CH_STATUS_PATH c, b2n f.hdr.path), (F.STC_CH_ALIVE_ALIVE c, hAlive f.hdr),
        (F.STC_CH_ALIVE_PERIOD c, leAt f.payload 12 1), (F.STC_CH_LAST_CYCLE_CYCLE c, s.cycle)]).showChan c)) ∧
    (formed → fresh → s.on (F.STC_CH_CFG_CHK_EN c) = true →
      let crc := s.chanCheck c (leAt f.payload 0 8) (hAlive f.hdr)
      crc ≠ leAt f.payload 8 4 →
      let failed : State := ((s.set (F.STC_CVU_RESULT_CRC c) crc).sat (F.STC_CH_CNT2_CHK_ERR c) 1).set (F.STC_CH_STATUS_CHK_FAIL c) 1
      exec (.stateRx entry f) s = review ((((failed.set (F.STC_CVU_STATUS_LAST c) 2).sat (F.STC_CVU_CNT_MISMATCH c) 1).unitMismatch c).irq
        bStc 3))) ∧
  ∀ (s : State) (c : Fin 128), s.boltUp = true → s.chanRole c 2 = true → s.on (F.STC_CH_STATUS_STALE c) = false →
    s.get (F.STC_CH_CFG2_TIMEOUT c) * (s.chan c).period < (s.chan c).age →
    exec (.stateStale c) s = .next (((((s.set (F.STC_CH_STATUS_STALE c) 1).sat (F.STC_CH_CNT2_STALE_EVT c) 1).suspect c).irq bStc 1).showChan c)

/-- General-purpose check-value units: data words, fed bytes, START, COMPARE and the alive test; a bound unit ignores the write. -/
def Obligations.CheckValueUnits : Prop :=
  (∀ (s : State) (who : Requester) (u : Fin 144) (v : Word), 128 ≤ u.val →
    (s.accepts who (R.STC_CVU_DATA u) → (s.written (R.STC_CVU_DATA u) v).isOn (.stcCvu u) = true →
      exec (.cvuData who u v) s = .next (((s.written (R.STC_CVU_DATA u) v).cvuBytes u (leBytes 4 v.toNat)).answer who .done 0)) ∧
    (s.accepts who (R.STC_CVU_CMD u) → (∀ x, (s.written (R.STC_CVU_CMD u) x).isOn (.stcCvu u) = true) →
      (getBits v 9 1 = 0 → getBits v 10 1 = 0 → exec (.cvuFeedByte who u v) s = .next
        (((s.written (R.STC_CVU_CMD u) (v ||| 0x100)).cvuBytes u [v.extractLsb' 0 8]).answer who .done 0)) ∧
      (getBits v 8 1 = 0 → getBits v 10 1 = 0 → exec (.cvuStart who u v) s = .next
        (((s.written (R.STC_CVU_CMD u) (v ||| 0x200)).cvuRestart u).answer who .done 0)) ∧
      (getBits v 8 1 = 0 → getBits v 9 1 = 0 →
        let w : State := s.written (R.STC_CVU_CMD u) (v ||| 0x400)
        exec (.cvuCompare who u v) s = .next ((if w.get (F.STC_CVU_RESULT_CRC u) = w.get (F.STC_CVU_EXPECT_CRC u) then
          w.set (F.STC_CVU_STATUS_LAST u) 1
          else (((w.set (F.STC_CVU_STATUS_LAST u) 2).sat (F.STC_CVU_CNT_MISMATCH u) 1).unitMismatch u).irq bStc 3).answer who .done 0))) ∧
    (s.accepts who (R.STC_CVU_ALIVE u) → (s.written (R.STC_CVU_ALIVE u) v).isOn (.stcCvu u) = true →
      let w : State := s.written (R.STC_CVU_ALIVE u) v
      let m := if w.on (F.STC_CVU_CFG_ALIVE_W u) then 256 else 16
      let d := (getBits v 0 8 % m + m - w.get (F.STC_CVU_ALIVE_LAST u) % m) % m
      let r := if d = 0 then 2 else if d ≤ w.get (F.STC_CVU_CFG_MAXDELTA u) then 1 else 3
      let shown : State := w.sets [(F.STC_CVU_ALIVE_LAST u, getBits v 0 8 % m), (F.STC_CVU_ALIVE_DELTA u, d),
        (F.STC_CVU_STATUS_ALIVE_RES u, r)]
      let told : State := if r = 2 then shown.sat (F.STC_CVU_CNT2_REPEAT u) 1
        else if r = 3 then ((shown.sat (F.STC_CVU_CNT_ALIVE_ERR u) 1).unitMismatch u).irq bStc 4 else shown
      exec (.cvuAlive who u v) s = .next (told.answer who .done 0))) ∧
  ∀ (s : State) (who : Requester) (u : Fin 144) (v : Word), u.val < 128 →
    (s.accepts who (R.STC_CVU_DATA u) →
      exec (.cvuData who u v) s = .next (((s.written (R.STC_CVU_DATA u) v).sticky bStc 0).answer who .done 0)) ∧
    (s.accepts who (R.STC_CVU_ALIVE u) →
      exec (.cvuAlive who u v) s = .next (((s.written (R.STC_CVU_ALIVE u) v).sticky bStc 0).answer who .done 0))

/-- The PCIe bridge: TLPs queued or answered, packed into the tunnel, posted records numbered, requests opened, completions matched. -/
def Obligations.BridgeRecordsAndCredits : Prop :=
  (∀ (s : State) (q : Fin 3) (l : Fin 32) (t : Tlp), s.boltUp = true → s.isOn (.pcbQuad q) = true →
    (t.bad = true → exec (.tlpRx q l t) s = .next ((s.sat (F.PCBQ_ERR_MALFORMED q) 1).irq bPcb 7)) ∧
    (t.bad = false → t.kind = 1 → s.linkLives l = false → exec (.tlpRx q l t) s =
      .next ((s.emit (.tlp q 2 t.req.toNat t.tag.toNat true (bytesAt (Config.completion t.req.toNat t.tag.toNat 1 t.asks) 0 12))).sat
        (F.PCB_LNK_CNT2_UR_SENT l) 1)) ∧
    (t.bad = false → s.isOn (.pcbLink l) = true → s.linkQuad l = q.val → s.linkLives l = true → t.lockRead = false → t.kind ≠ 2 →
      exec (.tlpRx q l t) s = .next (s.setBlink l { s.blink l with out := (s.blink l).out ++ [⟨t, false, false⟩] }))) ∧
  (∀ (s : State) (l : Fin 32), s.boltUp = true →
    exec (.packTimeout l) s = .next (s.closeFrame l) ∧
    (s.isOn (.pcbLink l) = true → s.linkLives l = true → (s.blink l).ctl = [] →
      ((s.blink l).out = [] → exec (.tlpToTunnel l) s = .next s) ∧
      (∀ (w : WaitTlp) (ws : List WaitTlp), (s.blink l).out = w :: ws → (s.blink l).frame = none → s.mayGo l [] w.tlp = true →
        s.tlpWaits l w.tlp = 0 → exec (.tlpToTunnel l) s = .next (s.enterTunnel l 0 w.tlp)))) ∧
  (∀ (s : State) (entry : Fin 1024) (f : Frame) (tlps : List Tlp) (l : Nat), s.boltUp = true →
    s.linksOn.find? (fun l => s.linkEntry l = entry.val) = some l →
    let broken : State := (s.sat (F.PCBQ_ERR_MALFORMED (s.linkQuad l)) 1).irq bPcb 7
    (parseRecords f.payload.length f.payload = none → exec (.pcbRecordsRx entry f tlps) s = .next broken) ∧
    (∀ rs, parseRecords f.payload.length f.payload = some rs →
      let ts := (rs.zip tlps).map fun p => { p.2 with bytes := p.1.2 }
      let kinds (k : Nat) : Prop := (rs.any fun r => r.1 ≠ k) = false
      (4 ≤ hSubch f.hdr → exec (.pcbRecordsRx entry f tlps) s = .next broken) ∧
      (hSubch f.hdr < 3 → (rs.any fun r => r.1 ≠ 0) = true → exec (.pcbRecordsRx entry f tlps) s = .next broken) ∧
      (hSubch f.hdr = 3 → kinds 1 → exec (.pcbRecordsRx entry f tlps) s =
        .next (s.each rs fun r s => s.emit (.pcbControl l r.2))) ∧
      (hSubch f.hdr = 2 → kinds 0 → exec (.pcbRecordsRx entry f tlps) s =
        .next ((s.each ts fun t s => s.completionIn l t).showLink l)) ∧
      (hSubch f.hdr = 1 → kinds 0 → exec (.pcbRecordsRx entry f tlps) s =
        .next ((s.each ts fun t s => s.requestIn l t).showLink l)) ∧
      (hSubch f.hdr = 0 → kinds 0 →
        let count (t : State) : State := t.mapBlink l fun x => { x with
          pRecv := (x.pRecv + ts.length) % 2 ^ 32, pDisp := (x.pDisp + ts.length) % 2 ^ 32 }
        let led := hRelAdapter f.hdr / 16
        (led = (s.blink l).pRecv →
          let r := s.postedAll l (s.blink l).pRecv ts
          exec (.pcbRecordsRx entry f tlps) s = .next (((count r.1).each (faultRuns r.2 none) fun r s =>
            s.sendFault l r.1 r.2.1 r.2.2.1 r.2.2.2).showLink l)) ∧
        (led ≠ (s.blink l).pRecv →
          let a := ((ts.head?).map fun t : Tlp => t.addr.toNat).getD 0
          exec (.pcbRecordsRx entry f tlps) s = .next (((((count s).each ts fun t s => s.grantBack l 0 (unitsOf t)).bridgeFault l 4 led
            a).sendFault l 4 led ts.length a).showLink l))))) ∧
  ∀ (s : State) (l : Fin 32), s.boltUp = true → s.isOn (.pcbLink l) = true →
    (∀ r0 r1 : BitVec 32,
      let far := (List.range 2).map fun i : Nat =>
        (newer 12 ((s.blink l).far.getD i (0, 0)).1 (([r0.toNat, r1.toNat] : List Nat).getD i 0 % 4096),
          newer 20 ((s.blink l).far.getD i (0, 0)).2 (([r0.toNat, r1.toNat] : List Nat).getD i 0 / 4096))
      exec (.pcbCreditRx l r0 r1) s = .next ((s.setBlink l { s.blink l with far := far }).showLink l)) ∧
    (∀ n : BitVec 32, exec (.appliedRx l n) s = .next (s.set (F.PCB_LNK_PDISP_DISPOSED l) n.toNat)) ∧
    (∀ (cause : BitVec 8) (first count : BitVec 32) (addr : BitVec 64), exec (.faultRx l cause first count addr) s =
      .next (s.ledgerAdd l cause.toNat first.toNat count.toNat addr.toNat)) ∧
    ∀ (req : BitVec 16) (tag : BitVec 10) (r : OpenReq),
      (s.blink l).toFar.find? (fun r => r.req = req.toNat && r.tag = tag.toNat) = some r →
      let gone : State := (s.setBlink l { s.blink l with toFar := (s.blink l).toFar.erase r }).answerLocal l r.req r.tag 4 r.left
      exec (.completionTimeout l req tag) s = .next (((gone.sat (F.PCB_LNK_CNT_TIMEOUT l) 1).irq bPcb 3).showLink l)

/-- PCIe link states: LINK_STATE at both ends, a local link change, a downstream reset told to the far end. -/
def Obligations.BridgeLinkStates : Prop :=
  (∀ (s : State) (l : Fin 32) (flags speed width : BitVec 8), s.boltUp = true → s.isOn (.pcbLink l) = true →
    (s.upQuad (s.linkQuad l) = true → bit flags.toNat 0 = true →
      let shown : State := (s.sets [(F.PCB_LNK_STATUS_FAR_UP l, 1), (F.PCB_LNK_STATUS_FAR_SPEED l, speed.toNat),
        (F.PCB_LNK_STATUS_FAR_WIDTH l, width.toNat)]).irq bPcb 2
      exec (.linkStateRx l flags speed width) s =
        .next (if s.on (F.PCB_LNK_STATUS_FAR_UP l) = true then shown else shown.emit (.pcieReport l 2))) ∧
    (s.upQuad (s.linkQuad l) = false →
      let held : State := ((s.setBlink l { s.blink l with reset := bit flags.toNat 1, disable := bit flags.toNat 2 }).irq bPcb 2).emit
        (.pcieHold (s.linkQuad l) (bit flags.toNat 1) (bit flags.toNat 2))
      exec (.linkStateRx l flags speed width) s = .next (if bit flags.toNat 1 || bit flags.toNat 2 then
        held.set (F.PCB_LNK_STATUS_LOCKED l) 0 else held)) ∧
    (s.upQuad (s.linkQuad l) = true → ∀ reset disable : Bool,
      let free : State := if reset || disable then s.set (F.PCB_LNK_STATUS_LOCKED l) 0 else s
      exec (.downstreamReset l reset disable) s =
        .next (free.sendControl l 1 (2 * b2n reset + 4 * b2n disable) 0 0 s.cycle 0 0))) ∧
  ∀ (s : State) (q : Fin 3) (speed width : BitVec 3) (ltssm : BitVec 6), s.boltUp = true → s.isOn (.pcbQuad q) = true →
    let shown (up : Nat) (sp wd : Nat) : State := s.sets [(F.PCBQ_STATUS_LINK_UP q, up), (F.PCBQ_STATUS_SPEED q, sp),
      (F.PCBQ_STATUS_WIDTH q, wd), (F.PCBQ_STATUS_LTSSM q, ltssm.toNat)]
    let sp := min speed.toNat (s.topSpeed q)
    let on := shown 1 sp width.toNat
    let settled (t : State) : State := (t.rateReview [2 + 2 * q.val, 3 + 2 * q.val]).irq bPcb 1
    let down : State := ((shown 0 0 0).sat (F.PCBQ_DOWN_COUNT q) 1).quadDown q
    (bit (s.get F.CLK_STATUS_PCIE_REF_OK) q = false → exec (.pcieLinkChange q true speed width ltssm) s = .next s) ∧
    (s.get F.PWR_STATUS_STATE = 2 → q.val < 2 → exec (.pcieLinkChange q true speed width ltssm) s = .next s) ∧
    (bit (s.get F.CLK_STATUS_PCIE_REF_OK) q = true → s.get F.PWR_STATUS_STATE ≠ 2 → on.upQuad q = false →
      exec (.pcieLinkChange q true speed width ltssm) s =
        .next (settled (on.each (on.linksOf q) fun l s => s.sendControl l 1 1 sp width.toNat s.cycle 0 0))) ∧
    (s.on (F.PCBQ_STATUS_LINK_UP q) = true → down.upQuad q = true →
      let off : State := { down with bolt.pcieUp := false }
      exec (.pcieLinkChange q false speed width ltssm) s =
        .next (settled (off.each (off.linksOf q) fun l s => s.sendControl l 1 2 0 0 s.cycle 0 0)))

/-- Display tunnels: descriptors and pixel lines sent, frames received once, vertical sync and black frames, hot plug and EDID. -/
def Obligations.DisplayTunnels : Prop :=
  (∀ (s : State) (q : Fin 3) (t : DpTiming) (sdps : List (Bool × List Byte)) (i : Nat), s.boltUp = true → s.dpOn q.val = true →
    s.on (F.DPE_DP_STATUS_RX_LINK q) = true → t.nvid.toNat * t.htotal.toNat * t.vtotal.toNat ≠ 0 →
    (s.dpq q.val).rxTiming = timingBytes t → (s.dpq q.val).format = t.format.toNat →
    let linked : State := (s.mapDp q.val fun x => { x with rxMbit := t.symClk * 8 * dpLanes t.lanes.val / 1000000 }).rateReview
      [2 + 2 * q.val]
    let shown : State := (linked.sets [(F.DPE_DP_STATUS_VIDEO q, 1), (F.DPE_DP_DRATE_KBPS q, s.drate t),
      (F.DPE_DP_TIMING_HACTIVE q, t.hwidth.toNat), (F.DPE_DP_TIMING_VACTIVE q, t.vheight.toNat)]).mapDp q.val fun x => { x with
        rxTiming := timingBytes t, format := t.format.toNat }
    shown.dpEntry q.val 0 0 = some i → s.drate t ≤ (shown.bucket shown.cycle i 0x0C).1 →
    let n := (s.dpq q.val).frames
    let kept : State := shown.mapDp q.val fun x => { x with short := false, frames := (n + 1) % 2 ^ 32 }
    let told : State := kept.sendDisplay i 1 true n (descriptor t n false)
    let send := ((sdps.filter fun d => d.1).take 4).map (·.2)
    exec (.dpVideoFrame q t sdps) s = .next ((told.each send fun d s => s.sendDisplay i 2 false n (bytesAt d 0 36)).sat
      (F.DPE_DP_CNT2_SDP_DROP q) (sdps.length - send.length))) ∧
  (∀ (s : State) (q : Fin 3) (line : BitVec 16) (comps : List Nat) (i : Nat), s.boltUp = true → s.dpOn q.val = true →
    (s.dpq q.val).short = false → (s.dpq q.val).rxTiming ≠ [] → s.dpEntry q.val 0 0 = some i →
    let x := s.dpq q.val
    let k := pixComps x.format
    let b := pixBpc x.format
    exec (.dpLine q line comps) s = .next (s.each (segments x.format (leAt x.rxTiming 4 2)) fun g s =>
      s.sendDisplay i 0 false (x.frames + 2 ^ 32 - 1) (List.flatten [leBytes 2 line.toNat, leBytes 2 g.1, leBytes 2 g.2,
        leBytes 1 x.format, leBytes 1 0, packBits ((g.2 * k * b + 7) / 8)
          (((comps.drop (g.1 * k)).take (g.2 * k)).flatMap fun c => msbBits b c)]))) ∧
  (∀ (s : State) (entry : Fin 1024) (f : Frame), s.boltUp = true →
    let e := s.entry entry.val
    let q := (e.localPort - 3) / 2
    e.valid = true → e.sink = true → e.func = 0 → e.localPort % 2 = 1 → 3 ≤ e.localPort → s.dpOn q = true →
    (e.buddy = true → (s.dpq q).seen.contains f.hdr.seq.toNat = true → exec (.dpFrameRx entry f) s = .next s) ∧
    (e.buddy = false →
      let a := hStreamAdapter f.hdr
      let noted : State := (s.streamSink entry.val f.hdr).1.mapDp q fun x => { x with seen := (f.hdr.seq.toNat :: x.seen).take 1024 }
      ((s.streamSink entry.val f.hdr).2 = false → exec (.dpFrameRx entry f) s = .next (s.streamSink entry.val f.hdr).1) ∧
      ((s.streamSink entry.val f.hdr).2 = true →
      (a / 32 = 2 → f.payload.length = 36 → exec (.dpFrameRx entry f) s = .next (noted.emit (.dpSdp q f.payload))) ∧
      (a / 32 = 1 → f.payload.length = 48 → exec (.dpFrameRx entry f) s = .next (noted.mapDp q fun x => { x with
        txTiming := f.payload, black := x.black || bit (leAt f.payload 36 1) 0 })) ∧
      (a / 32 = 0 → 8 ≤ f.payload.length →
        f.payload.length = 8 + (leAt f.payload 4 2 * pixComps (leAt f.payload 6 1) * pixBpc (leAt f.payload 6 1) + 7) / 8 →
        exec (.dpFrameRx entry f) s = .next (noted.mapDp q fun x => { x with
          segs := insertKey (a % 16 * 2 ^ 32 + leAt f.payload 0 2 * 65536 + leAt f.payload 2 2) (f.payload.drop 8) x.segs
          txFormat := leAt f.payload 6 1, noPixels := 0, black := false }))))) ∧
  ∀ (s : State) (q : Fin 3), s.boltUp = true → s.dpOn q.val = true →
    (4 ≤ (s.dpq q.val).noPixels → exec (.dpNoVideo q) s = .next (s.mapDp q.val fun x => { x with black := true })) ∧
    (∀ (own : BitVec 64) (lineNs frameNs : Nat) (rate : Fin 4) (lanes : Fin 3), (s.dpq q.val).txTiming ≠ [] → ∃ t : State,
      exec (.dpTxVsync q own ⟨lineNs, frameNs⟩ ⟨rate, lanes⟩) s = .next t ∧
      (∀ e : Int, e = toSigned 64 ((own.toNat + 2 ^ 65 - leAt (s.dpq q.val).txTiming 24 8 - s.playD * 125000) % 2 ^ 64) →
        t.get (F.DPE_DP_ERR_E_NS q) = ofSigned 32 e % 2 ^ 32 ∧
        (t.dpq q.val).play = (if frameNs < e.natAbs then none else some (leAt (s.dpq q.val).txTiming 32 4 % 16)) ∧
        (e.natAbs ≤ lineNs → (t.dpq q.val).vAdj = 0) ∧
        (t.dpq q.val).noPixels = (s.dpq q.val).noPixels + 1)) ∧
    (∀ (irqs : BitVec 8) (ok : Bool) (edid : List Byte), (s.dpq q.val).hpd = false → exec (.hpdRise q true irqs ok edid) s =
      .next (let risen : State := s.mapDp q.val fun x => { x with
               hpd := true, irqs := (x.irqs + irqs.toNat) % 256, edid := edid.take 512, edidOk := ok }
        (if crc32 (risen.dpq q.val).edid ≠ crc32 (s.dpq q.val).edid then risen.irq bDpe 4 else risen).sampleHpd))

/-- AUX requests, replies and timeout; Ethernet frames received, learned, aged and flushed; a MAC's link change. -/
def Obligations.AuxAndEthernet : Prop :=
  (∀ (s : State) (q : Fin 3) (native write : Bool) (addr : BitVec 20) (offset : BitVec 9) (len : BitVec 5) (raw : List Byte),
    s.boltUp = true → s.dpOn q.val = true →
    (native = true → addr.toNat ≤ 0x2FF → exec (.auxRequest q native write addr offset len raw) s = .next (s.emit (.aux q.val 3 raw))) ∧
    (native = false → write = false → addr = 0x50 → exec (.auxRequest q native write addr offset len raw) s =
      .next (s.emit (.aux q.val 0 (bytesAt (s.dpq q.val).cache offset.toNat len.toNat)))) ∧
    (native = true → 0x600 < addr.toNat →
      ((s.dpq q.val).auxWait = true → exec (.auxRequest q native write addr offset len raw) s = .next (s.emit (.aux q.val 1 []))) ∧
      ((s.dpq q.val).auxWait = false → (s.dpq q.val).refill = none → exec (.auxRequest q native write addr offset len raw) s =
        .next (((s.mapDp q.val fun x => { x with auxWait := true }).sendAux q.val 0 raw).emit (.aux q.val 1 [])))) ∧
    (∀ ms : Nat, (s.dpq q.val).auxWait = true → s.get (F.DPE_DP_AUX_WAIT_MS q) ≤ ms → exec (.auxTimeout q ms) s =
      .next (((s.mapDp q.val fun x => { x with auxWait := false }).emit (.aux q.val 2 [])).sat (F.DPE_DP_CNT2_AUX_NACK q) 1))) ∧
  (∀ (s : State) (entry : Fin 1024) (f : Frame) (reply : List Byte), s.boltUp = true →
    let e := s.entry entry.val
    let q := (e.localPort - 2) / 2
    e.valid = true → e.func = 1 → 2 ≤ e.localPort → s.dpOn q = true →
    (e.localPort % 2 = 1 → exec (.auxReplyRx entry f reply) s = .next ((s.emit (.aux q 4 f.payload)).sendAux q 1 reply)) ∧
    (e.localPort % 2 = 0 → (s.dpq q).refill = none → (s.dpq q).auxWait = true → exec (.auxReplyRx entry f reply) s =
      .next ((s.mapDp q fun x => { x with auxWait := false }).emit (.aux q 0 f.payload)))) ∧
  (∀ (s : State) (m : Fin 12) (frame : List Byte) (fcs : BitVec 32), s.boltUp = true → s.ethOn (m.val / 4) = true → s.dpeRuns = true →
    (s.macsOf (m.val / 4)).contains (m.val % 4) = true → bit (s.get (F.DPE_ETH_STATUS_LINK (m.val / 4))) (m.val % 4) = true →
    let bs := frame ++ leBytes 4 fcs.toNat
    let t := ofBe (bytesAt bs 12 2)
    let tci := ofBe (bytesAt bs 14 2)
    (bs ≠ withFcs (bs.take (bs.length - 4)) → exec (.ethRx m frame fcs) s = .next (s.sat (F.DPE_MAC_CNT_FCS_DROP m) 1)) ∧
    (bs = withFcs (bs.take (bs.length - 4)) → 64 ≤ bs.length → bs.length ≤ 9216 →
      (isTag t = true → (∀ v, ((s.maps (m.val / 4)).find? fun v => v.2.1 = m.val % 4 && v.2.2.1 = tci % 4096) = some v →
          exec (.ethRx m frame fcs) s = .next (s.wrapEth m.val v.2.2.2.1 (tci % 4096) tci v.2.2.2.2 true bs)) ∧
        (((s.maps (m.val / 4)).find? fun v => v.2.1 = m.val % 4 && v.2.2.1 = tci % 4096) = none →
          exec (.ethRx m frame fcs) s = .next (s.sat (F.DPE_MAC_CNT_NOMAP_DROP m) 1))) ∧
      (isTag t = false → t ≠ 0x8808 → s.on (F.DPE_MAC_DEFAULT_EN m) = true →
        exec (.ethRx m frame fcs) s = .next (s.wrapEth m.val (s.get (F.DPE_MAC_DEFAULT_ENTRY m)) 0 0 false false bs)))) ∧
  (∀ (s : State), s.boltUp = true → s.isOn .dpe = true → s.get F.DPE_LEARN_CFG_AGE_S ≠ 0 →
    let older := s.bolt.learn.map fun x : Learned => { x with age := x.age + 1 }
    let keep := older.filter fun x => x.age ≤ s.get F.DPE_LEARN_CFG_AGE_S
    exec .ethAge s = .next ((({ s with bolt.learn := keep } : State).set F.DPE_LEARN_STAT_USED keep.length).sat
      F.DPE_LEARN_STAT2_AGED (older.length - keep.length))) ∧
  (∀ (s : State) (who : Requester) (v : Word), s.accepts who R.DPE_LEARN_FLUSH →
    let w : State := s.written R.DPE_LEARN_FLUSH v
    w.on F.DPE_LEARN_FLUSH_GO = true →
    let keep := if w.on F.DPE_LEARN_FLUSH_ALL then [] else w.bolt.learn.filter fun x => x.entry ≠ w.get F.DPE_LEARN_FLUSH_ENTRY
    exec (.learnGo who v) s = .next (((({ w with bolt.learn := keep } : State).set F.DPE_LEARN_STAT_USED keep.length).set
      F.DPE_LEARN_FLUSH_GO 0).answer who .done 0)) ∧
  ∀ (s : State) (m : Fin 12), s.boltUp = true → s.ethOn (m.val / 4) = true → (s.macsOf (m.val / 4)).contains (m.val % 4) = true →
    let f := F.DPE_ETH_STATUS_LINK (m.val / 4)
    (bit (s.get f) (m.val % 4) = false → exec (.ethLinkChange m true) s = .next ((s.setB f (m.val % 4)).irq bDpe 5)) ∧
    (bit (s.get f) (m.val % 4) = true → exec (.ethLinkChange m false) s =
      .next (((s.clrB f (m.val % 4)).setMac m.val ⟨0, []⟩).irq bDpe 5))

/-- Dock ports: toggling, attach, detach, moisture, a Request answered, PS_RDY entering the contract, a sink's own request. -/
def Obligations.DockAttachAndContracts : Prop :=
  ∀ (s : State) (p : Fin 6), s.spool.aon = true → s.get (F.TCP_PORT_STATUS_STATE p) = 2 →
    (∀ ms : Nat, s.get (F.TCP_PORT_CTRL_POWER_ROLE p) = 2 → s.attached p = false → s.on (F.TCP_PORT_STATUS_WET p) = false →
      s.get (F.TCP_PORT_STATUS_CC p) ≠ 5 → s.get (F.TCP_PORT_STATUS_CC p) ≠ 6 →
      let rp := !(s.dock p).presentRp && (s.rpCode p).isSome
      let turned : State := (s.mapDock p fun d => { d with presentRp := rp }).set (F.TCP_PORT_STATUS_CC p) 1
      (s.toggleDue p ms = true →
        exec (.drpToggle ⟨p, ms⟩) s = .next (if rp then turned.advertise p else turned.typec p .presentRd)) ∧
      (s.toggleDue p ms = false → exec (.drpToggle ⟨p, ms⟩) s = .next s)) ∧
    (∀ (asSink orient : Bool) (cc1 cc2 sbu1 sbu2 : Nat) (term1 term2 : Fin 4), (s.dock p).ccOpen = false →
      s.canAttach p asSink = true →
      (s.triesFirst p asSink = true → exec (.attach p asSink orient ⟨cc1, cc2, sbu1, sbu2⟩ ⟨term1, term2⟩) s =
        .next (let tried : State := (s.mapDock p fun d => { d with presentRp := asSink }).set (F.TCP_PORT_STATUS_CC p)
                 (if asSink then 5 else 6)
          if asSink then tried.advertise p else tried.typec p .presentRd)) ∧
      (s.triesFirst p asSink = false →
        let seen : State := (s.sets [(F.TCP_PORT_STATUS_CC p, if asSink then 4 else 3), (F.TCP_PORT_STATUS_ORIENT p, b2n orient),
          (F.TCP_PORT_STATUS_DATA p, b2n asSink)]).usbReview
        let m := seen.moistLowest p cc1 cc2 sbu1 sbu2 term1 term2
        let tested : State := (((seen.sat (F.TCP_PORT_CNT_ATTACH p) 1).tcpEvent p 1).typec p .moistureTest).moistResult p m.1 m.2
        exec (.attach p asSink orient ⟨cc1, cc2, sbu1, sbu2⟩ ⟨term1, term2⟩) s = .next (if tested.on (F.TCP_PORT_STATUS_WET p) ||
          tested.get (F.TCP_PORT_STATUS_CONTRACT p) ≠ 0 then tested else tested.powerUp p))) ∧
    (s.attached p = true →
      (s.on (F.TCP_PORT_STATUS_TRANSITION p) = false → exec (.detach p) s = .next (s.endAttach p)) ∧
      (s.isSource p = true → s.on (F.TCP_PORT_STATUS_TRANSITION p) = true → (s.dock p).ccOpen = false → exec (.detach p) s =
        .next ((s.mapDock p fun d => { d with ccOpen := true, frozen := true }).typec p .freeze))) ∧
    (∀ ms : Nat, (s.dock p).ccOpen = true → s.get (F.TCP_PORT_TMR2_DETACH_MS p) ≤ ms → exec (.detachDeclare p ms) s =
      .next ((s.sat (F.TCP_PORT_CNT4_XFER_DETACH p) 1).endAttach p)) ∧
    (∀ (cc1 cc2 sbu1 sbu2 : Nat) (term1 term2 : Fin 4),
      let m := s.moistLowest p cc1 cc2 sbu1 sbu2 term1 term2
      let does (t : State) : Prop := exec (.moistureTest p ⟨cc1, cc2, sbu1, sbu2⟩ ⟨term1, term2⟩) s = .next t
      (s.get (F.TCP_PORT_TMR2_WET_KOHM p) ≤ m.1 → s.on (F.TCP_PORT_STATUS_WET p) = false → s.get (F.TCP_PORT_STATUS_CC p) ≠ 7 →
        does (s.sets [(F.TCP_PORT_MOIST_KOHM p, min 1023 m.1), (F.TCP_PORT_MOIST_PIN p, m.2),
          (F.TCP_PORT_MOIST_DRY p, min 15 (s.get (F.TCP_PORT_MOIST_DRY p) + 1))])) ∧
      (m.1 < s.get (F.TCP_PORT_TMR2_WET_KOHM p) →
        let noted : State := s.sets [(F.TCP_PORT_MOIST_KOHM p, min 1023 m.1), (F.TCP_PORT_MOIST_PIN p, m.2), (F.TCP_PORT_MOIST_DRY p, 0)]
        let wet : State := ((noted.sat (F.TCP_PORT_CNT3_WET p) 1).set (F.TCP_PORT_STATUS_WET p) 1).tcpEvent p 4
        let left : State := ((wet.gateOffFor p).set (F.TCP_PORT_STATUS_VCONN p) 0).altEnd p
        does ((if left.isSource p then left.endAttach p else left).typec p .presentRd))) ∧
    (s.on (F.TCP_PORT_STATUS_WET p) = true → exec (.moistureTimer p) s = .next (s.typec p .moistureTest)) ∧
    (∀ pos curr : Nat, s.isSource p = true →
      (s.on (F.TCP_PORT_STATUS_HELD p) = true → s.crosses p = false → exec (.requestRx p pos curr false) s = .next (s.sendWait p)) ∧
      (s.crosses p = false → s.on (F.TCP_PORT_STATUS_HELD p) = false → s.seamUp = true →
        s.on (F.TCP_PORT_STATUS_TRANSITION p) = false → s.budgetGrows p = false →
        (∀ o, ((s.dock p).offered.find? fun o => o.1 = pos) = some o → curr ≤ o.2.2 →
          exec (.requestRx p pos curr false) s = .next (s.acceptRequest p pos curr o.2.1)) ∧
        (((s.dock p).offered.find? fun o => o.1 = pos) = none → exec (.requestRx p pos curr false) s = .next (s.pd p .reject)))) ∧
    (∀ n : Nat × Nat × Nat × Bool, s.attached p = true → (s.dock p).ccOpen = false → (s.dock p).swapping = false →
      (s.dock p).next = some n → (s.dock p).own ≠ 4 →
      exec (.psRdy p) s = .next (((((s.enterContract p n).tcpEvent p 3).budgetStep).startDiscovery p).seekUfp p) ∧
      ((s.enterContract p n).get (F.TCP_PORT_STATUS_CONTRACT p) = (if n.2.2.2 then 3 else 2)) ∧
      (s.enterContract p n).get (F.TCP_PORT_STATUS_TRANSITION p) = 0) ∧
    (∀ pdos : List Word, s.isSink p = true → pdos ≠ [] →
      let c := s.sinkChoice p pdos
      exec (.sourceCapabilitiesRx p pdos) s =
        .next (((s.endOwn p).mapDock p fun d => { d with next := some (c.1, c.2.1, c.2.2, false) }).sendOwn p 4))

/-- PD exchanges of a Dock port: partner swaps, Wait and retry, fast role swap, the Elrek mode, discovery, Hard Reset, a lost answer. -/
def Obligations.DockExchanges : Prop :=
  ∀ (s : State) (p : Fin 6), s.spool.aon = true → s.get (F.TCP_PORT_STATUS_STATE p) = 2 → s.on (F.TCP_PORT_STATUS_HELD p) = false →
    s.on (F.TCP_PORT_STATUS_WET p) = false → s.seamUp = true → s.attached p = true →
    (s.on (F.TCP_PORT_STATUS_TRANSITION p) = false → (s.dock p).target = none → (s.dock p).own = 0 →
      (s.get (F.TCP_PORT_POLICY_DR_SWAP p) = 1 → exec (.swapRx p true) s = .next (s.acceptSwap p true)) ∧
      (s.get (F.TCP_PORT_POLICY_DR_SWAP p) = 0 → exec (.swapRx p true) s = .next (s.pd p .reject)) ∧
      (s.canPrSwap p = false → exec (.swapRx p false) s = .next (s.pd p .reject)) ∧
      (s.canPrSwap p = true → s.get (F.TCP_PORT_POLICY_PR_SWAP p) = 2 → (s.dock p).answer = none →
        s.get (F.TCP_PORT_ASK_KIND p) ≠ 1 →
        exec (.swapRx p false) s = .next (((s.set (F.TCP_PORT_ASK_KIND p) 1).sendWait p).tcpEvent p 5)) ∧
      exec (.vconnSwapRx p) s = .next (if s.on (F.TCP_PORT_CTRL_VCONN_SWAP p) then
        (s.pd p .accept).set (F.TCP_PORT_STATUS_VCONN p) (1 - s.get (F.TCP_PORT_STATUS_VCONN p)) else s.pd p .reject)) ∧
    ((s.dock p).own ≠ 0 → (s.dock p).retry = false →
      exec (.waitRx p) s = .next ((s.sat (F.TCP_PORT_CNT2_WAIT_RX p) 1).mapDock p fun d => { d with retry := true, waits := d.waits + 1 }) ∧
      ((s.dock p).own = 1 → exec (.swapAnswerRx p true) s = .next ((s.endOwn p).beginPrSwap p)) ∧
      ((s.dock p).own = 2 → exec (.swapAnswerRx p true) s = .next ((s.endOwn p).flipData p)) ∧
      ((s.dock p).own = 3 → exec (.swapAnswerRx p true) s =
        .next (((s.endOwn p).set (F.TCP_PORT_STATUS_VCONN p) (1 - (s.endOwn p).get (F.TCP_PORT_STATUS_VCONN p))).vconnSettled p))) ∧
    (∀ ms : Nat, (s.dock p).retry = true → s.get (F.TCP_PORT_TMR_WAIT_MS p) ≤ ms →
      (s.get (F.TCP_PORT_TMR_WAIT_MAX p) = 0 → exec (.waitRetry p ms) s = .next (s.sendOwn p (s.dock p).own)) ∧
      (s.get (F.TCP_PORT_TMR_WAIT_MAX p) ≠ 0 → s.get (F.TCP_PORT_TMR_WAIT_MAX p) ≤ (s.dock p).waits → (s.dock p).own ≠ 2 →
        exec (.waitRetry p ms) s = .next (((s.endOwn p).tcpEvent p 9).vconnSettled p))) ∧
    (s.isSink p = true → s.on (F.TCP_PORT_CTRL_FRS p) = true →
      let sent : State := (((s.dropContract p 1).pd p .frSwap).sat (F.TCP_PORT_CNT3_FRS p) 1).tcpEvent p 7
      let r := sent.fastStart (p.val + 1)
      r.2 = true →
      let source : State := r.1.set (F.TCP_PORT_STATUS_CC p) 3
      exec (.frSwapSignal p) s = .next (((if source.on (F.TCP_PORT_CTRL_VCONN_SWAP p) then source.set (F.TCP_PORT_STATUS_VCONN p) 1
        else source).advertise p).sendCaps p)) ∧
    (∀ half : Bool, s.get (F.TCP_PORT_STATUS_DATA p) = 1 →
      (s.offersElrek p = true → exec (.enterModeRx p half) s = .next ((s.pd p (.vdmAck [])).altEntered p half)) ∧
      (s.offersElrek p = false → exec (.enterModeRx p half) s = .next (s.pd p .vdmNak))) ∧
    (s.on (F.TCP_PORT_STATUS_ALT p) = true → exec (.exitModeRx p) s = .next ((s.pd p (.vdmAck [])).altEnd p)) ∧
    (s.offersElrek p = true →
      exec (.discoverRx p 1) s = .next (s.pd p (.vdmAck [BitVec.ofNat 32 (s.get F.TCP_ALT_ID_SVID * 2 ^ 16)])) ∧
      exec (.discoverRx p 2) s = .next (s.pd p (.vdmAck [s.modeVdo p]))) ∧
    (s.offersElrek p = false → exec (.discoverRx p 1) s = .next (s.pd p .vdmNak)) ∧
    exec (.hardResetRx p) s = .next (s.doHardReset p) ∧
    (∀ v : Nat, (s.dock p).target = some v → v < s.get (F.TCP_BLIVE_LIVE p) → s.isSource p = true → (s.dock p).heldBudget = false →
      ((s.dock p).again = false → exec (.senderResponseTimeout p) s =
        .next (((s.mapDock p fun d => { d with again := true }).pd p .softReset).sendCaps p)) ∧
      ((s.dock p).again = true → exec (.senderResponseTimeout p) s = .next (((((s.setLive p (s.get (F.TCP_BLIVE_DRAW p))).mapDock p
        fun d => { d with heldBudget := true }).set F.TCP_STATUS_HELD_BUDGET 1).tcpEvent p 11).budgetStep))) ∧
    (∀ (vdo : Word) (speed : Fin 8) (a e : Bool),
      ((s.dock p).disc = 3 → exec (.vdmAckRx p 2 true vdo speed a e) s =
        .next ((s.mapDock p fun d => { d with disc := 4 }).altEntered p (s.dock p).half)) ∧
      ((s.dock p).disc = 1 → getBits vdo 28 4 = 1 →
        let known : State := (s.wr (R.TCP_PORT_PARTNER_VDO p) vdo).mapDock p fun d => { d with disc := 2 }
        (known.on (F.TCP_PORT_STATUS_VCONN p) = true →
          exec (.vdmAckRx p 0 true vdo speed a e) s = .next (known.pd p (.discover true))) ∧
        (known.on (F.TCP_PORT_STATUS_VCONN p) = false → known.on (F.TCP_PORT_CTRL_VCONN_SWAP p) = true → (known.dock p).own = 0 →
          exec (.vdmAckRx p 0 true vdo speed a e) s = .next (known.sendOwn p 3)) ∧
        (known.on (F.TCP_PORT_STATUS_VCONN p) = false → known.on (F.TCP_PORT_CTRL_VCONN_SWAP p) = false →
          exec (.vdmAckRx p 0 true vdo speed a e) s = .next (known.sendEnter p false))))

/-- Dock commands: answers to ASK, budget commit, hold, and the port commands detach, swaps, Hard Reset, offers, Enter and Exit Mode. -/
def Obligations.DockCommands : Prop :=
  (∀ (s : State) (who : Requester) (p : Fin 6),
    (∀ v : Word, s.accepts who (R.TCP_PORT_ASK p) →
      let w : State := s.written (R.TCP_PORT_ASK p) v
      getBits v 3 1 = 1 → w.get (F.TCP_PORT_ASK_KIND p) ≠ 0 → exec (.askAnswer who p v) s =
        .next ((w.mapDock p fun d => { d with answer := some (w.get (F.TCP_PORT_ASK_KIND p), getBits v 2 1 = 1) }).answer who .done 0)) ∧
    (∀ v : Word, s.accepts who (R.TCP_PORT_CTRL p) →
      let w : State := (s.written (R.TCP_PORT_CTRL p) (setBits v 0 1 0)).set (F.TCP_PORT_CTRL_ENABLE p) 0
      w.get (F.TCP_PORT_STATUS_STATE p) = 2 →
      (w.attached p = true → exec (.tcpPortHold who p v) s =
        .next (((w.mapDock p fun d => { d with heldWords := w.portWords p }).set (F.TCP_PORT_STATUS_HELD p) 1).answer who .done 0)) ∧
      (w.attached p = false → exec (.tcpPortHold who p v) s =
        .next (((w.sets [(F.TCP_PORT_STATUS_STATE p, 0), (F.TCP_PORT_STATUS_CC p, 0)]).typec p .openCc).answer who .done 0))) ∧
    (s.accepts who (R.TCP_PORT_CMD p) →
      let w (op : Nat) : State := s.written (R.TCP_PORT_CMD p) (BitVec.ofNat 32 op)
      let ok (op : Nat) : State := (w op).sets [(F.TCP_PORT_CMD_STATUS_REASON p, 0), (F.TCP_PORT_CMD_STATUS_DETAIL p, 0xFFFF)]
      let done (t : State) : Step := .next (t.answer who .done 0)
      let on (op : Nat) := (w op).dockOn p = true
      (on 1 → (w 1).attached p = true → exec (.cmdDetach who p) s = done ((ok 1).errorRecovery p)) ∧
      (on 2 → (w 2).freeToAsk p = true → (w 2).explicit p = true → (w 2).canPrSwap p = true → (w 2).on (F.TCP_PORT_STATUS_WET p) = false →
        exec (.prSwap who p) s = done ((ok 2).sendOwn p 1)) ∧
      (on 3 → (w 3).freeToAsk p = true → (w 3).explicit p = true → (w 3).on (F.TCP_PORT_STATUS_WET p) = false →
        exec (.drSwap who p) s = done (if (ok 3).on (F.TCP_PORT_STATUS_ALT p) then (((ok 3).pd p .exitMode).altEnd p).sendOwn p 2
          else (ok 3).sendOwn p 2)) ∧
      (on 4 → (w 4).freeToAsk p = true → (w 4).explicit p = true → (w 4).on (F.TCP_PORT_CTRL_VCONN_SWAP p) = true →
        exec (.vconnSwap who p) s = done ((ok 4).sendOwn p 3)) ∧
      (on 5 → (w 5).attached p = true → (w 5).on (F.TCP_PORT_STATUS_HELD p) = false →
        exec (.hardReset who p) s = done (((ok 5).pd p .hardReset).doHardReset p)) ∧
      (on 6 → (w 6).isSource p = true → (w 6).on (F.TCP_PORT_STATUS_HELD p) = false → (w 6).on (F.TCP_PORT_STATUS_TRANSITION p) = false →
        exec (.sendCaps who p) s = done ((ok 6).sendCaps p)) ∧
      (on 7 → (w 7).freeToAsk p = true → (w 7).explicit p = true → (w 7).offersElrek p = true →
        (w 7).on (F.TCP_PORT_STATUS_WET p) = false → (w 7).on (F.TCP_PORT_STATUS_ALT p) = false →
        (w 7).get (F.TCP_PORT_STATUS_DATA p) = 0 → getBits ((w 7).rd (R.TCP_PORT_PARTNER_VDO p)) 28 4 = 1 →
        exec (.enterMode who p) s = done ((ok 7).sendEnter p ((ok 7).on (F.TCP_PORT_CABLE_EMARKED p)))) ∧
      (on 8 → (w 8).on (F.TCP_PORT_STATUS_ALT p) = true → (w 8).on (F.TCP_PORT_STATUS_HELD p) = false →
        exec (.exitMode who p) s = done (((ok 8).pd p .exitMode).altEnd p)) ∧
      ((w 1).attached p = false → exec (.cmdDetach who p) s =
        done ((w 1).sets [(F.TCP_PORT_CMD_STATUS_REASON p, 0x2013), (F.TCP_PORT_CMD_STATUS_DETAIL p, 0xFFFF)])))) ∧
  ∀ (s : State) (who : Requester) (v : Word), s.accepts who R.TCP_BUDGET_CMD →
    let w : State := s.written R.TCP_BUDGET_CMD v
    let result (c d : Nat) : State := w.sets [(F.TCP_BUDGET_RESULT_REASON, c), (F.TCP_BUDGET_RESULT_DETAIL, d)]
    let sum := ((List.range 6).map fun p => w.get (F.TCP_BSTAGE_UNITS p)).sum
    getBits v 0 1 = 1 →
    (w.get F.TCP_BOARD_UNITS < sum → exec (.budgetCommit who v) s = .next ((result 0x2007 0xFFFF).answer who .done 0)) ∧
    (sum ≤ w.get F.TCP_BOARD_UNITS → (∀ p < 6, w.get (F.TCP_BSTAGE_UNITS p) = 0 ∨ w.get (F.TCP_PORT_CTRL_POWER_ROLE p) ≠ 1) →
      (w.on F.TCP_STATUS_MOVING = false → exec (.budgetCommit who v) s = .next ((result 0 0xFFFF).takeBudget.answer who .done 0)) ∧
      (w.on F.TCP_STATUS_MOVING = true → w.on F.TCP_STATUS_HELD_BUDGET = false →
        exec (.budgetCommit who v) s = .next ((result 0x2005 0xFFFF).answer who .done 0)))

/-- A power gate starts: the input window, insert delay, precharge with its short check and timeout, ramp to power-good, ride, power-good lost. -/
def Obligations.GateStartUp : Prop :=
  ∀ (s : State) (n : Fin 7), s.spool.aon = true →
    (∀ gs : Nat,
      let now : State := s.set (F.PGT_GATE_STATUS_GSTATE n) gs
      s.setGs n gs = if s.pgPins n = now.pgPins n then now
        else now.emit (.gatePins n (now.pgPins n).1 (now.pgPins n).2.1 (now.pgPins n).2.2)) ∧
    (∀ vin : Nat, n ≠ 0 →
      let m : State := s.measureVin n vin
      (m.gstate n = 1 → m.inside n = true → exec (.inputWindow n vin) s = .next (m.setGs n 2)) ∧
      (m.gstate n = 5 → m.inside n = true → exec (.inputWindow n vin) s = .next (m.setGs n 5)) ∧
      (m.gstate n = 5 → (m.gate n).ovOut = false → (m.gate n).uvIn = false → exec (.inputWindow n vin) s = .next (m.setGs n 9)) ∧
      (m.gstate n = 5 → (m.gate n).ovOut = true → exec (.inputWindow n vin) s = .next (m.windowOpen' n 3))) ∧
    (∀ vin : Nat, s.on (F.PGT_GATE_CTRL_TRACK n) = false →
      100 * vin > 10000 * s.get (F.PGT_GATE_WIN_UV_UV_ON n) → 100 * vin < 10000 * s.get (F.PGT_GATE_WIN_OV_OV_ON n) →
      100 * vin ≤ 10000 * s.get (F.PGT_GATE_WIN_OV_OV_OFF n) → s.measureVin n vin =
        (s.mapGate n fun g => { g with vin := vin, uvIn := true, ovOut := false }).set (F.PGT_GATE_VMEAS_VIN n) (min 1023 (vin / 100))) ∧
    (∀ ms : Nat,
      (s.gstate n = 9 → s.get (F.PGT_GATE_RAMP_UV_RIDE_MS n) ≤ ms → exec (.uvRideEnd ⟨n, ms⟩) s = .next (s.windowOpen' n 2)) ∧
      (ms < s.get (F.PGT_GATE_RAMP_UV_RIDE_MS n) → exec (.uvRideEnd ⟨n, ms⟩) s = .next s) ∧
      (s.gstate n = 2 → s.inside n = true → s.get (F.PGT_GATE_TIMING_INS_MS n) ≤ ms → exec (.insertDone ⟨n, ms⟩) s =
        .next (((s.mapGate n fun g => { g with e := 0 }).set (F.PGT_GATE_IMEAS_I2T_PCT n) 0).setGs n
          (if s.on (F.PGT_GATE_CTRL_PRE_EN n) then 3 else 4))) ∧
      (ms < s.get (F.PGT_GATE_TIMING_INS_MS n) → exec (.insertDone ⟨n, ms⟩) s = .next s)) ∧
    (∀ vout aUs : Nat,
      let m : State := s.measureVout n vout
      m.gstate n = 3 →
      ((m.gate n).vin ≤ vout + 1000 → exec (.prechargeDone n vout) s = .next (m.setGs n 4)) ∧
      (1000 * m.get (F.PGT_GATE_TIMING_SHORT_MS n) ≤ aUs → 8 * vout < (m.gate n).vin →
        exec (.preShortCheck n vout aUs) s = .next (m.gateTrip n 6 aUs)) ∧
      ((m.gate n).vin ≤ 8 * vout → exec (.preShortCheck n vout aUs) s = .next m) ∧
      (1000 * m.get (F.PGT_GATE_TIMING_PRE_TO_MS n) ≤ aUs →
        (vout + 1000 < (m.gate n).vin → 2 * vout < (m.gate n).vin → exec (.preTimeout n vout aUs) s = .next (m.gateTrip n 7 aUs)) ∧
        ((m.gate n).vin ≤ 2 * vout → exec (.preTimeout n vout aUs) s = .next (m.setGs n 4)))) ∧
    (∀ vout vgs aUs : Nat,
      let m : State := (s.measureVout n vout).set (F.PGT_GATE_VMEAS_VGS n) (min 255 vgs)
      (m.gstate n = 4 → 100 ≤ vgs → (m.gate n).vin ≤ vout + 1000 → exec (.rampDone n vout vgs) s =
        .next ((((m.setGs n 5).setPgood n true).overcurrent n false).watchWindows n)) ∧
      (m.on (F.PGT_GATE_STATUS_PGOOD n) = true → vgs < 90 →
        (m.inside n = true → exec (.pgoodFall n vout vgs aUs) s = .next (m.gateTrip n 8 aUs)) ∧
        (m.inside n = false → exec (.pgoodFall n vout vgs aUs) s = .next (m.setPgood n false)))) ∧
    (∀ ms aUs : Nat, s.gstate n = 4 → s.get (F.PGT_GATE_RAMP_RAMP_TO_MS n) ≤ ms →
      exec (.rampTimeout ⟨n, ms⟩ aUs) s = .next (s.gateTrip n 8 aUs))

/-- Gate trips and retries, the slow trip's energy, removal, clear, discharge, and commands that turn a gate on and off. -/
def Obligations.GateTripsAndCommands : Prop :=
  (∀ (s : State) (n : Fin 7), s.spool.aon = true →
    (∀ uV aUs : Nat, [3, 4, 5, 8, 9].contains (s.gstate n) = true →
      let level := 2 * s.get (F.PGT_GATE_LIMIT_LIMIT n) * s.get (F.PGT_GATE_LIMIT_SHUNT n)
      (level ≤ 100 * uV → exec (.fastTrip ⟨n, uV⟩ aUs) s = .next (s.gateTrip n 4 aUs)) ∧
      (100 * uV < level → exec (.fastTrip ⟨n, uV⟩ aUs) s = .next s)) ∧
    (∀ i aUs : Nat, [3, 4, 5, 8, 9].contains (s.gstate n) = true →
      let lim := s.get (F.PGT_GATE_LIMIT_LIMIT n)
      let level := lim * lim * s.get (F.PGT_GATE_I2T_T_TRIP n) * 100
      let e := ((s.i2t n i).gate n).e
      (∃ pct, s.i2t n i = (s.mapGate n fun g => { g with e := g.e + i * i - lim * lim }).sets
        [(F.PGT_GATE_IMEAS_CURRENT n, min i 8191), (F.PGT_GATE_IMEAS_I2T_PCT n, pct)]) ∧
      (e < level → exec (.i2tUpdate n i aUs) s = .next (s.i2t n i)) ∧
      (level ≤ e → exec (.i2tUpdate n i aUs) s = .next ((s.i2t n i).gateTrip n 5 aUs))) ∧
    (s.gstate n = 8 → n ≠ 0 → exec (.frsTimeout n) s =
      .next (((s.openGate n 9 0).gateEvent n 5).frsFailed (n.val - 1))) ∧
    (s.gstate n = 6 → s.get (F.PGT_GATE_WAIT_LEFT_MS n) = 0 →
      let rest : State := (s.set (F.PGT_GATE_WAIT_LEFT_MS n) 0).setGs n 0
      exec (.retryWaitEnd n) s = .next (if rest.commanded n then (rest.applyPending n).toWindow n else rest)) ∧
    (s.on (F.PGT_GATE_STATUS_PGOOD n) = true → exec (.pgoodHeld n) s = .next (s.set (F.PGT_GATE_ATTEMPT_COUNT n) 0)) ∧
    (∀ ms : Nat, (s.gate n).uvIn = false → s.gstate n ≠ 6 → s.gstate n ≠ 7 → s.get (F.PGT_GATE_RETRY_REMOVE_MS n) ≤ ms →
      exec (.gateRemoval ⟨n, ms⟩) s = .next (s.set (F.PGT_GATE_ATTEMPT_COUNT n) 0)) ∧
    (∀ vout : Nat,
      let shown : State := (s.mapGate n fun g => { g with vout := vout }).set (F.PGT_GATE_VMEAS_VOUT n) (min 1023 (vout / 100))
      exec (.dischargeDone n vout) s = .next (if vout < 800 then shown.set (F.PGT_GATE_STATUS_DSCH n) 0 else shown))) ∧
  (∀ (s : State) (n : Fin 7) (cause aUs : Nat), n = 0 → cause = 4 →
    let counted : State := ((s.sat (F.PGT_GATE_CNT_FAST n) 1).sat (F.PGT_GATE_ATTEMPT_COUNT n) 1).set (F.PGT_GATE_ATTEMPT_A_US n)
      (min aUs (2 ^ 24 - 1))
    counted.get (F.PGT_GATE_RETRY_RETRY_MAX n) = 0 →
    s.gateTrip n cause aUs = (((counted.set (F.PGT_GATE_WAIT_LEFT_MS n) (min (max ((32 * aUs + 999) / 1000)
      (counted.get (F.PGT_GATE_RETRY_RETRY_MIN_MS n))) (2 ^ 20 - 1))).openGate n 4 6).gateEvent n 2)) ∧
  ∀ (s : State) (who : Requester) (n : Fin 7),
    (s.accepts who (R.PGT_GATE_CMD n) →
      let w (v : Word) : State := s.written (R.PGT_GATE_CMD n) v
      ((w 1).gstate n = 7 → exec (.gateCmdClear who n) s =
        .next ((((w 1).set (F.PGT_GATE_ATTEMPT_COUNT n) 0).leaveWait n).answer who .done 0)) ∧
      ((w 1).gstate n ≠ 7 → exec (.gateCmdClear who n) s = .next (((w 1).set (F.PGT_GATE_ATTEMPT_COUNT n) 0).answer who .done 0)) ∧
      (n ≠ 0 → (w 2).gstate n = 0 → 800 ≤ ((w 2).gate n).vout →
        exec (.gateDischarge who n) s = .next (((w 2).set (F.PGT_GATE_STATUS_DSCH n) 1).answer who .done 0))) ∧
    (s.accepts who (R.PGT_GATE_CTRL n) →
      (n ≠ 0 → ∀ on : Bool, let w : State := s.written (R.PGT_GATE_CTRL n) (setBits (s.rd (R.PGT_GATE_CTRL n)) 1 1 (b2n on))
        exec (.gateOnWrite who n on) s = .next ((if w.commanded n then w.startGate n else w.commandOff n).answer who .done 0)) ∧
      (n = 0 → exec (.gateOnWrite who n false) s =
        .next (((s.written (R.PGT_GATE_CTRL n) (s.rd (R.PGT_GATE_CTRL n))).sticky bPgt 0).answer who .done 0)))

/-- VDD_AON power-on and brown-out keep only NVS, flash and fuses; a lost clock runs from the backup oscillator and resets the bolt die. -/
def Obligations.PowerOnAndClockLoss : Prop :=
  (∀ (s : State) (straps : BitVec 4), s.spool.aon = false →
    let fresh : State := { s with
      regs := [], bolt := Bolt.reset, spool := { Spool.reset with nvs := s.spool.nvs, aon := true, straps := straps.toNat } }
    exec (.powerOn straps) s = .next (((fresh.scanNvs.applyBootRecord.set (F.PGT_GATE_STATUS_STATE 0) 2).setBoltReq true).startGate 0)) ∧
  (∀ (s : State) (straps : BitVec 4), s.spool.aon = true → exec (.powerOn straps) s = .next s) ∧
  (∀ (s : State) (words : Nat), s.spool.aon = true → ∃ t : State, exec (.brownOut words) s = .next t ∧ t.regs = [] ∧
    t.bolt = Bolt.reset ∧ t.spool = { Spool.reset with nvs := t.spool.nvs } ∧ t.flash = s.flash ∧ t.fuses = s.fuses ∧
    (s.spool.nvsQueue = [] → t.spool.nvs = s.spool.nvs)) ∧
  (∀ (s : State) (code cause : Nat) (c : Instr), ((c = .refclkLost ∧ s.spool.aon = true ∧ s.spool.refclk = true ∧ code = 0x0301 ∧ cause = 5) ∨
      (c = .pllUnlock ∧ s.boltUp = true ∧ code = 0x0302 ∧ cause = 6)) →
    let lost : State := { (s.spoolRecord 1 0x23 code 0 0 0).sets [(F.PGT_STATUS_BACKUP_CLK, 1), (F.LAN_STATUS_BACKUP_CLK, 1)] with
      spool := { (s.spoolRecord 1 0x23 code 0 0 0).spool with backupClk := true, refclk := false } }
    (lost.boltPowered = true → exec c s = .next (({ lost with spool.boltHeld := true } : State).boltReset.irq bClk cause)) ∧
    (lost.boltPowered = false → exec c s = .next lost)) ∧
  ∀ (s : State), s.spool.aon = true → s.spool.refclk = false →
    let back : State := { s.sets [(F.PGT_STATUS_BACKUP_CLK, 0), (F.LAN_STATUS_BACKUP_CLK, 0)] with
      spool := { s.spool with backupClk := false, refclk := true } }
    (s.spool.boltHeld = true → s.spool.pwr.waking = false → back.boltPowered = true →
      exec .refclkReturn s = .next ((({ back with spool.boltHeld := false } : State).set F.CLK_STATUS_REFCLK_OK 1).wakeBegins 3)) ∧
    (s.spool.boltHeld = false → s.spool.pwr.want = false → exec .refclkReturn s = .next back)

/-- Power commands between RUN, QUIET, STANDBY and OFF, the wake, the lantern's cycle and WAKE_N, and the night-test commands. -/
def Obligations.PowerStatesAndLantern : Prop :=
  (∀ (s : State) (who : Requester) (cores : Bool), s.accepts who R.PWR_CMD →
    ∀ x : Nat × Nat × Instr, x ∈ [(1, 1, Instr.pwrCmdRun who cores), (2, 2, .pwrCmdQuiet who cores), (3, 3, .pwrCmdStandby who cores),
        (4, 0, .pwrCmdOff who cores)] →
      let w : State := s.written R.PWR_CMD (BitVec.ofNat 32 (x.1 + 8 * b2n cores))
      (w.pwrRefusal x.2.1 (b2n cores) = none → exec x.2.2 s = .next (((((w.sets [(F.PWR_CMD_STATUS_REASON, 0),
        (F.PWR_CMD_STATUS_DETAIL, 0xFFFF)]).ntAbandon 3).moveTo x.2.1 (b2n cores) 1)).answer who .done 0)) ∧
      (w.fullLoad = false → w.on F.PWR_STATUS_MOVING = false → x.2.1 = w.pwrState → b2n cores = w.get F.PWR_STATUS_CORES →
        exec x.2.2 s = .next ((((w.sets [(F.PWR_CMD_STATUS_REASON, 0x2310), (F.PWR_CMD_STATUS_DETAIL, 0xFFFF)]).sat F.PWR_CNT_REFUSED 1).irq
          bPwr 1).answer who .done 0))) ∧
  (∀ (s : State), s.spool.aon = true →
    (s.spool.pwr.entry = 2 → s.boltUp = true → s.seamUp = true → s.on F.CNT_CTRL_NVS_AUTO = false → s.pwrTarget = 3 →
      let off : State := ((s.drainNvs (s.spool.nvsQueue.length + 2)).setBoltReq false).drivePg0
      exec .standbyBoltOff s = .next ((off.mapPwr fun x => { x with entry := 0, trunks := [], want := false }).setPwrState 3)) ∧
    (s.spool.pwr.hold = true → s.boltPowered = false →
      let free : State := s.mapPwr fun x => { x with hold := false }
      exec .boltOffHoldEnd s = .next (if free.spool.pwr.want then free.requestBolt else free)) ∧
    (∀ us : Nat, s.spool.pwr.waking = true → s.boltPowered = true → s.spool.pwr.cold = false → 170000 ≤ us →
      exec (.wakeLateReady us) s = .next ((s.finishWake us).irq bPwr 2)) ∧
    (∀ (adc : List (BitVec 12)) (ohms : List Nat), ∃ t : State, exec (.lanternCycle adc ohms) s = .next t ∧
      t = (((((List.range 8).foldl (fun s i => s.contactSample i (ohms.getD i 0)) ((List.range 16).foldl (fun s c => s.adcSample c
        ((adc.map BitVec.toNat).getD c 0)) (({ s with spool.timeMs := (s.spool.timeMs + 1) % 2 ^ 32 } : State).lanTimers))).contactReport).lanRules))) ∧
    (s.on F.LAN_WAKE_ASSERTED = true → s.spool.lan.wakeLeft = some 0 → exec .wakeNRelease s =
      .next ((s.set F.LAN_WAKE_ASSERTED 0).mapLan fun x => { x with wakeLeft := none }))) ∧
  (∀ (s : State) (who : Requester),
    (∀ us : Nat, s.accepts who R.PWR_READY → (s.written R.PWR_READY 1).spool.pwr.waking = true →
      let gone : State := (s.written R.PWR_READY 1).mapPwr fun x => { x with go := true }
      exec (.goReady who us) s = .next ((if gone.spool.pwr.warm then gone.finishWake us else gone).answer who .done 0)) ∧
    (s.accepts who R.LAN_WAKE → exec (.wakeClear who) s =
      .next ((((s.written R.LAN_WAKE (s.rd R.LAN_WAKE ||| 0x200)).set F.LAN_WAKE_ASSERTED 0).mapLan fun x => { x with
        wakeLeft := none }).answer who .done 0)) ∧
    (s.accepts who R.NTS_CMD →
      let w (v : Word) : State := s.written R.NTS_CMD v
      let said (v : Word) : State := (w v).sets [(F.NTS_CMD_STATUS_REASON, 0), (F.NTS_CMD_STATUS_DETAIL, 0xFFFF)]
      ((w 1).isOn .nts = true → (w 1).bolt.nts.run = none → (w 1).get F.PWR_STATUS_STATE = 1 →
        later (((w 1).cycle + 2) % 2 ^ 32) ((w 1).get F.NTS_START_CYCLE) = false →
        let cleared : State := (said 1).each (List.range 32) fun i s => s.ntResult i 0 0 0 0
        let begun : Night := { cleared.bolt.nts with run := some (NightRun.reset ((w 1).get F.NTS_START_CYCLE) 0) }
        exec (.ntsGo who) s = .next (({ cleared.sets [(F.NTS_STATUS_RUNNING, 1), (F.NTS_STATUS_STEP, 0)] with
          bolt.nts := begun } : State).answer who .done 0)) ∧
      exec (.ntsAbort who) s = .next (((said 2).ntAbandon 2).answer who .done 0))) ∧
  ∀ (s : State) (f : Frame) (r : NightRun), s.boltUp = true → s.bolt.nts.run = some r → r.live = true → s.ntKind r.step = nkPath →
    s.ntArg r.step 10 1 = 1 → (f.hdr.svc.extractLsb' 34 5).toNat = r.step → f.hdr.kind.toNat = kTest →
    (f.hdr.svc.extractLsb' 26 8).toNat = s.get F.NTS_RUN_STATUS_RUN % 256 → r.lastSeq = none →
    let wrong := popCount (8 * f.payload.length) (ofBe f.payload ^^^ ofBe (testPayload f.hdr.seq.toNat f.payload.length))
    exec (.testFrameRx f) s = .next (s.mapNight fun r => { r with
      frames := r.frames + 1, errs := r.errs + wrong, gaps := r.gaps, lastSeq := some f.hdr.seq.toNat })

/-- The translator answers no start-split of an isochronous endpoint of a remote port and counts it in ISO_DROP. -/
def Obligations.IsochronousSplitsGoUnanswered : Prop :=
  ∀ (s : State) (k : Fin 6) (addr : Fin 128) (ep : Fin 16) (pid : Fin 3) (low toggle : Bool) (data : List Byte) (eps : List (Fin 16)),
    s.spool.aon = true → s.isOn .usb = true → s.on F.USB_STATUS_CONNECTED = true → s.on (F.USB_PORT_CFG_REMOTE (k.val + 1)) = true →
    s.on (F.USB_PORT_STATUS_ENABLED (k.val + 1)) = true → ∃ t : State,
      exec (.startSplit k addr ep 1 pid low toggle data eps) s = .next t ∧ t = s.sat (F.USB_PORT_CNT2_ISO_DROP (k.val + 1)) 1 ∧
      t.out = s.out

/-- USB: bus reset, connect, the internal host's pipes, device requests, the mailbox both ways, isochronous audio and its feedback. -/
def Obligations.UsbHostAndDevice : Prop :=
  (∀ (s : State), s.spool.aon = true →
    (s.isOn .usb = true → s.on F.USB_STATUS_CONNECTED = true →
      exec .usbBusReset s = .next (s.sat F.USB_DEV_CNT_RESETS 1).hubReset) ∧
    (s.wantsUpstream = true → s.on F.USB_STATUS_CONNECTED = false → exec .usbUpstreamConnect s =
      .next (((s.set F.USB_STATUS_CONNECTED 1).usbOut (.pull true)).irq bUsb 1)) ∧
    (∀ (p : Fin 16) (r : Fin 4) (data : List Byte), s.on (F.USB_PIPE_STATUS_BUSY p) = true → s.isOn .usb = true → s.upstream = 0 →
      s.on F.USB_HC_CTRL_RUN = true → s.spool.usb.setups.getD p.val false = false → s.spool.usb.aborts.getD p.val false = false →
      s.get (F.USB_PIPE_CFG_TYPE p) = 0 → s.on (F.USB_PIPE_CFG_DIR p) = true →
      let len := s.get (F.USB_PIPE_BUF_LEN p)
      let got : State := s.mapUsb fun u => { u with mem := memPut u.mem (s.get (F.USB_PIPE_BUF_OFFSET p)) (data.take len) }
      exec (.pipeDone p r 0 data []) s = .next (((got.sets [(F.USB_PIPE_STATUS_BUSY p, 0), (F.USB_PIPE_STATUS_RESULT p, r.val),
        (F.USB_PIPE_STATUS_BYTES p, min data.length len), (F.USB_PIPE_STATUS_TOGGLE p, 0)]).mapUsb fun u => { u with
          aborts := setAt u.aborts p.val false }).irq bUsb 5)) ∧
    (∀ setup : List Byte, s.isOn .usb = true → s.on F.USB_STATUS_CONNECTED = true →
      (s.spool.usb.ctrl = none →
        let t : State := s.mapUsb fun u => { u with ctrl := some setup }
        exec (.devSetup setup false) s = .next (if leAt setup 0 1 = 0x80 && leAt setup 1 1 = 6 && leAt setup 2 2 = 0x100 then
          t.usbOut (.ids (s.get F.USB_ID_VID) (s.get F.USB_ID2_DEV_PID) (s.get F.USB_ID2_BCD)) else t)) ∧
      (∀ b, s.spool.usb.ctrl = some b → exec (.devSetup setup true) s = .next ((s.mapUsb fun u => { u with ctrl := none }).devRequest b)) ∧
      (s.spool.usb.ctrl.isSome = true → leAt setup 1 1 ≠ 6 → exec (.devSetup setup false) s =
        .next ((s.sat F.USB_DEV_CNT_ABANDONED 1).mapUsb fun u => { u with ctrl := some setup }))) ∧
    (∀ bytes : List Byte, s.mgmtRuns = true → s.spool.usb.mbx.length < 4 → bytes.length ≤ 512 → exec (.mbxRx bytes) s =
      .next ((((s.mapUsb fun u => { u with mbx := u.mbx ++ [bytes] }).showMbx).flipToggle 0 (bytes.length / 512 + 1)).irq bUsb 3)) ∧
    (∀ bs : List Byte, s.spool.usb.reply = some bs → s.mgmtRuns = true → exec .mbxTxDone s =
      .next (((((s.mapUsb fun u => { u with reply := none }).sets [(F.USB_MBX_STATUS_TX_BUSY, 0), (F.USB_MBX_TX_CTRL_TX_GO, 0)]).flipToggle 1
        (bs.length / 512 + 1)).flipToggle 2 1).irq bUsb 4)) ∧
    (s.isOn .usb = true → s.on F.USB_DEV_STATUS_CONFIGURED = true →
      (∀ samples : List (List Nat), s.get F.USB_DEV_STATUS_ALT_OUT ≠ 0 → s.usbSilent = false → samples.length ≤ s.samplesPer + 1 →
        let all := s.spool.usb.outFifo ++ samples
        let kept : State := (s.mapUsb fun u => { u with outFifo := all.take (4 * s.samplesPer) }).showFill
        exec (.isoOutPacket samples) s = .next (if 4 * s.samplesPer < all.length then kept.usbSlip else kept)) ∧
      (s.get F.USB_DEV_STATUS_ALT_IN ≠ 0 →
        (s.usbSilent = true → exec .isoInPacket s =
          .next (s.usbOut (.isoIn (List.replicate s.samplesPer (List.replicate s.slotsPer 0))))) ∧
        (s.usbSilent = false → exec .isoInPacket s =
          .next (((s.mapUsb fun u => { u with inFifo := u.inFifo.drop (s.samplesPer + 1) }).showFill).usbOut
            (.isoIn (s.spool.usb.inFifo.take (s.samplesPer + 1))))))) ∧
    (∀ frame : Fin 2048, s.isOn .usb = true → s.on F.USB_STATUS_CONNECTED = true →
      let t : State := s.mapUsb fun u => { u with marks := (s.ringSample :: u.marks).take 128 }
      let u : State := if s.upstream = 0 then t else t.sets [(F.USB_FRAME_UFRAME, 0), (F.USB_FRAME_FRAME, frame)]
      let v : Nat := if s.upstream = 0 then u.samplesPer * 2 ^ 16 else ofSigned 32 ((s.countedSamples * 64 : Nat) +
        (2 * (u.samplesPer : Int) - (u.spool.usb.outFifo.length : Nat)) * 16)
      (u.get F.USB_DEV_STATUS_ALT_OUT = 0 → exec (.audFeedback frame) s = .next u) ∧
      (u.get F.USB_DEV_STATUS_ALT_OUT ≠ 0 → exec (.audFeedback frame) s =
        .next ((u.set F.USB_AUD_FB_FB v).usbOut (.feedback v))))) ∧
  ∀ (s : State) (who : Requester),
    (∀ v : Word, s.accepts who R.USB_HC_CTRL →
      let w : State := s.written R.USB_HC_CTRL v
      (w.on F.USB_HC_CTRL_RUN = true → w.upstream ≠ 0 → exec (.hostRun who v) s =
        .next ((w.sets [(F.USB_HC_CTRL_RUN, 0), (F.USB_REFUSE_REASON, 0x2115), (F.USB_REFUSE_DETAIL, 0xFFFF)]).answer who .done 0)) ∧
      (w.upstream = 0 → exec (.hostRun who v) s =
        .next (((w.set F.USB_HC_STATUS_HALTED (1 - w.get F.USB_HC_CTRL_RUN)).usbReview).answer who .done 0))) ∧
    (∀ p : Fin 16, s.accepts who (R.USB_PIPE_CMD p) →
      let w (v : Word) : State := s.written (R.USB_PIPE_CMD p) v
      ((w 1).on (F.USB_PIPE_STATUS_BUSY p) = false → (w 1).pipeOk p false = true →
        let busy : State := (w 1).sets [(F.USB_PIPE_STATUS_BUSY p, 1), (F.USB_PIPE_STATUS_RESULT p, 0), (F.USB_PIPE_STATUS_BYTES p, 0)]
        exec (.pipeGo who p false) s = .next (((busy.mapUsb fun u => { u with setups := setAt u.setups p.val false
                                                                              aborts := setAt u.aborts p.val false }).usbOut
          (.pipe p ((w 1).rd (R.USB_PIPE_CFG p)) ((w 1).rd (R.USB_PIPE_CFG2 p)) [] (if (w 1).on (F.USB_PIPE_CFG_DIR p) then [] else
            memBytes (w 1).spool.usb.mem ((w 1).get (F.USB_PIPE_BUF_OFFSET p)) ((w 1).get (F.USB_PIPE_BUF_LEN p))))).answer who .done 0)) ∧
      ((w 4).on (F.USB_PIPE_STATUS_BUSY p) = true → exec (.pipeAbort who p) s =
        .next (((w 4).mapUsb fun u => { u with aborts := setAt u.aborts p.val true }).answer who .done 0))) ∧
    (∀ v : Word, s.accepts who R.USB_MBX_RX_POP → getBits v 0 1 = 1 → exec (.mbxPop who v) s =
      .next (((s.written R.USB_MBX_RX_POP v).mapUsb fun u => { u with mbx := u.mbx.drop 1 }).showMbx.answer who .done 0)) ∧
    (∀ v : Word, s.accepts who R.USB_MBX_TX_CTRL →
      let w : State := s.written R.USB_MBX_TX_CTRL v
      getBits v 10 1 = 1 → w.spool.usb.reply = none →
      let bs := ((List.range 128).flatMap fun i => leBytes 4 (w.rd (R.USB_MBX_TXD i)).toNat).take (min 512 (w.get F.USB_MBX_TX_CTRL_LEN))
      exec (.txGo who v) s =
        .next ((((w.mapUsb fun u => { u with reply := some bs }).set F.USB_MBX_STATUS_TX_BUSY 1).usbOut (.reply bs)).answer who .done 0))

/-- USB remote ports: splits, transactions and results, prefetched packets, events, resets, suspend, class requests, disconnects. -/
def Obligations.UsbRemotePorts : Prop :=
  (∀ (s : State) (k : Fin 6) (addr : Fin 128) (ep : Fin 16) (pid : Fin 3), s.spool.aon = true → s.nearWorks (k.val + 1) = true →
    let h := k.val + 1
    (∀ (low toggle : Bool) (data : List Byte) (eps : List (Fin 16)),
      (2 ≤ (s.near h).txs.length → exec (.startSplit k addr ep 2 pid low toggle data eps) s = .next (s.usbOut (.split h 1 false []))) ∧
      ((s.near h).txs.length < 2 → s.seamUp = true → s.windowOpen (s.nearEntry h) = true → pid ≠ 0 →
        exec (.startSplit k addr ep 2 pid low toggle data eps) s =
          .next (((s.mapNear h fun x => { x with txs := x.txs ++ [⟨x.tag, addr, ep, pid, none⟩] }).sendTransaction h pid addr ep 2 low toggle
            data).usbOut (.split h 0 false [])))) ∧
    (∀ t, (s.near h).txs.find? (fun t => t.addr = addr.val && t.ep = ep.val && t.pid = pid.val) = some t →
      (t.result = none → exec (.completeSplit k addr ep 2 pid) s = .next (s.usbOut (.split h 4 false []))) ∧
      (∀ r, t.result = some r → exec (.completeSplit k addr ep 2 pid) s =
        .next ((s.mapNear h fun x => { x with txs := x.txs.erase t }).usbOut (.split h r.1 r.2.1 r.2.2))))) ∧
  (∀ (s : State), s.spool.aon = true → s.isOn .usb = true →
    (∀ (j : Fin 6) (tag : BitVec 16) (addr : Fin 128) (ep : Fin 16) (pid : Fin 3) (toggle rtoggle : Bool) (data rdata : List Byte)
      (hs : Fin 4) (i : Nat), s.farEntry j = some i →
      (pid ≠ 0 → exec (.transactionRx j tag ⟨addr, ep⟩ 2 pid toggle data [] hs rtoggle rdata) s = .next ((s.usbOut (.bus j pid addr ep toggle
        data)).sendRecord i (resultRecord hs (s.farPort j).gen ep tag.toNat rtoggle false rdata))) ∧
      ((s.farPort j).resetting = false → (s.farPort j).held.contains ep.val = false → (s.farPort j).ones.contains ep.val = false →
        exec (.prefetchPoll j ep false rdata) s = .next ((s.mapFar j fun x => { x with
          held := x.held ++ [ep.val], ones := x.ones ++ [ep.val] }).sendRecord i (resultRecord 0 (s.farPort j).gen ep 0 false true rdata)))) ∧
    (∀ (k : Fin 6) (tag : BitVec 16) (ep : Fin 16) (hs : Fin 4) (toggle : Bool) (gen : Byte) (data : List Byte),
      s.remotePort (k.val + 1) = true →
      let h := k.val + 1
      (gen.toNat ≠ (s.near h).gen → exec (.resultRx k tag ep hs toggle true gen data) s = .next (s.sat (F.USB_PORT_CNT_STALE h) 1)) ∧
      (gen.toNat = (s.near h).gen → exec (.resultRx k tag ep hs toggle true gen data) s =
        .next (s.mapNear h fun x => { x with cache := insertKey ep.val (toggle, data) x.cache })) ∧
      (((s.near h).outs.any fun o => o.1 = tag.toNat) = false → ((s.near h).txs.any fun t => t.tag = tag.toNat && t.result.isNone) = true →
        exec (.resultRx k tag ep hs toggle false gen data) s = .next (s.mapNear h fun x => { x with
          txs := x.txs.map fun t => if t.tag = tag.toNat then { t with result := some (hs.val, toggle, data) } else t }))) ∧
    (∀ (k : Fin 6) (tag : BitVec 16) (ms : Nat), s.get F.USB_RMT_CFG_RESULT_MS ≤ ms →
      ((s.near (k.val + 1)).txs.any fun t => t.tag = tag.toNat && t.result.isNone) = true → exec (.remoteResultTimeout k tag ms) s =
        .next (((s.mapNear (k.val + 1) fun x => { x with txs := x.txs.filter fun t => t.tag != tag.toNat }).sat
          (F.USB_PORT_CNT_TIMEOUT (k.val + 1)) 1).irq bUsb 7)) ∧
    (∀ n : Fin 6, s.remotePort (n.val + 1) = true → exec (.eventRx false n 1) s =
        .next ((s.mapNear (n.val + 1) fun x => { x with seen := 2 }).portConnect (n.val + 1) 2) ∧
      exec (.eventRx false n 3) s = .next (s.nearGone (n.val + 1)) ∧
      (s.on (F.USB_PORT_STATUS_RESET (n.val + 1)) = true → exec (.eventRx false n 6) s =
        .next ((s.sets [(F.USB_PORT_STATUS_RESET (n.val + 1), 0), (F.USB_PORT_STATUS_ENABLED (n.val + 1), 1)]).portChange (n.val + 1) 4))) ∧
    (∀ n : Fin 6, exec (.eventRx true n 7) s = .next (s.usbOut (.port true n 1)) ∧
      exec (.eventRx true n 5) s = .next (((s.farGen n fun _ => true).mapFar n fun x => { x with resetting := true }).usbOut (.port true n 0)) ∧
      (s.farEntry n ≠ none → exec (.downstreamPortChange true n 1) s = .next (s.farEvent n 2)) ∧
      (s.remotePort (n.val + 1) = false → n.val + 1 ≠ s.upstream →
        exec (.downstreamPortChange false n 3) s = .next (s.portConnect (n.val + 1) 3))) ∧
    (s.on F.USB_STATUS_CONNECTED = true →
      (∀ b : Bool, s.on F.USB_STATUS_SUSPENDED ≠ b →
        let t : State := s.sets [(F.USB_STATUS_SUSPENDED, b2n b), (F.USB_DEV_STATUS_SUSPENDED, b2n b)]
        exec (.usbSuspendResume b) s = .next (t.each ((List.range 7).filter fun k => t.remotePort k && t.on (F.USB_PORT_STATUS_ENABLED k) &&
          !t.on (F.USB_PORT_STATUS_SUSPEND k)) fun k s => s.nearEvent k (if b then 7 else 8))) ∧
      (∀ set : Bool, exec (.hubClassRequest 0 set 1) s = .next (s.mapUsb fun u => { u with hubWake := set })) ∧
      (∀ k : Fin 8, k ≠ 0 → (k.val ≠ s.upstream → exec (.hubClassRequest k false 8) s = .next (s.portUnpower k)) ∧
        exec (.hubClassRequest k true 4) s = .next (s.resetHubPort k) ∧ exec (.hubClassRequest k true 2) s = .next (s.suspendHubPort k true)))) ∧
  (∀ (s : State) (j : Fin 6), s.spool.aon = true → (s.farPort j).resetting = true → exec (.remoteResetDone j) s =
    .next ((s.mapFar j fun x => { x with resetting := false }).farEvent j 6)) ∧
  (∀ (s : State), s.spool.aon = true → s.seamUp = false → exec .remoteDisconnectTimer s =
    .next (s.each ((List.range 7).filter fun k => s.remotePort k) fun k s => s.nearGone k)) ∧
  ∀ (s : State) (h bitNo : Nat), s.portChange h bitNo =
    (s.mapUsb fun u => { u with changes := setAt u.changes h (setBit (u.changes.getD h 0) bitNo) }).irq bUsb 2

/-- Frame: the audio rows change no register outside AUD and CNT, no SRAM, NVS, USB memory, key slot, fuse or flash byte. -/
def Obligations.AudioRowsKeepToAudio : Prop :=
  ∀ (s : State) (c : Instr), ((∃ t i d, c = .tdmMasterFrame t i d) ∨ (∃ t e d, c = .tdmFsync t e d) ∨ (∃ t, c = .tdmLost t) ∨
    (∃ e f, c = .audFrameRx e f) ∨ (∃ ch n i bad, c = .mixRead ch n i bad) ∨ (∃ i send, c = .mixSample i send) ∨
    ∃ d, c = .detIntegrationEnd d) → WithinStep [bAud, 0x40E00000] s (exec c s)

/-- Frame: state-channel and check-unit rows change no register outside STC, CNT and TOP, and no memory, key slot or fuse. -/
def Obligations.StateRowsKeepToStc : Prop :=
  ∀ (s : State) (c : Instr), ((∃ n, c = .stateStale n) ∨ (∃ w n v, c = .valueHiWrite w n v) ∨ (∃ w u v, c = .cvuData w u v) ∨
    (∃ w u v, c = .cvuFeedByte w u v) ∨ (∃ w u v, c = .cvuStart w u v) ∨ (∃ w u v, c = .cvuCompare w u v) ∨
    ∃ w u v, c = .cvuAlive w u v) → WithinStep [bStc, 0x40E00000, 0x40000000] s (exec c s)

/-- Frame: a bring-up event of one port unit changes registers of LANE only and nothing of another port unit. -/
def Obligations.BringUpRowsKeepToTheirPort : Prop :=
  ∀ (s t : State) (p : Fin 8) (c : Instr), (c = .signalStable p ∨ c = .cdrLock p ∨ (∃ codes, c = .eqDone p codes) ∨ c = .faultRetry p) →
    exec c s = .next t → Within [bLane] s t ∧ ∀ q : Fin 8, q ≠ p →
      t.rd (R.LANE_PORT_STATUS q) = s.rd (R.LANE_PORT_STATUS q) ∧ t.port q = s.port q

/-- Frame: equaliser, PRBS and module rows change no register outside LANE and CNT, and no memory, key slot or fuse. -/
def Obligations.LaneRowsKeepToLane : Prop :=
  ∀ (s : State) (c : Instr), ((∃ l k up, c = .dfeTapStep l k up) ∨ (∃ l a b, c = .prbsLock l a b) ∨ (∃ l a b, c = .prbsLost l a b) ∨
    (∃ t, c = .modPresent t) ∨ (∃ t b, c = .modReadyPoll t b) ∨ (∃ t, c = .modRemoved t) ∨ (∃ t i x y m, c = .modPoll t i x y m) ∨
    ∃ t a d, c = .modCmdDone t a d) → WithinStep [bLane, 0x40E00000] s (exec c s)

/-- Frame: PCIe bridge rows keep to PCB and CNT, display and Ethernet rows to DPE and CNT (a slot rate: SCH); no memory, key slot or fuse changes. -/
def Obligations.BridgeAndDisplayRowsKeepToTheirBlock : Prop :=
  ∀ (s : State) (c : Instr), (((∃ q l t, c = .tlpRx q l t) ∨ (∃ l f x y, c = .linkStateRx l f x y) ∨ (∃ l x y, c = .pcbCreditRx l x y) ∨
      (∃ l d, c = .appliedRx l d) ∨ ∃ l r t, c = .completionTimeout l r t) → WithinStep [bPcb, 0x40E00000] s (exec c s)) ∧
    (((∃ e f, c = .dpFrameRx e f) ∨ (∃ q, c = .dpNoVideo q) ∨ (∃ q h i o e, c = .hpdRise q h i o e) ∨
      (∃ q m, c = .auxTimeout q m) ∨ (∃ m u, c = .ethLinkChange m u) ∨ c = .ethAge) → WithinStep [bDpe, 0x40E00000] s (exec c s)) ∧
    ∀ q o v l, c = .dpTxVsync q o v l → WithinStep [bDpe, bSch, 0x40E00000] s (exec c s)

/-- Frame: a gate's timers change registers of PGT only and neither the state nor the measurements of another gate. -/
def Obligations.GateTimersKeepToTheirGate : Prop :=
  ∀ (s t : State) (n : Fin 7) (c : Instr), ((∃ ms, c = .insertDone ⟨n, ms⟩) ∨ (∃ v, c = .prechargeDone n v) ∨ (∃ v, c = .dischargeDone n v) ∨
      c = .pgoodHeld n ∨ c = .retryWaitEnd n) → exec c s = .next t → Within [bPgt] s t ∧
    ∀ g : Fin 7, g ≠ n → t.gstate g = s.gstate g ∧ t.gate g = s.gate g

/-- Frame: PD message rows keep to TCP, USB device and remote-port rows to USB; no memory, key slot or fuse changes. -/
def Obligations.DockAndUsbRowsKeepToTheirBlock : Prop :=
  ∀ (s : State) (c : Instr), (((∃ p x y e, c = .requestRx p x y e) ∨ (∃ p l, c = .sourceCapabilitiesRx p l) ∨ (∃ p, c = .waitRx p) ∨
      (∃ p m, c = .waitRetry p m) ∨ (∃ p, c = .vconnSwapRx p) ∨ (∃ p w, c = .discoverRx p w) ∨ (∃ x, c = .drpToggle x) ∨
      ∃ p, c = .moistureTimer p) → WithinStep [bTcp] s (exec c s)) ∧
    ((c = .usbBusReset ∨ (∃ b st, c = .devSetup b st) ∨ (∃ b, c = .mbxRx b) ∨ c = .mbxTxDone ∨ (∃ l, c = .isoOutPacket l) ∨
      c = .isoInPacket ∨ (∃ n, c = .audFeedback n) ∨ (∃ k g e h t p n d, c = .resultRx k g e h t p n d) ∨
      (∃ k g m, c = .remoteResultTimeout k g m) ∨ ∃ f n e, c = .eventRx f n e) → WithinStep [bUsb] s (exec c s))

/-- Frame: passive ring, plan, switch and clock rows keep to their own block and CNT; no memory, key slot or fuse changes. -/
def Obligations.RingAndPlanRowsKeepToTheirBlock : Prop :=
  ∀ (s : State) (c : Instr), (((∃ p f, c = .announceRx p f) ∨ (∃ f, c = .healRx f) ∨ (∃ f, c = .forgetRx f) ∨ (∃ f, c = .msgRx f) ∨
      c = .edgeExpire ∨ c = .rollcallEnd ∨ c = .claimWaitExpiry ∨ ∃ i, c = .buddySingle i) →
        WithinStep [bRng, 0x40E00000] s (exec c s)) ∧
    (((∃ f, c = .readyRx f) ∨ ∃ f, c = .reportRx f) → WithinStep [bAlt, 0x40E00000] s (exec c s)) ∧
    (((∃ p k, c = .creditStall p k) ∨ ∃ i, c = .drainDone i) → WithinStep [bSwb, 0x40E00000] s (exec c s)) ∧
    ((c = .holdoverLong ∨ ∃ t, c = .ppsLost t) → WithinStep [bClk, 0x40E00000] s (exec c s))

/-- Frame: write commands of plain registers change their own block and TOP only; TMP_CLEAR also KEY; no memory or key slot. -/
def Obligations.RegisterCommandsKeepToTheirBlock : Prop :=
  ∀ (s : State) (w : Requester) (v : Word), (∀ x ∈ ([(0x40E00000, .counterClear w), (0x40E00000, .counterLoad w), (bSch, .sampClear w v),
      (bAlt, .cmdPlanWrite w v), (bSwb, .eccArm w v), (bDpe, .learnGo w v), (bRng, .rxPop w), (bKey, .mrLock1 w),
      (bUsb, .mbxPop w v)] : List (Nat × Instr)), WithinStep [x.1, 0x40000000] s (exec x.2 s)) ∧
    (∀ g, WithinStep [0x40E00000, 0x40000000] s (exec (.clearGroup w g) s)) ∧
    (∀ l, WithinStep [bLane, 0x40000000] s (exec (.dfeLoad w l v) s)) ∧
    (∀ t, WithinStep [bLane, 0x40000000] s (exec (.modReset w t v) s)) ∧
    (∀ p, WithinStep [bTcp, 0x40000000] s (exec (.askAnswer w p v) s)) ∧
    WithinStep [bTmp, bKey, 0x40000000] s (exec (.tmpClear w v) s)
end

