-- ==== Sys2Proof/Laws/Stores.lean ====
section
/-! SUPPORT. Stores kept in rising order of keys: a store read after a write, and the canonical form that every operation
keeps. -/

namespace Sys2Proof.Machine

theorem sortedKeys_cons {α : Type} (a : Nat) (v : α) (t : List (Nat × α)) :
    sortedKeys ((a, v) :: t) = true ↔ (∀ p ∈ t.head?, a < p.1) ∧ sortedKeys t = true := by
  cases t with
  | nil => simp [sortedKeys]
  | cons p t => obtain ⟨b, y⟩ := p; simp [sortedKeys]

theorem sortedKeys_iff {α : Type} (l : List (Nat × α)) :
    sortedKeys l = true ↔ l.Pairwise fun p q => p.1 < q.1 := by
  induction l with
  | nil => simp [sortedKeys]
  | cons p t ih =>
    obtain ⟨a, v⟩ := p
    rw [sortedKeys_cons, ih, List.pairwise_cons]
    refine ⟨fun ⟨h, ht⟩ => ⟨fun q hq => ?_, ht⟩, fun ⟨h, ht⟩ => ⟨?_, ht⟩⟩
    · cases t with
      | nil => cases hq
      | cons r t =>
        have hr : a < r.1 := h r (by simp)
        rcases List.mem_cons.1 hq with rfl | hq
        · exact hr
        · exact lt_trans hr ((List.pairwise_cons.1 ht).1 q hq)
    · cases t with
      | nil => simp
      | cons r t => simpa using h r (by simp)

theorem mem_eraseKey {α : Type} {k : Nat} {l : List (Nat × α)} {p : Nat × α} (h : p ∈ eraseKey k l) : p ∈ l := by
  induction l with
  | nil => simp [eraseKey] at h
  | cons q t ih =>
    obtain ⟨a, v⟩ := q
    simp only [eraseKey] at h
    split at h
    · exact List.mem_cons_of_mem _ (ih h)
    · rcases List.mem_cons.1 h with rfl | h
      · simp
      · exact List.mem_cons_of_mem _ (ih h)

theorem mem_insertKey {α : Type} {k : Nat} {v : α} {l : List (Nat × α)} {p : Nat × α} (h : p ∈ insertKey k v l) :
    p = (k, v) ∨ p ∈ l := by
  induction l with
  | nil => simpa [insertKey] using h
  | cons q t ih =>
    obtain ⟨a, x⟩ := q
    simp only [insertKey] at h
    split at h
    · simpa using h
    · split at h
      · rcases List.mem_cons.1 h with h | h
        · exact .inl h
        · exact .inr (List.mem_cons_of_mem _ h)
      · rcases List.mem_cons.1 h with rfl | h
        · exact .inr (by simp)
        · exact (ih h).imp_right (List.mem_cons_of_mem _)

theorem sortedKeys_eraseKey {α : Type} (k : Nat) {l : List (Nat × α)} (h : sortedKeys l = true) :
    sortedKeys (eraseKey k l) = true := by
  rw [sortedKeys_iff] at h ⊢
  induction l with
  | nil => simp [eraseKey]
  | cons q t ih =>
    obtain ⟨a, v⟩ := q
    have ⟨h1, h2⟩ := List.pairwise_cons.1 h
    simp only [eraseKey]
    split
    · exact ih h2
    · exact List.pairwise_cons.2 ⟨fun p hp => h1 p (mem_eraseKey hp), ih h2⟩

theorem sortedKeys_insertKey {α : Type} (k : Nat) (v : α) {l : List (Nat × α)} (h : sortedKeys l = true) :
    sortedKeys (insertKey k v l) = true := by
  rw [sortedKeys_iff] at h ⊢
  induction l with
  | nil => simp [insertKey]
  | cons q t ih =>
    obtain ⟨a, x⟩ := q
    have ⟨h1, h2⟩ := List.pairwise_cons.1 h
    simp only [insertKey]
    split
    · rename_i hk
      refine List.pairwise_cons.2 ⟨fun p hp => ?_, h⟩
      rcases List.mem_cons.1 hp with rfl | hp
      · exact hk
      · exact lt_trans hk (h1 p hp)
    · split
      · rename_i hk; subst hk
        exact List.pairwise_cons.2 ⟨h1, h2⟩
      · refine List.pairwise_cons.2 ⟨fun p hp => ?_, ih h2⟩
        rcases mem_insertKey hp with rfl | hp
        · show a < k; omega
        · exact h1 p hp

theorem sortedKeys_putKey {α : Type} [DecidableEq α] (d : α) (k : Nat) (v : α) {l : List (Nat × α)}
    (h : sortedKeys l = true) : sortedKeys (putKey d k v l) = true := by
  unfold putKey; split
  · exact sortedKeys_eraseKey k h
  · exact sortedKeys_insertKey k v h

theorem mem_putKey {α : Type} [DecidableEq α] {d : α} {k : Nat} {v : α} {l : List (Nat × α)} {p : Nat × α}
    (h : p ∈ putKey d k v l) : (p = (k, v) ∧ v ≠ d) ∨ p ∈ l := by
  unfold putKey at h; split at h
  · exact .inr (mem_eraseKey h)
  · rename_i hv; exact (mem_insertKey h).imp_left fun e => ⟨e, hv⟩

theorem lookupKey_insertKey_same {α : Type} (k : Nat) (v : α) (l : List (Nat × α)) :
    lookupKey k (insertKey k v l) = some v := by
  induction l with
  | nil => simp [insertKey, lookupKey]
  | cons q t ih =>
    obtain ⟨a, x⟩ := q
    simp only [insertKey]
    split
    · simp [lookupKey]
    · split
      · simp [lookupKey]
      · rename_i h; simp [lookupKey, h, ih]

theorem lookupKey_insertKey_other {α : Type} {k j : Nat} (h : k ≠ j) (v : α) (l : List (Nat × α)) :
    lookupKey j (insertKey k v l) = lookupKey j l := by
  induction l with
  | nil => simp [insertKey, lookupKey, h]
  | cons q t ih =>
    obtain ⟨a, x⟩ := q
    simp only [insertKey]
    split
    · simp [lookupKey, h]
    · split
      · rename_i e; subst e; simp [lookupKey, h]
      · simp [lookupKey, ih]

theorem lookupKey_eraseKey_other {α : Type} {k j : Nat} (h : k ≠ j) (l : List (Nat × α)) :
    lookupKey j (eraseKey k l) = lookupKey j l := by
  induction l with
  | nil => simp [eraseKey]
  | cons q t ih =>
    obtain ⟨a, x⟩ := q
    simp only [eraseKey]
    split
    · rename_i e; subst e; simp [lookupKey, h, ih]
    · simp [lookupKey, ih]

theorem lookupKey_eraseKey_same {α : Type} (k : Nat) (l : List (Nat × α)) : lookupKey k (eraseKey k l) = none := by
  induction l with
  | nil => simp [eraseKey, lookupKey]
  | cons q t ih =>
    obtain ⟨a, x⟩ := q
    simp only [eraseKey]
    split
    · exact ih
    · rename_i e; simp [lookupKey, e, ih]

/-- A store reads back what was written last. -/
theorem getKey_putKey_same {α : Type} [DecidableEq α] (d : α) (k : Nat) (v : α) (l : List (Nat × α)) :
    getKey d k (putKey d k v l) = v := by
  unfold getKey putKey; split
  · rename_i e; subst e; rw [lookupKey_eraseKey_same]; rfl
  · rw [lookupKey_insertKey_same]; rfl

/-- A write leaves every other key alone. -/
theorem getKey_putKey_other {α : Type} [DecidableEq α] (d e : α) {k j : Nat} (h : k ≠ j) (v : α) (l : List (Nat × α)) :
    getKey e j (putKey d k v l) = getKey e j l := by
  unfold getKey putKey; split
  · rw [lookupKey_eraseKey_other h]
  · rw [lookupKey_insertKey_other h]

theorem Memory.wf_putKey (k : Nat) (v : Byte) {m : Mem} (h : Memory.wf m = true) : Memory.wf (putKey 0 k v m) = true := by
  simp only [Memory.wf, Bool.and_eq_true, List.all_eq_true] at h ⊢
  refine ⟨sortedKeys_putKey _ _ _ h.1, fun p hp => ?_⟩
  rcases mem_putKey hp with ⟨rfl, hv⟩ | hp
  · simpa using hv
  · exact h.2 p hp

/-- Bytes put into a store keep its canonical form. -/
theorem Memory.wf_memPut (bs : List Byte) (o : Nat) {m : Mem} (h : Memory.wf m = true) : Memory.wf (memPut m o bs) = true := by
  induction bs generalizing o m with
  | nil => exact h
  | cons b bs ih => exact ih (o + 1) (Memory.wf_putKey o b h)

theorem Memory.wf_filter (p : Nat × Byte → Bool) {m : Mem} (h : Memory.wf m = true) : Memory.wf (m.filter p) = true := by
  simp only [Memory.wf, Bool.and_eq_true, List.all_eq_true, sortedKeys_iff] at h ⊢
  exact ⟨h.1.filter _, fun q hq => h.2 q (List.mem_of_mem_filter hq)⟩

theorem Regs.wf_put (a : Nat) (w : Word) {l : List (Nat × Word)} (h : Regs.wf l = true) :
    Regs.wf (putKey (regReset a) a w l) = true := by
  simp only [Regs.wf, Bool.and_eq_true, List.all_eq_true] at h ⊢
  refine ⟨sortedKeys_putKey _ _ _ h.1, fun p hp => ?_⟩
  rcases mem_putKey hp with ⟨rfl, hv⟩ | hp
  · simpa using hv
  · exact h.2 p hp

theorem Regs.wf_filter (p : Nat × Word → Bool) {l : List (Nat × Word)} (h : Regs.wf l = true) :
    Regs.wf (l.filter p) = true := by
  simp only [Regs.wf, Bool.and_eq_true, List.all_eq_true, sortedKeys_iff] at h ⊢
  exact ⟨h.1.filter _, fun q hq => h.2 q (List.mem_of_mem_filter hq)⟩

/-- A byte read after bytes were put: theirs inside the range, the old one outside it. -/
theorem getKey_memPut (bs : List Byte) (o j : Nat) (m : Mem) :
    getKey 0 j (memPut m o bs) = if h : o ≤ j ∧ j < o + bs.length then bs[j - o] else getKey 0 j m := by
  induction bs generalizing o m with
  | nil => simp [memPut]
  | cons b bs ih =>
    rw [memPut, ih (o + 1)]
    by_cases h1 : o + 1 ≤ j ∧ j < o + 1 + bs.length
    · rw [dif_pos h1, dif_pos (by simp; omega)]
      have : j - o = (j - (o + 1)) + 1 := by omega
      simp [this]
    · rw [dif_neg h1]
      by_cases h2 : j = o
      · subst h2; rw [getKey_putKey_same]; simp
      · rw [getKey_putKey_other _ _ (Ne.symm h2), dif_neg (by simp; omega)]

end Sys2Proof.Machine
end

