-- ==== Sys2Proof/Laws/Kept.lean ====
section
/-! SUPPORT. What every operation keeps (`Kept`): the rules by which the operations' own laws are put together. -/

namespace Sys2Proof.Machine

theorem Fuses.Grow.refl (f : Fuses) : Fuses.Grow f f := ⟨rfl, rfl, rfl, le_refl _, fun _ => rfl⟩

theorem Fuses.Grow.trans {a b c : Fuses} (h : Fuses.Grow a b) (k : Fuses.Grow b c) : Fuses.Grow a c where
  uid := k.uid.trans h.uid
  root := k.root.trans h.root
  devCert := k.devCert.trans h.devCert
  lifecycle := le_trans h.lifecycle k.lifecycle
  owner := fun o => by
    have e := h.owner o
    rw [← e]; exact k.owner (by unfold Fuses.owned at o ⊢; rw [e]; exact o)

theorem Kept.refl {s : State} (h : s.Inv) : Kept s s := ⟨h, .refl _, rfl, rfl⟩

theorem Kept.trans {a b c : State} (h : Kept a b) (k : Kept b c) : Kept a c :=
  ⟨k.inv, h.fuses.trans k.fuses, k.flash.trans h.flash, k.pending.trans h.pending⟩

/-- An update of anything but the fuses, the flash device, the queue and the five stores in canonical form. -/
theorem Kept.upd {a b : State} {x : Bolt} {y : Spool} {n : Nat} {o : List Output} (h : Kept a b)
    (m : x.sram = b.bolt.sram := by with_reducible rfl) (t : x.msixTable = b.bolt.msixTable := by with_reducible rfl)
    (v : y.nvs = b.spool.nvs := by with_reducible rfl) (u : y.usb.mem = b.spool.usb.mem := by with_reducible rfl) :
    Kept a (State.mk b.regs x y b.flash b.fuses n o b.pending) where
  inv := ⟨h.inv.deployed, h.inv.regs, by rw [m]; exact h.inv.sram, by rw [v]; exact h.inv.nvs, by rw [u]; exact h.inv.usb,
    by rw [t]; exact h.inv.msix⟩
  fuses := h.fuses
  flash := h.flash
  pending := h.pending

theorem Kept.ite {a b c : State} {p : Prop} [Decidable p] (h : Kept a b) (k : Kept a c) : Kept a (if p then b else c) := by
  split <;> assumption

theorem Kept.eq {α : Type} {a b : State} {x : State × α} {y : α} (e : x = (b, y)) (h : Kept a x.1) : Kept a b := by
  rw [e] at h; exact h

theorem Kept.pair {α : Type} {a b : State} {y : α} (h : Kept a b) : Kept a (b, y).1 := h

theorem Kept.let2 {α β : Type} {a : State} {p : α × β} {f : α → β → State} (h : ∀ x y, Kept a (f x y)) :
    Kept a (match p with | (x, y) => f x y) := by
  obtain ⟨x, y⟩ := p; exact h x y

theorem Kept.ite1 {α : Type} {a : State} {x y : State × α} {p : Prop} [Decidable p] (h : Kept a x.1) (k : Kept a y.1) :
    Kept a (if p then x else y).1 := by
  split <;> assumption

/-- The same of an operation that may not apply. -/
def KeptOpt (a : State) (o : Option State) : Prop := ∀ b, o = some b → Kept a b

theorem KeptOpt.none (a : State) : KeptOpt a none := by intro b e; cases e

theorem KeptOpt.some {a b : State} (h : Kept a b) : KeptOpt a (some b) := by intro c e; cases e; exact h

theorem KeptOpt.ite {a : State} {x y : Option State} {p : Prop} [Decidable p] (h : KeptOpt a x) (k : KeptOpt a y) :
    KeptOpt a (if p then x else y) := by
  split <;> assumption

theorem KeptOpt.orElse {a : State} {x y : Option State} (h : KeptOpt a x) (k : KeptOpt a y) : KeptOpt a (x <|> y) := by
  cases x with
  | none => simpa using k
  | some b => simpa using h

theorem KeptOpt.map {α : Type} {a : State} {x : Option α} {f : α → State} (h : ∀ y, Kept a (f y)) :
    KeptOpt a (x.map f) := by
  cases x with
  | none => exact KeptOpt.none a
  | some y => exact KeptOpt.some (h y)

theorem KeptStep.next {a b : State} (h : Kept a b) : KeptStep a (.next b) := by
  intro c e; cases e; exact h

theorem KeptStep.fault (a : State) (f : Fault) : KeptStep a (.fault f) := by intro c e; cases e

theorem KeptStep.ite {a : State} {x y : Step} {p : Prop} [Decidable p] (h : KeptStep a x) (k : KeptStep a y) :
    KeptStep a (if p then x else y) := by
  split <;> assumption

theorem kept_each {α : Type} {a s : State} (h : Kept a s) (l : List α) (f : α → State → State)
    (hf : ∀ x s, Kept a s → Kept a (f x s)) : Kept a (s.each l f) := by
  unfold State.each
  induction l generalizing s with
  | nil => exact h
  | cons x l ih => exact ih (hf x s h)

theorem kept_foldl1 {α β : Type} {a : State} {p : State × β} (h : Kept a p.1) (l : List α) (f : State × β → α → State × β)
    (hf : ∀ p x, Kept a p.1 → Kept a (f p x).1) : Kept a (l.foldl f p).1 := by
  induction l generalizing p with
  | nil => exact h
  | cons x l ih => exact ih (hf p x h)

theorem kept_foldl {α : Type} {a s : State} (h : Kept a s) (l : List α) (f : State → α → State)
    (hf : ∀ x s, Kept a s → Kept a (f s x)) : Kept a (l.foldl f s) := by
  induction l generalizing s with
  | nil => exact h
  | cons x l ih => exact ih (hf x s h)

theorem kept_when {a s : State} (h : Kept a s) (c : Bool) (f : State → State) (hf : ∀ s, Kept a s → Kept a (f s)) :
    Kept a (s.when c f) := by
  unfold State.when; split
  · exact hf s h
  · exact h

theorem kept_wr {a s : State} (h : Kept a s) (r : Nat) (w : Word) : Kept a (s.wr r w) :=
  ⟨⟨h.inv.deployed, Regs.wf_put r w h.inv.regs, h.inv.sram, h.inv.nvs, h.inv.usb, h.inv.msix⟩, h.fuses, h.flash, h.pending⟩

theorem kept_set {a s : State} (h : Kept a s) (f : Fld) (v : Nat) : Kept a (s.set f v) := kept_wr h _ _

theorem kept_sets {a s : State} (h : Kept a s) (l : List (Fld × Nat)) : Kept a (s.sets l) := by
  induction l generalizing s with
  | nil => exact h
  | cons p l ih => exact ih (kept_set h _ _)

theorem kept_sramPut {a s : State} (h : Kept a s) (o : Nat) (bs : List Byte) : Kept a (s.sramPut o bs) :=
  ⟨⟨h.inv.deployed, h.inv.regs, Memory.wf_memPut bs o h.inv.sram, h.inv.nvs, h.inv.usb, h.inv.msix⟩, h.fuses, h.flash, h.pending⟩

end Sys2Proof.Machine
end

