-- ==== Sys2Proof/Laws/KeptOps.lean ====
section
/-! SUPPORT. What the operations of Machine/Ops.lean keep. -/

namespace Sys2Proof.Machine

set_option Elab.async false
set_option linter.unusedTactic false

theorem kept_setB {a s : State} (h : Kept a s) (x1 : Fld) (x2 : ℕ) :
    Kept a (State.setB s x1 x2) := by
  unfold State.setB
  exact (kept_set h _ _)

theorem kept_markWrap {a s : State} (h : Kept a s) (x1 : ℕ) :
    Kept a (State.markWrap s x1) := by
  unfold State.markWrap
  exact (Kept.upd (kept_setB h _ _))

theorem kept_inc {a s : State} (h : Kept a s) (x1 : Fld) (x2 : ℕ) :
    Kept a (State.inc s x1 x2) := by
  unfold State.inc
  exact (kept_set h _ _)

theorem kept_setCounter {a s : State} (h : Kept a s) (x1 : ℕ) (x2 : ℕ) :
    Kept a (State.setCounter s x1 x2) := by
  unfold State.setCounter
  exact (Kept.upd h)

theorem kept_emit {a s : State} (h : Kept a s) (x1 : Output) :
    Kept a (State.emit s x1) := by
  unfold State.emit
  exact (Kept.upd h)

theorem kept_driveLines {a s : State} (h : Kept a s) :
    Kept a (State.driveLines s) := by
  unfold State.driveLines
  exact (kept_each (Kept.upd h) _ _ (fun _ _ h100 => (kept_emit h100 _)))

theorem kept_refreshInts {a s : State} (h : Kept a s) :
    Kept a (State.refreshInts s) := by
  unfold State.refreshInts
  exact (Kept.ite (kept_each (kept_driveLines (Kept.upd h)) _ _ (fun _ _ h100 => (kept_emit h100 _))) (kept_driveLines (Kept.upd h)))

theorem kept_nvsPut {a s : State} (h : Kept a s) (x1 : NvsOp) :
    Kept a (State.nvsPut s x1) := by
  unfold State.nvsPut
  exact (Kept.upd h)

theorem kept_setSeamEnd {a s : State} (h : Kept a s) (x1 : Die) (x2 : SeamEnd) :
    Kept a (State.setSeamEnd s x1 x2) := by
  unfold State.setSeamEnd
  exact (by split; exact (Kept.upd h); exact (Kept.upd h))

theorem kept_pump {a s : State} (h : Kept a s) (d : Die) (n : Nat) : Kept a (s.pump d n) := by
  induction n generalizing s with
  | zero => exact h
  | succ n ih =>
    unfold State.pump
    split
    · exact h
    · exact ih (kept_emit (kept_setSeamEnd h _ _) _)

theorem kept_sendFlit {a s : State} (h : Kept a s) (x1 : Die) (x2 : ℕ) (x3 : ℕ) (x4 : ℕ) :
    Kept a (State.sendFlit s x1 x2 x3 x4) := by
  unfold State.sendFlit
  exact (Kept.ite h (kept_pump (kept_setSeamEnd h _ _) _ _))

theorem kept_sendEvent {a s : State} (h : Kept a s) (x1 : ℕ) (x2 : ℕ) :
    Kept a (State.sendEvent s x1 x2) := by
  unfold State.sendEvent
  exact (kept_sendFlit h _ _ _ _)

theorem kept_raise {a s : State} (h : Kept a s) (x1 : ℕ) (x2 : ℕ) :
    Kept a (State.raise s x1 x2) := by
  unfold State.raise
  exact (Kept.ite (kept_refreshInts (kept_wr h _ _)) (kept_sendEvent (kept_wr h _ _) _ _))

theorem kept_addCounter {a s : State} (h : Kept a s) (x1 : ℕ) (x2 : ℕ) :
    Kept a (State.addCounter s x1 x2) := by
  unfold State.addCounter
  exact (kept_when (kept_setCounter h _ _) _ _ (fun _ h100 => (kept_markWrap h100 _)))

theorem kept_countEvent {a s : State} (h : Kept a s) (x1 : ℕ) :
    Kept a (State.countEvent s x1) := by
  unfold State.countEvent
  exact (Kept.ite (kept_each (kept_raise (kept_each h _ _ (fun _ _ h100 => (kept_addCounter h100 _ _))) _ _) _ _ (fun _ _ h101 => (kept_addCounter h101 _ _))) (kept_each h _ _ (fun _ _ h102 => (kept_addCounter h102 _ _))))

theorem kept_irq {a s : State} (h : Kept a s) (x1 : ℕ) (x2 : ℕ) : Kept a (State.irq s x1 x2) := by
  unfold State.irq
  exact (Kept.ite (kept_countEvent (kept_raise h _ _) _) (kept_raise h _ _))

theorem each_fuses {α : Type} (s : State) (l : List α) (f : α → State → State) (hf : ∀ x s, (f x s).fuses = s.fuses) :
    (s.each l f).fuses = s.fuses := by
  unfold State.each
  induction l generalizing s with
  | nil => rfl
  | cons x l ih => rw [List.foldl_cons, ih, hf]

theorem driveLines_fuses (s : State) : s.driveLines.fuses = s.fuses := by
  unfold State.driveLines
  exact each_fuses _ _ _ fun _ _ => rfl

theorem refreshInts_fuses (s : State) : s.refreshInts.fuses = s.fuses := by
  unfold State.refreshInts
  dsimp -iota only
  split
  · rw [each_fuses _ _ _ (by intros; rfl), driveLines_fuses]
  · rw [driveLines_fuses]

theorem pump_fuses (d : Die) (n : Nat) (s : State) : (s.pump d n).fuses = s.fuses := by
  induction n generalizing s with
  | zero => rfl
  | succ n ih =>
    unfold State.pump
    split
    · rfl
    · rw [ih]; cases d <;> rfl

theorem sendFlit_fuses (s : State) (d : Die) (t c x : Nat) : (s.sendFlit d t c x).fuses = s.fuses := by
  unfold State.sendFlit
  split
  · rfl
  · rw [pump_fuses]; cases d <;> rfl

theorem raise_fuses (s : State) (b i : Nat) : (s.raise b i).fuses = s.fuses := by
  unfold State.raise State.sendEvent
  split
  · exact refreshInts_fuses _
  · exact sendFlit_fuses _ _ _ _ _

theorem addCounter_fuses (s : State) (i n : Nat) : (s.addCounter i n).fuses = s.fuses := by
  unfold State.addCounter State.when
  dsimp only
  split <;> rfl

theorem irq_fuses (s : State) (b i : Nat) : (s.irq b i).fuses = s.fuses := by
  unfold State.irq State.countEvent
  extract_lets s1 ws s2 s3
  have e : s1.fuses = s.fuses := raise_fuses s b i
  have e2 : s2.fuses = s1.fuses := each_fuses _ _ _ fun _ _ => addCounter_fuses _ _ _
  split
  · split
    · rw [each_fuses _ _ _ fun _ _ => addCounter_fuses _ _ _]
      rw [show s3.fuses = s2.fuses from raise_fuses _ _ _, e2, e]
    · rw [e2, e]
  · exact e

theorem kept_sat {a s : State} (h : Kept a s) (x1 : Fld) (x2 : ℕ) :
    Kept a (State.sat s x1 x2) := by
  unfold State.sat
  exact (kept_set h _ _)

theorem kept_boltNvs {a s : State} (h : Kept a s) (x1 : NvsOp) :
    Kept a (State.boltNvs s x1) := by
  unfold State.boltNvs
  exact (Kept.ite (kept_nvsPut h _) (by split; exact (Kept.upd h); exact (Kept.upd h); exact (Kept.ite (Kept.upd h) (kept_irq (kept_sat (Kept.upd h) _ _) _ _))))

theorem kept_clrB {a s : State} (h : Kept a s) (x1 : Fld) (x2 : ℕ) :
    Kept a (State.clrB s x1 x2) := by
  unfold State.clrB
  exact (kept_set h _ _)

theorem kept_answer {a s : State} (h : Kept a s) (x1 : Requester) (x2 : Access) (x3 : Word) :
    Kept a (State.answer s x1 x2 x3) := by
  unfold State.answer
  exact (by split; exact (kept_emit h _); exact h; exact (kept_emit h _))

theorem kept_intChanged {a s : State} (h : Kept a s) (x1 : ℕ) :
    Kept a (State.intChanged s x1) := by
  unfold State.intChanged
  exact (Kept.ite (kept_refreshInts h) (kept_sendEvent h _ _))

theorem kept_sticky {a s : State} (h : Kept a s) (x1 : ℕ) (x2 : ℕ) :
    Kept a (State.sticky s x1 x2) := by
  unfold State.sticky
  exact (kept_intChanged (kept_wr h _ _) _)

theorem kept_stickyAt {a s : State} (h : Kept a s) (x1 : ℕ) (x2 : ℕ) :
    Kept a (State.stickyAt s x1 x2) := by
  unfold State.stickyAt
  exact (Kept.ite h (kept_sticky h _ _))

theorem kept_storeWrite {a s : State} (h : Kept a s) (x1 : ℕ) (x2 : Word) :
    Kept a (State.storeWrite s x1 x2) := by
  unfold State.storeWrite
  exact (Kept.ite (kept_intChanged (kept_wr h _ _) _) (Kept.ite (kept_intChanged (kept_wr h _ _) _) (by split; exact h; exact (kept_when (kept_wr h _ _) _ _ (fun _ h102 => (kept_sticky h102 _ _))))))

theorem kept_refuseUnit {a s : State} (h : Kept a s) (x1 : HUnit) (x2 : ℕ) (x3 : ℕ) :
    Kept a (State.refuseUnit s x1 x2 x3) := by
  unfold State.refuseUnit
  exact (kept_irq (kept_sets h _) _ _)

theorem kept_count {a s : State} (h : Kept a s) (x1 : ℕ) (x2 : ℕ) :
    Kept a (State.count s x1 x2) := by
  unfold State.count
  exact (kept_when (kept_addCounter h _ _) _ _ (fun _ h100 => (kept_irq h100 _ _)))

theorem kept_used {a s : State} (h : Kept a s) :
    Kept a (State.used s) := by
  unfold State.used
  exact (Kept.upd h)

theorem kept_sramStore {a s : State} (h : Kept a s) (x1 : ℕ) (x2 : List Byte) :
    Kept a (State.sramStore s x1 x2) := by
  unfold State.sramStore
  exact (Kept.ite (kept_irq (kept_sramPut (kept_sramPut h _ _) _ _) _ _) (kept_sramPut h _ _))

theorem kept_turnAway {a s : State} (h : Kept a s) (x1 : Verdict) (x2 : Requester) (x3 : ℕ) :
    Kept a (State.turnAway s x1 x2 x3) := by
  unfold State.turnAway
  exact (by split; exact h; exact (kept_answer (kept_stickyAt h _ _) _ _ _); exact (kept_answer (kept_sticky h _ _) _ _ _); exact (kept_answer (kept_stickyAt h _ _) _ _ _); exact (kept_answer h _ _ _); exact (kept_answer (kept_stickyAt h _ _) _ _ _))

theorem kept_spoolRecord {a s : State} (h : Kept a s) (x1 : ℕ) (x2 : ℕ) (x3 : ℕ) (x4 : ℕ) (x5 : ℕ) (x6 : ℕ) :
    Kept a (State.spoolRecord s x1 x2 x3 x4 x5 x6) := by
  unfold State.spoolRecord
  exact (kept_nvsPut h _)

theorem kept_countSpoolWrite {a s : State} (h : Kept a s) (x1 : ℕ) :
    Kept a (State.countSpoolWrite s x1) := by
  unfold State.countSpoolWrite
  exact (Kept.ite (Kept.upd h) h)

theorem kept_command {a s : State} (h : Kept a s) (x1 : Requester) (x2 : ℕ) (x3 : Word) (x4 : State → State) (h4 : ∀ y0, Kept a y0 → Kept a (x4 y0)) :
    Kept a (State.command s x1 x2 x3 x4) := by
  unfold State.command
  exact (Kept.ite h (by split; exact (kept_answer (h4 _ (kept_storeWrite (kept_countSpoolWrite h _) _ _)) _ _ _); exact (kept_turnAway h _ _ _)))

theorem kept_boltFault {a s : State} (h : Kept a s) (x1 : ℕ) (x2 : ℕ) (x3 : ℕ) (x4 : ℕ) (x5 : ℕ) :
    Kept a (State.boltFault s x1 x2 x3 x4 x5) := by
  unfold State.boltFault
  exact (kept_boltNvs h _)

theorem kept_boltProgress {a s : State} (h : Kept a s) (x1 : ℕ) (x2 : ℕ) (x3 : ℕ) (x4 : List Byte) :
    Kept a (State.boltProgress s x1 x2 x3 x4) := by
  unfold State.boltProgress
  exact (kept_boltNvs h _)

end Sys2Proof.Machine
end

