-- ==== Sys2Proof/Laws/KeptRecords.lean ====
section
/-! SUPPORT. What the operations of Machine/Records.lean keep. -/

namespace Sys2Proof.Machine

set_option Elab.async false
set_option linter.unusedTactic false

theorem kept_nvsWrite {a s : State} (h : Kept a s) (o : Nat) (bs : List Byte) : Kept a (s.nvsWrite o bs) :=
  ⟨⟨h.inv.deployed, h.inv.regs, h.inv.sram, Memory.wf_memPut bs o h.inv.nvs, h.inv.usb, h.inv.msix⟩, h.fuses, h.flash, h.pending⟩

theorem kept_swRecord {a s : State} (h : Kept a s) (x1 : ℕ) :
    Kept a (State.swRecord s x1) := by
  unfold State.swRecord
  exact (Kept.ite (kept_set h _ _) (kept_set (kept_boltNvs h _) _ _))

theorem kept_writeSnapshot {a s : State} (h : Kept a s) :
    Kept a (State.writeSnapshot s) := by
  unfold State.writeSnapshot
  exact (kept_boltNvs (kept_boltProgress h _ _ _ _) _)

theorem kept_execSamplePeriod {a s : State} (h : Kept a s) (x0 : Fin 4) (x1 : BitVec 64) :
    KeptStep a (execSamplePeriod x0 x1 s) := by
  unfold execSamplePeriod
  exact (KeptStep.next (Kept.ite (Kept.upd (kept_sets (kept_when (kept_count h _ _) _ _ (fun _ h100 => (kept_sat h100 _ _))) _)) h))

theorem kept_clearGroup {a s : State} (h : Kept a s) (x1 : ℕ) :
    Kept a (State.clearGroup s x1) := by
  unfold State.clearGroup
  exact (Kept.upd h)

theorem kept_execClearGroup {a s : State} (h : Kept a s) (x0 : Requester) (x1 : Fin 8) :
    KeptStep a (execClearGroup x0 x1 s) := by
  unfold execClearGroup
  exact (KeptStep.next (kept_command h _ _ _ _ (fun _ h100 => (kept_clearGroup h100 _))))

theorem kept_dumpSnapshot {a s : State} (h : Kept a s) (x1 : Bool) :
    Kept a (State.dumpSnapshot s x1) := by
  unfold State.dumpSnapshot
  exact (Kept.ite (kept_irq (kept_sat (kept_when h _ _ (fun _ h100 => (kept_set h100 _ _))) _ _) _ _) (Kept.ite (kept_irq (kept_sat (kept_when h _ _ (fun _ h101 => (kept_set h101 _ _))) _ _) _ _) (Kept.ite (kept_irq (kept_sat (kept_when h _ _ (fun _ h102 => (kept_set h102 _ _))) _ _) _ _) (Kept.upd (kept_set (kept_inc (kept_when h _ _ (fun _ h103 => (kept_set h103 _ _))) _ _) _ _)))))

theorem kept_execCounterLoad {a s : State} (h : Kept a s) (x0 : Requester) :
    KeptStep a (execCounterLoad x0 s) := by
  unfold execCounterLoad
  exact (KeptStep.next (kept_command h _ _ _ _ (fun _ h100 => (kept_setCounter h100 _ _))))

theorem kept_nvsCmd {a s : State} (h : Kept a s) (log prog : Bool) (lc : Nat) : Kept a (s.nvsCmd log prog lc) := by
  have cut {s : State} (h : Kept a s) (x y : Spool) (p : Nat × Byte → Bool) (e : x.nvs = s.spool.nvs.filter p)
      (u : x.usb = s.spool.usb) : Kept a { s with spool := x } :=
    ⟨⟨h.inv.deployed, h.inv.regs, h.inv.sram, by rw [e]; exact Memory.wf_filter p h.inv.nvs, by rw [u]; exact h.inv.usb, h.inv.msix⟩,
      h.fuses, h.flash, h.pending⟩
  unfold State.nvsCmd
  refine Kept.ite (kept_set h _ _) (Kept.ite (kept_set h _ _) (kept_set (kept_when (kept_when h _ _ ?_) _ _ ?_) _ _))
  · intro s h; exact cut h _ s.spool _ rfl rfl
  · intro s h; exact cut h _ s.spool _ rfl rfl

theorem kept_finishDump {a s : State} (h : Kept a s) :
    Kept a (State.finishDump s) := by
  unfold State.finishDump
  exact (by split; exact h; exact (kept_irq (Kept.upd (kept_sets (Kept.ite (kept_emit h _) (kept_sramStore h _ _)) _)) _ _))

theorem kept_execDumpDone {a s : State} (h : Kept a s) :
    KeptStep a (execDumpDone s) := by
  unfold execDumpDone
  exact (KeptStep.next (Kept.ite (kept_finishDump h) h))

theorem kept_nvsServed {a s : State} (h : Kept a s) (x1 : NvsOp) :
    Kept a (State.nvsServed s x1) := by
  unfold State.nvsServed
  exact (by split; exact (Kept.ite (kept_boltProgress (kept_irq (kept_set h _ _) _ _) _ _ _ _) h); exact h)

theorem kept_applyNvs {a s : State} (h : Kept a s) (x1 : NvsOp) :
    Kept a (State.applyNvs s x1) := by
  unfold State.applyNvs
  exact (by (try dsimp -iota only); split; exact (kept_when (kept_when (Kept.upd (kept_nvsWrite (kept_sat h _ _) _ _)) _ _ (fun _ h101 => (kept_irq h101 _ _))) _ _ (fun _ h102 => (kept_irq (kept_sets h102 _) _ _))); exact (Kept.upd (kept_nvsWrite (kept_sat h _ _) _ _)); exact (kept_nvsWrite (kept_sat h _ _) _ _))

theorem kept_nvsStep {a s : State} (h : Kept a s) :
    Kept a (State.nvsStep s) := by
  unfold State.nvsStep
  exact (by split; exact h; exact (kept_nvsServed (kept_applyNvs (Kept.upd h) _) _))

theorem kept_execNvsWriteDone {a s : State} (h : Kept a s) :
    KeptStep a (execNvsWriteDone s) := by
  unfold execNvsWriteDone
  exact (KeptStep.next (kept_nvsStep h))

theorem kept_execCounterClear {a s : State} (h : Kept a s) (x0 : Requester) :
    KeptStep a (execCounterClear x0 s) := by
  unfold execCounterClear
  exact (KeptStep.next (kept_command h _ _ _ _ (fun _ h100 => (kept_setCounter h100 _ _))))

theorem kept_execWipeProg {a s : State} (h : Kept a s) (x0 : Requester) :
    KeptStep a (execWipeProg x0 s) := by
  unfold execWipeProg
  exact (KeptStep.next (kept_command h _ _ _ _ (fun _ h100 => (kept_nvsCmd h100 _ _ _))))

theorem kept_execFltSwRecord {a s : State} (h : Kept a s) (x0 : Requester) (x1 : BitVec 16) :
    KeptStep a (execFltSwRecord x0 x1 s) := by
  unfold execFltSwRecord
  exact (KeptStep.next (kept_command h _ _ _ _ (fun _ h100 => (kept_swRecord h100 _))))

theorem kept_takeSnapshot {a s : State} (h : Kept a s) :
    Kept a (State.takeSnapshot s) := by
  unfold State.takeSnapshot
  exact (Kept.ite h (Kept.ite (kept_sets h _) (Kept.ite (kept_sets h _) (kept_writeSnapshot h))))

theorem kept_execWipeLog {a s : State} (h : Kept a s) (x0 : Requester) :
    KeptStep a (execWipeLog x0 s) := by
  unfold execWipeLog
  exact (KeptStep.next (kept_command h _ _ _ _ (fun _ h100 => (kept_nvsCmd h100 _ _ _))))

theorem kept_cntCmd {a s : State} (h : Kept a s) (x1 : Word) :
    Kept a (State.cntCmd s x1) := by
  unfold State.cntCmd
  exact (kept_when (kept_when (kept_when h _ _ (fun _ h100 => (kept_setCounter h100 _ _))) _ _ (fun _ h101 => (kept_setCounter h101 _ _))) _ _ (fun _ h102 => (kept_clearGroup h102 _)))

theorem kept_execCounterWrap {a s : State} (h : Kept a s) (x0 : Fin 3800) :
    KeptStep a (execCounterWrap x0 s) := by
  unfold execCounterWrap
  exact (KeptStep.next (Kept.ite (kept_count h _ _) h))

theorem kept_execDumpNow {a s : State} (h : Kept a s) (x0 : Requester) :
    KeptStep a (execDumpNow x0 s) := by
  unfold execDumpNow
  exact (KeptStep.next (kept_command h _ _ _ _ (fun _ h100 => h100)))

theorem kept_execNvsSnapshot {a s : State} (h : Kept a s) (x0 : Requester) (x1 : BitVec 8) :
    KeptStep a (execNvsSnapshot x0 x1 s) := by
  unfold execNvsSnapshot
  exact (KeptStep.next (kept_command h _ _ _ _ (fun _ h100 => (kept_takeSnapshot h100))))

end Sys2Proof.Machine
end

