-- ==== Sys2Proof/Laws/KeptTime.lean ====
section
/-! SUPPORT. What the operations of Machine/Time.lean keep. -/

namespace Sys2Proof.Machine

set_option Elab.async false
set_option linter.unusedTactic false

theorem kept_clkMaster {a s : State} (h : Kept a s) :
    Kept a (State.clkMaster s) := by
  unfold State.clkMaster
  exact (kept_sets (Kept.upd h) _)

theorem kept_setRate40 {a s : State} (h : Kept a s) (x1 : ℤ) :
    Kept a (State.setRate40 s x1) := by
  unfold State.setRate40
  exact (kept_set h _ _)

theorem kept_setRingTime {a s : State} (h : Kept a s) (x1 : ℕ) :
    Kept a (State.setRingTime s x1) := by
  unfold State.setRingTime
  exact (kept_sets h _)

theorem kept_setFull {a s : State} (h : Kept a s) (x1 : ℕ) :
    Kept a (State.setFull s x1) := by
  unfold State.setFull
  exact (Kept.upd (kept_setRingTime h _))

theorem kept_stepTo {a s : State} (h : Kept a s) (x1 : ℕ) :
    Kept a (State.stepTo s x1) := by
  unfold State.stepTo
  exact (Kept.upd (kept_setFull h _))

theorem kept_audJump {a s : State} (h : Kept a s) :
    Kept a (State.audJump s) := by
  unfold State.audJump
  exact (Kept.upd h)

theorem kept_altRecord {a s : State} (h : Kept a s) (x1 : ℕ) (x2 : ℕ) (x3 : ℕ) (x4 : ℕ) (x5 : ℕ) :
    Kept a (State.altRecord s x1 x2 x3 x4 x5) := by
  unfold State.altRecord
  exact (kept_boltProgress h _ _ _ _)

theorem kept_showPending {a s : State} (h : Kept a s) :
    Kept a (State.showPending s) := by
  unfold State.showPending
  exact (by (try dsimp -iota only); split; exact (kept_set (kept_sets h _) _ _); exact (kept_sets (kept_sets h _) _))

theorem kept_cancelChanges {a s : State} (h : Kept a s) :
    Kept a (State.cancelChanges s) := by
  unfold State.cancelChanges
  exact (Kept.ite h (kept_showPending (kept_irq (kept_sat (Kept.upd (kept_each h _ _ (fun _ _ h100 => (kept_altRecord h100 _ _ _ _ _)))) _ _) _ _)))

theorem kept_rejoin {a s : State} (h : Kept a s) :
    Kept a (State.rejoin s) := by
  unfold State.rejoin
  exact (Kept.ite (kept_irq (kept_sets (Kept.upd (kept_cancelChanges h)) _) _ _) (kept_cancelChanges h))

theorem kept_jumped {a s : State} (h : Kept a s) :
    Kept a (State.jumped s) := by
  unfold State.jumped
  exact (kept_audJump (kept_rejoin (kept_irq h _ _)))

theorem kept_stepTime {a s : State} (h : Kept a s) (x1 : ℕ) (x2 : ℕ) :
    Kept a (State.stepTime s x1 x2) := by
  unfold State.stepTime
  exact (kept_jumped (Kept.upd (kept_setRate40 (kept_stepTo h _) _)))

theorem kept_setSync {a s : State} (h : Kept a s) (x1 : ℕ) :
    Kept a (State.setSync s x1) := by
  unfold State.setSync
  exact (kept_irq (kept_set h _ _) _ _)

theorem kept_restartAcquire {a s : State} (h : Kept a s) :
    Kept a (State.restartAcquire s) := by
  unfold State.restartAcquire
  exact (Kept.upd h)

theorem kept_judgeOffset {a s : State} (h : Kept a s) (x1 : ℕ) (x2 : ℤ) (x3 : Option ℤ) (x4 : ℕ) :
    Kept a (State.judgeOffset s x1 x2 x3 x4) := by
  unfold State.judgeOffset
  exact (Kept.ite (Kept.ite (Kept.ite (kept_stepTime (Kept.upd h) _ _) (Kept.upd h)) (Kept.ite (kept_setSync (Kept.upd (Kept.upd h)) _) (Kept.ite (kept_restartAcquire (Kept.upd h)) (Kept.upd h)))) (Kept.ite (kept_setSync (Kept.upd h) _) (Kept.upd h)))

theorem kept_follow {a s : State} (h : Kept a s) (x1 : Option ℕ) :
    Kept a (State.follow s x1) := by
  unfold State.follow
  exact (by (try dsimp -iota only); split; exact (kept_set (Kept.upd h) _ _); exact (kept_sets (Kept.upd h) _))

theorem kept_reviewSource {a s : State} (h : Kept a s) :
    Kept a (State.reviewSource s) := by
  unfold State.reviewSource
  exact (Kept.ite h (Kept.ite (kept_follow h _) (by (try dsimp -iota only); split; exact (Kept.ite (kept_set (kept_restartAcquire (kept_follow h _)) _ _) (Kept.ite (kept_restartAcquire (kept_follow h _)) (Kept.ite (kept_irq (kept_follow h _) _ _) (kept_follow h _)))); exact (Kept.ite (kept_restartAcquire (kept_follow h _)) (Kept.ite (kept_setSync (Kept.upd (kept_follow h _)) _) (kept_follow h _))))))

theorem kept_clkOn {a s : State} (h : Kept a s) :
    Kept a (State.clkOn s) := by
  unfold State.clkOn
  exact (Kept.ite (kept_clkMaster (kept_sets (kept_stepTo (Kept.upd h) _) _)) (kept_reviewSource (kept_sets (kept_stepTo (Kept.upd h) _) _)))

theorem kept_execRootPllLock {a s : State} (h : Kept a s) :
    KeptStep a (execRootPllLock s) := by
  unfold execRootPllLock
  exact (KeptStep.next (Kept.ite (Kept.ite (kept_emit (Kept.upd (Kept.upd (kept_set h _ _))) _) (Kept.upd (kept_set h _ _))) h))

theorem kept_addTicks {a s : State} (h : Kept a s) (x1 : ℕ) :
    Kept a (State.addTicks s x1) := by
  unfold State.addTicks
  exact (Kept.upd (kept_setFull h _))

theorem kept_timeReaches {a s : State} (h : Kept a s) (x1 : ℕ) :
    Kept a (State.timeReaches s x1) := by
  unfold State.timeReaches
  exact (Kept.ite (kept_addTicks h _) h)

theorem kept_setPort {a s : State} (h : Kept a s) (x1 : ℕ) (x2 : PortSt) :
    Kept a (State.setPort s x1 x2) := by
  unfold State.setPort
  exact (Kept.upd h)

theorem kept_sendCtrl {a s : State} (h : Kept a s) (x1 : ℕ) (x2 : ℕ) (x3 : ℕ) :
    Kept a (State.sendCtrl s x1 x2 x3) := by
  unfold State.sendCtrl
  exact (kept_setPort h _ _)

theorem kept_sendTime {a s : State} (h : Kept a s) (x1 : ℕ) :
    Kept a (State.sendTime s x1) := by
  unfold State.sendTime
  exact (Kept.ite (kept_sendCtrl h _ _ _) h)

theorem kept_timeCycle {a s : State} (h : Kept a s) :
    Kept a (State.timeCycle s) := by
  unfold State.timeCycle
  exact (Kept.upd h)

theorem kept_ppsTake {a s : State} (h : Kept a s) (x1 : ℕ) (x2 : ℕ) (x3 : ℤ) (x4 : ℤ) :
    Kept a (State.ppsTake s x1 x2 x3 x4) := by
  unfold State.ppsTake
  exact (Kept.upd h)

theorem kept_ppsEdge {a s : State} (h : Kept a s) (x1 : ℕ) :
    Kept a (State.ppsEdge s x1) := by
  unfold State.ppsEdge
  exact (Kept.ite (kept_irq (Kept.upd (kept_set h _ _)) _ _) (Kept.ite (kept_setSync (kept_ppsTake (kept_set h _ _) _ _ _ _) _) (Kept.ite (kept_setSync (Kept.ite (Kept.upd (kept_ppsTake (kept_set h _ _) _ _ _ _)) (kept_jumped (Kept.upd (kept_stepTo (kept_ppsTake (kept_set h _ _) _ _ _ _) _)))) _) (kept_ppsTake (kept_set h _ _) _ _ _ _))))

theorem kept_ifBolt {a s : State} (h : Kept a s) (x1 : State → State) (h1 : ∀ y0, Kept a y0 → Kept a (x1 y0)) :
    Kept a (State.ifBolt s x1) := by
  unfold State.ifBolt
  exact (Kept.ite (h1 _ h) h)

theorem kept_pcieRef {a s : State} (h : Kept a s) (x1 : ℕ) (x2 : ℕ) :
    Kept a (State.pcieRef s x1 x2) := by
  unfold State.pcieRef
  exact (Kept.ite (kept_setB h _ _) (kept_when (kept_clrB h _ _) _ _ (fun _ h100 => (kept_irq h100 _ _))))

theorem kept_setTrunkTime {a s : State} (h : Kept a s) (x1 : ℕ) (x2 : TrunkTime) :
    Kept a (State.setTrunkTime s x1 x2) := by
  unfold State.setTrunkTime
  exact (Kept.upd h)

theorem kept_timeRx {a s : State} (h : Kept a s) (x1 : ℕ) (x2 : TimeMsg) (x3 : ℕ) :
    Kept a (State.timeRx s x1 x2 x3) := by
  unfold State.timeRx
  exact (Kept.ite (kept_judgeOffset (kept_set (kept_reviewSource (kept_set (kept_when (kept_setTrunkTime (kept_timeReaches h _) _ _) _ _ (fun _ h100 => (kept_sat h100 _ _))) _ _)) _ _) _ _ _ _) (kept_reviewSource (kept_set (kept_when (kept_setTrunkTime (kept_timeReaches h _) _ _) _ _ (fun _ h101 => (kept_sat h101 _ _))) _ _)))

theorem kept_execTimeRx {a s : State} (h : Kept a s) (x0 : Fin 2) (x1 : TimeMsg) (x2 : BitVec 72) :
    KeptStep a (execTimeRx x0 x1 x2 s) := by
  unfold execTimeRx
  exact (KeptStep.next (kept_ifBolt h _ (fun _ h100 => (kept_timeRx h100 _ _ _))))

theorem kept_execPpsLost {a s : State} (h : Kept a s) (x0 : BitVec 72) :
    KeptStep a (execPpsLost x0 s) := by
  unfold execPpsLost
  exact (KeptStep.next (kept_ifBolt h _ (fun _ h100 => (Kept.ite (kept_irq (kept_set (Kept.upd h100) _ _) _ _) h100))))

theorem kept_servo {a s : State} (h : Kept a s) :
    Kept a (State.servo s) := by
  unfold State.servo
  exact (Kept.ite h (by split; exact (Kept.ite (kept_setRate40 (Kept.upd h) _) h); exact (Kept.ite (kept_setRate40 (Kept.upd h) _) h)))

theorem kept_execHoldoverLong {a s : State} (h : Kept a s) :
    KeptStep a (execHoldoverLong s) := by
  unfold execHoldoverLong
  exact (KeptStep.next (kept_ifBolt h _ (fun _ h100 => (Kept.ite (kept_set h100 _ _) h100))))

theorem kept_showInstant {a s : State} (h : Kept a s) (x1 : ℕ) :
    Kept a (State.showInstant s x1) := by
  unfold State.showInstant
  exact (Kept.upd (Kept.ite (kept_addTicks h _) h))

theorem kept_execTimeFault {a s : State} (h : Kept a s) :
    KeptStep a (execTimeFault s) := by
  unfold execTimeFault
  exact (KeptStep.next (kept_ifBolt h _ (fun _ h100 => (Kept.ite (kept_rejoin (kept_irq (kept_set (kept_restartAcquire h100) _ _) _ _)) h100))))

theorem kept_ifAon {a s : State} (h : Kept a s) (x1 : State → State) (h1 : ∀ y0, Kept a y0 → Kept a (x1 y0)) :
    Kept a (State.ifAon s x1) := by
  unfold State.ifAon
  exact (Kept.ite (h1 _ h) h)

theorem kept_execTimeSourceLost {a s : State} (h : Kept a s) (x0 : Fin 2) :
    KeptStep a (execTimeSourceLost x0 s) := by
  unfold execTimeSourceLost
  exact (KeptStep.next (kept_ifBolt h _ (fun _ h100 => (Kept.ite (kept_reviewSource (kept_setTrunkTime h100 _ _)) h100))))

theorem kept_execPpsEdge {a s : State} (h : Kept a s) (x0 : BitVec 72) (x1 : Bool) :
    KeptStep a (execPpsEdge x0 x1 s) := by
  unfold execPpsEdge
  exact (KeptStep.next (kept_ifBolt h _ (fun _ h100 => (Kept.ite (kept_ppsEdge (kept_timeReaches h100 _) _) h100))))

end Sys2Proof.Machine
end

