-- ==== Sys2Proof/Laws/KeptLine.lean ====
section
/-! SUPPORT. What the operations of Machine/Line.lean keep. -/

namespace Sys2Proof.Machine

set_option Elab.async false
set_option linter.unusedTactic false

theorem kept_setLane {a s : State} (h : Kept a s) (x1 : ℕ) (x2 : LaneSt) :
    Kept a (State.setLane s x1 x2) := by
  unfold State.setLane
  exact (Kept.upd h)

theorem kept_sendOn {a s : State} (h : Kept a s) (x1 : ℕ) (x2 : ℕ) (x3 : ℕ) (x4 : ℕ) :
    Kept a (State.sendOn s x1 x2 x3 x4) := by
  unfold State.sendOn
  exact (by (try dsimp -iota only); split; exact (by (try dsimp -iota only); split; exact (kept_emit (kept_setLane (Kept.ite (kept_set h _ _) h) _ _) _)))

theorem kept_sendKeep {a s : State} (h : Kept a s) (x1 : ℕ) (x2 : ℕ) :
    Kept a (State.sendKeep s x1 x2) := by
  unfold State.sendKeep
  exact (by split; exact h; exact (kept_setLane (kept_sendOn h _ _ _ _) _ _))

theorem kept_keepDue {a s : State} (h : Kept a s) (x1 : ℕ) :
    Kept a (State.keepDue s x1) := by
  unfold State.keepDue
  exact (Kept.ite (kept_each (kept_each h _ _ (fun _ _ h100 => (Kept.ite (kept_sendKeep h100 _ _) h100))) _ _ (fun _ _ h101 => (kept_setLane h101 _ _))) (kept_each h _ _ (fun _ _ h102 => (Kept.ite (kept_sendKeep h102 _ _) h102))))

theorem kept_nextSlot {a s : State} (h : Kept a s) (x1 : ℕ) :
    Kept a (State.nextSlot s x1) := by
  unfold State.nextSlot
  exact (Kept.ite (kept_setPort h _ _) (kept_keepDue (kept_each (kept_setPort h _ _) _ _ (fun _ _ h100 => (kept_setLane h100 _ _))) _))

theorem kept_sendSlot {a s : State} (h : Kept a s) (x1 : ℕ) (x2 : ℕ) (x3 : ℕ) :
    Kept a (State.sendSlot s x1 x2 x3) := by
  unfold State.sendSlot
  exact (by split; exact h; exact (kept_nextSlot (kept_sendOn h _ _ _ _) _))

theorem kept_idleRow {a s : State} (h : Kept a s) (x1 : ℕ) :
    Kept a (State.idleRow s x1) := by
  unfold State.idleRow
  exact (kept_each h _ _ (fun _ _ h100 => (kept_sendSlot h100 _ _ _)))

theorem kept_alignRow {a s : State} (h : Kept a s) (x1 : ℕ) :
    Kept a (State.alignRow s x1) := by
  unfold State.alignRow
  exact (Kept.ite (kept_idleRow (kept_each h _ _ (fun _ _ h100 => (kept_nextSlot (kept_sendOn h100 _ _ _ _) _))) _) h)

theorem kept_ctrlSlots {a s : State} (h : Kept a s) (p n : Nat) : Kept a (s.ctrlSlots p n) := by
  induction n generalizing s with
  | zero => exact h
  | succ n ih =>
    unfold State.ctrlSlots
    split
    · exact h
    · refine Kept.ite h ?_
      dsimp only
      split
      · exact h
      · exact ih (kept_alignRow (kept_sendSlot (kept_setLane (kept_setPort h _ _) _ _) _ _ _) _)

theorem kept_readySlot {a s : State} (h : Kept a s) (x1 : ℕ) :
    Kept a (State.readySlot s x1) := by
  unfold State.readySlot
  exact (kept_ctrlSlots (kept_alignRow h _) _ _)

theorem kept_sendStitch {a s : State} (h : Kept a s) (x1 : ℕ) (x2 : ℕ) (x3 : ℕ) :
    Kept a (State.sendStitch s x1 x2 x3) := by
  unfold State.sendStitch
  exact (kept_sendSlot (kept_readySlot h _) _ _ _)

theorem kept_sendFrame {a s : State} (h : Kept a s) (x1 : ℕ) (x2 : Frame) :
    Kept a (State.sendFrame s x1 x2) := by
  unfold State.sendFrame
  exact (by (try dsimp -iota only); split; exact (kept_each (kept_readySlot h _) _ _ (fun _ _ h101 => (kept_sendStitch h101 _ _ _))); exact (kept_each (kept_readySlot h _) _ _ (fun _ _ h103 => (kept_sendStitch h103 _ _ _))))

theorem kept_ebCount {a s : State} (h : Kept a s) (x1 : ℕ) (x2 : Bool) :
    Kept a (State.ebCount s x1 x2) := by
  unfold State.ebCount
  exact (Kept.ite (kept_sat h _ _) (Kept.ite (kept_sat h _ _) h))

theorem kept_ebRowEnd {a s : State} (h : Kept a s) (x1 : ℕ) :
    Kept a (State.ebRowEnd s x1) := by
  unfold State.ebRowEnd
  exact (kept_setPort (Kept.ite (kept_ebCount (kept_setPort (Kept.ite h (Kept.ite (kept_ebCount h _ _) (kept_setPort h _ _))) _ _) _ _) (Kept.ite h (Kept.ite (kept_ebCount h _ _) (kept_setPort h _ _)))) _ _)

theorem kept_rowEnd {a s : State} (h : Kept a s) (x1 : ℕ) :
    Kept a (State.rowEnd s x1) := by
  unfold State.rowEnd
  exact (kept_ebRowEnd (kept_setPort h _ _) _)

theorem kept_sendKeeps {a s : State} (h : Kept a s) (x1 : ℕ) :
    Kept a (State.sendKeeps s x1) := by
  unfold State.sendKeeps
  exact (kept_each h _ _ (fun _ _ h100 => (kept_sendKeep h100 _ _)))

theorem kept_slip {a s : State} (h : Kept a s) :
    Kept a (State.slip s) := by
  unfold State.slip
  exact (kept_sat h _ _)

theorem kept_prbsFollow {a s : State} (h : Kept a s) (x1 : ℕ) (x2 : Bool) (x3 : ℕ) :
    Kept a (State.prbsFollow s x1 x2 x3) := by
  unfold State.prbsFollow
  exact (Kept.ite (kept_set (kept_emit (Kept.ite (kept_emit (kept_used (Kept.ite (kept_setCounter (kept_setCounter (Kept.ite (kept_sets h _) (kept_setLane (kept_set (kept_sets h _) _ _) _ _)) _ _) _ _) (Kept.ite (kept_sets h _) (kept_setLane (kept_set (kept_sets h _) _ _) _ _)))) _) (Kept.ite (kept_emit (Kept.ite (kept_setCounter (kept_setCounter (Kept.ite (kept_sets h _) (kept_setLane (kept_set (kept_sets h _) _ _) _ _)) _ _) _ _) (Kept.ite (kept_sets h _) (kept_setLane (kept_set (kept_sets h _) _ _) _ _))) _) (Kept.ite (kept_setCounter (kept_setCounter (Kept.ite (kept_sets h _) (kept_setLane (kept_set (kept_sets h _) _ _) _ _)) _ _) _ _) (Kept.ite (kept_sets h _) (kept_setLane (kept_set (kept_sets h _) _ _) _ _))))) _) _ _) (Kept.ite (kept_emit (kept_used (Kept.ite (kept_setCounter (kept_setCounter (Kept.ite (kept_sets h _) (kept_setLane (kept_set (kept_sets h _) _ _) _ _)) _ _) _ _) (Kept.ite (kept_sets h _) (kept_setLane (kept_set (kept_sets h _) _ _) _ _)))) _) (Kept.ite (kept_emit (Kept.ite (kept_setCounter (kept_setCounter (Kept.ite (kept_sets h _) (kept_setLane (kept_set (kept_sets h _) _ _) _ _)) _ _) _ _) (Kept.ite (kept_sets h _) (kept_setLane (kept_set (kept_sets h _) _ _) _ _))) _) (Kept.ite (kept_setCounter (kept_setCounter (Kept.ite (kept_sets h _) (kept_setLane (kept_set (kept_sets h _) _ _) _ _)) _ _) _ _) (Kept.ite (kept_sets h _) (kept_setLane (kept_set (kept_sets h _) _ _) _ _))))))

theorem kept_showLocks {a s : State} (h : Kept a s) (x1 : ℕ) :
    Kept a (State.showLocks s x1) := by
  unfold State.showLocks
  exact (kept_set h _ _)

theorem kept_lanePrbs {a s : State} (h : Kept a s) (x1 : ℕ) (x2 : ℕ) (x3 : ℕ) (x4 : ℕ) :
    Kept a (State.lanePrbs s x1 x2 x3 x4) := by
  unfold State.lanePrbs
  exact (kept_prbsFollow (kept_sets h _) _ _ _)

end Sys2Proof.Machine
end

