-- ==== Sys2Proof/Laws/KeptNight.lean ====
section
/-! SUPPORT. What the operations of Machine/Night.lean keep. -/

namespace Sys2Proof.Machine

set_option Elab.async false
set_option linter.unusedTactic false

theorem kept_ntResult {a s : State} (h : Kept a s) (x1 : ℕ) (x2 : ℕ) (x3 : ℕ) (x4 : ℕ) (x5 : ℕ) :
    Kept a (State.ntResult s x1 x2 x3 x4 x5) := by
  unfold State.ntResult
  exact (kept_sets h _)

theorem kept_mapNight {a s : State} (h : Kept a s) (x1 : NightRun → NightRun) :
    Kept a (State.mapNight s x1) := by
  unfold State.mapNight
  exact (Kept.upd h)

theorem kept_ntReopen {a s : State} (h : Kept a s) :
    Kept a (State.ntReopen s) := by
  unfold State.ntReopen
  exact (kept_each h _ _ (fun _ _ h100 => (Kept.ite (Kept.upd (kept_sets h100 _)) h100)))

theorem kept_ntBreakEnd {a s : State} (h : Kept a s) :
    Kept a (State.ntBreakEnd s) := by
  unfold State.ntBreakEnd
  exact (by split; exact (by split; exact (kept_ntReopen (Kept.upd (kept_mapNight h _))); exact h); exact h)

theorem kept_ntRestore {a s : State} (h : Kept a s) :
    Kept a (State.ntRestore s) := by
  unfold State.ntRestore
  exact (by split; exact h; exact (kept_mapNight (kept_each (kept_each h _ _ (fun _ _ h102 => (kept_lanePrbs h102 _ _ _ _))) _ _ (fun _ _ h103 => (kept_set h103 _ _))) _))

theorem kept_ntEdge {a s : State} (h : Kept a s) (x1 : ℕ) (x2 : ℕ) :
    Kept a (State.ntEdge s x1 x2) := by
  unfold State.ntEdge
  exact (by split; exact (Kept.ite (kept_ntResult (kept_mapNight (kept_ntBreakEnd h) _) _ _ _ _ _) h); exact h)

theorem kept_ntLock {a s : State} (h : Kept a s) (x1 : ℕ) (x2 : Bool) :
    Kept a (State.ntLock s x1 x2) := by
  unfold State.ntLock
  exact (kept_mapNight h _)

theorem kept_ntEnd {a s : State} (h : Kept a s) (x1 : ℕ) (x2 : ℕ) :
    Kept a (State.ntEnd s x1 x2) := by
  unfold State.ntEnd
  exact (by split; exact h; exact (kept_irq (kept_sets (Kept.upd (kept_sramStore h _ _)) _) _ _))

theorem kept_ntAbandon {a s : State} (h : Kept a s) (x1 : ℕ) :
    Kept a (State.ntAbandon s x1) := by
  unfold State.ntAbandon
  exact (by split; exact h; exact (kept_ntEnd (Kept.ite (kept_ntResult (kept_ntBreakEnd (kept_ntRestore h)) _ _ _ _ _) (kept_ntBreakEnd (kept_ntRestore h))) _ _))

theorem kept_ntKeyDone {a s : State} (h : Kept a s) (x1 : ℕ) (x2 : List Byte) :
    Kept a (State.ntKeyDone s x1 x2) := by
  unfold State.ntKeyDone
  exact (kept_mapNight h _)

end Sys2Proof.Machine
end

