-- ==== Sys2Proof/Laws/KeptSwitch.lean ====
section
/-! SUPPORT. What the operations of Machine/Switch.lean keep. -/

namespace Sys2Proof.Machine

set_option Elab.async false
set_option linter.unusedTactic false

theorem kept_mapStored {a s : State} (h : Kept a s) (x1 : ℕ) (x2 : Stored → Stored) :
    Kept a (State.mapStored s x1 x2) := by
  unfold State.mapStored
  exact (by split; exact (Kept.upd h); exact h)

theorem kept_mapCopy {a s : State} (h : Kept a s) (x1 : ℕ) (x2 : ℕ) (x3 : Copy → Copy) :
    Kept a (State.mapCopy s x1 x2 x3) := by
  unfold State.mapCopy
  exact (kept_mapStored h _ _)

theorem kept_countFrayed {a s : State} (h : Kept a s) (x1 : ℕ) :
    Kept a (State.countFrayed s x1) := by
  unfold State.countFrayed
  exact (Kept.ite (kept_count (kept_count h _ _) _ _) (Kept.ite (kept_count (kept_count h _ _) _ _) (kept_count h _ _)))

theorem kept_frayMade {a s : State} (h : Kept a s) (x1 : ℕ) (x2 : ℕ) :
    Kept a (State.frayMade s x1 x2) := by
  unfold State.frayMade
  exact (kept_countFrayed (kept_sat h _ _) _)

theorem kept_growTo {a s : State} (h : Kept a s) (x1 : ℕ) (x2 : ℕ) :
    Kept a (State.growTo s x1 x2) := by
  unfold State.growTo
  exact (Kept.upd h)

theorem kept_mapQueue {a s : State} (h : Kept a s) (x1 : ℕ) (x2 : Queue → Queue) :
    Kept a (State.mapQueue s x1 x2) := by
  unfold State.mapQueue
  exact (Kept.upd h)

theorem kept_mapPsch {a s : State} (h : Kept a s) (x1 : ℕ) (x2 : PortSched → PortSched) :
    Kept a (State.mapPsch s x1 x2) := by
  unfold State.mapPsch
  exact (Kept.upd h)

theorem kept_activate {a s : State} (h : Kept a s) (x1 : ℕ) :
    Kept a (State.activate s x1) := by
  unfold State.activate
  exact (Kept.ite (kept_mapPsch (kept_mapQueue h _ _) _ _) (Kept.ite h (kept_mapPsch (kept_mapQueue h _ _) _ _)))

theorem kept_append {a s : State} (h : Kept a s) (x1 : ℕ) (x2 : ℕ) :
    Kept a (State.append s x1 x2) := by
  unfold State.append
  exact (kept_activate (kept_mapQueue (kept_mapCopy h _ _ _) _ _) _)

theorem kept_detach {a s : State} (h : Kept a s) (x1 : ℕ) :
    Kept a (State.detach s x1) := by
  unfold State.detach
  exact (kept_each h _ _ (fun _ _ h100 => (Kept.ite (kept_setPort h100 _ _) h100)))

theorem kept_sendPause {a s : State} (h : Kept a s) (x1 : ℕ) :
    Kept a (State.sendPause s x1) := by
  unfold State.sendPause
  exact (kept_each h _ _ (fun _ _ h100 => (kept_when h100 _ _ (fun _ h101 => (kept_sendCtrl h101 _ _ _)))))

theorem kept_checkFree {a s : State} (h : Kept a s) :
    Kept a (State.checkFree s) := by
  unfold State.checkFree
  exact (Kept.ite (kept_irq (kept_sendPause (kept_set h _ _) _) _ _) h)

theorem kept_retireCell {a s : State} (h : Kept a s) (x1 : ℕ) :
    Kept a (State.retireCell s x1) := by
  unfold State.retireCell
  exact (Kept.ite (kept_checkFree (kept_irq (kept_boltNvs (kept_boltNvs (kept_sets (Kept.upd (Kept.upd h)) _) _) _) _ _)) (kept_irq (Kept.upd (Kept.upd h)) _ _))

theorem kept_grantAdd {a s : State} (h : Kept a s) (x1 : ℕ) (x2 : ℕ) (x3 : ℕ) :
    Kept a (State.grantAdd s x1 x2 x3) := by
  unfold State.grantAdd
  exact (Kept.ite h (kept_setPort h _ _))

theorem kept_growOne {a s : State} (h : Kept a s) (x1 : ℕ × ℕ) :
    Kept a (State.growOne s x1) := by
  unfold State.growOne
  exact (Kept.ite h (Kept.ite (kept_set h _ _) (kept_grantAdd (kept_set h _ _) _ _ _)))

theorem kept_grow {a s : State} (h : Kept a s) :
    Kept a (State.grow s) := by
  unfold State.grow
  exact (Kept.ite h (Kept.upd (kept_each h _ _ (fun _ _ h100 => (kept_growOne h100 _)))))

theorem kept_mapEntry {a s : State} (h : Kept a s) (x1 : ℕ) (x2 : Entry → Entry) :
    Kept a (State.mapEntry s x1 x2) := by
  unfold State.mapEntry
  exact (Kept.upd h)

theorem kept_execDrainDone {a s : State} (h : Kept a s) (x0 : Fin 1024) :
    KeptStep a (execDrainDone x0 s) := by
  unfold execDrainDone
  exact (KeptStep.next (kept_ifBolt h _ (fun _ h100 => (by split; exact (kept_irq (kept_mapEntry h100 _ _) _ _); exact h100))))

theorem kept_markRow {a s : State} (h : Kept a s) (x1 : ℕ) (x2 : ℕ) :
    Kept a (State.markRow s x1 x2) := by
  unfold State.markRow
  exact (Kept.upd h)

theorem kept_uncharge {a s : State} (h : Kept a s) (x1 : Domain) (x2 : ℕ) :
    Kept a (State.uncharge s x1 x2) := by
  unfold State.uncharge
  exact (by split; exact (kept_grantAdd (kept_set h _ _) _ _ _); exact (kept_set h _ _); exact (Kept.upd h))

theorem kept_freeCellsBack {a s : State} (h : Kept a s) (x1 : List ℕ) :
    Kept a (State.freeCellsBack s x1) := by
  unfold State.freeCellsBack
  exact (kept_each h _ _ (fun _ _ h100 => (Kept.ite (kept_retireCell h100 _) (Kept.upd h100))))

theorem kept_freeFrame {a s : State} (h : Kept a s) (x1 : ℕ) :
    Kept a (State.freeFrame s x1) := by
  unfold State.freeFrame
  exact (by split; exact h; exact (kept_grow (kept_detach (kept_mapEntry (kept_uncharge (kept_freeCellsBack (Kept.upd h) _) _ _) _ _) _)))

theorem kept_eccUncorr {a s : State} (h : Kept a s) :
    Kept a (State.eccUncorr s) := by
  unfold State.eccUncorr
  exact (kept_irq (kept_sat h _ _) _ _)

theorem kept_failCells {a s : State} (h : Kept a s) (x1 : List ℕ) :
    Kept a (State.failCells s x1) := by
  unfold State.failCells
  exact (Kept.upd h)

theorem kept_readFrame {a s : State} (h : Kept a s) (x1 : Stored) (x2 : ℕ) (x3 : ℕ) :
    Kept a (State.readFrame s x1 x2 x3).1 := by
  unfold State.readFrame
  exact (by (try dsimp -iota only); exact Kept.ite1 (Kept.pair (kept_eccUncorr (kept_failCells (kept_markRow h _ _) _))) (Kept.pair (Kept.ite (kept_sat (kept_markRow h _ _) _ _) (kept_markRow h _ _))))

theorem kept_deliveryRecord {a s : State} (h : Kept a s) (x1 : ℕ) (x2 : ℕ) :
    Kept a (State.deliveryRecord s x1 x2) := by
  unfold State.deliveryRecord
  exact (kept_boltNvs h _)

theorem kept_tunnelDead {a s : State} (h : Kept a s) (x1 : ℕ) :
    Kept a (State.tunnelDead s x1) := by
  unfold State.tunnelDead
  exact (kept_deliveryRecord (kept_irq (kept_sat (kept_set (kept_mapEntry h _ _) _ _) _ _) _ _) _ _)

theorem kept_unqueue {a s : State} (h : Kept a s) (x1 : ℕ) (x2 : ℕ) :
    Kept a (State.unqueue s x1 x2) := by
  unfold State.unqueue
  exact (kept_activate (kept_mapQueue h _ _) _)

theorem kept_charge {a s : State} (h : Kept a s) (x1 : Domain) (x2 : ℕ) :
    Kept a (State.charge s x1 x2) := by
  unfold State.charge
  exact (by split; exact (kept_inc h _ _); exact (kept_inc h _ _); exact (Kept.upd h))

theorem kept_copiesGone {a s : State} (h : Kept a s) (x1 : ℕ) :
    Kept a (State.copiesGone s x1) := by
  unfold State.copiesGone
  exact (by split; exact h; exact (Kept.ite (by split; exact h; exact (kept_grow (kept_mapEntry (kept_mapStored (kept_charge (kept_uncharge h _ _) _ _) _ _) _ _))) (kept_freeFrame h _)))

theorem kept_endCopy {a s : State} (h : Kept a s) (x1 : ℕ) (x2 : ℕ) (x3 : Bool) :
    Kept a (State.endCopy s x1 x2 x3) := by
  unfold State.endCopy
  exact (by (try dsimp -iota only); split; exact (Kept.ite (kept_copiesGone (kept_mapStored h _ _) _) (kept_mapStored h _ _)); exact (kept_mapStored h _ _))

theorem kept_dropCopy {a s : State} (h : Kept a s) (x1 : ℕ) (x2 : ℕ) :
    Kept a (State.dropCopy s x1 x2) := by
  unfold State.dropCopy
  exact (kept_endCopy (kept_mapPsch (kept_unqueue h _ _) _ _) _ _ _)

theorem kept_countEcc {a s : State} (h : Kept a s) (x1 : ℕ) (x2 : ℕ) :
    Kept a (State.countEcc s x1 x2) := by
  unfold State.countEcc
  exact (kept_count (kept_sat h _ _) _ _)

theorem kept_dropUnstarted {a s : State} (h : Kept a s) (x1 : ℕ) (x2 : Stored) :
    Kept a (State.dropUnstarted s x1 x2) := by
  unfold State.dropUnstarted
  exact (Kept.ite h (kept_each (kept_countEcc h _ _) _ _ (fun _ _ h100 => (kept_dropCopy h100 _ _))))

theorem kept_egressRead {a s : State} (h : Kept a s) (x1 : ℕ) (x2 : ℕ) (x3 : ℕ) :
    Kept a (State.egressRead s x1 x2 x3) := by
  unfold State.egressRead
  exact (by split; exact h; exact (by split; rename_i hq; have h102 := Kept.eq hq (kept_readFrame h _ _ _); exact h102; rename_i hq; have h103 := Kept.eq hq (kept_readFrame h _ _ _); exact (by split; exact (kept_each (kept_tunnelDead h103 _) _ _ (fun _ _ h105 => (kept_dropCopy h105 _ _))); exact (kept_dropUnstarted h103 _ _))))

theorem kept_flushCl7 {a s : State} (h : Kept a s) (x1 : ℕ) :
    Kept a (State.flushCl7 s x1) := by
  unfold State.flushCl7
  exact (kept_each h _ _ (fun _ _ h100 => (by split; exact h100; exact (Kept.ite h100 (kept_sendFrame (kept_count (kept_count (kept_sat (kept_setPort (kept_readySlot (kept_setPort h100 _ _) _) _ _) _ _) _ _) _ _) _ _)))))

theorem kept_execCreditRx {a s : State} (h : Kept a s) (x0 : Fin 8) (x1 : BitVec 504) :
    KeptStep a (execCreditRx x0 x1 s) := by
  unfold execCreditRx
  exact (KeptStep.next (kept_ifBolt h _ (fun _ h100 => (Kept.ite (kept_flushCl7 (kept_each h100 _ _ (fun _ _ h101 => (kept_grantAdd (kept_setPort h101 _ _) _ _ _))) _) h100))))

theorem kept_refuseFrame {a s : State} (h : Kept a s) (x1 : ℕ) (x2 : ℕ) :
    Kept a (State.refuseFrame s x1 x2) := by
  unfold State.refuseFrame
  exact (kept_count (kept_sat h _ _) _ _)

theorem kept_recvAdd {a s : State} (h : Kept a s) (x1 : ℕ) (x2 : ℕ) (x3 : ℕ) :
    Kept a (State.recvAdd s x1 x2 x3) := by
  unfold State.recvAdd
  exact (kept_setPort h _ _)

theorem kept_scrubRow {a s : State} (h : Kept a s) (x1 : ℕ) (x2 : ℕ) (x3 : ℕ) :
    Kept a (State.scrubRow s x1 x2 x3) := by
  unfold State.scrubRow
  exact (Kept.ite h (Kept.ite (kept_sat (Kept.upd h) _ _) (by (try dsimp -iota only); split; exact (kept_failCells (kept_mapStored (kept_eccUncorr (kept_markRow h _ _)) _ _) _); exact (Kept.ite (kept_eccUncorr (kept_markRow h _ _)) (kept_retireCell (Kept.upd (kept_eccUncorr (kept_markRow h _ _))) _)))))

theorem kept_execScrubRead {a s : State} (h : Kept a s) (x0 : Fin 16) (x1 : ℕ) :
    KeptStep a (execScrubRead x0 x1 s) := by
  unfold execScrubRead
  exact (KeptStep.next (kept_ifBolt h _ (fun _ h100 => (Kept.ite (Kept.ite (kept_scrubRow h100 _ _ _) (Kept.ite (kept_set (kept_scrubRow h100 _ _ _) _ _) (kept_sat (kept_set (kept_scrubRow h100 _ _ _) _ _) _ _))) h100))))

theorem kept_wireFree {a s : State} (h : Kept a s) (x1 : ℕ) :
    Kept a (State.wireFree s x1) := by
  unfold State.wireFree
  exact (kept_flushCl7 (kept_setPort h _ _) _)

theorem kept_residueExpiry {a s : State} (h : Kept a s) (x1 : ℕ) :
    Kept a (State.residueExpiry s x1) := by
  unfold State.residueExpiry
  exact (by split; exact h; exact (Kept.ite (Kept.ite (kept_each h _ _ (fun _ _ h102 => (kept_dropCopy (kept_sat h102 _ _) _ _))) (kept_irq (kept_each h _ _ (fun _ _ h103 => (kept_dropCopy (kept_sat h103 _ _) _ _))) _ _)) h))

theorem kept_execPauseRepeat {a s : State} (h : Kept a s) :
    KeptStep a (execPauseRepeat s) := by
  unfold execPauseRepeat
  exact (KeptStep.next (kept_ifBolt h _ (fun _ h100 => (Kept.ite h100 (Kept.ite (kept_sendPause (kept_set h100 _ _) _) (kept_sendPause h100 _))))))

theorem kept_execCreditStall {a s : State} (h : Kept a s) (x0 : Fin 8) (x1 : Fin 8) :
    KeptStep a (execCreditStall x0 x1 s) := by
  unfold execCreditStall
  exact (KeptStep.next (kept_ifBolt h _ (fun _ h100 => (by split; exact h100; exact (Kept.ite (kept_irq (kept_setPort h100 _ _) _ _) h100)))))

theorem kept_sendCl7 {a s : State} (h : Kept a s) (x1 : ℕ) (x2 : Frame) :
    Kept a (State.sendCl7 s x1 x2) := by
  unfold State.sendCl7
  exact (Kept.ite h (kept_flushCl7 (kept_setPort h _ _) _))

theorem kept_linkFault {a s : State} (h : Kept a s) (x1 : ℕ) (x2 : ℕ) :
    Kept a (State.linkFault s x1 x2) := by
  unfold State.linkFault
  exact (kept_boltFault h _ _ _ _ _)

theorem kept_refill {a s : State} (h : Kept a s) (x1 : ℕ) :
    Kept a (State.refill s x1) := by
  unfold State.refill
  exact (Kept.upd h)

theorem kept_execPauseRx {a s : State} (h : Kept a s) (x0 : Fin 8) (x1 : BitVec 504) :
    KeptStep a (execPauseRx x0 x1 s) := by
  unfold execPauseRx
  exact (KeptStep.next (kept_ifBolt h _ (fun _ h100 => (Kept.ite (kept_setPort h100 _ _) h100))))

theorem kept_execEccArm {a s : State} (h : Kept a s) (x0 : Requester) (x1 : Word) :
    KeptStep a (execEccArm x0 x1 s) := by
  unfold execEccArm
  exact (KeptStep.next (kept_command h _ _ _ _ (fun _ h100 => (Kept.ite (Kept.upd h100) h100))))

theorem kept_linkLost {a s : State} (h : Kept a s) (x1 : Placement) (x2 : ℕ) :
    Kept a (State.linkLost s x1 x2) := by
  unfold State.linkLost
  exact (by split; exact h; exact (kept_linkFault (kept_each (kept_dropUnstarted (kept_eccUncorr (kept_failCells h _)) _ _) _ _ (fun _ _ h102 => (by split; exact (kept_dropCopy (kept_countEcc h102 _ _) _ _); exact h102))) _ _))

theorem kept_dropStopped {a s : State} (h : Kept a s) (x1 : List Copy) (x2 : ℕ) :
    Kept a (State.dropStopped s x1 x2) := by
  unfold State.dropStopped
  exact (kept_each h _ _ (fun _ _ h100 => (kept_refuseFrame h100 _ _)))

theorem kept_execResidueExpiry {a s : State} (h : Kept a s) :
    KeptStep a (execResidueExpiry s) := by
  unfold execResidueExpiry
  exact (KeptStep.next (kept_ifBolt h _ (fun _ h100 => (kept_each h100 _ _ (fun _ _ h101 => (kept_residueExpiry h101 _))))))

theorem kept_setReserve {a s : State} (h : Kept a s) (x1 : ℕ) (x2 : Word) :
    Kept a (State.setReserve s x1 x2) := by
  unfold State.setReserve
  exact (kept_growTo (kept_sets h _) _ _)

theorem kept_setLanding {a s : State} (h : Kept a s) (x1 : ℕ) (x2 : Word) :
    Kept a (State.setLanding s x1 x2) := by
  unfold State.setLanding
  exact (Kept.ite (kept_setPort (kept_growTo (kept_set h _ _) _ _) _ _) (kept_growTo (kept_set h _ _) _ _))

theorem kept_sendFray {a s : State} (h : Kept a s) (x1 : ℕ) (x2 : Hdr) (x3 : ℕ) (x4 : ℕ) (x5 : ℕ) (x6 : ℕ) :
    Kept a (State.sendFray s x1 x2 x3 x4 x5 x6) := by
  unfold State.sendFray
  exact (Kept.ite (kept_sendStitch h _ _ _) (kept_emit h _))

theorem kept_switchPortUp {a s : State} (h : Kept a s) (x1 : ℕ) :
    Kept a (State.switchPortUp s x1) := by
  unfold State.switchPortUp
  exact (kept_setPort h _ _)

theorem kept_frayFrame {a s : State} (h : Kept a s) (x1 : ℕ) (x2 : ℕ) (x3 : ℕ) (x4 : ℕ) :
    Kept a (State.frayFrame s x1 x2 x3 x4) := by
  unfold State.frayFrame
  exact (by split; exact h; exact (kept_each (kept_mapStored h _ _) _ _ (fun _ _ h102 => (Kept.ite (kept_endCopy (kept_wireFree (kept_sat (kept_sendFray h102 _ _ _ _ _ _) _ _) _) _ _ _) (kept_dropCopy h102 _ _)))))

theorem kept_switchTrunkDown {a s : State} (h : Kept a s) (x1 : ℕ) :
    Kept a (State.switchTrunkDown s x1) := by
  unfold State.switchTrunkDown
  exact (kept_setPort (kept_each (by split; exact (kept_endCopy (kept_sat h _ _) _ _ _); exact h) _ _ (fun _ _ h102 => (Kept.ite (kept_each h102 _ _ (fun _ _ h103 => (kept_dropCopy (kept_sat h103 _ _) _ _))) h102))) _ _)

theorem kept_moveQueue {a s : State} (h : Kept a s) (x1 : ℕ) (x2 : ℕ) (x3 : ℕ) :
    Kept a (State.moveQueue s x1 x2 x3) := by
  unfold State.moveQueue
  exact (kept_each h _ _ (fun _ _ h100 => (kept_each h100 _ _ (fun _ _ h101 => (kept_append (kept_mapCopy (kept_unqueue h101 _ _) _ _ _) _ _)))))

theorem kept_progressError {a s : State} (h : Kept a s) (x1 : ℕ) (x2 : ℕ) (x3 : ℕ) (x4 : Stored) :
    Kept a (State.progressError s x1 x2 x3 x4) := by
  unfold State.progressError
  exact (kept_dropUnstarted (kept_endCopy (kept_wireFree (kept_sendFray (kept_frayMade h _ _) _ _ _ _ _ _) _) _ _ _) _ _)

theorem kept_store {a s : State} (h : Kept a s) (x1 : Stored) :
    Kept a (State.store s x1) := by
  unfold State.store
  exact (by (try dsimp -iota only); split; exact (kept_checkFree (kept_each (kept_count (kept_charge (Kept.ite (Kept.upd h) (kept_set (Kept.upd h) _ _)) _ _) _ _) _ _ (fun _ _ h101 => (kept_append h101 _ _)))))

end Sys2Proof.Machine
end

