-- ==== Sys2Proof/Laws/KeptSched.lean ====
section
/-! SUPPORT. What the operations of Machine/Sched.lean keep. -/

namespace Sys2Proof.Machine

set_option Elab.async false
set_option linter.unusedTactic false

theorem kept_giveBack {a s : State} (h : Kept a s) (x1 : ℕ) (x2 : List Placement) :
    Kept a (State.giveBack s x1 x2) := by
  unfold State.giveBack
  exact (kept_each (kept_mapPsch h _ _) _ _ (fun _ _ h100 => (by (try dsimp -iota only); split; exact (Kept.ite (by split; exact (kept_mapEntry (kept_mapStored (kept_activate (kept_mapCopy (kept_mapQueue h100 _ _) _ _ _) _) _ _) _ _)) (kept_activate (kept_mapCopy (kept_mapQueue h100 _ _) _ _ _) _)); exact (kept_activate (kept_mapCopy (kept_mapQueue h100 _ _) _ _ _) _))))

theorem kept_settle {a s : State} (h : Kept a s) (x1 : ℕ) :
    Kept a (State.settle s x1) := by
  unfold State.settle
  exact (Kept.ite (kept_mapPsch h _ _) (kept_sat (kept_giveBack (kept_mapPsch h _ _) _ _) _ _))

theorem kept_setRate {a s : State} (h : Kept a s) (x1 : ℕ) (x2 : ℕ) :
    Kept a (State.setRate s x1 x2) := by
  unfold State.setRate
  exact (Kept.ite (kept_settle (kept_mapPsch (kept_set h _ _) _ _) _) (kept_set h _ _))

theorem kept_rotate {a s : State} (h : Kept a s) (x1 : ℕ) (x2 : ℕ) :
    Kept a (State.rotate s x1 x2) := by
  unfold State.rotate
  exact (kept_mapPsch h _ _)

theorem kept_guardHold {a s : State} (h : Kept a s) (x1 : ℕ) (x2 : ℕ) (x3 : ℕ) :
    Kept a (State.guardHold s x1 x2 x3) := by
  unfold State.guardHold
  exact (by split; exact h; exact (Kept.ite (kept_mapCopy (kept_sat h _ _) _ _ _) h))

theorem kept_place {a s : State} (h : Kept a s) (x1 : ℕ) (x2 : ℕ) (x3 : ℕ) (x4 : ℕ) (x5 : ℕ) (x6 : ℕ) (x7 : ℕ) (x8 : ℕ) (x9 : ℕ) :
    Kept a (State.place s x1 x2 x3 x4 x5 x6 x7 x8 x9) := by
  unfold State.place
  exact (kept_activate (kept_mapQueue (kept_mapCopy (by split; exact (Kept.ite (kept_mapPsch (Kept.upd h) _ _) (kept_mapEntry (kept_mapStored (kept_mapPsch (Kept.upd h) _ _) _ _) _ _)); exact (kept_mapPsch (Kept.upd h) _ _)) _ _ _) _ _) _)

theorem kept_serve {a s : State} (h : Kept a s) (p c cyc t n k : Nat) : Kept a (s.serve p c cyc t n k).1 := by
  induction n generalizing s k with
  | zero => exact h
  | succ n ih =>
    unfold State.serve
    dsimp only
    split
    · exact h
    · refine Kept.ite1 h ?_
      split
      · exact ih (kept_rotate h _ _) _
      · refine Kept.ite1 (ih (kept_rotate (kept_guardHold h _ _ _) _ _) _) (Kept.ite1 (Kept.ite1 ?_ ?_) ?_)
        · exact kept_place h _ _ _ _ _ _ _ _ _
        · exact ih (kept_rotate h _ _) _
        · exact ih (kept_mapPsch (kept_mapQueue h _ _) _ _) _

theorem kept_serveClasses {a s : State} (h : Kept a s) (p cyc t : Nat) (l : List Nat) :
    Kept a (s.serveClasses p cyc t l).1 := by
  induction l generalizing s with
  | nil => exact h
  | cons c cs ih =>
    unfold State.serveClasses
    refine Kept.ite1 ?_ (ih h)
    split
    · rename_i hq; exact Kept.eq hq (kept_serve h _ _ _ _ _ _)
    · rename_i hq; exact ih (Kept.eq hq (kept_serve h _ _ _ _ _ _))

theorem kept_fill {a s : State} (h : Kept a s) (p cyc n t : Nat) : Kept a (s.fill p cyc n t) := by
  induction n generalizing s t with
  | zero => exact h
  | succ n ih =>
    unfold State.fill
    refine Kept.ite h (Kept.ite (kept_irq (kept_sat h _ _) _ _) ?_)
    split
    · rename_i hq; exact ih (Kept.eq hq (kept_serveClasses h _ _ _ _)) _
    · rename_i hq; exact ih (Kept.eq hq (kept_serveClasses h _ _ _ _)) _

theorem kept_noteList {a s : State} (h : Kept a s) (x1 : ℕ) (x2 : ℕ) :
    Kept a (State.noteList s x1 x2) := by
  unfold State.noteList
  exact (by split; exact (Kept.ite (kept_irq (kept_sat (kept_mapPsch (kept_set h _ _) _ _) _ _) _ _) (kept_mapPsch (kept_set h _ _) _ _)))

theorem kept_buildList {a s : State} (h : Kept a s) (x1 : ℕ) (x2 : ℕ) :
    Kept a (State.buildList s x1 x2) := by
  unfold State.buildList
  exact (kept_mapPsch (kept_fill (kept_noteList h _ _) _ _ _ _) _ _)

theorem kept_buildAll {a s : State} (h : Kept a s) (x1 : ℕ) :
    Kept a (State.buildAll s x1) := by
  unfold State.buildAll
  exact (Kept.ite (kept_each h _ _ (fun _ _ h100 => (kept_buildList h100 _ _))) h)

theorem kept_schOn {a s : State} (h : Kept a s) :
    Kept a (State.schOn s) := by
  unfold State.schOn
  exact (kept_each h _ _ (fun _ _ h100 => (kept_buildAll h100 _)))

theorem kept_rateReview {a s : State} (h : Kept a s) (x1 : List ℕ) :
    Kept a (State.rateReview s x1) := by
  unfold State.rateReview
  exact (kept_each h _ _ (fun _ _ h100 => (Kept.ite h100 (kept_setRate h100 _ _))))

theorem kept_rebuildPorts {a s : State} (h : Kept a s) (x1 : List ℕ) :
    Kept a (State.rebuildPorts s x1) := by
  unfold State.rebuildPorts
  exact (kept_each h _ _ (fun _ _ h100 => (Kept.ite (kept_settle (kept_buildAll h100 _) _) h100)))

theorem kept_undo {a s : State} (h : Kept a s) (x1 : ℕ) (x2 : List ℕ) (x3 : ℕ → Placement → Bool) :
    Kept a (State.undo s x1 x2 x3) := by
  unfold State.undo
  exact (kept_irq (kept_set (Kept.upd (kept_set (kept_sat (by split; exact (kept_sets (kept_each h _ _ (fun _ _ h101 => (kept_giveBack h101 _ _))) _); exact (kept_sets (kept_sat (kept_each h _ _ (fun _ _ h103 => (kept_giveBack h103 _ _))) _ _) _)) _ _) _ _)) _ _) _ _)

theorem kept_preemptStart {a s : State} (h : Kept a s) (x1 : ℕ) :
    Kept a (State.preemptStart s x1) := by
  unfold State.preemptStart
  exact (Kept.ite (Kept.ite (Kept.upd (kept_sets h _)) (kept_rebuildPorts (kept_undo (kept_ntAbandon (kept_irq (Kept.upd (kept_sets h _)) _ _) _) _ _ _) _)) (Kept.upd h))

theorem kept_fillBuckets {a s : State} (h : Kept a s) (x1 : ℕ) :
    Kept a (State.fillBuckets s x1) := by
  unfold State.fillBuckets
  exact (by split; exact (by split; exact (kept_mapEntry h _ _)))

theorem kept_execSampClear {a s : State} (h : Kept a s) (x0 : Requester) (x1 : Word) :
    KeptStep a (execSampClear x0 x1 s) := by
  unfold execSampClear
  exact (KeptStep.next (kept_command h _ _ _ _ (fun _ h100 => (Kept.ite (kept_set (Kept.upd h100) _ _) h100))))

theorem kept_preemptEnd {a s : State} (h : Kept a s) :
    Kept a (State.preemptEnd s) := by
  unfold State.preemptEnd
  exact (Kept.ite (kept_irq (kept_set (Kept.upd h) _ _) _ _) (Kept.upd h))

theorem kept_wireFirst {a s : State} (h : Kept a s) (x1 : ℕ) (x2 : Hdr) :
    Kept a (State.wireFirst s x1 x2) := by
  unfold State.wireFirst
  exact (kept_setPort (kept_readySlot h _) _ _)

theorem kept_pushTo {a s : State} (h : Kept a s) (x1 : ℕ) (x2 : ℕ) :
    Kept a (State.pushTo s x1 x2) := by
  unfold State.pushTo
  exact (by split; exact h; exact (by split; exact h; exact (Kept.ite h (Kept.ite h (kept_setPort (kept_each (Kept.ite (kept_wireFirst h _ _) h) _ _ (fun _ _ h104 => (kept_sendStitch h104 _ _ _))) _ _)))))

theorem kept_pushWire {a s : State} (h : Kept a s) (x1 : ℕ) :
    Kept a (State.pushWire s x1) := by
  unfold State.pushWire
  exact (by split; exact h; exact (by split; exact h; exact (kept_pushTo h _ _)))

theorem kept_wireStart {a s : State} (h : Kept a s) (x1 : ℕ) (x2 : ℕ) (x3 : ℕ) (x4 : ℕ) :
    Kept a (State.wireStart s x1 x2 x3 x4) := by
  unfold State.wireStart
  exact (by split; exact h; exact (kept_pushWire (kept_when (kept_count (kept_count (kept_mapCopy (kept_setPort h _ _) _ _ _) _ _) _ _) _ _ (fun _ h102 => (kept_sat h102 _ _))) _))

theorem kept_execPlacementStart {a s : State} (h : Kept a s) (x0 : Fin 12) :
    KeptStep a (execPlacementStart x0 s) := by
  unfold execPlacementStart
  exact (KeptStep.next (kept_ifBolt h _ (fun _ h100 => (by split; exact h100; exact (Kept.ite h100 (by (try dsimp -iota only); split; exact (kept_mapPsch (kept_showInstant h100 _) _ _); exact (Kept.ite (kept_giveBack (kept_showInstant h100 _) _ _) (Kept.ite (kept_wireStart (kept_mapPsch (kept_showInstant h100 _) _ _) _ _ _ _) (kept_mapCopy (kept_mapPsch (kept_showInstant h100 _) _ _) _ _ _)))))))))

theorem kept_sampleQueue {a s : State} (h : Kept a s) (x1 : ℕ) (x2 : ℕ) :
    Kept a (State.sampleQueue s x1 x2) := by
  unfold State.sampleQueue
  exact (Kept.upd h)

theorem kept_bankReview {a s : State} (h : Kept a s) :
    Kept a (State.bankReview s) := by
  unfold State.bankReview
  exact (Kept.ite h (kept_rebuildPorts (kept_undo h _ _ _) _))

theorem kept_placeLate {a s : State} (h : Kept a s) (x1 : ℕ) :
    Kept a (State.placeLate s x1) := by
  unfold State.placeLate
  exact (Kept.ite h (Kept.ite (kept_irq (kept_sat h _ _) _ _) (by (try dsimp -iota only); split; exact h; exact (by (try dsimp -iota only); split; exact (Kept.ite (kept_guardHold h _ _ _) h); exact (kept_settle (kept_place (Kept.ite (kept_guardHold h _ _ _) h) _ _ _ _ _ _ _ _ _) _)))))

theorem kept_placeQueue {a s : State} (h : Kept a s) (x1 : ℕ) :
    Kept a (State.placeQueue s x1) := by
  unfold State.placeQueue
  exact (kept_each h _ _ (fun _ _ h100 => (kept_placeLate h100 _)))

theorem kept_placePort {a s : State} (h : Kept a s) (x1 : ℕ) :
    Kept a (State.placePort s x1) := by
  unfold State.placePort
  exact (kept_each h _ _ (fun _ _ h100 => (kept_each h100 _ _ (fun _ _ h101 => (kept_placeQueue h101 _)))))

theorem kept_placeAll {a s : State} (h : Kept a s) :
    Kept a (State.placeAll s) := by
  unfold State.placeAll
  exact (kept_each h _ _ (fun _ _ h100 => (kept_placePort h100 _)))

theorem kept_refreshBook {a s : State} (h : Kept a s) (x1 : List ℕ) :
    Kept a (State.refreshBook s x1) := by
  unfold State.refreshBook
  exact (kept_each h _ _ (fun _ _ h100 => (kept_when (kept_set h100 _ _) _ _ (fun _ h101 => (kept_set h101 _ _)))))

theorem kept_polices {a s : State} (h : Kept a s) (x1 : ℕ) (x2 : ℕ) :
    Kept a (State.polices s x1 x2).1 := by
  unfold State.polices
  exact (by split; exact (by (try dsimp -iota only); exact Kept.ite1 (Kept.pair h) (Kept.ite1 (Kept.pair (kept_mapEntry h _ _)) (Kept.pair h))))

theorem kept_sampleAll {a s : State} (h : Kept a s) :
    Kept a (State.sampleAll s) := by
  unfold State.sampleAll
  exact (Kept.ite (kept_each h _ _ (fun _ _ h100 => (kept_each h100 _ _ (fun _ _ h101 => (kept_sampleQueue h101 _ _))))) h)

theorem kept_execCutThroughStart {a s : State} (h : Kept a s) (x0 : Fin 12) :
    KeptStep a (execCutThroughStart x0 s) := by
  unfold execCutThroughStart
  exact (KeptStep.next (kept_ifBolt h _ (fun _ h100 => (Kept.ite h100 (by split; exact h100; exact (by split; exact h100; exact (Kept.ite (kept_wireStart (kept_mapPsch h100 _ _) _ _ _ _) (kept_sat (kept_giveBack (kept_mapCopy h100 _ _ _) _ _) _ _))))))))

theorem kept_rebuilt {a s : State} (h : Kept a s) :
    Kept a (State.rebuilt s) := by
  unfold State.rebuilt
  exact (by split; exact (kept_set (Kept.upd h) _ _); exact h)

theorem kept_buildPort {a s : State} (h : Kept a s) (x1 : ℕ) :
    Kept a (State.buildPort s x1) := by
  unfold State.buildPort
  exact (Kept.ite (by split; exact (kept_buildAll h _); exact (kept_buildList h _ _)) (kept_mapPsch h _ _))

theorem kept_addAllTokens {a s : State} (h : Kept a s) :
    Kept a (State.addAllTokens s) := by
  unfold State.addAllTokens
  exact (kept_each h _ _ (fun _ _ h100 => (by split; exact (by split; exact (kept_mapEntry h100 _ _)))))

theorem kept_fixPlacement {a s : State} (h : Kept a s) (x1 : ℕ) (x2 : ℕ) (x3 : ℕ) (x4 : ℕ) :
    Kept a (State.fixPlacement s x1 x2 x3 x4) := by
  unfold State.fixPlacement
  exact (by split; exact h; exact (Kept.ite h (Kept.ite (kept_linkLost (kept_mapPsch (kept_showInstant h _) _ _) _ _) (kept_egressRead (Kept.ite (kept_sat (kept_mapPsch (kept_showInstant h _) _ _) _ _) (kept_mapPsch (kept_showInstant h _) _ _)) _ _ _))))

end Sys2Proof.Machine
end

