-- ==== Sys2Proof/Laws/KeptEth.lean ====
section
/-! SUPPORT. What the operations of Machine/Eth.lean keep. -/

namespace Sys2Proof.Machine

set_option Elab.async false
set_option linter.unusedTactic false

theorem kept_setMac {a s : State} (h : Kept a s) (x1 : ℕ) (x2 : MacSt) :
    Kept a (State.setMac s x1 x2) := by
  unfold State.setMac
  exact (Kept.upd h)

theorem kept_sendEth {a s : State} (h : Kept a s) (x1 : ℕ) (x2 : List Byte) :
    Kept a (State.sendEth s x1 x2) := by
  unfold State.sendEth
  exact (Kept.ite (kept_emit h _) (kept_setMac h _ _))

theorem kept_showLearn {a s : State} (h : Kept a s) :
    Kept a (State.showLearn s) := by
  unfold State.showLearn
  exact (kept_set h _ _)

theorem kept_learnAddr {a s : State} (h : Kept a s) (x1 : ℕ) (x2 : ℕ) (x3 : ℕ) :
    Kept a (State.learnAddr s x1 x2 x3) := by
  unfold State.learnAddr
  exact (Kept.ite h (by split; exact (Kept.ite (Kept.upd h) (kept_sat (Kept.upd h) _ _)); exact (Kept.ite (kept_irq (kept_sat h _ _) _ _) (kept_showLearn (Kept.upd h)))))

theorem kept_ethEgress {a s : State} (h : Kept a s) (x1 : ℕ) (x2 : Frame) :
    Kept a (State.ethEgress s x1 x2) := by
  unfold State.ethEgress
  exact (by split; exact h; exact (Kept.ite (kept_sat (Kept.ite (kept_learnAddr h _ _ _) h) _ _) (by split; exact (kept_sendEth (Kept.ite (kept_learnAddr h _ _ _) h) _ _); exact (kept_sendEth (Kept.ite (kept_learnAddr h _ _ _) h) _ _))))

theorem kept_macTime {a s : State} (h : Kept a s) (x1 : ℕ) :
    Kept a (State.macTime s x1) := by
  unfold State.macTime
  exact (kept_each h _ _ (fun _ _ h100 => (Kept.ite h100 (Kept.ite (kept_setMac h100 _ _) (kept_each (kept_setMac h100 _ _) _ _ (fun _ _ h101 => (kept_emit h101 _)))))))

end Sys2Proof.Machine
end

