-- ==== Sys2Proof/Laws/KeptTunnel.lean ====
section
/-! SUPPORT. What the operations of Machine/Tunnel.lean keep. -/

namespace Sys2Proof.Machine

set_option Elab.async false
set_option linter.unusedTactic false

theorem kept_feedCopies {a s : State} (h : Kept a s) (x1 : ℕ) (x2 : Ingress) :
    Kept a (State.feedCopies s x1 x2) := by
  unfold State.feedCopies
  exact (by split; exact (kept_each (kept_mapStored h _ _) _ _ (fun _ _ h101 => (kept_pushWire h101 _))); exact h)

theorem kept_deliverDatagram {a s : State} (h : Kept a s) (x1 : ℕ) (x2 : Frame) :
    Kept a (State.deliverDatagram s x1 x2) := by
  unfold State.deliverDatagram
  exact (kept_ethEgress (kept_emit (kept_mapEntry h _ _) _) _ _)

theorem kept_failIngress {a s : State} (h : Kept a s) (x1 : ℕ) (x2 : ℕ) :
    Kept a (State.failIngress s x1 x2) := by
  unfold State.failIngress
  exact (by split; exact h; exact (Kept.ite (kept_frayFrame (kept_frayMade h _ _) _ _ _ _) (kept_each (Kept.ite (kept_sat h _ _) h) _ _ (fun _ _ h102 => (kept_dropCopy h102 _ _)))))

theorem kept_badStitch {a s : State} (h : Kept a s) (x1 : Ingress) (x2 : Bool) :
    Kept a (State.badStitch s x1 x2).1 := by
  unfold State.badStitch
  exact (by split; exact (Kept.ite1 (Kept.pair (kept_failIngress h _ _)) (Kept.pair h)); exact (Kept.pair h))

theorem kept_setIng {a s : State} (h : Kept a s) (x1 : ℕ) (x2 : Option Ingress) :
    Kept a (State.setIng s x1 x2) := by
  unfold State.setIng
  exact (kept_setPort h _ _)

theorem kept_payOwed {a s : State} (h : Kept a s) (x1 : ℕ) (x2 : Ingress) :
    Kept a (State.payOwed s x1 x2) := by
  unfold State.payOwed
  exact (Kept.ite h (kept_grantAdd h _ _ _))

theorem kept_buddyCount {a s : State} (h : Kept a s) (x1 : ℕ) (x2 : ℕ) :
    Kept a (State.buddyCount s x1 x2) := by
  unfold State.buddyCount
  exact (kept_mapEntry h _ _)

theorem kept_countLoss {a s : State} (h : Kept a s) (x1 : ℕ) (x2 : ℕ) :
    Kept a (State.countLoss s x1 x2) := by
  unfold State.countLoss
  exact (Kept.ite h (kept_count h _ _))

theorem kept_seqTrack {a s : State} (h : Kept a s) (x1 : ℕ) (x2 : Hdr) :
    Kept a (State.seqTrack s x1 x2).1 := by
  unfold State.seqTrack
  exact (by (try dsimp -iota only); split; exact (by (try dsimp -iota only); exact Kept.ite1 (Kept.pair (Kept.ite (kept_count (kept_countLoss (kept_mapEntry h _ _) _ _) _ _) (kept_countLoss (kept_mapEntry h _ _) _ _))) (Kept.pair (kept_countLoss (kept_mapEntry h _ _) _ _))))

theorem kept_sinkCheck {a s : State} (h : Kept a s) (x1 : ℕ) (x2 : ℕ) (x3 : Hdr) :
    Kept a (State.sinkCheck s x1 x2 x3) := by
  unfold State.sinkCheck
  exact (Kept.ite (kept_mapEntry h _ _) (by (try dsimp -iota only); split; rename_i hq; have h100 := Kept.eq hq (kept_seqTrack (Kept.ite (kept_buddyCount (kept_mapEntry h _ _) _ _) (kept_mapEntry h _ _)) _ _); exact (Kept.ite h100 (by split; exact (kept_each h100 _ _ (fun _ _ h102 => (kept_dropCopy h102 _ _))); exact h100))))

theorem kept_endIngress {a s : State} (h : Kept a s) (x1 : ℕ) (x2 : Ingress) :
    Kept a (State.endIngress s x1 x2) := by
  unfold State.endIngress
  exact (by (try dsimp -iota only); split; exact (by split; exact (Kept.ite (kept_emit (kept_payOwed (kept_setIng h _ _) _ _) _) (Kept.ite (Kept.ite (kept_sat (kept_payOwed (kept_setIng h _ _) _ _) _ _) (kept_payOwed (kept_setIng h _ _) _ _)) (kept_payOwed (kept_setIng h _ _) _ _))); exact (Kept.ite (kept_failIngress (kept_payOwed (kept_setIng h _ _) _ _) _ _) (Kept.ite (kept_failIngress (kept_irq (Kept.ite (kept_sat (kept_payOwed (kept_setIng h _ _) _ _) _ _) (kept_sat (kept_payOwed (kept_setIng h _ _) _ _) _ _)) _ _) _ _) (Kept.ite (kept_failIngress (kept_payOwed (kept_setIng h _ _) _ _) _ _) (by (try dsimp -iota only); split; exact (kept_mapStored (kept_payOwed (kept_setIng h _ _) _ _) _ _); exact (kept_each (kept_each (Kept.ite (kept_sinkCheck (kept_each (kept_mapStored (kept_payOwed (kept_setIng h _ _) _ _) _ _) _ _ (fun _ _ h105 => (kept_sat h105 _ _))) _ _ _) (kept_each (kept_mapStored (kept_payOwed (kept_setIng h _ _) _ _) _ _) _ _ (fun _ _ h106 => (kept_sat h106 _ _)))) _ _ (fun _ _ h107 => (kept_pushWire h107 _))) _ _ (fun _ _ h108 => (kept_placeQueue h108 _)))))))))

theorem kept_stitchRx {a s : State} (h : Kept a s) (x1 : ℕ) (x2 : RowStitch) :
    Kept a (State.stitchRx s x1 x2) := by
  unfold State.stitchRx
  exact (by split; exact h; exact (by (try dsimp -iota only); split; rename_i hq; have h102 := Kept.eq hq (kept_badStitch (kept_feedCopies (kept_setIng h _ _) _ _) _ _); exact (Kept.ite (kept_endIngress (kept_setIng h102 _ _) _ _) (kept_setIng h102 _ _))))

theorem kept_storeLocal {a s : State} (h : Kept a s) (x1 : Stored) :
    Kept a (State.storeLocal s x1) := by
  unfold State.storeLocal
  exact (kept_each (kept_store (Kept.ite (kept_each h _ _ (fun _ _ h100 => (kept_sat h100 _ _))) h) _) _ _ (fun _ _ h101 => (kept_placeQueue h101 _)))

theorem kept_admitLocal {a s : State} (h : Kept a s) (x1 : ℕ) (x2 : ℕ) (x3 : Frame) (x4 : List ℕ) :
    Kept a (State.admitLocal s x1 x2 x3 x4) := by
  unfold State.admitLocal
  exact (Kept.ite (kept_dropStopped h _ _) (Kept.ite (kept_refuseFrame (kept_dropStopped h _ _) _ _) (Kept.ite (Kept.upd (kept_dropStopped h _ _)) (kept_storeLocal (kept_dropStopped h _ _) _))))

theorem kept_sendAck {a s : State} (h : Kept a s) (x1 : ℕ) :
    Kept a (State.sendAck s x1) := by
  unfold State.sendAck
  exact (kept_admitLocal (kept_mapEntry h _ _) _ _ _ _)

theorem kept_tunnelCycle {a s : State} (h : Kept a s) :
    Kept a (State.tunnelCycle s) := by
  unfold State.tunnelCycle
  exact (kept_each (Kept.upd h) _ _ (fun _ _ h100 => (kept_sendAck h100 _)))

theorem kept_noteHolds {a s : State} (h : Kept a s) :
    Kept a (State.noteHolds s) := by
  unfold State.noteHolds
  exact (kept_set h _ _)

theorem kept_switchPath {a s : State} (h : Kept a s) (x1 : ℕ) (x2 : ℕ) (x3 : ℕ) (x4 : ℕ) :
    Kept a (State.switchPath s x1 x2 x3 x4) := by
  unfold State.switchPath
  exact (kept_noteHolds (kept_each (kept_mapEntry h _ _) _ _ (fun _ _ h100 => (kept_deliverDatagram h100 _ _))))

theorem kept_execKnotTimeout {a s : State} (h : Kept a s) (x0 : Fin 1024) (x1 : Fin 64) :
    KeptStep a (execKnotTimeout x0 x1 s) := by
  unfold execKnotTimeout
  exact (KeptStep.next (kept_ifBolt h _ (fun _ h100 => (by split; exact h100; exact (Kept.ite h100 (kept_irq (kept_count (kept_switchPath (kept_mapEntry h100 _ _) _ _ _ _) _ _) _ _))))))

theorem kept_sendData {a s : State} (h : Kept a s) (x1 : ℕ) (x2 : Frame) :
    Kept a (State.sendData s x1 x2) := by
  unfold State.sendData
  exact (Kept.ite (kept_sat h _ _) (kept_admitLocal (Kept.ite (kept_mapEntry h _ _) h) _ _ _ _))

theorem kept_policeSource {a s : State} (h : Kept a s) (x1 : ℕ) (x2 : Frame) :
    Kept a (State.policeSource s x1 x2) := by
  unfold State.policeSource
  exact (Kept.ite (kept_mapEntry h _ _) (by split; rename_i hq; have h100 := Kept.eq hq (kept_polices h _ _); exact (kept_sendData h100 _ _); rename_i hq; have h101 := Kept.eq hq (kept_polices h _ _); exact (by split; exact (Kept.ite (Kept.ite (kept_mapEntry h101 _ _) (kept_sendData (kept_mapEntry h101 _ _) _ _)) (kept_mapEntry h101 _ _)))))

theorem kept_holdCells {a s : State} (h : Kept a s) (x1 : ℕ) (x2 : Frame) :
    Kept a (State.holdCells s x1 x2) := by
  unfold State.holdCells
  exact (Kept.ite h (by split; exact (kept_checkFree (kept_charge (Kept.upd h) _ _))))

theorem kept_crossSeam {a s : State} (h : Kept a s) (x1 : Die) (x2 : Frame) :
    Kept a (State.crossSeam s x1 x2) := by
  unfold State.crossSeam
  exact (kept_each h _ _ (fun _ _ h100 => (kept_sendFlit h100 _ _ _ _)))

theorem kept_sourceFrameTo {a s : State} (h : Kept a s) (x1 : ℕ) (x2 : ℕ) (x3 : ℕ) (x4 : List Byte) (x5 : Bool) (x6 : ℕ) :
    Kept a (State.sourceFrameTo s x1 x2 x3 x4 x5 x6) := by
  unfold State.sourceFrameTo
  exact (Kept.ite (Kept.ite (kept_sat h _ _) h) (Kept.ite (kept_sat (Kept.ite (kept_crossSeam (kept_mapEntry h _ _) _ _) (kept_mapEntry h _ _)) _ _) (kept_policeSource (Kept.ite (kept_crossSeam (kept_mapEntry h _ _) _ _) (kept_mapEntry h _ _)) _ _)))

theorem kept_freeHeld {a s : State} (h : Kept a s) (x1 : ℕ) (x2 : List ℕ) :
    Kept a (State.freeHeld s x1 x2) := by
  unfold State.freeHeld
  exact (kept_each h _ _ (fun _ _ h100 => (kept_freeFrame h100 _)))

theorem kept_dataRx {a s : State} (h : Kept a s) (x1 : Frame) :
    Kept a (State.dataRx s x1) := by
  unfold State.dataRx
  exact (by split; exact h; exact (Kept.ite h (Kept.ite (by split; exact (Kept.ite (kept_sendAck (kept_each (kept_freeHeld (kept_mapEntry (kept_mapEntry h _ _) _ _) _ _) _ _ (fun _ _ h103 => (kept_emit h103 _))) _) (kept_each (kept_freeHeld (kept_mapEntry (kept_mapEntry h _ _) _ _) _ _) _ _ (fun _ _ h104 => (kept_emit h104 _))))) (Kept.ite (kept_sendAck (Kept.ite (kept_mapEntry h _ _) (kept_holdCells (kept_mapEntry (kept_mapEntry h _ _) _ _) _ _)) _) (Kept.ite (kept_sendAck (kept_count (kept_mapEntry h _ _) _ _) _) (kept_count h _ _))))))

theorem kept_execReliableDataRx {a s : State} (h : Kept a s) (x0 : Frame) :
    KeptStep a (execReliableDataRx x0 s) := by
  unfold execReliableDataRx
  exact (KeptStep.next (kept_ifBolt h _ (fun _ h100 => (kept_dataRx h100 _))))

theorem kept_streamSink {a s : State} (h : Kept a s) (i : Nat) (x : Hdr) : Kept a (s.streamSink i x).1 := by
  unfold State.streamSink
  extract_lets pc
  split
  · exact kept_count h _ _
  · split
    · exact kept_count h _ _
    · exact h

theorem kept_cutIngress {a s : State} (h : Kept a s) (x1 : ℕ) :
    Kept a (State.cutIngress s x1) := by
  unfold State.cutIngress
  exact (by split; exact h; exact (by split; exact (kept_payOwed (kept_setIng (kept_failIngress h _ _) _ _) _ _); exact (kept_payOwed (kept_setIng h _ _) _ _)))

theorem kept_frayRx {a s : State} (h : Kept a s) (x1 : ℕ) (x2 : RowStitch) :
    Kept a (State.frayRx s x1 x2) := by
  unfold State.frayRx
  exact (by (try dsimp -iota only); split; exact (Kept.ite (kept_sat (kept_setPort h _ _) _ _) (kept_setPort h _ _)); exact (Kept.ite (kept_cutIngress (kept_setPort h _ _) _) (by (try dsimp -iota only); split; exact (kept_sat (kept_payOwed (kept_setIng (kept_setPort h _ _) _ _) _ _) _ _); exact (by split; exact (kept_payOwed (kept_setIng (kept_setPort h _ _) _ _) _ _); exact (Kept.ite (kept_each (Kept.ite (kept_sat (Kept.ite (kept_sat (kept_payOwed (kept_setIng (kept_setPort h _ _) _ _) _ _) _ _) (kept_payOwed (kept_setIng (kept_setPort h _ _) _ _) _ _)) _ _) (Kept.ite (kept_sat (kept_payOwed (kept_setIng (kept_setPort h _ _) _ _) _ _) _ _) (kept_payOwed (kept_setIng (kept_setPort h _ _) _ _) _ _))) _ _ (fun _ _ h106 => (kept_dropCopy h106 _ _))) (kept_frayFrame (Kept.ite (kept_sat (Kept.ite (kept_sat (kept_payOwed (kept_setIng (kept_setPort h _ _) _ _) _ _) _ _) (kept_payOwed (kept_setIng (kept_setPort h _ _) _ _) _ _)) _ _) (Kept.ite (kept_sat (kept_payOwed (kept_setIng (kept_setPort h _ _) _ _) _ _) _ _) (kept_payOwed (kept_setIng (kept_setPort h _ _) _ _) _ _))) _ _ _ _))))))

theorem kept_resend {a s : State} (h : Kept a s) (x1 : ℕ) (x2 : ℕ) :
    Kept a (State.resend s x1 x2) := by
  unfold State.resend
  exact (Kept.ite h (Kept.ite (kept_tunnelDead (kept_eccUncorr (kept_failCells h _)) _) (by split; exact h; exact (by (try dsimp -iota only); split; exact (Kept.ite (kept_each (kept_mapStored (kept_count h _ _) _ _) _ _ (fun _ _ h103 => (kept_placeQueue (kept_append h103 _ _) _))) h); exact (kept_admitLocal (kept_count h _ _) _ _ _ _)))))

theorem kept_retransmit {a s : State} (h : Kept a s) (x1 : ℕ) (x2 : ℕ) :
    Kept a (State.retransmit s x1 x2) := by
  unfold State.retransmit
  exact (Kept.ite h (Kept.ite (kept_tunnelDead (kept_eccUncorr (kept_failCells h _)) _) (Kept.ite (kept_tunnelDead (kept_mapEntry h _ _) _) (kept_each (kept_mapEntry h _ _) _ _ (fun _ _ h100 => (kept_resend h100 _ _))))))

theorem kept_discardCredit {a s : State} (h : Kept a s) (x1 : ℕ) (x2 : ℕ) (x3 : ℕ) :
    Kept a (State.discardCredit s x1 x2 x3) := by
  unfold State.discardCredit
  exact (Kept.ite (kept_grantAdd h _ _ _) h)

theorem kept_admitIngress {a s : State} (h : Kept a s) (x1 : ℕ) (x2 : ℕ) (x3 : Ingress) (x4 : List ℕ) :
    Kept a (State.admitIngress s x1 x2 x3 x4) := by
  unfold State.admitIngress
  exact (Kept.ite (kept_setIng (Kept.ite h (kept_dropStopped h _ _)) _ _) (Kept.ite (kept_setIng (kept_refuseFrame (Kept.ite h (kept_dropStopped h _ _)) _ _) _ _) (Kept.ite (kept_setIng (Kept.ite h (kept_dropStopped h _ _)) _ _) (kept_each (kept_setIng (kept_store (Kept.ite h (kept_dropStopped h _ _)) _) _ _) _ _ (fun _ _ h100 => (kept_placeQueue h100 _))))))

theorem kept_checkHeader {a s : State} (h : Kept a s) (x1 : ℕ) (x2 : Ingress) :
    Kept a (State.checkHeader s x1 x2) := by
  unfold State.checkHeader
  exact (Kept.ite (kept_setIng (kept_discardCredit (kept_sat h _ _) _ _ _) _ _) (Kept.ite (kept_setIng (kept_discardCredit (kept_sat h _ _) _ _ _) _ _) (Kept.ite (kept_setIng (kept_discardCredit (kept_sat h _ _) _ _ _) _ _) (Kept.ite (kept_setIng h _ _) (Kept.ite (Kept.ite (kept_admitIngress h _ _ _ _) (Kept.ite (kept_admitIngress h _ _ _ _) (kept_setIng (kept_discardCredit h _ _ _) _ _))) (by split; exact (kept_setIng (kept_discardCredit (kept_sat h _ _) _ _ _) _ _); exact (Kept.ite (kept_setIng (kept_discardCredit (kept_sat h _ _) _ _ _) _ _) (by (try dsimp -iota only); split; rename_i hq; have h102 := Kept.eq hq (Kept.ite1 (Kept.pair (Kept.ite h (kept_sat h _ _))) (kept_polices (Kept.ite h (kept_sat h _ _)) _ _)); exact (by split; exact (Kept.ite (kept_setIng (kept_discardCredit (kept_mapEntry h102 _ _) _ _ _) _ _) (by (try dsimp -iota only); split; exact (by split; exact (Kept.ite (kept_setIng (kept_discardCredit (kept_sat (Kept.ite (kept_sat (Kept.ite h102 (kept_mapEntry h102 _ _)) _ _) (Kept.ite h102 (kept_mapEntry h102 _ _))) _ _) _ _ _) _ _) (Kept.ite (kept_setIng (kept_discardCredit (Kept.ite (kept_sat (Kept.ite h102 (kept_mapEntry h102 _ _)) _ _) (Kept.ite h102 (kept_mapEntry h102 _ _))) _ _ _) _ _) (kept_admitIngress (Kept.ite (kept_sat (Kept.ite h102 (kept_mapEntry h102 _ _)) _ _) (Kept.ite h102 (kept_mapEntry h102 _ _))) _ _ _ _)))))))))))))))

theorem kept_advanceUna {a s : State} (h : Kept a s) (x1 : ℕ) (x2 : ℕ) :
    Kept a (State.advanceUna s x1 x2) := by
  unfold State.advanceUna
  exact (kept_each (kept_mapEntry h _ _) _ _ (fun _ _ h100 => (by split; exact (Kept.ite (kept_freeFrame h100 _) h100); exact h100)))

theorem kept_startHunt {a s : State} (h : Kept a s) (x1 : ℕ) :
    Kept a (State.startHunt s x1) := by
  unfold State.startHunt
  exact (kept_irq (kept_sat (kept_setPort h _ _) _ _) _ _)

theorem kept_frameRx {a s : State} (h : Kept a s) (x1 : ℕ) (x2 : ℕ) (x3 : RowStitch) :
    Kept a (State.frameRx s x1 x2 x3) := by
  unfold State.frameRx
  exact (Kept.ite h (Kept.ite h (Kept.ite (kept_startHunt (kept_sat h _ _) _) (Kept.ite (kept_startHunt (kept_sat h _ _) _) (by (try dsimp -iota only); split; exact (Kept.ite (kept_endIngress (kept_checkHeader (kept_recvAdd h _ _ _) _ _) _ _) (kept_checkHeader (kept_recvAdd h _ _ _) _ _)); exact (kept_checkHeader (kept_recvAdd h _ _ _) _ _))))))

theorem kept_datagramRx {a s : State} (h : Kept a s) (x1 : Frame) :
    Kept a (State.datagramRx s x1) := by
  unfold State.datagramRx
  exact (by split; exact h; exact (Kept.ite h (Kept.ite (kept_deliverDatagram (kept_mapEntry h _ _) _ _) (Kept.ite (kept_deliverDatagram h _ _) (by split; exact (kept_mapEntry h _ _); exact (Kept.ite (kept_count h _ _) (Kept.ite (kept_irq (kept_sat (kept_deliverDatagram h _ _) _ _) _ _) (kept_noteHolds (kept_mapEntry h _ _)))))))))

theorem kept_execDatagramRx {a s : State} (h : Kept a s) (x0 : Frame) :
    KeptStep a (execDatagramRx x0 s) := by
  unfold execDatagramRx
  exact (KeptStep.next (kept_ifBolt h _ (fun _ h100 => (kept_datagramRx h100 _))))

theorem kept_retryLocal {a s : State} (h : Kept a s) (x1 : Option ℕ) :
    Kept a (State.retryLocal s x1) := by
  unfold State.retryLocal
  exact (kept_each h _ _ (fun _ _ h100 => (Kept.ite (kept_storeLocal (Kept.upd h100) _) h100)))

theorem kept_sendKnot {a s : State} (h : Kept a s) (x1 : ℕ) (x2 : ℕ) (x3 : ℕ) (x4 : ℕ) (x5 : ℕ) :
    Kept a (State.sendKnot s x1 x2 x3 x4 x5) := by
  unfold State.sendKnot
  exact (kept_count (kept_sat (kept_admitLocal (kept_mapEntry h _ _) _ _ _ _) _ _) _ _)

theorem kept_repin {a s : State} (h : Kept a s) (x1 : ℕ) (x2 : ℕ) (x3 : ℕ) (x4 : ℕ) (x5 : ℕ) :
    Kept a (State.repin s x1 x2 x3 x4 x5) := by
  unfold State.repin
  exact (Kept.ite (kept_sendKnot h _ _ _ _ _) (kept_irq (kept_sat h _ _) _ _))

theorem kept_sourceFrame {a s : State} (h : Kept a s) (x1 : ℕ) (x2 : ℕ) (x3 : ℕ) (x4 : List Byte) (x5 : Bool) :
    Kept a (State.sourceFrame s x1 x2 x3 x4 x5) := by
  unfold State.sourceFrame
  exact (kept_sourceFrameTo h _ _ _ _ _ _)

theorem kept_retryIngress {a s : State} (h : Kept a s) (x1 : ℕ) :
    Kept a (State.retryIngress s x1) := by
  unfold State.retryIngress
  exact (by split; exact (Kept.ite (by (try dsimp -iota only); split; exact (Kept.ite (kept_endIngress (kept_admitIngress h _ _ _ _) _ _) (kept_admitIngress h _ _ _ _)); exact (kept_admitIngress h _ _ _ _)) h); exact h)

theorem kept_refillAll {a s : State} (h : Kept a s) (x1 : ℕ) :
    Kept a (State.refillAll s x1) := by
  unfold State.refillAll
  exact (kept_retryLocal (kept_each (kept_refill h _) _ _ (fun _ _ h100 => (kept_retryIngress h100 _))) _)

theorem kept_retryWaiting {a s : State} (h : Kept a s) (x1 : ℕ) :
    Kept a (State.retryWaiting s x1) := by
  unfold State.retryWaiting
  exact (kept_each h _ _ (fun _ _ h100 => (by split; exact h100; exact (Kept.ite (by split; rename_i hq; have h103 := Kept.eq hq (kept_polices h100 _ _); exact (kept_sendData (kept_mapEntry h103 _ _) _ _); rename_i hq; have h104 := Kept.eq hq (kept_polices h100 _ _); exact (Kept.ite h104 (kept_mapEntry h104 _ _))) h100))))

theorem kept_execTokenAdd {a s : State} (h : Kept a s) :
    KeptStep a (execTokenAdd s) := by
  unfold execTokenAdd
  exact (KeptStep.next (kept_ifBolt h _ (fun _ h100 => (kept_rebuilt (kept_placeAll (kept_each (kept_refillAll (kept_addAllTokens (Kept.upd (kept_showInstant h100 _))) _) _ _ (fun _ _ h101 => (kept_retryWaiting h101 _))))))))

theorem kept_frameIn {a s : State} (h : Kept a s) (x1 : ℕ) (x2 : ℕ) (x3 : RowStitch) :
    Kept a (State.frameIn s x1 x2 x3) := by
  unfold State.frameIn
  exact (Kept.ite (kept_stitchRx h _ _) (kept_frameRx h _ _ _))

theorem kept_execProgressTimer {a s : State} (h : Kept a s) (x0 : ℕ) :
    KeptStep a (execProgressTimer x0 s) := by
  unfold execProgressTimer
  exact (KeptStep.next (kept_ifBolt h _ (fun _ h100 => (Kept.ite h100 (kept_each h100 _ _ (fun _ _ h101 => (kept_deliveryRecord h101 _ _)))))))

theorem kept_execReadyListAdmit {a s : State} (h : Kept a s) (x0 : Fin 12) (x1 : ℕ) :
    KeptStep a (execReadyListAdmit x0 x1 s) := by
  unfold execReadyListAdmit
  exact (KeptStep.next (kept_ifBolt h _ (fun _ h100 => (kept_retryLocal (kept_retryIngress (kept_refill h100 _) _) _))))

theorem kept_datagramKnot {a s : State} (h : Kept a s) (x1 : ℕ) (x2 : Frame) :
    Kept a (State.datagramKnot s x1 x2) := by
  unfold State.datagramKnot
  exact (Kept.ite (kept_count h _ _) (kept_each (kept_countLoss (kept_mapEntry h _ _) _ _) _ _ (fun _ _ h100 => (kept_switchPath h100 _ _ _ _))))

theorem kept_knotRx {a s : State} (h : Kept a s) (x1 : Frame) :
    Kept a (State.knotRx s x1) := by
  unfold State.knotRx
  exact (by split; exact h; exact (Kept.ite h (Kept.ite (kept_datagramKnot (kept_mapEntry (kept_count h _ _) _ _) _ _) (Kept.ite (Kept.ite (kept_sendAck (kept_mapEntry (kept_count h _ _) _ _) _) (kept_mapEntry (kept_count h _ _) _ _)) (kept_mapEntry (kept_count h _ _) _ _)))))

theorem kept_execKnotRx {a s : State} (h : Kept a s) (x0 : Frame) :
    KeptStep a (execKnotRx x0 s) := by
  unfold execKnotRx
  exact (KeptStep.next (kept_ifBolt h _ (fun _ h100 => (kept_knotRx h100 _))))

theorem kept_ackRx {a s : State} (h : Kept a s) (x1 : Frame) :
    Kept a (State.ackRx s x1) := by
  unfold State.ackRx
  exact (by split; exact h; exact (Kept.ite h (Kept.ite (Kept.ite (kept_mapEntry (Kept.ite (kept_advanceUna h _ _) h) _ _) (Kept.ite (kept_advanceUna h _ _) h)) (kept_each (kept_mapEntry (Kept.ite (kept_mapEntry (Kept.ite (kept_advanceUna h _ _) h) _ _) (Kept.ite (kept_advanceUna h _ _) h)) _ _) _ _ (fun _ _ h102 => (kept_resend h102 _ _))))))

end Sys2Proof.Machine
end

