-- ==== Sys2Proof/Laws/KeptAllot.lean ====
section
/-! SUPPORT. What the operations of Machine/Allot.lean keep. -/

namespace Sys2Proof.Machine

set_option Elab.async false
set_option linter.unusedTactic false

theorem kept_cancelled {a s : State} (h : Kept a s) (x1 : ℕ) (x2 : Change) :
    Kept a (State.cancelled s x1 x2) := by
  unfold State.cancelled
  exact (kept_altRecord (kept_irq (kept_sat h _ _) _ _) _ _ _ _ _)

theorem kept_changesMoved {a s : State} (h : Kept a s) :
    Kept a (State.changesMoved s) := by
  unfold State.changesMoved
  exact (kept_bankReview (kept_showPending h))

theorem kept_markNode {a s : State} (h : Kept a s) (x1 : ℕ → Fld) (x2 : ℕ) (x3 : Bool) :
    Kept a (State.markNode s x1 x2 x3) := by
  unfold State.markNode
  exact (Kept.ite h (kept_set h _ _))

theorem kept_noteReport {a s : State} (h : Kept a s) (x1 : ℕ) (x2 : ℕ) (x3 : ℕ) :
    Kept a (State.noteReport s x1 x2 x3) := by
  unfold State.noteReport
  exact (Kept.ite (kept_sat h _ _) (Kept.ite (kept_irq (kept_markNode h _ _ _) _ _) (Kept.ite (kept_irq (kept_irq (kept_markNode h _ _ _) _ _) _ _) (kept_irq (kept_markNode h _ _ _) _ _))))

theorem kept_originate {a s : State} (h : Kept a s) (x1 : Frame) (x2 : List ℕ) :
    Kept a (State.originate s x1 x2) := by
  unfold State.originate
  exact (kept_each (Kept.upd h) _ _ (fun _ _ h100 => (kept_sendCl7 h100 _ _)))

theorem kept_sendRing {a s : State} (h : Kept a s) (x1 : ℕ) (x2 : ℕ) (x3 : Bool) (x4 : Bool) (x5 : List Byte) :
    Kept a (State.sendRing s x1 x2 x3 x4 x5) := by
  unfold State.sendRing
  exact (Kept.ite h (kept_originate h _ _))

theorem kept_sendAlt {a s : State} (h : Kept a s) (x1 : ℕ) (x2 : List Byte) :
    Kept a (State.sendAlt s x1 x2) := by
  unfold State.sendAlt
  exact (kept_sendRing h _ _ _ _ _)

theorem kept_report {a s : State} (h : Kept a s) (x1 : ℕ) (x2 : ℕ) (x3 : ℕ) :
    Kept a (State.report s x1 x2 x3) := by
  unfold State.report
  exact (Kept.ite (kept_noteReport h _ _ _) (kept_sendAlt h _ _))

theorem kept_setAlarmUnpick {a s : State} (h : Kept a s) (x1 : Option Change) :
    Kept a (State.setAlarmUnpick s x1) := by
  unfold State.setAlarmUnpick
  exact (Kept.upd h)

theorem kept_acceptUnpick {a s : State} (h : Kept a s) (x1 : ℕ) (x2 : ℕ) (x3 : ℕ) (x4 : ℕ) :
    Kept a (State.acceptUnpick s x1 x2 x3 x4) := by
  unfold State.acceptUnpick
  exact (kept_changesMoved (kept_altRecord (kept_report (Kept.ite (Kept.upd h) (kept_setAlarmUnpick h _)) _ _ _) _ _ _ _ _))

theorem kept_preemptFor {a s : State} (h : Kept a s) (x1 : ℕ) (x2 : ℕ) :
    Kept a (State.preemptFor s x1 x2) := by
  unfold State.preemptFor
  exact (Kept.upd (kept_preemptStart h _))

theorem kept_dropUnpick {a s : State} (h : Kept a s) (x1 : ℕ) :
    Kept a (State.dropUnpick s x1) := by
  unfold State.dropUnpick
  exact (by split; exact (Kept.ite (kept_report (kept_cancelled (Kept.upd h) _ _) _ _ _) h); exact h)

theorem kept_dropSew {a s : State} (h : Kept a s) (x1 : ℕ) :
    Kept a (State.dropSew s x1) := by
  unfold State.dropSew
  exact (by split; exact (Kept.ite (kept_report (kept_cancelled (Kept.upd h) _ _) _ _ _) h); exact h)

theorem kept_acceptAlarm {a s : State} (h : Kept a s) (x1 : ℕ) (x2 : ℕ) (x3 : ℕ) :
    Kept a (State.acceptAlarm s x1 x2 x3) := by
  unfold State.acceptAlarm
  exact (kept_changesMoved (kept_dropUnpick (kept_dropSew (kept_altRecord (Kept.ite (kept_report (Kept.upd (kept_ntAbandon (kept_preemptFor h _ _) _)) _ _ _) (kept_report (kept_sat (Kept.upd (kept_ntAbandon (kept_preemptFor h _ _) _)) _ _) _ _ _)) _ _ _ _ _) _) _))

theorem kept_setAgain {a s : State} (h : Kept a s) (x1 : Option Change) :
    Kept a (State.setAgain s x1) := by
  unfold State.setAgain
  exact (Kept.upd h)

theorem kept_unpickAlarm {a s : State} (h : Kept a s) (x1 : ℕ) (x2 : ℕ) (x3 : ℕ) :
    Kept a (State.unpickAlarm s x1 x2 x3) := by
  unfold State.unpickAlarm
  exact (by split; exact (Kept.ite (kept_changesMoved (kept_report (kept_preemptEnd (kept_cancelled (kept_altRecord (Kept.upd h) _ _ _ _ _) _ _)) _ _ _)) (kept_acceptUnpick h _ _ _ _)); exact (by split; exact (Kept.ite (kept_cancelled (kept_report h _ _ _) _ _) (kept_acceptAlarm (kept_setAgain (kept_acceptUnpick h _ _ _ _) _) _ _ _)); exact (kept_acceptUnpick h _ _ _ _)))

theorem kept_cmdResult {a s : State} (h : Kept a s) (x1 : ℕ) (x2 : ℕ) :
    Kept a (State.cmdResult s x1 x2) := by
  unfold State.cmdResult
  exact (kept_sets h _)

theorem kept_unpickLost {a s : State} (h : Kept a s) (x1 : ℕ) (x2 : ℕ) (x3 : ℕ) :
    Kept a (State.unpickLost s x1 x2 x3) := by
  unfold State.unpickLost
  exact (kept_cancelled (kept_report h _ _ _) _ _)

theorem kept_unpickIdle {a s : State} (h : Kept a s) (x1 : ℕ) (x2 : ℕ) (x3 : ℕ) (x4 : ℕ) (x5 : ℕ) :
    Kept a (State.unpickIdle s x1 x2 x3 x4 x5) := by
  unfold State.unpickIdle
  exact (kept_altRecord (kept_report (Kept.upd h) _ _ _) _ _ _ _ _)

theorem kept_handleUnpick {a s : State} (h : Kept a s) (x1 : ℕ) (x2 : ℕ) (x3 : ℕ) :
    Kept a (State.handleUnpick s x1 x2 x3) := by
  unfold State.handleUnpick
  exact (Kept.ite (Kept.ite (kept_preemptEnd (kept_sat h _ _)) (kept_sat h _ _)) (Kept.ite (kept_altRecord (kept_report (kept_sat h _ _) _ _ _) _ _ _ _ _) (Kept.ite (kept_unpickAlarm h _ _ _) (by split; exact (Kept.ite (kept_changesMoved (kept_report (kept_cancelled (kept_altRecord (Kept.upd h) _ _ _ _ _) _ _) _ _ _)) (Kept.ite (kept_unpickLost h _ _ _) (kept_acceptUnpick h _ _ _ _))); exact (Kept.ite (Kept.ite (kept_altRecord (kept_report h _ _ _) _ _ _ _ _) (Kept.ite (kept_unpickLost h _ _ _) (kept_acceptUnpick h _ _ _ _))) (Kept.ite (kept_unpickIdle h _ _ _ _ _) (Kept.ite (kept_unpickLost h _ _ _) (kept_unpickIdle (Kept.ite (kept_preemptEnd h) h) _ _ _ _ _))))))))

theorem kept_firstCopy {a s : State} (h : Kept a s) (x1 : ℕ) (x2 : ℕ) (x3 : ℕ) :
    Kept a (State.firstCopy s x1 x2 x3).1 := by
  unfold State.firstCopy
  exact (Kept.ite1 (Kept.pair h) (Kept.pair (Kept.upd h)))

theorem kept_cmdUnpick {a s : State} (h : Kept a s) :
    Kept a (State.cmdUnpick s) := by
  unfold State.cmdUnpick
  exact (Kept.ite (kept_cmdResult h _ _) (Kept.ite (kept_cmdResult h _ _) (kept_handleUnpick (kept_firstCopy (Kept.upd (kept_sendAlt (kept_cmdResult h _ _) _ _)) _ _ _) _ _ _)))

theorem kept_knotEntry {a s : State} (h : Kept a s) (x1 : ℕ) (x2 : ℕ) (x3 : Option Rec) (x4 : Option Rec) :
    Kept a (State.knotEntry s x1 x2 x3 x4) := by
  unfold State.knotEntry
  exact (kept_each (kept_mapEntry h _ _) _ _ (fun _ _ h100 => (Kept.ite h100 (kept_repin h100 _ _ _ _ _))))

theorem kept_followReserves {a s : State} (h : Kept a s) (x1 : Option ℕ) :
    Kept a (State.followReserves s x1) := by
  unfold State.followReserves
  exact (kept_grow (kept_each (kept_each h _ _ (fun _ _ h100 => (kept_setReserve h100 _ _))) _ _ (fun _ _ h101 => (kept_setLanding h101 _ _))))

theorem kept_exchange {a s : State} (h : Kept a s) (x1 : ℕ) (x2 : ℕ) (x3 : Bool) :
    Kept a (State.exchange s x1 x2 x3) := by
  unfold State.exchange
  exact (kept_irq (kept_when (kept_sat (kept_followReserves (kept_each (kept_each (kept_sets (Kept.upd h) _) _ _ (fun _ _ h100 => (kept_knotEntry h100 _ _ _ _))) _ _ (fun _ _ h101 => (kept_mapEntry h101 _ _))) _) _ _) _ _ (fun _ h102 => (kept_sat h102 _ _))) _ _)

theorem kept_alarmSewDue {a s : State} (h : Kept a s) :
    Kept a (State.alarmSewDue s) := by
  unfold State.alarmSewDue
  exact (Kept.ite (kept_irq (kept_altRecord (kept_set (kept_exchange (Kept.upd h) _ _ _) _ _) _ _ _ _ _) _ _) h)

theorem kept_alarmUnpickDue {a s : State} (h : Kept a s) :
    Kept a (State.alarmUnpickDue s) := by
  unfold State.alarmUnpickDue
  exact (Kept.ite (kept_altRecord (kept_set (kept_exchange (kept_setAlarmUnpick h _) _ _ _) _ _) _ _ _ _ _) h)

theorem kept_unpickDue {a s : State} (h : Kept a s) :
    Kept a (State.unpickDue s) := by
  unfold State.unpickDue
  exact (Kept.ite (kept_altRecord (Kept.ite (kept_set (kept_set (kept_exchange (Kept.upd h) _ _ _) _ _) _ _) (kept_set (kept_exchange (Kept.upd h) _ _ _) _ _)) _ _ _ _ _) h)

theorem kept_sewDue {a s : State} (h : Kept a s) :
    Kept a (State.sewDue s) := by
  unfold State.sewDue
  exact (Kept.ite (kept_altRecord (kept_set (kept_exchange (Kept.upd h) _ _ _) _ _) _ _ _ _ _) h)

theorem kept_forgetPast {a s : State} (h : Kept a s) :
    Kept a (State.forgetPast s) := by
  unfold State.forgetPast
  exact (Kept.upd h)

theorem kept_sewSwap {a s : State} (h : Kept a s) :
    Kept a (State.sewSwap s) := by
  unfold State.sewSwap
  exact (kept_showPending (kept_forgetPast (by split; exact (Kept.ite (kept_alarmSewDue (kept_alarmUnpickDue (kept_unpickDue (kept_sewDue h)))) (kept_preemptEnd (kept_alarmSewDue (kept_alarmUnpickDue (kept_unpickDue (kept_sewDue h)))))); exact (kept_alarmSewDue (kept_alarmUnpickDue (kept_unpickDue (kept_sewDue h)))))))

theorem kept_ringNote {a s : State} (h : Kept a s) (x1 : Frame) (x2 : Bool) :
    Kept a (State.ringNote s x1 x2) := by
  unfold State.ringNote
  exact (Kept.upd h)

theorem kept_onFirst {a s : State} (h : Kept a s) (x1 : Frame) (x2 : State → State) (h2 : ∀ y0, Kept a y0 → Kept a (x2 y0)) :
    Kept a (State.onFirst s x1 x2) := by
  unfold State.onFirst
  exact (by split; exact (Kept.ite h (h2 _ (Kept.upd h))); exact (h2 _ (kept_ringNote h _ _)))

theorem kept_handleAlarm {a s : State} (h : Kept a s) (x1 : ℕ) (x2 : ℕ) (x3 : ℕ) :
    Kept a (State.handleAlarm s x1 x2 x3) := by
  unfold State.handleAlarm
  exact (Kept.ite (by split; exact (kept_sat (kept_setAgain (kept_preemptFor h _ _) _) _ _); exact (Kept.ite (kept_changesMoved (kept_cancelled (kept_sat (kept_setAlarmUnpick (kept_preemptFor h _ _) _) _ _) _ _)) (by split; exact (Kept.ite (kept_sat h _ _) (kept_acceptAlarm h _ _ _)); exact (kept_acceptAlarm h _ _ _)))) (Kept.ite (kept_altRecord (kept_report (kept_preemptFor h _ _) _ _ _) _ _ _ _ _) (by split; exact (Kept.ite (kept_sat h _ _) (kept_acceptAlarm h _ _ _)); exact (by split; exact (Kept.ite (kept_cancelled (kept_report h _ _ _) _ _) (kept_changesMoved (kept_altRecord (kept_setAlarmUnpick (kept_acceptAlarm h _ _ _) _) _ _ _ _ _))); exact (kept_acceptAlarm h _ _ _)))))

theorem kept_execAlarmSewRx {a s : State} (h : Kept a s) (x0 : Frame) :
    KeptStep a (execAlarmSewRx x0 s) := by
  unfold execAlarmSewRx
  exact (KeptStep.next (kept_ifBolt h _ (fun _ h100 => (Kept.ite h100 (kept_onFirst h100 _ _ (fun _ h101 => (by split; rename_i hq; have h102 := Kept.eq hq (kept_firstCopy h101 _ _ _); exact (kept_handleAlarm h102 _ _ _); rename_i hq; have h103 := Kept.eq hq (kept_firstCopy h101 _ _ _); exact h103)))))))

theorem kept_noteReady {a s : State} (h : Kept a s) (x1 : ℕ) (x2 : ℕ) (x3 : ℕ) (x4 : ℕ × ℕ) :
    Kept a (State.noteReady s x1 x2 x3 x4) := by
  unfold State.noteReady
  exact (Kept.ite (kept_sat h _ _) (Kept.ite (kept_irq (kept_irq (Kept.upd (kept_markNode h _ _ _)) _ _) _ _) (kept_irq (Kept.upd (kept_markNode h _ _ _)) _ _)))

theorem kept_sendReady {a s : State} (h : Kept a s) (x1 : ℕ) :
    Kept a (State.sendReady s x1) := by
  unfold State.sendReady
  exact (Kept.ite (kept_noteReady h _ _ _ _) (kept_sendAlt h _ _))

theorem kept_handlePoll {a s : State} (h : Kept a s) (x1 : ℕ) :
    Kept a (State.handlePoll s x1) := by
  unfold State.handlePoll
  exact (Kept.ite (kept_sat h _ _) (by split; exact (kept_sendReady h _); exact (kept_sendReady h _); exact (kept_sendReady h _); exact h))

theorem kept_execPollRx {a s : State} (h : Kept a s) (x0 : Frame) :
    KeptStep a (execPollRx x0 s) := by
  unfold execPollRx
  exact (KeptStep.next (kept_ifBolt h _ (fun _ h100 => (Kept.ite h100 (kept_onFirst h100 _ _ (fun _ h101 => (by split; rename_i hq; have h102 := Kept.eq hq (kept_firstCopy h101 _ _ _); exact (kept_handlePoll h102 _); rename_i hq; have h103 := Kept.eq hq (kept_firstCopy h101 _ _ _); exact h103)))))))

theorem kept_handleSew {a s : State} (h : Kept a s) (x1 : ℕ) (x2 : ℕ) (x3 : ℕ) :
    Kept a (State.handleSew s x1 x2 x3) := by
  unfold State.handleSew
  exact (Kept.ite (kept_sat h _ _) (Kept.ite (kept_altRecord (kept_report h _ _ _) _ _ _ _ _) (Kept.ite (kept_altRecord (kept_report (kept_irq (kept_sat h _ _) _ _) _ _ _) _ _ _ _ _) (Kept.ite (kept_altRecord (kept_report h _ _ _) _ _ _ _ _) (Kept.ite (kept_sat h _ _) (by split; exact (Kept.ite (kept_cancelled (kept_report h _ _ _) _ _) (kept_changesMoved (kept_altRecord (kept_altRecord (kept_report (kept_irq (Kept.upd h) _ _) _ _ _) _ _ _ _ _) _ _ _ _ _))); exact (kept_changesMoved (kept_altRecord (kept_report (kept_irq (Kept.upd h) _ _) _ _ _) _ _ _ _ _))))))))

theorem kept_cmdSew {a s : State} (h : Kept a s) :
    Kept a (State.cmdSew s) := by
  unfold State.cmdSew
  exact (Kept.ite (kept_cmdResult h _ _) (Kept.ite (kept_cmdResult h _ _) (by split; exact (kept_cmdResult h _ _); exact (Kept.ite (kept_cmdResult h _ _) (kept_handleSew (kept_firstCopy (Kept.upd (kept_sendAlt (kept_cmdResult h _ _) _ _)) _ _ _) _ _ _)))))

theorem kept_execSewRx {a s : State} (h : Kept a s) (x0 : Frame) :
    KeptStep a (execSewRx x0 s) := by
  unfold execSewRx
  exact (KeptStep.next (kept_ifBolt h _ (fun _ h100 => (Kept.ite h100 (kept_onFirst h100 _ _ (fun _ h101 => (by split; rename_i hq; have h102 := Kept.eq hq (kept_firstCopy h101 _ _ _); exact (kept_handleSew h102 _ _ _); rename_i hq; have h103 := Kept.eq hq (kept_firstCopy h101 _ _ _); exact (Kept.ite (kept_sat h103 _ _) h103))))))))

theorem kept_alarmCommand {a s : State} (h : Kept a s) :
    Kept a (State.alarmCommand s) := by
  unfold State.alarmCommand
  exact (kept_handleAlarm (kept_firstCopy (Kept.upd (kept_sendAlt h _ _)) _ _ _) _ _ _)

theorem kept_execAltAlarm {a s : State} (h : Kept a s) (x0 : Requester) :
    KeptStep a (execAltAlarm x0 s) := by
  unfold execAltAlarm
  exact (KeptStep.next (kept_command h _ _ _ _ (fun _ h100 => (Kept.ite (kept_cmdResult h100 _ _) (Kept.ite (Kept.upd (kept_cmdResult h100 _ _)) (kept_alarmCommand (kept_cmdResult h100 _ _)))))))

theorem kept_execReportRx {a s : State} (h : Kept a s) (x0 : Frame) :
    KeptStep a (execReportRx x0 s) := by
  unfold execReportRx
  exact (KeptStep.next (kept_ifBolt h _ (fun _ h100 => (Kept.ite h100 (kept_onFirst h100 _ _ (fun _ h101 => (kept_noteReport h101 _ _ _)))))))

theorem kept_planDone {a s : State} (h : Kept a s) (x1 : Bool) :
    Kept a (State.planDone s x1) := by
  unfold State.planDone
  exact (Kept.ite h (Kept.ite (by split; exact (kept_refuseUnit (Kept.upd (kept_set h _ _)) _ _ _); exact (kept_irq (Kept.upd (kept_sets (Kept.upd (kept_set h _ _)) _)) _ _)) (kept_sendReady (by split; exact (kept_refuseUnit (Kept.upd (kept_set h _ _)) _ _ _); exact (kept_irq (Kept.upd (kept_sets (Kept.upd (kept_set h _ _)) _)) _ _)) _)))

theorem kept_execPlanCheckDone {a s : State} (h : Kept a s) (x0 : Bool) :
    KeptStep a (execPlanCheckDone x0 s) := by
  unfold execPlanCheckDone
  exact (KeptStep.next (kept_ifBolt h _ (fun _ h100 => (kept_planDone h100 _))))

theorem kept_loadReserves {a s : State} (h : Kept a s) :
    Kept a (State.loadReserves s) := by
  unfold State.loadReserves
  exact (kept_followReserves h _)

theorem kept_execReadyRx {a s : State} (h : Kept a s) (x0 : Frame) :
    KeptStep a (execReadyRx x0 s) := by
  unfold execReadyRx
  exact (KeptStep.next (kept_ifBolt h _ (fun _ h100 => (Kept.ite h100 (kept_onFirst h100 _ _ (fun _ h101 => (kept_noteReady h101 _ _ _ _)))))))

theorem kept_execAltUnpick {a s : State} (h : Kept a s) (x0 : Requester) :
    KeptStep a (execAltUnpick x0 s) := by
  unfold execAltUnpick
  exact (KeptStep.next (kept_command h _ _ _ _ (fun _ h100 => (kept_cmdUnpick h100))))

theorem kept_planStart {a s : State} (h : Kept a s) (x1 : ℕ) :
    Kept a (State.planStart s x1) := by
  unfold State.planStart
  exact (Kept.upd h)

theorem kept_execAltSew {a s : State} (h : Kept a s) (x0 : Requester) :
    KeptStep a (execAltSew x0 s) := by
  unfold execAltSew
  exact (KeptStep.next (kept_command h _ _ _ _ (fun _ h100 => (kept_cmdSew h100))))

theorem kept_execUnpickRx {a s : State} (h : Kept a s) (x0 : Frame) :
    KeptStep a (execUnpickRx x0 s) := by
  unfold execUnpickRx
  exact (KeptStep.next (kept_ifBolt h _ (fun _ h100 => (Kept.ite h100 (kept_onFirst h100 _ _ (fun _ h101 => (by split; rename_i hq; have h102 := Kept.eq hq (kept_firstCopy h101 _ _ _); exact (kept_handleUnpick h102 _ _ _); rename_i hq; have h103 := Kept.eq hq (kept_firstCopy h101 _ _ _); exact h103)))))))

theorem kept_sendOwed {a s : State} (h : Kept a s) :
    Kept a (State.sendOwed s) := by
  unfold State.sendOwed
  exact (Kept.ite h (Kept.upd (kept_each h _ _ (fun _ _ h100 => (kept_report h100 _ _ _)))))

theorem kept_execAltPoll {a s : State} (h : Kept a s) (x0 : Requester) :
    KeptStep a (execAltPoll x0 s) := by
  unfold execAltPoll
  exact (KeptStep.next (kept_command h _ _ _ _ (fun _ h100 => (Kept.ite (kept_cmdResult h100 _ _) (kept_handlePoll (kept_firstCopy (kept_sendAlt (kept_cmdResult h100 _ _) _ _) _ _ _) _)))))

theorem kept_execCmdPlanWrite {a s : State} (h : Kept a s) (x0 : Requester) (x1 : Word) :
    KeptStep a (execCmdPlanWrite x0 x1 s) := by
  unfold execCmdPlanWrite
  exact (KeptStep.next (kept_command h _ _ _ _ (fun _ h100 => (kept_each h100 _ _ (fun _ _ h101 => (kept_sets h101 _))))))

theorem kept_altResend {a s : State} (h : Kept a s) :
    Kept a (State.altResend s) := by
  unfold State.altResend
  exact (kept_each (Kept.upd h) _ _ (fun _ _ h100 => (kept_sendAlt h100 _ _)))

end Sys2Proof.Machine
end

