-- ==== Sys2Proof/Laws/KeptRing.lean ====
section
/-! SUPPORT. What the operations of Machine/Ring.lean keep. -/

namespace Sys2Proof.Machine

set_option Elab.async false
set_option linter.unusedTactic false

theorem kept_ringResult {a s : State} (h : Kept a s) (x1 : ℕ) :
    Kept a (State.ringResult s x1) := by
  unfold State.ringResult
  exact (kept_sets h _)

theorem kept_asMaster {a s : State} (h : Kept a s) (x1 : State → State) (h1 : ∀ y0, Kept a y0 → Kept a (x1 y0)) :
    Kept a (State.asMaster s x1) := by
  unfold State.asMaster
  exact (Kept.ite (h1 _ (kept_ringResult h _)) (kept_ringResult h _))

theorem kept_setRole {a s : State} (h : Kept a s) (x1 : ℕ) :
    Kept a (State.setRole s x1) := by
  unfold State.setRole
  exact (Kept.ite h (kept_irq (kept_set h _ _) _ _))

theorem kept_plainRole {a s : State} (h : Kept a s) :
    Kept a (State.plainRole s) := by
  unfold State.plainRole
  exact (kept_setRole h _)

theorem kept_resign {a s : State} (h : Kept a s) :
    Kept a (State.resign s) := by
  unfold State.resign
  exact (kept_reviewSource (kept_irq (kept_plainRole (kept_set (Kept.upd (kept_set h _ _)) _ _)) _ _))

theorem kept_execRingResign {a s : State} (h : Kept a s) (x0 : Requester) :
    KeptStep a (execRingResign x0 s) := by
  unfold execRingResign
  exact (KeptStep.next (kept_command h _ _ _ _ (fun _ h100 => (kept_asMaster h100 _ (fun _ h101 => (kept_resign h101))))))

theorem kept_memberRole {a s : State} (h : Kept a s) :
    Kept a (State.memberRole s) := by
  unfold State.memberRole
  exact (Kept.ite h (kept_plainRole h))

theorem kept_sendNak {a s : State} (h : Kept a s) (x1 : Frame) (x2 : ℕ) :
    Kept a (State.sendNak s x1 x2) := by
  unfold State.sendNak
  exact (Kept.ite h (kept_sat (kept_sendRing h _ _ _ _ _) _ _))

theorem kept_ringForward {a s : State} (h : Kept a s) (x1 : ℕ) (x2 : Frame) :
    Kept a (State.ringForward s x1 x2) := by
  unfold State.ringForward
  exact (Kept.ite h (kept_sendCl7 h _ _))

theorem kept_ringRx {a s : State} (h : Kept a s) (x1 : ℕ) (x2 : Frame) :
    Kept a (State.ringRx s x1 x2) := by
  unfold State.ringRx
  exact (Kept.ite (kept_sat h _ _) (Kept.ite (Kept.ite h (Kept.ite (kept_sat h _ _) (by (try dsimp -iota only); split; exact (kept_sendNak (kept_sat (kept_ringNote h _ _) _ _) _ _); exact (kept_sendNak (kept_sat (kept_ringNote h _ _) _ _) _ _); exact (kept_sat (kept_ringNote h _ _) _ _); exact (kept_ringNote h _ _)))) (kept_ringForward (Kept.ite h (Kept.ite (kept_sat h _ _) (by (try dsimp -iota only); split; exact (kept_sendNak (kept_sat (kept_ringNote h _ _) _ _) _ _); exact (kept_sendNak (kept_sat (kept_ringNote h _ _) _ _) _ _); exact (kept_sat (kept_ringNote h _ _) _ _); exact (kept_ringNote h _ _)))) _ _)))

theorem kept_steer {a s : State} (h : Kept a s) (x1 : ℕ) (x2 : ℕ) :
    Kept a (State.steer s x1 x2) := by
  unfold State.steer
  exact (Kept.ite h (kept_moveQueue (kept_mapEntry h _ _) _ _ _))

theorem kept_startRoll {a s : State} (h : Kept a s) :
    Kept a (State.startRoll s) := by
  unfold State.startRoll
  exact (kept_sendRing (Kept.upd h) _ _ _ _ _)

theorem kept_execRingRollcall {a s : State} (h : Kept a s) (x0 : Requester) :
    KeptStep a (execRingRollcall x0 s) := by
  unfold execRingRollcall
  exact (KeptStep.next (kept_command h _ _ _ _ (fun _ h100 => (kept_asMaster h100 _ (fun _ h101 => (kept_startRoll h101))))))

theorem kept_ledgerRecord {a s : State} (h : Kept a s) (x1 : ℕ) (x2 : ℕ) (x3 : ℕ) (x4 : ℕ) (x5 : ℕ) :
    Kept a (State.ledgerRecord s x1 x2 x3 x4 x5) := by
  unfold State.ledgerRecord
  exact (kept_boltProgress h _ _ _ _)

theorem kept_ledgerRecords {a s : State} (h : Kept a s) :
    Kept a (State.ledgerRecords s) := by
  unfold State.ledgerRecords
  exact (kept_each h _ _ (fun _ _ h100 => (Kept.ite (kept_ledgerRecord h100 _ _ _ _ _) h100)))

theorem kept_startOpening {a s : State} (h : Kept a s) (x1 : ℕ) :
    Kept a (State.startOpening s x1) := by
  unfold State.startOpening
  exact (Kept.upd (kept_sendRing (kept_ledgerRecords h) _ _ _ _ _))

theorem kept_showEdges {a s : State} (h : Kept a s) :
    Kept a (State.showEdges s) := by
  unfold State.showEdges
  exact (kept_sets h _)

theorem kept_healApply {a s : State} (h : Kept a s) (x1 : HealWait) :
    Kept a (State.healApply s x1) := by
  unfold State.healApply
  exact (Kept.ite (Kept.upd (kept_each (kept_irq (kept_showEdges (Kept.upd h)) _ _) _ _ (fun _ _ h100 => (kept_mapEntry (kept_each (kept_mapEntry h100 _ _) _ _ (fun _ _ h101 => (kept_repin h101 _ _ _ _ _))) _ _)))) (kept_irq (kept_set (Kept.upd (kept_each (kept_irq (kept_showEdges (Kept.upd h)) _ _) _ _ (fun _ _ h102 => (kept_mapEntry (kept_each (kept_mapEntry h102 _ _) _ _ (fun _ _ h103 => (kept_repin h103 _ _ _ _ _))) _ _)))) _ _) _ _))

theorem kept_sendHeal {a s : State} (h : Kept a s) (x1 : ℕ) (x2 : ℕ) (x3 : ℕ) (x4 : ℕ) :
    Kept a (State.sendHeal s x1 x2 x3 x4) := by
  unfold State.sendHeal
  exact (Kept.upd (kept_sendRing h _ _ _ _ _))

theorem kept_autoHeal {a s : State} (h : Kept a s) :
    Kept a (State.autoHeal s) := by
  unfold State.autoHeal
  exact (Kept.ite h (kept_each h _ _ (fun _ _ h100 => (by split; exact (Kept.ite h100 (kept_sendHeal h100 _ _ _ _)); exact h100))))

theorem kept_execRxPop {a s : State} (h : Kept a s) (x0 : Requester) :
    KeptStep a (execRxPop x0 s) := by
  unfold execRxPop
  exact (KeptStep.next (kept_command h _ _ _ _ (fun _ h100 => (Kept.upd h100))))

theorem kept_sendAgain {a s : State} (h : Kept a s) (x1 : Frame) (x2 : ℕ) (x3 : ℕ) :
    Kept a (State.sendAgain s x1 x2 x3) := by
  unfold State.sendAgain
  exact (kept_originate h _ _)

theorem kept_retryLater {a s : State} (h : Kept a s) (x1 : ℕ) :
    Kept a (State.retryLater s x1) := by
  unfold State.retryLater
  exact (by split; exact (kept_sendAgain h _ _ _); exact h)

theorem kept_followBeacon {a s : State} (h : Kept a s) (x1 : Frame) :
    Kept a (State.followBeacon s x1) := by
  unfold State.followBeacon
  exact (kept_reviewSource (kept_plainRole (Kept.ite (kept_retryLater (Kept.upd (kept_set (Kept.ite (kept_set h _ _) h) _ _)) _) (Kept.upd (kept_set (Kept.ite (kept_set h _ _) h) _ _)))))

theorem kept_retryBound {a s : State} (h : Kept a s) (x1 : Frame) (x2 : Frame) :
    Kept a (State.retryBound s x1 x2) := by
  unfold State.retryBound
  exact (Kept.upd (kept_sendAgain h _ _ _))

theorem kept_nakIn {a s : State} (h : Kept a s) (x1 : Frame) :
    Kept a (State.nakIn s x1) := by
  unfold State.nakIn
  exact (Kept.ite h (kept_onFirst h _ _ (fun _ h100 => (Kept.ite (kept_resign (kept_irq (kept_sets (kept_sat h100 _ _) _) _ _)) (Kept.ite (Kept.upd (kept_irq (kept_sets (kept_sat h100 _ _) _) _ _)) (Kept.ite (by split; exact (Kept.ite (kept_irq (kept_sets (kept_sat h100 _ _) _) _ _) (Kept.ite (kept_retryBound (kept_irq (kept_sets (kept_sat h100 _ _) _) _ _) _ _) (Kept.upd (kept_irq (kept_sets (kept_sat h100 _ _) _) _ _)))); exact (kept_irq (kept_sets (kept_sat h100 _ _) _) _ _)) (kept_irq (kept_sets (kept_sat h100 _ _) _) _ _)))))))

theorem kept_execNakRx {a s : State} (h : Kept a s) (x0 : Frame) :
    KeptStep a (execNakRx x0 s) := by
  unfold execNakRx
  exact (KeptStep.next (kept_ifBolt h _ (fun _ h100 => (kept_nakIn h100 _))))

theorem kept_censusPut {a s : State} (h : Kept a s) (x1 : ℕ) (x2 : ℕ) :
    Kept a (State.censusPut s x1 x2) := by
  unfold State.censusPut
  exact (Kept.upd h)

theorem kept_execAnnounceTimer {a s : State} (h : Kept a s) :
    KeptStep a (execAnnounceTimer s) := by
  unfold execAnnounceTimer
  exact (KeptStep.next (kept_ifBolt h _ (fun _ h100 => (Kept.ite (kept_sendRing (Kept.ite (kept_censusPut (Kept.upd h100) _ _) (Kept.upd h100)) _ _ _ _ _) h100))))

theorem kept_execEdgeExpire {a s : State} (h : Kept a s) :
    KeptStep a (execEdgeExpire s) := by
  unfold execEdgeExpire
  exact (KeptStep.next (kept_ifBolt h _ (fun _ h100 => (Kept.ite h100 (kept_irq (Kept.upd h100) _ _)))))

theorem kept_dropTransit {a s : State} (h : Kept a s) (x1 : ℕ) (x2 : ℕ) :
    Kept a (State.dropTransit s x1 x2) := by
  unfold State.dropTransit
  exact (kept_each h _ _ (fun _ _ h100 => (kept_each h100 _ _ (fun _ _ h101 => (Kept.ite h101 (kept_dropCopy (kept_sat h101 _ _) _ _))))))

theorem kept_rollcallIn {a s : State} (h : Kept a s) (x1 : ℕ) (x2 : Frame) :
    Kept a (State.rollcallIn s x1 x2) := by
  unfold State.rollcallIn
  exact (Kept.ite h (Kept.ite (kept_ringForward h _ _) (kept_onFirst h _ _ (fun _ h100 => (by (try dsimp -iota only); split; exact (kept_ringForward (kept_irq h100 _ _) _ _); exact (kept_originate (Kept.upd (kept_ringForward h100 _ _)) _ _))))))

theorem kept_execRollcallRx {a s : State} (h : Kept a s) (x0 : Fin 2) (x1 : Frame) :
    KeptStep a (execRollcallRx x0 x1 s) := by
  unfold execRollcallRx
  exact (KeptStep.next (kept_ifBolt h _ (fun _ h100 => (kept_rollcallIn h100 _ _))))

theorem kept_mailSend {a s : State} (h : Kept a s) :
    Kept a (State.mailSend s) := by
  unfold State.mailSend
  exact (Kept.ite h (Kept.ite (kept_set (kept_set h _ _) _ _) (Kept.ite (kept_set (kept_set h _ _) _ _) (kept_sendRing (kept_sets (kept_set h _ _) _) _ _ _ _ _))))

theorem kept_putEdge {a s : State} (h : Kept a s) (x1 : Edge) :
    Kept a (State.putEdge s x1) := by
  unfold State.putEdge
  exact (by (try dsimp -iota only); split; exact (Kept.ite (Kept.upd h) (kept_irq (Kept.upd h) _ _)); exact (Kept.ite h (kept_irq (Kept.upd h) _ _)))

theorem kept_openingEdges {a s : State} (h : Kept a s) (x1 : ℕ) :
    Kept a (State.openingEdges s x1) := by
  unfold State.openingEdges
  exact (kept_each h _ _ (fun _ _ h100 => (kept_putEdge h100 _)))

theorem kept_sendJoinAck {a s : State} (h : Kept a s) (x1 : ℕ) (x2 : ℕ) (x3 : List Byte) :
    Kept a (State.sendJoinAck s x1 x2 x3) := by
  unfold State.sendJoinAck
  exact (kept_sendRing h _ _ _ _ _)

theorem kept_execJoinReqRx {a s : State} (h : Kept a s) (x0 : Frame) :
    KeptStep a (execJoinReqRx x0 s) := by
  unfold execJoinReqRx
  exact (KeptStep.next (kept_ifBolt h _ (fun _ h100 => (Kept.ite h100 (kept_onFirst h100 _ _ (fun _ h101 => (Kept.ite (kept_sendJoinAck h101 _ _ _) (Kept.ite (Kept.ite (kept_startRoll (kept_sendJoinAck h101 _ _ _)) (kept_sendJoinAck h101 _ _ _)) (kept_sendJoinAck (kept_censusPut h101 _ _) _ _ _)))))))))

theorem kept_openingsDue {a s : State} (h : Kept a s) :
    Kept a (State.openingsDue s) := by
  unfold State.openingsDue
  exact (Kept.upd (kept_each h _ _ (fun _ _ h100 => (kept_openingEdges h100 _))))

theorem kept_sendEdge {a s : State} (h : Kept a s) (x1 : Edge) :
    Kept a (State.sendEdge s x1) := by
  unfold State.sendEdge
  exact (kept_sendRing h _ _ _ _ _)

theorem kept_declareEdge {a s : State} (h : Kept a s) (x1 : ℕ) (x2 : ℕ) (x3 : ℕ) :
    Kept a (State.declareEdge s x1 x2 x3) := by
  unfold State.declareEdge
  exact (Kept.ite h (kept_sendEdge (kept_irq (kept_showEdges (Kept.ite (kept_sat (Kept.upd h) _ _) (Kept.upd h))) _ _) _))

theorem kept_waitHeal {a s : State} (h : Kept a s) :
    Kept a (State.waitHeal s) := by
  unfold State.waitHeal
  exact (kept_each (kept_set h _ _) _ _ (fun _ _ h100 => (Kept.ite (kept_declareEdge h100 _ _ _) (Kept.upd h100))))

theorem kept_masterJoin {a s : State} (h : Kept a s) :
    Kept a (State.masterJoin s) := by
  unfold State.masterJoin
  exact (Kept.ite h (Kept.ite (kept_waitHeal (kept_censusPut h _ _)) (kept_censusPut h _ _)))

theorem kept_cmdHeal {a s : State} (h : Kept a s) :
    Kept a (State.cmdHeal s) := by
  unfold State.cmdHeal
  exact (by (try dsimp -iota only); split; exact (kept_ringResult h _); exact (by split; exact (kept_sendHeal h _ _ _ _); exact (kept_ringResult h _)))

theorem kept_rollFor {a s : State} (h : Kept a s) (x1 : Edge) :
    Kept a (State.rollFor s x1) := by
  unfold State.rollFor
  exact (Kept.ite (kept_startRoll h) h)

theorem kept_execRollcallEnd {a s : State} (h : Kept a s) :
    KeptStep a (execRollcallEnd s) := by
  unfold execRollcallEnd
  exact (KeptStep.next (kept_ifBolt h _ (fun _ h100 => (by split; exact (Kept.ite (kept_irq (Kept.upd h100) _ _) h100); exact h100))))

theorem kept_reachability {a s : State} (h : Kept a s) :
    Kept a (State.reachability s) := by
  unfold State.reachability
  exact (Kept.ite (Kept.upd h) (kept_each (Kept.upd h) _ _ (fun _ _ h100 => (Kept.ite (Kept.ite h100 (Kept.ite (kept_mapEntry h100 _ _) (kept_each h100 _ _ (fun _ _ h101 => (Kept.ite (kept_steer h101 _ _) h101))))) (Kept.ite (Kept.ite h100 (Kept.ite (kept_mapEntry h100 _ _) (kept_each h100 _ _ (fun _ _ h102 => (Kept.ite (kept_steer h102 _ _) h102))))) (kept_each (Kept.ite h100 (Kept.ite (kept_mapEntry h100 _ _) (kept_each h100 _ _ (fun _ _ h103 => (Kept.ite (kept_steer h103 _ _) h103))))) _ _ (fun _ _ h104 => (Kept.ite h104 (kept_switchPath h104 _ _ _ _)))))))))

theorem kept_ringState {a s : State} (h : Kept a s) :
    Kept a (State.ringState s) := by
  unfold State.ringState
  exact (Kept.ite (Kept.ite (Kept.upd h) (kept_irq (kept_each (kept_set (Kept.upd h) _ _) _ _ (fun _ _ h100 => (Kept.ite (kept_mapEntry h100 _ _) h100))) _ _)) (kept_set (Kept.upd h) _ _))

theorem kept_cmdForget {a s : State} (h : Kept a s) :
    Kept a (State.cmdForget s) := by
  unfold State.cmdForget
  exact (Kept.ite (kept_ringResult h _) (Kept.upd (kept_sendRing h _ _ _ _ _)))

theorem kept_execRingForget {a s : State} (h : Kept a s) (x0 : Requester) :
    KeptStep a (execRingForget x0 s) := by
  unfold execRingForget
  exact (KeptStep.next (kept_command h _ _ _ _ (fun _ h100 => (kept_asMaster h100 _ (fun _ h101 => (kept_cmdForget h101))))))

theorem kept_execForgetRx {a s : State} (h : Kept a s) (x0 : Frame) :
    KeptStep a (execForgetRx x0 s) := by
  unfold execForgetRx
  exact (KeptStep.next (kept_ifBolt h _ (fun _ h100 => (Kept.ite (kept_onFirst h100 _ _ (fun _ h101 => (Kept.upd h101))) h100))))

theorem kept_execOpenRing {a s : State} (h : Kept a s) (x0 : Requester) :
    KeptStep a (execOpenRing x0 s) := by
  unfold execOpenRing
  exact (KeptStep.next (kept_command h _ _ _ _ (fun _ h100 => (by split; exact (kept_ringResult h100 _); exact (kept_startOpening (kept_ringResult h100 _) _)))))

theorem kept_execHealRx {a s : State} (h : Kept a s) (x0 : Frame) :
    KeptStep a (execHealRx x0 s) := by
  unfold execHealRx
  exact (KeptStep.next (kept_ifBolt h _ (fun _ h100 => (Kept.ite (kept_onFirst h100 _ _ (fun _ h101 => (Kept.upd h101))) h100))))

theorem kept_execBuddySingle {a s : State} (h : Kept a s) (x0 : Fin 1024) :
    KeptStep a (execBuddySingle x0 s) := by
  unfold execBuddySingle
  exact (KeptStep.next (kept_ifBolt h _ (fun _ h100 => (Kept.ite (kept_irq (kept_mapEntry h100 _ _) _ _) h100))))

theorem kept_execRingCtrlRx {a s : State} (h : Kept a s) (x0 : Fin 2) (x1 : Frame) :
    KeptStep a (execRingCtrlRx x0 x1 s) := by
  unfold execRingCtrlRx
  exact (KeptStep.next (kept_ifBolt h _ (fun _ h100 => (kept_ringRx h100 _ _))))

theorem kept_trunkLost {a s : State} (h : Kept a s) (x1 : ℕ) (x2 : ℕ) :
    Kept a (State.trunkLost s x1 x2) := by
  unfold State.trunkLost
  exact (kept_placePort (kept_rebuildPorts (kept_each (kept_declareEdge (Kept.upd (kept_switchTrunkDown (kept_undo h _ _ _) _)) _ _ _) _ _ (fun _ _ h100 => (Kept.ite (kept_steer (Kept.ite (kept_dropTransit h100 _ _) h100) _ _) (Kept.ite (kept_dropTransit h100 _ _) h100)))) _) _)

theorem kept_claimIn {a s : State} (h : Kept a s) (x1 : ℕ) (x2 : Frame) :
    Kept a (State.claimIn s x1 x2) := by
  unfold State.claimIn
  exact (Kept.ite h (Kept.ite (kept_ringForward h _ _) (Kept.ite (kept_sat h _ _) (kept_ringForward (kept_onFirst h _ _ (fun _ h100 => (Kept.ite h100 (Kept.ite (Kept.ite (kept_plainRole (Kept.upd h100)) h100) (by split; exact (Kept.ite (Kept.upd h100) h100); exact h100))))) _ _))))

theorem kept_execClaimRx {a s : State} (h : Kept a s) (x0 : Fin 2) (x1 : Frame) :
    KeptStep a (execClaimRx x0 x1 s) := by
  unfold execClaimRx
  exact (KeptStep.next (kept_ifBolt h _ (fun _ h100 => (kept_claimIn h100 _ _))))

theorem kept_ringTrunkUp {a s : State} (h : Kept a s) (x1 : ℕ) :
    Kept a (State.ringTrunkUp s x1) := by
  unfold State.ringTrunkUp
  exact (Kept.ite h (kept_sendOwed (Kept.ite (Kept.ite (kept_memberRole (kept_set (Kept.upd h) _ _)) (Kept.upd h)) (kept_declareEdge (Kept.ite (kept_memberRole (kept_set (Kept.upd h) _ _)) (Kept.upd h)) _ _ _))))

theorem kept_rngOn {a s : State} (h : Kept a s) :
    Kept a (State.rngOn s) := by
  unfold State.rngOn
  exact (by (try dsimp -iota only); split; exact (kept_plainRole (kept_each (kept_sets (Kept.upd h) _) _ _ (fun _ _ h101 => (Kept.ite (kept_ringTrunkUp h101 _) h101)))))

theorem kept_trunkUp {a s : State} (h : Kept a s) (x1 : ℕ) :
    Kept a (State.trunkUp s x1) := by
  unfold State.trunkUp
  exact (kept_ringTrunkUp (kept_set (kept_switchPortUp h _) _ _) _)

theorem kept_sendJoinReq {a s : State} (h : Kept a s) :
    Kept a (State.sendJoinReq s) := by
  unfold State.sendJoinReq
  exact (Kept.upd (kept_sendRing h _ _ _ _ _))

theorem kept_execJoinRetry {a s : State} (h : Kept a s) :
    KeptStep a (execJoinRetry s) := by
  unfold execJoinRetry
  exact (KeptStep.next (kept_ifBolt h _ (fun _ h100 => (Kept.ite (kept_sendJoinReq h100) h100))))

theorem kept_dropAddr {a s : State} (h : Kept a s) :
    Kept a (State.dropAddr s) := by
  unfold State.dropAddr
  exact (kept_plainRole (kept_boltNvs (kept_sets h _) _))

theorem kept_edge {a s : State} (h : Kept a s) (x1 : ℕ) (x2 : Frame) :
    Kept a (State.edge s x1 x2) := by
  unfold State.edge
  exact (Kept.ite h (kept_onFirst (Kept.ite (kept_declareEdge h _ _ _) h) _ _ (fun _ h100 => (kept_autoHeal (kept_rollFor (Kept.ite (kept_ntEdge (kept_putEdge h100 _) _ _) (Kept.upd (kept_ntEdge (kept_putEdge h100 _) _ _))) _)))))

theorem kept_sendBeacon {a s : State} (h : Kept a s) :
    Kept a (State.sendBeacon s) := by
  unfold State.sendBeacon
  exact (kept_sendRing h _ _ _ _ _)

theorem kept_execMsgRx {a s : State} (h : Kept a s) (x0 : Frame) :
    KeptStep a (execMsgRx x0 s) := by
  unfold execMsgRx
  exact (KeptStep.next (kept_ifBolt h _ (fun _ h100 => (Kept.ite h100 (kept_onFirst h100 _ _ (fun _ h101 => (Kept.ite (kept_sat h101 _ _) (kept_irq (Kept.upd h101) _ _))))))))

theorem kept_ringCounts {a s : State} (h : Kept a s) :
    Kept a (State.ringCounts s) := by
  unfold State.ringCounts
  exact (Kept.ite (kept_irq (kept_set (Kept.upd h) _ _) _ _) (Kept.upd h))

theorem kept_takeAddr {a s : State} (h : Kept a s) (x1 : ℕ) (x2 : ℕ) :
    Kept a (State.takeAddr s x1 x2) := by
  unfold State.takeAddr
  exact (kept_boltNvs (kept_sets h _) _)

theorem kept_takeOffice {a s : State} (h : Kept a s) (x1 : ℕ) :
    Kept a (State.takeOffice s x1) := by
  unfold State.takeOffice
  exact (kept_sendBeacon (kept_masterJoin (kept_clkMaster (kept_setRole (kept_sets (Kept.upd (Kept.ite h (by split; exact (kept_takeAddr h _ _); exact h))) _) _))))

theorem kept_sendClaim {a s : State} (h : Kept a s) (x1 : ℕ) :
    Kept a (State.sendClaim s x1) := by
  unfold State.sendClaim
  exact (Kept.ite h (kept_originate h _ _))

theorem kept_joinReview {a s : State} (h : Kept a s) :
    Kept a (State.joinReview s) := by
  unfold State.joinReview
  exact (Kept.ite h (Kept.ite (kept_memberRole (kept_set h _ _)) (Kept.ite (Kept.ite (kept_set (Kept.ite (kept_set h _ _) h) _ _) (Kept.ite (kept_set h _ _) h)) (Kept.ite (Kept.ite (Kept.ite (kept_set (Kept.ite (kept_set h _ _) h) _ _) (Kept.ite (kept_set h _ _) h)) (kept_masterJoin (Kept.ite (kept_set (Kept.ite (kept_set h _ _) h) _ _) (Kept.ite (kept_set h _ _) h)))) (Kept.ite (kept_sendJoinReq (Kept.ite (kept_set (Kept.ite (kept_set h _ _) h) _ _) (Kept.ite (kept_set h _ _) h))) (Kept.ite (kept_set (Kept.ite (kept_set h _ _) h) _ _) (Kept.ite (kept_set h _ _) h)))))))

theorem kept_ringCycle {a s : State} (h : Kept a s) :
    Kept a (State.ringCycle s) := by
  unfold State.ringCycle
  exact (Kept.ite h (kept_autoHeal (kept_each (kept_ringState (kept_reachability (kept_joinReview (by split; exact (Kept.ite (kept_resign (kept_openingsDue (kept_each (by split; exact (Kept.ite (kept_takeOffice (kept_ringCounts h) _) (kept_sendClaim (kept_ringCounts h) _)); exact (Kept.ite (kept_sendBeacon (kept_ringCounts h)) (kept_ringCounts h))) _ _ (fun _ _ h103 => (kept_healApply h103 _))))) (kept_openingsDue (kept_each (by split; exact (Kept.ite (kept_takeOffice (kept_ringCounts h) _) (kept_sendClaim (kept_ringCounts h) _)); exact (Kept.ite (kept_sendBeacon (kept_ringCounts h)) (kept_ringCounts h))) _ _ (fun _ _ h106 => (kept_healApply h106 _))))); exact (kept_openingsDue (kept_each (by split; exact (Kept.ite (kept_takeOffice (kept_ringCounts h) _) (kept_sendClaim (kept_ringCounts h) _)); exact (Kept.ite (kept_sendBeacon (kept_ringCounts h)) (kept_ringCounts h))) _ _ (fun _ _ h110 => (kept_healApply h110 _)))))))) _ _ (fun _ _ h111 => (kept_rollFor (kept_sendEdge h111 _) _)))))

theorem kept_execOpeningRx {a s : State} (h : Kept a s) (x0 : Frame) :
    KeptStep a (execOpeningRx x0 s) := by
  unfold execOpeningRx
  exact (KeptStep.next (kept_ifBolt h _ (fun _ h100 => (Kept.ite h100 (kept_onFirst h100 _ _ (fun _ h101 => (Kept.ite (kept_openingEdges (kept_sat (Kept.upd h101) _ _) _) (Kept.upd h101))))))))

theorem kept_mismatchOn {a s : State} (h : Kept a s) (x1 : ℕ) :
    Kept a (State.mismatchOn s x1) := by
  unfold State.mismatchOn
  exact (kept_reviewSource (kept_irq (Kept.ite (kept_sat h _ _) (kept_declareEdge (kept_sat h _ _) _ _ _)) _ _))

theorem kept_execClaimWaitExpiry {a s : State} (h : Kept a s) :
    KeptStep a (execClaimWaitExpiry s) := by
  unfold execClaimWaitExpiry
  exact (KeptStep.next (kept_ifBolt h _ (fun _ h100 => (by split; exact (Kept.ite (Kept.upd h100) h100); exact h100))))

theorem kept_execEdgeRx {a s : State} (h : Kept a s) (x0 : Fin 2) (x1 : Frame) :
    KeptStep a (execEdgeRx x0 x1 s) := by
  unfold execEdgeRx
  exact (KeptStep.next (kept_ifBolt h _ (fun _ h100 => (kept_edge h100 _ _))))

theorem kept_announce {a s : State} (h : Kept a s) (x1 : ℕ) (x2 : Frame) :
    Kept a (State.announce s x1 x2) := by
  unfold State.announce
  exact (Kept.ite h (Kept.ite (Kept.ite (Kept.ite h (Kept.upd (kept_set h _ _))) (Kept.ite (Kept.upd (Kept.ite h (Kept.upd (kept_set h _ _)))) (Kept.upd (Kept.ite h (Kept.upd (kept_set h _ _)))))) (kept_censusPut (Kept.ite (Kept.ite h (Kept.upd (kept_set h _ _))) (Kept.ite (Kept.upd (Kept.ite h (Kept.upd (kept_set h _ _)))) (Kept.upd (Kept.ite h (Kept.upd (kept_set h _ _)))))) _ _)))

theorem kept_execBeaconLoss {a s : State} (h : Kept a s) :
    KeptStep a (execBeaconLoss s) := by
  unfold execBeaconLoss
  exact (KeptStep.next (kept_ifBolt h _ (fun _ h100 => (Kept.ite (kept_sendClaim (kept_irq (kept_setRole (Kept.upd h100) _) _ _) _) h100))))

theorem kept_execRingHeal {a s : State} (h : Kept a s) (x0 : Requester) :
    KeptStep a (execRingHeal x0 s) := by
  unfold execRingHeal
  exact (KeptStep.next (kept_command h _ _ _ _ (fun _ h100 => (kept_asMaster h100 _ (fun _ h101 => (kept_cmdHeal h101))))))

theorem kept_execMsgSend {a s : State} (h : Kept a s) (x0 : Requester) (x1 : Word) :
    KeptStep a (execMsgSend x0 x1 s) := by
  unfold execMsgSend
  exact (KeptStep.next (kept_command h _ _ _ _ (fun _ h100 => (kept_mailSend h100))))

theorem kept_beacon {a s : State} (h : Kept a s) (x1 : ℕ) (x2 : Frame) :
    Kept a (State.beacon s x1 x2) := by
  unfold State.beacon
  exact (Kept.ite h (Kept.ite (kept_mismatchOn h _) (Kept.ite h (kept_onFirst h _ _ (fun _ h100 => (Kept.ite (Kept.ite (kept_followBeacon (kept_resign h100) _) (kept_set h100 _ _)) (kept_followBeacon h100 _)))))))

theorem kept_execBeaconRx {a s : State} (h : Kept a s) (x0 : Fin 2) (x1 : Frame) :
    KeptStep a (execBeaconRx x0 x1 s) := by
  unfold execBeaconRx
  exact (KeptStep.next (kept_ifBolt h _ (fun _ h100 => (kept_beacon h100 _ _))))

theorem kept_execAnnounceRx {a s : State} (h : Kept a s) (x0 : Fin 2) (x1 : Frame) :
    KeptStep a (execAnnounceRx x0 x1 s) := by
  unfold execAnnounceRx
  exact (KeptStep.next (kept_ifBolt h _ (fun _ h100 => (kept_announce h100 _ _))))

theorem kept_execTakenRx {a s : State} (h : Kept a s) (x0 : Frame) :
    KeptStep a (execTakenRx x0 s) := by
  unfold execTakenRx
  exact (KeptStep.next (kept_ifBolt h _ (fun _ h100 => (Kept.ite h100 (kept_onFirst h100 _ _ (fun _ h101 => (Kept.ite (kept_sendJoinAck (Kept.upd h101) _ _ _) (kept_sendJoinAck (kept_censusPut (Kept.upd h101) _ _) _ _ _))))))))

theorem kept_joinAck {a s : State} (h : Kept a s) (x1 : Frame) :
    Kept a (State.joinAck s x1) := by
  unfold State.joinAck
  exact (Kept.ite h (kept_onFirst h _ _ (fun _ h100 => (Kept.ite (Kept.ite (kept_waitHeal (kept_plainRole (Kept.ite (kept_takeAddr (Kept.upd h100) _ _) (kept_takeAddr (Kept.upd h100) _ _)))) (kept_plainRole (Kept.ite (kept_takeAddr (Kept.upd h100) _ _) (kept_takeAddr (Kept.upd h100) _ _)))) (Kept.ite (Kept.ite (Kept.upd h100) (Kept.ite (kept_irq (Kept.upd (kept_set (Kept.upd h100) _ _)) _ _) (kept_dropAddr (Kept.upd h100)))) (Kept.ite (kept_irq (Kept.upd (Kept.upd h100)) _ _) (kept_irq (kept_plainRole (Kept.ite (Kept.upd h100) (kept_sets (Kept.upd h100) _))) _ _)))))))

theorem kept_execJoinAckRx {a s : State} (h : Kept a s) (x0 : Frame) :
    KeptStep a (execJoinAckRx x0 s) := by
  unfold execJoinAckRx
  exact (KeptStep.next (kept_ifBolt h _ (fun _ h100 => (kept_joinAck h100 _))))

end Sys2Proof.Machine
end

