-- ==== Sys2Proof/Laws/KeptBring.lean ====
section
/-! SUPPORT. What the operations of Machine/Bring.lean keep. -/

namespace Sys2Proof.Machine

set_option Elab.async false
set_option linter.unusedTactic false

theorem kept_clearDeskew {a s : State} (h : Kept a s) (x1 : ℕ) :
    Kept a (State.clearDeskew s x1) := by
  unfold State.clearDeskew
  exact (kept_setPort h _ _)

theorem kept_clearRx {a s : State} (h : Kept a s) (x1 : ℕ) :
    Kept a (State.clearRx s x1) := by
  unfold State.clearRx
  exact (kept_set (kept_setPort (kept_clearDeskew (kept_each h _ _ (fun _ _ h100 => (kept_sets (kept_setLane h100 _ _) _))) _) _ _) _ _)

theorem kept_setBring {a s : State} (h : Kept a s) (x1 : ℕ) (x2 : ℕ) :
    Kept a (State.setBring s x1 x2) := by
  unfold State.setBring
  exact (kept_set h _ _)

theorem kept_alarmNow {a s : State} (h : Kept a s) :
    Kept a (State.alarmNow s) := by
  unfold State.alarmNow
  exact (kept_alarmCommand (Kept.upd h))

theorem kept_alarmDue {a s : State} (h : Kept a s) :
    Kept a (State.alarmDue s) := by
  unfold State.alarmDue
  exact (Kept.ite (kept_alarmNow h) h)

theorem kept_dropKeys {a s : State} (h : Kept a s) (x1 : ℕ) :
    Kept a (State.dropKeys s x1) := by
  unfold State.dropKeys
  exact (Kept.ite h (Kept.ite (Kept.upd h) (kept_set (Kept.upd h) _ _)))

theorem kept_leftUp {a s : State} (h : Kept a s) (x1 : ℕ) (x2 : ℕ) :
    Kept a (State.leftUp s x1 x2) := by
  unfold State.leftUp
  exact (kept_irq (Kept.ite (kept_trunkLost (kept_dropKeys (kept_cutIngress (kept_clrB h _ _) _) _) _ _) (kept_switchTrunkDown (kept_dropKeys (kept_cutIngress (kept_clrB h _ _) _) _) _)) _ _)

theorem kept_portFault {a s : State} (h : Kept a s) (x1 : ℕ) (x2 : ℕ) :
    Kept a (State.portFault s x1 x2) := by
  unfold State.portFault
  exact (Kept.ite (kept_leftUp (kept_set (kept_setBring h _ _) _ _) _ _) (kept_dropKeys (kept_cutIngress (kept_set (kept_setBring h _ _) _ _) _) _))

theorem kept_setLanes {a s : State} (h : Kept a s) (x1 : ℕ) (x2 : ℕ → Fld) (x3 : ℕ) :
    Kept a (State.setLanes s x1 x2 x3) := by
  unfold State.setLanes
  exact (kept_each h _ _ (fun _ _ h100 => (kept_set h100 _ _)))

theorem kept_waitSignal {a s : State} (h : Kept a s) (x1 : ℕ) :
    Kept a (State.waitSignal s x1) := by
  unfold State.waitSignal
  exact (kept_sets (kept_setLanes (kept_setLanes (kept_clearRx h _) _ _ _) _ _ _) _)

theorem kept_saveTaps {a s : State} (h : Kept a s) (x1 : ℕ) :
    Kept a (State.saveTaps s x1) := by
  unfold State.saveTaps
  exact (kept_setLane h _ _)

theorem kept_enterUp {a s : State} (h : Kept a s) (x1 : ℕ) :
    Kept a (State.enterUp s x1) := by
  unfold State.enterUp
  exact (kept_alarmDue (kept_buildAll (kept_irq (Kept.ite (kept_trunkUp (kept_setPort (kept_setB (kept_each (kept_setBring h _ _) _ _ (fun _ _ h100 => (kept_saveTaps h100 _))) _ _) _ _) _) (kept_switchPortUp (kept_setPort (kept_setB (kept_each (kept_setBring h _ _) _ _ (fun _ _ h101 => (kept_saveTaps h101 _))) _ _) _ _) _)) _ _) _))

theorem kept_setMod {a s : State} (h : Kept a s) (x1 : ℕ) (x2 : ModSt) :
    Kept a (State.setMod s x1 x2) := by
  unfold State.setMod
  exact (Kept.upd h)

theorem kept_driveLp {a s : State} (h : Kept a s) (x1 : ℕ) :
    Kept a (State.driveLp s x1) := by
  unfold State.driveLp
  exact (Kept.ite h (kept_emit (kept_setMod h _ _) _))

theorem kept_portDark {a s : State} (h : Kept a s) (x1 : ℕ) :
    Kept a (State.portDark s x1) := by
  unfold State.portDark
  exact (Kept.ite (kept_driveLp (kept_sets (kept_setPort (kept_clearRx h _) _ _) _) _) (kept_sets (kept_setPort (kept_clearRx h _) _ _) _))

theorem kept_portOff {a s : State} (h : Kept a s) (x1 : ℕ) :
    Kept a (State.portOff s x1) := by
  unfold State.portOff
  exact (kept_set (kept_portDark h _) _ _)

theorem kept_portClose {a s : State} (h : Kept a s) (x1 : ℕ) :
    Kept a (State.portClose s x1) := by
  unfold State.portClose
  exact (Kept.ite (kept_leftUp (kept_each (kept_sets (kept_setBring (Kept.ite (kept_set h _ _) (kept_idleRow (kept_set h _ _) _)) _ _) _) _ _ (fun _ _ h100 => (kept_sendKeeps h100 _))) _ _) (Kept.ite (kept_set h _ _) (kept_portOff (kept_dropKeys (kept_cutIngress (kept_set h _ _) _) _) _)))

theorem kept_startTx {a s : State} (h : Kept a s) (x1 : ℕ) :
    Kept a (State.startTx s x1) := by
  unfold State.startTx
  exact (kept_setPort (kept_each h _ _ (fun _ _ h100 => (kept_setLane (Kept.ite h100 (kept_used h100)) _ _))) _ _)

theorem kept_portOn {a s : State} (h : Kept a s) (x1 : ℕ) :
    Kept a (State.portOn s x1) := by
  unfold State.portOn
  exact (Kept.ite (kept_sets h _) (Kept.ite (kept_driveLp (kept_waitSignal (Kept.ite (kept_startTx (kept_sets h _) _) (kept_sets h _)) _) _) (kept_waitSignal (Kept.ite (kept_startTx (kept_sets h _) _) (kept_sets h _)) _)))

end Sys2Proof.Machine
end

