-- ==== Sys2Proof/Laws/KeptKeys.lean ====
section
/-! SUPPORT. What the operations of Machine/Keys.lean keep. -/

namespace Sys2Proof.Machine

set_option Elab.async false
set_option linter.unusedTactic false

theorem kept_lockKeys {a s : State} (h : Kept a s) :
    Kept a (State.lockKeys s) := by
  unfold State.lockKeys
  exact (kept_sets h _)

theorem kept_sendAgree {a s : State} (h : Kept a s) (x1 : ℕ) (x2 : ℕ) (x3 : ℕ) (x4 : List Byte) :
    Kept a (State.sendAgree s x1 x2 x3 x4) := by
  unfold State.sendAgree
  exact (kept_each h _ _ (fun _ _ h100 => (kept_sendCtrl h100 _ _ _)))

theorem kept_linkFail {a s : State} (h : Kept a s) (x1 : ℕ) (x2 : ℕ) (x3 : Bool) :
    Kept a (State.linkFail s x1 x2 x3) := by
  unfold State.linkFail
  exact (kept_irq (kept_portFault (kept_sat (kept_sets (Kept.ite (kept_sendAgree h _ _ _ _) h) _) _ _) _ _) _ _)

theorem kept_keyRecord {a s : State} (h : Kept a s) (x1 x2 x3 x4 x5 x6 x7 : Nat) :
    Kept a (State.keyRecord s x1 x2 x3 x4 x5 x6 x7) := by
  unfold State.keyRecord
  exact (kept_boltProgress h _ _ _ _)

theorem keyRecord_fuses (s : State) (a b c d e f g : Nat) : (s.keyRecord a b c d e f g).fuses = s.fuses := by
  unfold State.keyRecord State.boltProgress State.boltNvs
  split
  · rfl
  · split
    · rfl
    · rfl
    · split
      · rfl
      · exact irq_fuses _ _ _

theorem kept_tamperAct {a s : State} (h : Kept a s) (x1 : ℕ) :
    Kept a (State.tamperAct s x1) := by
  unfold State.tamperAct
  exact (Kept.ite (by split; exact (Kept.upd (kept_irq h _ _)); exact (kept_lockKeys (kept_irq h _ _))) (Kept.ite (kept_each (Kept.upd (kept_set (kept_irq h _ _) _ _)) _ _ (fun _ _ h102 => (Kept.ite (kept_linkFail h102 _ _ _) h102))) (kept_keyRecord (kept_lockKeys (Kept.upd (kept_irq h _ _))) _ _ _ _ _ _ _)))

theorem kept_tamperDeliver {a s : State} (h : Kept a s) :
    Kept a (State.tamperDeliver s) := by
  unfold State.tamperDeliver
  exact (Kept.ite h (Kept.ite (Kept.ite (kept_set h _ _) h) (Kept.ite (kept_tamperAct (Kept.upd (kept_set h _ _)) _) (kept_lockKeys (kept_irq (Kept.upd (kept_set h _ _)) _ _)))))

theorem kept_setSlot {a s : State} (h : Kept a s) (x1 : ℕ) (x2 : KeySlot) :
    Kept a (State.setSlot s x1 x2) := by
  unfold State.setSlot
  exact (Kept.upd h)

theorem kept_takeSlots {a s : State} (h : Kept a s) (x1 : List ℕ) (x2 : ℕ) :
    Kept a (State.takeSlots s x1 x2) := by
  unfold State.takeSlots
  exact (Kept.ite (kept_irq (kept_sets (Kept.upd (kept_each h _ _ (fun _ _ h100 => (kept_setSlot h100 _ _)))) _) _ _) (Kept.upd (kept_each h _ _ (fun _ _ h101 => (kept_setSlot h101 _ _)))))

theorem kept_extendMr {a s : State} (h : Kept a s) (x1 : ℕ) (x2 : List Byte) :
    Kept a (State.extendMr s x1 x2) := by
  unfold State.extendMr
  exact (Kept.ite (kept_set (Kept.upd h) _ _) (kept_keyRecord (kept_takeSlots (kept_set (Kept.upd h) _ _) _ _) _ _ _ _ _ _ _))

theorem kept_showFuses {a s : State} (h : Kept a s) :
    Kept a (State.showFuses s) := by
  unfold State.showFuses
  exact (kept_each (kept_each (kept_each (kept_sets h _) _ _ (fun _ _ h100 => (kept_wr h100 _ _))) _ _ (fun _ _ h101 => (kept_wr h101 _ _))) _ _ (fun _ _ h102 => (kept_wr h102 _ _)))

theorem kept_showDevPub {a s : State} (h : Kept a s) :
    Kept a (State.showDevPub s) := by
  unfold State.showDevPub
  exact (kept_each h _ _ (fun _ _ h100 => (kept_wr h100 _ _)))

theorem kept_keyOn {a s : State} (h : Kept a s) :
    Kept a (State.keyOn s) := by
  unfold State.keyOn
  exact (kept_sets (kept_showDevPub (Kept.ite (kept_showFuses h) (Kept.upd (kept_showFuses h)))) _)

theorem kept_lcGuard {a s : State} (h : Kept a s) (x1 : ℕ) (x2 : State → State) (h2 : ∀ y0, Kept a y0 → Kept a (x2 y0)) :
    Kept a (State.lcGuard s x1 x2) := by
  unfold State.lcGuard
  exact (Kept.ite (kept_set h _ _) (Kept.ite (kept_set h _ _) (h2 _ h)))

theorem kept_lcResult {a s : State} (h : Kept a s) (x1 : ℕ) (x2 : ℕ) :
    Kept a (State.lcResult s x1 x2) := by
  unfold State.lcResult
  exact (kept_keyRecord (kept_set h _ _) _ _ _ _ _ _ _)

theorem kept_blowOwner {a s : State} (h : Kept a s) : Kept a s.blowOwner := by
  unfold State.blowOwner
  extract_lets s1
  have h1 : Kept a s1 := kept_keyRecord h _ _ _ _ _ _ _
  have e1 : s1.fuses = s.fuses := keyRecord_fuses _ _ _ _ _ _ _ _
  by_cases c : (decide (s.fuses.lifecycle = 1) && s.ownerZero) = true
  · rw [if_pos c]
    refine kept_lcResult (kept_showFuses ?_) _ _
    simp only [Bool.and_eq_true, decide_eq_true_eq, State.ownerZero] at c
    refine ⟨⟨fun k => ?_, h1.inv.regs, h1.inv.sram, h1.inv.nvs, h1.inv.usb, h1.inv.msix⟩,
      ⟨h1.fuses.uid, h1.fuses.root, h1.fuses.devCert, h1.fuses.lifecycle, fun o => ?_⟩, h1.flash, h1.pending⟩
    · change s1.fuses.lifecycle = 2 at k
      rw [e1, c.1] at k; cases k
    · exfalso
      have k := h1.fuses.owner o
      rw [e1] at k
      have c2 := c.2
      unfold Fuses.owned at o
      rw [← k] at o
      simp only [List.any_eq_true, bne_iff_ne, ne_eq] at o
      simp only [List.all_eq_true, decide_eq_true_eq] at c2
      obtain ⟨b, hb, hn⟩ := o
      exact hn (c2 b hb)
  · rw [if_neg c]
    exact kept_lcResult h _ _

theorem kept_deploy {a s : State} (h : Kept a s) : Kept a s.deploy := by
  unfold State.deploy
  by_cases c : (decide (s.fuses.lifecycle = 1) && !s.ownerZero && s.on F.PAT_STATUS_STRUCTURE
      && !s.on F.PAT_STATUS_UNOWNED) = true
  · rw [if_pos c]
    have h1 : Kept a (s.keyRecord 0x12 64 1 0 0 0 0) := kept_keyRecord h _ _ _ _ _ _ _
    have e1 : (s.keyRecord 0x12 64 1 0 0 0 0).fuses = s.fuses := keyRecord_fuses _ _ _ _ _ _ _ _
    refine kept_lcResult (kept_showFuses ?_) _ _
    simp only [Bool.and_eq_true, decide_eq_true_eq, State.ownerZero, Bool.not_eq_true', List.all_eq_false] at c
    refine ⟨⟨fun _ => ?_, h1.inv.regs, h1.inv.sram, h1.inv.nvs, h1.inv.usb, h1.inv.msix⟩,
      ⟨h1.fuses.uid, h1.fuses.root, h1.fuses.devCert, ?_, h1.fuses.owner⟩, h1.flash, h1.pending⟩
    · obtain ⟨b, hb, hn⟩ := c.1.1.2
      change (s.keyRecord 0x12 64 1 0 0 0 0).fuses.owner.any _ = true
      rw [e1, List.any_eq_true]
      exact ⟨b, hb, by simpa using hn⟩
    · have k := h1.fuses.lifecycle
      rw [e1, c.1.1.1] at k
      exact le_trans k (Nat.le_succ 1)
  · rw [if_neg c]
    exact kept_lcResult h _ _

theorem kept_eraseAll {a s : State} (h : Kept a s) :
    Kept a (State.eraseAll s) := by
  unfold State.eraseAll
  exact (kept_takeSlots h _ _)

theorem kept_setRetired {a s : State} (h : Kept a s) (l : s.fuses.lifecycle ≤ 3) : Kept a s.setRetired :=
  ⟨⟨fun k => by change 3 = 2 at k; omega, h.inv.regs, h.inv.sram, h.inv.nvs, h.inv.usb, h.inv.msix⟩,
    ⟨h.fuses.uid, h.fuses.root, h.fuses.devCert, le_trans h.fuses.lifecycle l, h.fuses.owner⟩, h.flash, h.pending⟩

theorem eraseAll_fuses (s : State) : s.eraseAll.fuses = s.fuses := by
  unfold State.eraseAll State.takeSlots
  dsimp -iota only
  rw [if_neg (by decide)]
  exact each_fuses s _ _ fun _ _ => rfl

theorem kept_retire {a s : State} (h : Kept a s) : Kept a s.retire := by
  unfold State.retire
  by_cases c : s.fuses.lifecycle ≠ 1 ∧ s.fuses.lifecycle ≠ 2
  · rw [if_pos c]; exact kept_lcResult h _ _
  · rw [if_neg c]
    have h1 : Kept a (s.keyRecord 0x13 64 1 0 0 0 0).eraseAll := kept_eraseAll (kept_keyRecord h _ _ _ _ _ _ _)
    have e1 : ((s.keyRecord 0x13 64 1 0 0 0 0).eraseAll).fuses = s.fuses := by rw [eraseAll_fuses, keyRecord_fuses]
    generalize (s.keyRecord 0x13 64 1 0 0 0 0).eraseAll = r at *
    exact Kept.ite (kept_lcResult h _ _)
      (kept_lcResult (kept_showDevPub (kept_showFuses (kept_setRetired h1 (by rw [e1]; omega)))) _ _)

theorem kept_lcDo {a s : State} (h : Kept a s) (x1 : ℕ) :
    Kept a (State.lcDo s x1) := by
  unfold State.lcDo
  exact (by split; exact (kept_lcGuard h _ _ (fun _ h101 => (kept_blowOwner h101))); exact (kept_lcGuard h _ _ (fun _ h103 => (kept_deploy h103))); exact (kept_lcGuard h _ _ (fun _ h105 => (kept_retire h105))); exact h)

theorem kept_execLcRetire {a s : State} (h : Kept a s) (x0 : Requester) :
    KeptStep a (execLcRetire x0 s) := by
  unfold execLcRetire
  exact (KeptStep.next (kept_command h _ _ _ _ (fun _ h100 => (kept_lcDo h100 _))))

theorem kept_keyGoAs {a s : State} (h : Kept a s) (x1 : ℕ) (x2 : KeyPlan) :
    Kept a (State.keyGoAs s x1 x2) := by
  unfold State.keyGoAs
  exact (Kept.ite (kept_set h _ _) (Kept.ite (kept_sets h _) (Kept.ite (kept_sets h _) (by split; exact (kept_sets h _); exact (Kept.ite (kept_keyRecord (kept_sets (Kept.upd (kept_used (Kept.ite (kept_setSlot h _ _) h))) _) _ _ _ _ _ _ _) (kept_sets (Kept.upd (kept_used (Kept.ite (kept_setSlot h _ _) h))) _))))))

theorem kept_keyGo {a s : State} (h : Kept a s) (x1 : ℕ) :
    Kept a (State.keyGo s x1) := by
  unfold State.keyGo
  exact (kept_keyGoAs h _ _)

theorem kept_execKeyDerive {a s : State} (h : Kept a s) (x0 : Requester) :
    KeptStep a (execKeyDerive x0 s) := by
  unfold execKeyDerive
  exact (KeptStep.next (kept_command h _ _ _ _ (fun _ h100 => (kept_keyGo h100 _))))

theorem kept_setLink {a s : State} (h : Kept a s) (x1 : ℕ) (x2 : LinkSt) :
    Kept a (State.setLink s x1 x2) := by
  unfold State.setLink
  exact (Kept.upd h)

theorem kept_keyStart {a s : State} (h : Kept a s) (x1 : ℕ) :
    Kept a (State.keyStart s x1) := by
  unfold State.keyStart
  exact (Kept.ite (kept_linkFail (kept_setBring h _ _) _ _ _) (kept_sendAgree (kept_used (kept_sets (kept_setLink (kept_used (kept_used (kept_setBring h _ _))) _ _) _)) _ _ _ _))

theorem kept_execKeyUnseal {a s : State} (h : Kept a s) (x0 : Requester) :
    KeptStep a (execKeyUnseal x0 s) := by
  unfold execKeyUnseal
  exact (KeptStep.next (kept_command h _ _ _ _ (fun _ h100 => (kept_keyGo h100 _))))

theorem kept_execKeyErase {a s : State} (h : Kept a s) (x0 : Requester) :
    KeptStep a (execKeyErase x0 s) := by
  unfold execKeyErase
  exact (KeptStep.next (kept_command h _ _ _ _ (fun _ h100 => (kept_keyGo h100 _))))

theorem kept_execKeyPublic {a s : State} (h : Kept a s) (x0 : Requester) :
    KeptStep a (execKeyPublic x0 s) := by
  unfold execKeyPublic
  exact (KeptStep.next (kept_command h _ _ _ _ (fun _ h100 => (kept_keyGo h100 _))))

theorem kept_statementRx {a s : State} (h : Kept a s) (x1 : ℕ) (x2 : List Byte) :
    Kept a (State.statementRx s x1 x2) := by
  unfold State.statementRx
  exact (by split; exact (kept_linkFail h _ _ _); exact (by (try dsimp -iota only); split; exact (kept_sendAgree (kept_sets (kept_each (kept_setLink h _ _) _ _ (fun _ _ h103 => (kept_wr h103 _ _))) _) _ _ _ _)))

theorem kept_execMrLock1 {a s : State} (h : Kept a s) (x0 : Requester) :
    KeptStep a (execMrLock1 x0 s) := by
  unfold execMrLock1
  exact (KeptStep.next (kept_command h _ _ _ _ (fun _ h100 => h100)))

theorem kept_execKeyGenerate {a s : State} (h : Kept a s) (x0 : Requester) :
    KeptStep a (execKeyGenerate x0 s) := by
  unfold execKeyGenerate
  exact (KeptStep.next (kept_command h _ _ _ _ (fun _ h100 => (kept_keyGo h100 _))))

theorem kept_execLcDeploy {a s : State} (h : Kept a s) (x0 : Requester) :
    KeptStep a (execLcDeploy x0 s) := by
  unfold execLcDeploy
  exact (KeptStep.next (kept_command h _ _ _ _ (fun _ h100 => (kept_lcDo h100 _))))

theorem kept_endKey {a s : State} (h : Kept a s) (x1 : KeyRun) (x2 : List Byte) (x3 : ℕ) (x4 : ℕ) :
    Kept a (State.endKey s x1 x2 x3 x4) := by
  unfold State.endKey
  exact (kept_ntKeyDone (kept_irq (Kept.ite (kept_sets (Kept.ite (kept_keyRecord (kept_sets (Kept.upd (kept_sramStore h _ _)) _) _ _ _ _ _ _ _) (kept_sets (Kept.upd (kept_sramStore h _ _)) _)) _) (Kept.ite (kept_keyRecord (kept_sets (Kept.upd (kept_sramStore h _ _)) _) _ _ _ _ _ _ _) (kept_sets (Kept.upd (kept_sramStore h _ _)) _))) _ _) _ _)

theorem kept_execKeyAttest {a s : State} (h : Kept a s) (x0 : Requester) :
    KeptStep a (execKeyAttest x0 s) := by
  unfold execKeyAttest
  exact (KeptStep.next (kept_command h _ _ _ _ (fun _ h100 => (kept_keyGo h100 _))))

theorem kept_execKeySign {a s : State} (h : Kept a s) (x0 : Requester) :
    KeptStep a (execKeySign x0 s) := by
  unfold execKeySign
  exact (KeptStep.next (kept_command h _ _ _ _ (fun _ h100 => (kept_keyGo h100 _))))

theorem kept_confirmRx {a s : State} (h : Kept a s) (x1 : ℕ) (x2 : List Byte) :
    Kept a (State.confirmRx s x1 x2) := by
  unfold State.confirmRx
  exact (by (try dsimp -iota only); split; exact (Kept.ite (kept_enterUp (kept_irq (kept_sat (kept_set (Kept.upd (kept_setLink h _ _)) _ _) _ _) _ _) _) (kept_linkFail h _ _ _)); exact (kept_linkFail h _ _ _))

theorem kept_execTmpClear {a s : State} (h : Kept a s) (x0 : Requester) (x1 : Word) :
    KeptStep a (execTmpClear x0 x1 s) := by
  unfold execTmpClear
  exact (KeptStep.next (kept_command h _ _ _ _ (fun _ h100 => (Kept.ite (kept_set h100 _ _) (kept_tamperDeliver (Kept.upd (kept_sets h100 _)))))))

theorem kept_agreeRx {a s : State} (h : Kept a s) (x1 : ℕ) (x2 : ℕ) :
    Kept a (State.agreeRx s x1 x2) := by
  unfold State.agreeRx
  exact (Kept.ite h (Kept.ite (Kept.ite (kept_statementRx (kept_setLink h _ _) _ _) (Kept.ite (kept_confirmRx (kept_setLink h _ _) _ _) (kept_linkFail (kept_setLink h _ _) _ _ _))) (kept_setLink h _ _)))

theorem kept_execKeyAgreeRx {a s : State} (h : Kept a s) (x0 : Fin 2) (x1 : BitVec 504) :
    KeptStep a (execKeyAgreeRx x0 x1 s) := by
  unfold execKeyAgreeRx
  exact (KeptStep.next (kept_ifBolt h _ (fun _ h100 => (kept_agreeRx h100 _ _))))

theorem kept_debugOpen {a s : State} (h : Kept a s) :
    Kept a (State.debugOpen s) := by
  unfold State.debugOpen
  exact (Kept.ite (kept_showDevPub (Kept.upd (kept_set (kept_eraseAll h) _ _))) (kept_set (kept_eraseAll h) _ _))

theorem kept_execLcBlowOwner {a s : State} (h : Kept a s) (x0 : Requester) :
    KeptStep a (execLcBlowOwner x0 s) := by
  unfold execLcBlowOwner
  exact (KeptStep.next (kept_command h _ _ _ _ (fun _ h100 => (kept_lcDo h100 _))))

theorem kept_tamper {a s : State} (h : Kept a s) (x1 : ℕ) (x2 : Bool) (x3 : ℕ) :
    Kept a (State.tamper s x1 x2 x3) := by
  unfold State.tamper
  exact (Kept.ite h (Kept.ite (kept_set h _ _) (Kept.ite (kept_irq (Kept.upd (kept_sets (kept_sat (kept_spoolRecord (kept_set (kept_setB h _ _) _ _) _ _ _ _ _ _) _ _) _)) _ _) (Kept.ite (kept_tamperAct (kept_nvsPut (kept_set (kept_irq (Kept.upd (kept_sets (kept_sat (kept_spoolRecord (kept_set (kept_setB h _ _) _ _) _ _ _ _ _ _) _ _) _)) _ _) _ _) _) _) (kept_irq (Kept.upd (kept_set (kept_nvsPut (kept_set (kept_irq (Kept.upd (kept_sets (kept_sat (kept_spoolRecord (kept_set (kept_setB h _ _) _ _) _ _ _ _ _ _) _ _) _)) _ _) _ _) _) _ _)) _ _)))))

theorem kept_mrExt {a s : State} (h : Kept a s) (x1 : Requester) :
    Kept a (State.mrExt s x1) := by
  unfold State.mrExt
  exact (Kept.ite h (Kept.ite (kept_set (kept_extendMr (kept_set (kept_set h _ _) _ _) _ _) _ _) (kept_set (kept_set (kept_set h _ _) _ _) _ _)))

theorem kept_execMrExtend {a s : State} (h : Kept a s) (x0 : Requester) (x1 : Word) :
    KeptStep a (execMrExtend x0 x1 s) := by
  unfold execMrExtend
  exact (KeptStep.next (kept_command h _ _ _ _ (fun _ h100 => (kept_mrExt h100 _))))

theorem kept_finishKey {a s : State} (h : Kept a s) (x1 : KeyRun) :
    Kept a (State.finishKey s x1) := by
  unfold State.finishKey
  exact (Kept.ite (kept_endKey h _ _ _ _) (Kept.ite (Kept.ite (Kept.ite (kept_endKey (kept_setB (kept_setSlot h _ _) _ _) _ _ _ _) (kept_endKey (kept_setSlot h _ _) _ _ _ _)) (kept_endKey (kept_setSlot h _ _) _ _ _ _)) (Kept.ite (Kept.ite (kept_endKey (by (try dsimp -iota only); split; exact (kept_setSlot h _ _); exact (kept_setSlot h _ _); exact h) _ _ _ _) (kept_endKey (by (try dsimp -iota only); split; exact (kept_setSlot (kept_used (kept_boltNvs (kept_set h _ _) _)) _ _); exact (kept_setSlot (kept_used (kept_boltNvs (kept_set h _ _) _)) _ _); exact (kept_used (kept_boltNvs (kept_set h _ _) _))) _ _ _ _)) (Kept.ite (kept_endKey (kept_takeSlots (Kept.upd h) _ _) _ _ _ _) (kept_endKey (by (try dsimp -iota only); split; exact (kept_setSlot h _ _); exact (kept_setSlot h _ _); exact h) _ _ _ _)))))

theorem kept_execKeyAgreeTimeout {a s : State} (h : Kept a s) (x0 : Fin 2) (x1 : ℕ) :
    KeptStep a (execKeyAgreeTimeout x0 x1 s) := by
  unfold execKeyAgreeTimeout
  exact (KeptStep.next (kept_ifBolt h _ (fun _ h100 => (Kept.ite (kept_linkFail h100 _ _ _) h100))))

theorem kept_execTamperEvent {a s : State} (h : Kept a s) (x0 : Fin 6) (x1 : TamperReading) :
    KeptStep a (execTamperEvent x0 x1 s) := by
  unfold execTamperEvent
  exact (KeptStep.next (kept_ifAon h _ (fun _ h100 => (kept_tamper h100 _ _ _))))

theorem kept_execOpDone {a s : State} (h : Kept a s) :
    KeptStep a (execOpDone s) := by
  unfold execOpDone
  exact (KeptStep.next (kept_ifBolt h _ (fun _ h100 => (by split; exact (Kept.ite (Kept.upd h100) (kept_finishKey h100 _)); exact h100))))

theorem kept_execKeyAgree {a s : State} (h : Kept a s) (x0 : Requester) :
    KeptStep a (execKeyAgree x0 s) := by
  unfold execKeyAgree
  exact (KeptStep.next (kept_command h _ _ _ _ (fun _ h100 => (kept_keyGo h100 _))))

theorem kept_keyResume {a s : State} (h : Kept a s) :
    Kept a (State.keyResume s) := by
  unfold State.keyResume
  exact (by split; exact (Kept.ite (kept_finishKey h _) h); exact h)

theorem kept_execKeySeal {a s : State} (h : Kept a s) (x0 : Requester) :
    KeptStep a (execKeySeal x0 s) := by
  unfold execKeySeal
  exact (KeptStep.next (kept_command h _ _ _ _ (fun _ h100 => (kept_keyGo h100 _))))

end Sys2Proof.Machine
end

