-- ==== Sys2Proof/Laws/KeptLanes.lean ====
section
/-! SUPPORT. What the operations of Machine/Lanes.lean keep. -/

namespace Sys2Proof.Machine

set_option Elab.async false
set_option linter.unusedTactic false

theorem kept_prbsIn {a s : State} (h : Kept a s) (l n : Nat) (bs : List Bool) : Kept a (s.prbsIn l n bs) := by
  induction n generalizing s bs with
  | zero => exact h
  | succ n ih =>
    unfold State.prbsIn
    dsimp -iota only
    split
    rename_i x bits errs rest _
    have h1 : Kept a (if s.on (F.LANE_PRBS_STATUS_LOCK l) then (s.count (4 * l + 1) bits).count (4 * l) errs else s) :=
      Kept.ite (kept_count (kept_count h _ _) _ _) h
    refine Kept.ite (kept_setLane h1 _ _) (ih (Kept.ite ?_ ?_) _)
    · exact kept_ntLock (kept_irq (kept_set (kept_setLane h1 _ _) _ _) _ _) _ _
    · exact kept_ntLock (kept_set (kept_setLane h1 _ _) _ _) _ _

theorem kept_prbsRx {a s : State} (h : Kept a s) (x1 : ℕ) (x2 : List Bool) :
    Kept a (State.prbsRx s x1 x2) := by
  unfold State.prbsRx
  exact (kept_ifBolt h _ (fun _ h100 => (Kept.ite (kept_prbsIn h100 _ _ _) h100)))

theorem kept_execPrbsLock {a s : State} (h : Kept a s) (x0 : Fin 20) (x1 : List Bool) (x2 : List Bool) :
    KeptStep a (execPrbsLock x0 x1 x2 s) := by
  unfold execPrbsLock
  exact (KeptStep.next (kept_prbsRx h _ _))

theorem kept_execPrbsLost {a s : State} (h : Kept a s) (x0 : Fin 20) (x1 : List Bool) (x2 : List Bool) :
    KeptStep a (execPrbsLost x0 x1 x2 s) := by
  unfold execPrbsLost
  exact (KeptStep.next (kept_prbsRx h _ _))

theorem kept_setPressure {a s : State} (h : Kept a s) (x1 : ℕ) (x2 : Bool) :
    Kept a (State.setPressure s x1 x2) := by
  unfold State.setPressure
  exact (kept_irq (Kept.ite (kept_setB (kept_set h _ _) _ _) (kept_clrB (kept_set h _ _) _ _)) _ _)

theorem kept_ifSending {a s : State} (h : Kept a s) (x1 : ℕ) (x2 : State → State) (h2 : ∀ y0, Kept a y0 → Kept a (x2 y0)) :
    Kept a (State.ifSending s x1 x2) := by
  unfold State.ifSending
  exact (kept_ifBolt h _ (fun _ h100 => (Kept.ite (h2 _ h100) h100)))

theorem kept_failDeskew {a s : State} (h : Kept a s) (x1 : ℕ) :
    Kept a (State.failDeskew s x1) := by
  unfold State.failDeskew
  exact (Kept.ite (kept_portFault (kept_sat (kept_each (kept_clearDeskew (kept_cutIngress h _) _) _ _ (fun _ _ h100 => (kept_setLane h100 _ _))) _ _) _ _) (Kept.ite (kept_portFault (kept_each (kept_clearDeskew (kept_cutIngress h _) _) _ _ (fun _ _ h101 => (kept_setLane h101 _ _))) _ _) (kept_each (kept_clearDeskew (kept_cutIngress h _) _) _ _ (fun _ _ h102 => (kept_setLane h102 _ _)))))

theorem kept_alignDone {a s : State} (h : Kept a s) (x1 : ℕ) (x2 : ℕ) :
    Kept a (State.alignDone s x1 x2) := by
  unfold State.alignDone
  exact (Kept.ite (kept_failDeskew (kept_set h _ _) _) (Kept.ite (kept_set h _ _) (Kept.ite (kept_setBring (kept_each (kept_setPort (kept_clearDeskew (kept_set h _ _) _) _ _) _ _ (fun _ _ h100 => (kept_setLane h100 _ _))) _ _) (kept_setPort (kept_clearDeskew (kept_set h _ _) _) _ _))))

theorem kept_modStart {a s : State} (h : Kept a s) (x1 : ℕ) (x2 : ℕ × Bool × ℕ) :
    Kept a (State.modStart s x1 x2) := by
  unfold State.modStart
  exact (kept_emit (kept_emit (kept_setMod h _ _) _) _)

theorem kept_execFaultRetry {a s : State} (h : Kept a s) (x0 : Fin 8) :
    KeptStep a (execFaultRetry x0 s) := by
  unfold execFaultRetry
  exact (KeptStep.next (kept_ifBolt h _ (fun _ h100 => (Kept.ite (kept_waitSignal h100 _) h100))))

theorem kept_lineReview {a s : State} (h : Kept a s) (x1 : ℕ) :
    Kept a (State.lineReview s x1) := by
  unfold State.lineReview
  exact (Kept.ite (Kept.ite (kept_setBring (kept_each (kept_clearDeskew h _) _ _ (fun _ _ h100 => (kept_setLane h100 _ _))) _ _) h) (Kept.ite (kept_portFault (kept_sat h _ _) _ _) (Kept.ite (kept_failDeskew h _) h)))

theorem kept_gainLock {a s : State} (h : Kept a s) (x1 : ℕ) (x2 : Bool) :
    Kept a (State.gainLock s x1 x2) := by
  unfold State.gainLock
  exact (kept_showLocks (kept_setLane (kept_sets h _) _ _) _)

theorem kept_dropLock {a s : State} (h : Kept a s) (x1 : ℕ) :
    Kept a (State.dropLock s x1) := by
  unfold State.dropLock
  exact (kept_showLocks (kept_setLane (Kept.ite h (kept_cutIngress (kept_sets h _) _)) _ _) _)

theorem kept_lineRx {a s : State} (h : Kept a s) (x1 : ℕ) (x2 : Stitch) :
    Kept a (State.lineRx s x1 x2) := by
  unfold State.lineRx
  exact (Kept.ite (Kept.ite (kept_setLane h _ _) (kept_sat (kept_setLane h _ _) _ _)) (kept_dropLock (Kept.ite (kept_setLane h _ _) (kept_sat (kept_setLane h _ _) _ _)) _))

theorem kept_linked {a s : State} (h : Kept a s) (x1 : ℕ) :
    Kept a (State.linked s x1) := by
  unfold State.linked
  exact (Kept.ite (kept_keyStart (kept_setBring h _ _) _) (kept_enterUp (kept_setBring h _ _) _))

theorem kept_keepIn {a s : State} (h : Kept a s) (x1 : ℕ) (x2 : Bool) (x3 : BitVec 512) :
    Kept a (State.keepIn s x1 x2 x3) := by
  unfold State.keepIn
  exact (Kept.ite (kept_setLane h _ _) (Kept.ite h (Kept.ite (Kept.ite (kept_portFault (kept_sets h _) _ _) (Kept.ite (kept_linked (kept_setLane (kept_sets h _) _ _) _) (kept_setLane (kept_sets h _) _ _))) (Kept.ite (Kept.ite (kept_portFault (kept_sets h _) _ _) (Kept.ite (kept_setPort (kept_sets h _) _ _) (kept_sets h _))) (kept_sets h _)))))

theorem kept_alignIn {a s : State} (h : Kept a s) (x1 : ℕ) (x2 : Stitch) :
    Kept a (State.alignIn s x1 x2) := by
  unfold State.alignIn
  exact (Kept.ite (kept_alignDone (kept_showLocks (kept_setLane (kept_sets (Kept.ite (kept_sat h _ _) h) _) _ _) _) _ _) (kept_showLocks (kept_setLane (kept_sets (Kept.ite (kept_sat h _ _) h) _) _ _) _))

theorem kept_idleCount {a s : State} (h : Kept a s) (x1 : ℕ) (x2 : Stitch) (x3 : BitVec 512) :
    Kept a (State.idleCount s x1 x2 x3) := by
  unfold State.idleCount
  exact (Kept.ite (kept_count (kept_count h _ _) _ _) h)

theorem kept_rowStitch {a s : State} (h : Kept a s) (x1 : ℕ) (x2 : ℕ) (x3 : RowStitch) :
    Kept a (State.rowStitch s x1 x2 x3) := by
  unfold State.rowStitch
  exact (Kept.ite (kept_frameIn (Kept.ite (kept_setPort h _ _) h) _ _ _) (Kept.ite (kept_frayRx (Kept.ite (kept_setPort h _ _) h) _ _) (Kept.ite (Kept.ite (kept_sat (Kept.ite (kept_setPort h _ _) h) _ _) (Kept.ite (Kept.ite (kept_setPort h _ _) h) (Kept.ite (kept_sat (Kept.ite (kept_setPort h _ _) h) _ _) (kept_emit (Kept.ite (kept_setPort h _ _) h) _)))) (Kept.ite (kept_setPort h _ _) h))))

theorem kept_rowNext {a s : State} (h : Kept a s) (x1 : ℕ) (x2 : ℕ) (x3 : RowStitch) :
    Kept a (State.rowNext s x1 x2 x3) := by
  unfold State.rowNext
  exact (Kept.ite (kept_rowEnd (kept_setPort (Kept.ite (kept_setPort (Kept.ite (kept_slip (kept_setLane h _ _)) (kept_setLane h _ _)) _ _) (kept_rowStitch (kept_setPort (Kept.ite (kept_slip (kept_setLane h _ _)) (kept_setLane h _ _)) _ _) _ _ _)) _ _) _) (kept_setPort (Kept.ite (kept_setPort (Kept.ite (kept_slip (kept_setLane h _ _)) (kept_setLane h _ _)) _ _) (kept_rowStitch (kept_setPort (Kept.ite (kept_slip (kept_setLane h _ _)) (kept_setLane h _ _)) _ _) _ _ _)) _ _))

theorem kept_rowsOut {a s : State} (h : Kept a s) (p n : Nat) : Kept a (s.rowsOut p n) := by
  induction n generalizing s with
  | zero => exact h
  | succ n ih =>
    unfold State.rowsOut
    refine Kept.ite h ?_
    split
    · exact h
    · split
      · exact h
      · exact ih (kept_rowNext h _ _ _)

theorem kept_rowPush {a s : State} (h : Kept a s) (x1 : ℕ) (x2 : RowStitch) (x3 : Bool) :
    Kept a (State.rowPush s x1 x2 x3) := by
  unfold State.rowPush
  exact (Kept.ite (kept_failDeskew (kept_rowsOut (Kept.ite (Kept.ite (kept_setLane h _ _) h) (kept_setLane (Kept.ite (kept_setLane h _ _) h) _ _)) _ _) _) (kept_rowsOut (Kept.ite (Kept.ite (kept_setLane h _ _) h) (kept_setLane (Kept.ite (kept_setLane h _ _) h) _ _)) _ _))

theorem kept_stitchIn {a s : State} (h : Kept a s) (x1 : ℕ) (x2 : Stitch) :
    Kept a (State.stitchIn s x1 x2) := by
  unfold State.stitchIn
  exact (Kept.ite (kept_lineRx h _ _) (Kept.ite (kept_keepIn (kept_lineRx h _ _) _ _ _) (kept_rowPush (Kept.ite (kept_alignIn (kept_lineRx h _ _) _ _) (Kept.ite (kept_idleCount (kept_lineRx h _ _) _ _ _) (kept_lineRx h _ _))) _ _ _)))

theorem kept_bitsIn {a s : State} (h : Kept a s) (l n : Nat) (bs : List Bool) : Kept a (s.bitsIn l n bs) := by
  induction n generalizing s bs with
  | zero => exact h
  | succ n ih =>
    unfold State.bitsIn
    refine Kept.ite h (Kept.ite ?_ (Kept.ite (kept_setLane h _ _) (ih (kept_stitchIn (kept_setLane h _ _) _ _) _)))
    split
    · exact kept_setLane h _ _
    · exact ih (kept_gainLock (kept_setLane h _ _) _ _) _

theorem kept_ebRead {a s : State} (h : Kept a s) (p n : Nat) : Kept a (s.ebRead p n) := by
  induction n generalizing s with
  | zero => exact h
  | succ n ih =>
    unfold State.ebRead
    exact ih (Kept.ite h (Kept.ite (kept_each (kept_slip h) _ _ fun _ _ k => kept_rowStitch k _ _ _) (kept_setPort h _ _)))

theorem kept_lineIn {a s : State} (h : Kept a s) (x1 : LineRx) :
    Kept a (State.lineIn s x1) := by
  unfold State.lineIn
  exact (kept_ifBolt h _ (fun _ h100 => (Kept.ite h100 (kept_lineReview (kept_bitsIn (kept_ebRead (kept_sat (kept_setLane h100 _ _) _ _) _ _) _ _ _) _))))

theorem kept_execIdleStitchRx {a s : State} (h : Kept a s) (x0 : Fin 20) (x1 : RxBits) :
    KeptStep a (execIdleStitchRx x0 x1 s) := by
  unfold execIdleStitchRx
  exact (KeptStep.next (kept_lineIn h _))

theorem kept_quadUneq {a s : State} (h : Kept a s) (x1 : ℕ) :
    Kept a (State.quadUneq s x1) := by
  unfold State.quadUneq
  exact (kept_each h _ _ (fun _ _ h100 => (kept_set h100 _ _)))

theorem kept_execCtrlStitchRx {a s : State} (h : Kept a s) (x0 : LineRx) :
    KeptStep a (execCtrlStitchRx x0 s) := by
  unfold execCtrlStitchRx
  exact (KeptStep.next (kept_lineIn h _))

theorem kept_ifManaged {a s : State} (h : Kept a s) (x1 : ℕ) (x2 : State → State) (h2 : ∀ y0, Kept a y0 → Kept a (x2 y0)) :
    Kept a (State.ifManaged s x1 x2) := by
  unfold State.ifManaged
  exact (kept_ifBolt h _ (fun _ h100 => (Kept.ite (h2 _ h100) h100)))

theorem kept_execModRemoved {a s : State} (h : Kept a s) (x0 : Fin 2) :
    KeptStep a (execModRemoved x0 s) := by
  unfold execModRemoved
  exact (KeptStep.next (kept_ifManaged h _ _ (fun _ h100 => (Kept.ite (kept_irq (kept_sets (kept_setMod h100 _ _) _) _ _) h100))))

theorem kept_execPortDisable {a s : State} (h : Kept a s) (x0 : Requester) (x1 : Fin 8) (x2 : Word) :
    KeptStep a (execPortDisable x0 x1 x2 s) := by
  unfold execPortDisable
  exact (KeptStep.next (kept_command h _ _ _ _ (fun _ h100 => (Kept.ite (kept_portClose h100 _) (Kept.ite (kept_set h100 _ _) h100)))))

theorem kept_eqLane {a s : State} (h : Kept a s) (x1 : ℕ) (x2 : List ℕ) :
    Kept a (State.eqLane s x1 x2) := by
  unfold State.eqLane
  exact (kept_sets h _)

theorem kept_execModPresent {a s : State} (h : Kept a s) (x0 : Fin 2) :
    KeptStep a (execModPresent x0 s) := by
  unfold execModPresent
  exact (KeptStep.next (kept_ifManaged h _ _ (fun _ h100 => (Kept.ite h100 (kept_emit (kept_set (kept_setMod h100 _ _) _ _) _)))))

theorem kept_loadStart {a s : State} (h : Kept a s) (x1 : ℕ) :
    Kept a (State.loadStart s x1) := by
  unfold State.loadStart
  exact (kept_each h _ _ (fun _ _ h100 => (kept_wr h100 _ _)))

theorem kept_execKeepaliveRx {a s : State} (h : Kept a s) (x0 : LineRx) :
    KeptStep a (execKeepaliveRx x0 s) := by
  unfold execKeepaliveRx
  exact (KeptStep.next (kept_lineIn h _))

theorem kept_modGo {a s : State} (h : Kept a s) (x1 : ℕ) (x2 : Bool) :
    Kept a (State.modGo s x1 x2) := by
  unfold State.modGo
  exact (Kept.ite h (Kept.ite (kept_setMod h _ _) (kept_modStart h _ _)))

theorem kept_execModCmdRead {a s : State} (h : Kept a s) (x0 : Requester) (x1 : Fin 2) (x2 : BitVec 8) :
    KeptStep a (execModCmdRead x0 x1 x2 s) := by
  unfold execModCmdRead
  exact (KeptStep.next (kept_command h _ _ _ _ (fun _ h100 => (kept_modGo h100 _ _))))

theorem kept_modShow {a s : State} (h : Kept a s) (x1 : ℕ) (x2 : Bool × ℕ × ℕ × ℕ) :
    Kept a (State.modShow s x1 x2) := by
  unfold State.modShow
  exact (kept_sets h _)

theorem kept_tryCdr {a s : State} (h : Kept a s) (x1 : ℕ) :
    Kept a (State.tryCdr s x1) := by
  unfold State.tryCdr
  exact (Kept.ite (kept_setBring (kept_sat h _ _) _ _) h)

theorem kept_modReady {a s : State} (h : Kept a s) (x1 : ℕ) (x2 : Bool) :
    Kept a (State.modReady s x1 x2) := by
  unfold State.modReady
  exact (Kept.ite h (Kept.ite (kept_tryCdr (kept_set h _ _) _) (Kept.ite (kept_irq (kept_setMod h _ _) _ _) (kept_setMod h _ _))))

theorem kept_execModCmdDone {a s : State} (h : Kept a s) (x0 : Fin 2) (x1 : Bool) (x2 : BitVec 8) :
    KeptStep a (execModCmdDone x0 x1 x2 s) := by
  unfold execModCmdDone
  exact (KeptStep.next (kept_ifBolt h _ (fun _ h100 => (by split; exact h100; exact (kept_when (kept_when (kept_irq (Kept.ite (kept_set (kept_emit (kept_sets (kept_setMod h100 _ _) _) _) _ _) (kept_emit (kept_sets (kept_setMod h100 _ _) _) _)) _ _) _ _ (fun _ h103 => (kept_modShow h103 _ _))) _ _ (fun _ h104 => (kept_modReady h104 _ _)))))))

theorem kept_execDockWindowEnd {a s : State} (h : Kept a s) (x0 : Fin 8) :
    KeptStep a (execDockWindowEnd x0 s) := by
  unfold execDockWindowEnd
  exact (KeptStep.next (kept_ifBolt h _ (fun _ h100 => (Kept.ite h100 (Kept.ite (kept_setPort h100 _ _) (kept_waitSignal (kept_setPort h100 _ _) _))))))

theorem kept_prbsWrite {a s : State} (h : Kept a s) (x1 : Requester) (x2 : ℕ) (x3 : Word) :
    Kept a (State.prbsWrite s x1 x2 x3) := by
  unfold State.prbsWrite
  exact (Kept.ite (Kept.ite h (by split; exact (kept_answer (kept_sticky h _ _) _ _ _); exact (kept_turnAway h _ _ _))) (kept_command h _ _ _ _ (fun _ h102 => (kept_prbsFollow h102 _ _ _))))

theorem kept_execPrbsClear {a s : State} (h : Kept a s) (x0 : Requester) (x1 : Fin 20) (x2 : Word) :
    KeptStep a (execPrbsClear x0 x1 x2 s) := by
  unfold execPrbsClear
  exact (KeptStep.next (kept_prbsWrite h _ _ _))

theorem kept_execAlignIntervalEnd {a s : State} (h : Kept a s) (x0 : Fin 8) :
    KeptStep a (execAlignIntervalEnd x0 s) := by
  unfold execAlignIntervalEnd
  exact (KeptStep.next (kept_ifSending h _ _ (fun _ h100 => (kept_setRate (Kept.ite (kept_setPressure (kept_sets (kept_setPort (kept_each h100 _ _ (fun _ _ h101 => (kept_set (kept_setLane (Kept.ite (kept_saveTaps h101 _) h101) _ _) _ _))) _ _) _) _ _) (Kept.ite (kept_setPressure (kept_sets (kept_setPort (kept_each h100 _ _ (fun _ _ h102 => (kept_set (kept_setLane (Kept.ite (kept_saveTaps h102 _) h102) _ _) _ _))) _ _) _) _ _) (kept_sets (kept_setPort (kept_each h100 _ _ (fun _ _ h103 => (kept_set (kept_setLane (Kept.ite (kept_saveTaps h103 _) h103) _ _) _ _))) _ _) _))) _ _))))

theorem kept_execPrbsInject {a s : State} (h : Kept a s) (x0 : Requester) (x1 : Fin 20) (x2 : Word) :
    KeptStep a (execPrbsInject x0 x1 x2 s) := by
  unfold execPrbsInject
  exact (KeptStep.next (kept_prbsWrite h _ _ _))

theorem kept_execModCmdWrite {a s : State} (h : Kept a s) (x0 : Requester) (x1 : Fin 2) (x2 : BitVec 8) :
    KeptStep a (execModCmdWrite x0 x1 x2 s) := by
  unfold execModCmdWrite
  exact (KeptStep.next (kept_command h _ _ _ _ (fun _ h100 => (kept_modGo h100 _ _))))

theorem kept_execEqDone {a s : State} (h : Kept a s) (x0 : Fin 8) (x1 : List (List ℕ)) :
    KeptStep a (execEqDone x0 x1 s) := by
  unfold execEqDone
  exact (KeptStep.next (kept_ifBolt h _ (fun _ h100 => (Kept.ite (kept_setBring (kept_each h100 _ _ (fun _ _ h101 => (kept_eqLane h101 _ _))) _ _) (Kept.ite (kept_each h100 _ _ (fun _ _ h102 => (kept_eqLane h102 _ _))) h100)))))

theorem kept_execIdleRowTx {a s : State} (h : Kept a s) (x0 : Fin 8) :
    KeptStep a (execIdleRowTx x0 s) := by
  unfold execIdleRowTx
  exact (KeptStep.next (kept_ifSending h _ _ (fun _ h100 => (Kept.ite h100 (kept_idleRow (kept_readySlot h100 _) _)))))

theorem kept_execSignalStable {a s : State} (h : Kept a s) (x0 : Fin 8) :
    KeptStep a (execSignalStable x0 s) := by
  unfold execSignalStable
  exact (KeptStep.next (kept_ifBolt h _ (fun _ h100 => (Kept.ite h100 (kept_tryCdr (kept_setLanes h100 _ _ _) _)))))

theorem kept_execAlignRx {a s : State} (h : Kept a s) (x0 : Fin 20) (x1 : List Bool) (x2 : List Bool) (x3 : List Bool) (x4 : ℕ) :
    KeptStep a (execAlignRx x0 x1 x2 x3 x4 s) := by
  unfold execAlignRx
  exact (KeptStep.next (kept_lineIn h _))

theorem kept_execClosingDone {a s : State} (h : Kept a s) (x0 : Fin 8) :
    KeptStep a (execClosingDone x0 s) := by
  unfold execClosingDone
  exact (KeptStep.next (kept_ifBolt h _ (fun _ h100 => (Kept.ite (kept_portOff h100 _) h100))))

theorem kept_execPrbsCtrlWrite {a s : State} (h : Kept a s) (x0 : Requester) (x1 : Fin 20) (x2 : Word) :
    KeptStep a (execPrbsCtrlWrite x0 x1 x2 s) := by
  unfold execPrbsCtrlWrite
  exact (KeptStep.next (kept_prbsWrite h _ _ _))

theorem kept_execAlignTx {a s : State} (h : Kept a s) (x0 : Fin 8) :
    KeptStep a (execAlignTx x0 s) := by
  unfold execAlignTx
  exact (KeptStep.next (kept_ifSending h _ _ (fun _ h100 => (kept_alignRow h100 _))))

theorem kept_execSignalLoss {a s : State} (h : Kept a s) (x0 : Fin 20) :
    KeptStep a (execSignalLoss x0 s) := by
  unfold execSignalLoss
  exact (KeptStep.next (kept_ifBolt h _ (fun _ h100 => (Kept.ite h100 (kept_lineReview (kept_dropLock (kept_sets h100 _) _) _)))))

theorem kept_execDfeTapStep {a s : State} (h : Kept a s) (x0 : Fin 20) (x1 : Fin 12) (x2 : List (Bool × Bool)) :
    KeptStep a (execDfeTapStep x0 x1 x2 s) := by
  unfold execDfeTapStep
  exact (KeptStep.next (kept_ifBolt h _ (fun _ h100 => (Kept.ite h100 (by (try dsimp -iota only); split; exact (kept_set (kept_setLane h100 _ _) _ _))))))

theorem kept_execKeepaliveTx {a s : State} (h : Kept a s) (x0 : Fin 8) (x1 : Fin 4) :
    KeptStep a (execKeepaliveTx x0 x1 s) := by
  unfold execKeepaliveTx
  exact (KeptStep.next (kept_ifSending h _ _ (fun _ h100 => (Kept.ite (kept_sendKeep h100 _ _) h100))))

theorem kept_execModReadyPoll {a s : State} (h : Kept a s) (x0 : Fin 2) (x1 : Bool) :
    KeptStep a (execModReadyPoll x0 x1 s) := by
  unfold execModReadyPoll
  exact (KeptStep.next (kept_ifManaged h _ _ (fun _ h100 => (Kept.ite (kept_setMod h100 _ _) (kept_modReady h100 _ _)))))

theorem kept_execFrameRx {a s : State} (h : Kept a s) (x0 : LineRx) :
    KeptStep a (execFrameRx x0 s) := by
  unfold execFrameRx
  exact (KeptStep.next (kept_lineIn h _))

theorem kept_execModPoll {a s : State} (h : Kept a s) (x0 : Fin 2) (x1 : Bool) (x2 : ModLos) (x3 : BitVec 16) (x4 : Bool) :
    KeptStep a (execModPoll x0 x1 x2 x3 x4 s) := by
  unfold execModPoll
  exact (KeptStep.next (kept_ifManaged h _ _ (fun _ h100 => (Kept.ite h100 (Kept.ite (kept_setMod h100 _ _) (by (try dsimp -iota only); split; exact (kept_modStart (kept_setMod (kept_setMod (kept_modShow h100 _ _) _ _) _ _) _ _); exact (kept_setMod (kept_modShow h100 _ _) _ _)))))))

theorem kept_execBringTimeout {a s : State} (h : Kept a s) (x0 : Fin 8) :
    KeptStep a (execBringTimeout x0 s) := by
  unfold execBringTimeout
  exact (KeptStep.next (kept_ifBolt h _ (fun _ h100 => (Kept.ite (kept_portFault h100 _ _) h100))))

theorem kept_execCdrLock {a s : State} (h : Kept a s) (x0 : Fin 8) :
    KeptStep a (execCdrLock x0 s) := by
  unfold execCdrLock
  exact (KeptStep.next (kept_ifBolt h _ (fun _ h100 => (Kept.ite (kept_setBring (kept_each (kept_setLanes h100 _ _ _) _ _ (fun _ _ h101 => (kept_set (kept_loadStart h101 _) _ _))) _ _) h100))))

theorem kept_execModReset {a s : State} (h : Kept a s) (x0 : Requester) (x1 : Fin 2) (x2 : Word) :
    KeptStep a (execModReset x0 x1 x2 s) := by
  unfold execModReset
  exact (KeptStep.next (kept_command h _ _ _ _ (fun _ h100 => (kept_driveLp (kept_emit (kept_set h100 _ _) _) _))))

theorem kept_execFrayRx {a s : State} (h : Kept a s) (x0 : LineRx) :
    KeptStep a (execFrayRx x0 s) := by
  unfold execFrayRx
  exact (KeptStep.next (kept_lineIn h _))

theorem kept_execDfeLoad {a s : State} (h : Kept a s) (x0 : Requester) (x1 : Fin 20) (x2 : Word) :
    KeptStep a (execDfeLoad x0 x1 x2 s) := by
  unfold execDfeLoad
  exact (KeptStep.next (kept_command h _ _ _ _ (fun _ h100 => (kept_set (kept_each h100 _ _ (fun _ _ h101 => (kept_wr h101 _ _))) _ _))))

theorem kept_execFrameStitchRx {a s : State} (h : Kept a s) (x0 : Fin 20) (x1 : RxBits) :
    KeptStep a (execFrameStitchRx x0 x1 s) := by
  unfold execFrameStitchRx
  exact (KeptStep.next (kept_lineIn h _))

end Sys2Proof.Machine
end

