-- ==== Sys2Proof/Laws/KeptStc.lean ====
section
/-! SUPPORT. What the operations of Machine/Stc.lean keep. -/

namespace Sys2Proof.Machine

set_option Elab.async false
set_option linter.unusedTactic false

theorem kept_showChan {a s : State} (h : Kept a s) (x1 : ℕ) :
    Kept a (State.showChan s x1) := by
  unfold State.showChan
  exact (kept_sets (kept_set h _ _) _)

theorem kept_suspect {a s : State} (h : Kept a s) (x1 : ℕ) :
    Kept a (State.suspect s x1) := by
  unfold State.suspect
  exact (kept_setB h _ _)

theorem kept_execStateStale {a s : State} (h : Kept a s) (x0 : Fin 128) :
    KeptStep a (execStateStale x0 s) := by
  unfold execStateStale
  exact (KeptStep.next (kept_ifBolt h _ (fun _ h100 => (Kept.ite (kept_showChan (kept_irq (kept_suspect (kept_sat (kept_set h100 _ _) _ _) _) _ _) _) h100))))

theorem kept_cvuWrite {a s : State} (h : Kept a s) (x1 : Requester) (x2 : ℕ) (x3 : ℕ) (x4 : Word) (x5 : State → State) (h5 : ∀ y0, Kept a y0 → Kept a (x5 y0)) :
    Kept a (State.cvuWrite s x1 x2 x3 x4 x5) := by
  unfold State.cvuWrite
  exact (kept_command h _ _ _ _ (fun _ h100 => (Kept.ite (kept_sticky h100 _ _) (Kept.ite (h5 _ h100) h100))))

theorem kept_unitMismatch {a s : State} (h : Kept a s) (x1 : ℕ) :
    Kept a (State.unitMismatch s x1) := by
  unfold State.unitMismatch
  exact (kept_setB h _ _)

theorem kept_unitAlive {a s : State} (h : Kept a s) (x1 : ℕ) (x2 : ℕ) (x3 : ℕ) (x4 : ℕ) :
    Kept a (State.unitAlive s x1 x2 x3 x4) := by
  unfold State.unitAlive
  exact (Kept.ite (kept_sat (kept_sets h _) _ _) (Kept.ite (kept_irq (kept_unitMismatch (kept_sat (kept_sets h _) _ _) _) _ _) (kept_sets h _)))

theorem kept_execCvuAlive {a s : State} (h : Kept a s) (x0 : Requester) (x1 : Fin 144) (x2 : Word) :
    KeptStep a (execCvuAlive x0 x1 x2 s) := by
  unfold execCvuAlive
  exact (KeptStep.next (kept_cvuWrite h _ _ _ _ _ (fun _ h100 => (kept_unitAlive h100 _ _ _ _))))

theorem kept_setChan {a s : State} (h : Kept a s) (x1 : ℕ) (x2 : Channel) :
    Kept a (State.setChan s x1 x2) := by
  unfold State.setChan
  exact (Kept.upd h)

theorem kept_stateSend {a s : State} (h : Kept a s) (x1 : ℕ) :
    Kept a (State.stateSend s x1) := by
  unfold State.stateSend
  exact (kept_each (Kept.ite (Kept.upd (kept_set (kept_sets (kept_showChan (kept_setChan h _ _) _) _) _ _)) (kept_sets (kept_showChan (kept_setChan h _ _) _) _)) _ _ (fun _ _ h100 => (kept_sourceFrame h100 _ _ _ _ _)))

theorem kept_stcCycle {a s : State} (h : Kept a s) :
    Kept a (State.stcCycle s) := by
  unfold State.stcCycle
  exact (Kept.ite h (kept_each h _ _ (fun _ _ h100 => (Kept.ite (Kept.ite (kept_stateSend h100 _) h100) (Kept.ite (kept_setChan h100 _ _) h100)))))

theorem kept_cvuBytes {a s : State} (h : Kept a s) (x1 : ℕ) (x2 : List Byte) :
    Kept a (State.cvuBytes s x1 x2) := by
  unfold State.cvuBytes
  exact (kept_set (Kept.upd h) _ _)

theorem kept_cvuRestart {a s : State} (h : Kept a s) (x1 : ℕ) :
    Kept a (State.cvuRestart s x1) := by
  unfold State.cvuRestart
  exact (kept_cvuBytes (Kept.upd h) _ _)

theorem kept_cvuCompare {a s : State} (h : Kept a s) (x1 : ℕ) :
    Kept a (State.cvuCompare s x1) := by
  unfold State.cvuCompare
  exact (Kept.ite (kept_set h _ _) (kept_irq (kept_unitMismatch (kept_sat (kept_set h _ _) _ _) _) _ _))

theorem kept_cvuCmd {a s : State} (h : Kept a s) (x1 : Requester) (x2 : ℕ) (x3 : Word) :
    Kept a (State.cvuCmd s x1 x2 x3) := by
  unfold State.cvuCmd
  exact (kept_cvuWrite h _ _ _ _ _ (fun _ h100 => (Kept.ite (kept_cvuCompare (Kept.ite (kept_cvuBytes (Kept.ite (kept_cvuRestart h100 _) h100) _ _) (Kept.ite (kept_cvuRestart h100 _) h100)) _) (Kept.ite (kept_cvuBytes (Kept.ite (kept_cvuRestart h100 _) h100) _ _) (Kept.ite (kept_cvuRestart h100 _) h100)))))

theorem kept_execCvuCompare {a s : State} (h : Kept a s) (x0 : Requester) (x1 : Fin 144) (x2 : Word) :
    KeptStep a (execCvuCompare x0 x1 x2 s) := by
  unfold execCvuCompare
  exact (KeptStep.next (kept_cvuCmd h _ _ _))

theorem kept_acceptState {a s : State} (h : Kept a s) (x1 : ℕ) (x2 : ℕ) (x3 : ℕ) (x4 : Frame) :
    Kept a (State.acceptState s x1 x2 x3 x4) := by
  unfold State.acceptState
  exact (kept_showChan (Kept.ite (kept_irq (kept_suspect (kept_set (Kept.ite (kept_set (Kept.ite (kept_sets (kept_setChan h _ _) _) (kept_set (kept_sets (kept_setChan h _ _) _) _ _)) _ _) (Kept.ite (kept_sets (kept_setChan h _ _) _) (kept_set (kept_sets (kept_setChan h _ _) _) _ _))) _ _) _) _ _) (Kept.ite (kept_set (Kept.ite (kept_sets (kept_setChan h _ _) _) (kept_set (kept_sets (kept_setChan h _ _) _) _ _)) _ _) (Kept.ite (kept_sets (kept_setChan h _ _) _) (kept_set (kept_sets (kept_setChan h _ _) _) _ _)))) _)

theorem kept_consume {a s : State} (h : Kept a s) (x1 : ℕ) (x2 : Frame) :
    Kept a (State.consume s x1 x2) := by
  unfold State.consume
  exact (Kept.ite (kept_sat h _ _) (Kept.ite (kept_sat h _ _) (Kept.ite (kept_irq (Kept.ite (kept_unitMismatch (kept_sat (kept_set (kept_set (kept_sat (Kept.ite (kept_set h _ _) h) _ _) _ _) _ _) _ _) _) (kept_set (kept_sat (Kept.ite (kept_set h _ _) h) _ _) _ _)) _ _) (Kept.ite (kept_acceptState (Kept.ite (kept_set h _ _) h) _ _ _ _) (Kept.ite (kept_acceptState (kept_set (Kept.ite (kept_set h _ _) h) _ _) _ _ _ _) (kept_acceptState (Kept.ite (kept_sat (kept_unitAlive (kept_set (Kept.ite (kept_set h _ _) h) _ _) _ _ _ _) _ _) (Kept.ite (kept_sat (kept_unitAlive (kept_set (Kept.ite (kept_set h _ _) h) _ _) _ _ _ _) _ _) (kept_unitAlive (kept_set (Kept.ite (kept_set h _ _) h) _ _) _ _ _ _))) _ _ _ _))))))

theorem kept_chanOff {a s : State} (h : Kept a s) (x1 : ℕ) :
    Kept a (State.chanOff s x1) := by
  unfold State.chanOff
  exact (kept_sets h _)

theorem kept_stateFrame {a s : State} (h : Kept a s) (x1 : ℕ) (x2 : Frame) :
    Kept a (State.stateFrame s x1 x2) := by
  unfold State.stateFrame
  exact (Kept.ite h (Kept.ite (kept_irq (kept_sat h _ _) _ _) (kept_consume h _ _)))

theorem kept_execCvuFeedByte {a s : State} (h : Kept a s) (x0 : Requester) (x1 : Fin 144) (x2 : Word) :
    KeptStep a (execCvuFeedByte x0 x1 x2 s) := by
  unfold execCvuFeedByte
  exact (KeptStep.next (kept_cvuCmd h _ _ _))

theorem kept_execCvuStart {a s : State} (h : Kept a s) (x0 : Requester) (x1 : Fin 144) (x2 : Word) :
    KeptStep a (execCvuStart x0 x1 x2 s) := by
  unfold execCvuStart
  exact (KeptStep.next (kept_cvuCmd h _ _ _))

theorem kept_execCvuData {a s : State} (h : Kept a s) (x0 : Requester) (x1 : Fin 144) (x2 : Word) :
    KeptStep a (execCvuData x0 x1 x2 s) := by
  unfold execCvuData
  exact (KeptStep.next (kept_cvuWrite h _ _ _ _ _ (fun _ h100 => (kept_cvuBytes h100 _ _))))

theorem kept_takeLo {a s : State} (h : Kept a s) (x1 : Requester) (x2 : ℕ) :
    Kept a (State.takeLo s x1 x2) := by
  unfold State.takeLo
  exact (by split; exact h; exact (Kept.upd (kept_storeWrite h _ _)))

theorem kept_execValueHiWrite {a s : State} (h : Kept a s) (x0 : Requester) (x1 : Fin 128) (x2 : Word) :
    KeptStep a (execValueHiWrite x0 x1 x2 s) := by
  unfold execValueHiWrite
  exact (KeptStep.next (kept_command h _ _ _ _ (fun _ h100 => (Kept.ite (kept_showChan (kept_setChan (kept_takeLo h100 _ _) _ _) _) (kept_takeLo h100 _ _)))))

theorem kept_chanOn {a s : State} (h : Kept a s) (x1 : ℕ) :
    Kept a (State.chanOn s x1) := by
  unfold State.chanOn
  exact (kept_showChan (Kept.ite (kept_sets (kept_sets (kept_setChan h _ _) _) _) (kept_sets (kept_setChan h _ _) _)) _)

end Sys2Proof.Machine
end

