-- ==== Sys2Proof/Laws/KeptAudio.lean ====
section
/-! SUPPORT. What the operations of Machine/Audio.lean keep. -/

namespace Sys2Proof.Machine

set_option Elab.async false
set_option linter.unusedTactic false

theorem kept_setRemote {a s : State} (h : Kept a s) (x1 : ℕ) (x2 : Remote) :
    Kept a (State.setRemote s x1 x2) := by
  unfold State.setRemote
  exact (Kept.upd h)

theorem kept_concealReview {a s : State} (h : Kept a s) :
    Kept a (State.concealReview s) := by
  unfold State.concealReview
  exact (kept_each h _ _ (fun _ _ h100 => (Kept.ite (kept_irq (kept_setRemote h100 _ _) _ _) (kept_setRemote h100 _ _))))

theorem kept_tdmWire {a s : State} (h : Kept a s) (x1 : ℕ) (x2 : List (Option ℕ)) :
    Kept a (State.tdmWire s x1 x2) := by
  unfold State.tdmWire
  exact (kept_emit h _)

theorem kept_slotValue {a s : State} (h : Kept a s) (x1 : ℕ) (x2 : ℕ) (x3 : ℕ) :
    Kept a (State.slotValue s x1 x2 x3).1 := by
  unfold State.slotValue
  exact (Kept.ite1 (Kept.pair h) (Kept.pair (Kept.ite (kept_used (kept_used h)) h)))

theorem kept_putInput {a s : State} (h : Kept a s) (x1 : ℕ) (x2 : ℕ) (x3 : ℕ) :
    Kept a (State.putInput s x1 x2 x3) := by
  unfold State.putInput
  exact (Kept.upd h)

theorem kept_capture {a s : State} (h : Kept a s) (x1 : ℕ) (x2 : ℕ) (x3 : List (BitVec 36)) :
    Kept a (State.capture s x1 x2 x3) := by
  unfold State.capture
  exact (kept_each h _ _ (fun _ _ h100 => (kept_putInput h100 _ _ _)))

theorem kept_playFrame {a s : State} (h : Kept a s) (x1 : ℕ) (x2 : ℕ) :
    Kept a (State.playFrame s x1 x2) := by
  unfold State.playFrame
  exact (Kept.ite (by split; rename_i hq; have h102 := Kept.eq hq (kept_foldl1 (Kept.pair h) _ _ (fun _ _ h100 => (by (try dsimp -iota only); exact Kept.ite1 (by split; rename_i hq; have h101 := Kept.eq hq (kept_slotValue h100 _ _ _); exact (Kept.pair h101)) (Kept.pair h100)))); exact (kept_tdmWire h102 _ _)) (kept_tdmWire h _ _))

theorem kept_execTdmMasterFrame {a s : State} (h : Kept a s) (x0 : Fin 16) (x1 : Fin 24) (x2 : List (BitVec 36)) :
    KeptStep a (execTdmMasterFrame x0 x1 x2 s) := by
  unfold execTdmMasterFrame
  exact (KeptStep.next (kept_ifBolt h _ (fun _ h100 => (Kept.ite (kept_capture (kept_playFrame h100 _ _) _ _ _) h100))))

theorem kept_pilot {a s : State} (h : Kept a s) (x1 : ℕ) :
    Kept a (State.pilot s x1).1 := by
  unfold State.pilot
  exact (by (try dsimp -iota only); exact Kept.ite1 (Kept.pair (Kept.ite h (Kept.upd h))) (Kept.pair (Kept.upd (Kept.ite (kept_used h) h))))

theorem kept_tdmGap {a s : State} (h : Kept a s) (x1 : ℕ) (x2 : ℕ) :
    Kept a (State.tdmGap s x1 x2) := by
  unfold State.tdmGap
  exact (Kept.upd h)

theorem kept_tdmSlip {a s : State} (h : Kept a s) (x1 : ℕ) (x2 : ℕ) :
    Kept a (State.tdmSlip s x1 x2) := by
  unfold State.tdmSlip
  exact (kept_irq (kept_sat (kept_set (Kept.upd (kept_tdmGap h _ _)) _ _) _ _) _ _)

theorem kept_rampTo {a s : State} (h : Kept a s) (x1 : ℕ) (x2 : ℤ) :
    Kept a (State.rampTo s x1 x2).1 := by
  unfold State.rampTo
  exact (Kept.pair (Kept.upd h))

theorem kept_mixLayer {a s : State} (h : Kept a s) (o : Nat) (win : Option Nat) (sums : List Int) (l : Nat) (y : Int)
    (c : Nat) : Kept a (s.mixLayer o win sums l y c).1 := by
  unfold State.mixLayer
  exact kept_rampTo (Kept.upd h) _ _

theorem kept_audPack {a s : State} (h : Kept a s) (x1 : ℕ) :
    Kept a (State.audPack s x1) := by
  unfold State.audPack
  exact (kept_each h _ _ (fun _ _ h100 => (kept_sourceFrame (Kept.upd h100) _ _ _ _ _)))

theorem kept_tdmRepeat {a s : State} (h : Kept a s) (x1 : ℕ) (x2 : ℕ) :
    Kept a (State.tdmRepeat s x1 x2) := by
  unfold State.tdmRepeat
  exact (kept_tdmSlip (kept_each h _ _ (fun _ _ h100 => (kept_putInput h100 _ _ _))) _ _)

theorem kept_execTdmFsync {a s : State} (h : Kept a s) (x0 : Fin 16) (x1 : BitVec 72) (x2 : List (BitVec 36)) :
    KeptStep a (execTdmFsync x0 x1 x2 s) := by
  unfold execTdmFsync
  exact (KeptStep.next (kept_ifBolt h _ (fun _ h100 => (Kept.ite (by (try dsimp -iota only); split; exact (kept_capture (kept_playFrame (Kept.ite (kept_set (Kept.upd (Kept.ite (kept_tdmGap h100 _ _) h100)) _ _) (Kept.upd (Kept.ite (kept_tdmGap h100 _ _) h100))) _ _) _ _ _); exact (Kept.ite (kept_capture (kept_playFrame (Kept.ite (kept_set (Kept.upd h100) _ _) (Kept.upd h100)) _ _) _ _ _) (Kept.ite (kept_tdmSlip (kept_playFrame h100 _ _) _ _) (Kept.ite (kept_capture (kept_playFrame (Kept.ite (kept_set (Kept.upd (kept_each h100 _ _ (fun _ _ h103 => (kept_tdmRepeat h103 _ _)))) _ _) (Kept.upd (kept_each h100 _ _ (fun _ _ h104 => (kept_tdmRepeat h104 _ _))))) _ _) _ _ _) (kept_capture (kept_playFrame (Kept.ite (kept_set (Kept.upd (kept_tdmSlip h100 _ _)) _ _) (Kept.upd (kept_tdmSlip h100 _ _))) _ _) _ _ _))))) h100))))

theorem kept_detArm {a s : State} (h : Kept a s) (x1 : ℕ) :
    Kept a (State.detArm s x1) := by
  unfold State.detArm
  exact (Kept.upd h)

theorem kept_audPrune {a s : State} (h : Kept a s) :
    Kept a (State.audPrune s) := by
  unfold State.audPrune
  exact (Kept.upd h)

theorem kept_mixCounts {a s : State} (h : Kept a s) (x1 : ℕ) (x2 : ℕ) (x3 : ℕ) :
    Kept a (State.mixCounts s x1 x2 x3) := by
  unfold State.mixCounts
  exact (Kept.ite (Kept.ite h (kept_irq (kept_sat (Kept.upd h) _ _) _ _)) (kept_irq (kept_sat (Kept.ite h (kept_irq (kept_sat (Kept.upd h) _ _) _ _)) _ _) _ _))

theorem kept_detCycle {a s : State} (h : Kept a s) :
    Kept a (State.detCycle s) := by
  unfold State.detCycle
  exact (Kept.upd h)

theorem kept_execDetIntegrationEnd {a s : State} (h : Kept a s) (x0 : Fin 64) :
    KeptStep a (execDetIntegrationEnd x0 s) := by
  unfold execDetIntegrationEnd
  exact (KeptStep.next (kept_ifBolt h _ (fun _ h100 => (by (try dsimp -iota only); split; exact h100; exact (Kept.ite h100 (Kept.ite (kept_irq (Kept.ite (kept_setB (kept_set (kept_sets (Kept.upd h100) _) _ _) _ _) (kept_clrB (kept_set (kept_sets (Kept.upd h100) _) _ _) _ _)) _ _) (kept_sets (Kept.upd h100) _)))))))

theorem kept_genReview {a s : State} (h : Kept a s) :
    Kept a (State.genReview s) := by
  unfold State.genReview
  exact (Kept.upd h)

theorem kept_feedDets {a s : State} (h : Kept a s) (x1 : ℕ) (x2 : ℕ) (x3 : ℕ) :
    Kept a (State.feedDets s x1 x2 x3) := by
  unfold State.feedDets
  exact (Kept.upd h)

theorem kept_mixTerms {a s : State} (h : Kept a s) (o cyc i : Nat) (play : Option Nat) :
    Kept a (s.mixTerms o cyc i play).1 := by
  unfold State.mixTerms
  refine kept_foldl1 (p := (s, _)) h _ _ fun p u k => ?_
  obtain ⟨s, sums, clips, bad⟩ := p
  refine Kept.ite1 k ?_
  extract_lets src l g
  split
  rename_i s1 gain hq
  exact Kept.eq hq (kept_rampTo k _ _)

theorem kept_mixLayers {a s : State} (h : Kept a s) (o : Nat) (sums : List Int) : Kept a (s.mixLayers o sums).1 := by
  unfold State.mixLayers
  exact kept_foldl1 (p := (s, _)) h _ _ fun _ _ k => kept_mixLayer k _ _ _ _ _ _

theorem kept_mixOutput {a s : State} (h : Kept a s) (o cyc i : Nat) (play : Option Nat) :
    Kept a (s.mixOutput o cyc i play).1 := by
  unfold State.mixOutput
  split
  rename_i s1 sums c1 bad hq
  have h1 := Kept.eq hq (kept_mixTerms h o cyc i play)
  split
  rename_i s2 y c2 hq2
  have h2 := Kept.eq hq2 (kept_mixLayers h1 _ _)
  split
  rename_i s3 pilot hq3
  have h3 := Kept.eq hq3 (kept_pilot h2 _)
  exact Kept.pair (kept_mixCounts h3 _ _ _)

theorem kept_execMixSample {a s : State} (h : Kept a s) (x0 : Fin 24) (x1 : Bool) :
    KeptStep a (execMixSample x0 x1 s) := by
  unfold execMixSample
  exact (KeptStep.next (kept_ifBolt h _ (fun _ h100 => (Kept.ite h100 (kept_each (Kept.ite (kept_genReview h100) (kept_feedDets (kept_genReview h100) _ _ _)) _ _ (fun _ _ h101 => (Kept.ite h101 (by split; rename_i hq; have h102 := Kept.eq hq (kept_mixOutput h101 _ _ _ _); exact (Kept.ite (Kept.upd h102) (Kept.upd h102))))))))))

theorem kept_tdmOn {a s : State} (h : Kept a s) (x1 : ℕ) :
    Kept a (State.tdmOn s x1) := by
  unfold State.tdmOn
  exact (kept_set (Kept.upd h) _ _)

theorem kept_storeTrio {a s : State} (h : Kept a s) (x1 : ℕ) (x2 : ℕ) (x3 : ℕ) (x4 : ℕ) (x5 : ℕ) :
    Kept a (State.storeTrio s x1 x2 x3 x4 x5) := by
  unfold State.storeTrio
  exact (Kept.ite (kept_sat h _ _) (Kept.ite h (Kept.ite (kept_sat (kept_setRemote (Kept.upd h) _ _) _ _) (kept_setRemote (Kept.upd h) _ _))))

theorem kept_execAudFrameRx {a s : State} (h : Kept a s) (x0 : Fin 1024) (x1 : Frame) :
    KeptStep a (execAudFrameRx x0 x1 s) := by
  unfold execAudFrameRx
  exact (KeptStep.next (kept_ifBolt h _ (fun _ h100 => (Kept.ite h100 (Kept.ite (kept_streamSink h100 _ _) (Kept.ite (kept_irq (kept_sat h100 _ _) _ _) (Kept.ite (kept_count h100 _ _) (kept_each h100 _ _ (fun _ _ h101 => (kept_each h101 _ _ (fun _ _ h102 => (kept_storeTrio h102 _ _ _ _ _))))))))))))

theorem kept_execTdmLost {a s : State} (h : Kept a s) (x0 : Fin 16) :
    KeptStep a (execTdmLost x0 s) := by
  unfold execTdmLost
  exact (KeptStep.next (kept_ifBolt h _ (fun _ h100 => (Kept.ite (kept_irq (kept_sat (kept_set (Kept.upd (kept_tdmGap h100 _ _)) _ _) _ _) _ _) h100))))

theorem kept_audOff {a s : State} (h : Kept a s) :
    Kept a (State.audOff s) := by
  unfold State.audOff
  exact (Kept.upd h)

theorem kept_resync {a s : State} (h : Kept a s) :
    Kept a (State.resync s) := by
  unfold State.resync
  exact (Kept.ite h (kept_each (Kept.upd h) _ _ (fun _ _ h100 => (Kept.ite (kept_sat h100 _ _) h100))))

theorem kept_layerActivity {a s : State} (h : Kept a s) (x1 : ℕ) :
    Kept a (State.layerActivity s x1) := by
  unfold State.layerActivity
  exact (kept_each h _ _ (fun _ _ h100 => (kept_set (Kept.upd h100) _ _)))

theorem kept_audCycle {a s : State} (h : Kept a s) :
    Kept a (State.audCycle s) := by
  unfold State.audCycle
  exact (Kept.ite h (Kept.ite (Kept.upd h) (kept_audPrune (kept_detCycle (kept_concealReview (kept_each (kept_audPack (kept_genReview (kept_resync h)) _) _ _ (fun _ _ h100 => (kept_layerActivity h100 _))))))))

theorem kept_tdmOff {a s : State} (h : Kept a s) (x1 : ℕ) :
    Kept a (State.tdmOff s x1) := by
  unfold State.tdmOff
  exact (kept_set h _ _)

theorem kept_execMixRead {a s : State} (h : Kept a s) (ch : Fin 1024) (cyc : BitVec 32) (i : Fin 24) (bad : Bool) :
    KeptStep a (execMixRead ch cyc i bad s) := by
  unfold execMixRead
  refine KeptStep.next (kept_ifBolt h _ fun s h => Kept.ite h ?_)
  extract_lets pc j q k w src here x s0
  have h0 : Kept a s0 := Kept.ite (kept_sat h _ _) h
  split
  rename_i v y hq
  exact Kept.ite (Kept.upd (Kept.upd (b := s0.setRemote _ _) (kept_setRemote h0 _ _)))
    (Kept.upd (b := s0.setRemote _ _) (kept_setRemote h0 _ _))

end Sys2Proof.Machine
end

