-- ==== Sys2Proof/Laws/KeptPcie.lean ====
section
/-! SUPPORT. What the operations of Machine/Pcie.lean keep. -/

namespace Sys2Proof.Machine

set_option Elab.async false
set_option linter.unusedTactic false

theorem kept_bridgeFault {a s : State} (h : Kept a s) (x1 : ℕ) (x2 : ℕ) (x3 : ℕ) (x4 : ℕ) :
    Kept a (State.bridgeFault s x1 x2 x3 x4) := by
  unfold State.bridgeFault
  exact (kept_emit (kept_irq (kept_boltFault (kept_sets (kept_sat h _ _) _) _ _ _ _ _) _ _) _)

theorem kept_setBlink {a s : State} (h : Kept a s) (x1 : ℕ) (x2 : BridgeLink) :
    Kept a (State.setBlink s x1 x2) := by
  unfold State.setBlink
  exact (Kept.upd h)

theorem kept_completionIn {a s : State} (h : Kept a s) (x1 : ℕ) (x2 : Tlp) :
    Kept a (State.completionIn s x1 x2) := by
  unfold State.completionIn
  exact (by (try dsimp -iota only); split; exact (Kept.ite (kept_bridgeFault (kept_emit (kept_sat h _ _) _) _ _ _ _) (kept_emit (kept_sat h _ _) _)); exact (Kept.ite (kept_irq (kept_sat (kept_emit (kept_setBlink h _ _) _) _ _) _ _) (kept_emit (kept_setBlink h _ _) _)))

theorem kept_mapBlink {a s : State} (h : Kept a s) (x1 : ℕ) (x2 : BridgeLink → BridgeLink) :
    Kept a (State.mapBlink s x1 x2) := by
  unfold State.mapBlink
  exact (kept_setBlink h _ _)

theorem kept_flushCtl {a s : State} (h : Kept a s) (x1 : ℕ) :
    Kept a (State.flushCtl s x1) := by
  unfold State.flushCtl
  exact (kept_each h _ _ (fun _ _ h100 => (Kept.ite (kept_sourceFrame (kept_mapBlink h100 _ _) _ _ _ _ _) h100)))

theorem kept_sendControl {a s : State} (h : Kept a s) (x1 : ℕ) (x2 : ℕ) (x3 : ℕ) (x4 : ℕ) (x5 : ℕ) (x6 : ℕ) (x7 : ℕ) (x8 : ℕ) :
    Kept a (State.sendControl s x1 x2 x3 x4 x5 x6 x7 x8) := by
  unfold State.sendControl
  exact (kept_flushCtl (kept_mapBlink h _ _) _)

theorem kept_unlock {a s : State} (h : Kept a s) (x1 : ℕ) :
    Kept a (State.unlock s x1) := by
  unfold State.unlock
  exact (kept_set h _ _)

theorem kept_execDownstreamReset {a s : State} (h : Kept a s) (x0 : Fin 32) (x1 : Bool) (x2 : Bool) :
    KeptStep a (execDownstreamReset x0 x1 x2 s) := by
  unfold execDownstreamReset
  exact (KeptStep.next (kept_ifBolt h _ (fun _ h100 => (Kept.ite (kept_sendControl (Kept.ite (kept_unlock h100 _) h100) _ _ _ _ _ _ _ _) h100))))

theorem kept_ledgerAdd {a s : State} (h : Kept a s) (x1 : ℕ) (x2 : ℕ) (x3 : ℕ) (x4 : ℕ) (x5 : ℕ) :
    Kept a (State.ledgerAdd s x1 x2 x3 x4 x5) := by
  unfold State.ledgerAdd
  exact (kept_bridgeFault (kept_ledgerRecord (kept_irq (kept_sat (kept_set (Kept.ite (kept_sat (Kept.upd h) _ _) (Kept.upd h)) _ _) _ _) _ _) _ _ _ _ _) _ _ _ _)

theorem kept_showCredits {a s : State} (h : Kept a s) (x1 : ℕ) :
    Kept a (State.showCredits s x1) := by
  unfold State.showCredits
  exact (kept_mapEntry h _ _)

theorem kept_lockLink {a s : State} (h : Kept a s) (x1 : ℕ) :
    Kept a (State.lockLink s x1) := by
  unfold State.lockLink
  exact (Kept.ite h (kept_irq (kept_set h _ _) _ _))

theorem kept_showLink {a s : State} (h : Kept a s) (x1 : ℕ) :
    Kept a (State.showLink s x1) := by
  unfold State.showLink
  exact (kept_sets h _)

theorem kept_closeFrame {a s : State} (h : Kept a s) (x1 : ℕ) :
    Kept a (State.closeFrame s x1) := by
  unfold State.closeFrame
  exact (by split; exact h; exact (Kept.ite (kept_sourceFrame (kept_mapBlink h _ _) _ _ _ _ _) (kept_mapBlink h _ _)))

theorem kept_enterTunnel {a s : State} (h : Kept a s) (x1 : ℕ) (x2 : ℕ) (x3 : Tlp) :
    Kept a (State.enterTunnel s x1 x2 x3) := by
  unfold State.enterTunnel
  exact (kept_showLink (Kept.ite (kept_closeFrame (Kept.ite (Kept.ite (kept_lockLink (Kept.ite (kept_set (kept_setBlink h _ _) _ _) (kept_setBlink h _ _)) _) (Kept.ite (kept_unlock (Kept.ite (kept_set (kept_setBlink h _ _) _ _) (kept_setBlink h _ _)) _) (Kept.ite (kept_set (kept_setBlink h _ _) _ _) (kept_setBlink h _ _)))) (Kept.ite (kept_set (kept_setBlink h _ _) _ _) (kept_setBlink h _ _))) _) (Kept.ite (Kept.ite (kept_lockLink (Kept.ite (kept_set (kept_setBlink h _ _) _ _) (kept_setBlink h _ _)) _) (Kept.ite (kept_unlock (Kept.ite (kept_set (kept_setBlink h _ _) _ _) (kept_setBlink h _ _)) _) (Kept.ite (kept_set (kept_setBlink h _ _) _ _) (kept_setBlink h _ _)))) (Kept.ite (kept_set (kept_setBlink h _ _) _ _) (kept_setBlink h _ _)))) _)

theorem kept_sendCredit {a s : State} (h : Kept a s) (x1 : ℕ) :
    Kept a (State.sendCredit s x1) := by
  unfold State.sendCredit
  exact (kept_sendControl (kept_mapBlink h _ _) _ _ _ _ _ _ _ _)

theorem kept_pcbCycle {a s : State} (h : Kept a s) :
    Kept a (State.pcbCycle s) := by
  unfold State.pcbCycle
  exact (kept_each h _ _ (fun _ _ h100 => (kept_flushCtl (Kept.ite (Kept.ite (kept_mapBlink h100 _ _) (kept_sendCredit (kept_mapBlink h100 _ _) _)) (kept_sendControl (kept_mapBlink (Kept.ite (kept_mapBlink h100 _ _) (kept_sendCredit (kept_mapBlink h100 _ _) _)) _ _) _ _ _ _ _ _ _ _)) _)))

theorem kept_showMemory {a s : State} (h : Kept a s) (x1 : ℕ) :
    Kept a (State.showMemory s x1) := by
  unfold State.showMemory
  exact (kept_set h _ _)

theorem kept_farGone {a s : State} (h : Kept a s) (x1 : ℕ) :
    Kept a (State.farGone s x1) := by
  unfold State.farGone
  exact (Kept.ite (kept_emit (kept_set h _ _) _) (kept_set h _ _))

theorem kept_linkRestart {a s : State} (h : Kept a s) (x1 : ℕ) :
    Kept a (State.linkRestart s x1) := by
  unfold State.linkRestart
  exact (kept_sendCredit (kept_showCredits (kept_farGone (kept_sets (kept_setBlink h _ _) _) _) _) _)

theorem kept_linkUnitOn {a s : State} (h : Kept a s) (x1 : ℕ) :
    Kept a (State.linkUnitOn s x1) := by
  unfold State.linkUnitOn
  exact (kept_showLink (Kept.ite (kept_showMemory (kept_linkRestart h _) _) (kept_sendControl (kept_showMemory (kept_linkRestart h _) _) _ _ _ _ _ _ _ _)) _)

theorem kept_execLinkStateRx {a s : State} (h : Kept a s) (x0 : Fin 32) (x1 : BitVec 8) (x2 : BitVec 8) (x3 : BitVec 8) :
    KeptStep a (execLinkStateRx x0 x1 x2 x3 s) := by
  unfold execLinkStateRx
  exact (KeptStep.next (kept_ifBolt h _ (fun _ h100 => (Kept.ite h100 (Kept.ite (Kept.ite (kept_irq (Kept.ite (kept_sets h100 _) (kept_unlock (kept_sets h100 _) _)) _ _) (kept_emit (kept_irq (Kept.ite (kept_sets h100 _) (kept_unlock (kept_sets h100 _) _)) _ _) _)) (Kept.ite (kept_unlock (kept_emit (kept_irq (kept_mapBlink h100 _ _) _ _) _) _) (kept_emit (kept_irq (kept_mapBlink h100 _ _) _ _) _)))))))

theorem kept_pickTlp {a s : State} (h : Kept a s) (l n : Nat) : Kept a (s.pickTlp l n).1 := by
  induction n generalizing s with
  | zero => exact h
  | succ n ih =>
    unfold State.pickTlp
    dsimp only
    split
    · exact ih h
    · refine Kept.ite1 (ih h) ?_
      split
      · exact h
      · exact Kept.ite1 (ih h) (ih (kept_sat (kept_setBlink h _ _) _ _))
      · exact Kept.ite1 (ih h) (ih (kept_sat (kept_setBlink h _ _) _ _))

theorem kept_execTlpToTunnel {a s : State} (h : Kept a s) (x0 : Fin 32) :
    KeptStep a (execTlpToTunnel x0 s) := by
  unfold execTlpToTunnel
  exact (KeptStep.next (kept_ifBolt h _ (fun _ h100 => (Kept.ite h100 (by (try dsimp -iota only); split; rename_i hq; have h101 := Kept.eq hq (kept_pickTlp (kept_flushCtl h100 _) _ _); exact h101; rename_i hq; have h102 := Kept.eq hq (kept_pickTlp (kept_flushCtl h100 _) _ _); exact (by split; exact h102; exact (Kept.ite (Kept.ite (kept_closeFrame h102 _) h102) (kept_enterTunnel (Kept.ite (kept_closeFrame h102 _) h102) _ _ _))))))))

theorem kept_grantBack {a s : State} (h : Kept a s) (x1 : ℕ) (x2 : ℕ) (x3 : ℕ) :
    Kept a (State.grantBack s x1 x2 x3) := by
  unfold State.grantBack
  exact (Kept.ite h (Kept.ite (kept_sendCredit (kept_showCredits (kept_mapBlink h _ _) _) _) (kept_showCredits (kept_mapBlink h _ _) _)))

theorem kept_answerFar {a s : State} (h : Kept a s) (x1 : ℕ) (x2 : ℕ) (x3 : ℕ) (x4 : ℕ) :
    Kept a (State.answerFar s x1 x2 x3 x4) := by
  unfold State.answerFar
  exact (kept_sat (kept_mapBlink h _ _) _ _)

theorem kept_requestIn {a s : State} (h : Kept a s) (x1 : ℕ) (x2 : Tlp) :
    Kept a (State.requestIn s x1 x2) := by
  unfold State.requestIn
  exact (Kept.ite (kept_irq (kept_sat (kept_grantBack h _ _ _) _ _) _ _) (Kept.ite (kept_sat (kept_answerFar (kept_grantBack h _ _ _) _ _ _ _) _ _) (Kept.ite (kept_answerFar (kept_grantBack h _ _ _) _ _ _ _) (Kept.ite (kept_lockLink (kept_mapBlink (kept_emit (kept_grantBack h _ _ _) _) _ _) _) (kept_mapBlink (kept_emit (kept_grantBack h _ _ _) _) _ _)))))

theorem kept_takeCredit {a s : State} (h : Kept a s) (x1 : ℕ) (x2 : List ℕ) :
    Kept a (State.takeCredit s x1 x2) := by
  unfold State.takeCredit
  exact (kept_showLink (kept_mapBlink h _ _) _)

theorem kept_ackTaken {a s : State} (h : Kept a s) (x1 : Frame) :
    Kept a (State.ackTaken s x1) := by
  unfold State.ackTaken
  exact (by (try dsimp -iota only); split; exact (kept_ackRx h _); exact (Kept.ite (kept_each (kept_ackRx h _) _ _ (fun _ _ h102 => (kept_flushCtl (Kept.ite (kept_closeFrame (kept_takeCredit h102 _ _) _) (kept_takeCredit h102 _ _)) _))) (kept_ackRx h _)))

theorem kept_answerLocal {a s : State} (h : Kept a s) (x1 : ℕ) (x2 : ℕ) (x3 : ℕ) (x4 : ℕ) (x5 : ℕ) :
    Kept a (State.answerLocal s x1 x2 x3 x4 x5) := by
  unfold State.answerLocal
  exact (kept_emit h _)

theorem kept_failOpen {a s : State} (h : Kept a s) (x1 : ℕ) :
    Kept a (State.failOpen s x1) := by
  unfold State.failOpen
  exact (kept_showLink (kept_unlock (kept_mapBlink (kept_each (kept_each h _ _ (fun _ _ h100 => (kept_sat (kept_answerLocal h100 _ _ _ _ _) _ _))) _ _ (fun _ _ h101 => (kept_sat (kept_answerLocal h101 _ _ _ _ _) _ _))) _ _) _) _)

theorem kept_quadDown {a s : State} (h : Kept a s) (x1 : ℕ) :
    Kept a (State.quadDown s x1) := by
  unfold State.quadDown
  exact (kept_each h _ _ (fun _ _ h100 => (kept_failOpen (kept_mapBlink (kept_each h100 _ _ (fun _ _ h101 => (kept_answerFar h101 _ _ _ _))) _ _) _)))

theorem kept_linkChange {a s : State} (h : Kept a s) (x1 : ℕ) (x2 : Bool) (x3 : ℕ) (x4 : ℕ) (x5 : ℕ) :
    Kept a (State.linkChange s x1 x2 x3 x4 x5) := by
  unfold State.linkChange
  exact (kept_irq (kept_rateReview (Kept.ite (Kept.ite (Kept.upd (Kept.ite (kept_quadDown (kept_sat (kept_sets h _) _ _) _) (kept_sets h _))) (kept_each (Kept.upd (Kept.ite (kept_quadDown (kept_sat (kept_sets h _) _ _) _) (kept_sets h _))) _ _ (fun _ _ h100 => (kept_sendControl h100 _ _ _ _ _ _ _ _)))) (kept_each (Kept.ite (kept_quadDown (kept_sat (kept_sets h _) _ _) _) (kept_sets h _)) _ _ (fun _ _ h101 => (kept_sendControl h101 _ _ _ _ _ _ _ _)))) _) _ _)

theorem kept_pcbQuadOff {a s : State} (h : Kept a s) (x1 : ℕ) :
    Kept a (State.pcbQuadOff s x1) := by
  unfold State.pcbQuadOff
  exact (Kept.ite (kept_linkChange h _ _ _ _ _) h)

theorem kept_postedIn {a s : State} (h : Kept a s) (x1 : ℕ) (x2 : Tlp) :
    Kept a (State.postedIn s x1 x2).1 := by
  unfold State.postedIn
  exact (by (try dsimp -iota only); exact Kept.ite1 (Kept.pair (kept_irq (kept_sat (kept_grantBack h _ _ _) _ _) _ _)) (Kept.ite1 (Kept.pair (kept_grantBack h _ _ _)) (Kept.ite1 (Kept.pair (kept_sat (kept_grantBack h _ _ _) _ _)) (Kept.ite1 (Kept.pair (kept_grantBack h _ _ _)) (Kept.pair (Kept.ite (kept_unlock (kept_emit (kept_grantBack h _ _ _) _) _) (kept_emit (kept_grantBack h _ _ _) _)))))))

theorem kept_postedAll {a s : State} (h : Kept a s) (l n : Nat) (ts : List Tlp) : Kept a (s.postedAll l n ts).1 := by
  induction ts generalizing s n with
  | nil => exact h
  | cons t ts ih =>
    unfold State.postedAll
    exact ih (kept_postedIn h _ _) _

theorem kept_execTlpRx {a s : State} (h : Kept a s) (x0 : Fin 3) (x1 : Fin 32) (x2 : Tlp) :
    KeptStep a (execTlpRx x0 x1 x2 s) := by
  unfold execTlpRx
  exact (KeptStep.next (kept_ifBolt h _ (fun _ h100 => (Kept.ite h100 (Kept.ite (kept_irq (kept_sat h100 _ _) _ _) (Kept.ite (Kept.ite (kept_sat (kept_emit h100 _) _ _) h100) (Kept.ite (kept_sat (kept_answerLocal h100 _ _ _ _ _) _ _) (Kept.ite (kept_mapBlink (kept_mapBlink h100 _ _) _ _) (kept_mapBlink h100 _ _)))))))))

theorem kept_execAppliedRx {a s : State} (h : Kept a s) (x0 : Fin 32) (x1 : BitVec 32) :
    KeptStep a (execAppliedRx x0 x1 s) := by
  unfold execAppliedRx
  exact (KeptStep.next (kept_ifBolt h _ (fun _ h100 => (Kept.ite (kept_set h100 _ _) h100))))

theorem kept_tunnelLost {a s : State} (h : Kept a s) (x1 : ℕ) :
    Kept a (State.tunnelLost s x1) := by
  unfold State.tunnelLost
  exact (kept_showLink (Kept.ite (kept_mapBlink (kept_failOpen h _) _ _) (kept_ledgerAdd (kept_mapBlink (kept_failOpen h _) _ _) _ _ _ _ _)) _)

theorem kept_linkDead {a s : State} (h : Kept a s) (x1 : ℕ) :
    Kept a (State.linkDead s x1) := by
  unfold State.linkDead
  exact (kept_farGone (kept_tunnelLost (kept_set h _ _) _) _)

theorem kept_execPcbCreditRx {a s : State} (h : Kept a s) (x0 : Fin 32) (x1 : BitVec 32) (x2 : BitVec 32) :
    KeptStep a (execPcbCreditRx x0 x1 x2 s) := by
  unfold execPcbCreditRx
  exact (KeptStep.next (kept_ifBolt h _ (fun _ h100 => (Kept.ite (kept_takeCredit h100 _ _) h100))))

theorem kept_pcbReview {a s : State} (h : Kept a s) :
    Kept a (State.pcbReview s) := by
  unfold State.pcbReview
  exact (kept_each h _ _ (fun _ _ h100 => (Kept.ite (kept_linkDead h100 _) h100)))

theorem kept_linkUnitOff {a s : State} (h : Kept a s) (x1 : ℕ) :
    Kept a (State.linkUnitOff s x1) := by
  unfold State.linkUnitOff
  exact (kept_showMemory (kept_farGone (kept_setBlink (kept_failOpen h _) _ _) _) _)

theorem kept_execFaultRx {a s : State} (h : Kept a s) (x0 : Fin 32) (x1 : BitVec 8) (x2 : BitVec 32) (x3 : BitVec 32) (x4 : BitVec 64) :
    KeptStep a (execFaultRx x0 x1 x2 x3 x4 s) := by
  unfold execFaultRx
  exact (KeptStep.next (kept_ifBolt h _ (fun _ h100 => (Kept.ite (kept_ledgerAdd h100 _ _ _ _ _) h100))))

theorem kept_execPcieLinkChange {a s : State} (h : Kept a s) (x0 : Fin 3) (x1 : Bool) (x2 : BitVec 3) (x3 : BitVec 3) (x4 : BitVec 6) :
    KeptStep a (execPcieLinkChange x0 x1 x2 x3 x4 s) := by
  unfold execPcieLinkChange
  exact (KeptStep.next (kept_ifBolt h _ (fun _ h100 => (Kept.ite h100 (Kept.ite (kept_linkChange h100 _ _ _ _ _) h100)))))

theorem kept_sendFault {a s : State} (h : Kept a s) (x1 : ℕ) (x2 : ℕ) (x3 : ℕ) (x4 : ℕ) (x5 : ℕ) :
    Kept a (State.sendFault s x1 x2 x3 x4 x5) := by
  unfold State.sendFault
  exact (kept_sendControl h _ _ _ _ _ _ _ _)

theorem kept_execPcbRecordsRx {a s : State} (h : Kept a s) (x0 : Fin 1024) (x1 : Frame) (x2 : List Tlp) :
    KeptStep a (execPcbRecordsRx x0 x1 x2 s) := by
  unfold execPcbRecordsRx
  exact (KeptStep.next (kept_ifBolt h _ (fun _ h100 => (by split; exact h100; exact (by (try dsimp -iota only); split; exact (kept_irq (kept_sat h100 _ _) _ _); exact (Kept.ite (kept_irq (kept_sat h100 _ _) _ _) (Kept.ite (kept_each h100 _ _ (fun _ _ h105 => (kept_emit h105 _))) (kept_showLink (by split; exact (Kept.ite (kept_sendFault (kept_bridgeFault (kept_each (kept_mapBlink h100 _ _) _ _ (fun _ _ h107 => (kept_grantBack h107 _ _ _))) _ _ _ _) _ _ _ _ _) (by split; rename_i hq; have h108 := Kept.eq hq (kept_postedAll h100 _ _ _); exact (kept_each (kept_mapBlink h108 _ _) _ _ (fun _ _ h109 => (kept_sendFault h109 _ _ _ _ _))))); exact (kept_each h100 _ _ (fun _ _ h111 => (kept_requestIn h111 _ _))); exact (kept_each h100 _ _ (fun _ _ h113 => (kept_completionIn h113 _ _)))) _))))))))

theorem kept_execPackTimeout {a s : State} (h : Kept a s) (x0 : Fin 32) :
    KeptStep a (execPackTimeout x0 s) := by
  unfold execPackTimeout
  exact (KeptStep.next (kept_ifBolt h _ (fun _ h100 => (kept_closeFrame h100 _))))

theorem kept_execCompletionTimeout {a s : State} (h : Kept a s) (x0 : Fin 32) (x1 : BitVec 16) (x2 : BitVec 10) :
    KeptStep a (execCompletionTimeout x0 x1 x2 s) := by
  unfold execCompletionTimeout
  exact (KeptStep.next (kept_ifBolt h _ (fun _ h100 => (by (try dsimp -iota only); split; exact h100; exact (kept_showLink (kept_irq (kept_sat (kept_answerLocal (kept_setBlink h100 _ _) _ _ _ _ _) _ _) _ _) _)))))

end Sys2Proof.Machine
end

