-- ==== Sys2Proof/Laws/KeptDpe.lean ====
section
/-! SUPPORT. What the operations of Machine/Dpe.lean keep. -/

namespace Sys2Proof.Machine

set_option Elab.async false
set_option linter.unusedTactic false

theorem kept_mapDp {a s : State} (h : Kept a s) (x1 : ℕ) (x2 : DpQuad → DpQuad) :
    Kept a (State.mapDp s x1 x2) := by
  unfold State.mapDp
  exact (Kept.upd h)

theorem kept_flushAux {a s : State} (h : Kept a s) (x1 : ℕ) :
    Kept a (State.flushAux s x1) := by
  unfold State.flushAux
  exact (kept_each h _ _ (fun _ _ h100 => (by split; exact (Kept.ite (kept_sourceFrame (kept_mapDp h100 _ _) _ _ _ _ _) h100); exact h100)))

theorem kept_sendAux {a s : State} (h : Kept a s) (x1 : ℕ) (x2 : ℕ) (x3 : List Byte) :
    Kept a (State.sendAux s x1 x2 x3) := by
  unfold State.sendAux
  exact (kept_flushAux (kept_mapDp h _ _) _)

theorem kept_hpdReview {a s : State} (h : Kept a s) (x1 : ℕ) :
    Kept a (State.hpdReview s x1) := by
  unfold State.hpdReview
  exact (Kept.ite h (Kept.ite (kept_set (Kept.ite (Kept.ite (kept_irq (kept_sendAux (kept_mapDp h _ _) _ _ _) _ _) h) (kept_emit (kept_mapDp (Kept.ite (kept_irq (kept_sendAux (kept_mapDp h _ _) _ _ _) _ _) h) _ _) _)) _ _) (kept_emit (kept_mapDp (kept_set (Kept.ite (Kept.ite (kept_irq (kept_sendAux (kept_mapDp h _ _) _ _ _) _ _) h) (kept_emit (kept_mapDp (Kept.ite (kept_irq (kept_sendAux (kept_mapDp h _ _) _ _ _) _ _) h) _ _) _)) _ _) _ _) _)))

theorem kept_sampleHpd {a s : State} (h : Kept a s) :
    Kept a (State.sampleHpd s) := by
  unfold State.sampleHpd
  exact (Kept.upd h)

theorem kept_dpOff {a s : State} (h : Kept a s) (x1 : ℕ) :
    Kept a (State.dpOff s x1) := by
  unfold State.dpOff
  exact (kept_sampleHpd (kept_rateReview (kept_sets (kept_mapDp (Kept.ite (kept_emit h _) h) _ _) _) _))

theorem kept_dpTake {a s : State} (h : Kept a s) (q kind frame : Nat) (payload : List Byte) :
    Kept a (s.dpTake q kind frame payload) := by
  unfold State.dpTake
  split
  · exact kept_mapDp h _ _
  · exact kept_mapDp h _ _
  · exact kept_emit h _

theorem kept_execDpFrameRx {a s : State} (h : Kept a s) (x0 : Fin 1024) (x1 : Frame) :
    KeptStep a (execDpFrameRx x0 x1 s) := by
  unfold execDpFrameRx
  exact (KeptStep.next (kept_ifBolt h _ (fun _ h100 => (Kept.ite h100 (Kept.ite h100 (by (try dsimp -iota only); split; rename_i hq; have h101 := Kept.eq hq (kept_streamSink h100 _ _); exact (Kept.ite h101 (kept_dpTake (kept_mapDp h101 _ _) _ _ _ _))))))))

theorem kept_execEthAge {a s : State} (h : Kept a s) :
    KeptStep a (execEthAge s) := by
  unfold execEthAge
  exact (KeptStep.next (kept_ifBolt h _ (fun _ h100 => (Kept.ite h100 (kept_sat (kept_showLearn (Kept.upd h100)) _ _)))))

theorem kept_refillCache {a s : State} (h : Kept a s) (x1 : ℕ) (x2 : List Byte) :
    Kept a (State.refillCache s x1 x2) := by
  unfold State.refillCache
  exact (Kept.ite (kept_mapDp h _ _) (kept_sendAux (kept_mapDp h _ _) _ _ _))

theorem kept_execAuxReplyRx {a s : State} (h : Kept a s) (x0 : Fin 1024) (x1 : Frame) (x2 : List Byte) :
    KeptStep a (execAuxReplyRx x0 x1 x2 s) := by
  unfold execAuxReplyRx
  exact (KeptStep.next (kept_ifBolt h _ (fun _ h100 => (Kept.ite h100 (Kept.ite (kept_sendAux (kept_emit h100 _) _ _ _) (Kept.ite (kept_hpdReview (kept_refillCache h100 _ _) _) (Kept.ite (kept_emit (kept_mapDp h100 _ _) _) h100)))))))

theorem kept_sendDisplay {a s : State} (h : Kept a s) (x1 : ℕ) (x2 : ℕ) (x3 : Bool) (x4 : ℕ) (x5 : List Byte) :
    Kept a (State.sendDisplay s x1 x2 x3 x4 x5) := by
  unfold State.sendDisplay
  exact (kept_sourceFrame h _ _ _ _ _)

theorem kept_execHpdRise {a s : State} (h : Kept a s) (x0 : Fin 3) (x1 : Bool) (x2 : BitVec 8) (x3 : Bool) (x4 : List Byte) :
    KeptStep a (execHpdRise x0 x1 x2 x3 x4 s) := by
  unfold execHpdRise
  exact (KeptStep.next (kept_ifBolt h _ (fun _ h100 => (Kept.ite h100 (kept_sampleHpd (Kept.ite (kept_irq (kept_mapDp h100 _ _) _ _) (kept_mapDp h100 _ _)))))))

theorem kept_execDpTxVsync {a s : State} (h : Kept a s) (x0 : Fin 3) (x1 : BitVec 64) (x2 : TxVideo) (x3 : DpTrained) :
    KeptStep a (execDpTxVsync x0 x1 x2 x3 s) := by
  unfold execDpTxVsync
  exact (KeptStep.next (kept_ifBolt h _ (fun _ h100 => (Kept.ite h100 (by (try dsimp -iota only); split; exact (kept_set (kept_sat (Kept.ite (kept_sat (kept_mapDp (kept_emit (kept_rateReview (kept_mapDp (Kept.ite h100 (kept_irq (kept_set h100 _ _) _ _)) _ _) _) _) _ _) _ _) (kept_mapDp (kept_emit (kept_rateReview (kept_mapDp (Kept.ite h100 (kept_irq (kept_set h100 _ _) _ _)) _ _) _) _) _ _)) _ _) _ _))))))

theorem kept_execAuxTimeout {a s : State} (h : Kept a s) (x0 : Fin 3) (x1 : ℕ) :
    KeptStep a (execAuxTimeout x0 x1 s) := by
  unfold execAuxTimeout
  exact (KeptStep.next (kept_ifBolt h _ (fun _ h100 => (Kept.ite (kept_sat (kept_emit (kept_mapDp h100 _ _) _) _ _) h100))))

theorem kept_wrapEth {a s : State} (h : Kept a s) (x1 : ℕ) (x2 : ℕ) (x3 : ℕ) (x4 : ℕ) (x5 : Bool) (x6 : Bool) (x7 : List Byte) :
    Kept a (State.wrapEth s x1 x2 x3 x4 x5 x6 x7) := by
  unfold State.wrapEth
  exact (by (try dsimp -iota only); split; exact (kept_sat (Kept.ite (kept_learnAddr h _ _ _) h) _ _); exact (Kept.ite (kept_sat (Kept.ite (kept_learnAddr h _ _ _) h) _ _) (kept_sourceFrameTo (Kept.ite (kept_learnAddr h _ _ _) h) _ _ _ _ _ _)))

theorem kept_execEthRx {a s : State} (h : Kept a s) (x0 : Fin 12) (x1 : List Byte) (x2 : BitVec 32) :
    KeptStep a (execEthRx x0 x1 x2 s) := by
  unfold execEthRx
  exact (KeptStep.next (kept_ifBolt h _ (fun _ h100 => (Kept.ite h100 (Kept.ite (kept_sat h100 _ _) (Kept.ite h100 (Kept.ite (kept_macTime (kept_setMac h100 _ _) _) (Kept.ite (by (try dsimp -iota only); split; exact (kept_sat h100 _ _); exact (kept_wrapEth h100 _ _ _ _ _ _ _)) (Kept.ite (kept_wrapEth h100 _ _ _ _ _ _ _) h100)))))))))

theorem kept_execStateRx {a s : State} (h : Kept a s) (x0 : Fin 1024) (x1 : Frame) :
    KeptStep a (execStateRx x0 x1 s) := by
  unfold execStateRx
  exact (KeptStep.next (kept_ifBolt h _ (fun _ h100 => (kept_each (kept_stateFrame h100 _ _) _ _ (fun _ _ h101 => (kept_hpdReview h101 _))))))

theorem kept_execDpLine {a s : State} (h : Kept a s) (x0 : Fin 3) (x1 : BitVec 16) (x2 : List ℕ) :
    KeptStep a (execDpLine x0 x1 x2 s) := by
  unfold execDpLine
  exact (KeptStep.next (kept_ifBolt h _ (fun _ h100 => (by (try dsimp -iota only); split; exact h100; exact (kept_each h100 _ _ (fun _ _ h103 => (kept_sendDisplay h103 _ _ _ _ _)))))))

theorem kept_ethOff {a s : State} (h : Kept a s) (x1 : ℕ) :
    Kept a (State.ethOff s x1) := by
  unfold State.ethOff
  exact (kept_set (kept_each h _ _ (fun _ _ h100 => (kept_setMac h100 _ _))) _ _)

theorem kept_execDpNoVideo {a s : State} (h : Kept a s) (x0 : Fin 3) :
    KeptStep a (execDpNoVideo x0 s) := by
  unfold execDpNoVideo
  exact (KeptStep.next (kept_ifBolt h _ (fun _ h100 => (Kept.ite (kept_mapDp h100 _ _) h100))))

theorem kept_execEthLinkChange {a s : State} (h : Kept a s) (x0 : Fin 12) (x1 : Bool) :
    KeptStep a (execEthLinkChange x0 x1 s) := by
  unfold execEthLinkChange
  exact (KeptStep.next (kept_ifBolt h _ (fun _ h100 => (Kept.ite h100 (Kept.ite h100 (kept_irq (Kept.ite (kept_setB h100 _ _) (kept_setMac (kept_clrB h100 _ _) _ _)) _ _))))))

theorem kept_execDpVideoFrame {a s : State} (h : Kept a s) (x0 : Fin 3) (x1 : DpTiming) (x2 : List (Bool × List Byte)) :
    KeptStep a (execDpVideoFrame x0 x1 x2 s) := by
  unfold execDpVideoFrame
  exact (KeptStep.next (kept_ifBolt h _ (fun _ h100 => (Kept.ite h100 (by (try dsimp -iota only); split; exact (kept_sat (kept_mapDp (Kept.ite (kept_irq (kept_sets (kept_rateReview (kept_mapDp (Kept.ite (Kept.ite (kept_used h100) h100) (kept_irq (kept_set (Kept.ite (kept_used h100) h100) _ _) _ _)) _ _) _) _) _ _) (kept_sets (kept_rateReview (kept_mapDp (Kept.ite (Kept.ite (kept_used h100) h100) (kept_irq (kept_set (Kept.ite (kept_used h100) h100) _ _) _ _)) _ _) _) _)) _ _) _ _); exact (kept_sat (kept_each (kept_sendDisplay (Kept.ite (kept_irq (kept_mapDp (kept_mapDp (Kept.ite (kept_irq (kept_sets (kept_rateReview (kept_mapDp (Kept.ite (Kept.ite (kept_used h100) h100) (kept_irq (kept_set (Kept.ite (kept_used h100) h100) _ _) _ _)) _ _) _) _) _ _) (kept_sets (kept_rateReview (kept_mapDp (Kept.ite (Kept.ite (kept_used h100) h100) (kept_irq (kept_set (Kept.ite (kept_used h100) h100) _ _) _ _)) _ _) _) _)) _ _) _ _) _ _) (kept_mapDp (kept_mapDp (Kept.ite (kept_irq (kept_sets (kept_rateReview (kept_mapDp (Kept.ite (Kept.ite (kept_used h100) h100) (kept_irq (kept_set (Kept.ite (kept_used h100) h100) _ _) _ _)) _ _) _) _) _ _) (kept_sets (kept_rateReview (kept_mapDp (Kept.ite (Kept.ite (kept_used h100) h100) (kept_irq (kept_set (Kept.ite (kept_used h100) h100) _ _) _ _)) _ _) _) _)) _ _) _ _)) _ _ _ _ _) _ _ (fun _ _ h103 => (kept_sendDisplay h103 _ _ _ _ _))) _ _))))))

theorem kept_execAuxRequest {a s : State} (h : Kept a s) (x0 : Fin 3) (x1 : Bool) (x2 : Bool) (x3 : BitVec 20) (x4 : BitVec 9) (x5 : BitVec 5) (x6 : List Byte) :
    KeptStep a (execAuxRequest x0 x1 x2 x3 x4 x5 x6 s) := by
  unfold execAuxRequest
  exact (KeptStep.next (kept_ifBolt h _ (fun _ h100 => (Kept.ite h100 (Kept.ite (kept_emit h100 _) (Kept.ite (kept_emit h100 _) (Kept.ite (kept_emit h100 _) (kept_emit (kept_sendAux (kept_mapDp h100 _ _) _ _ _) _))))))))

theorem kept_execLearnGo {a s : State} (h : Kept a s) (x0 : Requester) (x1 : Word) :
    KeptStep a (execLearnGo x0 x1 s) := by
  unfold execLearnGo
  exact (KeptStep.next (kept_command h _ _ _ _ (fun _ h100 => (Kept.ite h100 (kept_set (kept_showLearn (Kept.upd h100)) _ _)))))

theorem kept_dpeCycle {a s : State} (h : Kept a s) :
    Kept a (State.dpeCycle s) := by
  unfold State.dpeCycle
  exact (kept_sampleHpd (kept_macTime (kept_each h _ _ (fun _ _ h100 => (kept_hpdReview (kept_mapDp (kept_flushAux h100 _) _ _) _))) _))

end Sys2Proof.Machine
end

