-- ==== Sys2Proof/Laws/KeptSeam.lean ====
section
/-! SUPPORT. What the operations of Machine/Seam.lean keep. -/

namespace Sys2Proof.Machine

set_option Elab.async false
set_option linter.unusedTactic false

theorem kept_wakeBegins {a s : State} (h : Kept a s) (x1 : ℕ) :
    Kept a (State.wakeBegins s x1) := by
  unfold State.wakeBegins
  exact (kept_sets (Kept.upd h) _)

theorem kept_boltReset {a s : State} (h : Kept a s) : Kept a s.boltReset := by
  unfold State.boltReset
  dsimp -iota only
  refine kept_sets ?_ _
  constructor
  · exact ⟨h.inv.deployed, Regs.wf_filter (fun r => decide (0x50000000 ≤ r.1)) h.inv.regs, rfl, h.inv.nvs, h.inv.usb, rfl⟩
  · exact h.fuses
  · exact h.flash
  · exact h.pending

theorem kept_pg0Rise {a s : State} (h : Kept a s) :
    Kept a (State.pg0Rise s) := by
  unfold State.pg0Rise
  exact (kept_irq (kept_setB (kept_boltReset (Kept.ite (kept_wakeBegins (Kept.upd (kept_set h _ _)) _) (Kept.upd (Kept.upd (kept_set h _ _))))) _ _) _ _)

theorem kept_dropP10 {a s : State} (h : Kept a s) :
    Kept a (State.dropP10 s) := by
  unfold State.dropP10
  exact (kept_each h _ _ (fun _ _ h100 => (kept_each h100 _ _ (fun _ _ h101 => (kept_dropCopy (kept_countLoss h101 _ _) _ _)))))

theorem kept_seamDown {a s : State} (h : Kept a s) :
    Kept a (State.seamDown s) := by
  unfold State.seamDown
  exact (Kept.ite h (kept_irq (kept_dropP10 (kept_each (kept_each (Kept.upd (kept_sat (kept_sets h _) _ _)) _ _ (fun _ _ h100 => (kept_sticky h100 _ _))) _ _ (fun _ _ h101 => (kept_answer h101 _ _ _)))) _ _))

theorem kept_setBoltReq {a s : State} (h : Kept a s) (x1 : Bool) :
    Kept a (State.setBoltReq s x1) := by
  unfold State.setBoltReq
  exact (kept_sets h _)

theorem kept_sendSnapshot {a s : State} (h : Kept a s) :
    Kept a (State.sendSnapshot s) := by
  unfold State.sendSnapshot
  exact (kept_each (kept_each (kept_each h _ _ (fun _ _ h100 => (kept_sendFlit h100 _ _ _ _))) _ _ (fun _ _ h101 => (kept_sendFlit h101 _ _ _ _))) _ _ (fun _ _ h102 => (kept_sendFlit h102 _ _ _ _)))

theorem kept_seamRecover {a s : State} (h : Kept a s) (x1 : ℕ) :
    Kept a (State.seamRecover s x1) := by
  unfold State.seamRecover
  exact (kept_keyResume (kept_tamperDeliver (kept_irq (kept_refreshInts (Kept.ite (kept_boltFault (Kept.ite (kept_each (kept_sendSnapshot (Kept.upd (Kept.ite (kept_sets (kept_sets h _) _) (kept_sets h _)))) _ _ (fun _ _ h100 => (kept_nvsPut h100 _))) (kept_boltFault (kept_each (kept_sendSnapshot (Kept.upd (Kept.ite (kept_sets (kept_sets h _) _) (kept_sets h _)))) _ _ (fun _ _ h101 => (kept_nvsPut h101 _))) _ _ _ _ _)) _ _ _ _ _) (Kept.ite (kept_each (kept_sendSnapshot (Kept.upd (Kept.ite (kept_sets (kept_sets h _) _) (kept_sets h _)))) _ _ (fun _ _ h102 => (kept_nvsPut h102 _))) (kept_boltFault (kept_each (kept_sendSnapshot (Kept.upd (Kept.ite (kept_sets (kept_sets h _) _) (kept_sets h _)))) _ _ (fun _ _ h103 => (kept_nvsPut h103 _))) _ _ _ _ _)))) _ _)))

theorem kept_noteEvent {a s : State} (h : Kept a s) (x1 : ℕ) (x2 : ℕ) (x3 : ℕ) :
    Kept a (State.noteEvent s x1 x2 x3) := by
  unfold State.noteEvent
  exact (Kept.ite (Kept.upd h) (Kept.ite (Kept.upd h) (kept_refreshInts (Kept.ite (Kept.upd h) (kept_countEvent (Kept.upd h) _)))))

theorem kept_sendAckFlit {a s : State} (h : Kept a s) (x1 : Die) (x2 : ℕ) (x3 : ℕ) :
    Kept a (State.sendAckFlit s x1 x2 x3) := by
  unfold State.sendAckFlit
  exact (kept_emit h _)

theorem kept_resendFlits {a s : State} (h : Kept a s) (x1 : Die) (x2 : ℕ) :
    Kept a (State.resendFlits s x1 x2) := by
  unfold State.resendFlits
  exact (Kept.ite h (by (try dsimp -iota only); split; exact h; exact (Kept.ite (kept_seamDown (kept_setSeamEnd h _ _)) (kept_each (kept_sat (kept_setSeamEnd h _ _) _ _) _ _ (fun _ _ h102 => (kept_emit h102 _))))))

theorem kept_execNakFlit {a s : State} (h : Kept a s) (x0 : Die) (x1 : FlitBody) :
    KeptStep a (execNakFlit x0 x1 s) := by
  unfold execNakFlit
  exact (KeptStep.next (Kept.ite h (Kept.ite (kept_sendAckFlit h _ _ _) (kept_resendFlits h _ _))))

theorem kept_flitRx {a s : State} (h : Kept a s) (x1 : Die) (x2 : ℕ) (x3 : FlitBody) (x4 : State → State) (h4 : ∀ y0, Kept a y0 → Kept a (x4 y0)) :
    Kept a (State.flitRx s x1 x2 x3 x4) := by
  unfold State.flitRx
  exact (Kept.ite h (Kept.ite (kept_sendAckFlit h _ _ _) (Kept.ite (h4 _ (kept_sendAckFlit (kept_setSeamEnd h _ _) _ _ _)) (Kept.ite (kept_sendAckFlit h _ _ _) (kept_sendAckFlit h _ _ _)))))

theorem kept_snapFlit {a s : State} (h : Kept a s) :
    Kept a (State.snapFlit s) := by
  unfold State.snapFlit
  exact (Kept.ite h (Kept.ite (kept_set (Kept.upd h) _ _) (Kept.upd h)))

theorem kept_execEventFlit {a s : State} (h : Kept a s) (x0 : FlitBody) :
    KeptStep a (execEventFlit x0 s) := by
  unfold execEventFlit
  exact (KeptStep.next (kept_flitRx h _ _ _ _ (fun _ h100 => (kept_snapFlit (kept_noteEvent h100 _ _ _)))))

theorem kept_execFlitAckTimeout {a s : State} (h : Kept a s) (x0 : Die) :
    KeptStep a (execFlitAckTimeout x0 s) := by
  unfold execFlitAckTimeout
  exact (KeptStep.next (Kept.ite h (by split; exact h; exact (kept_resendFlits h _ _))))

theorem kept_carryFlit {a s : State} (h : Kept a s) (x1 : Die) (x2 : ℕ) (x3 : FlitBody) :
    Kept a (State.carryFlit s x1 x2 x3) := by
  unfold State.carryFlit
  exact (kept_flitRx h _ _ _ _ (fun _ h100 => (kept_emit h100 _)))

theorem kept_execNvsDataFlit {a s : State} (h : Kept a s) (x0 : Die) (x1 : FlitBody) :
    KeptStep a (execNvsDataFlit x0 x1 s) := by
  unfold execNvsDataFlit
  exact (KeptStep.next (kept_carryFlit h _ _ _))

theorem kept_execIdleFlit {a s : State} (h : Kept a s) (x0 : Die) (x1 : FlitBody) :
    KeptStep a (execIdleFlit x0 x1 s) := by
  unfold execIdleFlit
  exact (KeptStep.next (Kept.ite h (kept_sendAckFlit h _ _ _)))

theorem kept_execNvsReqFlit {a s : State} (h : Kept a s) (x0 : FlitBody) :
    KeptStep a (execNvsReqFlit x0 s) := by
  unfold execNvsReqFlit
  exact (KeptStep.next (kept_carryFlit h _ _ _))

theorem kept_pg0Fall {a s : State} (h : Kept a s) :
    Kept a (State.pg0Fall s) := by
  unfold State.pg0Fall
  exact (Kept.upd (kept_setBoltReq (kept_irq (kept_setB (kept_boltReset (kept_set h _ _)) _ _) _ _) _))

theorem kept_execUsbFlit {a s : State} (h : Kept a s) (x0 : Die) (x1 : FlitBody) :
    KeptStep a (execUsbFlit x0 x1 s) := by
  unfold execUsbFlit
  exact (KeptStep.next (kept_carryFlit h _ _ _))

theorem kept_execSeamRetrainTimer {a s : State} (h : Kept a s) :
    KeptStep a (execSeamRetrainTimer s) := by
  unfold execSeamRetrainTimer
  exact (KeptStep.next (kept_ifBolt h _ (fun _ h100 => (Kept.ite (kept_set h100 _ _) h100))))

theorem kept_execRetrain {a s : State} (h : Kept a s) (x0 : Requester) :
    KeptStep a (execRetrain x0 s) := by
  unfold execRetrain
  exact (KeptStep.next (kept_command h _ _ _ _ (fun _ h100 => (Kept.ite (kept_set h100 _ _) h100))))

theorem kept_execAckFlit {a s : State} (h : Kept a s) (x0 : Die) (x1 : FlitBody) :
    KeptStep a (execAckFlit x0 x1 s) := by
  unfold execAckFlit
  exact (KeptStep.next (Kept.ite h (Kept.ite (kept_sendAckFlit h _ _ _) (kept_pump (kept_setSeamEnd h _ _) _ _))))

theorem kept_execSeamRxTimeout {a s : State} (h : Kept a s) (x0 : Die) :
    KeptStep a (execSeamRxTimeout x0 s) := by
  unfold execSeamRxTimeout
  exact (KeptStep.next (Kept.ite (kept_seamDown h) h))

theorem kept_execSwitchFlit {a s : State} (h : Kept a s) (x0 : Die) (x1 : FlitBody) :
    KeptStep a (execSwitchFlit x0 x1 s) := by
  unfold execSwitchFlit
  exact (KeptStep.next (kept_carryFlit h _ _ _))

theorem kept_tokenHome {a s : State} (h : Kept a s) (x1 : ℕ) :
    Kept a (State.tokenHome s x1) := by
  unfold State.tokenHome
  exact (Kept.ite h (kept_refreshInts (kept_boltFault (kept_sets h _) _ _ _ _ _)))

theorem kept_execPdMsgFlit {a s : State} (h : Kept a s) (x0 : Die) (x1 : FlitBody) :
    KeptStep a (execPdMsgFlit x0 x1 s) := by
  unfold execPdMsgFlit
  exact (KeptStep.next (kept_carryFlit h _ _ _))

theorem kept_drivePg0 {a s : State} (h : Kept a s) :
    Kept a (State.drivePg0 s) := by
  unfold State.drivePg0
  exact (Kept.ite h (Kept.ite (kept_pg0Rise h) (kept_pg0Fall h)))

end Sys2Proof.Machine
end

