-- ==== Sys2Proof/Laws/KeptGates.lean ====
section
/-! SUPPORT. What the operations of Machine/Gates.lean keep. -/

namespace Sys2Proof.Machine

set_option Elab.async false
set_option linter.unusedTactic false

theorem kept_setGs {a s : State} (h : Kept a s) (x1 : ℕ) (x2 : ℕ) :
    Kept a (State.setGs s x1 x2) := by
  unfold State.setGs
  exact (Kept.ite (kept_set h _ _) (kept_emit (kept_set h _ _) _))

theorem kept_toWindow {a s : State} (h : Kept a s) (x1 : ℕ) :
    Kept a (State.toWindow s x1) := by
  unfold State.toWindow
  exact (kept_setGs h _ _)

theorem kept_applyPending {a s : State} (h : Kept a s) (x1 : ℕ) :
    Kept a (State.applyPending s x1) := by
  unfold State.applyPending
  exact (Kept.ite h (Kept.ite (kept_nvsPut (kept_set (Kept.upd (kept_each h _ _ (fun _ _ h100 => (kept_wr h100 _ _)))) _ _) _) (kept_set (Kept.upd (kept_each h _ _ (fun _ _ h101 => (kept_wr h101 _ _)))) _ _)))

theorem kept_launch {a s : State} (h : Kept a s) (x1 : ℕ) :
    Kept a (State.launch s x1) := by
  unfold State.launch
  exact (kept_toWindow (kept_applyPending h _) _)

theorem kept_leaveWait {a s : State} (h : Kept a s) (x1 : ℕ) :
    Kept a (State.leaveWait s x1) := by
  unfold State.leaveWait
  exact (Kept.ite (kept_launch (kept_setGs (kept_set h _ _) _ _) _) (kept_setGs (kept_set h _ _) _ _))

theorem kept_mapGate {a s : State} (h : Kept a s) (x1 : ℕ) (x2 : GateSt → GateSt) :
    Kept a (State.mapGate s x1 x2) := by
  unfold State.mapGate
  exact (Kept.upd h)

theorem kept_measureVout {a s : State} (h : Kept a s) (x1 : ℕ) (x2 : ℕ) :
    Kept a (State.measureVout s x1 x2) := by
  unfold State.measureVout
  exact (Kept.ite (kept_set (kept_set (kept_mapGate h _ _) _ _) _ _) (kept_set (kept_mapGate h _ _) _ _))

theorem kept_overcurrent {a s : State} (h : Kept a s) (x1 : ℕ) (x2 : Bool) :
    Kept a (State.overcurrent s x1 x2) := by
  unfold State.overcurrent
  exact (Kept.ite h (Kept.ite h (kept_irq (kept_set (Kept.upd h) _ _) _ _)))

theorem kept_gateEvent {a s : State} (h : Kept a s) (x1 : ℕ) (x2 : ℕ) :
    Kept a (State.gateEvent s x1 x2) := by
  unfold State.gateEvent
  exact (kept_irq (kept_setB h _ _) _ _)

theorem kept_setPgood {a s : State} (h : Kept a s) (x1 : ℕ) (x2 : Bool) :
    Kept a (State.setPgood s x1 x2) := by
  unfold State.setPgood
  exact (Kept.ite h (Kept.ite (kept_drivePg0 (kept_gateEvent (kept_set h _ _) _ _)) (kept_gateEvent (kept_set h _ _) _ _)))

theorem kept_openGate {a s : State} (h : Kept a s) (x1 : ℕ) (x2 : ℕ) (x3 : ℕ) :
    Kept a (State.openGate s x1 x2 x3) := by
  unfold State.openGate
  exact (kept_setPgood (kept_setGs (kept_set h _ _) _ _) _ _)

theorem kept_windowOpen' {a s : State} (h : Kept a s) (x1 : ℕ) (x2 : ℕ) :
    Kept a (State.windowOpen' s x1 x2) := by
  unfold State.windowOpen'
  exact (Kept.ite (kept_toWindow (kept_gateEvent (kept_sat (kept_openGate h _ _ _) _ _) _ _) _) (kept_setGs (kept_gateEvent (kept_sat (kept_openGate h _ _ _) _ _) _ _) _ _))

theorem kept_watchWindows {a s : State} (h : Kept a s) (x1 : ℕ) :
    Kept a (State.watchWindows s x1) := by
  unfold State.watchWindows
  exact (Kept.ite (Kept.ite (kept_windowOpen' h _ _) (Kept.ite (kept_setGs h _ _) (kept_setGs h _ _))) h)

theorem kept_rampDone {a s : State} (h : Kept a s) (x1 : ℕ) (x2 : ℕ) (x3 : ℕ) :
    Kept a (State.rampDone s x1 x2 x3) := by
  unfold State.rampDone
  exact (Kept.ite (kept_watchWindows (kept_overcurrent (kept_setPgood (kept_setGs (kept_set (kept_measureVout h _ _) _ _) _ _) _ _) _ _) _) (Kept.ite (kept_setPgood (kept_set (kept_measureVout h _ _) _ _) _ _) (kept_set (kept_measureVout h _ _) _ _)))

theorem kept_startGate {a s : State} (h : Kept a s) (x1 : ℕ) :
    Kept a (State.startGate s x1) := by
  unfold State.startGate
  exact (Kept.ite (kept_launch h _) h)

theorem kept_measureVin {a s : State} (h : Kept a s) (x1 : ℕ) (x2 : ℕ) :
    Kept a (State.measureVin s x1 x2) := by
  unfold State.measureVin
  exact (by split; exact (kept_set (kept_mapGate h _ _) _ _))

theorem kept_mapDock {a s : State} (h : Kept a s) (x1 : ℕ) (x2 : DockPort → DockPort) :
    Kept a (State.mapDock s x1 x2) := by
  unfold State.mapDock
  exact (Kept.upd h)

theorem kept_tripGate {a s : State} (h : Kept a s) (x1 : ℕ) (x2 : ℕ) (x3 : ℕ) :
    Kept a (State.tripGate s x1 x2 x3) := by
  unfold State.tripGate
  exact (kept_overcurrent (Kept.ite (kept_gateEvent (kept_gateEvent (kept_openGate (Kept.ite (kept_set (kept_set (kept_set (kept_sat (Kept.ite (kept_sat h _ _) (Kept.ite (kept_sat h _ _) (Kept.ite (kept_sat h _ _) (kept_sat h _ _)))) _ _) _ _) _ _) _ _) (kept_set (kept_set (kept_sat (Kept.ite (kept_sat h _ _) (Kept.ite (kept_sat h _ _) (Kept.ite (kept_sat h _ _) (kept_sat h _ _)))) _ _) _ _) _ _)) _ _ _) _ _) _ _) (kept_gateEvent (kept_openGate (Kept.ite (kept_set (kept_set (kept_set (kept_sat (Kept.ite (kept_sat h _ _) (Kept.ite (kept_sat h _ _) (Kept.ite (kept_sat h _ _) (kept_sat h _ _)))) _ _) _ _) _ _) _ _) (kept_set (kept_set (kept_sat (Kept.ite (kept_sat h _ _) (Kept.ite (kept_sat h _ _) (Kept.ite (kept_sat h _ _) (kept_sat h _ _)))) _ _) _ _) _ _)) _ _ _) _ _)) _ _)

theorem kept_clearCount {a s : State} (h : Kept a s) (x1 : ℕ) :
    Kept a (State.clearCount s x1) := by
  unfold State.clearCount
  exact (kept_set h _ _)

theorem kept_clearGate {a s : State} (h : Kept a s) (x1 : ℕ) :
    Kept a (State.clearGate s x1) := by
  unfold State.clearGate
  exact (Kept.ite (kept_leaveWait (kept_clearCount h _) _) (kept_clearCount h _))

theorem kept_commandOff {a s : State} (h : Kept a s) (x1 : ℕ) :
    Kept a (State.commandOff s x1) := by
  unfold State.commandOff
  exact (Kept.ite (kept_openGate h _ _ _) h)

theorem kept_fastStart {a s : State} (h : Kept a s) (x1 : ℕ) :
    Kept a (State.fastStart s x1).1 := by
  unfold State.fastStart
  exact (Kept.ite1 (Kept.pair (kept_gateEvent (kept_set h _ _) _ _)) (by (try dsimp -iota only); exact Kept.ite1 (Kept.pair (kept_setGs (kept_sets (kept_sat (kept_mapGate (kept_applyPending h _) _ _) _ _) _) _ _)) (Kept.pair (kept_gateEvent (kept_openGate (kept_setGs (kept_sets (kept_sat (kept_mapGate (kept_applyPending h _) _ _) _ _) _) _ _) _ _ _) _ _))))

theorem kept_removal {a s : State} (h : Kept a s) (x1 : ℕ) :
    Kept a (State.removal s x1) := by
  unfold State.removal
  exact (Kept.ite (kept_leaveWait (kept_clearCount h _) _) (kept_clearCount h _))

theorem kept_i2t {a s : State} (h : Kept a s) (x1 : ℕ) (x2 : ℕ) :
    Kept a (State.i2t s x1 x2) := by
  unfold State.i2t
  exact (kept_sets (kept_mapGate h _ _) _)

theorem kept_insertDone {a s : State} (h : Kept a s) (x1 : ℕ) :
    Kept a (State.insertDone s x1) := by
  unfold State.insertDone
  exact (Kept.ite (kept_setGs (kept_set (kept_mapGate h _ _) _ _) _ _) h)

end Sys2Proof.Machine
end

