-- ==== Sys2Proof/Laws/KeptDock.lean ====
section
/-! SUPPORT. What the operations of Machine/Dock.lean keep. -/

namespace Sys2Proof.Machine

set_option Elab.async false
set_option linter.unusedTactic false

theorem kept_tcpEvent {a s : State} (h : Kept a s) (x1 : ℕ) (x2 : ℕ) :
    Kept a (State.tcpEvent s x1 x2) := by
  unfold State.tcpEvent
  exact (kept_irq (kept_setB h _ _) _ _)

theorem kept_pd {a s : State} (h : Kept a s) (x1 : ℕ) (x2 : PdMsg) :
    Kept a (State.pd s x1 x2) := by
  unfold State.pd
  exact (kept_emit h _)

theorem kept_gateOnFor {a s : State} (h : Kept a s) (x1 : ℕ) (x2 : Bool) :
    Kept a (State.gateOnFor s x1 x2) := by
  unfold State.gateOnFor
  exact (kept_startGate (kept_set (kept_mapGate h _ _) _ _) _)

theorem kept_gateOffFor {a s : State} (h : Kept a s) (x1 : ℕ) :
    Kept a (State.gateOffFor s x1) := by
  unfold State.gateOffFor
  exact (Kept.ite (kept_mapGate h _ _) (kept_commandOff (kept_mapGate h _ _) _))

theorem kept_typec {a s : State} (h : Kept a s) (x1 : ℕ) (x2 : TypecAct) :
    Kept a (State.typec s x1 x2) := by
  unfold State.typec
  exact (kept_emit h _)

end Sys2Proof.Machine
end

