-- ==== Sys2Proof/Laws/KeptHubCore.lean ====
section
/-! SUPPORT. What the operations of Machine/HubCore.lean keep. -/

namespace Sys2Proof.Machine

set_option Elab.async false
set_option linter.unusedTactic false

theorem kept_mapUsb {a s : State} (h : Kept a s) (f : Usb → Usb)
    (hf : Memory.wf s.spool.usb.mem = true → Memory.wf (f s.spool.usb).mem = true := by exact fun k => k) :
    Kept a (s.mapUsb f) :=
  ⟨⟨h.inv.deployed, h.inv.regs, h.inv.sram, h.inv.nvs, hf h.inv.usb, h.inv.msix⟩, h.fuses, h.flash, h.pending⟩

theorem kept_portUnpower {a s : State} (h : Kept a s) (x1 : ℕ) :
    Kept a (State.portUnpower s x1) := by
  unfold State.portUnpower
  exact (Kept.ite (kept_gateOffFor (kept_sets (kept_mapUsb h _) _) _) (kept_sets (kept_mapUsb h _) _))

theorem kept_usbOut {a s : State} (h : Kept a s) (x1 : UsbOut) :
    Kept a (State.usbOut s x1) := by
  unfold State.usbOut
  exact (kept_emit h _)

theorem kept_mapNear {a s : State} (h : Kept a s) (x1 : ℕ) (x2 : NearPort → NearPort) :
    Kept a (State.mapNear s x1 x2) := by
  unfold State.mapNear
  exact (kept_mapUsb h _)

theorem kept_deviceReset {a s : State} (h : Kept a s) :
    Kept a (State.deviceReset s) := by
  unfold State.deviceReset
  exact (Kept.ite (kept_sets (kept_mapUsb (kept_sets (Kept.ite (kept_sat h _ _) h) _) _) _) (kept_mapUsb (kept_sets (Kept.ite (kept_sat h _ _) h) _) _))

theorem kept_hubReset {a s : State} (h : Kept a s) :
    Kept a (State.hubReset s) := by
  unfold State.hubReset
  exact (kept_deviceReset (kept_mapUsb (kept_each (kept_set h _ _) _ _ (fun _ _ h100 => (kept_mapNear (kept_sets h100 _) _ _))) _))

theorem kept_usbReview {a s : State} (h : Kept a s) :
    Kept a (State.usbReview s) := by
  unfold State.usbReview
  exact (Kept.ite h (Kept.ite (kept_irq (kept_usbOut (kept_set h _ _) _) _ _) (kept_irq (kept_each (kept_hubReset (kept_usbOut (kept_set h _ _) _)) _ _ (fun _ _ h100 => (kept_portUnpower h100 _))) _ _)))

theorem kept_mapFar {a s : State} (h : Kept a s) (x1 : ℕ) (x2 : FarPort → FarPort) :
    Kept a (State.mapFar s x1 x2) := by
  unfold State.mapFar
  exact (kept_mapUsb h _)

end Sys2Proof.Machine
end

