-- ==== Sys2Proof/Laws/KeptTcp.lean ====
section
/-! SUPPORT. What the operations of Machine/Tcp.lean keep. -/

namespace Sys2Proof.Machine

set_option Elab.async false
set_option linter.unusedTactic false

theorem kept_cancelRetry {a s : State} (h : Kept a s) (x1 : ℕ) :
    Kept a (State.cancelRetry s x1) := by
  unfold State.cancelRetry
  exact (Kept.ite (kept_mapDock h _ _) h)

theorem kept_sendCaps {a s : State} (h : Kept a s) (x1 : ℕ) :
    Kept a (State.sendCaps s x1) := by
  unfold State.sendCaps
  exact (Kept.ite h (Kept.ite (kept_mapDock (kept_cancelRetry h _) _ _) (kept_pd (kept_mapDock (kept_cancelRetry h _) _ _) _ _)))

theorem kept_takeCable {a s : State} (h : Kept a s) (x1 : ℕ) (x2 : Bool) (x3 : ℕ) (x4 : Bool) (x5 : Bool) :
    Kept a (State.takeCable s x1 x2 x3 x4 x5) := by
  unfold State.takeCable
  exact (Kept.ite (kept_sendCaps (kept_sets h _) _) (kept_sets h _))

theorem kept_advertise {a s : State} (h : Kept a s) (x1 : ℕ) :
    Kept a (State.advertise s x1) := by
  unfold State.advertise
  exact (by split; exact (kept_typec h _ _); exact (kept_typec h _ _))

theorem kept_idleCc {a s : State} (h : Kept a s) (x1 : ℕ) :
    Kept a (State.idleCc s x1) := by
  unfold State.idleCc
  exact (Kept.ite (kept_typec (kept_set h _ _) _ _) (Kept.ite (kept_advertise (kept_set h _ _) _) (Kept.ite (kept_typec (kept_set h _ _) _ _) (kept_typec (kept_set (kept_mapDock h _ _) _ _) _ _))))

theorem kept_altEnd {a s : State} (h : Kept a s) (x1 : ℕ) :
    Kept a (State.altEnd s x1) := by
  unfold State.altEnd
  exact (Kept.ite h (Kept.ite (kept_mapDock (kept_tcpEvent (kept_sets h _) _ _) _ _) (Kept.ite (kept_portFault (kept_setPort (kept_mapDock (kept_tcpEvent (kept_sets h _) _ _) _ _) _ _) _ _) (kept_setPort (kept_mapDock (kept_tcpEvent (kept_sets h _) _ _) _ _) _ _))))

theorem kept_dischargeFor {a s : State} (h : Kept a s) (x1 : ℕ) :
    Kept a (State.dischargeFor s x1) := by
  unfold State.dischargeFor
  exact (Kept.ite (kept_set h _ _) h)

theorem kept_dropContract {a s : State} (h : Kept a s) (x1 : ℕ) (x2 : ℕ) :
    Kept a (State.dropContract s x1 x2) := by
  unfold State.dropContract
  exact (kept_typec (kept_mapDock (kept_wr (kept_sets h _) _ _) _ _) _ _)

theorem kept_leaveAttach {a s : State} (h : Kept a s) (x1 : ℕ) :
    Kept a (State.leaveAttach s x1) := by
  unfold State.leaveAttach
  exact (Kept.ite (kept_typec (kept_sets (kept_usbReview (kept_tcpEvent (kept_set (kept_wr (kept_wr (kept_sets (kept_dropContract (Kept.ite (kept_dischargeFor (kept_gateOffFor (kept_altEnd h _) _) _) (kept_gateOffFor (kept_altEnd h _) _)) _ _) _) _ _) _ _) _ _) _ _)) _) _ _) (kept_typec (kept_idleCc (kept_usbReview (kept_tcpEvent (kept_set (kept_wr (kept_wr (kept_sets (kept_dropContract (Kept.ite (kept_dischargeFor (kept_gateOffFor (kept_altEnd h _) _) _) (kept_gateOffFor (kept_altEnd h _) _)) _ _) _) _ _) _ _) _ _) _ _)) _) _ _))

theorem kept_starve {a s : State} (h : Kept a s) (x1 : ℕ) :
    Kept a (State.starve s x1) := by
  unfold State.starve
  exact (Kept.ite (kept_leaveAttach h _) h)

theorem kept_setLive {a s : State} (h : Kept a s) (x1 : ℕ) (x2 : ℕ) :
    Kept a (State.setLive s x1 x2) := by
  unfold State.setLive
  exact (kept_set (kept_set h _ _) _ _)

theorem kept_shrinkPort {a s : State} (h : Kept a s) (x1 : ℕ) :
    Kept a (State.shrinkPort s x1) := by
  unfold State.shrinkPort
  exact (by split; exact h; exact (Kept.ite (kept_mapDock (kept_setLive h _ _) _ _) h))

theorem kept_rpChanged {a s : State} (h : Kept a s) (x1 : ℕ) :
    Kept a (State.rpChanged s x1) := by
  unfold State.rpChanged
  exact (Kept.ite h (Kept.ite (kept_advertise h _) (Kept.ite (Kept.ite (kept_advertise h _) (kept_typec (kept_mapDock h _ _) _ _)) h)))

theorem kept_growPort {a s : State} (h : Kept a s) (x1 : ℕ) :
    Kept a (State.growPort s x1) := by
  unfold State.growPort
  exact (by split; exact h; exact (Kept.ite h (Kept.ite (kept_setLive h _ _) (Kept.ite (kept_sendCaps (kept_rpChanged (kept_mapDock (kept_setLive h _ _) _ _) _) _) (kept_rpChanged (kept_mapDock (kept_setLive h _ _) _ _) _)))))

theorem kept_budgetStep {a s : State} (h : Kept a s) :
    Kept a (State.budgetStep s) := by
  unfold State.budgetStep
  exact (Kept.ite (kept_irq (kept_set (kept_set (kept_each (kept_each h _ _ (fun _ _ h100 => (kept_starve (kept_shrinkPort h100 _) _))) _ _ (fun _ _ h101 => (kept_growPort h101 _))) _ _) _ _) _ _) (kept_set (kept_each (kept_each h _ _ (fun _ _ h102 => (kept_starve (kept_shrinkPort h102 _) _))) _ _ (fun _ _ h103 => (kept_growPort h103 _))) _ _))

theorem kept_endAttach {a s : State} (h : Kept a s) (x1 : ℕ) :
    Kept a (State.endAttach s x1) := by
  unfold State.endAttach
  exact (kept_budgetStep (kept_leaveAttach h _))

theorem kept_errorRecovery {a s : State} (h : Kept a s) (x1 : ℕ) :
    Kept a (State.errorRecovery s x1) := by
  unfold State.errorRecovery
  exact (Kept.ite (kept_typec (kept_endAttach h _) _ _) (kept_set (kept_typec (kept_endAttach h _) _ _) _ _))

theorem kept_portCmd {a s : State} (h : Kept a s) (x1 : Requester) (x2 : ℕ) (x3 : ℕ) (x4 : State → Bool) (x5 : State → State) (h5 : ∀ y0, Kept a y0 → Kept a (x5 y0)) :
    Kept a (State.portCmd s x1 x2 x3 x4 x5) := by
  unfold State.portCmd
  exact (kept_command h _ _ _ _ (fun _ h100 => (Kept.ite (h5 _ (kept_sets h100 _)) (kept_sets h100 _))))

theorem kept_sendOwn {a s : State} (h : Kept a s) (x1 : ℕ) (x2 : ℕ) :
    Kept a (State.sendOwn s x1 x2) := by
  unfold State.sendOwn
  exact (by (try dsimp -iota only); split; exact (kept_pd (kept_mapDock h _ _) _ _); exact (kept_pd (kept_mapDock h _ _) _ _); exact (kept_pd (kept_mapDock h _ _) _ _); exact (by split; exact (kept_pd (kept_mapDock h _ _) _ _); exact (kept_mapDock h _ _)); exact (kept_mapDock h _ _))

theorem kept_execVconnSwap {a s : State} (h : Kept a s) (x0 : Requester) (x1 : Fin 6) :
    KeptStep a (execVconnSwap x0 x1 s) := by
  unfold execVconnSwap
  exact (KeptStep.next (kept_portCmd h _ _ _ _ _ (fun _ h100 => (kept_sendOwn h100 _ _))))

theorem kept_endOwn {a s : State} (h : Kept a s) (x1 : ℕ) :
    Kept a (State.endOwn s x1) := by
  unfold State.endOwn
  exact (kept_mapDock h _ _)

theorem kept_beginPrSwap {a s : State} (h : Kept a s) (x1 : ℕ) :
    Kept a (State.beginPrSwap s x1) := by
  unfold State.beginPrSwap
  exact (Kept.ite (kept_dischargeFor (kept_gateOffFor (kept_mapDock h _ _) _) _) (kept_gateOffFor (kept_mapDock h _ _) _))

theorem kept_flipData {a s : State} (h : Kept a s) (x1 : ℕ) :
    Kept a (State.flipData s x1) := by
  unfold State.flipData
  exact (kept_usbReview (kept_set h _ _))

theorem kept_sendEnter {a s : State} (h : Kept a s) (x1 : ℕ) (x2 : Bool) :
    Kept a (State.sendEnter s x1 x2) := by
  unfold State.sendEnter
  exact (by split; exact (kept_pd (kept_mapDock h _ _) _ _); exact (kept_mapDock h _ _))

theorem kept_readCable {a s : State} (h : Kept a s) (x1 : ℕ) :
    Kept a (State.readCable s x1) := by
  unfold State.readCable
  exact (Kept.ite (kept_pd h _ _) (kept_sendEnter h _ _))

theorem kept_vconnSettled {a s : State} (h : Kept a s) (x1 : ℕ) :
    Kept a (State.vconnSettled s x1) := by
  unfold State.vconnSettled
  exact (Kept.ite (kept_readCable h _) h)

theorem kept_execSwapAnswerRx {a s : State} (h : Kept a s) (x0 : Fin 6) (x1 : Bool) :
    KeptStep a (execSwapAnswerRx x0 x1 s) := by
  unfold execSwapAnswerRx
  exact (KeptStep.next (kept_ifAon h _ (fun _ h100 => (Kept.ite h100 (Kept.ite (by (try dsimp -iota only); split; exact (kept_beginPrSwap (kept_endOwn h100 _) _); exact (kept_flipData (kept_endOwn h100 _) _); exact (kept_vconnSettled (kept_set (kept_endOwn h100 _) _ _) _); exact (by split; exact (Kept.ite (kept_endOwn h100 _) (kept_set (kept_mapDock (kept_endOwn h100 _) _ _) _ _)); exact (kept_endOwn h100 _))) (Kept.ite (kept_mapDock h100 _ _) (Kept.ite (kept_vconnSettled (kept_mapDock (kept_endOwn h100 _) _ _) _) (kept_mapDock (kept_endOwn h100 _) _ _))))))))

theorem kept_seekUfp {a s : State} (h : Kept a s) (x1 : ℕ) :
    Kept a (State.seekUfp s x1) := by
  unfold State.seekUfp
  exact (Kept.ite (kept_sendOwn h _ _) h)

theorem kept_doHardReset {a s : State} (h : Kept a s) (x1 : ℕ) :
    Kept a (State.doHardReset s x1) := by
  unfold State.doHardReset
  exact (Kept.ite (kept_seekUfp (kept_sendCaps (kept_budgetStep (kept_usbReview (kept_sets (kept_dropContract (kept_altEnd (kept_tcpEvent (kept_sat h _ _) _ _) _) _ _) _))) _) _) (kept_budgetStep (kept_usbReview (kept_sets (kept_dropContract (kept_altEnd (kept_tcpEvent (kept_sat h _ _) _ _) _) _ _) _))))

theorem kept_execHardResetRx {a s : State} (h : Kept a s) (x0 : Fin 6) :
    KeptStep a (execHardResetRx x0 s) := by
  unfold execHardResetRx
  exact (KeptStep.next (kept_ifAon h _ (fun _ h100 => (Kept.ite (kept_doHardReset h100 _) h100))))

theorem kept_acceptSwap {a s : State} (h : Kept a s) (x1 : ℕ) (x2 : Bool) :
    Kept a (State.acceptSwap s x1 x2) := by
  unfold State.acceptSwap
  exact (Kept.ite (kept_seekUfp (kept_flipData (kept_pd (Kept.ite (kept_altEnd (kept_pd h _ _) _) h) _ _) _) _) (kept_beginPrSwap (kept_pd h _ _) _))

theorem kept_enterEpr {a s : State} (h : Kept a s) (x1 : ℕ) :
    Kept a (State.enterEpr s x1) := by
  unfold State.enterEpr
  exact (Kept.ite (kept_sendCaps (kept_mapDock h _ _) _) h)

theorem kept_sendWait {a s : State} (h : Kept a s) (x1 : ℕ) :
    Kept a (State.sendWait s x1) := by
  unfold State.sendWait
  exact (kept_sat (kept_pd h _ _) _ _)

theorem kept_acceptRequest {a s : State} (h : Kept a s) (x1 : ℕ) (x2 : ℕ) (x3 : ℕ) (x4 : ℕ) :
    Kept a (State.acceptRequest s x1 x2 x3 x4) := by
  unfold State.acceptRequest
  exact (Kept.ite (kept_mapDock (kept_pd h _ _) _ _) (kept_typec (kept_set (kept_mapDock (kept_mapDock (kept_pd h _ _) _ _) _ _) _ _) _ _))

theorem kept_execRequestRx {a s : State} (h : Kept a s) (x0 : Fin 6) (x1 : ℕ) (x2 : ℕ) (x3 : Bool) :
    KeptStep a (execRequestRx x0 x1 x2 x3 s) := by
  unfold execRequestRx
  exact (KeptStep.next (kept_ifAon h _ (fun _ h100 => (Kept.ite h100 (Kept.ite (kept_sendWait (kept_sat (Kept.ite (kept_enterEpr h100 _) h100) _ _) _) (Kept.ite (kept_sendWait (Kept.ite (kept_enterEpr h100 _) h100) _) (by split; exact (Kept.ite (kept_acceptRequest (Kept.ite (kept_enterEpr h100 _) h100) _ _ _ _) (kept_pd (Kept.ite (kept_enterEpr h100 _) h100) _ _)); exact (kept_pd (Kept.ite (kept_enterEpr h100 _) h100) _ _))))))))

theorem kept_frsFailed {a s : State} (h : Kept a s) (x1 : ℕ) :
    Kept a (State.frsFailed s x1) := by
  unfold State.frsFailed
  exact (kept_errorRecovery h _)

theorem kept_goWet {a s : State} (h : Kept a s) (x1 : ℕ) :
    Kept a (State.goWet s x1) := by
  unfold State.goWet
  exact (kept_typec (Kept.ite (kept_endAttach (kept_altEnd (kept_set (kept_gateOffFor (kept_tcpEvent (kept_set (kept_sat h _ _) _ _) _ _) _) _ _) _) _) (kept_altEnd (kept_set (kept_gateOffFor (kept_tcpEvent (kept_set (kept_sat h _ _) _ _) _ _) _) _ _) _)) _ _)

theorem kept_execWaitRx {a s : State} (h : Kept a s) (x0 : Fin 6) :
    KeptStep a (execWaitRx x0 s) := by
  unfold execWaitRx
  exact (KeptStep.next (kept_ifAon h _ (fun _ h100 => (Kept.ite h100 (kept_mapDock (kept_sat h100 _ _) _ _)))))

theorem kept_execPrSwap {a s : State} (h : Kept a s) (x0 : Requester) (x1 : Fin 6) :
    KeptStep a (execPrSwap x0 x1 s) := by
  unfold execPrSwap
  exact (KeptStep.next (kept_portCmd h _ _ _ _ _ (fun _ h100 => (kept_sendOwn h100 _ _))))

theorem kept_holdPort {a s : State} (h : Kept a s) (x1 : ℕ) :
    Kept a (State.holdPort s x1) := by
  unfold State.holdPort
  exact (Kept.ite (kept_set (kept_set h _ _) _ _) (Kept.ite (kept_set h _ _) (Kept.ite (kept_set (kept_mapDock (kept_set h _ _) _ _) _ _) (kept_typec (kept_sets (kept_set h _ _) _) _ _))))

theorem kept_tcpPortOn {a s : State} (h : Kept a s) (x1 : ℕ) :
    Kept a (State.tcpPortOn s x1) := by
  unfold State.tcpPortOn
  exact (Kept.ite (Kept.ite (kept_altEnd (kept_pd (Kept.ite (kept_sendCaps (kept_set h _ _) _) (kept_set h _ _)) _ _) _) (Kept.ite (kept_sendCaps (kept_set h _ _) _) (kept_set h _ _))) (kept_typec (kept_idleCc h _) _ _))

theorem kept_execWaitRetry {a s : State} (h : Kept a s) (x0 : Fin 6) (x1 : ℕ) :
    KeptStep a (execWaitRetry x0 x1 s) := by
  unfold execWaitRetry
  exact (KeptStep.next (kept_ifAon h _ (fun _ h100 => (Kept.ite h100 (Kept.ite (kept_vconnSettled (kept_tcpEvent (kept_endOwn h100 _) _ _) _) (kept_sendOwn h100 _ _))))))

theorem kept_execDetach {a s : State} (h : Kept a s) (x0 : Fin 6) :
    KeptStep a (execDetach x0 s) := by
  unfold execDetach
  exact (KeptStep.next (kept_ifAon h _ (fun _ h100 => (Kept.ite h100 (Kept.ite (Kept.ite h100 (kept_typec (kept_mapDock h100 _ _) _ _)) (kept_endAttach h100 _))))))

theorem kept_tryRole {a s : State} (h : Kept a s) (x1 : ℕ) (x2 : Bool) :
    Kept a (State.tryRole s x1 x2) := by
  unfold State.tryRole
  exact (Kept.ite (kept_advertise (kept_set (kept_mapDock h _ _) _ _) _) (kept_typec (kept_set (kept_mapDock h _ _) _ _) _ _))

theorem kept_discoverCable {a s : State} (h : Kept a s) (x1 : ℕ) :
    Kept a (State.discoverCable s x1) := by
  unfold State.discoverCable
  exact (Kept.ite (kept_sendOwn (kept_mapDock h _ _) _ _) (kept_readCable (kept_mapDock h _ _) _))

theorem kept_toggle {a s : State} (h : Kept a s) (x1 : ℕ) (x2 : ℕ) :
    Kept a (State.toggle s x1 x2) := by
  unfold State.toggle
  exact (Kept.ite (kept_advertise (kept_set (kept_mapDock h _ _) _ _) _) (kept_typec (kept_set (kept_mapDock h _ _) _ _) _ _))

theorem kept_execDrpToggle {a s : State} (h : Kept a s) (x0 : PortMs) :
    KeptStep a (execDrpToggle x0 s) := by
  unfold execDrpToggle
  exact (KeptStep.next (kept_ifAon h _ (fun _ h100 => (Kept.ite (Kept.ite (kept_toggle h100 _ _) (Kept.ite (kept_toggle h100 _ _) h100)) h100))))

theorem kept_startDiscovery {a s : State} (h : Kept a s) (x1 : ℕ) :
    Kept a (State.startDiscovery s x1) := by
  unfold State.startDiscovery
  exact (Kept.ite h (kept_pd (kept_mapDock h _ _) _ _))

theorem kept_execDrSwap {a s : State} (h : Kept a s) (x0 : Requester) (x1 : Fin 6) :
    KeptStep a (execDrSwap x0 x1 s) := by
  unfold execDrSwap
  exact (KeptStep.next (kept_portCmd h _ _ _ _ _ (fun _ h100 => (kept_sendOwn (Kept.ite (kept_altEnd (kept_pd h100 _ _) _) h100) _ _))))

theorem kept_altEntered {a s : State} (h : Kept a s) (x1 : ℕ) (x2 : Bool) :
    Kept a (State.altEntered s x1 x2) := by
  unfold State.altEntered
  exact (Kept.ite (kept_tcpEvent (kept_sets h _) _ _) (kept_tryCdr (kept_set (kept_startTx (kept_setPort (kept_tcpEvent (kept_sets h _) _ _) _ _) _) _ _) _))

theorem kept_execEnterModeRx {a s : State} (h : Kept a s) (x0 : Fin 6) (x1 : Bool) :
    KeptStep a (execEnterModeRx x0 x1 s) := by
  unfold execEnterModeRx
  exact (KeptStep.next (kept_ifAon h _ (fun _ h100 => (Kept.ite h100 (Kept.ite (kept_pd h100 _ _) (Kept.ite (kept_altEntered (kept_pd h100 _ _) _ _) (kept_pd h100 _ _)))))))

theorem kept_execVdmAckRx {a s : State} (h : Kept a s) (x0 : Fin 6) (x1 : Fin 3) (x2 : Bool) (x3 : Word) (x4 : Fin 8) (x5 : Bool) (x6 : Bool) :
    KeptStep a (execVdmAckRx x0 x1 x2 x3 x4 x5 x6 s) := by
  unfold execVdmAckRx
  exact (KeptStep.next (kept_ifAon h _ (fun _ h100 => (Kept.ite h100 (by split; exact (Kept.ite h100 (Kept.ite (kept_mapDock (kept_wr h100 _ _) _ _) (kept_discoverCable (kept_wr h100 _ _) _))); exact (Kept.ite h100 (Kept.ite (kept_sendEnter (kept_takeCable h100 _ _ _ _ _) _ _) (kept_takeCable h100 _ _ _ _ _))); exact (Kept.ite h100 (Kept.ite (kept_altEntered (kept_mapDock h100 _ _) _ _) (kept_mapDock h100 _ _))))))))

theorem kept_powerUp {a s : State} (h : Kept a s) (x1 : ℕ) :
    Kept a (State.powerUp s x1) := by
  unfold State.powerUp
  exact (Kept.ite (kept_seekUfp (kept_sendCaps (kept_pd (kept_advertise (kept_gateOnFor (kept_typec (kept_set (kept_set h _ _) _ _) _ _) _ _) _) _ _) _) _) (Kept.ite (kept_gateOnFor (kept_set h _ _) _ _) (kept_set (kept_set h _ _) _ _)))

theorem kept_goDry {a s : State} (h : Kept a s) (x1 : ℕ) :
    Kept a (State.goDry s x1) := by
  unfold State.goDry
  exact (Kept.ite (kept_idleCc (kept_set h _ _) _) (Kept.ite (kept_endAttach (kept_set h _ _) _) (Kept.ite (kept_powerUp (kept_set h _ _) _) (Kept.ite (kept_gateOnFor (kept_set h _ _) _ _) (kept_set h _ _)))))

theorem kept_execCmdDetach {a s : State} (h : Kept a s) (x0 : Requester) (x1 : Fin 6) :
    KeptStep a (execCmdDetach x0 x1 s) := by
  unfold execCmdDetach
  exact (KeptStep.next (kept_portCmd h _ _ _ _ _ (fun _ h100 => (kept_errorRecovery h100 _))))

theorem kept_execFrSwapSignal {a s : State} (h : Kept a s) (x0 : Fin 6) :
    KeptStep a (execFrSwapSignal x0 s) := by
  unfold execFrSwapSignal
  exact (KeptStep.next (kept_ifAon h _ (fun _ h100 => (Kept.ite h100 (Kept.ite (kept_frsFailed (kept_fastStart (kept_tcpEvent (kept_sat (kept_pd (kept_dropContract h100 _ _) _ _) _ _) _ _) _) _) (kept_sendCaps (kept_advertise (Kept.ite (kept_set (kept_set (kept_fastStart (kept_tcpEvent (kept_sat (kept_pd (kept_dropContract h100 _ _) _ _) _ _) _ _) _) _ _) _ _) (kept_set (kept_fastStart (kept_tcpEvent (kept_sat (kept_pd (kept_dropContract h100 _ _) _ _) _ _) _ _) _) _ _)) _) _))))))

theorem kept_execHardReset {a s : State} (h : Kept a s) (x0 : Requester) (x1 : Fin 6) :
    KeptStep a (execHardReset x0 x1 s) := by
  unfold execHardReset
  exact (KeptStep.next (kept_portCmd h _ _ _ _ _ (fun _ h100 => (kept_doHardReset (kept_pd h100 _ _) _))))

theorem kept_execSenderResponseTimeout {a s : State} (h : Kept a s) (x0 : Fin 6) :
    KeptStep a (execSenderResponseTimeout x0 s) := by
  unfold execSenderResponseTimeout
  exact (KeptStep.next (kept_ifAon h _ (fun _ h100 => (by (try dsimp -iota only); split; exact h100; exact (Kept.ite h100 (Kept.ite (kept_sendCaps (kept_pd (kept_mapDock h100 _ _) _ _) _) (kept_budgetStep (kept_tcpEvent (kept_set (kept_mapDock (kept_setLive h100 _ _) _ _) _ _) _ _))))))))

theorem kept_execAskAnswer {a s : State} (h : Kept a s) (x0 : Requester) (x1 : Fin 6) (x2 : Word) :
    KeptStep a (execAskAnswer x0 x1 x2 s) := by
  unfold execAskAnswer
  exact (KeptStep.next (kept_command h _ _ _ _ (fun _ h100 => (Kept.ite (kept_mapDock h100 _ _) h100))))

theorem kept_execSendCaps {a s : State} (h : Kept a s) (x0 : Requester) (x1 : Fin 6) :
    KeptStep a (execSendCaps x0 x1 s) := by
  unfold execSendCaps
  exact (KeptStep.next (kept_portCmd h _ _ _ _ _ (fun _ h100 => (kept_sendCaps h100 _))))

theorem kept_execDetachDeclare {a s : State} (h : Kept a s) (x0 : Fin 6) (x1 : ℕ) :
    KeptStep a (execDetachDeclare x0 x1 s) := by
  unfold execDetachDeclare
  exact (KeptStep.next (kept_ifAon h _ (fun _ h100 => (Kept.ite (kept_endAttach (kept_sat h100 _ _) _) h100))))

theorem kept_swapGuard {a s : State} (h : Kept a s) (x1 : ℕ) :
    Kept a (State.swapGuard s x1).1 := by
  unfold State.swapGuard
  exact (Kept.ite1 (Kept.pair (kept_sendWait h _)) (Kept.ite1 (Kept.pair (kept_pd h _ _)) (Kept.ite1 (Kept.pair (kept_sendWait h _)) (Kept.ite1 (Kept.pair (kept_sendWait (Kept.ite (kept_sendCaps h _) h) _)) (Kept.ite1 (by (try dsimp -iota only); exact Kept.ite1 (Kept.pair (kept_sendWait (kept_sat h _ _) _)) (Kept.pair (kept_mapDock (kept_sat h _ _) _ _))) (Kept.pair h))))))

theorem kept_flipPower {a s : State} (h : Kept a s) (x1 : ℕ) :
    Kept a (State.flipPower s x1) := by
  unfold State.flipPower
  exact (Kept.ite (Kept.ite (kept_gateOnFor (kept_set (kept_dropContract h _ _) _ _) _ _) (kept_set (kept_gateOffFor (kept_set (kept_dropContract h _ _) _ _) _) _ _)) (kept_sendCaps (kept_advertise (kept_gateOnFor (kept_set (kept_dropContract h _ _) _ _) _ _) _) _))

theorem kept_execVconnSwapRx {a s : State} (h : Kept a s) (x0 : Fin 6) :
    KeptStep a (execVconnSwapRx x0 s) := by
  unfold execVconnSwapRx
  exact (KeptStep.next (kept_ifAon h _ (fun _ h100 => (Kept.ite h100 (Kept.ite (kept_swapGuard h100 _) (Kept.ite (kept_set (kept_pd (kept_swapGuard h100 _) _ _) _ _) (kept_pd (kept_swapGuard h100 _) _ _)))))))

theorem kept_enterContract {a s : State} (h : Kept a s) (x1 : ℕ) (x2 : ℕ × ℕ × ℕ × Bool) :
    Kept a (State.enterContract s x1 x2) := by
  unfold State.enterContract
  exact (Kept.ite (kept_pd (kept_mapDock (kept_sets h _) _ _) _ _) (kept_mapDock (kept_sets h _) _ _))

theorem kept_execPsRdy {a s : State} (h : Kept a s) (x0 : Fin 6) :
    KeptStep a (execPsRdy x0 s) := by
  unfold execPsRdy
  exact (KeptStep.next (kept_ifAon h _ (fun _ h100 => (Kept.ite h100 (Kept.ite (kept_tcpEvent (kept_flipPower h100 _) _ _) (by split; exact h100; exact (Kept.ite h100 (kept_seekUfp (kept_startDiscovery (kept_budgetStep (kept_tcpEvent (kept_enterContract h100 _ _) _ _)) _) _))))))))

theorem kept_moistResult {a s : State} (h : Kept a s) (x1 : ℕ) (x2 : ℕ) (x3 : ℕ) :
    Kept a (State.moistResult s x1 x2 x3) := by
  unfold State.moistResult
  exact (Kept.ite (kept_goWet (kept_sets h _) _) (Kept.ite (Kept.ite (kept_goDry (kept_sets h _) _) (kept_sets h _)) (Kept.ite (kept_idleCc (kept_sets h _) _) (kept_sets h _))))

theorem kept_attachAs {a s : State} (h : Kept a s) (x1 : ℕ) (x2 : Bool) (x3 : Bool) (x4 : ℕ) (x5 : ℕ) (x6 : ℕ) (x7 : ℕ) (x8 : ℕ) (x9 : ℕ) :
    Kept a (State.attachAs s x1 x2 x3 x4 x5 x6 x7 x8 x9) := by
  unfold State.attachAs
  exact (Kept.ite (kept_moistResult (kept_typec (kept_tcpEvent (kept_sat (kept_usbReview (kept_sets h _)) _ _) _ _) _ _) _ _ _) (kept_powerUp (kept_moistResult (kept_typec (kept_tcpEvent (kept_sat (kept_usbReview (kept_sets h _)) _ _) _ _) _ _) _ _ _) _))

theorem kept_signalFrs {a s : State} (h : Kept a s) :
    Kept a (State.signalFrs s) := by
  unfold State.signalFrs
  exact (kept_each h _ _ (fun _ _ h100 => (Kept.ite (kept_typec h100 _ _) h100)))

theorem kept_execTcpPortHold {a s : State} (h : Kept a s) (x0 : Requester) (x1 : Fin 6) (x2 : Word) :
    KeptStep a (execTcpPortHold x0 x1 x2 s) := by
  unfold execTcpPortHold
  exact (KeptStep.next (kept_command h _ _ _ _ (fun _ h100 => (kept_holdPort h100 _))))

theorem kept_execMoistureTimer {a s : State} (h : Kept a s) (x0 : Fin 6) :
    KeptStep a (execMoistureTimer x0 s) := by
  unfold execMoistureTimer
  exact (KeptStep.next (kept_ifAon h _ (fun _ h100 => (Kept.ite (kept_typec h100 _ _) h100))))

theorem kept_execDiscoverRx {a s : State} (h : Kept a s) (x0 : Fin 6) (x1 : Fin 3) :
    KeptStep a (execDiscoverRx x0 x1 s) := by
  unfold execDiscoverRx
  exact (KeptStep.next (kept_ifAon h _ (fun _ h100 => (Kept.ite h100 (Kept.ite (kept_pd h100 _ _) (Kept.ite (kept_pd h100 _ _) (kept_pd h100 _ _)))))))

theorem kept_execExitMode {a s : State} (h : Kept a s) (x0 : Requester) (x1 : Fin 6) :
    KeptStep a (execExitMode x0 x1 s) := by
  unfold execExitMode
  exact (KeptStep.next (kept_portCmd h _ _ _ _ _ (fun _ h100 => (kept_altEnd (kept_pd h100 _ _) _))))

theorem kept_execExitModeRx {a s : State} (h : Kept a s) (x0 : Fin 6) :
    KeptStep a (execExitModeRx x0 s) := by
  unfold execExitModeRx
  exact (KeptStep.next (kept_ifAon h _ (fun _ h100 => (Kept.ite h100 (Kept.ite (kept_pd h100 _ _) (kept_altEnd (kept_pd h100 _ _) _))))))

theorem kept_execAttach {a s : State} (h : Kept a s) (x0 : Fin 6) (x1 : Bool) (x2 : Bool) (x3 : PinKohm) (x4 : CcTerms) :
    KeptStep a (execAttach x0 x1 x2 x3 x4 s) := by
  unfold execAttach
  exact (KeptStep.next (kept_ifAon h _ (fun _ h100 => (Kept.ite (kept_typec (kept_mapDock h100 _ _) _ _) (Kept.ite h100 (Kept.ite (kept_tryRole h100 _ _) (kept_attachAs h100 _ _ _ _ _ _ _ _ _)))))))

theorem kept_execEnterMode {a s : State} (h : Kept a s) (x0 : Requester) (x1 : Fin 6) :
    KeptStep a (execEnterMode x0 x1 s) := by
  unfold execEnterMode
  exact (KeptStep.next (kept_portCmd h _ _ _ _ _ (fun _ h100 => (kept_sendEnter h100 _ _))))

theorem kept_takeBudget {a s : State} (h : Kept a s) :
    Kept a (State.takeBudget s) := by
  unfold State.takeBudget
  exact (kept_budgetStep (kept_each (kept_set h _ _) _ _ (fun _ _ h100 => (Kept.ite (kept_mapDock h100 _ _) (Kept.ite (kept_sendCaps (Kept.ite (kept_mapDock h100 _ _) (kept_rpChanged (kept_mapDock h100 _ _) _)) _) (Kept.ite (kept_mapDock h100 _ _) (kept_rpChanged (kept_mapDock h100 _ _) _)))))))

theorem kept_execBudgetCommit {a s : State} (h : Kept a s) (x0 : Requester) (x1 : Word) :
    KeptStep a (execBudgetCommit x0 x1 s) := by
  unfold execBudgetCommit
  exact (KeptStep.next (kept_command h _ _ _ _ (fun _ h100 => (Kept.ite h100 (Kept.ite (kept_sets h100 _) (by split; exact (kept_sets h100 _); exact (Kept.ite (kept_sets h100 _) (kept_takeBudget (kept_sets h100 _)))))))))

theorem kept_execSourceCapabilitiesRx {a s : State} (h : Kept a s) (x0 : Fin 6) (x1 : List Word) :
    KeptStep a (execSourceCapabilitiesRx x0 x1 s) := by
  unfold execSourceCapabilitiesRx
  exact (KeptStep.next (kept_ifAon h _ (fun _ h100 => (Kept.ite h100 (kept_sendOwn (kept_mapDock (kept_endOwn h100 _) _ _) _ _)))))

theorem kept_execSwapRx {a s : State} (h : Kept a s) (x0 : Fin 6) (x1 : Bool) :
    KeptStep a (execSwapRx x0 x1 s) := by
  unfold execSwapRx
  exact (KeptStep.next (kept_ifAon h _ (fun _ h100 => (Kept.ite h100 (Kept.ite (kept_swapGuard h100 _) (Kept.ite (kept_pd (kept_swapGuard h100 _) _ _) (Kept.ite (kept_acceptSwap (kept_swapGuard h100 _) _ _) (Kept.ite (by split; exact (Kept.ite (Kept.ite (kept_acceptSwap (kept_set (kept_mapDock (kept_swapGuard h100 _) _ _) _ _) _ _) (kept_pd (kept_set (kept_mapDock (kept_swapGuard h100 _) _ _) _ _) _ _)) (kept_tcpEvent (kept_sendWait (kept_set (kept_swapGuard h100 _) _ _) _) _ _)); exact (Kept.ite (kept_sendWait (kept_swapGuard h100 _) _) (kept_tcpEvent (kept_sendWait (kept_set (kept_swapGuard h100 _) _ _) _) _ _))) (kept_pd (kept_swapGuard h100 _) _ _)))))))))

theorem kept_execMoistureTest {a s : State} (h : Kept a s) (x0 : Fin 6) (x1 : PinKohm) (x2 : CcTerms) :
    KeptStep a (execMoistureTest x0 x1 x2 s) := by
  unfold execMoistureTest
  exact (KeptStep.next (kept_ifAon h _ (fun _ h100 => (Kept.ite (kept_moistResult h100 _ _ _) h100))))

end Sys2Proof.Machine
end

