-- ==== Sys2Proof/Laws/KeptGateRows.lean ====
section
/-! SUPPORT. What the operations of Machine/GateRows.lean keep. -/

namespace Sys2Proof.Machine

set_option Elab.async false
set_option linter.unusedTactic false

theorem kept_execGateCmdClear {a s : State} (h : Kept a s) (x0 : Requester) (x1 : Fin 7) :
    KeptStep a (execGateCmdClear x0 x1 s) := by
  unfold execGateCmdClear
  exact (KeptStep.next (kept_command h _ _ _ _ (fun _ h100 => (kept_clearGate h100 _))))

theorem kept_followCommand {a s : State} (h : Kept a s) (x1 : ℕ) :
    Kept a (State.followCommand s x1) := by
  unfold State.followCommand
  exact (Kept.ite (kept_startGate h _) (kept_commandOff h _))

theorem kept_execGateOnWrite {a s : State} (h : Kept a s) (x0 : Requester) (x1 : Fin 7) (x2 : Bool) :
    KeptStep a (execGateOnWrite x0 x1 x2 s) := by
  unfold execGateOnWrite
  exact (KeptStep.ite (KeptStep.next (kept_command h _ _ _ _ (fun _ h100 => (kept_sticky h100 _ _)))) (KeptStep.next (kept_command h _ _ _ _ (fun _ h101 => (kept_followCommand h101 _)))))

theorem kept_gateTrip {a s : State} (h : Kept a s) (x1 : ℕ) (x2 : ℕ) (x3 : ℕ) :
    Kept a (State.gateTrip s x1 x2 x3) := by
  unfold State.gateTrip
  exact (Kept.ite (kept_endAttach (kept_sat (kept_tripGate h _ _ _) _ _) _) (kept_tripGate h _ _ _))

theorem kept_execPreShortCheck {a s : State} (h : Kept a s) (x0 : Fin 7) (x1 : ℕ) (x2 : ℕ) :
    KeptStep a (execPreShortCheck x0 x1 x2 s) := by
  unfold execPreShortCheck
  exact (KeptStep.next (kept_ifAon h _ (fun _ h100 => (Kept.ite (kept_gateTrip (kept_measureVout h100 _ _) _ _ _) (kept_measureVout h100 _ _)))))

theorem kept_execUvRideEnd {a s : State} (h : Kept a s) (x0 : GateMs) :
    KeptStep a (execUvRideEnd x0 s) := by
  unfold execUvRideEnd
  exact (KeptStep.next (kept_ifAon h _ (fun _ h100 => (Kept.ite (kept_windowOpen' h100 _ _) h100))))

theorem kept_gateOff {a s : State} (h : Kept a s) (x1 : ℕ) :
    Kept a (State.gateOff s x1) := by
  unfold State.gateOff
  exact (Kept.ite (kept_sticky (kept_set h _ _) _ _) (Kept.ite (kept_errorRecovery (Kept.ite (kept_setGs (kept_set (kept_commandOff h _) _ _) _ _) (kept_set (kept_commandOff h _) _ _)) _) (Kept.ite (kept_setGs (kept_set (kept_commandOff h _) _ _) _ _) (kept_set (kept_commandOff h _) _ _))))

theorem kept_execPreTimeout {a s : State} (h : Kept a s) (x0 : Fin 7) (x1 : ℕ) (x2 : ℕ) :
    KeptStep a (execPreTimeout x0 x1 x2 s) := by
  unfold execPreTimeout
  exact (KeptStep.next (kept_ifAon h _ (fun _ h100 => (Kept.ite (kept_measureVout h100 _ _) (Kept.ite (kept_setGs (kept_measureVout h100 _ _) _ _) (kept_gateTrip (kept_measureVout h100 _ _) _ _ _))))))

theorem kept_execRetryWaitEnd {a s : State} (h : Kept a s) (x0 : Fin 7) :
    KeptStep a (execRetryWaitEnd x0 s) := by
  unfold execRetryWaitEnd
  exact (KeptStep.next (kept_ifAon h _ (fun _ h100 => (Kept.ite (kept_leaveWait h100 _) h100))))

theorem kept_execPgoodFall {a s : State} (h : Kept a s) (x0 : Fin 7) (x1 : ℕ) (x2 : ℕ) (x3 : ℕ) :
    KeptStep a (execPgoodFall x0 x1 x2 x3 s) := by
  unfold execPgoodFall
  exact (KeptStep.next (kept_ifAon h _ (fun _ h100 => (Kept.ite (kept_set (kept_measureVout h100 _ _) _ _) (Kept.ite (kept_gateTrip (kept_set (kept_measureVout h100 _ _) _ _) _ _ _) (kept_setPgood (kept_set (kept_measureVout h100 _ _) _ _) _ _))))))

theorem kept_execInsertDone {a s : State} (h : Kept a s) (x0 : GateMs) :
    KeptStep a (execInsertDone x0 s) := by
  unfold execInsertDone
  exact (KeptStep.next (kept_ifAon h _ (fun _ h100 => (Kept.ite (kept_insertDone h100 _) h100))))

theorem kept_execDischargeDone {a s : State} (h : Kept a s) (x0 : Fin 7) (x1 : ℕ) :
    KeptStep a (execDischargeDone x0 x1 s) := by
  unfold execDischargeDone
  exact (KeptStep.next (kept_ifAon h _ (fun _ h100 => (kept_measureVout h100 _ _))))

theorem kept_execGateRemoval {a s : State} (h : Kept a s) (x0 : GateMs) :
    KeptStep a (execGateRemoval x0 s) := by
  unfold execGateRemoval
  exact (KeptStep.next (kept_ifAon h _ (fun _ h100 => (Kept.ite (kept_removal h100 _) h100))))

theorem kept_discharge {a s : State} (h : Kept a s) (x1 : ℕ) :
    Kept a (State.discharge s x1) := by
  unfold State.discharge
  exact (Kept.ite (kept_set h _ _) h)

theorem kept_execRampTimeout {a s : State} (h : Kept a s) (x0 : GateMs) (x1 : ℕ) :
    KeptStep a (execRampTimeout x0 x1 s) := by
  unfold execRampTimeout
  exact (KeptStep.next (kept_ifAon h _ (fun _ h100 => (Kept.ite (kept_gateTrip h100 _ _ _) h100))))

theorem kept_execFastTrip {a s : State} (h : Kept a s) (x0 : GateShunt) (x1 : ℕ) :
    KeptStep a (execFastTrip x0 x1 s) := by
  unfold execFastTrip
  exact (KeptStep.next (kept_ifAon h _ (fun _ h100 => (Kept.ite (kept_gateTrip h100 _ _ _) h100))))

theorem kept_execFrsTimeout {a s : State} (h : Kept a s) (x0 : Fin 7) :
    KeptStep a (execFrsTimeout x0 s) := by
  unfold execFrsTimeout
  exact (KeptStep.next (kept_ifAon h _ (fun _ h100 => (Kept.ite (Kept.ite (kept_gateEvent (kept_openGate h100 _ _ _) _ _) (kept_frsFailed (kept_gateEvent (kept_openGate h100 _ _ _) _ _) _)) h100))))

theorem kept_execPrechargeDone {a s : State} (h : Kept a s) (x0 : Fin 7) (x1 : ℕ) :
    KeptStep a (execPrechargeDone x0 x1 s) := by
  unfold execPrechargeDone
  exact (KeptStep.next (kept_ifAon h _ (fun _ h100 => (Kept.ite (kept_setGs (kept_measureVout h100 _ _) _ _) (kept_measureVout h100 _ _)))))

theorem kept_execGateDischarge {a s : State} (h : Kept a s) (x0 : Requester) (x1 : Fin 7) :
    KeptStep a (execGateDischarge x0 x1 s) := by
  unfold execGateDischarge
  exact (KeptStep.next (kept_command h _ _ _ _ (fun _ h100 => (kept_discharge h100 _))))

theorem kept_execI2tUpdate {a s : State} (h : Kept a s) (x0 : Fin 7) (x1 : ℕ) (x2 : ℕ) :
    KeptStep a (execI2tUpdate x0 x1 x2 s) := by
  unfold execI2tUpdate
  exact (KeptStep.next (kept_ifAon h _ (fun _ h100 => (Kept.ite h100 (Kept.ite (kept_gateTrip (kept_i2t h100 _ _) _ _ _) (kept_i2t h100 _ _))))))

theorem kept_execInputWindow {a s : State} (h : Kept a s) (x0 : Fin 7) (x1 : ℕ) :
    KeptStep a (execInputWindow x0 x1 s) := by
  unfold execInputWindow
  exact (KeptStep.next (kept_ifAon h _ (fun _ h100 => (Kept.ite (kept_setGs (Kept.ite (kept_signalFrs (kept_measureVin h100 _ _)) (kept_measureVin h100 _ _)) _ _) (kept_watchWindows (Kept.ite (kept_signalFrs (kept_measureVin h100 _ _)) (kept_measureVin h100 _ _)) _)))))

theorem kept_execRampDone {a s : State} (h : Kept a s) (x0 : Fin 7) (x1 : ℕ) (x2 : ℕ) :
    KeptStep a (execRampDone x0 x1 x2 s) := by
  unfold execRampDone
  exact (KeptStep.next (kept_ifAon h _ (fun _ h100 => (kept_rampDone h100 _ _ _))))

theorem kept_execPgoodHeld {a s : State} (h : Kept a s) (x0 : Fin 7) :
    KeptStep a (execPgoodHeld x0 s) := by
  unfold execPgoodHeld
  exact (KeptStep.next (kept_ifAon h _ (fun _ h100 => (Kept.ite (kept_clearCount h100 _) h100))))

end Sys2Proof.Machine
end

