-- ==== Sys2Proof/Laws/KeptUsb.lean ====
section
/-! SUPPORT. What the operations of Machine/Usb.lean keep. -/

namespace Sys2Proof.Machine

set_option Elab.async false
set_option linter.unusedTactic false

theorem kept_pipeGo {a s : State} (h : Kept a s) (x1 : ℕ) (x2 : Bool) :
    Kept a (State.pipeGo s x1 x2) := by
  unfold State.pipeGo
  exact (Kept.ite h (Kept.ite (kept_sets h _) (kept_usbOut (kept_mapUsb (kept_sets h _) _) _)))

theorem kept_execPipeGo {a s : State} (h : Kept a s) (x0 : Requester) (x1 : Fin 16) (x2 : Bool) :
    KeptStep a (execPipeGo x0 x1 x2 s) := by
  unfold execPipeGo
  exact (KeptStep.next (kept_command h _ _ _ _ (fun _ h100 => (kept_pipeGo h100 _ _))))

theorem kept_flushUsb {a s : State} (h : Kept a s) :
    Kept a (State.flushUsb s) := by
  unfold State.flushUsb
  exact (Kept.ite h (kept_each h _ _ (fun _ _ h100 => (Kept.ite (kept_sourceFrame (kept_mapUsb h100 _) _ _ _ _ _) h100))))

theorem kept_sendRecord {a s : State} (h : Kept a s) (x1 : ℕ) (x2 : List Byte) :
    Kept a (State.sendRecord s x1 x2) := by
  unfold State.sendRecord
  exact (kept_flushUsb (kept_mapUsb h _))

theorem kept_nearEvent {a s : State} (h : Kept a s) (x1 : ℕ) (x2 : ℕ) :
    Kept a (State.nearEvent s x1 x2) := by
  unfold State.nearEvent
  exact (kept_sendRecord h _ _)

theorem kept_portChange {a s : State} (h : Kept a s) (x1 : ℕ) (x2 : ℕ) :
    Kept a (State.portChange s x1 x2) := by
  unfold State.portChange
  exact (kept_irq (kept_mapUsb h _) _ _)

theorem kept_resetHubPort {a s : State} (h : Kept a s) (x1 : ℕ) :
    Kept a (State.resetHubPort s x1) := by
  unfold State.resetHubPort
  exact (Kept.ite (kept_deviceReset (kept_sat h _ _)) (Kept.ite h (Kept.ite (kept_nearEvent (kept_sets (kept_mapNear h _ _) _) _ _) (kept_portChange (kept_usbOut (kept_sets h _) _) _ _))))

theorem kept_usbSlip {a s : State} (h : Kept a s) :
    Kept a (State.usbSlip s) := by
  unfold State.usbSlip
  exact (Kept.ite (kept_irq (kept_sat h _ _) _ _) (Kept.upd (kept_irq (kept_sat h _ _) _ _)))

theorem kept_farGen {a s : State} (h : Kept a s) (x1 : ℕ) (x2 : ℕ → Bool) :
    Kept a (State.farGen s x1 x2) := by
  unfold State.farGen
  exact (kept_mapFar h _ _)

theorem kept_execTransactionRx {a s : State} (h : Kept a s) (x0 : Fin 6) (x1 : BitVec 16) (x2 : UsbEndpoint) (x3 : Fin 4) (x4 : Fin 3) (x5 : Bool) (x6 : List Byte) (x7 : List (Fin 16)) (x8 : Fin 4) (x9 : Bool) (x10 : List Byte) :
    KeptStep a (execTransactionRx x0 x1 x2 x3 x4 x5 x6 x7 x8 x9 x10 s) := by
  unfold execTransactionRx
  exact (KeptStep.next (kept_ifAon h _ (fun _ h100 => (by split; exact h100; exact (Kept.ite h100 (Kept.ite (kept_mapFar h100 _ _) (kept_sendRecord (Kept.ite (kept_farGen (kept_usbOut h100 _) _ _) (kept_usbOut h100 _)) _ _)))))))

theorem kept_farEvent {a s : State} (h : Kept a s) (x1 : ℕ) (x2 : ℕ) :
    Kept a (State.farEvent s x1 x2) := by
  unfold State.farEvent
  exact (by split; exact (kept_sendRecord h _ _); exact h)

theorem kept_execRemoteResetDone {a s : State} (h : Kept a s) (x0 : Fin 6) :
    KeptStep a (execRemoteResetDone x0 s) := by
  unfold execRemoteResetDone
  exact (KeptStep.next (kept_ifAon h _ (fun _ h100 => (Kept.ite (kept_farEvent (kept_mapFar h100 _ _) _ _) h100))))

theorem kept_resetPipes {a s : State} (h : Kept a s) (x1 : ℕ) (x2 : List Byte) (x3 : List (Fin 32)) :
    Kept a (State.resetPipes s x1 x2 x3) := by
  unfold State.resetPipes
  exact (kept_each h _ _ (fun _ _ h100 => (kept_set h100 _ _)))

theorem kept_usbPut {a s : State} (h : Kept a s) (o : Nat) (bs : List Byte) :
    Kept a (s.mapUsb fun u => { u with mem := memPut u.mem o bs }) :=
  kept_mapUsb h _ fun k => Memory.wf_memPut bs o k

theorem kept_execPipeDone {a s : State} (h : Kept a s) (p : Fin 16) (result : Fin 4) (bytes : Nat) (data : List Byte)
    (eps : List (Fin 32)) : KeptStep a (execPipeDone p result bytes data eps s) := by
  unfold execPipeDone
  refine KeptStep.next (kept_ifAon h _ fun s h => Kept.ite h (kept_irq (kept_mapUsb ?_ _) _ _))
  exact Kept.ite (kept_resetPipes (kept_sets (Kept.ite (kept_usbPut h _ _) h) _) _ _ _)
    (kept_sets (Kept.ite (kept_usbPut h _ _) h) _)

theorem kept_portConnect {a s : State} (h : Kept a s) (x1 : ℕ) (x2 : ℕ) :
    Kept a (State.portConnect s x1 x2) := by
  unfold State.portConnect
  exact (Kept.ite h (Kept.ite h (kept_portChange (kept_sets h _) _ _)))

theorem kept_suspendHubPort {a s : State} (h : Kept a s) (x1 : ℕ) (x2 : Bool) :
    Kept a (State.suspendHubPort s x1 x2) := by
  unfold State.suspendHubPort
  exact (Kept.ite (kept_set h _ _) (Kept.ite h (Kept.ite (Kept.ite (kept_nearEvent (kept_set h _ _) _ _) (kept_usbOut (kept_set h _ _) _)) (kept_portChange (Kept.ite (kept_nearEvent (kept_set h _ _) _ _) (kept_usbOut (kept_set h _ _) _)) _ _))))

theorem kept_execHubClassRequest {a s : State} (h : Kept a s) (x0 : Fin 8) (x1 : Bool) (x2 : ℕ) :
    KeptStep a (execHubClassRequest x0 x1 x2 s) := by
  unfold execHubClassRequest
  exact (KeptStep.next (kept_ifAon h _ (fun _ h100 => (Kept.ite h100 (Kept.ite (Kept.ite (kept_mapUsb h100 _) h100) (by split; exact (Kept.ite h100 (Kept.ite (kept_portConnect (kept_mapUsb h100 _) _ _) (Kept.ite (kept_gateOnFor (kept_mapUsb h100 _) _ _) (kept_mapUsb h100 _)))); exact (Kept.ite h100 (kept_portUnpower h100 _)); exact (kept_resetHubPort h100 _); exact (kept_suspendHubPort h100 _ _); exact (Kept.ite h100 (kept_set h100 _ _)); exact (Kept.ite (kept_mapUsb h100 _) h100); exact h100))))))

theorem kept_devRequest {a s : State} (h : Kept a s) (x1 : List Byte) :
    Kept a (State.devRequest s x1) := by
  unfold State.devRequest
  exact (Kept.ite (kept_set h _ _) (Kept.ite (Kept.ite (kept_usbOut h _) (kept_mapUsb (kept_sets h _) _)) (Kept.ite (Kept.ite (kept_mapUsb (kept_set h _ _) _) (Kept.ite (kept_mapUsb (kept_set h _ _) _) (Kept.ite (kept_mapUsb h _) (Kept.ite h (kept_usbOut h _))))) (Kept.ite (by (try dsimp -iota only); split; exact (kept_mapUsb h _); exact h) (Kept.ite (kept_set h _ _) h)))))

theorem kept_flipToggle {a s : State} (h : Kept a s) (x1 : ℕ) (x2 : ℕ) :
    Kept a (State.flipToggle s x1 x2) := by
  unfold State.flipToggle
  exact (Kept.ite h (kept_mapUsb h _))

theorem kept_showMbx {a s : State} (h : Kept a s) :
    Kept a (State.showMbx s) := by
  unfold State.showMbx
  exact (kept_sets h _)

theorem kept_execMbxRx {a s : State} (h : Kept a s) (x0 : List Byte) :
    KeptStep a (execMbxRx x0 s) := by
  unfold execMbxRx
  exact (KeptStep.next (kept_ifAon h _ (fun _ h100 => (Kept.ite h100 (kept_irq (kept_flipToggle (kept_showMbx (kept_mapUsb h100 _)) _ _) _ _)))))

theorem kept_nearGone {a s : State} (h : Kept a s) (x1 : ℕ) :
    Kept a (State.nearGone s x1) := by
  unfold State.nearGone
  exact (kept_portConnect (kept_mapNear h _ _) _ _)

theorem kept_sendTransaction {a s : State} (h : Kept a s) (x1 : ℕ) (x2 : ℕ) (x3 : ℕ) (x4 : ℕ) (x5 : ℕ) (x6 : Bool) (x7 : Bool) (x8 : List Byte) :
    Kept a (State.sendTransaction s x1 x2 x3 x4 x5 x6 x7 x8) := by
  unfold State.sendTransaction
  exact (kept_sendRecord (kept_mapNear h _ _) _ _)

theorem kept_pipeAbort {a s : State} (h : Kept a s) (x1 : ℕ) :
    Kept a (State.pipeAbort s x1) := by
  unfold State.pipeAbort
  exact (Kept.ite (kept_mapUsb h _) h)

theorem kept_execPrefetchPoll {a s : State} (h : Kept a s) (x0 : Fin 6) (x1 : Fin 16) (x2 : Bool) (x3 : List Byte) :
    KeptStep a (execPrefetchPoll x0 x1 x2 x3 s) := by
  unfold execPrefetchPoll
  exact (KeptStep.next (kept_ifAon h _ (fun _ h100 => (by (try dsimp -iota only); split; exact h100; exact (Kept.ite h100 (kept_sendRecord (kept_mapFar h100 _ _) _ _))))))

theorem kept_wakeUp {a s : State} (h : Kept a s) :
    Kept a (State.wakeUp s) := by
  unfold State.wakeUp
  exact (Kept.ite (kept_usbOut h _) h)

theorem kept_execMbxTxDone {a s : State} (h : Kept a s) :
    KeptStep a (execMbxTxDone s) := by
  unfold execMbxTxDone
  exact (KeptStep.next (kept_ifAon h _ (fun _ h100 => (by split; exact h100; exact (Kept.ite h100 (kept_irq (kept_flipToggle (kept_flipToggle (kept_sets (kept_mapUsb h100 _) _) _ _) _ _) _ _))))))

theorem kept_usbStop {a s : State} (h : Kept a s) :
    Kept a (State.usbStop s) := by
  unfold State.usbStop
  exact (kept_usbReview (kept_set h _ _))

theorem kept_execHostRun {a s : State} (h : Kept a s) (x0 : Requester) (x1 : Word) :
    KeptStep a (execHostRun x0 x1 s) := by
  unfold execHostRun
  exact (KeptStep.next (kept_command h _ _ _ _ (fun _ h100 => (Kept.ite (kept_sets h100 _) (kept_usbReview (kept_set h100 _ _))))))

theorem kept_execDevSetup {a s : State} (h : Kept a s) (x0 : List Byte) (x1 : Bool) :
    KeptStep a (execDevSetup x0 x1 s) := by
  unfold execDevSetup
  exact (KeptStep.next (kept_ifAon h _ (fun _ h100 => (Kept.ite h100 (Kept.ite (Kept.ite (kept_usbOut (kept_mapUsb (Kept.ite (kept_sat h100 _ _) h100) _) _) (kept_mapUsb (Kept.ite (kept_sat h100 _ _) h100) _)) (by split; exact h100; exact (kept_devRequest (kept_mapUsb h100 _) _)))))))

theorem kept_execResultRx {a s : State} (h : Kept a s) (x0 : Fin 6) (x1 : BitVec 16) (x2 : Fin 16) (x3 : Fin 4) (x4 : Bool) (x5 : Bool) (x6 : Byte) (x7 : List Byte) :
    KeptStep a (execResultRx x0 x1 x2 x3 x4 x5 x6 x7 s) := by
  unfold execResultRx
  exact (KeptStep.next (kept_ifAon h _ (fun _ h100 => (Kept.ite h100 (Kept.ite (Kept.ite (kept_sat h100 _ _) (kept_mapNear h100 _ _)) (Kept.ite (kept_mapNear h100 _ _) (Kept.ite (kept_mapNear h100 _ _) (kept_sat h100 _ _))))))))

theorem kept_usbSof {a s : State} (h : Kept a s) :
    Kept a (State.usbSof s) := by
  unfold State.usbSof
  exact (Kept.ite (kept_usbOut (kept_sets h _) _) h)

theorem kept_showFill {a s : State} (h : Kept a s) :
    Kept a (State.showFill s) := by
  unfold State.showFill
  exact (kept_sets h _)

theorem kept_usbAudio {a s : State} (h : Kept a s) :
    Kept a (State.usbAudio s) := by
  unfold State.usbAudio
  exact (Kept.ite h (Kept.ite (kept_showFill (Kept.ite (kept_usbSlip (Kept.ite (kept_mapUsb (kept_each h _ _ (fun _ _ h100 => (kept_each h100 _ _ (fun _ _ h101 => (kept_putInput h101 _ _ _))))) _) (kept_each h _ _ (fun _ _ h102 => (kept_each h102 _ _ (fun _ _ h103 => (kept_putInput h103 _ _ _))))))) (Kept.ite (kept_mapUsb (kept_each h _ _ (fun _ _ h104 => (kept_each h104 _ _ (fun _ _ h105 => (kept_putInput h105 _ _ _))))) _) (kept_each h _ _ (fun _ _ h106 => (kept_each h106 _ _ (fun _ _ h107 => (kept_putInput h107 _ _ _)))))))) (kept_showFill (kept_each (Kept.ite (kept_usbSlip (Kept.ite (kept_mapUsb (kept_each h _ _ (fun _ _ h108 => (kept_each h108 _ _ (fun _ _ h109 => (kept_putInput h109 _ _ _))))) _) (kept_each h _ _ (fun _ _ h110 => (kept_each h110 _ _ (fun _ _ h111 => (kept_putInput h111 _ _ _))))))) (Kept.ite (kept_mapUsb (kept_each h _ _ (fun _ _ h112 => (kept_each h112 _ _ (fun _ _ h113 => (kept_putInput h113 _ _ _))))) _) (kept_each h _ _ (fun _ _ h114 => (kept_each h114 _ _ (fun _ _ h115 => (kept_putInput h115 _ _ _))))))) _ _ (fun _ _ h116 => (kept_mapUsb (kept_foldl1 (Kept.pair h116) _ _ (fun _ _ h117 => (Kept.pair (kept_slotValue h117 _ _ _)))) _))))))

theorem kept_nearGen {a s : State} (h : Kept a s) (x1 : ℕ) (x2 : List Byte) (x3 : List (Fin 16)) :
    Kept a (State.nearGen s x1 x2 x3) := by
  unfold State.nearGen
  exact (kept_mapNear h _ _)

theorem kept_execStartSplit {a s : State} (h : Kept a s) (x0 : Fin 6) (x1 : Fin 128) (x2 : Fin 16) (x3 : Fin 4) (x4 : Fin 3) (x5 : Bool) (x6 : Bool) (x7 : List Byte) (x8 : List (Fin 16)) :
    KeptStep a (execStartSplit x0 x1 x2 x3 x4 x5 x6 x7 x8 s) := by
  unfold execStartSplit
  exact (KeptStep.next (kept_ifAon h _ (fun _ h100 => (Kept.ite h100 (Kept.ite (kept_sat h100 _ _) (Kept.ite (Kept.ite (kept_usbOut h100 _) (kept_usbOut (kept_sendTransaction (kept_mapNear h100 _ _) _ _ _ _ _ _ _ _) _)) (Kept.ite (kept_usbOut h100 _) (kept_usbOut (kept_sendTransaction (kept_mapNear (Kept.ite (kept_nearGen h100 _ _ _) h100) _ _) _ _ _ _ _ _ _ _) _))))))))

theorem kept_execPipeAbort {a s : State} (h : Kept a s) (x0 : Requester) (x1 : Fin 16) :
    KeptStep a (execPipeAbort x0 x1 s) := by
  unfold execPipeAbort
  exact (KeptStep.next (kept_command h _ _ _ _ (fun _ h100 => (kept_pipeAbort h100 _))))

theorem kept_execRemoteDisconnectTimer {a s : State} (h : Kept a s) :
    KeptStep a (execRemoteDisconnectTimer s) := by
  unfold execRemoteDisconnectTimer
  exact (KeptStep.next (kept_ifAon h _ (fun _ h100 => (Kept.ite h100 (kept_each h100 _ _ (fun _ _ h101 => (kept_nearGone h101 _)))))))

theorem kept_execUsbSuspendResume {a s : State} (h : Kept a s) (x0 : Bool) :
    KeptStep a (execUsbSuspendResume x0 s) := by
  unfold execUsbSuspendResume
  exact (KeptStep.next (kept_ifAon h _ (fun _ h100 => (Kept.ite h100 (kept_each (kept_sets h100 _) _ _ (fun _ _ h101 => (kept_nearEvent h101 _ _)))))))

theorem kept_execEventRx {a s : State} (h : Kept a s) (x0 : Bool) (x1 : Fin 6) (x2 : Fin 9) :
    KeptStep a (execEventRx x0 x1 x2 s) := by
  unfold execEventRx
  exact (KeptStep.next (kept_ifAon h _ (fun _ h100 => (Kept.ite h100 (Kept.ite (by split; exact (kept_usbOut (kept_mapFar (kept_farGen h100 _ _) _ _) _); exact (kept_usbOut h100 _); exact (kept_usbOut h100 _); exact h100) (Kept.ite h100 (by split; exact (kept_portConnect (kept_mapNear h100 _ _) _ _); exact (kept_portConnect (kept_mapNear h100 _ _) _ _); exact (kept_nearGone h100 _); exact (Kept.ite (kept_wakeUp (kept_portChange (kept_set h100 _ _) _ _)) (Kept.ite (kept_wakeUp h100) (kept_sat h100 _ _))); exact (Kept.ite (kept_portChange (kept_sets h100 _) _ _) h100); exact h100)))))))

theorem kept_usbStart {a s : State} (h : Kept a s) :
    Kept a (State.usbStart s) := by
  unfold State.usbStart
  exact (kept_usbReview (kept_each h _ _ (fun _ _ h100 => (kept_set h100 _ _))))

theorem kept_execCompleteSplit {a s : State} (h : Kept a s) (x0 : Fin 6) (x1 : Fin 128) (x2 : Fin 16) (x3 : Fin 4) (x4 : Fin 3) :
    KeptStep a (execCompleteSplit x0 x1 x2 x3 x4 s) := by
  unfold execCompleteSplit
  exact (KeptStep.next (kept_ifAon h _ (fun _ h100 => (Kept.ite h100 (Kept.ite (Kept.ite (by split; exact (kept_usbOut (kept_sendTransaction (kept_mapNear h100 _ _) _ _ _ _ _ _ _ _) _); exact (kept_usbOut h100 _)) (by split; exact (kept_usbOut (kept_sat (kept_mapNear h100 _ _) _ _) _); exact (kept_usbOut h100 _))) (by split; exact h100; exact (by split; exact (kept_usbOut h100 _); exact (kept_usbOut (kept_mapNear h100 _ _) _))))))))

theorem kept_execIsoOutPacket {a s : State} (h : Kept a s) (x0 : List (List ℕ)) :
    KeptStep a (execIsoOutPacket x0 s) := by
  unfold execIsoOutPacket
  exact (KeptStep.next (kept_ifAon h _ (fun _ h100 => (Kept.ite h100 (Kept.ite (kept_usbSlip (kept_showFill (kept_mapUsb h100 _))) (kept_showFill (kept_mapUsb h100 _)))))))

theorem kept_usbCycle {a s : State} (h : Kept a s) :
    Kept a (State.usbCycle s) := by
  unfold State.usbCycle
  exact (kept_flushUsb (kept_usbAudio (kept_usbSof h)))

theorem kept_execMbxPop {a s : State} (h : Kept a s) (x0 : Requester) (x1 : Word) :
    KeptStep a (execMbxPop x0 x1 s) := by
  unfold execMbxPop
  exact (KeptStep.next (kept_command h _ _ _ _ (fun _ h100 => (Kept.ite (kept_showMbx (kept_mapUsb h100 _)) h100))))

theorem kept_execDownstreamPortChange {a s : State} (h : Kept a s) (x0 : Bool) (x1 : Fin 6) (x2 : Fin 5) :
    KeptStep a (execDownstreamPortChange x0 x1 x2 s) := by
  unfold execDownstreamPortChange
  exact (KeptStep.next (kept_ifAon h _ (fun _ h100 => (Kept.ite h100 (Kept.ite (Kept.ite h100 (by split; exact (kept_farEvent (kept_mapFar h100 _ _) _ _); exact (kept_farEvent h100 _ _); exact (kept_farEvent h100 _ _); exact (kept_farEvent h100 _ _))) (Kept.ite h100 (by split; exact (Kept.ite (kept_wakeUp (kept_portChange (kept_set h100 _ _) _ _)) (kept_wakeUp h100)); exact (kept_portConnect h100 _ _))))))))

theorem kept_execRemoteResultTimeout {a s : State} (h : Kept a s) (x0 : Fin 6) (x1 : BitVec 16) (x2 : ℕ) :
    KeptStep a (execRemoteResultTimeout x0 x1 x2 s) := by
  unfold execRemoteResultTimeout
  exact (KeptStep.next (kept_ifAon h _ (fun _ h100 => (Kept.ite (kept_irq (kept_sat (kept_mapNear h100 _ _) _ _) _ _) h100))))

theorem kept_execAudFeedback {a s : State} (h : Kept a s) (x0 : Fin 2048) :
    KeptStep a (execAudFeedback x0 s) := by
  unfold execAudFeedback
  exact (KeptStep.next (kept_ifAon h _ (fun _ h100 => (Kept.ite h100 (Kept.ite (Kept.ite (kept_mapUsb h100 _) (kept_sets (kept_mapUsb h100 _) _)) (kept_usbOut (kept_set (Kept.ite (kept_mapUsb h100 _) (kept_sets (kept_mapUsb h100 _) _)) _ _) _))))))

theorem kept_execIsoInPacket {a s : State} (h : Kept a s) :
    KeptStep a (execIsoInPacket s) := by
  unfold execIsoInPacket
  exact (KeptStep.next (kept_ifAon h _ (fun _ h100 => (Kept.ite h100 (Kept.ite (kept_usbOut h100 _) (kept_usbOut (kept_showFill (kept_mapUsb h100 _)) _))))))

theorem kept_execUsbUpstreamConnect {a s : State} (h : Kept a s) :
    KeptStep a (execUsbUpstreamConnect s) := by
  unfold execUsbUpstreamConnect
  exact (KeptStep.next (kept_ifAon h _ (fun _ h100 => (kept_usbReview h100))))

theorem kept_usbDead {a s : State} (h : Kept a s) (x1 : ℕ) :
    Kept a (State.usbDead s x1) := by
  unfold State.usbDead
  exact (kept_each h _ _ (fun _ _ h100 => (kept_nearGone h100 _)))

theorem kept_execTxGo {a s : State} (h : Kept a s) (x0 : Requester) (x1 : Word) :
    KeptStep a (execTxGo x0 x1 s) := by
  unfold execTxGo
  exact (KeptStep.next (kept_command h _ _ _ _ (fun _ h100 => (Kept.ite h100 (kept_usbOut (kept_set (kept_mapUsb h100 _) _ _) _)))))

theorem kept_execUsbBusReset {a s : State} (h : Kept a s) :
    KeptStep a (execUsbBusReset s) := by
  unfold execUsbBusReset
  exact (KeptStep.next (kept_ifAon h _ (fun _ h100 => (Kept.ite (kept_hubReset (kept_sat h100 _ _)) h100))))

end Sys2Proof.Machine
end

