-- ==== Sys2Proof/Laws/KeptNightRows.lean ====
section
/-! SUPPORT. What the operations of Machine/NightRows.lean keep. -/

namespace Sys2Proof.Machine

set_option Elab.async false
set_option linter.unusedTactic false

theorem kept_ntAnswer {a s : State} (h : Kept a s) (x1 : ℕ) (x2 : ℕ) :
    Kept a (State.ntAnswer s x1 x2) := by
  unfold State.ntAnswer
  exact (kept_sets h _)

theorem kept_ntGo {a s : State} (h : Kept a s) :
    Kept a (State.ntGo s) := by
  unfold State.ntGo
  exact (Kept.ite (kept_ntAnswer h _ _) (Kept.ite (kept_ntAnswer h _ _) (Kept.ite (kept_ntAnswer h _ _) (Kept.upd (kept_sets (kept_each (kept_ntAnswer h _ _) _ _ (fun _ _ h100 => (kept_ntResult h100 _ _ _ _ _))) _)))))

theorem kept_ntAbort {a s : State} (h : Kept a s) :
    Kept a (State.ntAbort s) := by
  unfold State.ntAbort
  exact (kept_ntAbandon (kept_ntAnswer h _ _) _)

theorem kept_sendTest {a s : State} (h : Kept a s) (x1 : ℕ) (x2 : ℕ) (x3 : ℕ) :
    Kept a (State.sendTest s x1 x2 x3) := by
  unfold State.sendTest
  exact (Kept.ite h (Kept.ite (kept_sat (kept_mapNight (kept_mapEntry h _ _) _) _ _) (kept_policeSource (kept_mapNight (kept_mapEntry h _ _) _) _ _)))

theorem kept_ntAttest {a s : State} (h : Kept a s) (x1 : ℕ) :
    Kept a (State.ntAttest s x1) := by
  unfold State.ntAttest
  exact (Kept.ite h (Kept.ite (kept_keyGoAs (kept_mapNight h _) _ _) (kept_ntKeyDone (kept_keyGoAs (kept_mapNight h _) _ _) _ _)))

theorem kept_ntWatch {a s : State} (h : Kept a s) (x1 : ℕ) (x2 : ℕ) (x3 : NightRun) :
    Kept a (State.ntWatch s x1 x2 x3) := by
  unfold State.ntWatch
  exact (Kept.ite h (Kept.ite (Kept.ite h (kept_mapNight h _)) (Kept.ite (Kept.ite (Kept.ite h (kept_mapNight h _)) h) (Kept.ite (Kept.ite (kept_each h _ _ (fun _ _ h100 => (kept_sendTest h100 _ _ _))) h) (Kept.ite (Kept.ite h (kept_mapNight h _)) (Kept.ite (Kept.ite h (kept_mapNight h _)) (Kept.ite (kept_mapNight (Kept.ite (kept_ntBreakEnd h) h) _) (Kept.ite (kept_ntAttest h _) h))))))))

theorem kept_ntJudge {a s : State} (h : Kept a s) (x1 : ℕ) (x2 : NightRun) :
    Kept a (State.ntJudge s x1 x2) := by
  unfold State.ntJudge
  exact (Kept.ite (kept_ntResult h _ _ _ _ _) (Kept.ite (Kept.ite (kept_ntResult h _ _ _ _ _) (kept_irq (kept_ntResult h _ _ _ _ _) _ _)) (Kept.ite (Kept.ite (kept_ntResult h _ _ _ _ _) (kept_irq (kept_ntResult h _ _ _ _ _) _ _)) (Kept.ite (Kept.ite (Kept.ite (kept_ntResult h _ _ _ _ _) (kept_irq (kept_ntResult h _ _ _ _ _) _ _)) (Kept.ite (kept_ntResult h _ _ _ _ _) (kept_irq (kept_ntResult h _ _ _ _ _) _ _))) (Kept.ite (Kept.ite (kept_ntResult h _ _ _ _ _) (kept_irq (kept_ntResult h _ _ _ _ _) _ _)) (Kept.ite (Kept.ite (kept_ntResult h _ _ _ _ _) (kept_irq (kept_ntResult h _ _ _ _ _) _ _)) (Kept.ite (Kept.ite h (Kept.ite (kept_ntResult h _ _ _ _ _) (kept_irq (kept_ntResult h _ _ _ _ _) _ _))) (Kept.ite (Kept.ite (kept_ntResult h _ _ _ _ _) (kept_irq (kept_ntResult h _ _ _ _ _) _ _)) (Kept.ite (kept_ntResult h _ _ _ _ _) (Kept.ite (kept_ntResult h _ _ _ _ _) (kept_irq (kept_ntResult h _ _ _ _ _) _ _)))))))))))

theorem kept_ntStepEnd {a s : State} (h : Kept a s) (x1 : NightRun) :
    Kept a (State.ntStepEnd s x1) := by
  unfold State.ntStepEnd
  exact (Kept.ite (kept_ntEnd (kept_mapNight (kept_ntBreakEnd (kept_ntRestore (kept_ntJudge h _ _))) _) _ _) (kept_mapNight (kept_ntBreakEnd (kept_ntRestore (kept_ntJudge h _ _))) _))

theorem kept_ntFinish {a s : State} (h : Kept a s) (x1 : NightRun) (x2 : ℕ) :
    Kept a (State.ntFinish s x1 x2) := by
  unfold State.ntFinish
  exact (by (try dsimp -iota only); split; exact (kept_ntStepEnd (Kept.ite h (kept_ntWatch h _ _ _)) _); exact (Kept.ite h (kept_ntWatch h _ _ _)))

theorem kept_ntDue {a s : State} (h : Kept a s) (x1 : NightRun) :
    Kept a (State.ntDue s x1) := by
  unfold State.ntDue
  exact (Kept.ite (kept_ntFinish h _ _) h)

theorem kept_ntFirst {a s : State} (h : Kept a s) :
    Kept a (State.ntFirst s) := by
  unfold State.ntFirst
  exact (by split; exact (kept_ntWatch h _ _ _); exact h)

theorem kept_ntStart {a s : State} (h : Kept a s) (x1 : ℕ) :
    Kept a (State.ntStart s x1) := by
  unfold State.ntStart
  exact (Kept.ite (kept_mapNight (kept_mapNight (kept_mapNight (kept_set h _ _) _) _) _) (Kept.ite (Kept.ite (kept_mapNight (kept_mapNight (kept_set h _ _) _) _) (kept_mapNight (kept_each (kept_mapNight (kept_set h _ _) _) _ _ (fun _ _ h100 => (kept_lanePrbs h100 _ _ _ _))) _)) (Kept.ite (kept_each (kept_mapNight (kept_mapNight (kept_set h _ _) _) _) _ _ (fun _ _ h101 => (kept_detArm (kept_set h101 _ _) _))) (Kept.ite (kept_mapNight (kept_mapNight (kept_set h _ _) _) _) (Kept.ite (Kept.ite (kept_mapNight (kept_mapNight (kept_set h _ _) _) _) (Kept.ite (kept_mapNight (kept_mapNight (kept_set h _ _) _) _) (kept_portClose (kept_mapNight (kept_mapNight (kept_mapNight (kept_set h _ _) _) _) _) _))) (Kept.ite (kept_mapNight (kept_mapNight (kept_set h _ _) _) _) (Kept.ite (kept_ntAttest (kept_mapNight (kept_set h _ _) _) _) (kept_mapNight (kept_set h _ _) _))))))))

theorem kept_ntNext {a s : State} (h : Kept a s) (x1 : ℕ) :
    Kept a (State.ntNext s x1) := by
  unfold State.ntNext
  exact (by split; exact h; exact (Kept.ite h (Kept.ite (kept_ntWatch h _ _ _) (Kept.ite (kept_ntEnd h _ _) (Kept.ite (kept_ntFirst (kept_ntStart h _)) h)))))

theorem kept_ntCycle {a s : State} (h : Kept a s) :
    Kept a (State.ntCycle s) := by
  unfold State.ntCycle
  exact (by split; exact (kept_ntReopen h); exact (kept_ntNext (kept_ntDue (kept_ntReopen h) _) _))

theorem kept_execTestFrameRx {a s : State} (h : Kept a s) (x0 : Frame) :
    KeptStep a (execTestFrameRx x0 s) := by
  unfold execTestFrameRx
  exact (KeptStep.next (kept_ifBolt h _ (fun _ h100 => (by split; exact (Kept.ite h100 (kept_mapNight h100 _)); exact h100))))

theorem kept_execNtsAbort {a s : State} (h : Kept a s) (x0 : Requester) :
    KeptStep a (execNtsAbort x0 s) := by
  unfold execNtsAbort
  exact (KeptStep.next (kept_command h _ _ _ _ (fun _ h100 => (kept_ntAbort h100))))

theorem kept_execNtsGo {a s : State} (h : Kept a s) (x0 : Requester) :
    KeptStep a (execNtsGo x0 s) := by
  unfold execNtsGo
  exact (KeptStep.next (kept_command h _ _ _ _ (fun _ h100 => (kept_ntGo h100))))

end Sys2Proof.Machine
end

