-- ==== Sys2Proof/Laws/KeptPower.lean ====
section
/-! SUPPORT. What the operations of Machine/Power.lean keep. -/

namespace Sys2Proof.Machine

set_option Elab.async false
set_option linter.unusedTactic false

theorem kept_harts {a s : State} (h : Kept a s) (x1 : Bool) :
    Kept a (State.harts s x1) := by
  unfold State.harts
  exact (Kept.upd h)

theorem kept_quietWork {a s : State} (h : Kept a s) :
    Kept a (State.quietWork s) := by
  unfold State.quietWork
  exact (Kept.ite h (kept_each (kept_harts (Kept.ite (kept_set (kept_tokenHome (kept_each (kept_each h _ _ (fun _ _ h100 => (Kept.ite h100 (kept_portDark (Kept.ite (kept_leftUp h100 _ _) h100) _)))) _ _ (fun _ _ h101 => (Kept.ite (kept_linkChange h101 _ _ _ _ _) h101))) _) _ _) (kept_each (kept_each h _ _ (fun _ _ h102 => (Kept.ite h102 (kept_portDark (Kept.ite (kept_leftUp h102 _ _) h102) _)))) _ _ (fun _ _ h103 => (Kept.ite (kept_linkChange h103 _ _ _ _ _) h103)))) _) _ _ (fun _ _ h104 => (Kept.ite (kept_emit h104 _) h104))))

theorem kept_setPwrState {a s : State} (h : Kept a s) (x1 : ℕ) :
    Kept a (State.setPwrState s x1) := by
  unfold State.setPwrState
  exact (kept_irq (kept_sat (kept_sets h _) _ _) _ _)

theorem kept_runWork {a s : State} (h : Kept a s) :
    Kept a (State.runWork s) := by
  unfold State.runWork
  exact (Kept.ite h (kept_each (kept_harts h _) _ _ (fun _ _ h100 => (Kept.ite (kept_portOn h100 _) h100))))

theorem kept_mapPwr {a s : State} (h : Kept a s) (x1 : Pwr → Pwr) :
    Kept a (State.mapPwr s x1) := by
  unfold State.mapPwr
  exact (Kept.upd h)

theorem kept_deliveryRecords {a s : State} (h : Kept a s) :
    Kept a (State.deliveryRecords s) := by
  unfold State.deliveryRecords
  exact (kept_each h _ _ (fun _ _ h100 => (kept_deliveryRecord h100 _ _)))

theorem kept_entryStep3 {a s : State} (h : Kept a s) :
    Kept a (State.entryStep3 s) := by
  unfold State.entryStep3
  exact (kept_each (kept_mapPwr (kept_usbReview (kept_mapPwr (kept_each h _ _ (fun _ _ h100 => (Kept.ite (kept_altEnd (kept_pd h100 _ _) _) h100))) _)) _) _ _ (fun _ _ h101 => (kept_commandOff h101 _)))

theorem kept_entryStep1 {a s : State} (h : Kept a s) :
    Kept a (State.entryStep1 s) := by
  unfold State.entryStep1
  exact (Kept.ite (kept_mapPwr (kept_deliveryRecords (Kept.ite h (kept_startOpening h _))) _) (kept_entryStep3 h))

theorem kept_startEntry {a s : State} (h : Kept a s) (x1 : ℕ) :
    Kept a (State.startEntry s x1) := by
  unfold State.startEntry
  exact (Kept.ite (kept_entryStep1 (Kept.ite (kept_set (kept_quietWork (kept_sets h _)) _ _) (kept_sets h _))) (kept_mapPwr (Kept.ite (kept_set (kept_quietWork (kept_sets h _)) _ _) (kept_sets h _)) _))

theorem kept_requestBolt {a s : State} (h : Kept a s) :
    Kept a (State.requestBolt s) := by
  unfold State.requestBolt
  exact (Kept.ite (kept_mapPwr h _) (kept_drivePg0 (kept_setBoltReq (kept_mapPwr h _) _)))

theorem kept_gatesBack {a s : State} (h : Kept a s) :
    Kept a (State.gatesBack s) := by
  unfold State.gatesBack
  exact (kept_each (kept_mapPwr h _) _ _ (fun _ _ h100 => (kept_startGate h100 _)))

theorem kept_leaveOff {a s : State} (h : Kept a s) :
    Kept a (State.leaveOff s) := by
  unfold State.leaveOff
  exact (Kept.ite h (kept_each (kept_each (kept_mapPwr h _) _ _ (fun _ _ h100 => (kept_startGate h100 _))) _ _ (fun _ _ h101 => (Kept.ite (kept_tcpPortOn (kept_set h101 _ _) _) h101))))

theorem kept_startWake {a s : State} (h : Kept a s) (x1 : ℕ) (x2 : ℕ) :
    Kept a (State.startWake s x1 x2) := by
  unfold State.startWake
  exact (kept_requestBolt (kept_gatesBack (kept_leaveOff (kept_set (kept_wakeBegins h _) _ _))))

theorem kept_goOff {a s : State} (h : Kept a s) :
    Kept a (State.goOff s) := by
  unfold State.goOff
  exact (kept_each (kept_mapPwr (kept_each h _ _ (fun _ _ h100 => (Kept.ite (kept_typec (kept_sets (Kept.ite (kept_endAttach h100 _) h100) _) _ _) h100))) _) _ _ (fun _ _ h101 => (kept_commandOff h101 _)))

theorem kept_moveTo {a s : State} (h : Kept a s) (x1 : ℕ) (x2 : ℕ) (x3 : ℕ) :
    Kept a (State.moveTo s x1 x2 x3) := by
  unfold State.moveTo
  exact (Kept.ite (Kept.ite (kept_harts (kept_set h _ _) _) (kept_set h _ _)) (Kept.ite (Kept.ite (kept_usbReview (kept_setPwrState (kept_runWork (kept_set h _ _)) _)) (Kept.ite (kept_usbReview (kept_setPwrState (kept_quietWork (kept_set h _ _)) _)) (kept_startEntry (kept_set h _ _) _))) (Kept.ite (kept_startWake (kept_set h _ _) _ _) (Kept.ite (kept_setPwrState (kept_goOff (kept_set h _ _)) _) (kept_setPwrState (kept_leaveOff (kept_set h _ _)) _)))))

theorem kept_hostPwr {a s : State} (h : Kept a s) (x1 : Requester) (x2 : ℕ) (x3 : ℕ) (x4 : Bool) :
    Kept a (State.hostPwr s x1 x2 x3 x4) := by
  unfold State.hostPwr
  exact (kept_command h _ _ _ _ (fun _ h100 => (by split; exact (kept_irq (kept_sat (kept_sets h100 _) _ _) _ _); exact (kept_moveTo (kept_ntAbandon (kept_sets h100 _) _) _ _ _))))

theorem kept_execPwrCmdOff {a s : State} (h : Kept a s) (x0 : Requester) (x1 : Bool) :
    KeptStep a (execPwrCmdOff x0 x1 s) := by
  unfold execPwrCmdOff
  exact (KeptStep.next (kept_hostPwr h _ _ _ _))

theorem kept_endLoadEarly {a s : State} (h : Kept a s) :
    Kept a (State.endLoadEarly s) := by
  unfold State.endLoadEarly
  exact (kept_sets (Kept.upd h) _)

theorem kept_execPwrCmdStandby {a s : State} (h : Kept a s) (x0 : Requester) (x1 : Bool) :
    KeptStep a (execPwrCmdStandby x0 x1 s) := by
  unfold execPwrCmdStandby
  exact (KeptStep.next (kept_hostPwr h _ _ _ _))

theorem kept_scanNvs {a s : State} (h : Kept a s) :
    Kept a (State.scanNvs s) := by
  unfold State.scanNvs
  exact (by (try dsimp -iota only); split; exact (Kept.ite (kept_sets (Kept.upd h) _) (kept_irq (kept_sets (Kept.upd h) _) _ _)))

theorem kept_setBackup {a s : State} (h : Kept a s) (x1 : Bool) :
    Kept a (State.setBackup s x1) := by
  unfold State.setBackup
  exact (kept_sets (Kept.upd h) _)

theorem kept_clockLost {a s : State} (h : Kept a s) (x1 : ℕ) (x2 : ℕ) :
    Kept a (State.clockLost s x1 x2) := by
  unfold State.clockLost
  exact (Kept.ite (kept_irq (kept_boltReset (Kept.upd (Kept.upd (kept_setBackup (kept_spoolRecord h _ _ _ _ _ _) _)))) _ _) (Kept.upd (kept_setBackup (kept_spoolRecord h _ _ _ _ _ _) _)))

theorem kept_drainNvs {a s : State} (h : Kept a s) (n : Nat) : Kept a (s.drainNvs n) := by
  induction n generalizing s with
  | zero => exact h
  | succ n ih => exact ih (kept_nvsStep h)

theorem kept_execStandbyBoltOff {a s : State} (h : Kept a s) :
    KeptStep a (execStandbyBoltOff s) := by
  unfold execStandbyBoltOff
  exact (KeptStep.next (kept_ifAon h _ (fun _ h100 => (Kept.ite h100 (Kept.ite (kept_setPwrState (kept_goOff (kept_mapPwr (kept_drivePg0 (kept_setBoltReq (kept_drainNvs (Kept.ite (kept_writeSnapshot (Kept.ite h100 (kept_entryStep3 h100))) (Kept.ite h100 (kept_entryStep3 h100))) _) _)) _)) _) (kept_setPwrState (kept_mapPwr (kept_drivePg0 (kept_setBoltReq (kept_drainNvs (Kept.ite (kept_writeSnapshot (Kept.ite h100 (kept_entryStep3 h100))) (Kept.ite h100 (kept_entryStep3 h100))) _) _)) _) _))))))

theorem kept_abandonEntry {a s : State} (h : Kept a s) (x1 : ℕ) :
    Kept a (State.abandonEntry s x1) := by
  unfold State.abandonEntry
  exact (kept_usbReview (kept_setPwrState (Kept.ite (kept_runWork (kept_gatesBack (Kept.ite (kept_rejoin (kept_ntReopen (Kept.upd (kept_mapPwr h _)))) (kept_mapPwr h _)))) (kept_harts (kept_gatesBack (Kept.ite (kept_rejoin (kept_ntReopen (Kept.upd (kept_mapPwr h _)))) (kept_mapPwr h _))) _)) _))

theorem kept_standTo {a s : State} (h : Kept a s) (x1 : ℕ) (x2 : ℕ) :
    Kept a (State.standTo s x1 x2) := by
  unfold State.standTo
  exact (Kept.ite (Kept.ite (kept_set (kept_set h _ _) _ _) (Kept.ite (kept_mapPwr (kept_set h _ _) _) (kept_set h _ _))) (Kept.ite (Kept.ite (kept_abandonEntry (kept_ntAbandon (kept_set h _ _) _) _) (kept_set (kept_set h _ _) _ _)) (Kept.ite (kept_set h _ _) (kept_moveTo (kept_ntAbandon (kept_set h _ _) _) _ _ _))))

theorem kept_finishWake {a s : State} (h : Kept a s) (x1 : ℕ) :
    Kept a (State.finishWake s x1) := by
  unfold State.finishWake
  exact (by (try dsimp -iota only); split; exact (kept_standTo (kept_usbReview (kept_setPwrState (Kept.ite (kept_runWork (kept_set (kept_mapPwr h _) _ _)) (kept_harts (kept_set (kept_mapPwr h _) _ _) _)) _)) _ _); exact (kept_usbReview (kept_setPwrState (Kept.ite (kept_runWork (kept_set (kept_mapPwr h _) _ _)) (kept_harts (kept_set (kept_mapPwr h _) _ _) _)) _)))

theorem kept_execPwrCmdQuiet {a s : State} (h : Kept a s) (x0 : Requester) (x1 : Bool) :
    KeptStep a (execPwrCmdQuiet x0 x1 s) := by
  unfold execPwrCmdQuiet
  exact (KeptStep.next (kept_hostPwr h _ _ _ _))

theorem kept_releaseStand {a s : State} (h : Kept a s) :
    Kept a (State.releaseStand s) := by
  unfold State.releaseStand
  exact (kept_alarmDue (by split; exact (Kept.ite (kept_standTo (kept_mapPwr h _) _ _) h); exact h))

theorem kept_pwrCommitted {a s : State} (h : Kept a s) (x1 : ℕ) :
    Kept a (State.pwrCommitted s x1) := by
  unfold State.pwrCommitted
  exact (kept_releaseStand (Kept.ite (kept_finishWake (Kept.ite (kept_mapPwr (Kept.upd h) _) (Kept.upd h)) _) (Kept.ite (kept_mapPwr (Kept.upd h) _) (Kept.upd h))))

theorem kept_execBrownOut {a s : State} (h : Kept a s) (words : Nat) : KeptStep a (execBrownOut words s) := by
  have e {t : State} (k : Kept a t) : Kept a { t with regs := [], bolt := Bolt.reset, spool := { Spool.reset with nvs := t.spool.nvs } } :=
    ⟨⟨k.inv.deployed, rfl, rfl, k.inv.nvs, rfl, rfl⟩, k.fuses, k.flash, k.pending⟩
  unfold execBrownOut
  refine KeptStep.next (Kept.ite h (e ?_))
  split
  · exact kept_nvsWrite h _ _
  · exact h

theorem kept_execRefclkReturn {a s : State} (h : Kept a s) :
    KeptStep a (execRefclkReturn s) := by
  unfold execRefclkReturn
  exact (KeptStep.next (kept_ifAon h _ (fun _ h100 => (Kept.ite h100 (Kept.ite (Kept.ite (kept_mapPwr (kept_set (Kept.upd (Kept.upd (kept_setBackup h100 _))) _ _) _) (kept_wakeBegins (kept_set (Kept.upd (Kept.upd (kept_setBackup h100 _))) _ _) _)) (Kept.ite (kept_requestBolt (Kept.upd (kept_setBackup h100 _))) (Kept.upd (kept_setBackup h100 _))))))))

theorem kept_execGoReady {a s : State} (h : Kept a s) (x0 : Requester) (x1 : ℕ) :
    KeptStep a (execGoReady x0 x1 s) := by
  unfold execGoReady
  exact (KeptStep.next (kept_command h _ _ _ _ (fun _ h100 => (Kept.ite h100 (Kept.ite (kept_finishWake (kept_mapPwr h100 _) _) (kept_mapPwr h100 _))))))

theorem kept_applyBootRecord {a s : State} (h : Kept a s) :
    Kept a (State.applyBootRecord s) := by
  unfold State.applyBootRecord
  exact (by split; exact h; exact (kept_set (kept_each h _ _ (fun _ _ h102 => (kept_wr h102 _ _))) _ _))

theorem kept_execOpenDrainEnd {a s : State} (h : Kept a s) :
    KeptStep a (execOpenDrainEnd s) := by
  unfold execOpenDrainEnd
  exact (KeptStep.next (kept_ifBolt h _ (fun _ h100 => (by split; exact (Kept.ite (Kept.ite (Kept.ite (kept_entryStep3 (kept_mapPwr (kept_each (Kept.upd h100) _ _ (fun _ _ h102 => (kept_portClose h102 _))) _)) (kept_mapPwr (kept_mapPwr (kept_each (Kept.upd h100) _ _ (fun _ _ h103 => (kept_portClose h103 _))) _) _)) (kept_each (Kept.upd h100) _ _ (fun _ _ h104 => (kept_portClose h104 _)))) h100); exact h100))))

theorem kept_entryResume {a s : State} (h : Kept a s) :
    Kept a (State.entryResume s) := by
  unfold State.entryResume
  exact (Kept.ite (kept_entryStep1 h) (Kept.ite (kept_entryStep3 h) h))

theorem kept_execBoltOffHoldEnd {a s : State} (h : Kept a s) :
    KeptStep a (execBoltOffHoldEnd s) := by
  unfold execBoltOffHoldEnd
  exact (KeptStep.next (kept_ifAon h _ (fun _ h100 => (Kept.ite h100 (Kept.ite (kept_requestBolt (kept_mapPwr h100 _)) (kept_mapPwr h100 _))))))

theorem kept_execWakeLateReady {a s : State} (h : Kept a s) (x0 : ℕ) :
    KeptStep a (execWakeLateReady x0 s) := by
  unfold execWakeLateReady
  exact (KeptStep.next (kept_ifAon h _ (fun _ h100 => (Kept.ite (kept_irq (kept_finishWake h100 _) _ _) h100))))

theorem kept_execPwrCmdRun {a s : State} (h : Kept a s) (x0 : Requester) (x1 : Bool) :
    KeptStep a (execPwrCmdRun x0 x1 s) := by
  unfold execPwrCmdRun
  exact (KeptStep.next (kept_hostPwr h _ _ _ _))

theorem kept_execRefclkLost {a s : State} (h : Kept a s) :
    KeptStep a (execRefclkLost s) := by
  unfold execRefclkLost
  exact (KeptStep.next (kept_ifAon h _ (fun _ h100 => (Kept.ite (kept_clockLost h100 _ _) h100))))

theorem kept_execAlarmCmd {a s : State} (h : Kept a s) (x0 : ℕ) :
    KeptStep a (execAlarmCmd x0 s) := by
  unfold execAlarmCmd
  exact (KeptStep.next (kept_ifAon h _ (fun _ h100 => (Kept.ite (kept_alarmNow h100) (kept_alarmDue h100)))))

theorem kept_standCommand {a s : State} (h : Kept a s) (x1 : ℕ) (x2 : ℕ) :
    Kept a (State.standCommand s x1 x2) := by
  unfold State.standCommand
  exact (Kept.ite (kept_mapPwr h _) (Kept.ite (Kept.ite (kept_standTo (kept_endLoadEarly h) _ _) (kept_mapPwr h _)) (kept_standTo h _ _)))

theorem kept_execPllUnlock {a s : State} (h : Kept a s) :
    KeptStep a (execPllUnlock s) := by
  unfold execPllUnlock
  exact (KeptStep.next (kept_ifBolt h _ (fun _ h100 => (kept_clockLost h100 _ _))))

theorem kept_execPowerOn {a s : State} (h : Kept a s) (straps : BitVec 4) : KeptStep a (execPowerOn straps s) := by
  unfold execPowerOn
  refine KeptStep.next (Kept.ite h ?_)
  refine kept_startGate (kept_setBoltReq (kept_set (kept_applyBootRecord (kept_scanNvs ?_)) _ _) _) _
  exact ⟨⟨h.inv.deployed, rfl, rfl, h.inv.nvs, rfl, rfl⟩, h.fuses, h.flash, h.pending⟩

end Sys2Proof.Machine
end

