-- ==== Sys2Proof/Laws/KeptLantern.lean ====
section
/-! SUPPORT. What the operations of Machine/Lantern.lean keep. -/

namespace Sys2Proof.Machine

set_option Elab.async false
set_option linter.unusedTactic false

theorem kept_fireStand {a s : State} (h : Kept a s) (x1 : ℕ) (x2 : StandAsk) :
    Kept a (State.fireStand s x1 x2).1 := by
  unfold State.fireStand
  exact (by (try dsimp -iota only); exact Kept.ite1 (Kept.pair (kept_sat h _ _)) (Kept.pair (Kept.ite (kept_set (kept_setB h _ _) _ _) (kept_setB h _ _))))

theorem kept_mapLan {a s : State} (h : Kept a s) (x1 : Lantern → Lantern) :
    Kept a (State.mapLan s x1) := by
  unfold State.mapLan
  exact (Kept.upd h)

theorem kept_wakeOut {a s : State} (h : Kept a s) :
    Kept a (State.wakeOut s) := by
  unfold State.wakeOut
  exact (kept_mapLan (kept_set h _ _) _)

theorem kept_contactReport {a s : State} (h : Kept a s) :
    Kept a (State.contactReport s) := by
  unfold State.contactReport
  exact (Kept.ite (Kept.upd h) h)

theorem kept_lanReplay {a s : State} (h : Kept a s) :
    Kept a (State.lanReplay s) := by
  unfold State.lanReplay
  exact (kept_set (kept_mapLan (kept_foldl h _ _ (fun _ _ h100 => (kept_sendEvent h100 _ _))) _) _ _)

theorem kept_seamBack {a s : State} (h : Kept a s) (x1 : ℕ) :
    Kept a (State.seamBack s x1) := by
  unfold State.seamBack
  exact (kept_entryResume (kept_alarmDue (kept_flushUsb (kept_contactReport (kept_lanReplay (kept_seamRecover h _))))))

theorem kept_execSeamRetrainDone {a s : State} (h : Kept a s) (x0 : Bool) (x1 : ℕ) :
    KeptStep a (execSeamRetrainDone x0 x1 s) := by
  unfold execSeamRetrainDone
  exact (KeptStep.next (kept_ifBolt h _ (fun _ h100 => (Kept.ite h100 (Kept.ite (kept_seamBack h100 _) (kept_set h100 _ _))))))

theorem kept_wakeRelease {a s : State} (h : Kept a s) :
    Kept a (State.wakeRelease s) := by
  unfold State.wakeRelease
  exact (kept_mapLan (kept_set h _ _) _)

theorem kept_execWakeNRelease {a s : State} (h : Kept a s) :
    KeptStep a (execWakeNRelease s) := by
  unfold execWakeNRelease
  exact (KeptStep.next (kept_ifAon h _ (fun _ h100 => (Kept.ite (kept_wakeRelease h100) h100))))

theorem kept_execPcieRefCheck {a s : State} (h : Kept a s) (x0 : Fin 3) (x1 : ℕ) :
    KeptStep a (execPcieRefCheck x0 x1 s) := by
  unfold execPcieRefCheck
  exact (KeptStep.next (Kept.ite h (Kept.ite (kept_pcieRef h _ _) (Kept.ite (kept_linkChange (kept_pcieRef h _ _) _ _ _ _ _) (kept_pcieRef h _ _)))))

theorem kept_ruleClear {a s : State} (h : Kept a s) (x1 : ℕ) :
    Kept a (State.ruleClear s x1) := by
  unfold State.ruleClear
  exact (kept_mapLan (kept_sets h _) _)

theorem kept_logRule {a s : State} (h : Kept a s) (x1 : ℕ) :
    Kept a (State.logRule s x1) := by
  unfold State.logRule
  exact (Kept.ite (kept_sat (kept_spoolRecord h _ _ _ _ _ _) _ _) (Kept.ite (kept_irq (kept_sat (kept_sat (kept_spoolRecord h _ _ _ _ _ _) _ _) _ _) _ _) (kept_set (kept_mapLan (kept_sat (kept_spoolRecord h _ _ _ _ _ _) _ _) _) _ _)))

theorem kept_ruleActs {a : State} (p : State × StandAsk) (r : Nat) (h : Kept a p.1) : Kept a (State.ruleActs p r).1 := by
  unfold State.ruleActs
  extract_lets s1 s2 p2
  have h1 : Kept a s1 := Kept.ite (kept_wakeOut h) h
  have h2 : Kept a s2 := Kept.ite (kept_logRule h1 r) h1
  have h3 : Kept a p2.1 := Kept.ite1 (kept_fireStand h2 r p.2) (Kept.pair h2)
  exact Kept.ite (kept_clearGate h3 0) h3

theorem kept_contactFault {a s : State} (h : Kept a s) (x1 : ℕ) (x2 : Bool) :
    Kept a (State.contactFault s x1 x2) := by
  unfold State.contactFault
  exact (Kept.ite h (Kept.ite (kept_irq (kept_sat (kept_sets h _) _ _) _ _) (kept_sets h _)))

theorem kept_contactState {a s : State} (h : Kept a s) (x1 : ℕ) (x2 : ℕ) :
    Kept a (State.contactState s x1 x2) := by
  unfold State.contactState
  exact (Kept.ite h (kept_irq (kept_set (kept_sat (kept_set h _ _) _ _) _ _) _ _))

theorem kept_contactSample {a s : State} (h : Kept a s) (x1 : ℕ) (x2 : ℕ) :
    Kept a (State.contactSample s x1 x2) := by
  unfold State.contactSample
  exact (Kept.ite (Kept.ite (kept_contactState (kept_contactFault (kept_mapLan (kept_mapLan (kept_sets h _) _) _) _ _) _ _) (kept_contactFault (kept_mapLan (kept_mapLan (kept_sets h _) _) _) _ _)) (Kept.ite (kept_contactState (kept_mapLan (kept_contactFault (kept_mapLan (kept_sets h _) _) _ _) _) _ _) (kept_mapLan (kept_contactFault (kept_mapLan (kept_sets h _) _) _ _) _)))

theorem kept_lanTimers {a s : State} (h : Kept a s) :
    Kept a (State.lanTimers s) := by
  unfold State.lanTimers
  exact (kept_mapLan (kept_each h _ _ (fun _ _ h100 => (Kept.ite (kept_set h100 _ _) h100))) _)

theorem kept_adcSample {a s : State} (h : Kept a s) (x1 : ℕ) (x2 : ℕ) :
    Kept a (State.adcSample s x1 x2) := by
  unfold State.adcSample
  exact (Kept.ite (kept_set (kept_sets (kept_mapLan h _) _) _ _) (kept_sets (kept_mapLan h _) _))

theorem kept_ruleEval {a s : State} (h : Kept a s) (x1 : ℕ) :
    Kept a (State.ruleEval s x1).1 := by
  unfold State.ruleEval
  exact (Kept.ite1 (Kept.pair h) (Kept.pair (Kept.ite (kept_irq (kept_sat (kept_sets (kept_mapLan h _) _) _ _) _ _) (kept_sets (kept_mapLan h _) _))))

theorem kept_rulesEval {a s : State} (h : Kept a s) :
    Kept a (State.rulesEval s).1 := by
  unfold State.rulesEval
  exact (kept_foldl1 (Kept.pair h) _ _ (fun _ _ h100 => (Kept.pair (kept_ruleEval h100 _))))

theorem kept_alarmFired {a s : State} (h : Kept a s) :
    Kept a (State.alarmFired s) := by
  unfold State.alarmFired
  exact (Kept.ite (kept_alarmNow h) (kept_mapPwr h _))

theorem kept_standActs {a s : State} (h : Kept a s) (x1 : StandAsk) :
    Kept a (State.standActs s x1) := by
  unfold State.standActs
  exact (Kept.ite (kept_alarmFired (by split; exact (kept_standCommand h _ _); exact (Kept.ite (kept_endLoadEarly h) h))) (by split; exact (kept_standCommand h _ _); exact (Kept.ite (kept_endLoadEarly h) h)))

theorem kept_lanRules {a s : State} (h : Kept a s) : Kept a s.lanRules := by
  unfold State.lanRules
  extract_lets p q
  have hp : Kept a p.1 := kept_rulesEval h
  clear_value p
  have hq : Kept a q.1 := kept_foldl1 (p := (p.1, ⟨none, false⟩)) hp p.2 State.ruleActs kept_ruleActs
  clear_value q
  exact kept_standActs (Kept.upd hq) _

theorem kept_lanCycle {a s : State} (h : Kept a s) (x1 : List ℕ) (x2 : List ℕ) :
    Kept a (State.lanCycle s x1 x2) := by
  unfold State.lanCycle
  exact (kept_lanRules (kept_contactReport (kept_each (kept_each (kept_lanTimers (Kept.upd h)) _ _ (fun _ _ h100 => (kept_adcSample h100 _ _))) _ _ (fun _ _ h101 => (kept_contactSample h101 _ _)))))

theorem kept_execLanternCycle {a s : State} (h : Kept a s) (x0 : List (BitVec 12)) (x1 : List ℕ) :
    KeptStep a (execLanternCycle x0 x1 s) := by
  unfold execLanternCycle
  exact (KeptStep.next (kept_ifAon h _ (fun _ h100 => (kept_lanCycle h100 _ _))))

theorem kept_execWakeClear {a s : State} (h : Kept a s) (x0 : Requester) :
    KeptStep a (execWakeClear x0 s) := by
  unfold execWakeClear
  exact (KeptStep.next (kept_command h _ _ _ _ (fun _ h100 => (kept_wakeRelease h100))))

end Sys2Proof.Machine
end

