-- ==== Sys2Proof/Laws/KeptCommit.lean ====
section
/-! SUPPORT. What the operations of Machine/Commit.lean keep. -/

namespace Sys2Proof.Machine

set_option Elab.async false
set_option linter.unusedTactic false

theorem kept_commit {a s : State} (h : Kept a s) (x1 : ℕ) (x2 : Bool) (x3 : Bool) :
    Kept a (State.commit s x1 x2 x3) := by
  unfold State.commit
  exact (by (try dsimp -iota only); split; exact (kept_set (kept_set (kept_sets h _) _ _) _ _); exact (kept_mapEntry (kept_sets (kept_sets h _) _) _ _))

theorem kept_dropRetx {a s : State} (h : Kept a s) (x1 : ℕ) :
    Kept a (State.dropRetx s x1) := by
  unfold State.dropRetx
  exact (kept_each (kept_mapEntry h _ _) _ _ (fun _ _ h100 => (kept_freeFrame h100 _)))

theorem kept_showValid {a s : State} (h : Kept a s) :
    Kept a (State.showValid s) := by
  unfold State.showValid
  exact (kept_set h _ _)

theorem kept_commitNow {a s : State} (h : Kept a s) (x1 : ℕ) :
    Kept a (State.commitNow s x1) := by
  unfold State.commitNow
  exact (by split; exact h; exact (kept_irq (kept_showValid (kept_pcbReview (kept_each (Kept.ite (kept_set (Kept.ite (Kept.ite (kept_foldl (kept_noteHolds (kept_mapEntry (kept_dropRetx (Kept.ite (kept_deliveryRecord (kept_each h _ _ (fun _ _ h102 => (kept_each h102 _ _ (fun _ _ h103 => (kept_deliverDatagram h103 _ _))))) _ _) (kept_each h _ _ (fun _ _ h104 => (kept_each h104 _ _ (fun _ _ h105 => (kept_deliverDatagram h105 _ _)))))) _) _ _)) _ _ (fun _ _ h106 => (kept_setCounter h106 _ _))) (kept_noteHolds (kept_mapEntry (kept_dropRetx (Kept.ite (kept_deliveryRecord (kept_each h _ _ (fun _ _ h107 => (kept_each h107 _ _ (fun _ _ h108 => (kept_deliverDatagram h108 _ _))))) _ _) (kept_each h _ _ (fun _ _ h109 => (kept_each h109 _ _ (fun _ _ h110 => (kept_deliverDatagram h110 _ _)))))) _) _ _))) (kept_fillBuckets (Kept.ite (kept_foldl (kept_noteHolds (kept_mapEntry (kept_dropRetx (Kept.ite (kept_deliveryRecord (kept_each h _ _ (fun _ _ h111 => (kept_each h111 _ _ (fun _ _ h112 => (kept_deliverDatagram h112 _ _))))) _ _) (kept_each h _ _ (fun _ _ h113 => (kept_each h113 _ _ (fun _ _ h114 => (kept_deliverDatagram h114 _ _)))))) _) _ _)) _ _ (fun _ _ h115 => (kept_setCounter h115 _ _))) (kept_noteHolds (kept_mapEntry (kept_dropRetx (Kept.ite (kept_deliveryRecord (kept_each h _ _ (fun _ _ h116 => (kept_each h116 _ _ (fun _ _ h117 => (kept_deliverDatagram h117 _ _))))) _ _) (kept_each h _ _ (fun _ _ h118 => (kept_each h118 _ _ (fun _ _ h119 => (kept_deliverDatagram h119 _ _)))))) _) _ _))) _)) _ _) (Kept.ite (Kept.ite (kept_foldl (kept_noteHolds (kept_mapEntry (kept_dropRetx (Kept.ite (kept_deliveryRecord (kept_each h _ _ (fun _ _ h120 => (kept_each h120 _ _ (fun _ _ h121 => (kept_deliverDatagram h121 _ _))))) _ _) (kept_each h _ _ (fun _ _ h122 => (kept_each h122 _ _ (fun _ _ h123 => (kept_deliverDatagram h123 _ _)))))) _) _ _)) _ _ (fun _ _ h124 => (kept_setCounter h124 _ _))) (kept_noteHolds (kept_mapEntry (kept_dropRetx (Kept.ite (kept_deliveryRecord (kept_each h _ _ (fun _ _ h125 => (kept_each h125 _ _ (fun _ _ h126 => (kept_deliverDatagram h126 _ _))))) _ _) (kept_each h _ _ (fun _ _ h127 => (kept_each h127 _ _ (fun _ _ h128 => (kept_deliverDatagram h128 _ _)))))) _) _ _))) (kept_fillBuckets (Kept.ite (kept_foldl (kept_noteHolds (kept_mapEntry (kept_dropRetx (Kept.ite (kept_deliveryRecord (kept_each h _ _ (fun _ _ h129 => (kept_each h129 _ _ (fun _ _ h130 => (kept_deliverDatagram h130 _ _))))) _ _) (kept_each h _ _ (fun _ _ h131 => (kept_each h131 _ _ (fun _ _ h132 => (kept_deliverDatagram h132 _ _)))))) _) _ _)) _ _ (fun _ _ h133 => (kept_setCounter h133 _ _))) (kept_noteHolds (kept_mapEntry (kept_dropRetx (Kept.ite (kept_deliveryRecord (kept_each h _ _ (fun _ _ h134 => (kept_each h134 _ _ (fun _ _ h135 => (kept_deliverDatagram h135 _ _))))) _ _) (kept_each h _ _ (fun _ _ h136 => (kept_each h136 _ _ (fun _ _ h137 => (kept_deliverDatagram h137 _ _)))))) _) _ _))) _))) _ _ (fun _ _ h138 => (kept_linkRestart (Kept.ite h138 (kept_tunnelLost h138 _)) _))))) _ _))

theorem kept_execCommitEffect {a s : State} (h : Kept a s) (x0 : Fin 1024) :
    KeptStep a (execCommitEffect x0 s) := by
  unfold execCommitEffect
  exact (KeptStep.next (kept_ifBolt h _ (fun _ h100 => (by split; exact (kept_commitNow h100 _); exact h100))))

theorem kept_commitsAtCycle {a s : State} (h : Kept a s) :
    Kept a (State.commitsAtCycle s) := by
  unfold State.commitsAtCycle
  exact (kept_each h _ _ (fun _ _ h100 => (kept_commitNow h100 _)))

theorem kept_execInvalidate {a s : State} (h : Kept a s) (x0 : Requester) (x1 : BitVec 10) (x2 : Bool) :
    KeptStep a (execInvalidate x0 x1 x2 s) := by
  unfold execInvalidate
  exact (KeptStep.next (kept_command h _ _ _ _ (fun _ h100 => (kept_commit h100 _ _ _))))

theorem kept_copyLeft {a s : State} (h : Kept a s) (x1 : ℕ) (x2 : Stored) :
    Kept a (State.copyLeft s x1 x2) := by
  unfold State.copyLeft
  exact (Kept.ite h (Kept.ite (Kept.ite (kept_crossSeam (kept_emit h _) _ _) (kept_countLoss h _ _)) (kept_emit h _)))

theorem kept_execCopyDone {a s : State} (h : Kept a s) (x0 : CopyEnd) :
    KeptStep a (execCopyDone x0 s) := by
  unfold execCopyDone
  exact (KeptStep.next (kept_ifBolt h _ (fun _ h100 => (by split; exact h100; exact (by split; exact (kept_wireFree h100 _); exact (Kept.ite h100 (by split; rename_i hq; have h105 := Kept.eq hq (Kept.ite1 (Kept.pair h100) (kept_readFrame h100 _ _ _)); exact (kept_progressError h105 _ _ _ _); rename_i hq; have h106 := Kept.eq hq (Kept.ite1 (Kept.pair h100) (kept_readFrame h100 _ _ _)); exact (kept_endCopy (kept_copyLeft (kept_wireFree (kept_pushTo h106 _ _) _) _ _) _ _ _))))))))

theorem kept_execRetransmitTimeout {a s : State} (h : Kept a s) (x0 : Fin 1024) (x1 : ℕ) :
    KeptStep a (execRetransmitTimeout x0 x1 s) := by
  unfold execRetransmitTimeout
  exact (KeptStep.next (kept_ifBolt h _ (fun _ h100 => (Kept.ite (kept_usbDead (Kept.ite h100 (kept_pcbReview (kept_retransmit h100 _ _))) _) (Kept.ite h100 (kept_pcbReview (kept_retransmit h100 _ _)))))))

theorem kept_execTunCommit {a s : State} (h : Kept a s) (x0 : Requester) (x1 : BitVec 10) (x2 : Bool) :
    KeptStep a (execTunCommit x0 x1 x2 s) := by
  unfold execTunCommit
  exact (KeptStep.next (kept_command h _ _ _ _ (fun _ h100 => (kept_commit h100 _ _ _))))

theorem kept_setShadow {a s : State} (h : Kept a s) (x1 : ℕ) (x2 : ℕ) (x3 : Word) :
    Kept a (State.setShadow s x1 x2 x3) := by
  unfold State.setShadow
  exact (Kept.upd h)

theorem kept_deadReview {a s : State} (h : Kept a s) {was : State} (_ : Kept a was) : Kept a (s.deadReview was) := by
  unfold State.deadReview
  exact Kept.ite h (kept_each (kept_pcbReview h) _ _ fun _ _ k => kept_usbDead k _)

theorem kept_execReliableAckRx {a s : State} (h : Kept a s) (x0 : Frame) :
    KeptStep a (execReliableAckRx x0 s) := by
  unfold execReliableAckRx
  exact (KeptStep.next (kept_ifBolt h _ (fun _ h100 => (kept_deadReview (kept_ackTaken h100 _) h100))))

theorem kept_execPlacementFixed {a s : State} (h : Kept a s) (x0 : Fin 12) (x1 : RowError) (x2 : ℕ) :
    KeptStep a (execPlacementFixed x0 x1 x2 s) := by
  unfold execPlacementFixed
  exact (KeptStep.next (kept_ifBolt h _ (fun _ h100 => (kept_deadReview (kept_fixPlacement h100 _ _ _ _) h100))))

end Sys2Proof.Machine
end

