-- ==== Sys2Proof/Laws/KeptUnits.lean ====
section
/-! SUPPORT. What the operations of Machine/Units.lean keep. -/

namespace Sys2Proof.Machine

set_option Elab.async false
set_option linter.unusedTactic false

theorem kept_rngOff {a s : State} (h : Kept a s) :
    Kept a (State.rngOff s) := by
  unfold State.rngOff
  exact (kept_reviewSource (kept_sets (Kept.upd h) _))

theorem kept_turnOff {a s : State} (h : Kept a s) (x1 : HUnit) :
    Kept a (State.turnOff s x1) := by
  unfold State.turnOff
  exact (by split; exact (kept_rngOff h); exact (kept_sendReady h _); exact (kept_audOff h); exact (kept_tdmOff h _); exact (kept_chanOff h _); exact (kept_quadUneq (kept_pcbQuadOff h _) _); exact (kept_linkUnitOff h _); exact (kept_quadUneq (kept_dpOff h _) _); exact (kept_quadUneq (kept_ethOff h _) _); exact (kept_ntAbandon h _); exact (kept_usbStop h); exact (kept_ruleClear h _); exact h)

theorem kept_swbOn {a s : State} (h : Kept a s) :
    Kept a (State.swbOn s) := by
  unfold State.swbOn
  exact (kept_loadReserves (kept_set (Kept.upd h) _ _))

theorem kept_turnOn {a s : State} (h : Kept a s) (x1 : HUnit) :
    Kept a (State.turnOn s x1) := by
  unfold State.turnOn
  exact (by (try dsimp -iota only); split; exact (kept_clkOn (kept_refreshBook h _)); exact (kept_portOn (kept_refreshBook h _) _); exact (kept_swbOn (kept_refreshBook h _)); exact (kept_schOn (kept_refreshBook h _)); exact (kept_rngOn (kept_refreshBook h _)); exact (kept_tdmOn (kept_refreshBook h _) _); exact (kept_chanOn (kept_refreshBook h _) _); exact (kept_linkUnitOn (kept_refreshBook h _) _); exact (kept_keyOn (kept_refreshBook h _)); exact (kept_set (kept_refreshBook h _) _ _); exact (kept_tcpPortOn (kept_refreshBook h _) _); exact (kept_usbStart (kept_refreshBook h _)); exact (kept_startGate (kept_refreshBook h _) _); exact (kept_ruleClear (kept_refreshBook h _) _); exact (kept_refreshBook h _))

theorem kept_passUnit {a s : State} (h : Kept a s) (x1 : HUnit) :
    Kept a (State.passUnit s x1) := by
  unfold State.passUnit
  exact (kept_irq (kept_turnOn (kept_sets h _) _) _ _)

theorem kept_endCheck {a s : State} (h : Kept a s) (x1 : HUnit) :
    Kept a (State.endCheck s x1) := by
  unfold State.endCheck
  exact (Kept.ite h (by split; exact h; exact (kept_planDone h _); exact (kept_planDone h _); exact (kept_when (by split; exact (kept_refuseUnit h _ _ _); exact (kept_passUnit h _)) _ _ (fun _ h106 => (kept_used h106)))))

theorem kept_unitStops {a s : State} (h : Kept a s) (x1 : HUnit) :
    Kept a (State.unitStops s x1) := by
  unfold State.unitStops
  exact (by split; exact (kept_gateOff h _); exact (kept_holdPort h _); exact (Kept.ite (kept_sticky (kept_set h _ _) _ _) (kept_set h _ _)); exact (Kept.ite (Kept.ite (kept_sendReady (kept_set h _ _) _) (kept_set h _ _)) (Kept.ite h (by split; exact (kept_portClose h _); exact (kept_turnOff (kept_sets h _) _)))))

theorem kept_unitStarts {a s : State} (h : Kept a s) (x1 : HUnit) :
    Kept a (State.unitStarts s x1) := by
  unfold State.unitStarts
  exact (Kept.ite (kept_sets h _) (by (try dsimp -iota only); split; exact (kept_planStart (kept_set h _ _) _); exact (kept_planStart (kept_set h _ _) _); exact (kept_set h _ _)))

theorem kept_execUnitStopped {a s : State} (h : Kept a s) (x0 : HUnit) :
    KeptStep a (execUnitStopped x0 s) := by
  unfold execUnitStopped
  exact (KeptStep.next (Kept.ite h (by split; exact (Kept.ite (kept_portDark h _) h); exact (kept_set h _ _))))

theorem kept_execCheckDone {a s : State} (h : Kept a s) (x0 : HUnit) :
    KeptStep a (execCheckDone x0 s) := by
  unfold execCheckDone
  exact (KeptStep.next (Kept.ite (kept_endCheck h _) h))

end Sys2Proof.Machine
end

