-- ==== Sys2Proof/Laws/KeptWrites.lean ====
section
/-! SUPPORT. What the operations of Machine/Writes.lean keep. -/

namespace Sys2Proof.Machine

set_option Elab.async false
set_option linter.unusedTactic false

theorem kept_guarded {a s : State} (h : Kept a s) (x1 : Requester) (x2 : ℕ) (x3 : State → State) (h3 : ∀ y0, Kept a y0 → Kept a (x3 y0)) :
    Kept a (State.guarded s x1 x2 x3) := by
  unfold State.guarded
  exact (Kept.ite h (by split; exact (kept_answer (h3 _ (kept_countSpoolWrite h _)) _ _ _); exact (kept_turnAway h _ _ _)))

theorem kept_prevGone {a s : State} (h : Kept a s) :
    Kept a (State.prevGone s) := by
  unfold State.prevGone
  exact (by (try dsimp -iota only); split; exact (Kept.ite (kept_showPending (kept_altRecord (Kept.upd (kept_set h _ _)) _ _ _ _ _)) (kept_set h _ _)); exact (kept_set h _ _))

theorem kept_bankWrite {a s : State} (h : Kept a s) (x1 : ℕ) (x2 : Word) :
    Kept a (State.bankWrite s x1 x2) := by
  unfold State.bankWrite
  exact (Kept.ite h (Kept.ite (Kept.ite h (kept_sticky h _ _)) (kept_bankReview (Kept.ite (kept_prevGone (Kept.upd h)) (Kept.upd h)))))

theorem kept_windowWrite {a s : State} (h : Kept a s) (who : Requester) (x : Nat) (v : Word) :
    Kept a (s.windowWrite who x v) := by
  unfold State.windowWrite
  refine kept_guarded h _ _ _ fun s h => Kept.ite (kept_bankWrite h _ _) (Kept.ite ?_ (kept_sticky h _ _))
  exact ⟨⟨h.inv.deployed, h.inv.regs, h.inv.sram, h.inv.nvs, Memory.wf_memPut _ _ h.inv.usb, h.inv.msix⟩, h.fuses, h.flash, h.pending⟩

theorem kept_tokenAsk {a s : State} (h : Kept a s) (x1 : Fld) :
    Kept a (State.tokenAsk s x1) := by
  unfold State.tokenAsk
  exact (Kept.ite h (kept_irq (kept_set h _ _) _ _))

theorem kept_handOver {a s : State} (h : Kept a s) (x1 : ℕ) :
    Kept a (State.handOver s x1) := by
  unfold State.handOver
  exact (Kept.ite (kept_sets h _) (Kept.ite (kept_sets h _) (Kept.ite h (kept_refreshInts (Kept.ite (kept_set (kept_sets h _) _ _) (Kept.ite (kept_set (kept_sets h _) _ _) (kept_sets h _)))))))

theorem kept_tokenWrite {a s : State} (h : Kept a s) (x1 : Requester) (x2 : Word) :
    Kept a (State.tokenWrite s x1 x2) := by
  unfold State.tokenWrite
  exact (kept_guarded h _ _ _ (fun _ h100 => (Kept.ite (Kept.ite (kept_tokenAsk h100 _) (Kept.ite (kept_tokenAsk h100 _) h100)) (Kept.ite (kept_handOver (Kept.ite (kept_sets (kept_set (Kept.ite (kept_tokenAsk h100 _) (Kept.ite (kept_tokenAsk h100 _) h100)) _ _) _) (kept_set (Kept.ite (kept_tokenAsk h100 _) (Kept.ite (kept_tokenAsk h100 _) h100)) _ _)) _) (Kept.ite (kept_sets (kept_set (Kept.ite (kept_tokenAsk h100 _) (Kept.ite (kept_tokenAsk h100 _) h100)) _ _) _) (kept_set (Kept.ite (kept_tokenAsk h100 _) (Kept.ite (kept_tokenAsk h100 _) h100)) _ _))))))

theorem kept_hartWrite {a s : State} (h : Kept a s) (x1 : Requester) (x2 : Word) :
    Kept a (State.hartWrite s x1 x2) := by
  unfold State.hartWrite
  exact (kept_command h _ _ _ _ (fun _ h100 => (kept_each h100 _ _ (fun _ _ h101 => (Kept.ite (kept_emit (kept_emit (Kept.upd h101) _) _) h101)))))

theorem kept_stateOf {a s : State} (h : Kept a s) (o : Step) (k : KeptStep a o) : Kept a (stateOf o s) := by
  unfold stateOf
  split
  · exact k _ rfl
  · exact h

theorem kept_writeTop {a s : State} (h : Kept a s) (x1 : Requester) (x2 : ℕ) (x3 : Word) :
    KeptOpt a (State.writeTop s x1 x2 x3) := by
  unfold State.writeTop
  exact (KeptOpt.orElse (KeptOpt.ite (KeptOpt.some (kept_tokenWrite h _ _)) (KeptOpt.none _)) (KeptOpt.orElse (KeptOpt.ite (KeptOpt.some (kept_hartWrite h _ _)) (KeptOpt.none _)) (KeptOpt.orElse (KeptOpt.ite (KeptOpt.some (kept_command h _ _ _ _ (fun _ h100 => (kept_refreshInts h100)))) (KeptOpt.none _)) (KeptOpt.orElse (KeptOpt.ite (KeptOpt.some (kept_command h _ _ _ _ (fun _ h101 => (Kept.ite (kept_set h101 _ _) h101)))) (KeptOpt.none _)) (KeptOpt.orElse (KeptOpt.map fun _ => (Kept.ite (kept_stateOf h _ (kept_execDfeLoad h _ _ _)) (kept_command h _ _ _ _ (fun _ h102 => h102)))) (KeptOpt.orElse (KeptOpt.map fun _ => (kept_prbsWrite h _ _ _)) (KeptOpt.orElse (KeptOpt.map fun _ => (Kept.ite (kept_stateOf h _ (kept_execModReset h _ _ _)) (kept_command h _ _ _ _ (fun _ h103 => (kept_driveLp h103 _))))) (KeptOpt.map fun _ => (kept_command h _ _ _ _ (fun _ h104 => (Kept.ite (kept_modGo h104 _ _) h104)))))))))))

theorem kept_writeSwitch {a s : State} (h : Kept a s) (x1 : Requester) (x2 : ℕ) (x3 : Word) :
    KeptOpt a (State.writeSwitch s x1 x2 x3) := by
  unfold State.writeSwitch
  exact (KeptOpt.orElse (KeptOpt.map fun _ => (kept_command h _ _ _ _ (fun _ h100 => (kept_setShadow h100 _ _ _)))) (KeptOpt.orElse (KeptOpt.ite (KeptOpt.some (kept_command h _ _ _ _ (fun _ h101 => (kept_commit h101 _ _ _)))) (KeptOpt.none _)) (KeptOpt.orElse (KeptOpt.ite (KeptOpt.some (kept_stateOf h _ (kept_execEccArm h _ _))) (KeptOpt.none _)) (KeptOpt.orElse (KeptOpt.ite (KeptOpt.some (kept_stateOf h _ (kept_execSampClear h _ _))) (KeptOpt.none _)) (KeptOpt.orElse (KeptOpt.ite (KeptOpt.some (kept_stateOf h _ (kept_execCmdPlanWrite h _ _))) (KeptOpt.none _)) (KeptOpt.ite (KeptOpt.some (by split; exact (kept_stateOf h _ (kept_execAltSew h _)); exact (kept_stateOf h _ (kept_execAltUnpick h _)); exact (kept_stateOf h _ (kept_execAltAlarm h _)); exact (kept_stateOf h _ (kept_execAltPoll h _)); exact (kept_command h _ _ _ _ (fun _ h107 => h107)))) (KeptOpt.none _)))))))

theorem kept_writeRing {a s : State} (h : Kept a s) (x1 : Requester) (x2 : ℕ) (x3 : Word) :
    KeptOpt a (State.writeRing s x1 x2 x3) := by
  unfold State.writeRing
  exact (KeptOpt.orElse (KeptOpt.ite (KeptOpt.some (by split; exact (kept_stateOf h _ (kept_execRingRollcall h _)); exact (kept_stateOf h _ (kept_execRingResign h _)); exact (kept_stateOf h _ (kept_execOpenRing h _)); exact (kept_stateOf h _ (kept_execRingHeal h _)); exact (kept_stateOf h _ (kept_execRingForget h _)); exact (kept_command h _ _ _ _ (fun _ h106 => h106)))) (KeptOpt.none _)) (KeptOpt.orElse (KeptOpt.ite (KeptOpt.some (kept_stateOf h _ (kept_execMsgSend h _ _))) (KeptOpt.none _)) (KeptOpt.orElse (KeptOpt.ite (KeptOpt.some (kept_stateOf h _ (kept_execRxPop h _))) (KeptOpt.none _)) (KeptOpt.orElse (KeptOpt.ite (KeptOpt.some (kept_command h _ _ _ _ (fun _ h107 => (kept_setRemote h107 _ _)))) (KeptOpt.none _)) (KeptOpt.orElse (KeptOpt.map fun _ => (kept_stateOf h _ (kept_execValueHiWrite h _ _ _))) (KeptOpt.orElse (KeptOpt.map fun _ => (kept_command h _ _ _ _ (fun _ h108 => (kept_showChan h108 _)))) (KeptOpt.orElse (KeptOpt.map fun _ => (kept_stateOf h _ (kept_execCvuData h _ _ _))) (KeptOpt.orElse (KeptOpt.map fun _ => (kept_cvuCmd h _ _ _)) (KeptOpt.orElse (KeptOpt.map fun _ => (kept_stateOf h _ (kept_execCvuAlive h _ _ _))) (KeptOpt.orElse (KeptOpt.map fun _ => (kept_guarded h _ _ _ (fun _ h109 => (kept_sticky h109 _ _)))) (KeptOpt.ite (KeptOpt.some (kept_stateOf h _ (kept_execLearnGo h _ _))) (KeptOpt.none _))))))))))))

theorem kept_writeKey {a s : State} (h : Kept a s) (x1 : Requester) (x2 : ℕ) (x3 : Word) :
    KeptOpt a (State.writeKey s x1 x2 x3) := by
  unfold State.writeKey
  exact (KeptOpt.orElse (KeptOpt.ite (KeptOpt.some (kept_stateOf h _ (kept_execMrExtend h _ _))) (KeptOpt.none _)) (KeptOpt.orElse (KeptOpt.ite (KeptOpt.some (kept_command h _ _ _ _ (fun _ h100 => (Kept.ite (kept_keyGo h100 _) h100)))) (KeptOpt.none _)) (KeptOpt.orElse (KeptOpt.ite (KeptOpt.some (kept_command h _ _ _ _ (fun _ h101 => (kept_lcDo h101 _)))) (KeptOpt.none _)) (KeptOpt.orElse (KeptOpt.ite (KeptOpt.some (kept_command h _ _ _ _ (fun _ h102 => (kept_cntCmd h102 _)))) (KeptOpt.none _)) (KeptOpt.orElse (KeptOpt.ite (KeptOpt.some (kept_command h _ _ _ _ (fun _ h103 => (Kept.ite (kept_takeSnapshot h103) h103)))) (KeptOpt.none _)) (KeptOpt.orElse (KeptOpt.ite (KeptOpt.some (kept_command h _ _ _ _ (fun _ h104 => (Kept.ite (kept_swRecord h104 _) h104)))) (KeptOpt.none _)) (KeptOpt.ite (KeptOpt.some (kept_command h _ _ _ _ (fun _ h105 => (kept_when (kept_when h105 _ _ (fun _ h106 => (kept_ntGo h106))) _ _ (fun _ h107 => (kept_ntAbort h107)))))) (KeptOpt.none _))))))))

theorem kept_portCmdWrite {a s : State} (h : Kept a s) (x1 : Requester) (x2 : Fin 6) (x3 : Word) :
    Kept a (State.portCmdWrite s x1 x2 x3) := by
  unfold State.portCmdWrite
  exact (by split; exact (kept_stateOf h _ (kept_execCmdDetach h _ _)); exact (kept_stateOf h _ (kept_execPrSwap h _ _)); exact (kept_stateOf h _ (kept_execDrSwap h _ _)); exact (kept_stateOf h _ (kept_execVconnSwap h _ _)); exact (kept_stateOf h _ (kept_execHardReset h _ _)); exact (kept_stateOf h _ (kept_execSendCaps h _ _)); exact (kept_stateOf h _ (kept_execEnterMode h _ _)); exact (kept_stateOf h _ (kept_execExitMode h _ _)); exact (kept_command h _ _ _ _ (fun _ h109 => h109)))

theorem kept_pwrWrite {a s : State} (h : Kept a s) (x1 : Requester) (x2 : Word) :
    Kept a (State.pwrWrite s x1 x2) := by
  unfold State.pwrWrite
  exact (by (try dsimp -iota only); split; exact (kept_hostPwr h _ _ _ _); exact (kept_hostPwr h _ _ _ _); exact (kept_hostPwr h _ _ _ _); exact (kept_hostPwr h _ _ _ _); exact (kept_command h _ _ _ _ (fun _ h105 => h105)))

theorem kept_readyWrite {a s : State} (h : Kept a s) (x1 : Requester) (x2 : Word) :
    Kept a (State.readyWrite s x1 x2) := by
  unfold State.readyWrite
  exact (Kept.ite (kept_used (kept_stateOf h _ (kept_execGoReady h _ _))) (kept_command h _ _ _ _ (fun _ h100 => h100)))

theorem kept_writeSpool {a s : State} (h : Kept a s) (x1 : Requester) (x2 : ℕ) (x3 : Word) :
    KeptOpt a (State.writeSpool s x1 x2 x3) := by
  unfold State.writeSpool
  exact (KeptOpt.orElse (KeptOpt.ite (KeptOpt.some (kept_stateOf h _ (kept_execBudgetCommit h _ _))) (KeptOpt.none _)) (KeptOpt.orElse (KeptOpt.map fun _ => (kept_stateOf h _ (kept_execAskAnswer h _ _ _))) (KeptOpt.orElse (KeptOpt.map fun _ => (kept_portCmdWrite h _ _ _)) (KeptOpt.orElse (KeptOpt.ite (KeptOpt.some (kept_stateOf h _ (kept_execHostRun h _ _))) (KeptOpt.none _)) (KeptOpt.orElse (KeptOpt.ite (KeptOpt.some (kept_stateOf h _ (kept_execMbxPop h _ _))) (KeptOpt.none _)) (KeptOpt.orElse (KeptOpt.ite (KeptOpt.some (kept_stateOf h _ (kept_execTxGo h _ _))) (KeptOpt.none _)) (KeptOpt.orElse (KeptOpt.map fun _ => (kept_command h _ _ _ _ (fun _ h100 => (kept_when (kept_when h100 _ _ (fun _ h101 => (kept_pipeGo h101 _ _))) _ _ (fun _ h102 => (kept_pipeAbort h102 _)))))) (KeptOpt.orElse (KeptOpt.map fun _ => (kept_command h _ _ _ _ (fun _ h103 => (kept_when (kept_when h103 _ _ (fun _ h104 => (kept_clearGate h104 _))) _ _ (fun _ h105 => (kept_discharge h105 _)))))) (KeptOpt.orElse (KeptOpt.ite (KeptOpt.some (kept_pwrWrite h _ _)) (KeptOpt.none _)) (KeptOpt.orElse (KeptOpt.ite (KeptOpt.some (kept_readyWrite h _ _)) (KeptOpt.none _)) (KeptOpt.orElse (KeptOpt.ite (KeptOpt.some (kept_command h _ _ _ _ (fun _ h106 => (kept_when h106 _ _ (fun _ h107 => (kept_wakeRelease h107)))))) (KeptOpt.none _)) (KeptOpt.orElse (KeptOpt.ite (KeptOpt.some (kept_stateOf h _ (kept_execTmpClear h _ _))) (KeptOpt.none _)) (KeptOpt.ite (KeptOpt.some (kept_command h _ _ _ _ (fun _ h108 => (Kept.ite h108 (kept_nvsCmd h108 _ _ _))))) (KeptOpt.none _))))))))))))))

theorem kept_ctrlWrite {a s : State} (h : Kept a s) (x1 : Requester) (x2 : HUnit) (x3 : Word) :
    Kept a (State.ctrlWrite s x1 x2 x3) := by
  unfold State.ctrlWrite
  exact (kept_command h _ _ _ _ (fun _ h100 => (by (try dsimp -iota only); split; exact (Kept.ite (kept_when (Kept.ite (kept_unitStarts h100 _) (Kept.ite (kept_unitStops h100 _) h100)) _ _ (fun _ h102 => (kept_sticky h102 _ _))) (kept_followCommand (kept_when (Kept.ite (kept_unitStarts h100 _) (Kept.ite (kept_unitStops h100 _) h100)) _ _ (fun _ h103 => (kept_sticky h103 _ _))) _)); exact (kept_when (Kept.ite (kept_unitStarts h100 _) (Kept.ite (kept_unitStops h100 _) h100)) _ _ (fun _ h105 => (kept_sticky h105 _ _))))))

theorem kept_writeReg {a s : State} (h : Kept a s) (x1 : Requester) (x2 : ℕ) (x3 : Word) :
    Kept a (State.writeReg s x1 x2 x3) := by
  unfold State.writeReg
  exact (Kept.ite (kept_windowWrite h _ _ _) (by split; rename_i hq; have h100 := (KeptOpt.orElse (kept_writeTop h _ _ _) (KeptOpt.orElse (kept_writeSwitch h _ _ _) (KeptOpt.orElse (kept_writeRing h _ _ _) (KeptOpt.orElse (kept_writeKey h _ _ _) (kept_writeSpool h _ _ _))))) _ hq; exact h100; exact (by split; exact (kept_command h _ _ _ _ (fun _ h103 => h103)); exact (kept_ctrlWrite h _ _ _); exact (kept_command h _ _ _ _ (fun _ h106 => h106)))))

theorem kept_writeHi {a s : State} (h : Kept a s) (x1 : Requester) (x2 : ℕ) (x3 : Word) :
    Kept a (State.writeHi s x1 x2 x3) := by
  unfold State.writeHi
  exact (Kept.ite (kept_writeReg (kept_takeLo h _ _) _ _ _) (kept_writeReg h _ _ _))

theorem kept_holdLo {a s : State} (h : Kept a s) (x1 : Requester) (x2 : ℕ) (x3 : Word) :
    Kept a (State.holdLo s x1 x2 x3) := by
  unfold State.holdLo
  exact (Kept.upd h)

theorem kept_writeLo {a s : State} (h : Kept a s) (x1 : Requester) (x2 : ℕ) (x3 : Word) :
    Kept a (State.writeLo s x1 x2 x3) := by
  unfold State.writeLo
  exact (kept_guarded h _ _ _ (fun _ h100 => (kept_holdLo h100 _ _ _)))

theorem kept_writeAny {a s : State} (h : Kept a s) (x1 : Requester) (x2 : ℕ) (x3 : Word) :
    Kept a (State.writeAny s x1 x2 x3) := by
  unfold State.writeAny
  exact (by split; exact (kept_writeLo h _ _ _); exact (kept_writeHi h _ _ _); exact (kept_writeReg h _ _ _))

end Sys2Proof.Machine
end

