-- ==== Sys2Proof/Laws/KeptViews.lean ====
section
/-! SUPPORT. What the operations of Machine/Views.lean keep. -/

namespace Sys2Proof.Machine

set_option Elab.async false
set_option linter.unusedTactic false

theorem kept_readDone {a s : State} (h : Kept a s) (x1 : ℕ) :
    Kept a (State.readDone s x1) := by
  unfold State.readDone
  exact (by (try dsimp -iota only); split; exact (Kept.upd (Kept.ite (kept_used h) h)); exact (Kept.ite (kept_used h) h))

theorem kept_latchHigh {a s : State} (h : Kept a s) (x1 : Requester) (x2 : ℕ) :
    Kept a (State.latchHigh s x1 x2) := by
  unfold State.latchHigh
  exact (Kept.upd h)

theorem kept_readReg {a s : State} (h : Kept a s) (x1 : Requester) (x2 : ℕ) :
    Kept a (State.readReg s x1 x2).1 := by
  unfold State.readReg
  exact (Kept.pair (by split; exact (kept_latchHigh (kept_readDone h _) _ _); exact (kept_readDone h _)))

end Sys2Proof.Machine
end

