-- ==== Sys2Proof/Laws/KeptPattern.lean ====
section
/-! SUPPORT. What the operations of Machine/Pattern.lean keep. -/

namespace Sys2Proof.Machine

set_option Elab.async false
set_option linter.unusedTactic false

theorem kept_mapPat {a s : State} (h : Kept a s) (x1 : Loader → Loader) :
    Kept a (State.mapPat s x1) := by
  unfold State.mapPat
  exact (Kept.upd h)

theorem kept_patEnd {a s : State} (h : Kept a s) :
    Kept a (State.patEnd s) := by
  unfold State.patEnd
  exact (kept_sets (kept_mapPat h _) _)

theorem kept_patProgress {a s : State} (h : Kept a s) (x1 : ℕ) (x2 : ℕ) :
    Kept a (State.patProgress s x1 x2) := by
  unfold State.patProgress
  exact (kept_boltProgress h _ _ _ _)

theorem kept_patStop {a s : State} (h : Kept a s) :
    Kept a (State.patStop s) := by
  unfold State.patStop
  exact (Kept.ite (Kept.ite (kept_set (kept_mapPat h _) _ _) (kept_releaseStand (kept_endLoadEarly (kept_patProgress h _ _)))) (kept_set h _ _))

theorem kept_barePlan {a s : State} (h : Kept a s) :
    Kept a (State.barePlan s) := by
  unfold State.barePlan
  exact (kept_sets (Kept.upd (kept_cancelChanges h)) _)

theorem kept_forceOff {a s : State} (h : Kept a s) (x1 : HUnit) :
    Kept a (State.forceOff s x1) := by
  unfold State.forceOff
  exact (by split; exact (kept_set (kept_portOff (Kept.ite (kept_leftUp h _ _) (kept_dropKeys h _)) _) _ _); exact (kept_sets (Kept.ite (kept_turnOff h _) h) _))

theorem kept_allOff {a s : State} (h : Kept a s) (x1 : List HUnit) :
    Kept a (State.allOff s x1) := by
  unfold State.allOff
  exact (kept_each h _ _ (fun _ _ h100 => (kept_forceOff h100 _)))

theorem kept_dropStructure {a s : State} (h : Kept a s) (x1 : List HUnit) :
    Kept a (State.dropStructure s x1) := by
  unfold State.dropStructure
  exact (Kept.ite (kept_set (kept_mapPat (kept_allOff h _) _) _ _) h)

theorem kept_loadFails {a s : State} (h : Kept a s) (x1 : Bad) (x2 : List HUnit) :
    Kept a (State.loadFails s x1 x2) := by
  unfold State.loadFails
  exact (kept_releaseStand (Kept.ite (kept_irq (kept_mapPwr (kept_refuseUnit (kept_patEnd (kept_patProgress (kept_set (kept_dropStructure h _) _ _) _ _)) _ _ _) _) _ _) (kept_refuseUnit (kept_patEnd (kept_patProgress (kept_set (kept_dropStructure h _) _ _) _ _)) _ _ _)))

theorem kept_withdraw {a s : State} (h : Kept a s) :
    Kept a (State.withdraw s) := by
  unfold State.withdraw
  exact (Kept.upd h)

theorem kept_issueWarm {a s : State} (h : Kept a s) :
    Kept a (State.issueWarm s) := by
  unfold State.issueWarm
  exact (Kept.ite h (by split; exact (kept_nvsPut h _)))

theorem kept_queueEnable {a s : State} (h : Kept a s) (x1 : ℕ) (x2 : HUnit) :
    Kept a (State.queueEnable s x1 x2) := by
  unfold State.queueEnable
  exact (kept_mapPat h _)

theorem kept_ctrlRecord {a s : State} (h : Kept a s) (x1 : ℕ) (x2 : HUnit) (x3 : Word) :
    Kept a (State.ctrlRecord s x1 x2 x3) := by
  unfold State.ctrlRecord
  exact (Kept.ite (kept_queueEnable (kept_storeWrite h _ _) _ _) (kept_mapPat (kept_storeWrite h _ _) _))

theorem kept_carryOut {a s : State} (h : Kept a s) (x1 : HUnit) :
    Kept a (State.carryOut s x1) := by
  unfold State.carryOut
  exact (kept_endCheck (kept_unitStarts (kept_set h _ _) _) _)

theorem kept_plainRecord {a s : State} (h : Kept a s) (x1 : ℕ) (x2 : Word) :
    Kept a (State.plainRecord s x1 x2) := by
  unfold State.plainRecord
  exact (by split; exact (kept_holdLo h _ _ _); exact (kept_writeReg (kept_takeLo h _ _) _ _ _); exact (Kept.ite (kept_commitNow (kept_writeReg h _ _ _) _) (kept_writeReg h _ _ _)))

theorem kept_toStep {a s : State} (h : Kept a s) (x1 : ℕ) :
    Kept a (State.toStep s x1) := by
  unfold State.toStep
  exact (kept_patProgress (kept_irq (kept_set h _ _) _ _) _ _)

theorem kept_patStep8 {a s : State} (h : Kept a s) (x1 : ℕ) :
    Kept a (State.patStep8 s x1) := by
  unfold State.patStep8
  exact (kept_pwrCommitted (kept_rejoin (kept_irq (kept_mapPat (kept_patEnd (kept_toStep (kept_sets (kept_each h _ _ (fun _ _ h100 => (kept_set h100 _ _))) _) _)) _) _ _)) _)

theorem kept_applyStructure {a s : State} (h : Kept a s) :
    Kept a (State.applyStructure s) := by
  unfold State.applyStructure
  exact (kept_each (kept_each (kept_mapPat (Kept.upd (Kept.ite (kept_debugOpen (Kept.ite (Kept.upd (kept_linkChange (kept_each h _ _ (fun _ _ h100 => (kept_altEnd h100 _))) _ _ _ _ _)) (kept_each h _ _ (fun _ _ h101 => (kept_altEnd h101 _))))) (Kept.ite (Kept.upd (kept_linkChange (kept_each h _ _ (fun _ _ h102 => (kept_altEnd h102 _))) _ _ _ _ _)) (kept_each h _ _ (fun _ _ h103 => (kept_altEnd h103 _)))))) _) _ _ (fun _ _ h104 => (kept_set h104 _ _))) _ _ (fun _ _ h105 => (kept_set h105 _ _)))

theorem kept_clearSwitch {a s : State} (h : Kept a s) :
    Kept a (State.clearSwitch s) := by
  unfold State.clearSwitch
  exact (kept_each (kept_each (kept_each (Kept.upd h) _ _ (fun _ _ h100 => (kept_mapEntry h100 _ _))) _ _ (fun _ _ h101 => (kept_set h101 _ _))) _ _ (fun _ _ h102 => (kept_set h102 _ _)))

theorem kept_setRetx {a s : State} (h : Kept a s) (x1 : List (ℕ × ℕ)) :
    Kept a (State.setRetx s x1) := by
  unfold State.setRetx
  exact (Kept.upd h)

theorem kept_beginApply {a s : State} (h : Kept a s) :
    Kept a (State.beginApply s) := by
  unfold State.beginApply
  exact (kept_mapPat (kept_setRetx (kept_applyStructure (kept_clearSwitch (kept_barePlan (kept_set (kept_mapPat (kept_allOff h _) _) _ _)))) _) _)

theorem kept_gateRecord {a s : State} (h : Kept a s) (x1 : Fin 7) (x2 : ℕ) (x3 : Word) :
    Kept a (State.gateRecord s x1 x2 x3) := by
  unfold State.gateRecord
  exact (by (try dsimp -iota only); split; exact (Kept.ite (kept_wr (Kept.ite (kept_set (Kept.upd h) _ _) h) _ _) (kept_followCommand (kept_wr (Kept.ite (kept_set (Kept.upd h) _ _) h) _ _) _)))

theorem kept_spoolStop {a s : State} (h : Kept a s) (x1 : ℕ) (x2 : HUnit) :
    Kept a (State.spoolStop s x1 x2) := by
  unfold State.spoolStop
  exact (kept_queueEnable (by split; exact (kept_unitStops (kept_set h _ _) _); exact (kept_forceOff h _)) _ _)

theorem kept_applyRecord {a s : State} (h : Kept a s) (x1 : Rec57) :
    Kept a (State.applyRecord s x1) := by
  unfold State.applyRecord
  exact (by (try dsimp -iota only); split; exact (by (try dsimp -iota only); split; exact (kept_ctrlRecord h _ _ _); exact (kept_plainRecord h _ _)); exact (Kept.ite (kept_gateRecord h _ _ _) (by (try dsimp -iota only); split; exact (kept_ctrlRecord h _ _ _); exact (kept_plainRecord h _ _))); exact (Kept.ite (by (try dsimp -iota only); split; exact (kept_ctrlRecord h _ _ _); exact (kept_plainRecord h _ _)) (Kept.ite (by (try dsimp -iota only); split; exact (kept_ctrlRecord (kept_spoolStop h _ _) _ _ _); exact (kept_plainRecord (kept_spoolStop h _ _) _ _)) (Kept.ite (kept_storeWrite h _ _) (kept_plainRecord h _ _)))))

theorem kept_writeRecords {a s : State} (h : Kept a s) (landed : Option Nat) (l : List (Nat × Nat × Nat)) :
    Kept a (s.writeRecords landed l).1 := by
  induction l generalizing s landed with
  | nil => exact h
  | cons r t ih =>
    obtain ⟨i, x, v⟩ := r
    unfold State.writeRecords
    exact Kept.ite1 (ih (kept_patProgress h _ _) _) (Kept.ite1 (Kept.ite1 h (ih (kept_applyRecord h _) _)) (ih (kept_applyRecord h _) _))

theorem kept_landFlight {a s : State} (h : Kept a s) :
    Kept a (State.landFlight s) := by
  unfold State.landFlight
  exact (Kept.upd (kept_mapPat (kept_foldl h _ _ (fun _ _ h100 => (kept_applyRecord h100 _))) _))

theorem kept_applyOn {a s : State} (h : Kept a s) (x1 : Option ℕ) :
    Kept a (State.applyOn s x1) := by
  unfold State.applyOn
  exact (by (try dsimp -iota only); split; rename_i hq; have h100 := Kept.eq hq (kept_writeRecords (Kept.ite (kept_landFlight h) h) _ _); exact (Kept.ite (kept_toStep (kept_refreshBook (kept_set (kept_mapPat h100 _) _ _) _) _) (Kept.ite (kept_set (kept_mapPat h100 _) _ _) (Kept.upd (kept_mapPat h100 _)))))

theorem kept_patStep5 {a s : State} (h : Kept a s) (x1 : Option ℕ) :
    Kept a (State.patStep5 s x1) := by
  unfold State.patStep5
  exact (Kept.ite (kept_applyOn h _) (Kept.ite (kept_mapPat (kept_deliveryRecords (Kept.ite h (kept_startOpening h _))) _) (Kept.ite h (kept_applyOn (kept_beginApply (Kept.ite h (kept_deliveryRecords (kept_ledgerRecords h)))) _))))

theorem kept_patStart {a s : State} (h : Kept a s) :
    Kept a (State.patStart s) := by
  unfold State.patStart
  exact (by (try dsimp -iota only); split; exact (kept_refuseUnit (kept_sets h _) _ _ _); exact (kept_sets (kept_mapPat (kept_sets h _) _) _))

theorem kept_patCtrl {a s : State} (h : Kept a s) (x1 : Requester) (x2 : Word) :
    Kept a (State.patCtrl s x1 x2) := by
  unfold State.patCtrl
  exact (kept_command h _ _ _ _ (fun _ h100 => (Kept.ite (kept_patStart h100) (Kept.ite (kept_patStop h100) h100))))

theorem kept_execPatResume {a s : State} (h : Kept a s) :
    KeptStep a (execPatResume s) := by
  unfold execPatResume
  exact (KeptStep.next (kept_ifBolt h _ (fun _ h100 => (Kept.ite (kept_landFlight (kept_set h100 _ _)) h100))))

theorem kept_loadAbandoned {a s : State} (h : Kept a s) :
    Kept a (State.loadAbandoned s) := by
  unfold State.loadAbandoned
  exact (kept_releaseStand (kept_sets (kept_patEnd (kept_patProgress (kept_withdraw (kept_dropStructure h _)) _ _)) _))

theorem kept_enableAll {a s : State} (h : Kept a s) (l : List (Nat × HUnit)) : Kept a (s.enableAll l).1 := by
  induction l generalizing s with
  | nil => exact h
  | cons p t ih =>
    obtain ⟨i, u⟩ := p
    unfold State.enableAll
    exact Kept.ite1 h (Kept.ite1 (kept_carryOut h _) (ih (kept_carryOut h _)))

theorem kept_patStep6 {a s : State} (h : Kept a s) :
    Kept a (State.patStep6 s) := by
  unfold State.patStep6
  exact (by (try dsimp -iota only); split; rename_i hq; have h100 := Kept.eq hq (kept_enableAll h _); exact (Kept.ite (kept_issueWarm (kept_toStep h100 _)) (kept_set (kept_mapPat h100 _) _ _)); rename_i hq; have h101 := Kept.eq hq (kept_enableAll h _); exact (kept_loadFails (kept_sets h101 _) _ _))

theorem kept_issueCommit {a s : State} (h : Kept a s) :
    Kept a (State.issueCommit s) := by
  unfold State.issueCommit
  exact (Kept.ite h (by split; exact (kept_nvsPut (Kept.ite (kept_nvsPut h _) h) _)))

theorem kept_patEarly {a s : State} (h : Kept a s) (x1 : Bool) :
    Kept a (State.patEarly s x1) := by
  unfold State.patEarly
  exact (Kept.ite (kept_loadFails h _ _) (by split; exact (by split; exact (kept_loadFails h _ _); exact (kept_toStep (kept_mapPat h _) _)); exact (by split; exact (kept_loadFails h _ _); exact (kept_toStep (kept_mapPat h _) _)); exact (by split; exact (kept_loadFails h _ _); exact (Kept.ite (kept_toStep (kept_mapPat h _) _) (kept_irq (kept_sets (kept_patEnd (kept_toStep (kept_mapPat h _) _)) _) _ _))); exact (kept_toStep (kept_extendMr h _ _) _)))

theorem kept_patNext {a s : State} (h : Kept a s) (x1 : ℕ) (x2 : Bool) (x3 : Option ℕ) :
    Kept a (State.patNext s x1 x2 x3) := by
  unfold State.patNext
  exact (Kept.ite h (Kept.ite (kept_loadAbandoned h) (Kept.ite h (by split; exact (kept_patStep5 h _); exact (kept_patStep6 h); exact (Kept.ite h (Kept.ite (kept_set h _ _) (kept_issueCommit (kept_toStep h _)))); exact (Kept.ite h (kept_patStep8 h _)); exact (kept_patEarly h _)))))

theorem kept_execPatStepComplete {a s : State} (h : Kept a s) (x0 : ℕ) (x1 : StepReport) :
    KeptStep a (execPatStepComplete x0 x1 s) := by
  unfold execPatStepComplete
  exact (KeptStep.next (kept_ifBolt h _ (fun _ h100 => (kept_patNext h100 _ _ _))))

theorem kept_execPatLoadStart {a s : State} (h : Kept a s) (x0 : Requester) (x1 : Word) :
    KeptStep a (execPatLoadStart x0 x1 s) := by
  unfold execPatLoadStart
  exact (KeptStep.next (kept_patCtrl h _ _))

theorem kept_execPatAbandon {a s : State} (h : Kept a s) (x0 : Requester) (x1 : Word) :
    KeptStep a (execPatAbandon x0 x1 s) := by
  unfold execPatAbandon
  exact (KeptStep.next (kept_patCtrl h _ _))

end Sys2Proof.Machine
end

