-- ==== Sys2Proof/Laws/KeptBoot.lean ====
section
/-! SUPPORT. What the operations of Machine/Boot.lean keep. -/

namespace Sys2Proof.Machine

set_option Elab.async false
set_option linter.unusedTactic false

theorem kept_bootStage {a s : State} (h : Kept a s) (x1 : ℕ) :
    Kept a (State.bootStage s x1) := by
  unfold State.bootStage
  exact (kept_set h _ _)

theorem kept_bootHalt {a s : State} (h : Kept a s) (x1 : ℕ) :
    Kept a (State.bootHalt s x1) := by
  unfold State.bootHalt
  exact (Kept.upd (kept_bootStage (kept_set (kept_boltFault h _ _ _ _ _) _ _) _))

theorem kept_bootWarm {a s : State} (h : Kept a s) :
    Kept a (State.bootWarm s) := by
  unfold State.bootWarm
  exact (Kept.ite (Kept.ite (kept_mapPwr (kept_patCtrl h _ _) _) (kept_patCtrl h _ _)) h)

theorem kept_bootJump {a s : State} (h : Kept a s) (x1 : List Byte) :
    Kept a (State.bootJump s x1) := by
  unfold State.bootJump
  exact (kept_bootWarm (kept_emit (kept_bootStage (kept_sets (kept_extendMr (kept_bootStage h _) _ _) _) _) _))

theorem kept_bootFlash {a s : State} (h : Kept a s) (x1 : Bool) (x2 : Bool) :
    Kept a (State.bootFlash s x1 x2) := by
  unfold State.bootFlash
  exact (by (try dsimp -iota only); split; exact (kept_bootJump (kept_sramPut (kept_bootStage h _) _ _) _); exact (by (try dsimp -iota only); split; exact (kept_bootJump (kept_sramPut (kept_bootStage (kept_set (Kept.ite h (kept_bootStage h _)) _ _) _) _ _) _); exact (kept_bootHalt (Kept.ite (kept_set (Kept.ite h (kept_bootStage h _)) _ _) (kept_bootStage (kept_set (Kept.ite h (kept_bootStage h _)) _ _) _)) _)))

theorem kept_bootOffer {a s : State} (h : Kept a s) (x1 : ℕ) :
    Kept a (State.bootOffer s x1) := by
  unfold State.bootOffer
  exact (Kept.ite (kept_bootHalt h _) (kept_handOver (Kept.ite (Kept.upd (kept_set h _ _)) h) _))

theorem kept_bootRun {a s : State} (h : Kept a s) (x1 : Bool) (x2 : Bool) :
    Kept a (State.bootRun s x1 x2) := by
  unfold State.bootRun
  exact (Kept.ite (kept_bootHalt (Kept.ite h (kept_carryOut h _)) _) (by (try dsimp -iota only); split; exact (kept_bootFlash (kept_bootStage (Kept.ite h (kept_carryOut h _)) _) _ _); exact (kept_bootHalt (kept_bootStage (Kept.ite h (kept_carryOut h _)) _) _); exact (kept_bootOffer (kept_bootStage (Kept.ite h (kept_carryOut h _)) _) _)))

theorem kept_execBootRom {a s : State} (h : Kept a s) (x0 : Bool) (x1 : Bool) :
    KeptStep a (execBootRom x0 x1 s) := by
  unfold execBootRom
  exact (KeptStep.next (Kept.ite (kept_bootRun h _ _) h))

theorem kept_execBootImageValidate {a s : State} (h : Kept a s) :
    KeptStep a (execBootImageValidate s) := by
  unfold execBootImageValidate
  exact (KeptStep.next (Kept.ite (by split; exact (kept_bootJump (kept_bootStage h _) _); exact (kept_handOver (kept_sets (kept_bootStage h _) _) _)) h))

end Sys2Proof.Machine
end

