-- ==== Sys2Proof/Laws/KeptBus.lean ====
section
/-! SUPPORT. What the operations of Machine/Bus.lean keep. -/

namespace Sys2Proof.Machine

set_option Elab.async false
set_option linter.unusedTactic false

theorem kept_execRegRdFlit {a s : State} (h : Kept a s) (x0 : FlitBody) :
    KeptStep a (execRegRdFlit x0 s) := by
  unfold execRegRdFlit
  exact (KeptStep.next (kept_flitRx h _ _ _ _ (fun _ h100 => (Kept.ite (by split; rename_i hq; have h101 := Kept.eq hq (kept_readReg h100 _ _); exact (kept_sendFlit h101 _ _ _ _)) (kept_sendFlit h100 _ _ _ _)))))

theorem kept_execTokenRelease {a s : State} (h : Kept a s) (x0 : Requester) (x1 : Fin 4) :
    KeptStep a (execTokenRelease x0 x1 s) := by
  unfold execTokenRelease
  exact (KeptStep.next (kept_tokenWrite h _ _))

theorem kept_outOfMap {a s : State} (h : Kept a s) (x1 : Requester) :
    Kept a (State.outOfMap s x1) := by
  unfold State.outOfMap
  exact (kept_answer (kept_sticky h _ _) _ _ _)

theorem kept_plicWrite {a s : State} (h : Kept a s) (x1 : ℕ) (x2 : ℕ) :
    Kept a (State.plicWrite s x1 x2) := by
  unfold State.plicWrite
  exact (Kept.ite (kept_refreshInts (Kept.upd h)) (Kept.ite (kept_refreshInts (Kept.upd h)) (Kept.ite (kept_refreshInts (Kept.upd h)) (Kept.ite (Kept.ite (kept_refreshInts (Kept.upd h)) h) h))))

theorem kept_sendWrite {a s : State} (h : Kept a s) (x1 : Requester) (x2 : ℕ) (x3 : Word) :
    Kept a (State.sendWrite s x1 x2 x3) := by
  unfold State.sendWrite
  exact (kept_answer (Kept.upd (kept_sendFlit h _ _ _ _)) _ _ _)

theorem kept_blockWrite {a s : State} (h : Kept a s) (x1 : Requester) (x2 : ℕ) (x3 : Word) (x4 : ℕ) (x5 : Bool) :
    Kept a (State.blockWrite s x1 x2 x3 x4 x5) := by
  unfold State.blockWrite
  exact (Kept.ite (kept_turnAway h _ _ _) (Kept.ite (kept_patCtrl h _ _) (Kept.ite (kept_sendWrite h _ _ _) (kept_writeAny h _ _ _))))

theorem kept_busWrite {a s : State} (h : Kept a s) (x1 : Requester) (x2 : ℕ) (x3 : Word) (x4 : ℕ) (x5 : Bool) :
    KeptStep a (State.busWrite s x1 x2 x3 x4 x5) := by
  unfold State.busWrite
  exact (KeptStep.ite (KeptStep.next h) (by split; exact (KeptStep.ite (KeptStep.next (kept_outOfMap h _)) (KeptStep.fault _ _)); exact (KeptStep.next (kept_outOfMap h _)); exact (KeptStep.next (kept_outOfMap h _)); exact (KeptStep.next (Kept.ite (kept_outOfMap h _) (kept_answer (kept_plicWrite h _ _) _ _ _))); exact (KeptStep.next (Kept.ite (kept_answer (kept_irq h _ _) _ _ _) (kept_answer (kept_sramPut h _ _) _ _ _))); exact (KeptStep.next (kept_blockWrite h _ _ _ _ _))))

theorem kept_execLoWrite {a s : State} (h : Kept a s) (x0 : Requester) (x1 : Word) (x2 : Word) :
    KeptStep a (execLoWrite x0 x1 x2 s) := by
  unfold execLoWrite
  exact (kept_busWrite h _ _ _ _ _)

theorem kept_bar2 {a s : State} (h : Kept a s) (o : Nat) (write : Bool) (v : Word) (width : Nat) :
    Kept a (s.bar2 o write v width) := by
  unfold State.bar2
  extract_lets inTable
  have hw (bs : List Byte) : Kept a { s with bolt.msixTable := memPut s.bolt.msixTable o bs } :=
    ⟨⟨h.inv.deployed, h.inv.regs, h.inv.sram, h.inv.nvs, h.inv.usb, Memory.wf_memPut bs o h.inv.msix⟩, h.fuses, h.flash, h.pending⟩
  exact Kept.ite h (Kept.ite (kept_answer (Kept.ite (hw _) h) _ _ _) (kept_answer h _ _ _))

theorem kept_execHiWrite {a s : State} (h : Kept a s) (x0 : Requester) (x1 : Word) (x2 : Word) :
    KeptStep a (execHiWrite x0 x1 x2 s) := by
  unfold execHiWrite
  exact (kept_busWrite h _ _ _ _ _)

theorem kept_execRegRespFlit {a s : State} (h : Kept a s) (x0 : FlitBody) :
    KeptStep a (execRegRespFlit x0 s) := by
  unfold execRegRespFlit
  exact (KeptStep.next (kept_flitRx h _ _ _ _ (fun _ h100 => (by split; exact h100; exact (kept_answer (Kept.upd h100) _ _ _)))))

theorem kept_execRegWrFlit {a s : State} (h : Kept a s) (x0 : FlitBody) :
    KeptStep a (execRegWrFlit x0 s) := by
  unfold execRegWrFlit
  exact (KeptStep.next (kept_flitRx h _ _ _ _ (fun _ h100 => (Kept.ite (kept_writeAny (Kept.upd h100) _ _ _) h100))))

theorem kept_unitWrite {a s : State} (h : Kept a s) (x1 : Requester) (x2 : HUnit) (x3 : Word) :
    Kept a (State.unitWrite s x1 x2 x3) := by
  unfold State.unitWrite
  exact (by split; exact (kept_patCtrl h _ _); exact (kept_ctrlWrite h _ _ _))

theorem kept_execUnitDisable {a s : State} (h : Kept a s) (x0 : Requester) (x1 : HUnit) (x2 : Word) :
    KeptStep a (execUnitDisable x0 x1 x2 s) := by
  unfold execUnitDisable
  exact (KeptStep.next (kept_unitWrite h _ _ _))

theorem kept_execTokenRequest {a s : State} (h : Kept a s) (x0 : Requester) (x1 : Bool) (x2 : Bool) :
    KeptStep a (execTokenRequest x0 x1 x2 s) := by
  unfold execTokenRequest
  exact (KeptStep.next (kept_tokenWrite h _ _))

theorem kept_execUnitEnable {a s : State} (h : Kept a s) (x0 : Requester) (x1 : HUnit) (x2 : Word) :
    KeptStep a (execUnitEnable x0 x1 x2 s) := by
  unfold execUnitEnable
  exact (KeptStep.next (kept_unitWrite h _ _ _))

theorem kept_sendRead {a s : State} (h : Kept a s) (x1 : Requester) (x2 : ℕ) :
    Kept a (State.sendRead s x1 x2) := by
  unfold State.sendRead
  exact (Kept.upd (kept_sendFlit h _ _ _ _))

theorem kept_blockRead {a s : State} (h : Kept a s) (x1 : Requester) (x2 : ℕ) (x3 : ℕ) (x4 : Bool) :
    Kept a (State.blockRead s x1 x2 x3 x4) := by
  unfold State.blockRead
  exact (by split; exact (Kept.ite (kept_sendRead h _ _) (by split; rename_i hq; have h101 := Kept.eq hq (kept_readReg h _ _); exact (kept_answer h101 _ _ _))); exact (kept_turnAway h _ _ _))

theorem kept_plicRead {a s : State} (h : Kept a s) (x1 : ℕ) :
    Kept a (State.plicRead s x1).1 := by
  unfold State.plicRead
  exact (by (try dsimp -iota only); exact Kept.ite1 (Kept.pair h) (Kept.ite1 (Kept.pair h) (Kept.ite1 (Kept.pair h) (Kept.ite1 (Kept.pair h) (Kept.ite1 (Kept.pair (Kept.ite h (kept_refreshInts (Kept.upd h)))) (Kept.pair h))))))

theorem kept_busRead {a s : State} (h : Kept a s) (x1 : Requester) (x2 : ℕ) (x3 : ℕ) (x4 : Bool) :
    KeptStep a (State.busRead s x1 x2 x3 x4) := by
  unfold State.busRead
  exact (KeptStep.ite (KeptStep.next h) (by split; exact (KeptStep.next (Kept.ite (kept_outOfMap h _) (kept_answer (kept_used h) _ _ _))); exact (KeptStep.next (kept_answer (kept_used h) _ _ _)); exact (KeptStep.next (kept_outOfMap h _)); exact (KeptStep.next (Kept.ite (kept_outOfMap h _) (by split; rename_i hq; have h104 := Kept.eq hq (kept_plicRead h _); exact (kept_answer h104 _ _ _)))); exact (KeptStep.next (kept_answer h _ _ _)); exact (KeptStep.next (kept_blockRead h _ _ _ _))))

theorem kept_execLoRead {a s : State} (h : Kept a s) (x0 : Requester) (x1 : ReadAt) :
    KeptStep a (execLoRead x0 x1 s) := by
  unfold execLoRead
  exact (kept_busRead h _ _ _ _)

theorem kept_execSpiWrite {a s : State} (h : Kept a s) (x0 : Word) (x1 : Word) (x2 : Bool) :
    KeptStep a (execSpiWrite x0 x1 x2 s) := by
  unfold execSpiWrite
  exact (kept_busWrite h _ _ _ _ _)

theorem kept_execHostHbLapse {a s : State} (h : Kept a s) (x0 : ℕ) :
    KeptStep a (execHostHbLapse x0 s) := by
  unfold execHostHbLapse
  exact (KeptStep.next (kept_ifBolt h _ (fun _ h100 => (Kept.ite (kept_tokenHome h100 _) h100))))

theorem kept_execSpiRead {a s : State} (h : Kept a s) (x0 : ReadAt) :
    KeptStep a (execSpiRead x0 s) := by
  unfold execSpiRead
  exact (kept_busRead h _ _ _ _)

theorem kept_execRegWrite {a s : State} (h : Kept a s) (x0 : Requester) (x1 : Word) (x2 : Word) (x3 : ℕ) (x4 : Bool) :
    KeptStep a (execRegWrite x0 x1 x2 x3 x4 s) := by
  unfold execRegWrite
  exact (kept_busWrite h _ _ _ _ _)

theorem kept_execHostHbBeat {a s : State} (h : Kept a s) (x0 : Requester) (x1 : BitVec 16) :
    KeptStep a (execHostHbBeat x0 x1 s) := by
  unfold execHostHbBeat
  exact (KeptStep.next (kept_command h _ _ _ _ (fun _ h100 => h100)))

theorem kept_execTokenDeny {a s : State} (h : Kept a s) (x0 : Requester) :
    KeptStep a (execTokenDeny x0 s) := by
  unfold execTokenDeny
  exact (KeptStep.next (kept_tokenWrite h _ _))

theorem kept_execHartRelease {a s : State} (h : Kept a s) (x0 : Requester) (x1 : Word) :
    KeptStep a (execHartRelease x0 x1 s) := by
  unfold execHartRelease
  exact (KeptStep.next (kept_hartWrite h _ _))

theorem kept_execPcieBarAccess {a s : State} (h : Kept a s) (x0 : BarAt) (x1 : Bool) (x2 : Word) (x3 : ℕ) (x4 : Bool) :
    KeptStep a (execPcieBarAccess x0 x1 x2 x3 x4 s) := by
  unfold execPcieBarAccess
  exact (KeptStep.ite (KeptStep.next (kept_bar2 h _ _ _ _)) (KeptStep.ite (kept_busWrite h _ _ _ _ _) (kept_busRead h _ _ _ _)))

end Sys2Proof.Machine
end

