-- ==== Sys2Proof/Laws/KeptCycle.lean ====
section
/-! SUPPORT. What the operations of Machine/Cycle.lean keep. -/

namespace Sys2Proof.Machine

set_option Elab.async false
set_option linter.unusedTactic false

theorem kept_peripheralLevels {a s : State} (h : Kept a s) :
    Kept a (State.peripheralLevels s) := by
  unfold State.peripheralLevels
  exact (kept_refreshInts (kept_used (Kept.upd h)))

theorem kept_planCycle {a s : State} (h : Kept a s) :
    Kept a (State.planCycle s) := by
  unfold State.planCycle
  exact (kept_altResend (kept_sewSwap (kept_commitsAtCycle h)))

theorem kept_clockCycle {a s : State} (h : Kept a s) :
    Kept a (State.clockCycle s) := by
  unfold State.clockCycle
  exact (Kept.upd (kept_timeCycle (kept_servo h)))

theorem kept_clockShown {a s : State} (h : Kept a s) :
    Kept a (State.clockShown s) := by
  unfold State.clockShown
  exact (Kept.ite (kept_emit (Kept.ite (kept_irq h _ _) h) _) (Kept.ite (kept_irq h _ _) h))

theorem kept_nextCycle {a s : State} (h : Kept a s) :
    Kept a (State.nextCycle s) := by
  unfold State.nextCycle
  exact (kept_clockShown (kept_refillAll (kept_rebuilt (Kept.upd (kept_addTicks h _))) _))

theorem kept_stallCycle {a s : State} (h : Kept a s) :
    Kept a (State.stallCycle s) := by
  unfold State.stallCycle
  exact (kept_each h _ _ (fun _ _ h100 => (kept_setPort h100 _ _)))

theorem kept_residueCycle {a s : State} (h : Kept a s) :
    Kept a (State.residueCycle s) := by
  unfold State.residueCycle
  exact (Kept.upd h)

theorem kept_dumpCycle {a s : State} (h : Kept a s) :
    Kept a (State.dumpCycle s) := by
  unfold State.dumpCycle
  exact (Kept.ite (kept_dumpSnapshot h _) h)

theorem kept_listCycle {a s : State} (h : Kept a s) :
    Kept a (State.listCycle s) := by
  unfold State.listCycle
  exact (kept_each h _ _ (fun _ _ h100 => (kept_buildPort h100 _)))

theorem kept_adapterCycle {a s : State} (h : Kept a s) :
    Kept a (State.adapterCycle s) := by
  unfold State.adapterCycle
  exact (kept_usbCycle (kept_dpeCycle (kept_pcbCycle (kept_stcCycle (kept_audCycle h)))))

theorem kept_ringWork {a s : State} (h : Kept a s) :
    Kept a (State.ringWork s) := by
  unfold State.ringWork
  exact (kept_sendTime (kept_sendTime (kept_ringCycle h) _) _)

theorem kept_beginCycle {a s : State} (h : Kept a s) :
    Kept a (State.beginCycle s) := by
  unfold State.beginCycle
  exact (kept_ntCycle (kept_dumpCycle (kept_listCycle (kept_adapterCycle (kept_tunnelCycle (kept_ringWork (kept_sampleAll (kept_stallCycle (kept_residueCycle (kept_planCycle (kept_clockCycle (kept_nextCycle h))))))))))))

theorem kept_execCycleBoundary {a s : State} (h : Kept a s) :
    KeptStep a (execCycleBoundary s) := by
  unfold execCycleBoundary
  exact (KeptStep.next (kept_ifBolt h _ (fun _ h100 => (kept_peripheralLevels (Kept.ite (kept_beginCycle h100) h100)))))

end Sys2Proof.Machine
end

