-- ==== Sys2Proof/Laws/Regs.lean ====
section
/-! SUPPORT. Registers and fields read after they were written, and what the shared operations leave of them. -/

namespace Sys2Proof.Machine

theorem getBits_setBits_same (w : Word) (l n v : Nat) (h : l + n ≤ 32) : getBits (setBits w l n v) l n = v % 2 ^ n := by
  have e : (setBits w l n v).extractLsb' l n = BitVec.ofNat n v := by
    apply BitVec.eq_of_getLsbD_eq
    intro i hi
    simp only [setBits, BitVec.getLsbD_extractLsb', BitVec.getLsbD_or, BitVec.getLsbD_and, BitVec.getLsbD_not,
      BitVec.getLsbD_shiftLeft, BitVec.getLsbD_setWidth, BitVec.getLsbD_allOnes]
    have h1 : l + i < 32 := by omega
    have h2 : ¬ l + i < l := by omega
    have h3 : l + i - l = i := by omega
    simp only [hi, h1, h2, h3, decide_true, decide_false, Bool.not_false, Bool.true_and, Bool.and_false, Bool.false_or,
      Bool.not_true, show i < 32 by omega]
  unfold getBits
  rw [e, BitVec.toNat_ofNat]

theorem getBits_setBits_other (w : Word) (l n v l' n' : Nat) (h : l' + n' ≤ l ∨ l + n ≤ l') :
    getBits (setBits w l n v) l' n' = getBits w l' n' := by
  unfold getBits
  congr 1
  apply BitVec.eq_of_getLsbD_eq
  intro i hi
  simp only [setBits, BitVec.getLsbD_extractLsb', BitVec.getLsbD_or, BitVec.getLsbD_and, BitVec.getLsbD_not,
    BitVec.getLsbD_shiftLeft, BitVec.getLsbD_setWidth, BitVec.getLsbD_allOnes]
  by_cases c : l' + i < 32
  · rcases h with h | h
    · have : l' + i < l := by omega
      simp [c, this, hi]
    · have h1 : ¬ l' + i < l := by omega
      have h2 : ¬ l' + i - l < n := by omega
      have h3 : (BitVec.ofNat n v).getLsbD (l' + i - l) = false := BitVec.getLsbD_of_ge _ _ (by omega)
      simp [c, h1, h2, hi, h3]
  · simp [BitVec.getLsbD_of_ge, Nat.le_of_not_lt c]

@[simp] theorem rd_wr_same (s : State) (a : Nat) (w : Word) : (s.wr a w).rd a = w := getKey_putKey_same _ _ _ _

@[simp] theorem rd_wr_other (s : State) {a b : Nat} (h : a ≠ b) (w : Word) : (s.wr a w).rd b = s.rd b :=
  getKey_putKey_other _ _ h _ _

/-- A field reads back what was stored in it, modulo its width. -/
theorem get_set_same (s : State) (f : Fld) (v : Nat) (h : f.lsb + f.width ≤ 32) : (s.set f v).get f = v % 2 ^ f.width := by
  unfold State.get State.set
  rw [rd_wr_same, getBits_setBits_same _ _ _ _ h]

/-- A field of another register, or beside it in the same one, is left alone. -/
theorem get_set_other (s : State) (f g : Fld) (v : Nat) (h : f.reg ≠ g.reg ∨ g.lsb + g.width ≤ f.lsb ∨ f.lsb + f.width ≤ g.lsb) :
    (s.set f v).get g = s.get g := by
  unfold State.get State.set
  by_cases e : f.reg = g.reg
  · rw [← e, rd_wr_same]
    exact getBits_setBits_other _ _ _ _ _ _ (h.resolve_left fun k => k e)
  · rw [rd_wr_other _ e]

theorem rd_set_other (s : State) (f : Fld) (v : Nat) {a : Nat} (h : f.reg ≠ a) : (s.set f v).rd a = s.rd a :=
  rd_wr_other _ h _

theorem rd_congr {s t : State} (h : t.regs = s.regs) (a : Nat) : t.rd a = s.rd a := by
  unfold State.rd; rw [h]

theorem rd_each {α : Type} (s : State) (l : List α) (f : α → State → State) (a : Nat) (hf : ∀ x s, (f x s).rd a = s.rd a) :
    (s.each l f).rd a = s.rd a := by
  unfold State.each
  induction l generalizing s with
  | nil => rfl
  | cons x l ih => rw [List.foldl_cons, ih, hf]

@[simp] theorem rd_emit (s : State) (o : Output) (a : Nat) : (s.emit o).rd a = s.rd a := rd_congr (s := s) rfl a

@[simp] theorem rd_driveLines (s : State) (a : Nat) : s.driveLines.rd a = s.rd a := by
  unfold State.driveLines
  dsimp -iota only
  rw [rd_each _ _ _ _ fun _ _ => rd_emit _ _ _]
  exact rd_congr rfl a

@[simp] theorem rd_refreshInts (s : State) (a : Nat) : s.refreshInts.rd a = s.rd a := by
  unfold State.refreshInts
  dsimp -iota only
  split
  · rw [rd_each _ _ _ _ fun _ _ => rd_emit _ _ _, rd_driveLines]
    exact rd_congr rfl a
  · rw [rd_driveLines]
    exact rd_congr rfl a

@[simp] theorem rd_setSeamEnd (s : State) (d : Die) (e : SeamEnd) (a : Nat) : (s.setSeamEnd d e).rd a = s.rd a := by
  cases d <;> exact rd_congr (s := s) rfl a

@[simp] theorem rd_pump (d : Die) (n : Nat) (s : State) (a : Nat) : (s.pump d n).rd a = s.rd a := by
  induction n generalizing s with
  | zero => rfl
  | succ n ih =>
    unfold State.pump
    split
    · rfl
    · rw [ih, rd_emit, rd_setSeamEnd]

@[simp] theorem rd_sendFlit (s : State) (d : Die) (t c x a : Nat) : (s.sendFlit d t c x).rd a = s.rd a := by
  unfold State.sendFlit
  split
  · rfl
  · rw [rd_pump, rd_setSeamEnd]

@[simp] theorem rd_intChanged (s : State) (b a : Nat) : (s.intChanged b).rd a = s.rd a := by
  unfold State.intChanged State.sendEvent
  split
  · exact rd_refreshInts s a
  · exact rd_sendFlit _ _ _ _ _ a

@[simp] theorem rd_answer (s : State) (w : Requester) (st : Access) (x : Word) (a : Nat) : (s.answer w st x).rd a = s.rd a := by
  unfold State.answer
  split <;> rfl

/-- Raising a cause changes INT_STATUS of its block and no other register. -/
theorem rd_raise (s : State) (b i : Nat) {a : Nat} (h : a ≠ b + 8) : (s.raise b i).rd a = s.rd a := by
  unfold State.raise State.sendEvent
  dsimp -iota only
  split
  · rw [rd_refreshInts, rd_wr_other _ (Ne.symm h)]
  · rw [rd_sendFlit, rd_wr_other _ (Ne.symm h)]

theorem rd_raise_same (s : State) (b i : Nat) :
    (s.raise b i).rd (b + 8) = BitVec.ofNat 32 (setBit (s.rd (b + 8)).toNat i) := by
  unfold State.raise State.sendEvent
  dsimp -iota only
  split
  · rw [rd_refreshInts, rd_wr_same]
  · rw [rd_sendFlit, rd_wr_same]

theorem rd_addCounter (s : State) (id n : Nat) {a : Nat} (h : a ≠ R.CNT_WRAP) : (s.addCounter id n).rd a = s.rd a := by
  unfold State.addCounter State.when
  dsimp -iota only
  split
  · exact rd_set_other (s.setCounter id (s.counter id + n)) F.CNT_WRAP_GROUPS _ (Ne.symm h)
  · refine rd_congr ?_ a; rfl

theorem rd_countEvent (s : State) (ev : Nat) {a : Nat} (h : a ≠ R.CNT_WRAP) (k : a ≠ 0x40E00008) :
    (s.countEvent ev).rd a = s.rd a := by
  unfold State.countEvent
  dsimp -iota only
  have e (s : State) (l : List Nat) : (s.each l fun j s => s.addCounter (3648 + j) 1).rd a = s.rd a :=
    rd_each _ _ _ _ fun _ _ => rd_addCounter _ _ _ h
  split
  · rw [e, rd_raise _ _ _ k, e]
  · exact e _ _

/-- An interrupt cause touches INT_STATUS of its block, and where event counters wrap CNT_WRAP and CNT_INT_STATUS; nothing
else. -/
theorem rd_irq (s : State) (b i : Nat) {a : Nat} (h : a ≠ b + 8) (w : a ≠ R.CNT_WRAP) (k : a ≠ 0x40E00008) :
    (s.irq b i).rd a = s.rd a := by
  unfold State.irq
  dsimp -iota only
  split
  · rw [rd_countEvent _ _ w k, rd_raise _ _ _ h]
  · exact rd_raise _ _ _ h

theorem get_irq (s : State) (b i : Nat) (f : Fld) (h : f.reg ≠ b + 8) (w : f.reg ≠ R.CNT_WRAP) (k : f.reg ≠ 0x40E00008) :
    (s.irq b i).get f = s.get f := by
  unfold State.get; rw [rd_irq s b i h w k]

end Sys2Proof.Machine
end

