-- ==== Sys2Proof/Laws/State.lean ====
section
/-! SUPPORT. What each plain update leaves of the state's fields, so that no proof unfolds a record update. -/

namespace Sys2Proof.Machine

@[simp] theorem wr_bolt (s : State) (a : Nat) (w : Word) : (s.wr a w).bolt = s.bolt := rfl
@[simp] theorem wr_spool (s : State) (a : Nat) (w : Word) : (s.wr a w).spool = s.spool := rfl
@[simp] theorem wr_flash (s : State) (a : Nat) (w : Word) : (s.wr a w).flash = s.flash := rfl
@[simp] theorem wr_fuses (s : State) (a : Nat) (w : Word) : (s.wr a w).fuses = s.fuses := rfl
@[simp] theorem wr_free (s : State) (a : Nat) (w : Word) : (s.wr a w).free = s.free := rfl
@[simp] theorem wr_out (s : State) (a : Nat) (w : Word) : (s.wr a w).out = s.out := rfl
@[simp] theorem wr_pending (s : State) (a : Nat) (w : Word) : (s.wr a w).pending = s.pending := rfl

@[simp] theorem set_bolt (s : State) (f : Fld) (v : Nat) : (s.set f v).bolt = s.bolt := rfl
@[simp] theorem set_spool (s : State) (f : Fld) (v : Nat) : (s.set f v).spool = s.spool := rfl
@[simp] theorem set_flash (s : State) (f : Fld) (v : Nat) : (s.set f v).flash = s.flash := rfl
@[simp] theorem set_fuses (s : State) (f : Fld) (v : Nat) : (s.set f v).fuses = s.fuses := rfl
@[simp] theorem set_free (s : State) (f : Fld) (v : Nat) : (s.set f v).free = s.free := rfl
@[simp] theorem set_out (s : State) (f : Fld) (v : Nat) : (s.set f v).out = s.out := rfl
@[simp] theorem set_pending (s : State) (f : Fld) (v : Nat) : (s.set f v).pending = s.pending := rfl

@[simp] theorem setB_bolt (s : State) (f : Fld) (i : Nat) : (s.setB f i).bolt = s.bolt := rfl
@[simp] theorem setB_spool (s : State) (f : Fld) (i : Nat) : (s.setB f i).spool = s.spool := rfl
@[simp] theorem setB_flash (s : State) (f : Fld) (i : Nat) : (s.setB f i).flash = s.flash := rfl
@[simp] theorem setB_fuses (s : State) (f : Fld) (i : Nat) : (s.setB f i).fuses = s.fuses := rfl
@[simp] theorem setB_free (s : State) (f : Fld) (i : Nat) : (s.setB f i).free = s.free := rfl
@[simp] theorem setB_out (s : State) (f : Fld) (i : Nat) : (s.setB f i).out = s.out := rfl
@[simp] theorem setB_pending (s : State) (f : Fld) (i : Nat) : (s.setB f i).pending = s.pending := rfl

@[simp] theorem clrB_bolt (s : State) (f : Fld) (i : Nat) : (s.clrB f i).bolt = s.bolt := rfl
@[simp] theorem clrB_spool (s : State) (f : Fld) (i : Nat) : (s.clrB f i).spool = s.spool := rfl
@[simp] theorem clrB_flash (s : State) (f : Fld) (i : Nat) : (s.clrB f i).flash = s.flash := rfl
@[simp] theorem clrB_fuses (s : State) (f : Fld) (i : Nat) : (s.clrB f i).fuses = s.fuses := rfl
@[simp] theorem clrB_free (s : State) (f : Fld) (i : Nat) : (s.clrB f i).free = s.free := rfl
@[simp] theorem clrB_out (s : State) (f : Fld) (i : Nat) : (s.clrB f i).out = s.out := rfl
@[simp] theorem clrB_pending (s : State) (f : Fld) (i : Nat) : (s.clrB f i).pending = s.pending := rfl

@[simp] theorem sat_bolt (s : State) (f : Fld) (n : Nat) : (s.sat f n).bolt = s.bolt := rfl
@[simp] theorem sat_spool (s : State) (f : Fld) (n : Nat) : (s.sat f n).spool = s.spool := rfl
@[simp] theorem sat_flash (s : State) (f : Fld) (n : Nat) : (s.sat f n).flash = s.flash := rfl
@[simp] theorem sat_fuses (s : State) (f : Fld) (n : Nat) : (s.sat f n).fuses = s.fuses := rfl
@[simp] theorem sat_free (s : State) (f : Fld) (n : Nat) : (s.sat f n).free = s.free := rfl
@[simp] theorem sat_out (s : State) (f : Fld) (n : Nat) : (s.sat f n).out = s.out := rfl
@[simp] theorem sat_pending (s : State) (f : Fld) (n : Nat) : (s.sat f n).pending = s.pending := rfl

@[simp] theorem inc_bolt (s : State) (f : Fld) (n : Nat) : (s.inc f n).bolt = s.bolt := rfl
@[simp] theorem inc_spool (s : State) (f : Fld) (n : Nat) : (s.inc f n).spool = s.spool := rfl
@[simp] theorem inc_flash (s : State) (f : Fld) (n : Nat) : (s.inc f n).flash = s.flash := rfl
@[simp] theorem inc_fuses (s : State) (f : Fld) (n : Nat) : (s.inc f n).fuses = s.fuses := rfl
@[simp] theorem inc_free (s : State) (f : Fld) (n : Nat) : (s.inc f n).free = s.free := rfl
@[simp] theorem inc_out (s : State) (f : Fld) (n : Nat) : (s.inc f n).out = s.out := rfl
@[simp] theorem inc_pending (s : State) (f : Fld) (n : Nat) : (s.inc f n).pending = s.pending := rfl

@[simp] theorem emit_regs (s : State) (o : Output) : (s.emit o).regs = s.regs := rfl
@[simp] theorem emit_bolt (s : State) (o : Output) : (s.emit o).bolt = s.bolt := rfl
@[simp] theorem emit_spool (s : State) (o : Output) : (s.emit o).spool = s.spool := rfl
@[simp] theorem emit_flash (s : State) (o : Output) : (s.emit o).flash = s.flash := rfl
@[simp] theorem emit_fuses (s : State) (o : Output) : (s.emit o).fuses = s.fuses := rfl
@[simp] theorem emit_free (s : State) (o : Output) : (s.emit o).free = s.free := rfl
@[simp] theorem emit_pending (s : State) (o : Output) : (s.emit o).pending = s.pending := rfl

@[simp] theorem used_regs (s : State) : (s.used).regs = s.regs := rfl
@[simp] theorem used_bolt (s : State) : (s.used).bolt = s.bolt := rfl
@[simp] theorem used_spool (s : State) : (s.used).spool = s.spool := rfl
@[simp] theorem used_flash (s : State) : (s.used).flash = s.flash := rfl
@[simp] theorem used_fuses (s : State) : (s.used).fuses = s.fuses := rfl
@[simp] theorem used_out (s : State) : (s.used).out = s.out := rfl
@[simp] theorem used_pending (s : State) : (s.used).pending = s.pending := rfl

@[simp] theorem nvsPut_regs (s : State) (op : NvsOp) : (s.nvsPut op).regs = s.regs := rfl
@[simp] theorem nvsPut_bolt (s : State) (op : NvsOp) : (s.nvsPut op).bolt = s.bolt := rfl
@[simp] theorem nvsPut_flash (s : State) (op : NvsOp) : (s.nvsPut op).flash = s.flash := rfl
@[simp] theorem nvsPut_fuses (s : State) (op : NvsOp) : (s.nvsPut op).fuses = s.fuses := rfl
@[simp] theorem nvsPut_free (s : State) (op : NvsOp) : (s.nvsPut op).free = s.free := rfl
@[simp] theorem nvsPut_out (s : State) (op : NvsOp) : (s.nvsPut op).out = s.out := rfl
@[simp] theorem nvsPut_pending (s : State) (op : NvsOp) : (s.nvsPut op).pending = s.pending := rfl

@[simp] theorem sramPut_regs (s : State) (o : Nat) (bs : List Byte) : (s.sramPut o bs).regs = s.regs := rfl
@[simp] theorem sramPut_spool (s : State) (o : Nat) (bs : List Byte) : (s.sramPut o bs).spool = s.spool := rfl
@[simp] theorem sramPut_flash (s : State) (o : Nat) (bs : List Byte) : (s.sramPut o bs).flash = s.flash := rfl
@[simp] theorem sramPut_fuses (s : State) (o : Nat) (bs : List Byte) : (s.sramPut o bs).fuses = s.fuses := rfl
@[simp] theorem sramPut_free (s : State) (o : Nat) (bs : List Byte) : (s.sramPut o bs).free = s.free := rfl
@[simp] theorem sramPut_out (s : State) (o : Nat) (bs : List Byte) : (s.sramPut o bs).out = s.out := rfl
@[simp] theorem sramPut_pending (s : State) (o : Nat) (bs : List Byte) : (s.sramPut o bs).pending = s.pending := rfl

@[simp] theorem setCounter_regs (s : State) (i v : Nat) : (s.setCounter i v).regs = s.regs := rfl
@[simp] theorem setCounter_spool (s : State) (i v : Nat) : (s.setCounter i v).spool = s.spool := rfl
@[simp] theorem setCounter_flash (s : State) (i v : Nat) : (s.setCounter i v).flash = s.flash := rfl
@[simp] theorem setCounter_fuses (s : State) (i v : Nat) : (s.setCounter i v).fuses = s.fuses := rfl
@[simp] theorem setCounter_free (s : State) (i v : Nat) : (s.setCounter i v).free = s.free := rfl
@[simp] theorem setCounter_out (s : State) (i v : Nat) : (s.setCounter i v).out = s.out := rfl
@[simp] theorem setCounter_pending (s : State) (i v : Nat) : (s.setCounter i v).pending = s.pending := rfl

@[simp] theorem emit_out (s : State) (o : Output) : (s.emit o).out = o :: s.out := rfl
@[simp] theorem used_free (s : State) : s.used.free = s.free + 1 := rfl
@[simp] theorem nvsPut_queue (s : State) (op : NvsOp) : (s.nvsPut op).spool.nvsQueue = s.spool.nvsQueue ++ [op] := rfl
@[simp] theorem sramPut_sram (s : State) (o : Nat) (bs : List Byte) : (s.sramPut o bs).bolt.sram = memPut s.bolt.sram o bs := rfl

@[simp] theorem sets_bolt (s : State) (l : List (Fld × Nat)) : (s.sets l).bolt = s.bolt := by
  induction l generalizing s with
  | nil => rfl
  | cons p l ih => exact (ih _).trans rfl

@[simp] theorem sets_spool (s : State) (l : List (Fld × Nat)) : (s.sets l).spool = s.spool := by
  induction l generalizing s with
  | nil => rfl
  | cons p l ih => exact (ih _).trans rfl

@[simp] theorem sets_flash (s : State) (l : List (Fld × Nat)) : (s.sets l).flash = s.flash := by
  induction l generalizing s with
  | nil => rfl
  | cons p l ih => exact (ih _).trans rfl

@[simp] theorem sets_fuses (s : State) (l : List (Fld × Nat)) : (s.sets l).fuses = s.fuses := by
  induction l generalizing s with
  | nil => rfl
  | cons p l ih => exact (ih _).trans rfl

@[simp] theorem sets_free (s : State) (l : List (Fld × Nat)) : (s.sets l).free = s.free := by
  induction l generalizing s with
  | nil => rfl
  | cons p l ih => exact (ih _).trans rfl

@[simp] theorem sets_out (s : State) (l : List (Fld × Nat)) : (s.sets l).out = s.out := by
  induction l generalizing s with
  | nil => rfl
  | cons p l ih => exact (ih _).trans rfl

@[simp] theorem sets_pending (s : State) (l : List (Fld × Nat)) : (s.sets l).pending = s.pending := by
  induction l generalizing s with
  | nil => rfl
  | cons p l ih => exact (ih _).trans rfl

end Sys2Proof.Machine
end

