-- ==== Sys2Proof/Laws/Updates.lean ====
section
/-! SUPPORT. What the updates of a unit's own state leave: the registers and every other part, so that no proof unfolds a record
update; and the parts read back. -/

namespace Sys2Proof.Machine

@[simp] theorem setPort_regs (s : State) (p : Nat) (x : PortSt) : (s.setPort p x).regs = s.regs := rfl
@[simp] theorem setPort_spool (s : State) (p : Nat) (x : PortSt) : (s.setPort p x).spool = s.spool := rfl
@[simp] theorem setPort_flash (s : State) (p : Nat) (x : PortSt) : (s.setPort p x).flash = s.flash := rfl
@[simp] theorem setPort_fuses (s : State) (p : Nat) (x : PortSt) : (s.setPort p x).fuses = s.fuses := rfl
@[simp] theorem setPort_free (s : State) (p : Nat) (x : PortSt) : (s.setPort p x).free = s.free := rfl
@[simp] theorem setPort_out (s : State) (p : Nat) (x : PortSt) : (s.setPort p x).out = s.out := rfl
@[simp] theorem setPort_pending (s : State) (p : Nat) (x : PortSt) : (s.setPort p x).pending = s.pending := rfl
@[simp] theorem setPort_rd (s : State) (p : Nat) (x : PortSt) (a : Nat) : (s.setPort p x).rd a = s.rd a := rfl
@[simp] theorem setPort_get (s : State) (p : Nat) (x : PortSt) (g : Fld) : (s.setPort p x).get g = s.get g := rfl
@[simp] theorem setPort_on (s : State) (p : Nat) (x : PortSt) (g : Fld) : (s.setPort p x).on g = s.on g := rfl
@[simp] theorem setPort_isOn (s : State) (p : Nat) (x : PortSt) (u : HUnit) : (s.setPort p x).isOn u = s.isOn u := rfl
@[simp] theorem setPort_boltUp (s : State) (p : Nat) (x : PortSt) : (s.setPort p x).boltUp = s.boltUp := rfl

@[simp] theorem setLane_regs (s : State) (l : Nat) (x : LaneSt) : (s.setLane l x).regs = s.regs := rfl
@[simp] theorem setLane_spool (s : State) (l : Nat) (x : LaneSt) : (s.setLane l x).spool = s.spool := rfl
@[simp] theorem setLane_flash (s : State) (l : Nat) (x : LaneSt) : (s.setLane l x).flash = s.flash := rfl
@[simp] theorem setLane_fuses (s : State) (l : Nat) (x : LaneSt) : (s.setLane l x).fuses = s.fuses := rfl
@[simp] theorem setLane_free (s : State) (l : Nat) (x : LaneSt) : (s.setLane l x).free = s.free := rfl
@[simp] theorem setLane_out (s : State) (l : Nat) (x : LaneSt) : (s.setLane l x).out = s.out := rfl
@[simp] theorem setLane_pending (s : State) (l : Nat) (x : LaneSt) : (s.setLane l x).pending = s.pending := rfl
@[simp] theorem setLane_rd (s : State) (l : Nat) (x : LaneSt) (a : Nat) : (s.setLane l x).rd a = s.rd a := rfl
@[simp] theorem setLane_get (s : State) (l : Nat) (x : LaneSt) (g : Fld) : (s.setLane l x).get g = s.get g := rfl
@[simp] theorem setLane_on (s : State) (l : Nat) (x : LaneSt) (g : Fld) : (s.setLane l x).on g = s.on g := rfl
@[simp] theorem setLane_isOn (s : State) (l : Nat) (x : LaneSt) (u : HUnit) : (s.setLane l x).isOn u = s.isOn u := rfl
@[simp] theorem setLane_boltUp (s : State) (l : Nat) (x : LaneSt) : (s.setLane l x).boltUp = s.boltUp := rfl

@[simp] theorem setMod_regs (s : State) (t : Nat) (x : ModSt) : (s.setMod t x).regs = s.regs := rfl
@[simp] theorem setMod_spool (s : State) (t : Nat) (x : ModSt) : (s.setMod t x).spool = s.spool := rfl
@[simp] theorem setMod_flash (s : State) (t : Nat) (x : ModSt) : (s.setMod t x).flash = s.flash := rfl
@[simp] theorem setMod_fuses (s : State) (t : Nat) (x : ModSt) : (s.setMod t x).fuses = s.fuses := rfl
@[simp] theorem setMod_free (s : State) (t : Nat) (x : ModSt) : (s.setMod t x).free = s.free := rfl
@[simp] theorem setMod_out (s : State) (t : Nat) (x : ModSt) : (s.setMod t x).out = s.out := rfl
@[simp] theorem setMod_pending (s : State) (t : Nat) (x : ModSt) : (s.setMod t x).pending = s.pending := rfl
@[simp] theorem setMod_rd (s : State) (t : Nat) (x : ModSt) (a : Nat) : (s.setMod t x).rd a = s.rd a := rfl
@[simp] theorem setMod_get (s : State) (t : Nat) (x : ModSt) (g : Fld) : (s.setMod t x).get g = s.get g := rfl
@[simp] theorem setMod_on (s : State) (t : Nat) (x : ModSt) (g : Fld) : (s.setMod t x).on g = s.on g := rfl
@[simp] theorem setMod_isOn (s : State) (t : Nat) (x : ModSt) (u : HUnit) : (s.setMod t x).isOn u = s.isOn u := rfl
@[simp] theorem setMod_boltUp (s : State) (t : Nat) (x : ModSt) : (s.setMod t x).boltUp = s.boltUp := rfl

@[simp] theorem setTrunkTime_regs (s : State) (p : Nat) (t : TrunkTime) : (s.setTrunkTime p t).regs = s.regs := rfl
@[simp] theorem setTrunkTime_spool (s : State) (p : Nat) (t : TrunkTime) : (s.setTrunkTime p t).spool = s.spool := rfl
@[simp] theorem setTrunkTime_flash (s : State) (p : Nat) (t : TrunkTime) : (s.setTrunkTime p t).flash = s.flash := rfl
@[simp] theorem setTrunkTime_fuses (s : State) (p : Nat) (t : TrunkTime) : (s.setTrunkTime p t).fuses = s.fuses := rfl
@[simp] theorem setTrunkTime_free (s : State) (p : Nat) (t : TrunkTime) : (s.setTrunkTime p t).free = s.free := rfl
@[simp] theorem setTrunkTime_out (s : State) (p : Nat) (t : TrunkTime) : (s.setTrunkTime p t).out = s.out := rfl
@[simp] theorem setTrunkTime_pending (s : State) (p : Nat) (t : TrunkTime) : (s.setTrunkTime p t).pending = s.pending := rfl
@[simp] theorem setTrunkTime_rd (s : State) (p : Nat) (t : TrunkTime) (a : Nat) : (s.setTrunkTime p t).rd a = s.rd a := rfl
@[simp] theorem setTrunkTime_get (s : State) (p : Nat) (t : TrunkTime) (g : Fld) : (s.setTrunkTime p t).get g = s.get g := rfl
@[simp] theorem setTrunkTime_on (s : State) (p : Nat) (t : TrunkTime) (g : Fld) : (s.setTrunkTime p t).on g = s.on g := rfl
@[simp] theorem setTrunkTime_isOn (s : State) (p : Nat) (t : TrunkTime) (u : HUnit) : (s.setTrunkTime p t).isOn u = s.isOn u := rfl
@[simp] theorem setTrunkTime_boltUp (s : State) (p : Nat) (t : TrunkTime) : (s.setTrunkTime p t).boltUp = s.boltUp := rfl

@[simp] theorem mapPat_regs (s : State) (f : Loader → Loader) : (s.mapPat f).regs = s.regs := rfl
@[simp] theorem mapPat_spool (s : State) (f : Loader → Loader) : (s.mapPat f).spool = s.spool := rfl
@[simp] theorem mapPat_flash (s : State) (f : Loader → Loader) : (s.mapPat f).flash = s.flash := rfl
@[simp] theorem mapPat_fuses (s : State) (f : Loader → Loader) : (s.mapPat f).fuses = s.fuses := rfl
@[simp] theorem mapPat_free (s : State) (f : Loader → Loader) : (s.mapPat f).free = s.free := rfl
@[simp] theorem mapPat_out (s : State) (f : Loader → Loader) : (s.mapPat f).out = s.out := rfl
@[simp] theorem mapPat_pending (s : State) (f : Loader → Loader) : (s.mapPat f).pending = s.pending := rfl
@[simp] theorem mapPat_rd (s : State) (f : Loader → Loader) (a : Nat) : (s.mapPat f).rd a = s.rd a := rfl
@[simp] theorem mapPat_get (s : State) (f : Loader → Loader) (g : Fld) : (s.mapPat f).get g = s.get g := rfl
@[simp] theorem mapPat_on (s : State) (f : Loader → Loader) (g : Fld) : (s.mapPat f).on g = s.on g := rfl
@[simp] theorem mapPat_isOn (s : State) (f : Loader → Loader) (u : HUnit) : (s.mapPat f).isOn u = s.isOn u := rfl


@[simp] theorem mapEntry_regs (s : State) (i : Nat) (f : Entry → Entry) : (s.mapEntry i f).regs = s.regs := rfl
@[simp] theorem mapEntry_spool (s : State) (i : Nat) (f : Entry → Entry) : (s.mapEntry i f).spool = s.spool := rfl
@[simp] theorem mapEntry_flash (s : State) (i : Nat) (f : Entry → Entry) : (s.mapEntry i f).flash = s.flash := rfl
@[simp] theorem mapEntry_fuses (s : State) (i : Nat) (f : Entry → Entry) : (s.mapEntry i f).fuses = s.fuses := rfl
@[simp] theorem mapEntry_free (s : State) (i : Nat) (f : Entry → Entry) : (s.mapEntry i f).free = s.free := rfl
@[simp] theorem mapEntry_out (s : State) (i : Nat) (f : Entry → Entry) : (s.mapEntry i f).out = s.out := rfl
@[simp] theorem mapEntry_pending (s : State) (i : Nat) (f : Entry → Entry) : (s.mapEntry i f).pending = s.pending := rfl
@[simp] theorem mapEntry_rd (s : State) (i : Nat) (f : Entry → Entry) (a : Nat) : (s.mapEntry i f).rd a = s.rd a := rfl
@[simp] theorem mapEntry_get (s : State) (i : Nat) (f : Entry → Entry) (g : Fld) : (s.mapEntry i f).get g = s.get g := rfl
@[simp] theorem mapEntry_on (s : State) (i : Nat) (f : Entry → Entry) (g : Fld) : (s.mapEntry i f).on g = s.on g := rfl
@[simp] theorem mapEntry_isOn (s : State) (i : Nat) (f : Entry → Entry) (u : HUnit) : (s.mapEntry i f).isOn u = s.isOn u := rfl
@[simp] theorem mapEntry_boltUp (s : State) (i : Nat) (f : Entry → Entry) : (s.mapEntry i f).boltUp = s.boltUp := rfl

@[simp] theorem mapQueue_regs (s : State) (k : Nat) (f : Queue → Queue) : (s.mapQueue k f).regs = s.regs := rfl
@[simp] theorem mapQueue_spool (s : State) (k : Nat) (f : Queue → Queue) : (s.mapQueue k f).spool = s.spool := rfl
@[simp] theorem mapQueue_flash (s : State) (k : Nat) (f : Queue → Queue) : (s.mapQueue k f).flash = s.flash := rfl
@[simp] theorem mapQueue_fuses (s : State) (k : Nat) (f : Queue → Queue) : (s.mapQueue k f).fuses = s.fuses := rfl
@[simp] theorem mapQueue_free (s : State) (k : Nat) (f : Queue → Queue) : (s.mapQueue k f).free = s.free := rfl
@[simp] theorem mapQueue_out (s : State) (k : Nat) (f : Queue → Queue) : (s.mapQueue k f).out = s.out := rfl
@[simp] theorem mapQueue_pending (s : State) (k : Nat) (f : Queue → Queue) : (s.mapQueue k f).pending = s.pending := rfl
@[simp] theorem mapQueue_rd (s : State) (k : Nat) (f : Queue → Queue) (a : Nat) : (s.mapQueue k f).rd a = s.rd a := rfl
@[simp] theorem mapQueue_get (s : State) (k : Nat) (f : Queue → Queue) (g : Fld) : (s.mapQueue k f).get g = s.get g := rfl
@[simp] theorem mapQueue_on (s : State) (k : Nat) (f : Queue → Queue) (g : Fld) : (s.mapQueue k f).on g = s.on g := rfl
@[simp] theorem mapQueue_isOn (s : State) (k : Nat) (f : Queue → Queue) (u : HUnit) : (s.mapQueue k f).isOn u = s.isOn u := rfl
@[simp] theorem mapQueue_boltUp (s : State) (k : Nat) (f : Queue → Queue) : (s.mapQueue k f).boltUp = s.boltUp := rfl

@[simp] theorem mapPsch_regs (s : State) (p : Nat) (f : PortSched → PortSched) : (s.mapPsch p f).regs = s.regs := rfl
@[simp] theorem mapPsch_spool (s : State) (p : Nat) (f : PortSched → PortSched) : (s.mapPsch p f).spool = s.spool := rfl
@[simp] theorem mapPsch_flash (s : State) (p : Nat) (f : PortSched → PortSched) : (s.mapPsch p f).flash = s.flash := rfl
@[simp] theorem mapPsch_fuses (s : State) (p : Nat) (f : PortSched → PortSched) : (s.mapPsch p f).fuses = s.fuses := rfl
@[simp] theorem mapPsch_free (s : State) (p : Nat) (f : PortSched → PortSched) : (s.mapPsch p f).free = s.free := rfl
@[simp] theorem mapPsch_out (s : State) (p : Nat) (f : PortSched → PortSched) : (s.mapPsch p f).out = s.out := rfl
@[simp] theorem mapPsch_pending (s : State) (p : Nat) (f : PortSched → PortSched) : (s.mapPsch p f).pending = s.pending := rfl
@[simp] theorem mapPsch_rd (s : State) (p : Nat) (f : PortSched → PortSched) (a : Nat) : (s.mapPsch p f).rd a = s.rd a := rfl
@[simp] theorem mapPsch_get (s : State) (p : Nat) (f : PortSched → PortSched) (g : Fld) : (s.mapPsch p f).get g = s.get g := rfl
@[simp] theorem mapPsch_on (s : State) (p : Nat) (f : PortSched → PortSched) (g : Fld) : (s.mapPsch p f).on g = s.on g := rfl
@[simp] theorem mapPsch_isOn (s : State) (p : Nat) (f : PortSched → PortSched) (u : HUnit) : (s.mapPsch p f).isOn u = s.isOn u := rfl
@[simp] theorem mapPsch_boltUp (s : State) (p : Nat) (f : PortSched → PortSched) : (s.mapPsch p f).boltUp = s.boltUp := rfl

@[simp] theorem setChan_regs (s : State) (c : Nat) (x : Channel) : (s.setChan c x).regs = s.regs := rfl
@[simp] theorem setChan_spool (s : State) (c : Nat) (x : Channel) : (s.setChan c x).spool = s.spool := rfl
@[simp] theorem setChan_flash (s : State) (c : Nat) (x : Channel) : (s.setChan c x).flash = s.flash := rfl
@[simp] theorem setChan_fuses (s : State) (c : Nat) (x : Channel) : (s.setChan c x).fuses = s.fuses := rfl
@[simp] theorem setChan_free (s : State) (c : Nat) (x : Channel) : (s.setChan c x).free = s.free := rfl
@[simp] theorem setChan_out (s : State) (c : Nat) (x : Channel) : (s.setChan c x).out = s.out := rfl
@[simp] theorem setChan_pending (s : State) (c : Nat) (x : Channel) : (s.setChan c x).pending = s.pending := rfl
@[simp] theorem setChan_rd (s : State) (c : Nat) (x : Channel) (a : Nat) : (s.setChan c x).rd a = s.rd a := rfl
@[simp] theorem setChan_get (s : State) (c : Nat) (x : Channel) (g : Fld) : (s.setChan c x).get g = s.get g := rfl
@[simp] theorem setChan_on (s : State) (c : Nat) (x : Channel) (g : Fld) : (s.setChan c x).on g = s.on g := rfl
@[simp] theorem setChan_isOn (s : State) (c : Nat) (x : Channel) (u : HUnit) : (s.setChan c x).isOn u = s.isOn u := rfl
@[simp] theorem setChan_boltUp (s : State) (c : Nat) (x : Channel) : (s.setChan c x).boltUp = s.boltUp := rfl

@[simp] theorem setRemote_regs (s : State) (c : Nat) (x : Remote) : (s.setRemote c x).regs = s.regs := rfl
@[simp] theorem setRemote_spool (s : State) (c : Nat) (x : Remote) : (s.setRemote c x).spool = s.spool := rfl
@[simp] theorem setRemote_flash (s : State) (c : Nat) (x : Remote) : (s.setRemote c x).flash = s.flash := rfl
@[simp] theorem setRemote_fuses (s : State) (c : Nat) (x : Remote) : (s.setRemote c x).fuses = s.fuses := rfl
@[simp] theorem setRemote_free (s : State) (c : Nat) (x : Remote) : (s.setRemote c x).free = s.free := rfl
@[simp] theorem setRemote_out (s : State) (c : Nat) (x : Remote) : (s.setRemote c x).out = s.out := rfl
@[simp] theorem setRemote_pending (s : State) (c : Nat) (x : Remote) : (s.setRemote c x).pending = s.pending := rfl
@[simp] theorem setRemote_rd (s : State) (c : Nat) (x : Remote) (a : Nat) : (s.setRemote c x).rd a = s.rd a := rfl
@[simp] theorem setRemote_get (s : State) (c : Nat) (x : Remote) (g : Fld) : (s.setRemote c x).get g = s.get g := rfl
@[simp] theorem setRemote_on (s : State) (c : Nat) (x : Remote) (g : Fld) : (s.setRemote c x).on g = s.on g := rfl
@[simp] theorem setRemote_isOn (s : State) (c : Nat) (x : Remote) (u : HUnit) : (s.setRemote c x).isOn u = s.isOn u := rfl
@[simp] theorem setRemote_boltUp (s : State) (c : Nat) (x : Remote) : (s.setRemote c x).boltUp = s.boltUp := rfl

@[simp] theorem setBlink_regs (s : State) (l : Nat) (x : BridgeLink) : (s.setBlink l x).regs = s.regs := rfl
@[simp] theorem setBlink_spool (s : State) (l : Nat) (x : BridgeLink) : (s.setBlink l x).spool = s.spool := rfl
@[simp] theorem setBlink_flash (s : State) (l : Nat) (x : BridgeLink) : (s.setBlink l x).flash = s.flash := rfl
@[simp] theorem setBlink_fuses (s : State) (l : Nat) (x : BridgeLink) : (s.setBlink l x).fuses = s.fuses := rfl
@[simp] theorem setBlink_free (s : State) (l : Nat) (x : BridgeLink) : (s.setBlink l x).free = s.free := rfl
@[simp] theorem setBlink_out (s : State) (l : Nat) (x : BridgeLink) : (s.setBlink l x).out = s.out := rfl
@[simp] theorem setBlink_pending (s : State) (l : Nat) (x : BridgeLink) : (s.setBlink l x).pending = s.pending := rfl
@[simp] theorem setBlink_rd (s : State) (l : Nat) (x : BridgeLink) (a : Nat) : (s.setBlink l x).rd a = s.rd a := rfl
@[simp] theorem setBlink_get (s : State) (l : Nat) (x : BridgeLink) (g : Fld) : (s.setBlink l x).get g = s.get g := rfl
@[simp] theorem setBlink_on (s : State) (l : Nat) (x : BridgeLink) (g : Fld) : (s.setBlink l x).on g = s.on g := rfl
@[simp] theorem setBlink_isOn (s : State) (l : Nat) (x : BridgeLink) (u : HUnit) : (s.setBlink l x).isOn u = s.isOn u := rfl
@[simp] theorem setBlink_boltUp (s : State) (l : Nat) (x : BridgeLink) : (s.setBlink l x).boltUp = s.boltUp := rfl

@[simp] theorem mapDp_regs (s : State) (q : Nat) (f : DpQuad → DpQuad) : (s.mapDp q f).regs = s.regs := rfl
@[simp] theorem mapDp_spool (s : State) (q : Nat) (f : DpQuad → DpQuad) : (s.mapDp q f).spool = s.spool := rfl
@[simp] theorem mapDp_flash (s : State) (q : Nat) (f : DpQuad → DpQuad) : (s.mapDp q f).flash = s.flash := rfl
@[simp] theorem mapDp_fuses (s : State) (q : Nat) (f : DpQuad → DpQuad) : (s.mapDp q f).fuses = s.fuses := rfl
@[simp] theorem mapDp_free (s : State) (q : Nat) (f : DpQuad → DpQuad) : (s.mapDp q f).free = s.free := rfl
@[simp] theorem mapDp_out (s : State) (q : Nat) (f : DpQuad → DpQuad) : (s.mapDp q f).out = s.out := rfl
@[simp] theorem mapDp_pending (s : State) (q : Nat) (f : DpQuad → DpQuad) : (s.mapDp q f).pending = s.pending := rfl
@[simp] theorem mapDp_rd (s : State) (q : Nat) (f : DpQuad → DpQuad) (a : Nat) : (s.mapDp q f).rd a = s.rd a := rfl
@[simp] theorem mapDp_get (s : State) (q : Nat) (f : DpQuad → DpQuad) (g : Fld) : (s.mapDp q f).get g = s.get g := rfl
@[simp] theorem mapDp_on (s : State) (q : Nat) (f : DpQuad → DpQuad) (g : Fld) : (s.mapDp q f).on g = s.on g := rfl
@[simp] theorem mapDp_isOn (s : State) (q : Nat) (f : DpQuad → DpQuad) (u : HUnit) : (s.mapDp q f).isOn u = s.isOn u := rfl
@[simp] theorem mapDp_boltUp (s : State) (q : Nat) (f : DpQuad → DpQuad) : (s.mapDp q f).boltUp = s.boltUp := rfl

@[simp] theorem setMac_regs (s : State) (m : Nat) (x : MacSt) : (s.setMac m x).regs = s.regs := rfl
@[simp] theorem setMac_spool (s : State) (m : Nat) (x : MacSt) : (s.setMac m x).spool = s.spool := rfl
@[simp] theorem setMac_flash (s : State) (m : Nat) (x : MacSt) : (s.setMac m x).flash = s.flash := rfl
@[simp] theorem setMac_fuses (s : State) (m : Nat) (x : MacSt) : (s.setMac m x).fuses = s.fuses := rfl
@[simp] theorem setMac_free (s : State) (m : Nat) (x : MacSt) : (s.setMac m x).free = s.free := rfl
@[simp] theorem setMac_out (s : State) (m : Nat) (x : MacSt) : (s.setMac m x).out = s.out := rfl
@[simp] theorem setMac_pending (s : State) (m : Nat) (x : MacSt) : (s.setMac m x).pending = s.pending := rfl
@[simp] theorem setMac_rd (s : State) (m : Nat) (x : MacSt) (a : Nat) : (s.setMac m x).rd a = s.rd a := rfl
@[simp] theorem setMac_get (s : State) (m : Nat) (x : MacSt) (g : Fld) : (s.setMac m x).get g = s.get g := rfl
@[simp] theorem setMac_on (s : State) (m : Nat) (x : MacSt) (g : Fld) : (s.setMac m x).on g = s.on g := rfl
@[simp] theorem setMac_isOn (s : State) (m : Nat) (x : MacSt) (u : HUnit) : (s.setMac m x).isOn u = s.isOn u := rfl
@[simp] theorem setMac_boltUp (s : State) (m : Nat) (x : MacSt) : (s.setMac m x).boltUp = s.boltUp := rfl

@[simp] theorem setSlot_regs (s : State) (i : Nat) (x : KeySlot) : (s.setSlot i x).regs = s.regs := rfl
@[simp] theorem setSlot_spool (s : State) (i : Nat) (x : KeySlot) : (s.setSlot i x).spool = s.spool := rfl
@[simp] theorem setSlot_flash (s : State) (i : Nat) (x : KeySlot) : (s.setSlot i x).flash = s.flash := rfl
@[simp] theorem setSlot_fuses (s : State) (i : Nat) (x : KeySlot) : (s.setSlot i x).fuses = s.fuses := rfl
@[simp] theorem setSlot_free (s : State) (i : Nat) (x : KeySlot) : (s.setSlot i x).free = s.free := rfl
@[simp] theorem setSlot_out (s : State) (i : Nat) (x : KeySlot) : (s.setSlot i x).out = s.out := rfl
@[simp] theorem setSlot_pending (s : State) (i : Nat) (x : KeySlot) : (s.setSlot i x).pending = s.pending := rfl
@[simp] theorem setSlot_rd (s : State) (i : Nat) (x : KeySlot) (a : Nat) : (s.setSlot i x).rd a = s.rd a := rfl
@[simp] theorem setSlot_get (s : State) (i : Nat) (x : KeySlot) (g : Fld) : (s.setSlot i x).get g = s.get g := rfl
@[simp] theorem setSlot_on (s : State) (i : Nat) (x : KeySlot) (g : Fld) : (s.setSlot i x).on g = s.on g := rfl
@[simp] theorem setSlot_isOn (s : State) (i : Nat) (x : KeySlot) (u : HUnit) : (s.setSlot i x).isOn u = s.isOn u := rfl
@[simp] theorem setSlot_boltUp (s : State) (i : Nat) (x : KeySlot) : (s.setSlot i x).boltUp = s.boltUp := rfl

@[simp] theorem setLink_regs (s : State) (p : Nat) (x : LinkSt) : (s.setLink p x).regs = s.regs := rfl
@[simp] theorem setLink_spool (s : State) (p : Nat) (x : LinkSt) : (s.setLink p x).spool = s.spool := rfl
@[simp] theorem setLink_flash (s : State) (p : Nat) (x : LinkSt) : (s.setLink p x).flash = s.flash := rfl
@[simp] theorem setLink_fuses (s : State) (p : Nat) (x : LinkSt) : (s.setLink p x).fuses = s.fuses := rfl
@[simp] theorem setLink_free (s : State) (p : Nat) (x : LinkSt) : (s.setLink p x).free = s.free := rfl
@[simp] theorem setLink_out (s : State) (p : Nat) (x : LinkSt) : (s.setLink p x).out = s.out := rfl
@[simp] theorem setLink_pending (s : State) (p : Nat) (x : LinkSt) : (s.setLink p x).pending = s.pending := rfl
@[simp] theorem setLink_rd (s : State) (p : Nat) (x : LinkSt) (a : Nat) : (s.setLink p x).rd a = s.rd a := rfl
@[simp] theorem setLink_get (s : State) (p : Nat) (x : LinkSt) (g : Fld) : (s.setLink p x).get g = s.get g := rfl
@[simp] theorem setLink_on (s : State) (p : Nat) (x : LinkSt) (g : Fld) : (s.setLink p x).on g = s.on g := rfl
@[simp] theorem setLink_isOn (s : State) (p : Nat) (x : LinkSt) (u : HUnit) : (s.setLink p x).isOn u = s.isOn u := rfl
@[simp] theorem setLink_boltUp (s : State) (p : Nat) (x : LinkSt) : (s.setLink p x).boltUp = s.boltUp := rfl

@[simp] theorem mapUsb_regs (s : State) (f : Usb → Usb) : (s.mapUsb f).regs = s.regs := rfl
@[simp] theorem mapUsb_bolt (s : State) (f : Usb → Usb) : (s.mapUsb f).bolt = s.bolt := rfl
@[simp] theorem mapUsb_flash (s : State) (f : Usb → Usb) : (s.mapUsb f).flash = s.flash := rfl
@[simp] theorem mapUsb_fuses (s : State) (f : Usb → Usb) : (s.mapUsb f).fuses = s.fuses := rfl
@[simp] theorem mapUsb_free (s : State) (f : Usb → Usb) : (s.mapUsb f).free = s.free := rfl
@[simp] theorem mapUsb_out (s : State) (f : Usb → Usb) : (s.mapUsb f).out = s.out := rfl
@[simp] theorem mapUsb_pending (s : State) (f : Usb → Usb) : (s.mapUsb f).pending = s.pending := rfl
@[simp] theorem mapUsb_rd (s : State) (f : Usb → Usb) (a : Nat) : (s.mapUsb f).rd a = s.rd a := rfl
@[simp] theorem mapUsb_get (s : State) (f : Usb → Usb) (g : Fld) : (s.mapUsb f).get g = s.get g := rfl
@[simp] theorem mapUsb_on (s : State) (f : Usb → Usb) (g : Fld) : (s.mapUsb f).on g = s.on g := rfl
@[simp] theorem mapUsb_isOn (s : State) (f : Usb → Usb) (u : HUnit) : (s.mapUsb f).isOn u = s.isOn u := rfl
@[simp] theorem mapUsb_boltUp (s : State) (f : Usb → Usb) : (s.mapUsb f).boltUp = s.boltUp := rfl

@[simp] theorem mapLan_regs (s : State) (f : Lantern → Lantern) : (s.mapLan f).regs = s.regs := rfl
@[simp] theorem mapLan_bolt (s : State) (f : Lantern → Lantern) : (s.mapLan f).bolt = s.bolt := rfl
@[simp] theorem mapLan_flash (s : State) (f : Lantern → Lantern) : (s.mapLan f).flash = s.flash := rfl
@[simp] theorem mapLan_fuses (s : State) (f : Lantern → Lantern) : (s.mapLan f).fuses = s.fuses := rfl
@[simp] theorem mapLan_free (s : State) (f : Lantern → Lantern) : (s.mapLan f).free = s.free := rfl
@[simp] theorem mapLan_out (s : State) (f : Lantern → Lantern) : (s.mapLan f).out = s.out := rfl
@[simp] theorem mapLan_pending (s : State) (f : Lantern → Lantern) : (s.mapLan f).pending = s.pending := rfl
@[simp] theorem mapLan_rd (s : State) (f : Lantern → Lantern) (a : Nat) : (s.mapLan f).rd a = s.rd a := rfl
@[simp] theorem mapLan_get (s : State) (f : Lantern → Lantern) (g : Fld) : (s.mapLan f).get g = s.get g := rfl
@[simp] theorem mapLan_on (s : State) (f : Lantern → Lantern) (g : Fld) : (s.mapLan f).on g = s.on g := rfl
@[simp] theorem mapLan_isOn (s : State) (f : Lantern → Lantern) (u : HUnit) : (s.mapLan f).isOn u = s.isOn u := rfl
@[simp] theorem mapLan_boltUp (s : State) (f : Lantern → Lantern) : (s.mapLan f).boltUp = s.boltUp := rfl

@[simp] theorem mapPwr_regs (s : State) (f : Pwr → Pwr) : (s.mapPwr f).regs = s.regs := rfl
@[simp] theorem mapPwr_bolt (s : State) (f : Pwr → Pwr) : (s.mapPwr f).bolt = s.bolt := rfl
@[simp] theorem mapPwr_flash (s : State) (f : Pwr → Pwr) : (s.mapPwr f).flash = s.flash := rfl
@[simp] theorem mapPwr_fuses (s : State) (f : Pwr → Pwr) : (s.mapPwr f).fuses = s.fuses := rfl
@[simp] theorem mapPwr_free (s : State) (f : Pwr → Pwr) : (s.mapPwr f).free = s.free := rfl
@[simp] theorem mapPwr_out (s : State) (f : Pwr → Pwr) : (s.mapPwr f).out = s.out := rfl
@[simp] theorem mapPwr_pending (s : State) (f : Pwr → Pwr) : (s.mapPwr f).pending = s.pending := rfl
@[simp] theorem mapPwr_rd (s : State) (f : Pwr → Pwr) (a : Nat) : (s.mapPwr f).rd a = s.rd a := rfl
@[simp] theorem mapPwr_get (s : State) (f : Pwr → Pwr) (g : Fld) : (s.mapPwr f).get g = s.get g := rfl
@[simp] theorem mapPwr_on (s : State) (f : Pwr → Pwr) (g : Fld) : (s.mapPwr f).on g = s.on g := rfl
@[simp] theorem mapPwr_isOn (s : State) (f : Pwr → Pwr) (u : HUnit) : (s.mapPwr f).isOn u = s.isOn u := rfl
@[simp] theorem mapPwr_boltUp (s : State) (f : Pwr → Pwr) : (s.mapPwr f).boltUp = s.boltUp := rfl

@[simp] theorem mapGate_regs (s : State) (n : Nat) (f : GateSt → GateSt) : (s.mapGate n f).regs = s.regs := rfl
@[simp] theorem mapGate_bolt (s : State) (n : Nat) (f : GateSt → GateSt) : (s.mapGate n f).bolt = s.bolt := rfl
@[simp] theorem mapGate_flash (s : State) (n : Nat) (f : GateSt → GateSt) : (s.mapGate n f).flash = s.flash := rfl
@[simp] theorem mapGate_fuses (s : State) (n : Nat) (f : GateSt → GateSt) : (s.mapGate n f).fuses = s.fuses := rfl
@[simp] theorem mapGate_free (s : State) (n : Nat) (f : GateSt → GateSt) : (s.mapGate n f).free = s.free := rfl
@[simp] theorem mapGate_out (s : State) (n : Nat) (f : GateSt → GateSt) : (s.mapGate n f).out = s.out := rfl
@[simp] theorem mapGate_pending (s : State) (n : Nat) (f : GateSt → GateSt) : (s.mapGate n f).pending = s.pending := rfl
@[simp] theorem mapGate_rd (s : State) (n : Nat) (f : GateSt → GateSt) (a : Nat) : (s.mapGate n f).rd a = s.rd a := rfl
@[simp] theorem mapGate_get (s : State) (n : Nat) (f : GateSt → GateSt) (g : Fld) : (s.mapGate n f).get g = s.get g := rfl
@[simp] theorem mapGate_on (s : State) (n : Nat) (f : GateSt → GateSt) (g : Fld) : (s.mapGate n f).on g = s.on g := rfl
@[simp] theorem mapGate_isOn (s : State) (n : Nat) (f : GateSt → GateSt) (u : HUnit) : (s.mapGate n f).isOn u = s.isOn u := rfl
@[simp] theorem mapGate_boltUp (s : State) (n : Nat) (f : GateSt → GateSt) : (s.mapGate n f).boltUp = s.boltUp := rfl

@[simp] theorem mapDock_regs (s : State) (p : Nat) (f : DockPort → DockPort) : (s.mapDock p f).regs = s.regs := rfl
@[simp] theorem mapDock_bolt (s : State) (p : Nat) (f : DockPort → DockPort) : (s.mapDock p f).bolt = s.bolt := rfl
@[simp] theorem mapDock_flash (s : State) (p : Nat) (f : DockPort → DockPort) : (s.mapDock p f).flash = s.flash := rfl
@[simp] theorem mapDock_fuses (s : State) (p : Nat) (f : DockPort → DockPort) : (s.mapDock p f).fuses = s.fuses := rfl
@[simp] theorem mapDock_free (s : State) (p : Nat) (f : DockPort → DockPort) : (s.mapDock p f).free = s.free := rfl
@[simp] theorem mapDock_out (s : State) (p : Nat) (f : DockPort → DockPort) : (s.mapDock p f).out = s.out := rfl
@[simp] theorem mapDock_pending (s : State) (p : Nat) (f : DockPort → DockPort) : (s.mapDock p f).pending = s.pending := rfl
@[simp] theorem mapDock_rd (s : State) (p : Nat) (f : DockPort → DockPort) (a : Nat) : (s.mapDock p f).rd a = s.rd a := rfl
@[simp] theorem mapDock_get (s : State) (p : Nat) (f : DockPort → DockPort) (g : Fld) : (s.mapDock p f).get g = s.get g := rfl
@[simp] theorem mapDock_on (s : State) (p : Nat) (f : DockPort → DockPort) (g : Fld) : (s.mapDock p f).on g = s.on g := rfl
@[simp] theorem mapDock_isOn (s : State) (p : Nat) (f : DockPort → DockPort) (u : HUnit) : (s.mapDock p f).isOn u = s.isOn u := rfl
@[simp] theorem mapDock_boltUp (s : State) (p : Nat) (f : DockPort → DockPort) : (s.mapDock p f).boltUp = s.boltUp := rfl

theorem getD_setAt_same {α : Type} (l : List α) (i : Nat) (x d : α) (h : i < l.length) : (setAt l i x).getD i d = x := by
  unfold setAt; simp [h]

theorem getD_setAt_other {α : Type} (l : List α) {i j : Nat} (x d : α) (h : i ≠ j) : (setAt l i x).getD j d = l.getD j d := by
  unfold setAt; simp [h]

/-- A port's, a lane's, a module's and a key slot's state reads back what was stored. -/
theorem port_setPort (s : State) (p : Nat) (x : PortSt) (h : p < s.bolt.ports.length) : (s.setPort p x).port p = x :=
  getD_setAt_same _ _ _ _ h

theorem lane_setLane (s : State) (l : Nat) (x : LaneSt) (h : l < s.bolt.lanes.length) : (s.setLane l x).lane l = x :=
  getD_setAt_same _ _ _ _ h

theorem mod_setMod (s : State) (t : Nat) (x : ModSt) (h : t < s.bolt.mods.length) : (s.setMod t x).mod t = x :=
  getD_setAt_same _ _ _ _ h

theorem slot_setSlot (s : State) (i : Nat) (x : KeySlot) (h : i < s.bolt.keys.slots.length) : (s.setSlot i x).slot i = x :=
  getD_setAt_same _ _ _ _ h

/-- A tunnel entry and a queue read back what was stored, whatever number they have. -/
@[simp] theorem entry_mapEntry_same (s : State) (i : Nat) (f : Entry → Entry) : (s.mapEntry i f).entry i = f (s.entry i) :=
  getKey_putKey_same _ _ _ _

theorem entry_mapEntry_other (s : State) {i j : Nat} (f : Entry → Entry) (h : i ≠ j) : (s.mapEntry i f).entry j = s.entry j :=
  getKey_putKey_other _ _ h _ _

@[simp] theorem queue_mapQueue_same (s : State) (k : Nat) (f : Queue → Queue) : (s.mapQueue k f).queue k = f (s.queue k) :=
  getKey_putKey_same _ _ _ _

theorem queue_mapQueue_other (s : State) {k j : Nat} (f : Queue → Queue) (h : k ≠ j) : (s.mapQueue k f).queue j = s.queue j :=
  getKey_putKey_other _ _ h _ _

end Sys2Proof.Machine
end

