-- ==== Sys2Proof/Laws/Within.lean ====
section
/-! SUPPORT. What stays inside a block (`Within`): the rules by which a row's frame is put together from those of the shared
operations. -/

namespace Sys2Proof.Machine

variable {B : List Nat} {a b c s : State}

theorem baseOf_cnt (k : 0x40E00000 ∈ B) : baseOf (0x40E00000 + 8) ∈ B := by
  rw [show baseOf (0x40E00000 + 8) = 0x40E00000 by decide]; exact k

theorem Within.refl (B : List Nat) (s : State) : Within B s s := ⟨fun _ _ => rfl, rfl, rfl, rfl, rfl, rfl, rfl, rfl, rfl⟩

theorem Within.trans (h : Within B a b) (k : Within B b c) : Within B a c :=
  ⟨fun x m => (k.regs x m).trans (h.regs x m), k.sram.trans h.sram, k.msix.trans h.msix, k.nvs.trans h.nvs, k.usbMem.trans h.usbMem,
    k.slots.trans h.slots, k.flash.trans h.flash, k.fuses.trans h.fuses, k.pending.trans h.pending⟩

/-- An update of what a frame does not speak of: the dies' own state beside SRAM, the MSI-X table, NVS, USB memory and key slots. -/
theorem Within.upd {x : Bolt} {y : Spool} {n : Nat} {o : List Output} (h : Within B a b)
    (m : x.sram = b.bolt.sram := by with_reducible rfl) (t : x.msixTable = b.bolt.msixTable := by with_reducible rfl)
    (k : x.keys.slots = b.bolt.keys.slots := by with_reducible rfl)
    (v : y.nvs = b.spool.nvs := by with_reducible rfl) (u : y.usb.mem = b.spool.usb.mem := by with_reducible rfl) :
    Within B a (State.mk b.regs x y b.flash b.fuses n o b.pending) :=
  ⟨fun z i => (rd_congr (s := b) rfl z).trans (h.regs z i), m.trans h.sram, t.trans h.msix, v.trans h.nvs, u.trans h.usbMem, k.trans h.slots,
    h.flash, h.fuses, h.pending⟩

theorem Within.ite {p : Prop} [Decidable p] (h : Within B a b) (k : Within B a c) : Within B a (if p then b else c) := by
  split <;> assumption

/-- A register of a named block stored. -/
theorem Within.wr (h : Within B a s) {r : Nat} (w : Word) (m : baseOf r ∈ B) : Within B a (s.wr r w) :=
  ⟨fun x i => (rd_wr_other s (fun e => i (by rw [← e]; exact m)) w).trans (h.regs x i), h.sram, h.msix, h.nvs, h.usbMem, h.slots, h.flash,
    h.fuses, h.pending⟩

theorem Within.set (h : Within B a s) {f : Fld} (v : Nat) (m : baseOf f.reg ∈ B) : Within B a (s.set f v) := h.wr _ m

theorem Within.sat (h : Within B a s) {f : Fld} (n : Nat) (m : baseOf f.reg ∈ B) : Within B a (s.sat f n) := h.set _ m

theorem Within.setB (h : Within B a s) {f : Fld} (i : Nat) (m : baseOf f.reg ∈ B) : Within B a (s.setB f i) := h.set _ m

theorem Within.clrB (h : Within B a s) {f : Fld} (i : Nat) (m : baseOf f.reg ∈ B) : Within B a (s.clrB f i) := h.set _ m

theorem Within.sets (h : Within B a s) (l : List (Fld × Nat)) (m : ∀ p ∈ l, baseOf p.1.reg ∈ B) : Within B a (s.sets l) := by
  induction l generalizing s with
  | nil => exact h
  | cons p l ih =>
    obtain ⟨f, v⟩ := p
    have m0 : baseOf f.reg ∈ B := m (f, v) (by simp)
    exact ih (h.set v m0) fun q i => m q (List.mem_cons_of_mem _ i)

theorem Within.each {α : Type} (h : Within B a s) (l : List α) (f : α → State → State)
    (hf : ∀ x ∈ l, ∀ t, Within B a t → Within B a (f x t)) : Within B a (s.each l f) := by
  unfold State.each
  induction l generalizing s with
  | nil => exact h
  | cons x l ih =>
    exact ih (hf x (List.mem_cons_self ..) _ h) fun y i => hf y (List.mem_cons_of_mem _ i)

theorem Within.emit (h : Within B a s) (o : Output) : Within B a (s.emit o) := h.upd

theorem Within.driveLines (h : Within B a s) : Within B a s.driveLines := by
  unfold State.driveLines
  exact Within.each h.upd _ _ fun _ _ _ k => k.emit _

theorem Within.refreshInts (h : Within B a s) : Within B a s.refreshInts := by
  unfold State.refreshInts
  dsimp -iota only
  have d : Within B a { s with bolt.ctl.pendPrev := s.pendingSources }.driveLines := Within.driveLines h.upd
  split
  · exact d.each _ _ fun _ _ _ k => k.emit _
  · exact d

theorem Within.setSeamEnd (h : Within B a s) (d : Die) (e : SeamEnd) : Within B a (s.setSeamEnd d e) := by
  cases d <;> exact h.upd

theorem Within.pump (d : Die) (n : Nat) (h : Within B a s) : Within B a (s.pump d n) := by
  induction n generalizing s with
  | zero => exact h
  | succ n ih =>
    unfold State.pump
    split
    · exact h
    · exact ih ((h.setSeamEnd _ _).emit _)

theorem Within.sendFlit (h : Within B a s) (d : Die) (t ch x : Nat) : Within B a (s.sendFlit d t ch x) := by
  unfold State.sendFlit
  split
  · exact h
  · exact (h.setSeamEnd _ _).pump _ _

theorem Within.intChanged (h : Within B a s) (b : Nat) : Within B a (s.intChanged b) := by
  unfold State.intChanged State.sendEvent
  split
  · exact h.refreshInts
  · exact h.sendFlit _ _ _ _

theorem Within.raise (h : Within B a s) {b : Nat} (i : Nat) (m : baseOf (b + 8) ∈ B) : Within B a (s.raise b i) := by
  unfold State.raise State.sendEvent
  dsimp -iota only
  split
  · exact (h.wr _ m).refreshInts
  · exact (h.wr _ m).sendFlit _ _ _ _

theorem Within.addCounter (h : Within B a s) (id n : Nat) (k : 0x40E00000 ∈ B) : Within B a (s.addCounter id n) := by
  unfold State.addCounter State.when
  dsimp -iota only
  split
  · exact Within.upd (Within.setB (Within.upd h) _ k)
  · exact Within.upd h

theorem Within.countEvent (h : Within B a s) (ev : Nat) (k : 0x40E00000 ∈ B) : Within B a (s.countEvent ev) := by
  unfold State.countEvent
  dsimp -iota only
  have e {s : State} (h : Within B a s) (l : List Nat) : Within B a (s.each l fun j s => s.addCounter (3648 + j) 1) :=
    h.each _ _ fun _ _ _ h => h.addCounter _ _ k
  split
  · exact e ((e h _).raise _ (baseOf_cnt k)) _
  · exact e h _

/-- An interrupt of a named block, while the counter block is named too. -/
theorem Within.irq (h : Within B a s) {b : Nat} (i : Nat) (m : baseOf (b + 8) ∈ B) (k : 0x40E00000 ∈ B) : Within B a (s.irq b i) := by
  unfold State.irq
  dsimp -iota only
  split
  · exact (h.raise i m).countEvent _ k
  · exact h.raise i m

/-- An interrupt of a spool-die block, which counts only when its EVENT flit arrives. -/
theorem Within.spoolIrq (h : Within B a s) {b : Nat} (i : Nat) (m : baseOf (b + 8) ∈ B) (k : 0x50000000 ≤ b) :
    Within B a (s.irq b i) := by
  unfold State.irq
  dsimp -iota only
  rw [if_neg (Nat.not_lt.2 k)]
  exact h.raise i m

theorem Within.count (h : Within B a s) (id n : Nat) (k : 0x40E00000 ∈ B) : Within B a (s.count id n) := by
  unfold State.count State.when
  split
  · exact (h.addCounter _ _ k).irq _ (baseOf_cnt k) k
  · exact h.addCounter _ _ k

theorem Within.sticky (h : Within B a s) {b : Nat} (i : Nat) (m : baseOf (b + 4) ∈ B) : Within B a (s.sticky b i) :=
  (h.wr _ m).intChanged _

theorem Within.answer (h : Within B a s) (w : Requester) (st : Access) (x : Word) : Within B a (s.answer w st x) := by
  unfold State.answer
  split
  · exact h.emit _
  · exact h
  · exact h.emit _

theorem baseOf_base_add (x k : Nat) (h : k < 0x100000) : baseOf (baseOf x + k) = baseOf x := by
  unfold baseOf; omega

theorem Within.stickyAt (h : Within B a s) {x : Nat} (i : Nat) (m : baseOf x ∈ B) : Within B a (s.stickyAt x i) := by
  unfold State.stickyAt
  split
  · exact h
  · exact h.sticky _ (by rw [baseOf_base_add _ _ (by decide)]; exact m)

theorem Within.turnAway (h : Within B a s) (v : Verdict) (w : Requester) {x : Nat} (m : baseOf x ∈ B) (t : 0x40000000 ∈ B) :
    Within B a (s.turnAway v w x) := by
  unfold State.turnAway
  split
  · exact h
  · exact (h.stickyAt _ m).answer _ _ _
  · refine (h.sticky _ ?_).answer _ _ _
    rw [show baseOf (0x40000000 + 4) = 0x40000000 by decide]; exact t
  · exact (h.stickyAt _ m).answer _ _ _
  · exact h.answer _ _ _
  · exact (h.stickyAt _ m).answer _ _ _

theorem Within.storeWrite (h : Within B a s) {x : Nat} (v : Word) (m : baseOf x ∈ B) : Within B a (s.storeWrite x v) := by
  unfold State.storeWrite
  split
  · exact (h.wr _ m).intChanged _
  · split
    · exact (h.wr _ m).intChanged _
    · split
      · exact h
      · dsimp -iota only [State.when]
        split
        · exact (h.wr _ m).sticky _ (by rw [baseOf_base_add _ _ (by decide)]; exact m)
        · exact h.wr _ m

/-- A write command changes its block, what it does then, and TOP where it is turned away. -/
theorem Within.command (h : Within B a s) (w : Requester) {x : Nat} (v : Word) (act : State → State) (m : baseOf x ∈ B)
    (t : 0x40000000 ∈ B) (k : ∀ s, Within B a s → Within B a (act s)) : Within B a (s.command w x v act) := by
  unfold State.command
  split
  · exact h
  · split
    · refine (k _ (Within.storeWrite ?_ v m)).answer _ _ _
      unfold State.countSpoolWrite
      split
      · exact h.upd
      · exact h
    · exact h.turnAway _ _ m t

theorem Within.ifBolt {f : State → State} (h : Within B s (f s)) : WithinStep B s (.next (s.ifBolt f)) := by
  intro b e
  cases e
  unfold State.ifBolt
  split
  · exact h
  · exact .refl _ _

theorem Within.ifAon {f : State → State} (h : Within B s (f s)) : WithinStep B s (.next (s.ifAon f)) := by
  intro b e
  cases e
  unfold State.ifAon
  split
  · exact h
  · exact .refl _ _

end Sys2Proof.Machine
end

