-- ==== Sys2Proof/Tests/Slice0.lean ====
section
/-! SUPPORT. The model's own tests: ill-formed terms refused, steps on small states, and for every statement with hypotheses a
concrete state and operands that meet them. -/

set_option maxRecDepth 100000
set_option exponentiation.threshold 600

namespace Sys2Proof.Tests

open Sys2Proof Sys2Proof.Machine

/-- A hub whose bolt die runs, hart 0 holding the token. -/
def live : State :=
  { State.reset with
    regs := [(0x41000104, 1), (0x50200100, 1)]
    bolt := { Bolt.reset with running := true, ctl := { Control.reset with hartsOn := 1 } }
    spool := { Spool.reset with aon := true } }

/-- The same with the PCIe upstream function up. -/
def withPcie (s : State) : State := { s with bolt.pcieUp := true }

theorem wit_StepRunsTheFrontCommand : ({ State.reset with pending := [.cycleBoundary] } : State).pending = [.cycleBoundary] ∧
    State.reset.pending = [] := by decide

theorem wit_EveryStepKeepsTheInvariant : State.Inv { State.reset with pending := [.cycleBoundary] } ∧
    ∃ t, step { State.reset with pending := [.cycleBoundary] } = .next t := by
  exact ⟨⟨(fun h => by cases h), rfl, rfl, rfl, rfl, rfl⟩, _, rfl⟩

theorem wit_FusesOnlyGrow : State.reset.Inv ∧ ∃ t, exec (.powerOn 0) State.reset = .next t := by
  exact ⟨⟨(fun h => by cases h), rfl, rfl, rfl, rfl, rfl⟩, _, rfl⟩

theorem wit_ARegisterThatStartsNothing : rangeOf (BitVec.ofNat 32 R.CNT_SEL : Word).toNat = .block ∧
    live.accepts (.hart 0) R.CNT_SEL ∧ isSpool R.CNT_SEL = false ∧ R.CNT_SEL ≠ R.PAT_CTRL ∧ halfOf R.CNT_SEL = .none := by decide

theorem wit_StartsNothing : startsNothing live (.hart 0) R.CNT_SEL 5 := ⟨rfl, rfl, rfl⟩

theorem wit_AccessesByAddress : live.pathLive (.hart 0) = true ∧ rangeOf (0x10000000 : Word).toNat = .sram ∧
    live.sourceGuarded (0x10000000 : Word).toNat 4 = false ∧ rangeOf (0x41200000 : Word).toNat = .out ∧
    live.pathLive .spi = true ∧ (withPcie live).pathLive .pcie = true ∧
    live.accepts (.hart 0) R.CNT_LOAD_LO ∧ live.accepts (.hart 0) R.CNT_LOAD_HI ∧ halfOf R.CNT_LOAD_LO = .lo ∧
    (live.holdLo (.hart 0) R.CNT_LOAD_LO 7).heldLo (.hart 0) R.CNT_LOAD_LO = some 7 ∧
    (live.holdLo (.hart 0) R.CNT_LOAD_LO 7).accepts (.hart 0) R.CNT_LOAD_HI ∧
    live.judge (.hart 0) R.CLK_RT_NS_LO 4 false = .act ∧ halfOf R.CLK_RT_NS_LO = .lo := by decide

theorem wit_TheTokenPassesByRelease : live.accepts (.hart 0) R.TOP_HOST_TOKEN ∧ live.holder (.hart 0) = true ∧
    (live.set F.TOP_BOOT_STATUS_BOOT_SRC 1).external 1 = true ∧ live.external 2 = false ∧
    live.get F.TOP_HOST_TOKEN_OWNER = 0 ∧ (live.set F.TOP_HOST_TOKEN_OWNER 1).boltUp = true ∧
    2 * (live.set F.TOP_HOST_TOKEN_OWNER 1).get F.TOP_HOST_HB_PERIOD_MS ≤ 200 ∧
    (live.set F.TOP_HOST_TOKEN_OWNER 1).get F.TOP_HOST_TOKEN_OWNER ≠ 0 ∧
    (live.set F.TOP_HOST_TOKEN_OWNER 1).seamUp = true := by decide

theorem wit_TokenRequestsHartsAndUnits : live.accepts .spi R.TOP_HOST_TOKEN ∧ live.on F.TOP_HOST_TOKEN_REQ_SPI = false ∧
    live.holder .spi = false ∧ (withPcie live).accepts .pcie R.TOP_HOST_TOKEN ∧ (withPcie live).holder .pcie = false ∧
    (withPcie live).on F.TOP_HOST_TOKEN_REQ_PCIE = false ∧ live.holder (.hart 0) = true ∧
    live.accepts (.hart 0) R.TOP_HOST_TOKEN ∧ live.accepts (.hart 0) R.TOP_HOST_HB ∧
    live.accepts (.hart 0) R.TOP_HART_RELEASE ∧ bit live.bolt.ctl.hartsOn 1 = false := by decide

theorem wit_Units : live.accepts (.hart 0) R.CNT_CTRL ∧ live.on F.CNT_CTRL_ENABLE = false ∧ live.on F.CNT_STATUS_STOPPING = false ∧
    (live.set F.CNT_STATUS_STOPPING 1).on F.CNT_STATUS_STOPPING = true ∧
    (live.set F.CNT_STATUS_STOPPING 1).accepts (.hart 0) R.CNT_CTRL ∧
    live.boltUp = true ∧ live.spool.aon = true ∧ (live.set F.CNT_STATUS_STATE 1).get F.CNT_STATUS_STATE = 1 ∧
    (live.set F.CNT_STATUS_STATE 1).checkUnit .cnt = some (0x10, 0xFFFF) ∧
    ((live.set F.CNT_STATUS_STATE 1).sets [(F.CNT_DUMP_PERIOD_N, 8), (F.CNT_DUMP_RING_SLOTS, 1),
      (F.CNT_DUMP_BASE_LO_ADDR, 0x10000000)]).checkCnt = none ∧
    (live.sets [(F.CNT_CTRL_ENABLE, 1), (F.CNT_STATUS_STATE, 2)]).on F.CNT_CTRL_ENABLE = true ∧
    (live.sets [(F.CNT_CTRL_ENABLE, 1), (F.CNT_STATUS_STATE, 2)]).accepts (.hart 0) R.CNT_CTRL ∧
    (live.sets [(F.CNT_CTRL_ENABLE, 1), (F.CNT_STATUS_STATE, 2)]).get F.CNT_STATUS_STATE = 2 := by decide

/-- The SEQ 0 flit of a type without data whose CRC holds. -/
def flitOf (type : Nat) : FlitBody :=
  ⟨0, 0, 0, BitVec.ofNat 16 (crc16 (List.flatten [msbBits 4 type, msbBits 4 0, msbBits 8 0, msbBits 64 0]))⟩

theorem wit_FlitsInOrderAreAcknowledgedAndAct : live.seamUp = true ∧ live.boltUp = true ∧
    ((List.range 10).all fun i => flitOk i (flitOf i) && !flitOk i ⟨0, 0, 0, (flitOf i).crc + 1⟩) = true ∧
    (live.seamEnd .bolt).expect = 0 ∧ (live.seamEnd .spool).expect = 0 ∧
    isSpool R.TCP_CTRL = true ∧ rangeOf R.TCP_CTRL = .block ∧ assigned R.TCP_CTRL = true ∧ live.bolt.ctl.snapLeft = 0 ∧
    { live with bolt.ctl.snapLeft := 1 }.bolt.ctl.snapLeft = 1 ∧
    { live with bolt.ctl.rdSent := [(.hart 0, R.TCP_CTRL)] }.bolt.ctl.rdSent = [(.hart 0, R.TCP_CTRL)] := by decide

/-- The SEQ 0 EVENT flit whose CRC holds, of a cause. -/
def eventOf (cause : Nat) : FlitBody :=
  ⟨0, 0, BitVec.ofNat 64 (cause * 2 ^ 40 + 0x22 * 2 ^ 32 + 5),
    BitVec.ofNat 16 (crc16 (List.flatten [msbBits 4 6, msbBits 4 0, msbBits 8 0, msbBits 64 (cause * 2 ^ 40 + 0x22 * 2 ^ 32 + 5)]))⟩

theorem wit_EventFlits : ([0xFF, 1, 0xBF, 0xC0, 0xC6, 0xD0, 0xD5].all fun c =>
    flitOk 6 (eventOf c) && decide (slice (eventOf c).data.toNat 40 8 = c)) = true := by decide

theorem wit_FailedFlitsAndSeamRecovery : live.seamUp = true ∧ live.boltUp = true ∧
    flitOk 0xA (flitOf 0xA) = true ∧ flitOk 0xB (flitOf 0xB) = true ∧
    ((live.sendFlit .bolt 1 0 0).seamEnd .bolt).replay = [⟨1, 0, 0, 0, 1⟩] ∧
    (live.set F.SEAM_STATUS_UP 0).seamUp = false ∧ (live.set F.SEAM_STATUS_UP 0).boltUp = true ∧
    (live.set F.SEAM_STATUS_UP 0).on F.SEAM_CTRL_AUTO_RETRAIN = true ∧
    (live.set F.SEAM_STATUS_UP 0).accepts (.hart 0) R.SEAM_CTRL ∧
    (live.sets [(F.SEAM_STATUS_UP, 0), (F.SEAM_CTRL_RETRAIN, 1)]).on F.SEAM_CTRL_RETRAIN = true ∧
    live.on F.TMP_STATUS_PENDING = false ∧ live.spool.pwr.alarm = 0 ∧ live.spool.lan.queue = [] ∧ live.spool.usb.waiting = [] ∧
    live.spool.pwr.entry = 0 ∧ live.bolt.heldDropped = 0 ∧ live.bolt.keys.run = none := by decide

theorem wit_SeamWasDown : ∃ s : State, s.seamUp = false ∧ s.boltUp = true ∧ s.on F.SEAM_CTRL_RETRAIN = true ∧
    s.on F.TMP_STATUS_PENDING = false ∧ s.spool.pwr.alarm = 0 ∧ s.spool.lan.queue = [] ∧ s.spool.usb.waiting = [] ∧
    s.spool.pwr.entry = 0 ∧ s.bolt.ctl.down = true ∧ s.bolt.heldDropped = 0 ∧ s.bolt.keys.run = none :=
  ⟨{ live.sets [(F.SEAM_STATUS_UP, 0), (F.SEAM_CTRL_RETRAIN, 1)] with bolt.ctl.down := true }, by decide⟩

theorem wit_CounterCommandsSetTheirCounters : live.accepts (.hart 0) R.CNT_CMD := by decide

theorem wit_CountersWrapAndSample :
    (live.setCounter 7 (2 ^ 48 - 1)).boltUp = true ∧ (live.setCounter 7 (2 ^ 48 - 1)).counter 7 = 2 ^ 48 - 1 ∧
    (live.setCounter 7 (2 ^ 48 - 1)).watchers 0x0F03 = [] ∧
    (live.sets [(F.CNT_SAMP_CFG_EN 0, 1), (F.CNT_SAMP_PERIOD_PERIOD 0, 100)]).pathLive (.hart 0) = true ∧
    (live.sets [(F.CNT_SAMP_CFG_EN 0, 1), (F.CNT_SAMP_PERIOD_PERIOD 0, 100)]).on (F.CNT_SAMP_CFG_EN 0) = true ∧
    (live.sets [(F.CNT_SAMP_CFG_EN 0, 1), (F.CNT_SAMP_PERIOD_PERIOD 0, 100)]).get (F.CNT_SAMP_PERIOD_PERIOD 0) ≠ 0 ∧
    live.get (F.CNT_SAMP_CFG_COUNTER 0) ≤ 5 := by decide

theorem wit_DumpsSnapshotsAndRecords : live.accepts (.hart 0) R.CNT_DUMP_NOW ∧ live.boltUp = true ∧
    { live with bolt.snapshot := some ⟨0, 0, 0, false, [], [], []⟩ }.boltUp = true ∧
    live.accepts (.hart 0) R.CNT_NVS_CTRL ∧ live.seamUp = true ∧
    (live.set F.SEAM_STATUS_UP 0).accepts (.hart 0) R.CNT_NVS_CTRL ∧ (live.set F.SEAM_STATUS_UP 0).seamUp = false ∧
    live.spool.nvsQueue = [] ∧ live.snapshotWaits = false ∧ (live.set F.SEAM_STATUS_UP 0).snapshotWaits = false ∧
    (live.nvsPut (.retire 0 5)).spool.nvsQueue = [.retire 0 5] ∧ nextWrite [.retire 0 5] = some (.retire 0 5, []) ∧
    (live.nvsPut (.snapshot 0x7800 [])).spool.nvsQueue = [.snapshot 0x7800 []] ∧
    live.accepts (.hart 0) R.NVS_CMD ∧ live.fuses.lifecycle ≠ 2 := by decide

theorem wit_NoOperationOpen : (live.progInForce.any progOpen) = false := by
  have e : ∀ o, live.nvsBytes o 64 = List.replicate 64 0 := fun o => rfl
  have v : recordValid (List.replicate 64 0) = false := by decide
  rw [List.any_eq_false]
  intro x h
  have hx : x = List.replicate 64 0 := by
    rw [State.progInForce, List.mem_append, List.mem_map, List.mem_map] at h
    rcases h with ⟨a, _, h⟩ | ⟨a, _, h⟩
    · rw [← h]; simp only [e, v, Bool.false_and]; rfl
    · rw [← h, e]
  rw [hx, progOpen, v]
  exact Bool.false_ne_true

theorem wit_Deployed : { live with fuses.lifecycle := 2 }.accepts (.hart 0) R.NVS_CMD ∧
    { live with fuses.lifecycle := 2 }.fuses.lifecycle = 2 := by decide

theorem wit_RingTimeFollowsAndFallsBack : live.boltUp = true ∧
    ((live.setTrunkTime 0 { TrunkTime.reset with live := true, since := 4 }).trunkTime 0).live = true ∧
    ((live.setTrunkTime 0 { TrunkTime.reset with live := true, since := 4 }).trunkTime 0).since = 4 ∧
    { live.set F.CLK_STATUS_SYNC 5 with bolt.time.outside := 8, bolt.time.holdover := 8000 }.boltUp = true ∧
    { live.set F.CLK_STATUS_SYNC 5 with bolt.time.outside := 8 }.get F.CLK_STATUS_SYNC = syHoldover ∧
    (live.sets [(HUnit.clk.state, 2), (F.RNG_STATUS_ROLE, 2), (F.CLK_CTRL_PPS_EN, 1)]).isOn .clk = true ∧
    (live.sets [(HUnit.clk.state, 2), (F.RNG_STATUS_ROLE, 2), (F.CLK_CTRL_PPS_EN, 1)]).isMaster = true ∧
    (live.sets [(HUnit.clk.state, 2), (F.RNG_STATUS_ROLE, 2), (F.CLK_CTRL_PPS_EN, 1)]).on F.CLK_CTRL_PPS_EN = true ∧
    live.get F.CLK_STATUS_SYNC = syFree ∧ live.on F.CLK_CTRL_PPS_EDGE = false ∧ live.bolt.time.ppsLast = none ∧
    live.boltPowered = true ∧ (live.set F.CLK_STATUS_SYNC 2).get F.CLK_STATUS_SYNC = syPpsLocked ∧
    { live with bolt.running := false }.boltPowered = true ∧ live.spool.boltHeld = false ∧ live.spool.refclk = true ∧
    live.bolt.testN = true ∧ live.isOn (.pcbQuad 0) = false ∧ live.bolt.bootLink = false ∧
    bit ((live.set F.CLK_STATUS_PCIE_REF_OK 1).get F.CLK_STATUS_PCIE_REF_OK) 0 = true ∧
    (live.timeReaches 9).trunkTime 0 = TrunkTime.reset ∧ TrunkTime.reset.delays = [] := by decide

/-- A hub whose CLK is ON and whose east neighbour offers ring time. -/
def following : State :=
  (live.sets [(HUnit.clk.state, 2), (F.LANE_PORT_STATUS_BRING 0, 9)]).setTrunkTime 0
    { TrunkTime.reset with live := true, hops := 0, sync := syFree }

theorem wit_TimeFromTheSource : following.boltUp = true ∧
    let r := following.timeReaches 200
    let t := ((r.setTrunkTime 0 { r.trunkTime 0 with
      lastTx := 100, lastAt := 200, delays := [60], live := true, hops := 0, master := 1, epoch := 0, sync := 0,
      meas := [(100, r.bolt.time.ticks)] }).set F.CLK_DELAY_E_DELAY (ofSigned 32 60)).reviewSource
    t.bolt.time.source = some 0 ∧ t.isOn .clk = true ∧ t.isMaster = false := by decide

theorem wit_FirmwareWritesItsOwnRecord : live.accepts (.hart 0) R.FLT_SW_CMD ∧ live.seamUp = true ∧
    (live.set F.SEAM_STATUS_UP 0).accepts (.hart 0) R.FLT_SW_CMD ∧ (live.set F.SEAM_STATUS_UP 0).seamUp = false ∧
    live.bolt.held.length < 64 := by decide

/-- A line stitch whose CHK holds. -/
def stitchOf (type seq : Nat) (payload : BitVec 512) : Stitch := ⟨BitVec.ofNat 16 (markerOf type seq payload), payload⟩

/-- A live hub whose trunk P0 is in a bring-up state. -/
def bringAt (b : Nat) : State := live.sets [(F.LANE_PORT_STATUS_STATE 0, 2), (F.LANE_PORT_STATUS_BRING 0, b)]

theorem wit_StitchesAreReceived : (bringAt 9).boltUp = true ∧ (bringAt 9).bring (lanePort (0 : Fin 20)) = 9 ∧
    (bringAt 9).on (F.LANE_PRBS_STATUS_RAW 0) = false ∧ ((bringAt 9).port 0).hunting = false ∧
    (live.set (F.LANE_STATUS_BLOCK_LOCK 0) 1).lockLost 0 = false ∧ (live.lane 0).rxBits = [] ∧
    stOk (stitchOf 3 0 0) = true ∧ stOk ⟨0, 0⟩ = false ∧ (live.lineRx 0 ⟨0, 0⟩).lockLost 0 = true ∧
    ((live.set (F.LANE_STATUS_BLOCK_LOCK 0) 1).lineRx 0 (stitchOf 3 0 0)).lockLost 0 = false ∧
    stType (stitchOf 6 0 0) = tyKeep ∧ stType (stitchOf 4 0 0) = tyAlign ∧ stType (stitchOf 2 0 0) = tyIdle ∧
    ((live.setLane 0 { LaneSt.reset with rxBad := 7 }).lane 0).rxBad = 7 ∧
    ((live.setLane 0 { LaneSt.reset with alignRow := some 4 }).laneRow 0) = some 5 ∧ stSeq (stitchOf 2 5 0) = 5 ∧
    popCount 512 (1 : BitVec 512).toNat ≠ 0 ∧ (1 : Fin 20) ∈ (portLanes (lanePort (0 : Fin 20))).map (Fin.ofNat 20) ∧
    (live.lane 1).alignRow = none ∧ ((live.setLane 0 { LaneSt.reset with rxScr := some 1 }).lane 0).rxScr.isSome = true ∧
    (bringAt 6).bring 0 = 6 ∧ (bringAt 6).compatible 0 (BitVec.toNat (0 : BitVec 512)) = false := by
  decide

/-- The search's state one bit before its fourth good stitch in a position. -/
def nearLock : LaneSt := { LaneSt.reset with
  rxBits := (stitchLine (markerOf 3 0 0) 0).take 527, cands := [(1, false, 3)] }

theorem wit_FourthGoodStitch : ∃ b : Bool, nearLock.rxBits.length = 527 ∧ candGood nearLock.cands ((nearLock.phase + 1) % 528) false = 3 ∧
    stOk (stitchFrom (nearLock.rxBits ++ [b]) false) = true ∧ stOk (stitchFrom (nearLock.rxBits ++ [b]) (!false)) = false ∧
    (nearLock.rxBits ++ [b]).length = 528 := ⟨false, by decide⟩

theorem wit_BringUpAdvances : (bringAt 2).boltUp = true ∧ (bringAt 2).bring 0 = 2 ∧ (bringAt 3).bring 0 = 3 ∧
    (bringAt 11).bring 0 = 11 ∧ (bringAt 10).bring 0 = 10 ∧ (bringAt 10).boltUp = true ∧
    (live.sets [(F.TCP_PORT_STATUS_ALT 0, 1), (F.LANE_PORT_STATUS_BRING 2, 9)]).inAlt 2 = true ∧
    (live.sets [(F.TCP_PORT_STATUS_ALT 0, 1), (F.LANE_PORT_STATUS_BRING 2, 9)]).bring 2 = 9 ∧
    ((live.setPort 0 { PortSt.reset with sending := true }).port 0).sending = true ∧
    (bringAt 9).accepts (.hart 0) (R.LANE_PORT_CTRL 0) ∧ (bringAt 9).get (F.LANE_PORT_STATUS_STATE 0) = 2 ∧
    (live.set (F.LANE_PORT_STATUS_STATE 0) 1).get (F.LANE_PORT_STATUS_STATE 0) = 1 ∧
    (live.set (F.LANE_STATUS_BLOCK_LOCK 0) 1).dfeRuns 0 = true ∧ (live.lane 0).votes.getD 0 (0, 0) = (0, 0) ∧
    (live.set (F.LANE_DFE_CTRL_MU_SHIFT 0) 0).get (F.LANE_DFE_CTRL_MU_SHIFT 0) = 0 ∧ (portLanes 0)[0]? = some 0 ∧
    (live.setPort 0 { PortSt.reset with sending := true }).keepMay 0 0 = true ∧ live.accepts (.hart 0) (R.LANE_DFE_CTRL 0) := by decide

theorem wit_PrbsAndModules : live.accepts (.hart 0) (R.LANE_PRBS_CTRL 0) ∧ live.laneHeld 0 = false ∧
    (live.set (F.LANE_PORT_CTRL_ENABLE 0) 1).laneHeld 0 = true ∧
    (live.set (F.LANE_PORT_CTRL_ENABLE 0) 1).accepts (.hart 0) (R.LANE_PRBS_CTRL 0) ∧
    getBits (3 : Word) 0 2 ≠ 0 ∧ getBits (3 : Word) 0 6 = 3 ∧ getBits (1 : Word) 0 6 = 1 ∧ getBits (0 : Word) 0 6 = 0 ∧
    (live.set (F.LANE_PRBS_CTRL_CHK 0) 1).on (F.LANE_PRBS_CTRL_CHK 0) = true ∧
    (live.set (F.LANE_PRBS_STATUS_LOCK 0) 1).on (F.LANE_PRBS_STATUS_LOCK 0) = true ∧ live.on (F.LANE_PRBS_STATUS_LOCK 0) = false ∧
    (live.mod 0).goWait = none ∧ (live.mod 0).polling = false ∧ (live.mod 0).readyWait = none ∧
    ((live.setMod 0 { ModSt.reset with pollWait := some (true, 0, 0, 0) }).mod 0).pollWait = some (true, 0, 0, 0) ∧
    live.on (F.LANE_MOD_CTRL_AUTO 0) = true ∧ (live.mod 0).inserted = false ∧ (live.mod 0).cmd = none ∧
    ((live.setMod 0 { ModSt.reset with inserted := true, waitMs := 1990 }).mod 0).waitMs = 1990 ∧
    live.on (F.LANE_MOD_STATUS_READY 0) = false ∧ live.accepts (.hart 0) (R.LANE_MOD_CTRL 0) ∧
    live.accepts (.hart 0) (R.LANE_MOD_CMD 0) ∧ live.bolt.mods.length = 2 ∧ live.bolt.lanes.length = 20 ∧
    ((live.setMod 0 { ModSt.reset with cmd := some (4, true, 0) }).mod 0).cmd = some (4, true, 0) := by decide

theorem wit_ModulesAndChecker :
    (chkBits 0 false [] PrbsChk.reset 0 0).1.run < 256 ∧ (chkBits 0 false [false] ⟨0, 7, 255, []⟩ 0 0).1.run = 256 ∧
    (chkBits 0 false [false] ⟨0, 7, 255, []⟩ 0 0).2.2.2 = [] ∧
    32 < ((chkBits 0 true [true] ⟨0, 7, 0, List.replicate 32 true⟩ 0 0).1.window.filter id).length := by decide

theorem wit_ManagedModule : ∃ s : State, s.boltUp = true ∧ s.bolt.pat.inForce.media.getD (0 : Fin 2) 0 = 0 ∧
    s.on (F.LANE_MOD_CTRL_AUTO 0) = true :=
  ⟨{ live with bolt.pat.inForce.media := [0, 0] }, by decide⟩

/-- A live hub with TUN ON, address 5, and entry 3 with four words: tunnel 9, class 1, port P8. -/
def withEntry (flags service : Nat) (f : Entry → Entry) : State :=
  (live.sets [(HUnit.tun.state, 2), (F.RNG_ADDR_ADDR, 5)]).mapEntry 3 fun e => f { e with
    valid := true, w0 := 9 + 2 ^ 12 + service * 2 ^ 15 + flags * 2 ^ 18, w1 := 7 + 8 * 2 ^ 16, w3 := 4 + 16 * 2 ^ 8 }

/-- A frame of tunnel 9. -/
def frameOf (kind seq : Nat) (svc : BitVec 39) (payload : List Byte) : Frame :=
  ⟨⟨9, 1, BitVec.ofNat 4 kind, BitVec.ofNat 16 seq, BitVec.ofNat 14 payload.length, 7, 5, false, false, false, false, 0, true, false, svc⟩,
    payload⟩

theorem wit_ReliableSink : ∃ (s : State) (f g h k : Frame), s.boltUp = true ∧ s.isOn .tun = true ∧ s.entryOf 9 = some 3 ∧
    f.hdr.tunnel = 9 ∧ (s.entry 3).sink = true ∧ (s.entry 3).service = svReliable ∧ (s.entry 3).held = [] ∧
    (f.hdr.seq.toNat + 65536 - (s.entry 3).rcvNxt) % 65536 = 0 ∧ (s.entry 3).sinceAck + 1 < s.get F.TUN_ARQ_CFG_ACK_EVERY ∧
    (g.hdr.seq.toNat + 65536 - (s.entry 3).rcvNxt) % 65536 = 255 ∧ (h.hdr.seq.toNat + 65536 - (s.entry 3).rcvNxt) % 65536 = 32768 ∧
    (k.hdr.seq.toNat + 65536 - (s.entry 3).rcvNxt) % 65536 = 256 :=
  ⟨(withEntry 2 2 id).set F.TUN_ARQ_CFG_ACK_EVERY 16, frameOf 3 0 0 [], frameOf 3 255 0 [], frameOf 3 32768 0 [],
    frameOf 3 256 0 [], by decide⟩

theorem wit_ReliableSource : ∃ (s : State) (f : Frame), s.boltUp = true ∧ s.isOn .tun = true ∧
    s.entryOf f.hdr.tunnel.toNat = some 3 ∧ (s.entry 3).valid = true ∧ (s.entry 3).source = true ∧
    (s.entry 3).service = svReliable ∧ (s.entry 3).dead = false ∧ leAt f.payload 0 8 = 0 ∧ s.bolt.swb.frames = [] ∧
    s.bolt.swb.badRows = [] ∧ (∀ x ∈ s.bolt.tun, x.2.dead = false) ∧ (s.entry 3).credit = false ∧ (s.entry 3).localPort ≠ 10 ∧
    (f.hdr.seq.toNat + 65536 - (s.entry 3).una) % 65536 ≤ ((s.entry 3).nxt + 65536 - (s.entry 3).una) % 65536 ∧
    f.hdr.seq.toNat ≠ (s.entry 3).una ∧ (s.entry 3).una ≠ (s.entry 3).nxt ∧ (s.entry 3).timeout ≤ (s.entry 3).timer ∧
    s.get F.TUN_ARQ_CFG_RETRY_MAX ≠ 0 ∧ s.get F.TUN_ARQ_CFG_RETRY_MAX ≤ (s.entry 3).expiries + 1 ∧
    (s.set F.TUN_ARQ_CFG_RETRY_MAX 0).get F.TUN_ARQ_CFG_RETRY_MAX = 0 :=
  ⟨(withEntry 1 2 fun e => { e with nxt := 4, timer := 500 }).set F.TUN_ARQ_CFG_RETRY_MAX 1, frameOf 4 2 0 [], by decide⟩

theorem wit_DatagramSink : ∃ (s : State) (f : Frame), s.boltUp = true ∧ s.isOn .tun = true ∧
    s.entryOf f.hdr.tunnel.toNat = some 3 ∧ (s.entry 3).sink = true ∧ (s.entry 3).service = svDatagram ∧
    s.curPath 3 (hBucket f.hdr) = some (b2n f.hdr.path) ∧ (s.entry 3).perBucket = true ∧
    s.curPath 3 (leAt f.payload 1 1 % 64) = some (leAt f.payload 0 1 % 2) ∧ s.curPath 3 1 = none :=
  ⟨withEntry 2 3 fun e => { e with perBucket := true, basePath := [(0, 0)] }, frameOf 5 2 0 [], by decide⟩

theorem wit_HoldRunsOut : ∃ (s : State) (h : Hold) (f : Frame), s.boltUp = true ∧
    ((s.entry 3).holds.find? fun x => x.bucket = 0) = some h ∧ h.frames = [f] ∧ s.get F.TUN_KNOT_CFG_TIMEOUT ≤ h.age ∧ s.curPath 3 0 = some 1 :=
  ⟨withEntry 2 3 fun e => { e with basePath := [(0, 1)], holds := [⟨0, [frameOf 5 2 0 []], 70000⟩] }, ⟨0, [frameOf 5 2 0 []], 70000⟩,
    frameOf 5 2 0 [], by decide⟩

theorem wit_TunnelCommits : live.accepts (.hart 0) R.TUN_COMMIT ∧
    (live.written R.TUN_COMMIT (commitValue 5 false false)).commitRefusal 5 false
      ((List.range 4).map fun k => (live.shadowWord 5 k).toNat) = some 0x0503 := by decide

theorem wit_CommitTaken : ∃ s : State, s.accepts (.hart 0) R.TUN_COMMIT ∧
    (s.written R.TUN_COMMIT (commitValue 5 false false)).commitRefusal 5 false
      ((List.range 4).map fun k => (s.shadowWord 5 k).toNat) = none ∧
    (s.written R.TUN_COMMIT (commitValue 3 false true)).commitRefusal 3 true [] = none :=
  ⟨{ (withEntry 4 0 id).setShadow 5 0 (0x00100007) with bolt.pat.holds := true }, by decide⟩

theorem wit_CommitEffect : ∃ s : State, s.boltUp = true ∧ (s.entry 3).pending = some (true, false, []) ∧ (s.entry 3).holds = [] ∧
    (s.entry 3).una = (s.entry 3).nxt ∧ (s.entry 3).valid = true ∧ s.get F.TUN_ARQ_CFG_PROG_S ≠ 0 :=
  ⟨(withEntry 4 0 fun e => { e with pending := some (true, false, []) }).set F.TUN_ARQ_CFG_PROG_S 10, by decide⟩

/-- A frame stored for the local port P8 alone. -/
def storedOf (st : CopyState) (residue : Option Nat) : Stored :=
  ⟨frameOf 1 0 0 [], 3, 0, [7], .anchor 8 1, 0, 0, 0, true, 1, 1, [⟨qKey 3 0 2, 8, st, false, 0, 0, false⟩], residue, false, none, false⟩

theorem wit_SwitchEventsAndCredit : live.boltUp = true ∧ (live.port 0).ing = none ∧
    (live.bolt.swb.waitLocal.any fun x => x.ingress = 0) = false ∧
    (live.sets [(HUnit.swb.state, 2), (F.SWB_CTRL_SCRUB_EN, 1)]).isOn .swb = true ∧
    (live.sets [(HUnit.swb.state, 2), (F.SWB_CTRL_SCRUB_EN, 1)]).on F.SWB_CTRL_SCRUB_EN = true ∧
    live.get F.SWB_SCRUB_STATUS_CELL + 1 < 196608 ∧
    196608 ≤ (live.set F.SWB_SCRUB_STATUS_CELL 196607).get F.SWB_SCRUB_STATUS_CELL + 1 ∧
    live.bolt.ports.length = 12 ∧ (live.port 0).granted.length = 8 ∧ (live.port 0).recv.length = 8 ∧
    (live.set F.SWB_STATUS_PAUSING 1).on F.SWB_STATUS_PAUSING = true ∧ live.get F.SWB_FREE_HIGH_CELLS ≤ live.freeCount ∧
    { live with bolt.swb.freeCells := [] }.freeCount < (live.set F.SWB_FREE_HIGH_CELLS 9).get F.SWB_FREE_HIGH_CELLS ∧
    live.accepts (.hart 0) R.SWB_ECC_INJECT ∧ (live.written R.SWB_ECC_INJECT 6).on F.SWB_ECC_INJECT_ARM = true := by
  decide

theorem wit_PortWithStoredFrame : ∃ (s : State) (x : Stored), s.boltUp = true ∧ (s.port 8).onWire = some (4, qKey 3 0 2) ∧
    s.stored 4 = some x ∧ x.complete = true ∧ x.poisoned = false ∧ x.cells ≠ [] ∧ s.readBits x.cells < 3 ∧ s.elrek 8 = false ∧
    s.bolt.swb.frames = [(4, x)] ∧ (x.residue.any fun r => s.get F.SWB_MC_CFG_RESIDUE < r) = true ∧ (s.entry 3).service ≠ svReliable ∧
    (x.copies.filter Copy.unstarted) ≠ [] :=
  ⟨{ live with
      bolt.ports := (List.range 12).map fun p => if p = 8 then { PortSt.reset with onWire := some (4, qKey 3 0 2) } else PortSt.reset
      bolt.swb.frames := [(4, storedOf .queued (some 4000000))] }, storedOf .queued (some 4000000), by decide⟩

theorem wit_ElrekPortUp : ∃ s : State, s.boltUp = true ∧ s.elrek 0 = true ∧ s.portUp 0 = true ∧
    (s.port 0).stall.getD 0 none = some ⟨4, 1000000, false⟩ ∧ s.get F.SWB_CREDIT_CFG_STALL_CYCLES ≤ 1000000 ∧ (s.entry 3).drain = some (1, [], 0) :=
  ⟨{ (bringAt 9).setPort 0 { PortSt.reset with stall := [some ⟨4, 1000000, false⟩] } with
      bolt.pat.inForce.trunkEn := 3, bolt.tun := [(3, { Entry.reset with drain := some (1, [], 0) })] }, by decide⟩

/-- A live hub with one stored frame whose copy for P8 is placed or waits at its threshold. -/
def placed (p : Nat) (slots : List Placement) (st : CopyState) : State :=
  { live with
    bolt.sch.ports := (List.range 12).map fun q => if q = p then { PortSched.reset with slots := slots } else PortSched.reset
    bolt.swb.frames := [(4, storedOf st none)] }

theorem wit_SchedulerEvents :
    ((placed 8 [⟨0, 0, 9, 4, 50, 1, 0, 0, 0, false⟩] .placed).psch 8).slots = [⟨0, 0, 9, 4, 50, 1, 0, 0, 0, false⟩] ∧
    (((placed 8 [⟨0, 0, 9, 4, 50, 1, 0, 0, 0, false⟩] .placed).psch 8).slots.find? fun z => !z.isFixed) =
      some ⟨0, 0, 9, 4, 50, 1, 0, 0, 0, false⟩ ∧
    live.absPs 0 0 < cyclePs ∧ live.absPs 0 0 - live.get F.SCH_STAGE_CFG_LEAD_NS * 1000 < cyclePs ∧
    (live.port 8).onWire = none ∧ (placed 8 [] .placed).stored 4 = some (storedOf .placed none) ∧
    (placed 8 [] .placed).mayStart 8 1 1 = true ∧
    live.accepts (.hart 0) R.SCH_SAMP_CTRL ∧ (live.written R.SCH_SAMP_CTRL 2).on F.SCH_SAMP_CTRL_CLEAR = true := by decide

/-- The same with a copy that waits for its threshold. -/
def lateCopy (s : State) (y : Placement) : State := { s with
  bolt.sch.ports := (List.range 12).map fun q => if q = 8 then { PortSched.reset with late := [y] } else PortSched.reset }

theorem wit_CutThrough : ∃ (s : State) (y : Placement) (x : Stored), s.boltUp = true ∧ (s.psch 8).late = [y] ∧
    (s.port 8).onWire = none ∧ s.stored y.frame = some x ∧ s.threshold x 8 ≤ x.got ∧
    (s.fits 8 y.cls s.cycle s.bolt.sch.now (s.lastsPs 8 y.cl) && s.mayStart 8 y.cls (cellsOf x.frame.hdr.length.toNat)) = true :=
  ⟨lateCopy (placed 8 [] .threshold) ⟨0, 0, 9, 4, 50, 1, 0, 0, 0, false⟩, ⟨0, 0, 9, 4, 50, 1, 0, 0, 0, false⟩,
    storedOf .threshold none, by decide⟩

theorem wit_NoCredit : ∃ s : State, s.boltUp = true ∧ (s.psch 0).slots = [⟨0, 0, 9, 4, 48, 1, 0, 0, 0, false⟩] ∧
    (s.port 0).onWire = none ∧ (s.stored 4).isSome = true ∧ s.mayStart 0 1 1 = false :=
  ⟨{ placed 0 [⟨0, 0, 9, 4, 48, 1, 0, 0, 0, false⟩] .placed with bolt.pat.inForce.trunkEn := 3 }, by decide⟩

/-- An allotment message: OP, ARG, PLAN and CYCLE from node 7. -/
def altFrame (op arg plan cyc : Nat) : Frame := frameOf 6 0 0 (altPayload op arg 7 plan cyc 0 0 0)

/-- A live hub in the ring, with checked basted and alarm banks of plans 30 and 40, plan 20 sewn. -/
def sewable : State :=
  { live.sets [(HUnit.rng.state, 2), (HUnit.altBaste.state, 2), (HUnit.altAlarm.state, 2), (F.ALT_SEWN_PLAN_PLAN, 20),
      (F.ALT_BASTE_STATUS_PREV, 1), (F.ALT_CMD_PLAN_PLAN, 30), (F.RNG_ADDR_ADDR, 5), (F.LANE_PORT_STATUS_BRING 0, 9),
      (F.ALT_CMD_TARGET_CYCLE, 100), (F.ALT_ALARM_PLAN_PLAN, 40)] with
    bolt.alt := { live.bolt.alt with
      banks := [[(0, 20)], [(0, 30)], [(0, 40)]], roles := [0, 1, 2], checked := [true, true, true] } }

theorem wit_AllotmentMessages : sewable.boltUp = true ∧ sewable.isOn .rng = true ∧ actsOnce sewable (altFrame 2 0 30 100) (sewable.ringNote (altFrame 2 0 30 100) true) ∧
    (sewable.bolt.alt.seen.any fun x => x.1 = 2 && x.2.1 = 30 && x.2.2.1 = 100) = false ∧
    sewable.on F.ALT_ALARM_STATUS_IN_FORCE = false ∧ sewable.bolt.alt.alarm = none ∧ sewable.unpickAhead 30 = none ∧
    aPlan (altFrame 2 0 30 100) = 30 ∧ aCycle (altFrame 2 0 30 100) = 100 ∧ aArg (altFrame 2 0 30 100) = 0 ∧
    sewable.bankPlan 1 = 30 ∧ (sewable.bolt.alt.sew.any fun c => c.plan = 30) = false ∧ sewable.isOn .altBaste = true ∧
    lateFor sewable.cycle 100 = false ∧ sewable.bankPlan 2 = 40 ∧ sewable.isOn .altAlarm = true ∧
    later ((sewable.cycle + 4) % 2 ^ 32) 100 = false ∧ sewable.get F.ALT_SEWN_PLAN_PLAN = 20 ∧ sewable.bolt.alt.sew = none ∧
    sewable.on F.ALT_BASTE_STATUS_PREV = true ∧ sewable.get F.ALT_CMD_PLAN_PLAN = 30 ∧ aArg (altFrame 4 5 30 0) = 5 ∧
    aArg (altFrame 4 3 30 0) = 3 ∧ sewable.get HUnit.altBaste.state = 2 ∧
    (sewable.set HUnit.altBaste.state 3).isOn .altBaste = false ∧
    (sewable.set HUnit.altBaste.state 3).get HUnit.altBaste.state = 3 := by
  refine ⟨?_, ?_, .inl ⟨by decide, rfl⟩, ?_⟩ <;> decide

theorem wit_SeenAndPending : ∃ (s t : State) (x : Nat × Nat × Nat × Bool), s.boltUp = true ∧
    s.ringSeen (altFrame 2 0 30 100) = some x ∧ x.2.2.2 = true ∧
    t.bolt.alt.sew = some ⟨30, 100, 7⟩ ∧ later 50 100 = false ∧ lateFor sewable.cycle 50 = false ∧
    (t.bolt.alt.seen.any fun x => x.1 = 2 && x.2.1 = 30 && x.2.2.1 = 100) = true :=
  ⟨sewable.ringNote (altFrame 2 0 30 100) true,
    { sewable with bolt.alt := { sewable.bolt.alt with sew := some ⟨30, 100, 7⟩, seen := [(2, 30, 100, 0)] } },
    (ringKey (altFrame 2 0 30 100), 0, 0, true), by decide⟩

theorem wit_AllotmentCommands : live.accepts (.hart 0) R.ALT_CMD_PLAN ∧ live.accepts (.hart 0) R.ALT_CMD ∧
    (live.written R.ALT_CMD 1).noTrunk = true ∧ sewable.accepts (.hart 0) R.ALT_CMD ∧
    (sewable.written R.ALT_CMD 1).noTrunk = false ∧
    (sewable.written R.ALT_CMD 1).tooNear ((sewable.written R.ALT_CMD 1).get F.ALT_CMD_TARGET_CYCLE) = false ∧
    (sewable.written R.ALT_CMD 1).notReady = none ∧ (sewable.written R.ALT_CMD 1).alarmOn = false ∧
    (sewable.written R.ALT_CMD 3).loadHolds = false ∧ (live.get HUnit.altBaste.state ≠ 1) ∧
    (live.set HUnit.altBaste.state 1).get HUnit.altBaste.state = 1 ∧
    { live with spool.pwr := { live.spool.pwr with alarm := 1 }, spool.committedOnce := true }.spool.aon = true ∧
    { live with spool.pwr := { live.spool.pwr with alarm := 1 }, spool.committedOnce := true }.alarmMay = true := by decide

/-- A ring message of node 7 to address 5. -/
def ringMsg (op : Nat) (payload : List Byte) : Frame := frameOf 6 1 (BitVec.ofNat 39 (svcRing op 0 1 false false)) payload

/-- A live hub with RNG ON and an address. -/
def inRing (addr role : Nat) : State := live.sets [(HUnit.rng.state, 2), (F.RNG_ADDR_ADDR, addr), (F.RNG_STATUS_ROLE, role),
  (F.RNG_STATUS_RING, 2)]

theorem wit_RingMessages : (inRing 5 1).boltUp = true ∧ (inRing 5 1).isOn .rng = true ∧ ringLenOk (ringMsg 0 []) = false ∧
    ringLenOk (ringMsg opMsg [1]) = true ∧ (inRing 5 1).ringMine (ringMsg opMsg [1]) = true ∧
    (inRing 5 1).ringSeen (ringMsg opMsg [1]) = none ∧ ((inRing 5 1).ringNote (ringMsg opMsg [1]) false).ringSeen (ringMsg opMsg [1]) ≠ none ∧
    (inRing 5 1).cycle = 0 ∧ rToMaster (ringMsg opMsg [1]).hdr = false ∧
    rFromMaster (ringMsg opMsg [1]).hdr = false ∧ rOp (ringMsg opMsg [1]).hdr = opMsg ∧
    ringLenOk (ringMsg opBeacon (List.replicate 32 0)) = true ∧ (inRing 5 1).isMaster = false ∧
    (inRing 5 1).roleVerdict (ringMsg opBeacon (List.replicate 32 0)) = 0 ∧
    (inRing 5 1).sameRing (ringMsg opBeacon (List.replicate 32 1)) = false ∧
    rOp (ringMsg opAnnounce (List.replicate 20 0)).hdr = opAnnounce ∧ rHops (ringMsg opAnnounce (List.replicate 20 0)).hdr ≠ 0 ∧
    (inRing 5 1).get F.RNG_STATUS_RING = 2 ∧ rOp (ringMsg opEdge ([0, 2] ++ List.replicate 10 0)).hdr = opEdge ∧
    leAt (ringMsg opEdge ([0, 2] ++ List.replicate 10 0)).payload 1 1 = 2 ∧ (inRing 5 1).ownCause 0 ≠ 3 ∧
    (inRing 5 1).ringRole = 1 ∧ (inRing 5 1).bolt.rng.better = none ∧ ringLenOk (ringMsg opClaim (List.replicate 24 0)) = true ∧
    ringLenOk (ringMsg opRollcall (List.replicate 36 0)) = true ∧ (inRing 5 2).isMaster = true ∧
    (inRing 5 2).ringActs opTaken (ringMsg opTaken (List.replicate 24 0)) = true ∧
    (inRing 5 2).ringActs opJoinReq (ringMsg opJoinReq (List.replicate 24 0)) = true ∧
    (inRing 5 2).ringActs opHeal (ringMsg opHeal (List.replicate 8 0)) = true ∧
    (inRing 5 2).ringActs opNak (ringMsg opNak (List.replicate 8 0)) = true ∧
    (inRing 5 2).ringActs opMsg (ringMsg opMsg [1]) = true ∧
    (inRing 5 2).ringActs opForget (ringMsg opForget (List.replicate 4 0)) = true := by decide

theorem wit_MoreRingMessages : (inRing 5 1).sameRing (ringMsg opBeacon (List.replicate 32 0)) = true ∧
    (inRing 5 2).ringActs opOpening (ringMsg opOpening ([3, 1, 0, 0] ++ leBytes 4 100)) = true ∧
    later (inRing 5 2).cycle ((leAt (ringMsg opOpening ([3, 1, 0, 0] ++ leBytes 4 100)).payload 4 4 + 2 ^ 32 - 4) % 2 ^ 32) = false ∧
    (inRing 5 2).ringActs opJoinAck (ringMsg opJoinAck ([2, 5] ++ List.replicate 6 0 ++ leBytes 16 (inRing 5 2).uid)) = true ∧
    ({ inRing 5 1 with bolt.rng := { Ring.reset with mail := List.replicate 16 ⟨0, false, []⟩ } }).bolt.rng.mail.length = 16 ∧
    ({ inRing 5 2 with bolt.rng := { Ring.reset with census := [(0, ⟨1, 0⟩)] } }).ringActs opTaken
      (ringMsg opTaken (List.replicate 24 0)) = true ∧
    (lookupKey 0 [((0 : Nat), (⟨1, 0⟩ : Census))]).any (fun c => c.uid != 0) = true ∧
    (inRing 5 2).bolt.pat.inForce.siteId ≠ 9 := by decide

theorem wit_RollCallAnswered : ∃ f : Frame, (inRing 0 0).ringActs opRollcall f = true ∧ (inRing 0 0).addr = 0 ∧
    (inRing 0 0).bolt.rng.taken = none ∧ findFirst (fun i => bit (leAt f.payload 0 32) (i + 1)) 250 = some 0 :=
  ⟨{ ringMsg opRollcall ([2] ++ List.replicate 35 0) with
    hdr := { (ringMsg opRollcall ([2] ++ List.replicate 35 0)).hdr with dst := 0 } }, by decide⟩

theorem wit_RingTimers : (inRing 5 1).boltUp = true ∧ (inRing 5 1).isOn .rng = true ∧ (inRing 5 1).addr ≠ 0 ∧
    (inRing 5 1).isMaster = false ∧ ((inRing 5 1).set F.RNG_CFG2_ANNOUNCE 0).get F.RNG_CFG2_ANNOUNCE ≤ 0 ∧
    (inRing 5 1).ringRole ≠ 2 ∧ (inRing 5 1).ringRole ≠ 3 ∧ (inRing 5 1).bolt.rng.noStand = false ∧
    (inRing 5 1).bolt.rng.better = none ∧ (inRing 5 1).get F.RNG_CFG_CLAIM_WAIT ≤ 60000 ∧
    (inRing 5 1).get F.RNG_CFG2_ROLL_WAIT ≤ 60000 ∧ (inRing 5 1).spool.pwr.entry = 0 ∧
    ((inRing 5 1).set (F.LANE_PORT_CTRL_ENABLE 0) 1).on (F.LANE_PORT_CTRL_ENABLE 0) = true ∧
    later ((inRing 5 1).set F.CLK_CYCLE_CYCLE 1000000).cycle (0 + (inRing 5 1).get F.RNG_CFG_OPEN_DRAIN) = true ∧
    (inRing 5 1).accepts (.hart 0) R.RNG_CMD ∧ ((inRing 5 1).written R.RNG_CMD 1).isMaster = false ∧
    ((inRing 5 2).written R.RNG_CMD 1).isMaster = true ∧ (((inRing 5 1).set F.RNG_CTRL_SPLIT_OK 1).written R.RNG_CMD 3).openRefused = none ∧
    (inRing 5 1).accepts (.hart 0) R.RNG_TX_CTRL ∧ (inRing 5 1).accepts (.hart 0) R.RNG_RX_POP := by decide

theorem wit_BeaconLoss : ∃ s : State, s.boltUp = true ∧ s.isOn .rng = true ∧ s.eligible = true ∧ s.bolt.rng.noStand = false ∧
    s.ringRole ≠ 2 ∧ s.ringRole ≠ 3 ∧ s.get F.RNG_CFG_BEACON_LOSS ≤ s.bolt.rng.beaconAge ∧ s.bolt.rng.better = none :=
  ⟨{ (inRing 5 1).set F.RNG_CTRL_MASTER_EN 1 with
      bolt.rng := { Ring.reset with masterOk := true, beaconAge := 100000 }, bolt.pat.inForce.priority := 3 }, by decide⟩

theorem wit_EdgeHealed : ∃ (s : State) (e x : Edge), s.accepts (.hart 0) R.RNG_CMD ∧ (s.written R.RNG_CMD 4).isMaster = true ∧
    (s.allEdges.find? fun y => y.node = s.get F.RNG_CMD_ARG_ADDR && y.side = s.get F.RNG_CMD_ARG_SIDE) = some e ∧
    s.healable e = some x ∧ (s.bolt.rng.edges.filter fun e => e.age < s.get F.RNG_CFG_EDGE_HOLD).length ≠ s.bolt.rng.edges.length :=
  ⟨{ ((inRing 5 2).set F.RNG_CMD_ARG_ADDR 7).set F.RNG_CFG_EDGE_HOLD 10 with
      bolt.rng := { Ring.reset with
        edges := [⟨7, 0, 5, 0, 8, 50⟩, ⟨8, 1, 5, 0, 7, 0⟩], census := [(7, ⟨1, 0⟩), (8, ⟨2, 0⟩)] } },
    ⟨7, 0, 5, 0, 8, 50⟩, ⟨8, 1, 5, 0, 7, 0⟩, by decide⟩

theorem wit_MailAndBuddy : ∃ s : State, s.accepts (.hart 0) R.RNG_TX_CTRL ∧ s.addr ≠ 0 ∧
    (s.written R.RNG_TX_CTRL 0x10000).get F.RNG_TX_CTRL_LEN = 0 ∧ (s.written R.RNG_TX_CTRL 0x10000).on F.RNG_TX_CTRL_GO = true ∧
    (s.entry 3).valid = true ∧ (s.entry 3).buddy = true ∧ (s.entry 3).sink = true ∧ (s.entry 3).single = false ∧
    s.get F.RNG_CFG2_BUDDY_SINGLE ≤ (s.cycle + 2 ^ 32 - (s.entry 3).lastPath.getD 0 0) % 2 ^ 32 ∧
    later ((s.entry 3).lastPath.getD 1 0) ((s.entry 3).lastPath.getD 0 0) = true :=
  ⟨((withEntry 10 0 fun e => { e with lastPath := [0, 90000] }).set HUnit.rng.state 2).set F.CLK_CYCLE_CYCLE 100000, by decide⟩

/-- Slot 4 VALID, bound to measurement register 1, and its child slot 5. -/
def boundSlots : State :=
  (live.setSlot 4 ⟨2, 1, 1, 64, 2, []⟩).setSlot 5 ⟨2, 0, 2, 4, 0, []⟩

theorem wit_ExtensionRevokesBoundKeys : ∃ r : KeyRun, (boundSlots.slot 5).state = 2 ∧ ReachedByExtension boundSlots 1 5 ∧
    (∀ r, boundSlots.bolt.keys.run = some r → r.slot ≠ 5) ∧
    ReachedByExtension { boundSlots with bolt.keys := { boundSlots.bolt.keys with run := some r } } 1 4 ∧ r.slot = 4 := by
  refine ⟨keyRunOf 4 4 KeySlot.reset [] 0 0, by decide, ?_, ?_, ?_, rfl⟩
  · exact .child 4 5 (.bound 4 (by decide) (by decide) (by decide)) (by decide) (by decide) (by decide)
  · intro r h
    have h' : (none : Option KeyRun) = some r := h
    cases h'
  · exact .bound 4 (by decide) (by decide) (by decide)

/-- A hub whose KEY is ON with slot 3 claimed. -/
def keyed : State := { live.set HUnit.key.state 2 with bolt.pat.inForce.keySlots := 8 }

/-- The same with GENERATE described for slot 3, and an op running. -/
def keyDescribed : State := keyed.sets [(F.KEY_OP_CFG_SLOT, 3), (F.KEY_OP_CFG_TYPE, 1), (F.KEY_OP_CFG_USAGE, 1),
  (F.KEY_OP_CFG_PARENT, 64), (F.KEY_OP_IN_ADDR, 0x10000000), (F.KEY_OP_LEN_LEN, 1)]

theorem wit_KeyOperations : keyDescribed.accepts (.hart 0) R.KEY_OP_GO ∧
    (keyDescribed.written R.KEY_OP_GO 2).on F.KEY_OP_STATUS_BUSY = false ∧
    (keyDescribed.written R.KEY_OP_GO 2).isOn .key = true ∧ (keyDescribed.written R.KEY_OP_GO 2).on F.KEY_STATUS_LOCKED = false ∧
    (keyDescribed.written R.KEY_OP_GO 2).seamUp = true ∧ (keyDescribed.written R.KEY_OP_GO 2).fuses.lifecycle ≠ 3 ∧
    ({ keyDescribed with fuses.lifecycle := 3 } : State).accepts (.hart 0) R.KEY_OP_GO ∧
    (({ keyDescribed with fuses.lifecycle := 3 } : State).written R.KEY_OP_GO 2).fuses.lifecycle = 3 ∧
    (({ keyDescribed with fuses.lifecycle := 3 } : State).written R.KEY_OP_GO 2).on F.KEY_OP_STATUS_BUSY = false ∧
    ((keyDescribed.set F.KEY_OP_STATUS_BUSY 1).written R.KEY_OP_GO 2).on F.KEY_OP_STATUS_BUSY = true ∧
    (keyDescribed.set F.KEY_OP_STATUS_BUSY 1).accepts (.hart 0) R.KEY_OP_GO ∧
    bit keyDescribed.bolt.pat.inForce.keySlots (keyDescribed.get F.KEY_OP_CFG_SLOT) = true ∧
    usageOk (keyDescribed.get F.KEY_OP_CFG_TYPE) (keyDescribed.get F.KEY_OP_CFG_USAGE) = true ∧
    (keyDescribed.slot (keyDescribed.get F.KEY_OP_CFG_SLOT)).state ≠ 1 ∧
    (keyDescribed.slot (keyDescribed.get F.KEY_OP_CFG_SLOT)).state ≠ 2 ∧
    inSram (keyDescribed.get F.KEY_OP_IN_ADDR) (keyDescribed.get F.KEY_OP_LEN_LEN) = true ∧
    keyDescribed.get F.KEY_OP_CFG_PARENT = 64 ∧ keyDescribed.on F.KEY_STATUS_BOOT_LOCK = false ∧ labelOk [0x41] = true := by decide

theorem wit_KeyPlanned : (∃ r : KeyRun, (keyDescribed.written R.KEY_OP_GO 2).planKey 2 = .ok r) ∧
    (keyed.written R.KEY_OP_GO 4).planKey 4 = .error 0x01 :=
  ⟨⟨_, rfl⟩, by rfl⟩

theorem wit_KeyEnds : ∀ op ∈ [1, 4, 8, 9], ∃ r : KeyRun, r.op = op ∧ r.abandoned = false ∧ r.after = none ∧ r.revoked = false ∧
    ({ live with bolt.keys := { live.bolt.keys with run := some r } } : State).boltUp = true ∧
    ({ live with bolt.keys := { live.bolt.keys with run := some r } } : State).seamUp = true := by
  intro op _
  exact ⟨keyRunOf op 3 KeySlot.reset [] 0x10000000 0, rfl, rfl, rfl, rfl, (by decide : live.boltUp = true),
    (by decide : live.seamUp = true)⟩

theorem wit_KeyPauses : keyLogged 1 = true ∧ (live.set F.SEAM_STATUS_UP 0).seamUp = false ∧
    (live.set F.SEAM_STATUS_UP 0).boltUp = true := by decide

/-- A live hub in a lifecycle state, with an owner byte. -/
def aged (n : Nat) (owner : Byte) : State :=
  { live.sets [(F.PAT_STATUS_STRUCTURE, 1)] with fuses := { live.fuses with lifecycle := n, owner := List.replicate 48 owner } }

theorem wit_LifecycleMeasurementAndTamper : (aged 1 0).accepts (.hart 0) R.KEY_LC_CMD ∧
    ((aged 1 0).written R.KEY_LC_CMD 1).fuses.lifecycle = 1 ∧ ((aged 1 0).written R.KEY_LC_CMD 1).ownerZero = true ∧
    (aged 1 7).accepts (.hart 0) R.KEY_LC_CMD ∧ ((aged 1 7).written R.KEY_LC_CMD 2).ownerZero = false ∧
    ((aged 1 7).written R.KEY_LC_CMD 2).on F.PAT_STATUS_STRUCTURE = true ∧
    ((aged 1 7).written R.KEY_LC_CMD 2).on F.PAT_STATUS_UNOWNED = false ∧ (aged 0 0).accepts (.hart 0) R.KEY_LC_CMD ∧
    ((aged 0 0).written R.KEY_LC_CMD 3).fuses.lifecycle = 0 ∧ live.accepts (.hart 0) R.KEY_MR_EXT ∧
    (live.written R.KEY_MR_EXT 5).on F.KEY_MR_EXT_GO = true ∧
    live.accepts (.hart 0) R.KEY_MR_LOCK ∧ (bringAt 8).boltUp = true ∧ (bringAt 8).bring 0 = 8 ∧
    (live.sets [(F.TMP_CTRL_ENABLE, 1), (F.TMP_RESP_EN, 1)]).on F.TMP_CTRL_ENABLE = true ∧
    (live.sets [(F.TMP_CTRL_ENABLE, 1), (F.TMP_RESP_EN, 1)]).spool.aon = true ∧
    bit ((live.sets [(F.TMP_CTRL_ENABLE, 1), (F.TMP_RESP_EN, 1)]).get F.TMP_RESP_EN) 0 = true ∧
    live.accepts (.hart 0) R.TMP_CLEAR ∧
    slice ((((live.sets [(F.TMP_RESP_RESP, 1), (F.TMP_STATUS_ACTIVE, 1)]).written R.TMP_CLEAR 1)).get F.TMP_RESP_RESP) 0 2 = 1 ∧
    bit ((((live.sets [(F.TMP_RESP_RESP, 1), (F.TMP_STATUS_ACTIVE, 1)]).written R.TMP_CLEAR 1)).get F.TMP_STATUS_ACTIVE) 0 = true := by
  decide

/-- A locked KEY whose sensors report nothing. -/
def lockedKeys : State := live.sets [(F.TMP_STATUS_LOCKED, 1), (F.KEY_STATUS_LOCKED, 1), (F.TMP_CTRL_ENABLE, 1), (F.TMP_RESP_EN, 63),
  (F.TMP_VOLT_GLITCH, 10)]

theorem wit_TamperReadings : lockedKeys.accepts (.hart 0) R.TMP_CLEAR ∧
    (lockedKeys.written R.TMP_CLEAR 1).on F.KEY_STATUS_LOCKED = true ∧ (lockedKeys.written R.TMP_CLEAR 1).seamUp = true ∧
    (lockedKeys.written R.TMP_CLEAR 1).get F.TMP_STATUS_ACTIVE = 0 ∧
    lockedKeys.tamperMeets 0 51 = true ∧ lockedKeys.tamperMeets 0 50 = false ∧
    ((aged 1 0).written R.KEY_LC_CMD 1).seamUp = true ∧
    inSram ((((aged 1 0).set F.KEY_OP_IN_ADDR 0x10000000).written R.KEY_LC_CMD 1).get F.KEY_OP_IN_ADDR) 48 = true ∧
    inSram (((aged 1 0).written R.KEY_LC_CMD 1).get F.KEY_OP_IN_ADDR) 48 = false := by decide

/-- A CONFIRM message of one fragment, 4 bytes long. -/
def confirmMsg : BitVec 504 := BitVec.ofNat 504 (2 * 2 ^ 496 + 1 * 2 ^ 480 + 4 * 2 ^ 472)

theorem wit_AgreementAndTamper : slice confirmMsg.toNat 496 8 = 2 ∧ slice confirmMsg.toNat 488 8 = 0 ∧
    slice confirmMsg.toNat 480 8 = 1 ∧ (bringAt 8).get (F.KEY_LINK_CFG_TIMEOUT_MS 0) ≤ 10000 ∧
    (live.written R.KEY_MR_EXT 5).mayExtend (.hart 0) 1 = true ∧ (live.written R.KEY_MR_EXT 6).mayExtend (.hart 0) 2 = false ∧
    slice ((live.sets [(F.TMP_CTRL_ENABLE, 1), (F.TMP_RESP_EN, 1), (F.TMP_RESP_RESP, 1)]).get F.TMP_RESP_RESP) 0 2 = 1 := by decide

theorem wit_AgreementConfirms : ∃ (s : State) (ks : List (List Byte)) (d : List Byte), s.boltUp = true ∧ s.bring 0 = 8 ∧
    (s.link 0).keys = some ks ∧ d.take 32 = confirmOf ks (s.link 0).peerUid := by
  let x : LinkSt := { LinkSt.reset with keys := some [] }
  refine ⟨(bringAt 8).setLink 0 x, [], confirmOf [] (((bringAt 8).setLink 0 x).link 0).peerUid, by decide, by decide, by decide, ?_⟩
  simp [confirmOf, bytesAt]

/-- A live hub in QUIET with PAT_CTRL's ENABLE 1 and a load that has completed a number of steps. -/
def loading (n : Nat) : State :=
  { live.sets [(F.PWR_STATUS_STATE, 2), (F.PAT_STATUS_STATE, 1), (F.PAT_STATUS_STEP, n), (F.PAT_CTRL_ENABLE, 1)] with
    bolt.pat.active := true }

/-- A live hub in QUIET. -/
def idle : State := live.set F.PWR_STATUS_STATE 2

theorem wit_PatternLoadSteps :
    idle.accepts (.hart 0) R.PAT_CTRL ∧ idle.on F.PAT_CTRL_ENABLE = false ∧
    (idle.written R.PAT_CTRL 1).on F.PAT_CTRL_ENABLE = true ∧ (idle.written R.PAT_CTRL 1).startRefused = none ∧
    (idle.written R.PAT_CTRL 7).startRefused = some 0x0201 ∧
    (loading 2).accepts (.hart 0) R.PAT_CTRL ∧ (loading 2).on F.PAT_CTRL_ENABLE = true ∧
    ((loading 2).written R.PAT_CTRL 0).on F.PAT_CTRL_ENABLE = false ∧ ((loading 2).written R.PAT_CTRL 0).bolt.pat.active = true ∧
    ((loading 2).written R.PAT_CTRL 0).bolt.pat.begun = false ∧ ((loading 2).written R.PAT_CTRL 0).get F.PAT_STATUS_STEP < 5 ∧
    5 ≤ ((loading 5).written R.PAT_CTRL 0).get F.PAT_STATUS_STEP ∧
    (loading 3).boltUp = true ∧ (loading 3).seamUp = true ∧ (loading 3).on F.PAT_STATUS_PAUSED = false ∧
    ((loading 3).set F.PAT_STATUS_PAUSED 1).on F.PAT_STATUS_PAUSED = true ∧
    ((loading 3).set F.PAT_STATUS_PAUSED 1).seamUp = true ∧ (loading 3).get F.PAT_STATUS_STEP = 3 ∧
    (loading 4).bolt.pat.begun = false ∧ (loading 4).bolt.pat.todo = [] ∧ (loading 4).bolt.pat.flight = [] ∧
    (loading 2).get F.PAT_CTRL_SRC ≤ 1 ∧ (loading 6).get F.PAT_CTRL_SRC ≠ 2 ∧
    (loading 4).isOn .rng = false ∧ ((loading 4).set F.SEAM_STATUS_UP 0).seamUp = false ∧
    ((loading 4).sets [(HUnit.rng.state, 2), (F.LANE_PORT_STATUS_BRING 0, 9)]).portUp 0 = true ∧
    (loading 6).warmWaits = false ∧ ({ loading 5 with bolt.pat.abandon := true } : State).commitWritten = false := by decide

theorem wit_PatternUnitsEnabled : (loading 5).enableAll (((loading 5).bolt.pat.queued.filter fun y => !isSpool y.2.ctrl) ++
    (loading 5).bolt.pat.queued.filter fun y => isSpool y.2.ctrl) = (loading 5, [], none) := by rfl

/-- A live hub at the ROM's start, with a boot source. -/
def booting (src stage key : Nat) : State :=
  { live.sets [(F.TOP_BOOT_STATUS_BOOT_SRC, src), (F.TOP_BOOT_STATUS_STAGE, stage), (HUnit.key.state, key)] with bolt.testN := true }

theorem wit_BootRomStarts : (booting 0 0 2).bootMay = true ∧ (booting 0 0 2).get F.TOP_BOOT_STATUS_STAGE = 0 ∧
    (booting 0 0 2).isOn .key = true ∧ ((booting 0 0 2).bootStage 1).get F.TOP_BOOT_STATUS_BOOT_SRC = 0 ∧
    ((booting 1 0 2).bootStage 1).get F.TOP_BOOT_STATUS_BOOT_SRC = 1 ∧
    ((booting 3 0 2).bootStage 1).get F.TOP_BOOT_STATUS_BOOT_SRC = 3 ∧ (booting 0 0 0).isOn .key = false ∧
    ((booting 0 0 0).carryOut .key).isOn .key = false ∧ (booting 1 1 2).get F.TOP_BOOT_STATUS_STAGE = 1 ∧
    (booting 1 1 2).bootMay = true ∧ (booting 1 1 2).get F.TOP_HOST_TOKEN_OWNER = 0 ∧ live.spool.pwr.waking = false := by decide

theorem wit_CycleBegins : (live.set HUnit.clk.state 2).isOn .clk = true ∧ (live.set HUnit.clk.state 2).boltUp = true ∧
    live.isOn .clk = false ∧ live.boltUp = true := by decide

/-- A hub with AUD ON in RUN, TDM port 1 ON as a master or a slave. -/
def audLive (master : Nat) : State := live.sets [(HUnit.aud.state, 2), (F.PWR_STATUS_STATE, 1), (HUnit.state (.audTdm 1), 2),
  (F.AUD_TDM_CTRL_MASTER 1, master)]

theorem wit_TdmFramesAreCapturedAndPlayed : (audLive 1).boltUp = true ∧ (audLive 1).isOn .aud = true ∧
    (audLive 1).get F.PWR_STATUS_STATE ≠ 2 ∧ (audLive 1).isOn (.audTdm 1) = true ∧
    (audLive 1).on (F.AUD_TDM_CTRL_MASTER 1) = true ∧ 0 < (audLive 1).samplesPer ∧ (audLive 0).boltUp = true ∧
    (audLive 0).isOn .aud = true ∧ (audLive 0).get F.PWR_STATUS_STATE ≠ 2 ∧ (audLive 0).isOn (.audTdm 1) = true ∧
    (audLive 0).on (F.AUD_TDM_CTRL_MASTER 1) = false ∧ (audLive 0).bolt.aud.expect.getD 1 none = none ∧
    (audLive 0).get (F.AUD_TDM_STATUS_CLOCK 1) ≠ 3 := by decide

theorem wit_TdmIndices : ∀ x ∈ [0, 1, 16383],
    ({ audLive 0 with bolt.aud := { (audLive 0).bolt.aud with expect := setAt (audLive 0).bolt.aud.expect 1 (some x) } }
      : State).bolt.aud.expect.getD 1 none = some x ∧ (audLive 0).sampleIx 0 0 = 0 := by decide

/-- A live audio engine with entry 3 a sink of P8. -/
def audSink : State :=
  let x : Detector := { Detector.reset with cfg := some (0, 0) }
  { audLive 1 with bolt.tun := (withEntry 2 svStream id).bolt.tun, bolt.aud.dets := setAt (audLive 1).bolt.aud.dets 0 x }

/-- A frame of one bundle for a playout cycle. -/
def audFrame (pc n : Nat) : Frame := frameOf 1 1 (BitVec.ofNat 39 (svcStream pc 0)) (List.replicate n 0)

theorem wit_AudioFramesPlayoutMixAndDetectors : 0 < (audLive 1).remoteCount ∧ 0 < (audLive 1).samplesPer ∧
    (audLive 1).boltUp = true ∧ (audLive 1).isOn .aud = true ∧ (audLive 1).get F.PWR_STATUS_STATE ≠ 2 ∧
    audSink.boltUp = true ∧ audSink.isOn .aud = true ∧ audSink.get F.PWR_STATUS_STATE ≠ 2 ∧
    (audSink.bolt.aud.dets.getD 0 Detector.reset).cfg = some (0, 0) ∧
    (audSink.entryGen 3 7).valid = true ∧ (audSink.entryGen 3 7).sink = true ∧ (audSink.entryGen 3 7).localPort = 8 ∧
    hPcycle (audFrame 5 32).hdr = 5 ∧ (audFrame 5 32).payload.length = 16 * (audSink.entryGen 3 7).bundleCount * (audSink.samplesPer / 3) ∧
    slice (hStreamAdapter (audFrame 5 32).hdr) 1 6 + 1 = (audSink.entryGen 3 7).bundleCount ∧ hPcycle (audFrame 40 32).hdr = 40 ∧
    audSink.cycle = 0 ∧ (audFrame 5 0).payload.length ≠ 16 * (audSink.entryGen 3 7).bundleCount * (audSink.samplesPer / 3) := by decide

/-- A hub with STC ON and channel 2 ON in a role, bound to entry 3. -/
def chanLive (role chk : Nat) : State :=
  (withEntry 2 svState fun e => { e with w1 := 7 + 9 * 2 ^ 16, w2 := 2 * 2 ^ 16 }).sets [(HUnit.stc.state, 2),
    (HUnit.state (.stcCh 2), 2), (F.STC_CH_CFG_ROLE 2, role), (F.STC_CH_CFG_CHK_EN 2, chk), (HUnit.aud.state, 0)]

/-- A STATE frame of channel 2. -/
def stateFrameOf (seq : Nat) (payload : List Byte) : Frame := frameOf 2 seq (BitVec.ofNat 39 (svcState 2 1)) payload

theorem wit_StateChannels : (chanLive 1 0).accepts (.hart 0) (R.STC_CH_VALUE_HI 2) ∧
    (((chanLive 1 0).written (R.STC_CH_VALUE_HI 2) 5).takeLo (.hart 0) (R.STC_CH_VALUE_LO 2)).isOn (.stcCh 2) = true ∧
    (((chanLive 1 0).written (R.STC_CH_VALUE_HI 2) 5).takeLo (.hart 0) (R.STC_CH_VALUE_LO 2)).get (F.STC_CH_CFG_ROLE 2) = 1 ∧
    (((chanLive 1 0).written (R.STC_CH_VALUE_HI 2) 5).takeLo (.hart 0) (R.STC_CH_VALUE_LO 2)).get (F.STC_CH_CFG_SRC 2) = 0 ∧
    (chanLive 2 0).boltUp = true ∧ (chanLive 2 0).isOn .stc = true ∧ ((chanLive 2 0).entry 3).valid = true ∧
    ((chanLive 2 0).entry 3).sink = true ∧ ((chanLive 2 0).entry 3).localPort = 9 ∧
    hChannel (stateFrameOf 1 (List.replicate 16 0)).hdr = 2 ∧ ((chanLive 2 0).entry 3).channel = 2 ∧
    slice (stateFrameOf 1 []).hdr.svc.toNat 0 24 = 0 ∧ (chanLive 2 0).chanRole 2 2 = true ∧
    (chanLive 2 0).on (F.STC_CH_STATUS_VALID 2) = false ∧ (chanLive 2 0).on (F.STC_CH_CFG_CHK_EN 2) = false ∧
    (chanLive 2 0).get (F.STC_CH_CFG2_REPEAT_MAX 2) = 0 ∧ (chanLive 2 1).on (F.STC_CH_CFG_CHK_EN 2) = true ∧
    (chanLive 2 1).chanCheck 2 0 1 ≠ 0 ∧ ((chanLive 2 0).set (F.STC_CH_STATUS_VALID 2) 1).on (F.STC_CH_STATUS_VALID 2) = true ∧
    ((chanLive 2 0).set (F.STC_CH_STATUS_VALID 2) 1).on (F.STC_CH_STATUS_STALE 2) = false ∧
    (((chanLive 2 0).set (F.STC_CH_STATUS_VALID 2) 1).setChan 2 { Channel.reset with gen := 0, seq := 1 }).chan 2 =
      { Channel.reset with gen := 0, seq := 1 } ∧ (stateFrameOf 1 []).hdr.gen.toNat = 0 ∧
    (((chanLive 2 0).setChan 2 { Channel.reset with period := 0, age := 1 }).chan 2).age = 1 := by decide

/-- A hub with general-purpose unit 130 ON. -/
def cvuLive : State := live.set (HUnit.state (.stcCvu 130)) 2

theorem wit_CheckValueUnits : cvuLive.accepts (.hart 0) (R.STC_CVU_DATA 130) ∧
    (cvuLive.written (R.STC_CVU_DATA 130) 1).isOn (.stcCvu 130) = true ∧ cvuLive.accepts (.hart 0) (R.STC_CVU_CMD 130) ∧
    cvuLive.accepts (.hart 0) (R.STC_CVU_ALIVE 130) ∧ (cvuLive.written (R.STC_CVU_ALIVE 130) 1).isOn (.stcCvu 130) = true ∧
    live.accepts (.hart 0) (R.STC_CVU_DATA 5) ∧ live.accepts (.hart 0) (R.STC_CVU_ALIVE 5) := by decide

theorem wit_CheckValueCommands : ∀ x : Word, (cvuLive.written (R.STC_CVU_CMD 130) x).isOn (.stcCvu 130) = true := by
  intro x; rfl

/-- Quad 0's adapter and link unit 1 on entry 3, both ON. -/
def bridged (f : BridgeLink → BridgeLink) : State :=
  ((withEntry 7 svReliable fun e => { e with w1 := 7 + 2 * 2 ^ 16 }).sets [(HUnit.state (.pcbQuad 0), 2),
    (HUnit.state (.pcbLink 1), 2), (F.PCB_LNK_CFG_ENTRY 1, 3)]).mapBlink 1 f

/-- A posted write, malformed or not. -/
def tlpOf (kind : Fin 3) (bad : Bool) : Tlp :=
  { kind := kind, req := 1, tag := 2, addr := 0, data := 0, asks := 4, ends := true, err := false, relaxed := false, locked := false,
    lockRead := false, unlock := false, bad := bad, p2p := false, ecc := false, bytes := [] }

/-- A bridge frame of one sub-channel. -/
def pcbFrame (sub : Nat) (payload : List Byte) : Frame := frameOf 3 1 (BitVec.ofNat 39 (svcReliable sub 0)) payload

theorem wit_BridgeRecordsAndCredits : (bridged id).boltUp = true ∧ (bridged id).isOn (.pcbQuad 0) = true ∧
    (bridged id).isOn (.pcbLink 1) = true ∧ (bridged id).linkQuad 1 = 0 ∧ (bridged id).linkLives 1 = true ∧
    (bridged id).linkLives 2 = false ∧ ((bridged id).blink 1).ctl = [] ∧ ((bridged id).blink 1).out = [] ∧
    (bridged id).mayGo 1 [] (tlpOf 0 false) = true ∧
    (bridged fun x => { x with far := [(1, 0), (0, 0)] }).tlpWaits 1 (tlpOf 0 false) = 0 ∧
    (bridged id).linksOn.find? (fun l => (bridged id).linkEntry l = 3) = some 1 ∧ parseRecords 1 [0] = none ∧
    parseRecords 0 [] = some [] ∧ hSubch (pcbFrame 0 []).hdr = 0 ∧ hSubch (pcbFrame 1 []).hdr = 1 ∧
    hSubch (pcbFrame 2 []).hdr = 2 ∧ hSubch (pcbFrame 3 []).hdr = 3 ∧ hSubch (pcbFrame 4 []).hdr = 4 ∧
    hRelAdapter (pcbFrame 0 []).hdr / 16 = ((bridged id).blink 1).pRecv ∧
    hRelAdapter (pcbFrame 0 []).hdr / 16 ≠ ((bridged fun x => { x with pRecv := 5 }).blink 1).pRecv ∧
    parseRecords 4 [0, 0, 0, 0] = some [(0, [])] ∧
    ((bridged fun x => { x with toFar := [⟨1, 2, 3, 4⟩] }).blink 1).toFar.find? (fun r => r.req = 1 && r.tag = 2) = some ⟨1, 2, 3, 4⟩ := by
  decide

/-- The same with quad 0 the upstream quad. -/
def upstream : State := (bridged id).sets [(F.PCBQ_STATUS_UPSTREAM 0, 1), (F.PCBQ_STATUS_LINK_UP 0, 1)]

theorem wit_BridgeLinkStates : (bridged id).boltUp = true ∧ (bridged id).isOn (.pcbLink 1) = true ∧
    (bridged id).upQuad ((bridged id).linkQuad 1) = false ∧ upstream.boltUp = true ∧ upstream.isOn (.pcbLink 1) = true ∧
    upstream.upQuad (upstream.linkQuad 1) = true ∧ bit (1 : BitVec 8).toNat 0 = true ∧ (bridged id).isOn (.pcbQuad 0) = true ∧
    bit ((bridged id).get F.CLK_STATUS_PCIE_REF_OK) 0 = false ∧ ((bridged id).set F.PWR_STATUS_STATE 1).get F.PWR_STATUS_STATE ≠ 2 ∧
    ((bridged id).set F.PWR_STATUS_STATE 2).get F.PWR_STATUS_STATE = 2 ∧
    bit (((bridged id).set F.CLK_STATUS_PCIE_REF_OK 1).get F.CLK_STATUS_PCIE_REF_OK) 0 = true ∧
    ((bridged id).set F.CLK_STATUS_PCIE_REF_OK 1).boltUp = true ∧
    ((bridged id).set F.CLK_STATUS_PCIE_REF_OK 1).isOn (.pcbQuad 0) = true ∧
    (((bridged id).set F.CLK_STATUS_PCIE_REF_OK 1).set (F.PCBQ_STATUS_LINK_UP 0) 1).upQuad 0 = false ∧ upstream.on (F.PCBQ_STATUS_LINK_UP 0) = true ∧
    (((upstream.set (F.PCBQ_STATUS_LINK_UP 0) 0).sat (F.PCBQ_DOWN_COUNT 0) 1).quadDown 0).upQuad 0 = true := by decide

/-- A hub in RUN with DP quad 0 ON and entry 3 its stream entry at a local port. -/
def dpLive (port : Nat) (f : DpQuad → DpQuad) : State :=
  ((withEntry 3 svStream fun e => { e with w1 := 7 + port * 2 ^ 16 }).sets [(F.PWR_STATUS_STATE, 1), (HUnit.dpe.state, 2),
    (HUnit.state (.dpeDp 0), 2), (F.DPE_DP_STATUS_RX_LINK 0, 1)]).mapDp 0 f

/-- A small timing. -/
def tinyTiming : DpTiming :=
  { htotal := 10, hstart := 1, hwidth := 4, hsync := 1, vtotal := 10, vstart := 1, vheight := 4, vsync := 1, mvid := 1, nvid := 1,
    misc0 := 0, misc1 := 0, vtNs := 0, format := 0, symClk := 0, lanes := 0 }

/-- A display frame of a kind. -/
def dpFrame (dkind n : Nat) : Frame := frameOf 1 1 (BitVec.ofNat 39 (svcStream 5 (dkind * 32))) (List.replicate n 0)

/-- The same with the timing sent already. -/
def dpSame : State := dpLive 2 fun x => { x with rxTiming := timingBytes tinyTiming }

theorem wit_DisplayTunnels : (dpSame.dpq 0).rxTiming = timingBytes tinyTiming ∧ (dpSame.dpq 0).format = tinyTiming.format.toNat ∧
    dpSame.dpEntry 0 0 0 = some 3 ∧ dpSame.drate tinyTiming = 0 ∧ dpSame.dpOn 0 = true ∧
    dpSame.on (F.DPE_DP_STATUS_RX_LINK 0) = true ∧ (dpSame.dpq 0).short = false ∧ (dpSame.dpq 0).rxTiming ≠ [] ∧ (dpLive 2 id).boltUp = true ∧ (dpLive 2 id).dpOn 0 = true ∧
    (dpLive 2 id).on (F.DPE_DP_STATUS_RX_LINK 0) = true ∧
    tinyTiming.nvid.toNat * tinyTiming.htotal.toNat * tinyTiming.vtotal.toNat ≠ 0 ∧ (dpLive 2 id).dpEntry 0 0 0 = some 3 ∧
    (dpLive 2 id).drate tinyTiming = 0 ∧ ((dpLive 2 fun x => { x with rxTiming := [0] }).dpq 0).rxTiming ≠ [] ∧
    ((dpLive 2 id).dpq 0).short = false ∧ ((dpLive 3 id).entry 3).valid = true ∧ ((dpLive 3 id).entry 3).sink = true ∧
    ((dpLive 3 id).entry 3).func = 0 ∧ ((dpLive 3 id).entry 3).localPort = 3 ∧ (dpLive 3 id).dpOn 0 = true ∧
    ((dpLive 3 id).entry 3).buddy = false ∧ ((dpLive 3 id).streamSink 3 (dpFrame 2 36).hdr).2 = true ∧ hStreamAdapter (dpFrame 2 36).hdr / 32 = 2 ∧ (dpFrame 2 36).payload.length = 36 ∧
    hStreamAdapter (dpFrame 1 48).hdr / 32 = 1 ∧ (dpFrame 1 48).payload.length = 48 ∧ hStreamAdapter (dpFrame 0 8).hdr / 32 = 0 ∧
    (dpFrame 0 8).payload.length = 8 + (leAt (dpFrame 0 8).payload 4 2 * pixComps (leAt (dpFrame 0 8).payload 6 1) *
      pixBpc (leAt (dpFrame 0 8).payload 6 1) + 7) / 8 ∧
    4 ≤ ((dpLive 3 fun x => { x with noPixels := 4 }).dpq 0).noPixels ∧
    ((dpLive 3 fun x => { x with txTiming := [0] }).dpq 0).txTiming ≠ [] ∧ ((dpLive 3 id).dpq 0).hpd = false := by decide

/-- The AUX entry of quad 0 at a local port. -/
def auxLive (port : Nat) : State := (dpLive port fun x => { x with auxWait := true }).mapEntry 3 fun e => { e with w2 := 2 ^ 16 }

/-- A hub in RUN with ETH quad 0 ON in 4-MAC mode, link up on MAC 1. -/
def ethLive : State :=
  { live.sets [(F.PWR_STATUS_STATE, 1), (HUnit.dpe.state, 2), (HUnit.state (.dpeEth 0), 2), (F.DPE_ETH_STATUS_LINK 0, 2),
      (F.DPE_MAC_DEFAULT_EN 1, 1), (F.DPE_VMAP_EN 0 0, 1), (F.DPE_VMAP_MAC 0 0, 1), (F.DPE_VMAP_VID 0 0, 5)] with
    bolt.pat.inForce.qmode := [3, 0, 0] }

/-- An Ethernet frame with an EtherType and the word after it. -/
def ethFrame (t tci : Nat) : List Byte := withFcs (List.replicate 12 0 ++ beBytes 2 t ++ beBytes 2 tci ++ List.replicate 60 0)

theorem wit_AuxAndEthernet : (auxLive 2).boltUp = true ∧ (auxLive 2).dpOn 0 = true ∧ ((auxLive 2).dpq 0).auxWait = true ∧
    (auxLive 2).get (F.DPE_DP_AUX_WAIT_MS 0) ≤ 100000 ∧ ((auxLive 2).entry 3).valid = true ∧ ((auxLive 2).entry 3).func = 1 ∧
    ((auxLive 2).entry 3).localPort = 2 ∧ ((auxLive 2).dpq 0).refill = none ∧ ((auxLive 3).entry 3).localPort = 3 ∧
    ((auxLive 3).entry 3).func = 1 ∧ (auxLive 3).dpOn 0 = true ∧ ((dpLive 2 id).dpq 0).auxWait = false ∧
    ethLive.boltUp = true ∧ ethLive.ethOn 0 = true ∧ ethLive.dpeRuns = true ∧ (ethLive.macsOf 0).contains 1 = true ∧
    bit (ethLive.get (F.DPE_ETH_STATUS_LINK 0)) 1 = true ∧ (ethFrame 0x8100 5).length = 80 ∧
    ethFrame 0x8100 5 = (ethFrame 0x8100 5).take 76 ++ leBytes 4 (BitVec.ofNat 32 (leAt (ethFrame 0x8100 5) 76 4)).toNat ∧
    List.replicate 70 (0 : Byte) = List.replicate 66 0 ++ leBytes 4 (0 : BitVec 32).toNat ∧
    List.replicate 70 0 ≠ withFcs ((List.replicate 70 (0 : Byte)).take 66) ∧
    isTag (ofBe (bytesAt (ethFrame 0x8100 5) 12 2)) = true ∧
    ((ethLive.maps 0).find? fun v => v.2.1 = 1 && v.2.2.1 = ofBe (bytesAt (ethFrame 0x8100 5) 14 2) % 4096) = some (0, 1, 5, 0, false) ∧
    ((ethLive.maps 0).find? fun v => v.2.1 = 1 && v.2.2.1 = ofBe (bytesAt (ethFrame 0x8100 6) 14 2) % 4096) = none ∧
    isTag (ofBe (bytesAt (ethFrame 0x0800 0) 12 2)) = false ∧ ofBe (bytesAt (ethFrame 0x0800 0) 12 2) ≠ 0x8808 ∧
    ethLive.on (F.DPE_MAC_DEFAULT_EN 1) = true ∧ ethLive.isOn .dpe = true ∧
    (ethLive.set F.DPE_LEARN_CFG_AGE_S 9).get F.DPE_LEARN_CFG_AGE_S ≠ 0 ∧ live.accepts (.hart 0) R.DPE_LEARN_FLUSH ∧
    (live.written R.DPE_LEARN_FLUSH 0xFFFFFFFF).on F.DPE_LEARN_FLUSH_GO = true ∧
    bit (ethLive.get (F.DPE_ETH_STATUS_LINK 0)) 0 = false ∧ (ethLive.macsOf 0).contains 0 = true := by decide

/-- Dock port 1 ON, with its CC state and a change of its own state. -/
def docked (cc : Nat) (f : DockPort → DockPort) : State :=
  (live.sets [(F.TCP_PORT_STATUS_STATE 1, 2), (F.TCP_PORT_STATUS_CC 1, cc)]).mapDock 1 f

theorem wit_DockAttachAndContracts : (docked 0 id).spool.aon = true ∧ (docked 0 id).get (F.TCP_PORT_STATUS_STATE 1) = 2 ∧
    ((docked 0 id).set (F.TCP_PORT_CTRL_POWER_ROLE 1) 2).get (F.TCP_PORT_CTRL_POWER_ROLE 1) = 2 ∧
    ((docked 0 id).set (F.TCP_PORT_CTRL_POWER_ROLE 1) 2).attached 1 = false ∧
    ((docked 0 id).set (F.TCP_PORT_CTRL_POWER_ROLE 1) 2).on (F.TCP_PORT_STATUS_WET 1) = false ∧
    ((docked 0 id).dock 1).ccOpen = false ∧ ((docked 0 id).set (F.TCP_PORT_CTRL_POWER_ROLE 1) 1).canAttach 1 true = true ∧
    ((docked 0 id).set (F.TCP_BLIVE_LIVE 1) 40).canAttach 1 false = true ∧ (docked 3 id).attached 1 = true ∧
    (docked 3 id).on (F.TCP_PORT_STATUS_TRANSITION 1) = false ∧ (docked 3 id).isSource 1 = true ∧
    ((docked 3 id).set (F.TCP_PORT_STATUS_TRANSITION 1) 1).on (F.TCP_PORT_STATUS_TRANSITION 1) = true ∧
    ((docked 3 fun d => { d with ccOpen := true }).dock 1).ccOpen = true ∧
    (docked 3 id).get (F.TCP_PORT_TMR2_DETACH_MS 1) ≤ 5000 ∧ (docked 3 id).get (F.TCP_PORT_TMR2_WET_KOHM 1) ≤ 5000 ∧
    0 < ((docked 3 id).set (F.TCP_PORT_TMR2_WET_KOHM 1) 50).get (F.TCP_PORT_TMR2_WET_KOHM 1) ∧
    (docked 0 id).get (F.TCP_PORT_STATUS_CC 1) ≠ 5 ∧ (docked 0 id).get (F.TCP_PORT_STATUS_CC 1) ≠ 6 ∧
    (docked 0 id).toggleDue 1 5000 = true ∧ ((docked 0 id).sets [(F.TCP_PORT_TMR_TOGGLE_MS 1, 70), (F.TCP_PORT_TMR_SRC_DUTY 1, 50)]).toggleDue
      1 0 = false ∧
    ((docked 0 id).set (F.TCP_PORT_CTRL_POWER_ROLE 1) 1).triesFirst 1 true = false ∧
    ((docked 0 id).sets [(F.TCP_BLIVE_LIVE 1, 40), (F.TCP_PORT_CTRL_POWER_ROLE 1, 2), (F.TCP_PORT_CTRL_TRY 1, 1)]).triesFirst 1 true = true ∧
    ((docked 3 id).moistLowest 1 900 900 900 900 1 2).1 = 900 ∧ ((docked 3 id).moistLowest 1 900 900 900 0 1 2).1 = 0 ∧
    (docked 3 id).get (F.TCP_PORT_STATUS_CC 1) ≠ 7 ∧
    ((docked 3 id).set (F.TCP_PORT_STATUS_WET 1) 1).on (F.TCP_PORT_STATUS_WET 1) = true ∧ (docked 3 id).crosses 1 = false ∧
    ((docked 3 id).set (F.TCP_PORT_STATUS_HELD 1) 1).on (F.TCP_PORT_STATUS_HELD 1) = true ∧ (docked 3 id).seamUp = true ∧
    (docked 3 id).on (F.TCP_PORT_STATUS_HELD 1) = false ∧ (docked 3 id).budgetGrows 1 = false ∧
    ((docked 3 fun d => { d with offered := [(1, 100, 300)] }).dock 1).offered.find? (fun o => o.1 = 1) = some (1, 100, 300) ∧
    ((docked 3 id).dock 1).offered.find? (fun o => o.1 = 1) = none ∧ ((docked 3 id).dock 1).swapping = false ∧
    ((docked 3 fun d => { d with next := some (1, 100, 100, false) }).dock 1).next = some (1, 100, 100, false) ∧
    ((docked 3 id).dock 1).own ≠ 4 ∧ (docked 4 id).isSink 1 = true := by decide

theorem wit_DockExchanges : (docked 4 id).spool.aon = true ∧ (docked 4 id).get (F.TCP_PORT_STATUS_STATE 1) = 2 ∧
    (docked 4 id).on (F.TCP_PORT_STATUS_HELD 1) = false ∧ (docked 4 id).on (F.TCP_PORT_STATUS_WET 1) = false ∧
    (docked 4 id).seamUp = true ∧ (docked 4 id).attached 1 = true ∧ (docked 4 id).on (F.TCP_PORT_STATUS_TRANSITION 1) = false ∧
    ((docked 4 id).dock 1).target = none ∧ ((docked 4 id).dock 1).own = 0 ∧
    ((docked 4 id).set (F.TCP_PORT_POLICY_DR_SWAP 1) 1).get (F.TCP_PORT_POLICY_DR_SWAP 1) = 1 ∧
    ((docked 4 id).set (F.TCP_PORT_POLICY_DR_SWAP 1) 0).get (F.TCP_PORT_POLICY_DR_SWAP 1) = 0 ∧
    ((docked 4 id).set (F.TCP_PORT_CTRL_POWER_ROLE 1) 1).canPrSwap 1 = false ∧
    ((docked 3 id).set (F.TCP_PORT_CTRL_POWER_ROLE 1) 2).canPrSwap 1 = true ∧
    ((docked 3 id).set (F.TCP_PORT_POLICY_PR_SWAP 1) 2).get (F.TCP_PORT_POLICY_PR_SWAP 1) = 2 ∧ ((docked 3 id).dock 1).answer = none ∧
    (docked 3 id).get (F.TCP_PORT_ASK_KIND 1) ≠ 1 ∧ ((docked 3 fun d => { d with own := 2 }).dock 1).retry = false ∧
    ((docked 3 fun d => { d with own := 1, retry := true }).dock 1).retry = true ∧ (docked 3 id).get (F.TCP_PORT_TMR_WAIT_MS 1) ≤ 5000 ∧
    ((docked 3 id).set (F.TCP_PORT_TMR_WAIT_MAX 1) 0).get (F.TCP_PORT_TMR_WAIT_MAX 1) = 0 ∧
    ((docked 3 id).set (F.TCP_PORT_TMR_WAIT_MAX 1) 2).get (F.TCP_PORT_TMR_WAIT_MAX 1) = 2 ∧
    ((docked 3 fun d => { d with waits := 2 }).dock 1).waits = 2 ∧ (docked 4 id).isSink 1 = true ∧
    ((docked 4 id).set (F.TCP_PORT_CTRL_FRS 1) 1).on (F.TCP_PORT_CTRL_FRS 1) = true ∧
    ((docked 4 id).set (F.TCP_PORT_STATUS_DATA 1) 1).get (F.TCP_PORT_STATUS_DATA 1) = 1 ∧ (docked 4 id).offersElrek 1 = false ∧
    ((docked 4 id).set (F.TCP_PORT_STATUS_ALT 1) 1).on (F.TCP_PORT_STATUS_ALT 1) = true ∧
    ((docked 3 fun d => { d with target := some 5 }).dock 1).target = some 5 ∧ (docked 3 id).isSource 1 = true ∧
    5 < ((docked 3 id).set (F.TCP_BLIVE_LIVE 1) 9).get (F.TCP_BLIVE_LIVE 1) ∧ ((docked 3 id).dock 1).heldBudget = false ∧
    ((docked 3 id).dock 1).again = false ∧ ((docked 3 fun d => { d with again := true }).dock 1).again = true ∧
    ((docked 4 fun d => { d with disc := 3 }).dock 1).disc = 3 ∧ ((docked 4 fun d => { d with disc := 1 }).dock 1).disc = 1 ∧
    (docked 4 id).on (F.TCP_PORT_STATUS_VCONN 1) = false ∧ ((docked 4 id).set (F.TCP_PORT_STATUS_VCONN 1) 1).on (F.TCP_PORT_STATUS_VCONN 1) = true ∧
    ((docked 4 id).set (F.TCP_PORT_CTRL_VCONN_SWAP 1) 1).on (F.TCP_PORT_CTRL_VCONN_SWAP 1) = true ∧
    ((docked 4 id).set (F.TCP_PORT_CTRL_VCONN_SWAP 1) 0).on (F.TCP_PORT_CTRL_VCONN_SWAP 1) = false ∧ getBits (0x10000000 : Word) 28 4 = 1 := by decide

/-- Port 1's quad in DOCK mode with ELREK_EN. -/
def elrekPort : State := { (docked 4 id).set (F.TCP_PORT_CTRL_ELREK_EN 1) 1 with bolt.pat.inForce.qmode := [0, 0, 0] }

/-- A sink port with its gate ready for a fast role swap. -/
def frsPort : State := ((docked 4 id).sets [(F.TCP_PORT_CTRL_FRS 1, 1), (F.PGT_GATE_STATUS_STATE 2, 2), (F.PGT_GATE_CTRL_BIDIR 2, 1)]).mapGate 2
  fun g => { g with uvIn := true }

theorem wit_ElrekAndFastSwap : elrekPort.offersElrek 1 = true ∧ elrekPort.attached 1 = true ∧ elrekPort.seamUp = true ∧
    ((((frsPort.dropContract 1 1).pd 1 .frSwap).sat (F.TCP_PORT_CNT3_FRS 1) 1).tcpEvent 1 7 |>.fastStart 2).2 = true := by decide

/-- Port 1 an attached source with an explicit contract, DRP, VCONN_SWAP 1. -/
def contracted : State := (docked 3 id).sets [(F.TCP_PORT_STATUS_CONTRACT 1, 2), (F.TCP_PORT_CTRL_POWER_ROLE 1, 2),
  (F.TCP_PORT_CTRL_VCONN_SWAP 1, 1)]

/-- The same in DOCK mode, its partner's mode known. -/
def enterable : State := { (contracted.set (F.TCP_PORT_CTRL_ELREK_EN 1) 1).wr (R.TCP_PORT_PARTNER_VDO 1) 0x10000000 with
  bolt.pat.inForce.qmode := [0, 0, 0] }

theorem wit_DockCommands : (docked 3 id).accepts (.hart 0) (R.TCP_PORT_ASK 1) ∧ (docked 3 id).accepts (.hart 0) (R.TCP_PORT_CTRL 1) ∧
    (((docked 3 id).set (F.TCP_PORT_ASK_KIND 1) 1).written (R.TCP_PORT_ASK 1) 8).get (F.TCP_PORT_ASK_KIND 1) ≠ 0 ∧
    (((docked 3 id).written (R.TCP_PORT_CTRL 1) 0).set (F.TCP_PORT_CTRL_ENABLE 1) 0).get (F.TCP_PORT_STATUS_STATE 1) = 2 ∧
    (((docked 3 id).written (R.TCP_PORT_CTRL 1) 0).set (F.TCP_PORT_CTRL_ENABLE 1) 0).attached 1 = true ∧
    (((docked 0 id).written (R.TCP_PORT_CTRL 1) 0).set (F.TCP_PORT_CTRL_ENABLE 1) 0).attached 1 = false ∧
    contracted.accepts (.hart 0) (R.TCP_PORT_CMD 1) ∧ (contracted.written (R.TCP_PORT_CMD 1) 2).dockOn 1 = true ∧
    (contracted.written (R.TCP_PORT_CMD 1) 1).attached 1 = true ∧ (contracted.written (R.TCP_PORT_CMD 1) 2).freeToAsk 1 = true ∧
    (contracted.written (R.TCP_PORT_CMD 1) 2).explicit 1 = true ∧ (contracted.written (R.TCP_PORT_CMD 1) 2).canPrSwap 1 = true ∧
    (contracted.written (R.TCP_PORT_CMD 1) 2).on (F.TCP_PORT_STATUS_WET 1) = false ∧
    (contracted.written (R.TCP_PORT_CMD 1) 4).on (F.TCP_PORT_CTRL_VCONN_SWAP 1) = true ∧
    (contracted.written (R.TCP_PORT_CMD 1) 6).isSource 1 = true ∧ (contracted.written (R.TCP_PORT_CMD 1) 6).on (F.TCP_PORT_STATUS_HELD 1) = false ∧
    (enterable.written (R.TCP_PORT_CMD 1) 7).offersElrek 1 = true ∧ (enterable.written (R.TCP_PORT_CMD 1) 7).freeToAsk 1 = true ∧
    (enterable.written (R.TCP_PORT_CMD 1) 7).get (F.TCP_PORT_STATUS_DATA 1) = 0 ∧
    getBits ((enterable.written (R.TCP_PORT_CMD 1) 7).rd (R.TCP_PORT_PARTNER_VDO 1)) 28 4 = 1 ∧
    ((contracted.set (F.TCP_PORT_STATUS_ALT 1) 1).written (R.TCP_PORT_CMD 1) 8).on (F.TCP_PORT_STATUS_ALT 1) = true ∧
    (contracted.set (F.TCP_PORT_STATUS_ALT 1) 1).accepts (.hart 0) (R.TCP_PORT_CMD 1) ∧
    ((docked 0 id).written (R.TCP_PORT_CMD 1) 1).attached 1 = false ∧ live.accepts (.hart 0) R.TCP_BUDGET_CMD := by decide

theorem wit_BudgetCommits : ((List.range 6).map fun p => (live.written R.TCP_BUDGET_CMD 1).get (F.TCP_BSTAGE_UNITS p)).sum ≤
      (live.written R.TCP_BUDGET_CMD 1).get F.TCP_BOARD_UNITS ∧
    (∀ p < 6, (live.written R.TCP_BUDGET_CMD 1).get (F.TCP_BSTAGE_UNITS p) = 0 ∨
      (live.written R.TCP_BUDGET_CMD 1).get (F.TCP_PORT_CTRL_POWER_ROLE p) ≠ 1) ∧
    (live.written R.TCP_BUDGET_CMD 1).on F.TCP_STATUS_MOVING = false ∧
    ((live.set F.TCP_STATUS_MOVING 1).written R.TCP_BUDGET_CMD 1).on F.TCP_STATUS_MOVING = true ∧
    (((live.set (F.TCP_BSTAGE_UNITS 0) 100).set F.TCP_BOARD_UNITS 50).written R.TCP_BUDGET_CMD 1).get F.TCP_BOARD_UNITS < 100 := by decide

/-- Gate 2 ON in a GSTATE, its input inside, measured at a voltage. -/
def gated (gs vin : Nat) (uv ov : Bool) : State :=
  (live.sets [(F.PGT_GATE_STATUS_STATE 2, 2), (F.PGT_GATE_STATUS_GSTATE 2, gs), (F.PGT_GATE_WIN_UV_UV_ON 2, 45),
    (F.PGT_GATE_WIN_UV_UV_OFF 2, 40), (F.PGT_GATE_WIN_OV_OV_OFF 2, 60), (F.PGT_GATE_WIN_OV_OV_ON 2, 55),
    (F.PGT_GATE_STATUS_PGOOD 2, 1)]).mapGate 2 fun g => { g with vin := vin, uvIn := uv, ovOut := ov }

theorem wit_GateStartUp : (gated 1 0 false false).spool.aon = true ∧ ((gated 1 0 false false).measureVin 2 5000).gstate 2 = 1 ∧
    ((gated 1 0 false false).measureVin 2 5000).inside 2 = true ∧ ((gated 5 0 true false).measureVin 2 5000).gstate 2 = 5 ∧
    ((gated 5 0 true false).measureVin 2 5000).inside 2 = true ∧ (((gated 5 0 true false).measureVin 2 1000).gate 2).uvIn = false ∧
    (((gated 5 0 true false).measureVin 2 1000).gate 2).ovOut = false ∧ (((gated 5 0 true false).measureVin 2 9000).gate 2).ovOut = true ∧
    (gated 1 0 false false).on (F.PGT_GATE_CTRL_TRACK 2) = false ∧
    (gated 1 0 false false).get (F.PGT_GATE_WIN_UV_UV_ON 2) = 45 ∧ (gated 1 0 false false).get (F.PGT_GATE_WIN_OV_OV_ON 2) = 55 ∧
    (gated 1 0 false false).get (F.PGT_GATE_WIN_OV_OV_OFF 2) = 60 ∧ (gated 9 0 true false).gstate 2 = 9 ∧
    (gated 2 0 true false).gstate 2 = 2 ∧ (gated 2 0 true false).inside 2 = true ∧
    ((gated 3 5000 true false).measureVout 2 4500).gstate 2 = 3 ∧ (((gated 3 5000 true false).measureVout 2 4500).gate 2).vin = 5000 ∧
    ((gated 3 5000 true false).measureVout 2 100).gstate 2 = 3 ∧ (((gated 3 5000 true false).measureVout 2 100).gate 2).vin = 5000 ∧
    (((gated 4 5000 true false).measureVout 2 4500).set (F.PGT_GATE_VMEAS_VGS 2) 100).gstate 2 = 4 ∧
    ((((gated 4 5000 true false).measureVout 2 4500).set (F.PGT_GATE_VMEAS_VGS 2) 100).gate 2).vin = 5000 ∧
    (((gated 5 5000 true false).measureVout 2 4500).set (F.PGT_GATE_VMEAS_VGS 2) 50).on (F.PGT_GATE_STATUS_PGOOD 2) = true ∧
    (((gated 5 5000 true false).measureVout 2 4500).set (F.PGT_GATE_VMEAS_VGS 2) 50).inside 2 = true ∧
    (((gated 5 5000 false false).measureVout 2 4500).set (F.PGT_GATE_VMEAS_VGS 2) 50).inside 2 = false ∧
    (gated 4 5000 true false).gstate 2 = 4 ∧ (gated 4 5000 true false).get (F.PGT_GATE_RAMP_RAMP_TO_MS 2) ≤ 100000 ∧
    (gated 9 0 true false).get (F.PGT_GATE_RAMP_UV_RIDE_MS 2) ≤ 100000 ∧
    0 < ((gated 9 0 true false).set (F.PGT_GATE_RAMP_UV_RIDE_MS 2) 5).get (F.PGT_GATE_RAMP_UV_RIDE_MS 2) ∧
    0 < ((gated 2 0 true false).set (F.PGT_GATE_TIMING_INS_MS 2) 5).get (F.PGT_GATE_TIMING_INS_MS 2) ∧
    (gated 2 0 true false).get (F.PGT_GATE_TIMING_INS_MS 2) ≤ 100000 ∧
    1000 * ((gated 3 5000 true false).measureVout 2 100).get (F.PGT_GATE_TIMING_SHORT_MS 2) ≤ 10000000 ∧
    1000 * ((gated 3 5000 true false).measureVout 2 100).get (F.PGT_GATE_TIMING_PRE_TO_MS 2) ≤ 10000000 := by decide

theorem wit_GateTripsAndCommands : (gated 5 5000 true false).spool.aon = true ∧ ([3, 4, 5, 8, 9] : List Nat).contains ((gated 5 5000 true false).gstate 2) = true ∧
    (gated 8 5000 true false).gstate 2 = 8 ∧ (gated 6 5000 true false).gstate 2 = 6 ∧
    (gated 6 5000 true false).get (F.PGT_GATE_WAIT_LEFT_MS 2) = 0 ∧ (gated 5 5000 true false).on (F.PGT_GATE_STATUS_PGOOD 2) = true ∧
    ((gated 5 5000 false false).gate 2).uvIn = false ∧ (gated 5 5000 false false).get (F.PGT_GATE_RETRY_REMOVE_MS 2) ≤ 100000 ∧
    2 * (gated 5 5000 true false).get (F.PGT_GATE_LIMIT_LIMIT 2) * (gated 5 5000 true false).get (F.PGT_GATE_LIMIT_SHUNT 2) ≤ 10 ^ 12 ∧
    0 < 2 * ((gated 5 5000 true false).sets [(F.PGT_GATE_LIMIT_LIMIT 2, 1), (F.PGT_GATE_LIMIT_SHUNT 2, 1)]).get (F.PGT_GATE_LIMIT_LIMIT 2) *
      ((gated 5 5000 true false).sets [(F.PGT_GATE_LIMIT_LIMIT 2, 1), (F.PGT_GATE_LIMIT_SHUNT 2, 1)]).get (F.PGT_GATE_LIMIT_SHUNT 2) ∧
    ((((live.set (F.PGT_GATE_RETRY_RETRY_MAX 0) 0).sat (F.PGT_GATE_CNT_FAST 0) 1).sat (F.PGT_GATE_ATTEMPT_COUNT 0) 1).set
      (F.PGT_GATE_ATTEMPT_A_US 0) 5).get (F.PGT_GATE_RETRY_RETRY_MAX 0) = 0 ∧
    (gated 7 0 true false).accepts (.hart 0) (R.PGT_GATE_CMD 2) ∧ ((gated 7 0 true false).written (R.PGT_GATE_CMD 2) 1).gstate 2 = 7 ∧
    ((gated 5 0 true false).written (R.PGT_GATE_CMD 2) 1).gstate 2 ≠ 7 ∧
    (((gated 0 0 true false).mapGate 2 fun g => { g with vout := 900 }).written (R.PGT_GATE_CMD 2) 2).gstate 2 = 0 ∧
    800 ≤ ((((gated 0 0 true false).mapGate 2 fun g => { g with vout := 900 }).written (R.PGT_GATE_CMD 2) 2).gate 2).vout ∧
    live.accepts (.hart 0) (R.PGT_GATE_CTRL 2) ∧ live.accepts (.hart 0) (R.PGT_GATE_CTRL 0) := by decide

theorem wit_PowerOnAndClockLoss : State.reset.spool.aon = false ∧ live.spool.aon = true ∧
    ({ live with spool.refclk := true } : State).spool.refclk = true ∧ live.boltUp = true ∧ live.spool.nvsQueue = [] ∧
    live.boltPowered = true ∧ ({ live with spool := { live.spool with refclk := false, boltHeld := true } } : State).spool.refclk = false ∧
    live.spool.pwr.waking = false ∧ live.spool.pwr.want = false ∧ live.spool.boltHeld = false := by decide

/-- A live hub in a power state whose PWR holds what `f` says. -/
def powered (st : Nat) (f : Pwr → Pwr) : State := (live.set F.PWR_STATUS_STATE st).mapPwr f

/-- A night test in a checking step 0. -/
def nightLive : State :=
  let r : NightRun := { NightRun.reset 0 0 with live := true }
  { live.sets [(HUnit.nts.state, 2), (F.PWR_STATUS_STATE, 1), (F.NTS_START_CYCLE, 100)] with bolt.nts.run := some r }

theorem wit_PowerStatesAndLantern : (powered 1 id).accepts (.hart 0) R.PWR_CMD ∧
    ((powered 1 id).written R.PWR_CMD 2).pwrRefusal 2 0 = none ∧ ((powered 2 id).written R.PWR_CMD 2).fullLoad = false ∧
    ((powered 2 id).written R.PWR_CMD 2).on F.PWR_STATUS_MOVING = false ∧ ((powered 2 id).written R.PWR_CMD 2).pwrState = 2 ∧
    (((powered 2 id).set F.PWR_STATUS_CORES 0).written R.PWR_CMD 2).get F.PWR_STATUS_CORES = 0 ∧
    ((powered 2 fun x => { x with entry := 2 }).set F.PWR_STATUS_TARGET 3).pwrTarget = 3 ∧
    (powered 2 fun x => { x with entry := 2 }).spool.pwr.entry = 2 ∧ (powered 2 id).seamUp = true ∧
    (powered 2 id).on F.CNT_CTRL_NVS_AUTO = false ∧ (powered 2 fun x => { x with hold := true }).spool.pwr.hold = true ∧
    ((powered 2 fun x => { x with hold := true }).set F.PGT_STATUS_PG0_GOOD 0).boltPowered = false ∧
    (powered 2 fun x => { x with waking := true }).spool.pwr.waking = true ∧ (powered 2 fun x => { x with waking := true }).boltPowered = true ∧
    (powered 2 fun x => { x with waking := true }).spool.pwr.cold = false ∧
    ((live.set F.LAN_WAKE_ASSERTED 1).mapLan fun x => { x with wakeLeft := some 0 }).on F.LAN_WAKE_ASSERTED = true ∧
    ((live.set F.LAN_WAKE_ASSERTED 1).mapLan fun x => { x with wakeLeft := some 0 }).spool.lan.wakeLeft = some 0 ∧
    (powered 2 fun x => { x with waking := true }).accepts (.hart 0) R.PWR_READY ∧
    ((powered 2 fun x => { x with waking := true }).written R.PWR_READY 1).spool.pwr.waking = true ∧
    live.accepts (.hart 0) R.LAN_WAKE ∧ live.accepts (.hart 0) R.NTS_CMD := by decide

/-- The same with no run, in CHECK-bit form for a TEST frame, and a TEST frame of step 0. -/
def idleNight : State := { nightLive with bolt.nts.run := none }
def nightPath : State := nightLive.sets [(F.NTS_STEP_WORD 0 0, nkPath), (F.NTS_STEP_WORD 0 2, 0x400)]
def testFrameOf : Frame := frameOf kTest 1 (BitVec.ofNat 39 (svcTest 0 0)) [0]

theorem wit_NightCommands : (idleNight.written R.NTS_CMD 1).isOn .nts = true ∧ (idleNight.written R.NTS_CMD 1).bolt.nts.run = none ∧
    (idleNight.written R.NTS_CMD 1).get F.PWR_STATUS_STATE = 1 ∧
    later (((idleNight.written R.NTS_CMD 1).cycle + 2) % 2 ^ 32) ((idleNight.written R.NTS_CMD 1).get F.NTS_START_CYCLE) = false ∧
    nightPath.boltUp = true ∧ nightPath.bolt.nts.run = some { NightRun.reset 0 0 with live := true } ∧
    nightPath.ntKind 0 = nkPath ∧ nightPath.ntArg 0 10 1 = 1 ∧ (testFrameOf.hdr.svc.extractLsb' 34 5).toNat = 0 ∧
    testFrameOf.hdr.kind.toNat = kTest ∧ (testFrameOf.hdr.svc.extractLsb' 26 8).toNat = nightPath.get F.NTS_RUN_STATUS_RUN % 256 := by decide

/-- The USB hub connected, hub port 3 an enabled remote port on entry 3. -/
def usbLive (f : Usb → Usb) : State :=
  ((withEntry 3 svReliable fun e => { e with w1 := 7 + 10 * 2 ^ 16, w2 := 2 * 2 ^ 16 }).sets [(HUnit.usb.state, 2), (F.USB_STATUS_CONNECTED, 1),
    (F.USB_PORT_CFG_REMOTE 3, 1), (F.USB_PORT_CFG_ENTRY 3, 3), (F.USB_PORT_STATUS_ENABLED 3, 1)]).mapUsb f

theorem wit_IsochronousSplitsGoUnanswered : (usbLive id).spool.aon = true ∧ (usbLive id).isOn .usb = true ∧
    (usbLive id).on F.USB_STATUS_CONNECTED = true ∧ (usbLive id).on (F.USB_PORT_CFG_REMOTE 3) = true ∧
    (usbLive id).on (F.USB_PORT_STATUS_ENABLED 3) = true := by decide

/-- The device function configured, both audio interfaces in alternate setting 1, the internal host running. -/
def usbDevice (f : Usb → Usb) : State := (usbLive f).sets [(F.USB_DEV_STATUS_CONFIGURED, 1), (F.USB_DEV_STATUS_ALT_OUT, 1),
  (F.USB_DEV_STATUS_ALT_IN, 1), (F.USB_CFG_UPSTREAM, 0), (F.USB_HC_CTRL_RUN, 1), (F.USB_PIPE_STATUS_BUSY 2, 1), (F.USB_PIPE_CFG_DIR 2, 1)]

/-- Pipe 1 described well. -/
def pipeReady : State := (usbDevice id).sets [(F.USB_PIPE_CFG_SPEED 1, 3), (F.USB_PIPE_CFG_MPS 1, 64), (F.USB_PIPE_BUF_LEN 1, 64)]

theorem wit_UsbHostAndDevice : (usbDevice id).spool.aon = true ∧ (usbDevice id).isOn .usb = true ∧ (usbDevice id).on F.USB_STATUS_CONNECTED = true ∧
    ((usbDevice id).sets [(F.USB_STATUS_CONNECTED, 0), (F.PWR_STATUS_STATE, 1)]).wantsUpstream = true ∧
    (usbDevice id).on (F.USB_PIPE_STATUS_BUSY 2) = true ∧ (usbDevice id).upstream = 0 ∧ (usbDevice id).on F.USB_HC_CTRL_RUN = true ∧
    (usbDevice id).spool.usb.setups.getD 2 false = false ∧ (usbDevice id).spool.usb.aborts.getD 2 false = false ∧
    (usbDevice id).get (F.USB_PIPE_CFG_TYPE 2) = 0 ∧ (usbDevice id).on (F.USB_PIPE_CFG_DIR 2) = true ∧
    (usbDevice id).spool.usb.ctrl = none ∧ (usbDevice fun u => { u with ctrl := some [1] }).spool.usb.ctrl = some [1] ∧
    (usbDevice id).mgmtRuns = true ∧ (usbDevice id).spool.usb.mbx.length < 4 ∧
    (usbDevice fun u => { u with reply := some [1] }).spool.usb.reply = some [1] ∧
    (usbDevice fun u => { u with reply := some [1] }).mgmtRuns = true ∧ (usbDevice id).on F.USB_DEV_STATUS_CONFIGURED = true ∧
    (usbDevice id).get F.USB_DEV_STATUS_ALT_OUT ≠ 0 ∧ (usbDevice id).get F.USB_DEV_STATUS_ALT_IN ≠ 0 ∧
    (usbDevice id).usbSilent = true ∧ ((usbDevice id).sets [(F.PWR_STATUS_STATE, 1), (HUnit.aud.state, 2)]).usbSilent = false ∧
    [[1, 2]].length ≤ (usbDevice id).samplesPer + 1 ∧ ((usbLive id).set F.USB_DEV_STATUS_ALT_OUT 0).get F.USB_DEV_STATUS_ALT_OUT = 0 ∧
    (usbDevice id).accepts (.hart 0) R.USB_HC_CTRL ∧ ((usbDevice id).written R.USB_HC_CTRL 1).upstream = 0 ∧
    (((usbDevice id).set F.USB_CFG_UPSTREAM 2).written R.USB_HC_CTRL 1).upstream ≠ 0 ∧
    (((usbDevice id).set F.USB_CFG_UPSTREAM 2).written R.USB_HC_CTRL 1).on F.USB_HC_CTRL_RUN = true ∧
    pipeReady.accepts (.hart 0) (R.USB_PIPE_CMD 1) ∧ (pipeReady.written (R.USB_PIPE_CMD 1) 1).on (F.USB_PIPE_STATUS_BUSY 1) = false ∧
    (pipeReady.written (R.USB_PIPE_CMD 1) 1).pipeOk 1 false = true ∧ (usbDevice id).accepts (.hart 0) (R.USB_PIPE_CMD 2) ∧
    ((usbDevice id).written (R.USB_PIPE_CMD 2) 4).on (F.USB_PIPE_STATUS_BUSY 2) = true ∧
    live.accepts (.hart 0) R.USB_MBX_RX_POP ∧ live.accepts (.hart 0) R.USB_MBX_TX_CTRL ∧
    (live.written R.USB_MBX_TX_CTRL 0x400).spool.usb.reply = none := by decide

/-- Hub port 3's near end holding one transaction with a TAG and a result. -/
def nearTx (r : Option (Nat × Bool × List Byte)) : State := (usbLive id).mapNear 3 fun x => { x with txs := [⟨5, 1, 2, 2, r⟩] }

/-- Dock port 2 bound as a far end. -/
def farLive (f : FarPort → FarPort) : State :=
  ((withEntry 3 svReliable fun e => { e with w1 := 7 + 10 * 2 ^ 16, w2 := 10 * 2 ^ 16 }).sets [(HUnit.usb.state, 2)]).mapFar 2 f

theorem wit_UsbRemotePorts : (usbLive id).nearWorks 3 = true ∧ ((usbLive id).near 3).txs.length < 2 ∧
    (usbLive id).windowOpen ((usbLive id).nearEntry 3) = true ∧ (usbLive id).seamUp = true ∧
    (((usbLive id).mapNear 3 fun x => { x with txs := [⟨5, 1, 2, 2, none⟩, ⟨6, 1, 2, 2, none⟩] }).near 3).txs.length = 2 ∧
    ((nearTx none).near 3).txs.find? (fun t => t.addr = 1 && t.ep = 2 && t.pid = 2) = some ⟨5, 1, 2, 2, none⟩ ∧
    ((nearTx (some (0, false, []))).near 3).txs.find? (fun t => t.addr = 1 && t.ep = 2 && t.pid = 2) = some ⟨5, 1, 2, 2, some (0, false, [])⟩ ∧
    (nearTx none).nearWorks 3 = true ∧ (farLive id).isOn .usb = true ∧ (farLive id).farEntry 2 = some 3 ∧
    ((farLive id).farPort 2).resetting = false ∧ ((farLive id).farPort 2).held.contains 2 = false ∧
    ((farLive id).farPort 2).ones.contains 2 = false ∧ (usbLive id).remotePort 3 = true ∧ ((usbLive id).near 3).gen = 0 ∧
    ((nearTx none).near 3).outs.any (fun o => o.1 = 5) = false ∧ ((nearTx none).near 3).txs.any (fun t => t.tag = 5 && t.result.isNone) = true ∧
    (nearTx none).get F.USB_RMT_CFG_RESULT_MS ≤ 100000 ∧
    ((usbLive id).set (F.USB_PORT_STATUS_RESET 3) 1).on (F.USB_PORT_STATUS_RESET 3) = true ∧ (usbLive id).remotePort 2 = false ∧
    2 ≠ (usbLive id).upstream ∧ (usbLive id).on F.USB_STATUS_SUSPENDED ≠ true ∧
    ((farLive fun x => { x with resetting := true }).farPort 2).resetting = true ∧
    ((farLive id).set F.SEAM_STATUS_UP 0).seamUp = false := by decide

theorem wit_AudioRowsKeepToAudio : (∃ t, (Instr.tdmLost 3) = .tdmLost t) ∧ ∃ t, exec (.tdmLost 3) live = .next t := ⟨⟨_, rfl⟩, _, rfl⟩

theorem wit_StateRowsKeepToStc : (∃ w u v, (Instr.cvuStart (.hart 0) 130 0) = .cvuStart w u v) ∧
    ∃ t, exec (.cvuStart (.hart 0) 130 0) live = .next t := ⟨⟨_, _, _, rfl⟩, _, rfl⟩

theorem wit_BringUpRowsKeepToTheirPort : ((Instr.cdrLock 2) = .signalStable 2 ∨ (Instr.cdrLock 2) = .cdrLock 2) ∧
    (∃ t, exec (.cdrLock 2) live = .next t) ∧ (3 : Fin 8) ≠ 2 := ⟨.inr rfl, ⟨_, rfl⟩, by decide⟩

theorem wit_LaneRowsKeepToLane : (∃ t, (Instr.modPresent 1) = .modPresent t) ∧ ∃ t, exec (.modPresent 1) live = .next t :=
  ⟨⟨_, rfl⟩, _, rfl⟩

theorem wit_BridgeAndDisplayRowsKeepToTheirBlock : (∃ l d, (Instr.appliedRx 2 9) = .appliedRx l d) ∧
    (∃ t, exec (.appliedRx 2 9) live = .next t) ∧ ∃ t, exec .ethAge live = .next t := ⟨⟨_, _, rfl⟩, ⟨_, rfl⟩, _, rfl⟩

theorem wit_GateTimersKeepToTheirGate : (∃ v, (Instr.dischargeDone 2 500) = .dischargeDone 2 v) ∧
    (∃ t, exec (.dischargeDone 2 500) live = .next t) ∧ (3 : Fin 7) ≠ 2 := ⟨⟨_, rfl⟩, ⟨_, rfl⟩, by decide⟩

theorem wit_DockAndUsbRowsKeepToTheirBlock : (∃ p, (Instr.waitRx 4) = .waitRx p) ∧ (∃ t, exec (.waitRx 4) live = .next t) ∧
    ∃ t, exec .isoInPacket live = .next t := ⟨⟨_, rfl⟩, ⟨_, rfl⟩, _, rfl⟩

theorem wit_RingAndPlanRowsKeepToTheirBlock : (∃ i, (Instr.buddySingle 7) = .buddySingle i) ∧ (∃ t, exec (.buddySingle 7) live = .next t) ∧
    (∃ p k, (Instr.creditStall 1 2) = .creditStall p k) ∧ (∃ t, exec (.creditStall 1 2) live = .next t) ∧
    ∃ t, exec .holdoverLong live = .next t := ⟨⟨_, rfl⟩, ⟨_, rfl⟩, ⟨_, _, rfl⟩, ⟨_, rfl⟩, _, rfl⟩

theorem wit_RegisterCommandsKeepToTheirBlock : (∃ t, exec (.eccArm (.hart 0) 1) live = .next t) ∧
    live.accepts (.hart 0) R.SWB_ECC_INJECT ∧ ∃ t, exec (.tmpClear (.hart 0) 1) live = .next t := ⟨⟨_, rfl⟩, by decide, _, rfl⟩

/-! Ill-formed terms: one for each check, refused. -/

theorem test_wf_hub_is_no_sender : Instr.wf (.hartRelease .hub 2) = false := by decide

theorem test_wf_width : Instr.wf (.regWrite (.hart 0) 0x40000000 0 3 true) = false := by decide

theorem test_wf_bar_width : Instr.wf (.pcieBarAccess ⟨false, 0⟩ true 0 16 true) = false := by decide

theorem test_wf_length : Instr.wf (.reliableDataRx (frameOf 2 7 0 [1, 2])) = true ∧
    Instr.wf (.reliableDataRx { frameOf 2 7 0 [1, 2] with payload := [1, 2, 3] }) = false := by decide

theorem test_wf_lantern_lists : Instr.wf (.lanternCycle (List.replicate 15 0) (List.replicate 8 0)) = false ∧
    Instr.wf (.lanternCycle (List.replicate 16 0) (List.replicate 7 0)) = false := by decide

theorem test_wf_setup : Instr.wf (.devSetup [0, 5, 1, 0, 0, 0, 0] false) = false := by decide

theorem test_wf_mailbox : Instr.wf (.mbxRx (List.replicate 513 0)) = false := by decide

/-! Values that the spec prints. -/

/-- The nine ASCII bytes "123456789". -/
def digits : List Byte := [0x31, 0x32, 0x33, 0x34, 0x35, 0x36, 0x37, 0x38, 0x39]

/-- spec/06 R134. -/
theorem test_crc16 : crc16Bytes digits = 0x29B1 := by decide

/-- spec/06 R135. -/
theorem test_crc32c : crc32c digits = 0xE3069283 := by decide

/-- The table of spec/12 R288. -/
theorem test_check_values : (List.range 4).map (fun p => cvuOver p digits) = [0x20, 0x29B1, 0xCBF43926, 0xE3069283] := by decide

/-- The example of spec/11: trio 0 of capture cycle 700,000 at 48 kHz has INDEX 5,696, trio 1 has 5,699. -/
theorem test_sample_index : live.sampleIx 700000 0 = 5696 ∧ live.sampleIx 700000 3 = 5699 := by decide

/-! One step on a small state. -/

theorem test_queue_is_first_in_first_out :
    (step { live with pending := [.hartRelease (.hart 0) 2, .cycleBoundary] }) =
      exec (.hartRelease (.hart 0) 2) { live with pending := [.cycleBoundary] } := rfl

/-- The field at an outcome's next state. -/
def after (o : Step) (f : Fld) : Option Nat := match o with
  | .next t => some (t.get f)
  | _ => none

/-- spec/02 R28: a release of the token advances EPOCH by 1. -/
theorem test_release_advances_epoch :
    after (exec (.tokenRelease (.hart 0) 1) (live.set F.TOP_BOOT_STATUS_BOOT_SRC 1)) F.TOP_HOST_TOKEN_EPOCH = some 1 ∧
    after (exec (.tokenRelease (.hart 0) 1) (live.set F.TOP_BOOT_STATUS_BOOT_SRC 1)) F.TOP_HOST_TOKEN_OWNER = some 1 := by decide

/-- spec/02 R28: a heartbeat missed for two periods gives the token back to hart 0. -/
theorem test_heartbeat_lapse : after (exec (.hostHbLapse 200) (live.set F.TOP_HOST_TOKEN_OWNER 1)) F.TOP_HOST_TOKEN_OWNER = some 0 := by
  decide

/-- spec/02 R25: outside the map a read sets ACCESS_ERR of TOP. -/
theorem test_outside_the_map : after (exec (.regWrite (.hart 0) 0x41200000 7 4 true) live) ⟨0x40000004, 1, 1⟩ = some 1 := by decide

/-- spec/20 R431: a counter wraps modulo 2^48. -/
theorem test_counter_wraps : (match exec (.counterWrap 5) (live.setCounter 5 (2 ^ 48 - 1)) with
    | .next t => some (t.counter 5, t.get F.CNT_WRAP_GROUPS)
    | _ => none) = some (0, 1) := by decide

/-- spec/16 R368: the status stage of a SetAddress gives the address. -/
theorem test_set_address : after (exec (.devSetup [] true) (usbLive fun u => { u with ctrl := some [0, 5, 9, 0, 0, 0, 0, 0] }))
    F.USB_DEV_STATUS_ADDR = some 9 := by decide

/-- spec/17 R377: a gate whose output is below 0.8 V ends its discharge. -/
theorem test_discharge : after (exec (.dischargeDone 2 500) (live.set (F.PGT_GATE_STATUS_DSCH 2) 1)) (F.PGT_GATE_STATUS_DSCH 2) =
    some 0 := by decide

end Sys2Proof.Tests
end

section
/-! Accesses by address (spec/02 R25 to R33; spec/13 R294): what a live path, an accepted write and an answered read do, each said
once, and the obligation on accesses put together from them. -/

namespace Sys2Proof.Machine

/-! ### The rows that are accesses -/

theorem exec_regWrite (s : State) (w : Requester) (a v : Word) (n : Nat) (d : Bool) :
    exec (.regWrite w a v n d) s = s.busWrite w a.toNat v n d := rfl

theorem exec_loRead (s : State) (w : Requester) (x : ReadAt) :
    exec (.loRead w x) s = s.busRead w x.addr.toNat 4 x.delivered := rfl

theorem exec_loWrite (s : State) (w : Requester) (a v : Word) : exec (.loWrite w a v) s = s.busWrite w a.toNat v 4 true := rfl

theorem exec_hiWrite (s : State) (w : Requester) (a v : Word) : exec (.hiWrite w a v) s = s.busWrite w a.toNat v 4 true := rfl

theorem exec_spiWrite (s : State) (a v : Word) (d : Bool) : exec (.spiWrite a v d) s = s.busWrite .spi a.toNat v 4 d := rfl

theorem exec_spiRead (s : State) (x : ReadAt) : exec (.spiRead x) s = s.busRead .spi x.addr.toNat 4 x.delivered := rfl

theorem exec_bar0Write (s : State) (a v : Word) (n : Nat) (d : Bool) :
    exec (.pcieBarAccess ⟨false, a⟩ true v n d) s = s.busWrite .pcie a.toNat v n d := rfl

theorem exec_bar0Read (s : State) (a v : Word) (n : Nat) (d : Bool) :
    exec (.pcieBarAccess ⟨false, a⟩ false v n d) s = s.busRead .pcie a.toNat n d := by
  have row : exec (.pcieBarAccess ⟨false, a⟩ false v n d) s = execPcieBarAccess ⟨false, a⟩ false v n d s := rfl
  simp [row, execPcieBarAccess]

theorem exec_bar2 (s : State) (o v : Word) (write : Bool) (n : Nat) (d : Bool) :
    exec (.pcieBarAccess ⟨true, o⟩ write v n d) s = .next (s.bar2 o.toNat write v n) := rfl

/-! ### Answers -/

theorem answer_spi_done (s : State) (x : Word) : s.answer .spi .done x = s.emit (.spiStatus 0 x) := rfl

theorem answer_pcie_done (s : State) (x : Word) : s.answer .pcie .done x = s.emit (.access .pcie .done x) := rfl

/-! ### Ranges of the address map on a live path -/

section LivePath
variable {s : State} {w : Requester} (live : s.pathLive w = true)
include live

theorem busWrite_sram {a n : Nat} (v : Word) (d : Bool) (range : rangeOf a = .sram) (free : s.sourceGuarded a n = false) :
    s.busWrite w a v n d = .next ((s.sramPut (a - 0x10000000) (leBytes n v.toNat)).answer w .done 0) := by
  simp [State.busWrite, live, range, free]

theorem busWrite_out {a : Nat} (v : Word) (n : Nat) (d : Bool) (range : rangeOf a = .out) :
    s.busWrite w a v n d = .next (s.outOfMap w) := by
  simp [State.busWrite, live, range]

theorem busWrite_block {a : Nat} (v : Word) (n : Nat) (d : Bool) (range : rangeOf a = .block) :
    s.busWrite w a v n d = .next (s.blockWrite w a v n d) := by
  simp [State.busWrite, live, range]

theorem busRead_sram {a : Nat} (n : Nat) (d : Bool) (range : rangeOf a = .sram) :
    s.busRead w a n d =
      .next (s.answer w .done (BitVec.ofNat 32 (leAt (memBytes s.bolt.sram (a - 0x10000000) n) 0 n))) := by
  simp [State.busRead, live, range]

theorem busRead_block {a : Nat} (n : Nat) (d : Bool) (range : rangeOf a = .block) :
    s.busRead w a n d = .next (s.blockRead w a n d) := by
  simp [State.busRead, live, range]

end LivePath

/-! ### BAR 2 -/

theorem bar2_write {s : State} {o n : Nat} (live : s.pathLive .pcie = true) (inTable : o + n ≤ 1024) (v : Word) :
    s.bar2 o true v n = { s with bolt.msixTable := memPut s.bolt.msixTable o (leBytes n v.toNat) }.answer .pcie .done 0 := by
  simp [State.bar2, live, inTable]

theorem bar2_read {s : State} {o n : Nat} (live : s.pathLive .pcie = true) (inTable : o + n ≤ 1024) (v : Word) :
    s.bar2 o false v n = s.answer .pcie .done (BitVec.ofNat 32 (leAt (memBytes s.bolt.msixTable o n) 0 n)) := by
  simp [State.bar2, live, inTable]

/-! ### Accepted writes of a register -/

section Accepted
variable {s : State} {w : Requester} {a : Nat} (acc : s.accepts w a)
include acc

/-- An accepted write of a register that is not stored by access type acts and answers. -/
theorem guarded_of_accepts (act : State → State) : s.guarded w a act = (act (s.countSpoolWrite a)).answer w .done 0 := by
  obtain ⟨live, verdict⟩ := acc
  simp [State.guarded, live, verdict]

/-- An accepted write command stores its value, acts and answers. -/
theorem command_of_accepts (v : Word) (act : State → State) : s.command w a v act = (act (s.written a v)).answer w .done 0 := by
  obtain ⟨live, verdict⟩ := acc
  simp [State.command, live, verdict, State.written]

/-- An accepted write of a _HI register takes the held _LO value first. -/
theorem writeHi_of_accepts (v : Word) : s.writeHi w a v = (s.takeLo w (a - 4)).writeReg w a v := by
  obtain ⟨live, verdict⟩ := acc
  simp [State.writeHi, live, verdict]

theorem writeReg_of_startsNothing {v : Word} (plain : startsNothing s w a v) :
    s.writeReg w a v = (s.written a v).answer w .done 0 := by
  obtain ⟨noWindow, noUnit, noCommand⟩ := plain
  simp only [State.writeReg, noWindow, noUnit, noCommand]
  exact command_of_accepts acc v id

/-- An accepted 32-bit write of a register that is not PAT_CTRL and has not to wait for its flit is applied. -/
theorem blockWrite_of_accepts (v : Word) {d : Bool} (arrived : isSpool a = false ∨ d = true) (notPat : a ≠ R.PAT_CTRL) :
    s.blockWrite w a v 4 d = s.writeAny w a v := by
  obtain ⟨-, verdict⟩ := acc
  have applied : (isSpool a && !d) = false := by rcases arrived with h | h <;> simp [h]
  simp only [State.blockWrite, verdict, notPat, applied]
  rfl

end Accepted

theorem writeAny_lo {s : State} {a : Nat} (half : halfOf a = .lo) (w : Requester) (v : Word) :
    s.writeAny w a v = s.writeLo w a v := by
  simp [State.writeAny, half]

theorem writeAny_hi {s : State} {a : Nat} (half : halfOf a = .hi) (w : Requester) (v : Word) :
    s.writeAny w a v = s.writeHi w a v := by
  simp [State.writeAny, half]

theorem writeAny_none {s : State} {a : Nat} (half : halfOf a = .none) (w : Requester) (v : Word) :
    s.writeAny w a v = s.writeReg w a v := by
  simp [State.writeAny, half]

/-! ### Reads of a register -/

theorem blockRead_of_act {s : State} {w : Requester} {a n : Nat} {d : Bool} (verdict : s.judge w a n false = .act)
    (arrived : isSpool a = false ∨ d = true) :
    s.blockRead w a n d = (s.readReg w a).1.answer w .done (s.readReg w a).2 := by
  have back : (isSpool a && !d) = false := by rcases arrived with h | h <;> simp [h]
  simp only [State.blockRead, verdict, back]
  rfl

theorem readReg_lo {a : Nat} (half : halfOf a = .lo) (s : State) (w : Requester) :
    s.readReg w a = ((s.readDone a).latchHigh w a, (s.latched w a).getD (s.viewReg a)) := by
  simp [State.readReg, half]

/-! ### What judges an access -/

/-- The two states agree on all that judges an access: the paths' registers and controls, the token, the seam, the pattern in
force (spec/02 R26, R27, R31, R43; spec/03 R53). -/
structure JudgesAlike (s t : State) : Prop where
  power : t.rd R.PGT_STATUS = s.rd R.PGT_STATUS
  token : t.rd R.TOP_HOST_TOKEN = s.rd R.TOP_HOST_TOKEN
  seam : t.rd R.SEAM_STATUS = s.rd R.SEAM_STATUS
  running : t.bolt.running = s.bolt.running
  harts : t.bolt.ctl.hartsOn = s.bolt.ctl.hartsOn
  stopped : t.bolt.coresStopped = s.bolt.coresStopped
  pcie : t.bolt.pcieUp = s.bolt.pcieUp
  pattern : t.bolt.pat = s.bolt.pat

namespace JudgesAlike
variable {s t : State} (same : JudgesAlike s t)
include same

theorem pathLive (w : Requester) : t.pathLive w = s.pathLive w := by
  simp only [State.pathLive, State.boltUp, State.boltPowered, State.on, State.get, same.power, same.running, same.harts,
    same.stopped, same.pcie]

theorem present (id : Nat) : t.present id = s.present id := by simp only [State.present, same.pattern]

theorem holder (w : Requester) : t.holder w = s.holder w := by
  have owner : t.get F.TOP_HOST_TOKEN_OWNER = s.get F.TOP_HOST_TOKEN_OWNER := by rw [State.get, same.token, State.get]
  rw [State.holder, owner, State.holder]

theorem seamUp : t.seamUp = s.seamUp := by simp only [State.seamUp, State.on, State.get, same.seam]

theorem judge (w : Requester) (a n : Nat) (write : Bool) : t.judge w a n write = s.judge w a n write := by
  simp only [State.judge, same.present, same.holder, same.seamUp, same.pattern]

theorem accepts {w : Requester} {a : Nat} (acc : s.accepts w a) : t.accepts w a := by
  obtain ⟨live, verdict⟩ := acc
  exact ⟨(same.pathLive w).trans live, (same.judge w a 4 true).trans verdict⟩

end JudgesAlike

/-! ### Registers that hold one plain RW field -/

theorem clamp_getBits (v : Word) (l n : Nat) : clamp 0 (2 ^ n - 1) (getBits v l n) = getBits v l n := by
  have small : getBits v l n < 2 ^ n := BitVec.isLt _
  have below : ¬ 2 ^ n - 1 < getBits v l n := by omega
  simp [clamp, below]

theorem setBits_whole (x v : Word) : setBits x 0 32 (getBits v 0 32) = v := by
  have e : getBits (setBits x 0 32 (getBits v 0 32)) 0 32 = getBits v 0 32 := by
    rw [getBits_setBits_same _ _ _ _ (by decide)]
    exact Nat.mod_eq_of_lt (BitVec.isLt _)
  exact BitVec.eq_of_toNat_eq (by simpa [getBits] using e)

/-- A register of one RW field without limits: a write stores that field of the value and nothing else. -/
theorem storeWrite_rw {a l n : Nat} {r : RegDef} {ix : List Nat} (beyondHeader : 0x10 ≤ a % 0x100000)
    (found : findReg a = some (r, ix)) (field : r.fields = [.f l n .rw]) (s : State) (v : Word) :
    s.storeWrite a v = s.wr a (setBits (s.rd a) l n (getBits v l n)) := by
  have h4 : a % 0x100000 ≠ 4 := by omega
  have h8 : a % 0x100000 ≠ 8 := by omega
  have hC : a % 0x100000 ≠ 0xC := by omega
  simp [State.storeWrite, h4, h8, hC, found, field, writeField, FieldDef.f, clamp_getBits, State.when]

/-! ### The pair CNT_LOAD -/

theorem storeWrite_CNT_LOAD_LO (s : State) (v : Word) : s.storeWrite R.CNT_LOAD_LO v = s.wr R.CNT_LOAD_LO v := by
  rw [storeWrite_rw (l := 0) (n := 32) (by decide) rfl rfl, setBits_whole]

theorem storeWrite_CNT_LOAD_HI (s : State) (v : Word) :
    s.storeWrite R.CNT_LOAD_HI v = s.set F.CNT_LOAD_HI_VALUE (getBits v 0 16) :=
  storeWrite_rw (by decide) rfl rfl s v

theorem startsNothing_CNT_LOAD_HI (s : State) (w : Requester) (v : Word) : startsNothing s w R.CNT_LOAD_HI v :=
  ⟨rfl, by decide, rfl⟩

section HeldLow
variable {s : State} {w : Requester} {l : Word} (held : s.heldLo w R.CNT_LOAD_LO = some l)
include held

/-- Taking the held low half of CNT_LOAD stores it in its register. -/
theorem rd_takeLo_CNT_LOAD (b : Nat) : (s.takeLo w R.CNT_LOAD_LO).rd b = (s.wr R.CNT_LOAD_LO l).rd b := by
  simp only [State.takeLo, held, storeWrite_CNT_LOAD_LO]
  rfl

theorem judgesAlike_takeLo_CNT_LOAD : JudgesAlike s (s.takeLo w R.CNT_LOAD_LO) := by
  have bolt : (s.takeLo w R.CNT_LOAD_LO).bolt = { s.bolt with ctl.wrLatch := (s.takeLo w R.CNT_LOAD_LO).bolt.ctl.wrLatch } := by
    simp only [State.takeLo, held, storeWrite_CNT_LOAD_LO, wr_bolt]
  constructor
  case power | token | seam => rw [rd_takeLo_CNT_LOAD held, rd_wr_other _ (by decide)]
  all_goals rw [bolt]

/-- An accepted write of CNT_LOAD_HI stores the held low half and its own field. -/
theorem hiWrite_CNT_LOAD (v : Word) (acc : s.accepts w R.CNT_LOAD_HI) :
    exec (.hiWrite w (BitVec.ofNat 32 R.CNT_LOAD_HI) v) s =
      .next (((s.takeLo w R.CNT_LOAD_LO).set F.CNT_LOAD_HI_VALUE (getBits v 0 16)).answer w .done 0) := by
  have acc' := (judgesAlike_takeLo_CNT_LOAD held).accepts acc
  calc exec (.hiWrite w (BitVec.ofNat 32 R.CNT_LOAD_HI) v) s
    _ = .next (s.blockWrite w R.CNT_LOAD_HI v 4 true) := by
      rw [exec_hiWrite]
      exact busWrite_block acc.1 v 4 true rfl
    _ = .next (s.writeHi w R.CNT_LOAD_HI v) := by
      rw [blockWrite_of_accepts acc v (.inr rfl) (by decide), writeAny_hi rfl]
    _ = .next ((s.takeLo w R.CNT_LOAD_LO).writeReg w R.CNT_LOAD_HI v) := congrArg _ (writeHi_of_accepts acc v)
    _ = .next (((s.takeLo w R.CNT_LOAD_LO).written R.CNT_LOAD_HI v).answer w .done 0) := by
      rw [writeReg_of_startsNothing acc' (startsNothing_CNT_LOAD_HI _ w v)]
    _ = _ := by rw [State.written, storeWrite_CNT_LOAD_HI]; rfl

end HeldLow

/-! ### The obligation, part by part -/

/-- An accepted 32-bit write of a register that starts nothing stores the value and answers. -/
theorem regWrite_of_startsNothing {s : State} {w : Requester} {a v : Word} {d : Bool} (range : rangeOf a.toNat = .block)
    (acc : s.accepts w a.toNat) (arrived : isSpool a.toNat = false ∨ d = true) (notPat : a.toNat ≠ R.PAT_CTRL)
    (half : halfOf a.toNat = .none) (plain : startsNothing s w a.toNat v) :
    exec (.regWrite w a v 4 d) s = .next ((s.written a.toNat v).answer w .done 0) := by
  rw [exec_regWrite, busWrite_block acc.1 _ _ _ range, blockWrite_of_accepts acc v arrived notPat, writeAny_none half,
    writeReg_of_startsNothing acc plain]

/-- An accepted _LO write is held for its requester and block (spec/02 R33). -/
theorem loWrite_holds {s : State} {w : Requester} {a : Word} (v : Word) (range : rangeOf a.toNat = .block)
    (half : halfOf a.toNat = .lo) (notPat : a.toNat ≠ R.PAT_CTRL) (acc : s.accepts w a.toNat) :
    exec (.loWrite w a v) s = .next (((s.countSpoolWrite a.toNat).holdLo w a.toNat v).answer w .done 0) := by
  rw [exec_loWrite, busWrite_block acc.1 _ _ _ range, blockWrite_of_accepts acc v (.inr rfl) notPat, writeAny_lo half,
    State.writeLo, guarded_of_accepts acc]

/-- After an accepted CNT_LOAD_HI write both halves of the pair stand (spec/02 R33). -/
theorem hiWrite_stores_CNT_LOAD {s : State} {w : Requester} {l : Word} (v : Word) (acc : s.accepts w R.CNT_LOAD_HI)
    (held : s.heldLo w R.CNT_LOAD_LO = some l) :
    ∃ t : State, exec (.hiWrite w (BitVec.ofNat 32 R.CNT_LOAD_HI) v) s = .next t ∧ t.rd R.CNT_LOAD_LO = l ∧
      t.get F.CNT_LOAD_HI_VALUE = getBits v 0 16 := by
  refine ⟨_, hiWrite_CNT_LOAD held v acc, ?low, ?high⟩
  case low => rw [rd_answer, rd_set_other _ _ _ (by decide), rd_takeLo_CNT_LOAD held, rd_wr_same]
  case high =>
    have small : getBits v 0 16 < 2 ^ 16 := BitVec.isLt _
    rw [State.get, rd_answer, ← State.get, get_set_same _ _ _ (by decide), Nat.mod_eq_of_lt small]

/-- A _LO read answers the low word and latches the high one (spec/02 R32). -/
theorem loRead_latches {s : State} {w : Requester} {a : Word} {d : Bool} (live : s.pathLive w = true)
    (range : rangeOf a.toNat = .block) (half : halfOf a.toNat = .lo) (arrived : isSpool a.toNat = false ∨ d = true)
    (verdict : s.judge w a.toNat 4 false = .act) :
    exec (.loRead w ⟨a, d⟩) s = .next (((s.readDone a.toNat).latchHigh w a.toNat).answer w .done
      ((s.latched w a.toNat).getD (s.viewReg a.toNat))) := by
  rw [exec_loRead, busRead_block live _ _ range, blockRead_of_act verdict arrived, readReg_lo half]

/-- Settles O6: each part is the rule of its range or of its register. -/
theorem accessesByAddress : Obligations.AccessesByAddress := by
  refine ⟨fun s w a v n d live => ⟨fun range free => ?_, fun range => ?_⟩,
    fun s w a v d range acc => ⟨⟨_, busWrite_block acc.1 v 4 d range⟩, fun arrived notPat half plain =>
      regWrite_of_startsNothing range acc arrived notPat half plain⟩,
    fun s a v n d range => ⟨fun live free => ?_, fun live => ?_, fun live free => ?_, fun live => ?_⟩,
    fun s o v n d live inTable => ⟨?_, ?_⟩,
    fun s w a v range half notPat acc => loWrite_holds v range half notPat acc,
    fun s w l v acc held => hiWrite_stores_CNT_LOAD v acc held,
    fun s w a d live range half arrived verdict => loRead_latches live range half arrived verdict⟩
  · rw [exec_regWrite, busWrite_sram live v d range free]
  · rw [exec_regWrite, busWrite_out live v n d range, State.outOfMap]
  · rw [exec_spiWrite, busWrite_sram live v d range free, answer_spi_done]
  · rw [exec_spiRead, busRead_sram live 4 d range, answer_spi_done]
  · rw [exec_bar0Write, busWrite_sram live v d range free, answer_pcie_done]
  · rw [exec_bar0Read, busRead_sram live n d range, answer_pcie_done]
  · rw [exec_bar2, bar2_write live inTable, answer_pcie_done]
  · rw [exec_bar2, bar2_read live inTable, answer_pcie_done]

end Sys2Proof.Machine
end

section
/-! PCIe link states (spec/13 R299, R307, R308; spec/01 R17; spec/04 R78): what each end does with a LINK_STATE record, when a quad
trains, and what a change of its link does at either end; the obligation on link states is put together from them. -/

namespace Sys2Proof.Machine

/-! ### The rows, and when they act -/

theorem exec_linkStateRx (s : State) (l : Fin 32) (flags speed width : BitVec 8) :
    exec (.linkStateRx l flags speed width) s = execLinkStateRx l flags speed width s := rfl

theorem exec_downstreamReset (s : State) (l : Fin 32) (reset disable : Bool) :
    exec (.downstreamReset l reset disable) s = execDownstreamReset l reset disable s := rfl

theorem exec_pcieLinkChange (s : State) (q : Fin 3) (up : Bool) (speed width : BitVec 3) (ltssm : BitVec 6) :
    exec (.pcieLinkChange q up speed width ltssm) s = execPcieLinkChange q up speed width ltssm s := rfl

theorem ifBolt_of_boltUp {s : State} (live : s.boltUp = true) (f : State → State) : s.ifBolt f = f s := if_pos live

theorem linkOn_of_isOn {s : State} {l : Fin 32} (on : s.isOn (.pcbLink l) = true) : s.linkOn l = true := by
  simp [State.linkOn, on]

/-- Outside QUIET every quad may run its link. -/
theorem pcieMay_of_notQuiet {s : State} (q : Nat) (notQuiet : s.get F.PWR_STATUS_STATE ≠ 2) : s.pcieMay q = true := by
  simp [State.pcieMay, notQuiet]

/-- In QUIET only quad 2, the boot link's, may run. -/
theorem pcieMay_of_quiet {s : State} {q : Nat} (quiet : s.get F.PWR_STATUS_STATE = 2) (notBoot : q < 2) :
    s.pcieMay q = false := by
  simp [State.pcieMay, quiet, Nat.ne_of_lt notBoot]

/-! ### LINK_STATE received and sent -/

/-- LINK_STATE with UP at the upstream end: the far link is shown, and a change of it reported. -/
theorem linkStateRx_upstream {s : State} {l : Fin 32} {flags : BitVec 8} (speed width : BitVec 8) (live : s.boltUp = true)
    (on : s.isOn (.pcbLink l) = true) (atUpstream : s.upQuad (s.linkQuad l) = true) (up : bit flags.toNat 0 = true) :
    let shown : State := (s.sets [(F.PCB_LNK_STATUS_FAR_UP l, 1), (F.PCB_LNK_STATUS_FAR_SPEED l, speed.toNat),
      (F.PCB_LNK_STATUS_FAR_WIDTH l, width.toNat)]).irq bPcb 2
    exec (.linkStateRx l flags speed width) s =
      .next (if s.on (F.PCB_LNK_STATUS_FAR_UP l) = true then shown else shown.emit (.pcieReport l 2)) := by
  rw [exec_linkStateRx, execLinkStateRx, ifBolt_of_boltUp live]
  cases s.on (F.PCB_LNK_STATUS_FAR_UP l) <;> simp [linkOn_of_isOn on, atUpstream, up, b2n]

/-- LINK_STATE at the downstream end: RESET and DISABLE hold the link, and either ends a lock. -/
theorem linkStateRx_downstream {s : State} {l : Fin 32} (flags speed width : BitVec 8) (live : s.boltUp = true)
    (on : s.isOn (.pcbLink l) = true) (atDownstream : s.upQuad (s.linkQuad l) = false) :
    let held : State := ((s.mapBlink l fun x => { x with reset := bit flags.toNat 1, disable := bit flags.toNat 2 }).irq bPcb 2).emit
      (.pcieHold (s.linkQuad l) (bit flags.toNat 1) (bit flags.toNat 2))
    exec (.linkStateRx l flags speed width) s =
      .next (if bit flags.toNat 1 || bit flags.toNat 2 then held.unlock l else held) := by
  rw [exec_linkStateRx, execLinkStateRx, ifBolt_of_boltUp live]
  simp [linkOn_of_isOn on, atDownstream]

/-- DOWNSTREAM_RESET at the upstream end: a lock ends, and the far end is told. -/
theorem downstreamReset_upstream {s : State} {l : Fin 32} (reset disable : Bool) (live : s.boltUp = true)
    (on : s.isOn (.pcbLink l) = true) (atUpstream : s.upQuad (s.linkQuad l) = true) :
    exec (.downstreamReset l reset disable) s = .next ((if reset || disable then s.unlock l else s).sendControl l 1
      (2 * b2n reset + 4 * b2n disable) 0 0 s.cycle 0 0) := by
  rw [exec_downstreamReset, execDownstreamReset, ifBolt_of_boltUp live]
  simp [linkOn_of_isOn on, atUpstream]

/-! ### A quad's own link -/

section QuadLink
variable {s : State} {q : Fin 3} (live : s.boltUp = true) (speed width : BitVec 3) (ltssm : BitVec 6)
include live

/-- A quad without its reference clock, or stopped in QUIET, does not train. -/
theorem pcieLinkChange_untrained (stopped : (bit (s.get F.CLK_STATUS_PCIE_REF_OK) q && s.pcieMay q) = false) :
    exec (.pcieLinkChange q true speed width ltssm) s = .next s := by
  rw [exec_pcieLinkChange, execPcieLinkChange, ifBolt_of_boltUp live, stopped]
  rfl

/-- The link of a quad that is ON changes: down at any time, up where the quad may train. -/
theorem pcieLinkChange_runs {up : Bool} (on : s.isOn (.pcbQuad q) = true)
    (trains : up = true → (bit (s.get F.CLK_STATUS_PCIE_REF_OK) q && s.pcieMay q) = true) :
    exec (.pcieLinkChange q up speed width ltssm) s =
      .next (s.linkChange q up (min speed.toNat (s.topSpeed q)) width.toNat ltssm.toNat) := by
  have notStopped : (up && !(bit (s.get F.CLK_STATUS_PCIE_REF_OK) q && s.pcieMay q)) = false := by
    cases up with
    | false => rfl
    | true => rw [trains rfl]; rfl
  rw [exec_pcieLinkChange, execPcieLinkChange, ifBolt_of_boltUp live, notStopped, on]
  rfl

end QuadLink

/-- A link shown in its quad's status register. -/
def State.showQuad (s : State) (q up speed width ltssm : Nat) : State :=
  s.sets [(F.PCBQ_STATUS_LINK_UP q, up), (F.PCBQ_STATUS_SPEED q, speed), (F.PCBQ_STATUS_WIDTH q, width),
    (F.PCBQ_STATUS_LTSSM q, ltssm)]

/-- LINK_STATE told on every link unit of a quad: FLAGS, SPEED and WIDTH (spec/13 R299). -/
def State.tellLinks (s : State) (q flags speed width : Nat) : State :=
  s.each (s.linksOf q) fun l s => s.sendControl l 1 flags speed width s.cycle 0 0

/-- The end of a link change: the rates of the quad's ports follow, and interrupt 1. -/
def State.linkSettled (s : State) (q : Nat) : State := (s.rateReview [2 + 2 * q, 3 + 2 * q]).irq bPcb 1

/-- A downstream end's link that comes up is shown and told with its speed and width. -/
theorem linkChange_up_downstream {s : State} {q speed width ltssm : Nat}
    (atDownstream : (s.showQuad q 1 speed width ltssm).upQuad q = false) :
    s.linkChange q true speed width ltssm =
      ((s.showQuad q 1 speed width ltssm).tellLinks q 1 speed width).linkSettled q := by
  unfold State.showQuad at atDownstream
  simp [State.linkChange, State.showQuad, State.tellLinks, State.linkSettled, b2n, atDownstream]

/-- The state of a quad whose link was lost: shown, counted, and what was open completed. -/
def State.quadLost (s : State) (q ltssm : Nat) : State :=
  ((s.showQuad q 0 0 0 ltssm).sat (F.PCBQ_DOWN_COUNT q) 1).quadDown q

/-- An upstream quad that loses its link tells RESET to the links behind it. -/
theorem linkChange_down_upstream {s : State} {q : Nat} (speed width : Nat) {ltssm : Nat}
    (was : s.on (F.PCBQ_STATUS_LINK_UP q) = true) (atUpstream : (s.quadLost q ltssm).upQuad q = true) :
    s.linkChange q false speed width ltssm =
      (({ s.quadLost q ltssm with bolt.pcieUp := false } : State).tellLinks q 2 0 0).linkSettled q := by
  unfold State.quadLost State.showQuad at atUpstream
  simp [State.linkChange, State.quadLost, State.showQuad, State.tellLinks, State.linkSettled, b2n, was, atUpstream]

/-! ### The obligation, end by end -/

/-- Settles O38: the first part is what LINK_STATE and DOWNSTREAM_RESET do at each end, the second when a quad trains and what the change
of its link does. -/
theorem bridgeLinkStates : Obligations.BridgeLinkStates := by
  refine ⟨fun s l flags speed width live on => ⟨?shown, ?held, ?told⟩,
    fun s q speed width ltssm live on => ⟨fun noRef => ?_, fun quiet notBoot => ?_, fun ref notQuiet atDownstream => ?_,
      fun was atUpstream => ?_⟩⟩
  case shown => exact linkStateRx_upstream speed width live on
  case held => exact linkStateRx_downstream flags speed width live on
  case told => exact fun atUpstream reset disable => downstreamReset_upstream reset disable live on atUpstream
  · exact pcieLinkChange_untrained live speed width ltssm (by rw [noRef]; rfl)
  · exact pcieLinkChange_untrained live speed width ltssm (by rw [pcieMay_of_quiet quiet notBoot, Bool.and_false])
  · have trains : (bit (s.get F.CLK_STATUS_PCIE_REF_OK) q && s.pcieMay q) = true := by
      rw [ref, pcieMay_of_notQuiet q notQuiet, Bool.and_self]
    exact (pcieLinkChange_runs live speed width ltssm on fun _ => trains).trans
      (congrArg _ (linkChange_up_downstream atDownstream))
  · exact (pcieLinkChange_runs (up := false) live speed width ltssm on nofun).trans
      (congrArg _ (linkChange_down_upstream _ _ was atUpstream))

end Sys2Proof.Machine
end


section
/-! The layer that the rows of the control complex stand on: registers after several fields or a write by access types were stored
(spec/00 R6), what interrupts and records keep, when the bolt die and the seam count as up. -/

namespace Sys2Proof.Machine

/-! ### Several fields stored -/

/-- Fields stored leave every register but theirs. -/
theorem rd_sets_other {s : State} {l : List (Fld × Nat)} {a : Nat} (other : ∀ p ∈ l, p.1.reg ≠ a) : (s.sets l).rd a = s.rd a := by
  induction l generalizing s with
  | nil => rfl
  | cons p l ih =>
    obtain ⟨f, v⟩ := p
    rw [State.sets, ih fun q h => other q (List.mem_cons_of_mem _ h), rd_set_other _ _ _ (other (f, v) (by simp))]

theorem get_sets_other {s : State} {l : List (Fld × Nat)} {f : Fld} (other : ∀ p ∈ l, p.1.reg ≠ f.reg) :
    (s.sets l).get f = s.get f := by
  simp only [State.get, rd_sets_other other]

/-- A field that was cleared is off. -/
theorem on_set_zero (s : State) (f : Fld) (fits : f.lsb + f.width ≤ 32) : (s.set f 0).on f = false := by
  simp [State.on, get_set_same s f 0 fits]

/-- States with the same registers show the same fields. -/
theorem get_congr {s t : State} {f : Fld} (same : t.rd f.reg = s.rd f.reg) : t.get f = s.get f := by
  simp only [State.get, same]

theorem on_congr {s t : State} {f : Fld} (same : t.rd f.reg = s.rd f.reg) : t.on f = s.on f := by
  simp only [State.on, get_congr same]

/-! ### Bits -/

theorem bit_eq_testBit (n i : Nat) : bit n i = n.testBit i := (Nat.testBit_eq_decide_div_mod_eq ..).symm

theorem bit_setBit_same (n i : Nat) : bit (setBit n i) i = true := by
  unfold setBit
  split
  · assumption
  · rename_i clear
    rw [bit_eq_testBit, Bool.not_eq_true] at clear
    rw [bit_eq_testBit, Nat.add_comm, Nat.testBit_two_pow_add_eq, clear]
    rfl

theorem bit_getBits (w : Word) (l : Nat) {n i : Nat} (inside : i < n) : bit (getBits w l n) i = w.getLsbD (l + i) := by
  rw [bit_eq_testBit, getBits, BitVec.testBit_toNat, BitVec.getLsbD_extractLsb']
  simp [inside]

/-- The bits of a field after it was stored. -/
theorem getLsbD_setBits_inside (w : Word) {l n i : Nat} (v : Nat) (inside : i < n) (fits : l + n ≤ 32) :
    (setBits w l n v).getLsbD (l + i) = v.testBit i := by
  have here := bit_getBits (setBits w l n v) l inside
  rw [getBits_setBits_same _ _ _ _ fits, bit_eq_testBit, Nat.testBit_mod_two_pow] at here
  simpa [inside] using here.symm

/-! ### Operations done for each item of a list -/

/-- What no single step changes, all of them together leave. -/
theorem each_keeps {α β : Type} (view : State → β) (s : State) (l : List α) {f : α → State → State}
    (keeps : ∀ x s, view (f x s) = view s) : view (s.each l f) = view s := by
  unfold State.each
  induction l generalizing s with
  | nil => rfl
  | cons x l ih => rw [List.foldl_cons, ih, keeps]

/-! ### What judges the power of a die and of the seam -/

theorem boltUp_congr {s t : State} (power : t.rd R.PGT_STATUS = s.rd R.PGT_STATUS) (running : t.bolt.running = s.bolt.running) :
    t.boltUp = s.boltUp := by
  simp only [State.boltUp, State.boltPowered, on_congr (f := F.PGT_STATUS_PG0_GOOD) power, running]

theorem seamUp_congr {s t : State} (seam : t.rd R.SEAM_STATUS = s.rd R.SEAM_STATUS) : t.seamUp = s.seamUp :=
  on_congr (f := F.SEAM_STATUS_UP) seam

/-! ### Interrupts and records -/

/-- A state without what telling changes: registers, outputs, the last look at the interrupt sources, the flits of the seam and the
event counters.  The operations that tell leave the rest. -/
def State.untold (s : State) : State :=
  { s with
    regs := [], out := []
    bolt := { s.bolt with
      ctl := { s.bolt.ctl with pendPrev := 0, lines := 0, seam := SeamEnd.reset }, counters := [], wrapped := [] }
    spool := { s.spool with seam := SeamEnd.reset } }

/-- What the told part does not show is kept by whatever keeps the rest. -/
theorem eq_of_untold {β : Type} {s t : State} (view : State → β) (same : t.untold = s.untold)
    (blind : ∀ s : State, view s.untold = view s := by exact fun _ => rfl) : view t = view s := by
  rw [← blind t, same, blind]

@[simp] theorem untold_emit (s : State) (o : Output) : (s.emit o).untold = s.untold := rfl

@[simp] theorem untold_wr (s : State) (a : Nat) (w : Word) : (s.wr a w).untold = s.untold := rfl

@[simp] theorem untold_set (s : State) (f : Fld) (v : Nat) : (s.set f v).untold = s.untold := rfl

@[simp] theorem untold_sat (s : State) (f : Fld) (n : Nat) : (s.sat f n).untold = s.untold := rfl

@[simp] theorem untold_sets (s : State) (l : List (Fld × Nat)) : (s.sets l).untold = s.untold := by
  induction l generalizing s with
  | nil => rfl
  | cons p l ih => exact (ih _).trans rfl

@[simp] theorem untold_setSeamEnd (s : State) (d : Die) (e : SeamEnd) : (s.setSeamEnd d e).untold = s.untold := by
  cases d <;> rfl

@[simp] theorem untold_answer (s : State) (w : Requester) (st : Access) (x : Word) : (s.answer w st x).untold = s.untold := by
  cases w <;> rfl

@[simp] theorem untold_driveLines (s : State) : s.driveLines.untold = s.untold := by
  unfold State.driveLines
  exact (each_keeps State.untold _ _ fun _ _ => untold_emit _ _).trans rfl

@[simp] theorem untold_refreshInts (s : State) : s.refreshInts.untold = s.untold := by
  unfold State.refreshInts
  dsimp -iota only
  split
  · rw [each_keeps State.untold _ _ fun _ _ => untold_emit _ _, untold_driveLines]
    rfl
  · rw [untold_driveLines]
    rfl

@[simp] theorem untold_pump (d : Die) (n : Nat) (s : State) : (s.pump d n).untold = s.untold := by
  induction n generalizing s with
  | zero => rfl
  | succ n ih =>
    unfold State.pump
    split
    · rfl
    · rw [ih, untold_emit, untold_setSeamEnd]

@[simp] theorem untold_sendFlit (s : State) (d : Die) (type ch data : Nat) : (s.sendFlit d type ch data).untold = s.untold := by
  unfold State.sendFlit
  split
  · rfl
  · rw [untold_pump, untold_setSeamEnd]

@[simp] theorem untold_intChanged (s : State) (base : Nat) : (s.intChanged base).untold = s.untold := by
  unfold State.intChanged State.sendEvent
  split <;> simp

@[simp] theorem untold_sticky (s : State) (base i : Nat) : (s.sticky base i).untold = s.untold := by
  simp [State.sticky]

@[simp] theorem untold_raise (s : State) (base i : Nat) : (s.raise base i).untold = s.untold := by
  unfold State.raise State.sendEvent
  dsimp -iota only
  split <;> simp

@[simp] theorem untold_addCounter (s : State) (id n : Nat) : (s.addCounter id n).untold = s.untold := by
  unfold State.addCounter State.when
  dsimp only
  split <;> rfl

@[simp] theorem untold_countEvent (s : State) (ev : Nat) : (s.countEvent ev).untold = s.untold := by
  have counted (s : State) (l : List Nat) : (s.each l fun j s => s.addCounter (3648 + j) 1).untold = s.untold :=
    each_keeps State.untold _ _ fun _ _ => untold_addCounter _ _ _
  unfold State.countEvent
  dsimp -iota only
  split
  · rw [counted, untold_raise, counted]
  · exact counted _ _

@[simp] theorem untold_irq (s : State) (base i : Nat) : (s.irq base i).untold = s.untold := by
  unfold State.irq
  dsimp -iota only
  split <;> simp

@[simp] theorem untold_storeWrite (s : State) (a : Nat) (v : Word) : (s.storeWrite a v).untold = s.untold := by
  unfold State.storeWrite State.when
  split
  · simp
  · split
    · simp
    · split
      · rfl
      · dsimp only
        split <;> simp

/-- A record of a bolt-die block with the seam up goes to NVS. -/
theorem boltNvs_of_seamUp {s : State} (up : s.seamUp = true) (op : NvsOp) : s.boltNvs op = s.nvsPut op := by
  simp [State.boltNvs, up]

theorem boltFault_of_up {s : State} (live : s.boltUp = true) (up : s.seamUp = true) (source code x y z : Nat) :
    s.boltFault source code x y z = s.nvsPut (.log 1 source code s.cycle (faultPayload x y z)) := by
  simp [State.boltFault, boltNvs_of_seamUp up, State.recCycle, live]

/-- A record held while the seam is down shows, once they are too many, in FLT and as an interrupt; nowhere else. -/
theorem rd_boltNvs (s : State) (op : NvsOp) {a : Nat} (count : a ≠ R.FLT_HELD) (flt : a ≠ 0x40F00008) (wrap : a ≠ R.CNT_WRAP)
    (cnt : a ≠ 0x40E00008) : (s.boltNvs op).rd a = s.rd a := by
  unfold State.boltNvs
  split
  · rfl
  · split
    · rfl
    · rfl
    · split
      · rfl
      · rw [rd_irq _ _ _ flt wrap cnt, State.sat, rd_set_other _ _ _ count.symm]
        rfl

/-! ### Writes by access types (spec/00 R6) -/

theorem countSpoolWrite_bolt {a : Nat} (onBolt : isSpool a = false) (s : State) : s.countSpoolWrite a = s := by
  simp [State.countSpoolWrite, onBolt]

/-- A write of a register of the bolt die stores its value. -/
theorem written_bolt {a : Nat} (onBolt : isSpool a = false) (s : State) (v : Word) : s.written a v = s.storeWrite a v := by
  rw [State.written, countSpoolWrite_bolt onBolt]

/-- A register of the tables: its fields are written one by one, and a refused RWE write sets STICKY. -/
theorem storeWrite_fields {a : Nat} {r : RegDef} {ix : List Nat} (beyondHeader : 0x10 ≤ a % 0x100000)
    (found : findReg a = some (r, ix)) (s : State) (v : Word) :
    s.storeWrite a v =
      (s.wr a (r.fields.foldl (writeField (s.enabledAt (r.owner ix)) v) (s.rd a, false)).1).when
        (r.fields.foldl (writeField (s.enabledAt (r.owner ix)) v) (s.rd a, false)).2 fun s => s.sticky (baseOf a) 0 := by
  have h4 : a % 0x100000 ≠ 4 := by omega
  have h8 : a % 0x100000 ≠ 8 := by omega
  have hC : a % 0x100000 ≠ 0xC := by omega
  simp only [State.storeWrite, h4, h8, hC, found, or_self, if_false]

/-- A register of the tables after a write: what its fields' access types make of it. -/
theorem rd_storeWrite_same {a : Nat} {r : RegDef} {ix : List Nat} (beyondHeader : 0x10 ≤ a % 0x100000)
    (found : findReg a = some (r, ix)) (s : State) (v : Word) :
    (s.storeWrite a v).rd a = (r.fields.foldl (writeField (s.enabledAt (r.owner ix)) v) (s.rd a, false)).1 := by
  rw [storeWrite_fields beyondHeader found]
  dsimp only [State.when]
  split
  · have apart : baseOf a + 4 ≠ a := by unfold baseOf; omega
    rw [State.sticky, rd_intChanged, rd_wr_other _ apart, rd_wr_same]
  · rw [rd_wr_same]

/-- A write leaves every register but its own and its block's STICKY. -/
theorem rd_storeWrite_other (s : State) {a b : Nat} (v : Word) (own : a ≠ b) (sticky : b ≠ baseOf a + 4) :
    (s.storeWrite a v).rd b = s.rd b := by
  unfold State.storeWrite
  split
  · rw [rd_intChanged, rd_wr_other _ own]
  · split
    · rw [rd_intChanged, rd_wr_other _ own]
    · split
      · rfl
      · dsimp only [State.when]
        split
        · rw [State.sticky, rd_intChanged, rd_wr_other _ sticky.symm, rd_wr_other _ own]
        · rw [rd_wr_other _ own]

/-- Fields of a register that lie beside some of its bits leave them. -/
theorem getBits_foldl_writeField {en : Bool} {v : Word} {l n : Nat} {fields : List FieldDef} (acc : Word × Bool)
    (beside : ∀ f ∈ fields, l + n ≤ f.lsb ∨ f.lsb + f.width ≤ l) :
    getBits (fields.foldl (writeField en v) acc).1 l n = getBits acc.1 l n := by
  induction fields generalizing acc with
  | nil => rfl
  | cons f fields ih =>
    have here := beside f (by simp)
    rw [List.foldl_cons, ih _ fun g h => beside g (List.mem_cons_of_mem _ h)]
    unfold writeField
    cases f.acc
    case rwe => cases en <;> simp [getBits_setBits_other _ _ _ _ _ _ here]
    all_goals simp [getBits_setBits_other _ _ _ _ _ _ here]

end Sys2Proof.Machine
end


section
/-! Rows of state channels and check-value units, and write commands of plain registers: what each leaves of the rest (spec/02 R31,
R33; spec/12 R285 to R291).  Each row is a composition of the shared operations, so its frame is put together from theirs
(Laws/Within). -/

namespace Sys2Proof.Machine

variable {B : List Nat} {a s : State}

/-! ### Blocks that registers lie in -/

theorem baseOf_mem {base x : Nat} (named : base ∈ B) (low : base ≤ x) (high : x < base + 0x100000)
    (whole : base % 0x100000 = 0) : baseOf x ∈ B := by
  have e : baseOf x = base := by unfold baseOf; omega
  rw [e]; exact named

/-- The registers of an array that fits into a block lie in it. -/
theorem baseOf_array {base first stride n i : Nat} (named : base ∈ B) (range : i < n) (low : base ≤ first := by decide)
    (fits : first + stride * n ≤ base + 0x100000 := by decide) (apart : 0 < stride := by decide)
    (whole : base % 0x100000 = 0 := by decide) : baseOf (first + stride * i) ∈ B := by
  have below : stride * i < stride * n := Nat.mul_lt_mul_of_pos_left range apart
  exact baseOf_mem named (by omega) (by omega) whole

/-- The same of an array of arrays. -/
theorem baseOf_array₂ {base first stride n i stride' n' j : Nat} (named : base ∈ B) (range : i < n) (range' : j < n')
    (low : base ≤ first := by decide) (fits : first + stride * n + stride' * n' ≤ base + 0x100000 := by decide)
    (apart : 0 < stride' := by decide) (whole : base % 0x100000 = 0 := by decide) :
    baseOf (first + stride * i + stride' * j) ∈ B := by
  have below : stride * i ≤ stride * n := Nat.mul_le_mul_left _ range.le
  have below' : stride' * j < stride' * n' := Nat.mul_lt_mul_of_pos_left range' apart
  exact baseOf_mem named (by omega) (by omega) whole

/-! ### Operations of state channels and check-value units -/

theorem Within.setChan (h : Within B a s) (c : Nat) (x : Channel) : Within B a (s.setChan c x) := h.upd

theorem Within.takeLo (h : Within B a s) (w : Requester) {lo : Nat} (m : baseOf lo ∈ B) : Within B a (s.takeLo w lo) := by
  unfold State.takeLo
  split
  · exact h
  · exact (h.storeWrite _ m).upd

section Stc
variable (stc : bStc ∈ B)
include stc

theorem Within.suspect (h : Within B a s) {c : Nat} (range : c < 128) : Within B a (s.suspect c) :=
  h.setB _ (baseOf_array (n := 4) stc (by omega))

theorem Within.unitMismatch (h : Within B a s) {u : Nat} (range : u < 144) : Within B a (s.unitMismatch u) :=
  h.setB _ (baseOf_array (n := 5) stc (by omega))

theorem Within.showChan (h : Within B a s) {c : Nat} (range : c < 128) : Within B a (s.showChan c) := by
  unfold State.showChan
  refine ((h.set _ ?_).set _ ?_).set _ ?_ <;> exact baseOf_array stc range

theorem Within.cvuBytes (h : Within B a s) {u : Nat} (range : u < 144) (bs : List Byte) : Within B a (s.cvuBytes u bs) :=
  Within.set h.upd _ (baseOf_array stc range)

theorem Within.cvuRestart (h : Within B a s) {u : Nat} (range : u < 144) : Within B a (s.cvuRestart u) :=
  Within.cvuBytes stc h.upd range _

variable (cnt : 0x40E00000 ∈ B)
include cnt

/-- An interrupt of STC. -/
theorem Within.stcIrq (h : Within B a s) (i : Nat) : Within B a (s.irq bStc i) :=
  h.irq i (baseOf_mem stc (by decide) (by decide) rfl) cnt

theorem Within.unitAlive (h : Within B a s) {u : Nat} (range : u < 144) (alive delta r : Nat) :
    Within B a (s.unitAlive u alive delta r) := by
  have shown : Within B a (s.sets [(F.STC_CVU_ALIVE_LAST u, alive), (F.STC_CVU_ALIVE_DELTA u, delta),
      (F.STC_CVU_STATUS_ALIVE_RES u, r)]) := by
    refine ((h.set _ ?_).set _ ?_).set _ ?_ <;> exact baseOf_array stc range
  unfold State.unitAlive
  refine (shown.sat _ ?_).ite (.ite (((shown.sat _ ?_).unitMismatch stc range).stcIrq stc cnt _) shown) <;>
    exact baseOf_array stc range

theorem Within.cvuCompare (h : Within B a s) {u : Nat} (range : u < 144) : Within B a (s.cvuCompare u) := by
  unfold State.cvuCompare
  refine (h.set _ ?_).ite ((((h.set _ ?_).sat _ ?_).unitMismatch stc range).stcIrq stc cnt _) <;> exact baseOf_array stc range

variable (top : 0x40000000 ∈ B)
include top

omit cnt in
/-- A write to a check-value unit, whether bound or general (spec/12 R291). -/
theorem Within.cvuWrite (h : Within B a s) (w : Requester) (u : Nat) {x : Nat} (v : Word) {act : State → State}
    (m : baseOf x ∈ B) (k : ∀ s, Within B a s → Within B a (act s)) : Within B a (s.cvuWrite w u x v act) :=
  h.command w v _ m top fun s h => .ite (h.sticky _ (baseOf_mem stc (by decide) (by decide) rfl)) (.ite (k s h) h)

/-- A write of a unit's CMD: START, a fed byte, COMPARE (spec/12 R291). -/
theorem Within.cvuCmd (h : Within B a s) (w : Requester) {u : Nat} (range : u < 144) (v : Word) :
    Within B a (s.cvuCmd w u v) := by
  refine h.cvuWrite stc top w u v (baseOf_array stc range) fun s h => ?_
  have started : Within B a (if getBits v 9 1 = 1 then s.cvuRestart u else s) := (h.cvuRestart stc range).ite h
  have fed := (started.cvuBytes stc range [v.extractLsb' 0 8]).ite started (p := getBits v 8 1 = 1)
  exact (fed.cvuCompare stc cnt range).ite fed

end Stc

/-! ### The rows of state channels and check-value units -/

theorem WithinStep.next (h : Within B a s) : WithinStep B a (.next s) := by
  intro b e; cases e; exact h

/-- Settles O52: the two channel rows and the five unit rows, each put together from the operations it is made of. -/
theorem stateRowsKeepToStc : Obligations.StateRowsKeepToStc := by
  intro s c row
  have stc : bStc ∈ [bStc, 0x40E00000, 0x40000000] := by simp
  have cnt : 0x40E00000 ∈ [bStc, 0x40E00000, 0x40000000] := by simp
  have top : 0x40000000 ∈ [bStc, 0x40E00000, 0x40000000] := by simp
  have h := Within.refl [bStc, 0x40E00000, 0x40000000] s
  obtain ⟨n, rfl⟩ | ⟨w, n, v, rfl⟩ | ⟨w, u, v, rfl⟩ | ⟨w, u, v, rfl⟩ | ⟨w, u, v, rfl⟩ | ⟨w, u, v, rfl⟩ | ⟨w, u, v, rfl⟩ := row
  · refine Within.ifBolt (.ite (((((h.set _ ?_).sat _ ?_).suspect stc n.isLt).stcIrq stc cnt _).showChan stc n.isLt) h) <;>
      exact baseOf_array stc n.isLt
  · refine .next (h.command w v _ (baseOf_array stc n.isLt) top fun s h => ?_)
    have taken : Within _ _ (s.takeLo w (R.STC_CH_VALUE_LO n)) := h.takeLo w (baseOf_array stc n.isLt)
    exact ((taken.setChan _ _).showChan stc n.isLt).ite taken
  · exact .next (h.cvuWrite stc top w _ v (baseOf_array stc u.isLt) fun _ h => h.cvuBytes stc u.isLt _)
  · exact .next (h.cvuCmd stc cnt top w u.isLt _)
  · exact .next (h.cvuCmd stc cnt top w u.isLt _)
  · exact .next (h.cvuCmd stc cnt top w u.isLt _)
  · exact .next (h.cvuWrite stc top w _ v (baseOf_array stc u.isLt) fun _ h => h.unitAlive stc cnt u.isLt _ _ _)

/-! ### Write commands of plain registers -/

theorem Within.driveLp (h : Within B a s) (t : Nat) : Within B a (s.driveLp t) := by
  unfold State.driveLp
  exact h.ite (Within.emit h.upd _)

theorem Within.showMbx (h : Within B a s) (usb : bUsb ∈ B) : Within B a s.showMbx := by
  unfold State.showMbx
  refine (h.set _ ?_).set _ ?_ <;> exact baseOf_mem usb (by decide) (by decide) rfl

/-- With no response owed to KEY, delivery only ends a lock there that TMP no longer has (spec/19 R424). -/
theorem tamperDeliver_of_none {s : State} (none : s.on F.TMP_STATUS_PENDING = false) :
    s.tamperDeliver = if s.boltUp && s.seamUp && s.on F.KEY_STATUS_LOCKED && !s.on F.TMP_STATUS_LOCKED then
      s.set F.KEY_STATUS_LOCKED 0 else s := by
  unfold State.tamperDeliver
  cases s.boltUp <;> cases s.seamUp <;> simp [none]

theorem Within.tamperDeliver (h : Within B a s) (key : bKey ∈ B) (none : s.on F.TMP_STATUS_PENDING = false) :
    Within B a s.tamperDeliver := by
  rw [tamperDeliver_of_none none]
  exact .ite (h.set _ (baseOf_mem key (by decide) (by decide) rfl)) h

/-- TMP_CLEAR ends the lock at TMP, and at KEY where KEY is reached. -/
theorem execTmpClear_within (s : State) (w : Requester) (v : Word) :
    WithinStep [bTmp, bKey, 0x40000000] s (exec (.tmpClear w v) s) := by
  have tmp {f : Fld} (low : bTmp ≤ f.reg) (high : f.reg < bTmp + 0x100000) : baseOf f.reg ∈ [bTmp, bKey, 0x40000000] :=
    baseOf_mem (by simp) low high rfl
  refine .next (Within.command (.refl _ s) w _ _ (baseOf_mem (base := bTmp) (by simp) (by decide) (by decide) rfl) (by simp)
    fun s h => .ite (h.set _ (tmp (by decide) (by decide))) (Within.tamperDeliver (Within.upd ((h.set _ ?_).set _ ?_)) (by simp) ?_))
  · exact tmp (by decide) (by decide)
  · exact tmp (by decide) (by decide)
  · exact on_set_zero (s.set F.TMP_STATUS_LOCKED 0) F.TMP_STATUS_PENDING (by decide)

/-- A write command whose block is `base`, where what it starts stays inside it. -/
theorem command_within {base x : Nat} (w : Requester) (v : Word) {act : State → State} (m : baseOf x ∈ [base, 0x40000000])
    (k : ∀ t, Within [base, 0x40000000] s t → Within [base, 0x40000000] s (act t)) :
    WithinStep [base, 0x40000000] s (.next (s.command w x v act)) :=
  .next (Within.command (.refl _ s) w v act m (by simp) k)

/-- The commands of the list, each in its block. -/
theorem plainCommands_within (s : State) (w : Requester) (v : Word) :
    ∀ x ∈ ([(0x40E00000, .counterClear w), (0x40E00000, .counterLoad w), (bSch, .sampClear w v), (bAlt, .cmdPlanWrite w v),
      (bSwb, .eccArm w v), (bDpe, .learnGo w v), (bRng, .rxPop w), (bKey, .mrLock1 w), (bUsb, .mbxPop w v)] : List (Nat × Instr)),
      WithinStep [x.1, 0x40000000] s (exec x.2 s) := by
  simp only [List.forall_mem_cons, List.not_mem_nil, false_imp_iff, implies_true, and_true]
  refine ⟨?counterClear, ?counterLoad, ?sampClear, ?cmdPlanWrite, ?eccArm, ?learnGo, ?rxPop, ?mrLock1, ?mbxPop⟩
  case counterClear | counterLoad | rxPop => exact command_within w _ (by decide) fun _ h => h.upd
  case mrLock1 => exact command_within w _ (by decide) fun _ h => h
  case eccArm => exact command_within w _ (by decide) fun _ h => .ite h.upd h
  case sampClear => exact command_within w _ (by decide) fun _ h => .ite (Within.set h.upd _ (by decide)) h
  case learnGo =>
    refine command_within w _ (by decide) fun _ h => .ite h (Within.set (Within.set h.upd _ ?_) _ ?_) <;> decide
  case mbxPop =>
    exact command_within w _ (by decide) fun _ h => .ite (Within.showMbx h.upd (by simp)) h
  case cmdPlanWrite =>
    refine command_within w _ (by decide) fun _ h => h.each _ _ fun k range _ h => ?_
    have range : k < 8 := List.mem_range.1 range
    refine ((h.set _ ?_).set _ ?_).set _ ?_ <;> exact baseOf_array (base := bAlt) (by simp) range

/-- Settles O59: each command is a write of a register of its block with an effect inside it. -/
theorem registerCommandsKeepToTheirBlock : Obligations.RegisterCommandsKeepToTheirBlock := by
  refine fun s w v => ⟨plainCommands_within s w v, fun g => ?clearGroup, fun l => ?dfeLoad, fun t => ?modReset, fun p => ?askAnswer,
    execTmpClear_within s w v⟩
  case clearGroup => exact command_within w _ (by decide) fun _ h => h.upd
  case dfeLoad =>
    have lane : bLane ∈ [bLane, 0x40000000] := by simp
    have ctrl : baseOf (R.LANE_DFE_CTRL l) ∈ [bLane, 0x40000000] := baseOf_array lane l.isLt
    refine command_within w _ ctrl fun _ h => Within.set (h.each _ _ fun k taps _ h => h.wr _ ?_) _ ctrl
    have tap : k < 4 := List.mem_range.1 taps
    exact baseOf_array₂ lane l.isLt tap
  case modReset =>
    have lane : baseOf (R.LANE_MOD_CTRL t) ∈ [bLane, 0x40000000] := baseOf_array (base := bLane) (by simp) t.isLt
    refine command_within w _ lane fun _ h => ((h.set _ ?_).emit _).driveLp _
    exact lane
  case askAnswer =>
    have tcp : baseOf (R.TCP_PORT_ASK p) ∈ [bTcp, 0x40000000] := baseOf_array (base := bTcp) (by simp) p.isLt
    exact command_within w _ tcp fun _ h => .ite h.upd h

end Sys2Proof.Machine
end


section
/-! State channels (spec/12 R283 to R290): a write of a firmware value, what a consumer does with a STATE frame, staleness. -/

namespace Sys2Proof.Machine

/-! ### The rows -/

theorem exec_valueHiWrite (s : State) (w : Requester) (c : Fin 128) (v : Word) :
    exec (.valueHiWrite w c v) s = execValueHiWrite w c v s := rfl

theorem exec_stateRx {s : State} (live : s.boltUp = true) (i : Fin 1024) (f : Frame) :
    exec (.stateRx i f) s = .next (((s.stateFrame i f).hpdReview 0).hpdReview 1 |>.hpdReview 2) := by
  have row : exec (.stateRx i f) s = execStateRx i f s := rfl
  rw [row, execStateRx, ifBolt_of_boltUp live]
  rfl

/-! ### Channels -/

theorem chanRole_of_isOn {s : State} {c : Fin 128} {r : Nat} (on : s.isOn (.stcCh c) = true)
    (role : s.get (F.STC_CH_CFG_ROLE c) = r) : s.chanRole c r = true := by
  simp [State.chanRole, on, role]

/-- A VALUE_HI write of a firmware channel makes one update of its value and its alive count (spec/12 R285). -/
theorem valueHiWrite_firmware {s : State} {who : Requester} {c : Fin 128} (v : Word) (acc : s.accepts who (R.STC_CH_VALUE_HI c))
    (producer : ((s.written (R.STC_CH_VALUE_HI c) v).takeLo who (R.STC_CH_VALUE_LO c)).chanRole c 1 = true)
    (firmware : ((s.written (R.STC_CH_VALUE_HI c) v).takeLo who (R.STC_CH_VALUE_LO c)).get (F.STC_CH_CFG_SRC c) = 0) :
    let w : State := (s.written (R.STC_CH_VALUE_HI c) v).takeLo who (R.STC_CH_VALUE_LO c)
    let n := (w.rd (R.STC_CH_VALUE_LO c)).toNat + 2 ^ 32 * (w.rd (R.STC_CH_VALUE_HI c)).toNat
    exec (.valueHiWrite who c v) s =
      .next (((w.setChan c { w.chan c with value := n, alive := ((w.chan c).alive + 1) % 256 }).showChan c).answer who .done 0) := by
  rw [exec_valueHiWrite, execValueHiWrite, command_of_accepts acc]
  simp [producer, firmware]

/-! ### What STC makes of a frame -/

/-- A STATE frame is well formed for the consumer channel that its entry binds (spec/12 R284, R286). -/
abbrev State.stateFormed (s : State) (i : Nat) (f : Frame) : Prop :=
  f.payload.length = 16 ∧ hChannel f.hdr = (s.entry i).channel ∧ leAt f.payload 13 1 < 2 ∧ leAt f.payload 14 2 = 0 ∧
    slice f.hdr.svc.toNat 0 24 = 0 ∧ s.chanRole (hChannel f.hdr) 2 = true

section Taken
variable {s : State} {i : Nat} {f : Frame} (on : s.isOn .stc = true) (valid : (s.entry i).valid = true)
  (sink : (s.entry i).sink = true) (here : (s.entry i).localPort = 9)
include on valid sink here

/-- A frame without 16 bytes is malformed: counted, with interrupt 5 (spec/12 R286). -/
theorem stateFrame_malformed (short : f.payload.length ≠ 16) :
    s.stateFrame i f = (s.sat F.STC_FORMAT_FRAMES 1).irq bStc 5 := by
  simp [State.stateFrame, on, valid, sink, here, short]

/-- A well formed frame for a consumer goes through the consumer's steps (spec/12 R286). -/
theorem stateFrame_formed (formed : s.stateFormed i f) : s.stateFrame i f = s.consume (hChannel f.hdr) f := by
  obtain ⟨size, channel, flags, reserved, svc, consumer⟩ := formed
  have flags' : ¬ 2 ≤ leAt f.payload 13 1 := by omega
  rw [channel] at consumer
  simp [State.stateFrame, on, valid, sink, here, size, channel, flags', reserved, svc, consumer]

end Taken

/-- The frame starts a consumer anew: the first one, one after STALE, or one of another GEN (spec/12 R286). -/
abbrev State.startsAnew (s : State) (c : Nat) (f : Frame) : Prop :=
  s.on (F.STC_CH_STATUS_VALID c) = false ∨ s.on (F.STC_CH_STATUS_STALE c) = true ∨ f.hdr.gen.toNat ≠ (s.chan c).gen

/-- How far a frame's SEQ lies ahead of the last accepted one's, modulo 65,536. -/
abbrev State.seqAhead (s : State) (c : Nat) (f : Frame) : Nat := (f.hdr.seq.toNat + 65536 - (s.chan c).seq) % 65536

section Consume
variable {s : State} {c : Nat} {f : Frame}

theorem startsAnew_iff : s.startsAnew c f ↔ (!s.on (F.STC_CH_STATUS_VALID c) || s.on (F.STC_CH_STATUS_STALE c) ||
    decide (f.hdr.gen.toNat ≠ (s.chan c).gen)) = true := by
  simp [State.startsAnew, or_assoc]

theorem consume_duplicate (going : ¬ s.startsAnew c f) (same : s.seqAhead c f = 0) :
    s.consume c f = s.sat (F.STC_CH_CNT3_DUP c) 1 := by
  rw [startsAnew_iff, Bool.not_eq_true] at going
  simp only [State.consume, going, same]
  rfl

theorem consume_old (going : ¬ s.startsAnew c f) (old : 32768 ≤ s.seqAhead c f) :
    s.consume c f = s.sat (F.STC_CH_CNT3_OLD c) 1 := by
  have notSame : s.seqAhead c f ≠ 0 := by omega
  rw [startsAnew_iff, Bool.not_eq_true] at going
  simp only [State.consume, going, notSame, old]
  rfl

/-- Without checks the first frame of a run is accepted (spec/12 R286 step 6). -/
theorem consume_unchecked (anew : s.startsAnew c f) (noCheck : s.on (F.STC_CH_CFG_CHK_EN c) = false)
    (unchecked : leAt f.payload 13 1 = 0) : s.consume c f = s.acceptState c 0 0 f := by
  rw [startsAnew_iff] at anew
  simp only [State.consume, anew, noCheck, unchecked]
  rfl

/-- With checks a frame whose CHECK is wrong fails at the channel and at its unit (spec/12 R286, R289). -/
theorem consume_wrongCheck (anew : s.startsAnew c f) (checks : s.on (F.STC_CH_CFG_CHK_EN c) = true)
    (wrong : s.chanCheck c (leAt f.payload 0 8) (hAlive f.hdr) ≠ leAt f.payload 8 4) :
    s.consume c f = (((((((s.set (F.STC_CVU_RESULT_CRC c) (s.chanCheck c (leAt f.payload 0 8) (hAlive f.hdr))).sat
      (F.STC_CH_CNT2_CHK_ERR c) 1).set (F.STC_CH_STATUS_CHK_FAIL c) 1).set (F.STC_CVU_STATUS_LAST c) 2).sat
      (F.STC_CVU_CNT_MISMATCH c) 1).unitMismatch c).irq bStc 3) := by
  rw [startsAnew_iff] at anew
  have wrong' := bne_iff_ne.2 wrong
  simp only [State.consume, anew, checks, wrong']
  rfl

/-- An accepted frame outside the alive test: the channel's copies follow it and it is presented (spec/12 R286, R287); with
REPEAT_MAX 0 no count of repeats freezes it. -/
theorem acceptState_untested (unlimited : s.get (F.STC_CH_CFG2_REPEAT_MAX c) = 0) :
    s.acceptState c 0 0 f = ((s.setChan c { s.chan c with
        value := leAt f.payload 0 8, alive := hAlive f.hdr, seq := f.hdr.seq.toNat, gen := f.hdr.gen.toNat
        period := leAt f.payload 12 1, age := 0, repeats := 0 }).sets [(F.STC_CH_STATUS_VALID c, 1), (F.STC_CH_STATUS_STALE c, 0),
      (F.STC_CH_STATUS_CHK_FAIL c, 0), (F.STC_CH_STATUS_PATH c, b2n f.hdr.path), (F.STC_CH_ALIVE_ALIVE c, hAlive f.hdr),
      (F.STC_CH_ALIVE_PERIOD c, leAt f.payload 12 1), (F.STC_CH_LAST_CYCLE_CYCLE c, s.cycle)]).showChan c := by
  have kept : ∀ l : List (Fld × Nat), (∀ p ∈ l, p.1.reg ≠ R.STC_CH_CFG2 c) →
      ∀ x, ((s.setChan c x).sets l).get (F.STC_CH_CFG2_REPEAT_MAX c) = 0 := fun l other x => by
    rw [get_sets_other other, setChan_get, unlimited]
  simp only [State.acceptState]
  rw [if_neg (by simp [kept])]
  rfl

end Consume

/-! ### Staleness -/

/-- No frame for TIMEOUT times PERIOD cycles (spec/12 R287). -/
theorem stateStale_expired {s : State} {c : Fin 128} (live : s.boltUp = true) (consumer : s.chanRole c 2 = true)
    (notYet : s.on (F.STC_CH_STATUS_STALE c) = false) (expired : s.get (F.STC_CH_CFG2_TIMEOUT c) * (s.chan c).period < (s.chan c).age) :
    exec (.stateStale c) s =
      .next (((((s.set (F.STC_CH_STATUS_STALE c) 1).sat (F.STC_CH_CNT2_STALE_EVT c) 1).suspect c).irq bStc 1).showChan c) := by
  have row : exec (.stateStale c) s = execStateStale c s := rfl
  rw [row, execStateStale, ifBolt_of_boltUp live]
  simp [consumer, notYet, expired]

/-- Settles O35: the firmware's write, the consumer's steps, and staleness. -/
theorem stateChannels : Obligations.StateChannels := by
  refine ⟨fun s who c v acc on role src => valueHiWrite_firmware v acc (chanRole_of_isOn on role) src,
    fun s i f live on valid sink here => ?_,
    fun s c live consumer notYet expired => stateStale_expired live consumer notYet expired⟩
  have consumed := stateFrame_formed (f := f) on valid sink here
  refine ⟨fun short => ?_, fun formed going same => ?_, fun formed going old => ?_, fun formed anew noCheck unchecked unlimited => ?_,
    fun formed anew checks wrong => ?_⟩ <;> rw [exec_stateRx live]
  · rw [stateFrame_malformed on valid sink here short]
  · rw [consumed formed, consume_duplicate going same]
  · rw [consumed formed, consume_old going old]
  · rw [consumed formed, consume_unchecked anew noCheck unchecked, acceptState_untested unlimited]
  · rw [consumed formed, consume_wrongCheck anew checks wrong]

end Sys2Proof.Machine
end


section
/-! Which rows can stop (spec/02 R25): the accesses by address say when, every other row is a next state by its definition. -/

namespace Sys2Proof.Machine

/-- Answers a next state. -/
abbrev Answers (o : Step) : Prop := ∃ t, o = .next t

theorem busRead_answers (s : State) (w : Requester) (a n : Nat) (d : Bool) : Answers (s.busRead w a n d) := by
  unfold State.busRead
  cases s.pathLive w
  · exact ⟨_, rfl⟩
  · cases rangeOf a <;> exact ⟨_, rfl⟩

theorem busWrite_answers_or_stops (s : State) (w : Requester) (a : Nat) (v : Word) (n : Nat) (d : Bool) :
    Answers (s.busWrite w a v n d) ∨ (s.busWrite w a v n d = .fault .peripheralWindow ∧ rangeOf a = .periph) := by
  unfold State.busWrite
  cases s.pathLive w
  · exact .inl ⟨_, rfl⟩
  · cases range : rangeOf a
    case periph =>
      by_cases bad : n ≠ 4 ∨ a % 4 ≠ 0
      · exact .inl ⟨s.outOfMap w, by simp [bad]⟩
      · exact .inr ⟨by simp [bad], rfl⟩
    all_goals exact .inl ⟨_, rfl⟩

theorem execGateOnWrite_answers (w : Requester) (n : Fin 7) (turnOn : Bool) (s : State) : Answers (execGateOnWrite w n turnOn s) := by
  unfold execGateOnWrite
  dsimp only
  split <;> exact ⟨_, rfl⟩

/-- Settles O5: only the rows that write by address can stop, and those only at the peripheral window (assumption logs 62, 29); every
other row is a next state by its definition. -/
theorem onlyThePeripheralWindowStops : Obligations.OnlyThePeripheralWindowStops := by
  intro s c
  have access (w : Requester) (a v : Word) (n : Nat) (d : Bool) := busWrite_answers_or_stops s w a.toNat v n d
  cases c
  case regWrite w a v n d => exact (access w a v n d).imp_right fun ⟨stops, range⟩ => ⟨stops, a, range, .inl ⟨w, v, n, d, rfl⟩⟩
  case loWrite w a v => exact (access w a v 4 true).imp_right fun ⟨stops, range⟩ => ⟨stops, a, range, .inr (.inl ⟨w, v, rfl⟩)⟩
  case hiWrite w a v =>
    exact (access w a v 4 true).imp_right fun ⟨stops, range⟩ => ⟨stops, a, range, .inr (.inr (.inl ⟨w, v, rfl⟩))⟩
  case spiWrite a v d =>
    exact (access .spi a v 4 d).imp_right fun ⟨stops, range⟩ => ⟨stops, a, range, .inr (.inr (.inr (.inl ⟨v, d, rfl⟩)))⟩
  case loRead w x => exact .inl (busRead_answers s w _ _ _)
  case spiRead x => exact .inl (busRead_answers s .spi _ _ _)
  case pcieBarAccess place write v n d =>
    obtain ⟨bar2, o⟩ := place
    match bar2, write with
    | true, _ => exact .inl ⟨_, exec_bar2 s o v _ n d⟩
    | false, false => rw [exec_bar0Read]; exact .inl (busRead_answers s .pcie _ _ _)
    | false, true =>
      rw [exec_bar0Write]
      exact (access .pcie o v n d).imp_right fun ⟨stops, range⟩ => ⟨stops, o, range, .inr (.inr (.inr (.inr ⟨v, n, d, rfl⟩)))⟩
  case gateOnWrite w n turnOn => exact .inl (execGateOnWrite_answers w n turnOn s)
  all_goals exact .inl ⟨_, rfl⟩

end Sys2Proof.Machine
end


section
/-! The host token (spec/02 R27 to R30): what its holder's write does, a release and its refusal, the token's return to firmware. -/

namespace Sys2Proof.Machine

/-! ### Writes of TOP_HOST_TOKEN -/

theorem exec_tokenRelease (s : State) (w : Requester) (next : Fin 4) :
    exec (.tokenRelease w next) s = .next (s.tokenWrite w (BitVec.ofNat 32 (16 * next.val + 256))) := rfl

/-- An accepted write by the holder that asks for nothing stores NEXT, clears the requests with DENY and hands the token over with
RELEASE. -/
theorem tokenWrite_of_holder {s : State} {w : Requester} {v : Word} (acc : s.accepts w R.TOP_HOST_TOKEN) (holds : s.holder w = true)
    (noSpi : getBits v 12 1 = 0) (noPcie : getBits v 13 1 = 0) :
    s.tokenWrite w v =
      (let named : State := s.set F.TOP_HOST_TOKEN_NEXT (getBits v 4 2)
       let denied : State := if getBits v 16 1 = 1 then
         named.sets [(F.TOP_HOST_TOKEN_REQ_SPI, 0), (F.TOP_HOST_TOKEN_REQ_PCIE, 0)] else named
       (if getBits v 8 1 = 1 then denied.handOver (getBits v 4 2) else denied).answer w .done 0) := by
  rw [State.tokenWrite, guarded_of_accepts acc, countSpoolWrite_bolt (by decide)]
  simp [holds, noSpi, noPcie]

theorem releaseValue_bits : ∀ next : Fin 4, let v : Word := BitVec.ofNat 32 (16 * next.val + 256)
    getBits v 12 1 = 0 ∧ getBits v 13 1 = 0 ∧ getBits v 16 1 = 0 ∧ getBits v 8 1 = 1 ∧ getBits v 4 2 = next.val := by decide

/-- The holder's TOKEN_RELEASE names the receiver and hands over. -/
theorem tokenRelease_of_holder {s : State} {w : Requester} (next : Fin 4) (acc : s.accepts w R.TOP_HOST_TOKEN)
    (holds : s.holder w = true) :
    exec (.tokenRelease w next) s = .next (((s.set F.TOP_HOST_TOKEN_NEXT next).handOver next).answer w .done 0) := by
  obtain ⟨noSpi, noPcie, noDeny, release, receiver⟩ := releaseValue_bits next
  rw [exec_tokenRelease, tokenWrite_of_holder acc holds noSpi noPcie]
  simp only [noDeny, release, receiver]
  rfl

/-! ### The hand-over -/

/-- The token in the receiver's hands: EPOCH has advanced, and the receiver's request is met. -/
def State.tokenGiven (s : State) (next : Nat) : State :=
  let given : State := s.sets [(F.TOP_HOST_TOKEN_OWNER, next), (F.TOP_HOST_TOKEN_EPOCH, s.get F.TOP_HOST_TOKEN_EPOCH + 1)]
  if next = 1 then given.set F.TOP_HOST_TOKEN_REQ_SPI 0 else if next = 2 then given.set F.TOP_HOST_TOKEN_REQ_PCIE 0 else given

/-- Which requesters are present does not change with a field beside BOOT_STATUS. -/
theorem external_set (s : State) {f : Fld} (v : Nat) (beside : f.reg ≠ R.TOP_BOOT_STATUS) (n : Nat) :
    (s.set f v).external n = s.external n := by
  simp only [State.external, set_bolt, get_set_other s f F.TOP_BOOT_STATUS_BOOT_SRC v (.inl beside)]

theorem handOver_granted {s : State} {next : Nat} (known : next ≠ 3) (present : next = 0 ∨ s.external next = true)
    (other : next ≠ s.get F.TOP_HOST_TOKEN_OWNER) : s.handOver next = (s.tokenGiven next).refreshInts := by
  have notAbsent : ¬ ((decide (next ≠ 0) && !s.external next) = true) := by
    rcases present with none | here
    · simp [none]
    · simp [here]
  rw [State.handOver, if_neg known, if_neg notAbsent, if_neg other]
  rfl

theorem handOver_absent {s : State} {next : Nat} (some : next ≠ 0) (known : next ≠ 3) (absent : s.external next = false) :
    s.handOver next = s.sets [(F.TOP_REFUSE_REASON, 0x0110), (F.TOP_REFUSE_DETAIL, next)] := by
  simp [State.handOver, known, some, absent]

/-- A field of TOP_HOST_TOKEN that is no request bit shows what the hand-over stored. -/
theorem get_tokenGiven {s : State} {next : Nat} {f : Fld} (spi : f.lsb + f.width ≤ 12 ∨ 13 ≤ f.lsb)
    (pcie : f.lsb + f.width ≤ 13 ∨ 14 ≤ f.lsb) : (s.tokenGiven next).get f =
      (s.sets [(F.TOP_HOST_TOKEN_OWNER, next), (F.TOP_HOST_TOKEN_EPOCH, s.get F.TOP_HOST_TOKEN_EPOCH + 1)]).get f := by
  unfold State.tokenGiven
  split
  · exact get_set_other _ _ _ _ (.inr spi)
  · split
    · exact get_set_other _ _ _ _ (.inr pcie)
    · rfl

theorem tokenGiven_owner (s : State) {next : Nat} (range : next < 4) : (s.tokenGiven next).get F.TOP_HOST_TOKEN_OWNER = next := by
  rw [get_tokenGiven (by decide) (by decide), State.sets, State.sets, State.sets, get_set_other _ _ _ _ (by decide),
    get_set_same _ _ _ (by decide)]
  exact Nat.mod_eq_of_lt range

theorem tokenGiven_epoch (s : State) (next : Nat) :
    (s.tokenGiven next).get F.TOP_HOST_TOKEN_EPOCH = (s.get F.TOP_HOST_TOKEN_EPOCH + 1) % 256 := by
  rw [get_tokenGiven (by decide) (by decide), State.sets, State.sets, State.sets, get_set_same _ _ _ (by decide)]
  rfl

theorem rd_tokenGiven (s : State) (next : Nat) {a : Nat} (other : R.TOP_HOST_TOKEN ≠ a) : (s.tokenGiven next).rd a = s.rd a := by
  have given := rd_sets_other (s := s) (a := a)
    (l := [(F.TOP_HOST_TOKEN_OWNER, next), (F.TOP_HOST_TOKEN_EPOCH, s.get F.TOP_HOST_TOKEN_EPOCH + 1)]) (by simp [other])
  unfold State.tokenGiven
  split
  · exact (rd_set_other _ F.TOP_HOST_TOKEN_REQ_SPI _ other).trans given
  · split
    · exact (rd_set_other _ F.TOP_HOST_TOKEN_REQ_PCIE _ other).trans given
    · exact given

/-! ### Releases -/

section Release
variable {s : State} {w : Requester} {next : Fin 4} (acc : s.accepts w R.TOP_HOST_TOKEN) (holds : s.holder w = true)
include acc holds

/-- A release to a known and present receiver passes the token, and no register beside TOP_HOST_TOKEN changes (spec/02 R28). -/
theorem tokenRelease_passes (known : next ≠ 3) (other : next.val ≠ s.get F.TOP_HOST_TOKEN_OWNER)
    (present : next = 0 ∨ s.external next = true) :
    ∃ t : State, exec (.tokenRelease w next) s = .next t ∧ t.get F.TOP_HOST_TOKEN_OWNER = next.val ∧
      t.get F.TOP_HOST_TOKEN_EPOCH = (s.get F.TOP_HOST_TOKEN_EPOCH + 1) % 256 ∧ ∀ a, a ≠ R.TOP_HOST_TOKEN → t.rd a = s.rd a := by
  let named : State := s.set F.TOP_HOST_TOKEN_NEXT next
  have owner : named.get F.TOP_HOST_TOKEN_OWNER = s.get F.TOP_HOST_TOKEN_OWNER := get_set_other _ _ _ _ (by decide)
  have epoch : named.get F.TOP_HOST_TOKEN_EPOCH = s.get F.TOP_HOST_TOKEN_EPOCH := get_set_other _ _ _ _ (by decide)
  have outside : named.external next = s.external next := external_set _ _ (by decide) _
  have given : named.handOver next = (named.tokenGiven next).refreshInts :=
    handOver_granted (by omega) (by rw [outside]; exact present.imp_left (congrArg _)) (by rw [owner]; exact other)
  have shown (a : Nat) : ((named.handOver next).answer w .done 0).rd a = (named.tokenGiven next).rd a := by
    rw [rd_answer, given, rd_refreshInts]
  refine ⟨_, tokenRelease_of_holder next acc holds, ?owner, ?epoch, fun a h => ?others⟩
  case owner => rw [get_congr (shown _), tokenGiven_owner _ next.isLt]
  case epoch => rw [get_congr (shown _), tokenGiven_epoch, epoch]
  case others => rw [shown, rd_tokenGiven _ _ h.symm, rd_set_other _ _ _ h.symm]

/-- A release to an absent requester changes nothing but NEXT and TOP_REFUSE (spec/02 R28). -/
theorem tokenRelease_refused (external : next = 1 ∨ next = 2) (absent : s.external next = false) :
    ∃ t : State, exec (.tokenRelease w next) s = .next t ∧
      t.get F.TOP_HOST_TOKEN_OWNER = s.get F.TOP_HOST_TOKEN_OWNER ∧
      t.get F.TOP_HOST_TOKEN_EPOCH = s.get F.TOP_HOST_TOKEN_EPOCH ∧
      t.get F.TOP_REFUSE_REASON = 0x0110 ∧ t.get F.TOP_REFUSE_DETAIL = next.val ∧
      ∀ a, a ≠ R.TOP_HOST_TOKEN → a ≠ R.TOP_REFUSE → t.rd a = s.rd a := by
  let named : State := s.set F.TOP_HOST_TOKEN_NEXT next
  have outside : named.external next = s.external next := external_set _ _ (by decide) _
  have refused : named.handOver next = named.sets [(F.TOP_REFUSE_REASON, 0x0110), (F.TOP_REFUSE_DETAIL, next)] :=
    handOver_absent (by omega) (by omega) (outside.trans absent)
  have shown (a : Nat) : ((named.handOver next).answer w .done 0).rd a =
      (named.sets [(F.TOP_REFUSE_REASON, 0x0110), (F.TOP_REFUSE_DETAIL, next)]).rd a := by
    rw [rd_answer, refused]
  refine ⟨_, tokenRelease_of_holder next acc holds, ?owner, ?epoch, ?reason, ?detail, fun a h k => ?others⟩
  case owner | epoch => rw [get_congr (shown _), get_sets_other (by simp), get_set_other _ _ _ _ (by decide)]
  case reason =>
    rw [get_congr (shown _), State.sets, State.sets, State.sets, get_set_other _ _ _ _ (by decide), get_set_same _ _ _ (by decide)]
    rfl
  case detail =>
    rw [get_congr (shown _), State.sets, State.sets, State.sets, get_set_same _ _ _ (by decide)]
    exact Nat.mod_eq_of_lt (show next.val < 2 ^ 16 by omega)
  case others => rw [shown, rd_sets_other (by simp [k.symm]), rd_set_other _ _ _ h.symm]

end Release

/-! ### The lapse of the heartbeat -/

/-- After two periods without a beat the token returns to firmware (spec/02 R28). -/
theorem hostHbLapse_expired {s : State} {ms : Nat} (live : s.boltUp = true) (late : 2 * s.get F.TOP_HOST_HB_PERIOD_MS ≤ ms) :
    exec (.hostHbLapse ms) s = .next (s.tokenHome 0) := by
  have row : exec (.hostHbLapse ms) s = execHostHbLapse ms s := rfl
  rw [row, execHostHbLapse, ifBolt_of_boltUp live, if_pos late]

theorem tokenHome_of_lent {s : State} (lent : s.get F.TOP_HOST_TOKEN_OWNER ≠ 0) (cause : Nat) :
    s.tokenHome cause = ((s.tokenGiven 0).boltFault 0x01 0x0101 (s.get F.TOP_HOST_TOKEN_OWNER)
      ((s.get F.TOP_HOST_TOKEN_EPOCH + 1) % 256) cause).refreshInts := by
  rw [State.tokenHome, if_neg lent, ← tokenGiven_epoch s 0]
  rfl

/-- TOP_HOST_TOKEN once the token is back at firmware: the record of it touches no register of TOP. -/
theorem rd_tokenHome {s : State} (lent : s.get F.TOP_HOST_TOKEN_OWNER ≠ 0) (cause : Nat) :
    (s.tokenHome cause).rd R.TOP_HOST_TOKEN = (s.tokenGiven 0).rd R.TOP_HOST_TOKEN := by
  rw [tokenHome_of_lent lent, rd_refreshInts, State.boltFault, rd_boltNvs] <;> decide

/-- Settles O7: the two releases and the lapse. -/
theorem theTokenPassesByRelease : Obligations.TheTokenPassesByRelease := by
  refine ⟨fun s w next acc holds known other present => tokenRelease_passes acc holds known other present,
    fun s w next acc holds external absent => tokenRelease_refused acc holds external absent,
    fun s ms live late lent => ⟨_, hostHbLapse_expired live late, ?owner, ?epoch, fun up => ?record⟩⟩
  case owner => rw [get_congr (rd_tokenHome lent 0), tokenGiven_owner _ (by decide)]
  case epoch => rw [get_congr (rd_tokenHome lent 0), tokenGiven_epoch]
  case record =>
    have live' : (s.tokenGiven 0).boltUp = true := (boltUp_congr (rd_tokenGiven _ _ (by decide)) rfl).trans live
    have up' : (s.tokenGiven 0).seamUp = true := (seamUp_congr (rd_tokenGiven _ _ (by decide))).trans up
    have cycle : (s.tokenGiven 0).cycle = s.cycle := get_congr (rd_tokenGiven _ _ (by decide))
    rw [tokenHome_of_lent lent, boltFault_of_up live' up', cycle]
    exact congrArg (fun t => t.spool.nvsQueue) (untold_refreshInts _)

end Sys2Proof.Machine
end


section
/-! Token requests and denials, the heartbeat, the release of harts (spec/02 R26 to R29); a unit's enable, check and stop (R35, R36). -/

namespace Sys2Proof.Machine

/-! ### Requests and denials -/

theorem exec_tokenRequest (s : State) (w : Requester) (spi pcie : Bool) :
    exec (.tokenRequest w spi pcie) s = .next (s.tokenWrite w (s.tokenValue (2 ^ 12 * b2n spi + 2 ^ 13 * b2n pcie))) := rfl

/-- NEXT holds two bits. -/
theorem next_lt (s : State) : s.get F.TOP_HOST_TOKEN_NEXT < 4 := BitVec.isLt _

theorem requestValue_bits : ∀ next : Fin 4, getBits (BitVec.ofNat 32 (16 * next.val + 2 ^ 12)) 12 1 = 1 ∧
    getBits (BitVec.ofNat 32 (16 * next.val + 2 ^ 13)) 12 1 = 0 ∧ getBits (BitVec.ofNat 32 (16 * next.val + 2 ^ 13)) 13 1 = 1 := by
  decide

/-- The request bits in the value that TOKEN_REQUEST writes. -/
theorem tokenValue_request (s : State) : getBits (s.tokenValue (2 ^ 12 * b2n true + 2 ^ 13 * b2n false)) 12 1 = 1 ∧
    getBits (s.tokenValue (2 ^ 12 * b2n false + 2 ^ 13 * b2n true)) 12 1 = 0 ∧
    getBits (s.tokenValue (2 ^ 12 * b2n false + 2 ^ 13 * b2n true)) 13 1 = 1 :=
  requestValue_bits ⟨_, next_lt s⟩

theorem denyValue_bits : ∀ next : Fin 4, let v : Word := BitVec.ofNat 32 (16 * next.val + 2 ^ 16)
    getBits v 12 1 = 0 ∧ getBits v 13 1 = 0 ∧ getBits v 16 1 = 1 ∧ getBits v 8 1 = 0 ∧ getBits v 4 2 = next.val := by decide

theorem tokenAsk_new {s : State} {f : Fld} (new : s.on f = false) : s.tokenAsk f = (s.set f 1).irq 0x40000000 0 := by
  simp [State.tokenAsk, new]

/-- A first request by the SPI target (spec/02 R27). -/
theorem tokenRequest_spi {s : State} (acc : s.accepts .spi R.TOP_HOST_TOKEN) (new : s.on F.TOP_HOST_TOKEN_REQ_SPI = false)
    (asks : s.holder .spi = false) :
    exec (.tokenRequest .spi true false) s = .next (((s.set F.TOP_HOST_TOKEN_REQ_SPI 1).irq 0x40000000 0).answer .spi .done 0) := by
  obtain ⟨spi, -, -⟩ := tokenValue_request s
  rw [exec_tokenRequest, State.tokenWrite, guarded_of_accepts acc, countSpoolWrite_bolt (by decide)]
  simp only [spi, asks, tokenAsk_new new]
  rfl

/-- A first request by the PCIe function (spec/02 R27). -/
theorem tokenRequest_pcie {s : State} (acc : s.accepts .pcie R.TOP_HOST_TOKEN) (new : s.on F.TOP_HOST_TOKEN_REQ_PCIE = false)
    (asks : s.holder .pcie = false) :
    exec (.tokenRequest .pcie false true) s =
      .next (((s.set F.TOP_HOST_TOKEN_REQ_PCIE 1).irq 0x40000000 0).answer .pcie .done 0) := by
  obtain ⟨-, noSpi, pcie⟩ := tokenValue_request s
  rw [exec_tokenRequest, State.tokenWrite, guarded_of_accepts acc, countSpoolWrite_bolt (by decide)]
  simp only [noSpi, pcie, asks, tokenAsk_new new]
  rfl

/-- The holder's TOKEN_DENY clears both requests (spec/02 R27). -/
theorem tokenDeny_of_holder {s : State} {w : Requester} (acc : s.accepts w R.TOP_HOST_TOKEN) (holds : s.holder w = true) :
    exec (.tokenDeny w) s = .next ((s.sets [(F.TOP_HOST_TOKEN_NEXT, s.get F.TOP_HOST_TOKEN_NEXT), (F.TOP_HOST_TOKEN_REQ_SPI, 0),
      (F.TOP_HOST_TOKEN_REQ_PCIE, 0)]).answer w .done 0) := by
  obtain ⟨noSpi, noPcie, deny, noRelease, kept⟩ := denyValue_bits ⟨_, next_lt s⟩
  have row : exec (.tokenDeny w) s = .next (s.tokenWrite w (BitVec.ofNat 32 (16 * s.get F.TOP_HOST_TOKEN_NEXT + 2 ^ 16))) := rfl
  rw [row, tokenWrite_of_holder acc holds noSpi noPcie]
  simp only [deny, noRelease, kept]
  rfl

/-! ### The heartbeat and the harts -/

theorem beatValue_period (p : BitVec 16) : getBits (BitVec.ofNat 32 (2 ^ 31 + p.toNat)) 0 16 = p.toNat := by
  have small := p.isLt
  simp only [getBits, BitVec.extractLsb'_toNat, BitVec.toNat_ofNat, Nat.shiftRight_zero]
  omega

/-- A beat stores its period within the limits of the table (spec/02 R28, R29). -/
theorem hostHbBeat_period {s : State} {w : Requester} (p : BitVec 16) (acc : s.accepts w R.TOP_HOST_HB) :
    ∃ t : State, exec (.hostHbBeat w p) s = .next t ∧ t.get F.TOP_HOST_HB_PERIOD_MS = clamp 1 1000 p.toNat := by
  have row : exec (.hostHbBeat w p) s = execHostHbBeat w p s := rfl
  refine ⟨_, by rw [row, execHostHbBeat, command_of_accepts acc], ?_⟩
  have small : clamp 1 1000 p.toNat < 2 ^ 16 := by unfold clamp; split <;> [skip; split] <;> omega
  rw [State.get, rd_answer, id, written_bolt (by decide), rd_storeWrite_same (by decide) rfl]
  simp only [List.foldl, writeField, FieldDef.fc, FieldDef.f, beatValue_period]
  rw [getBits_setBits_same _ _ _ _ (by decide), Nat.mod_eq_of_lt small]

/-- One hart of a write of TOP_HART_RELEASE: named and not yet running, it starts at 0, and its entry is told (spec/02 R26). -/
def State.releaseHart (s : State) (v : Word) (h : Nat) : State :=
  if getBits v h 1 = 1 && !bit s.bolt.ctl.hartsOn h then
    ({ s with bolt.ctl.hartsOn := setBit s.bolt.ctl.hartsOn h }.emit (.hartStart h 0)).emit
      (.hartStart h (s.get F.TOP_HART_ENTRY_LO_ADDR + 2 ^ 32 * s.get F.TOP_HART_ENTRY_HI_ADDR))
  else s

theorem hartWrite_eq (s : State) (w : Requester) (v : Word) : s.hartWrite w v =
    s.command w R.TOP_HART_RELEASE v fun s => s.each [1, 2, 3] fun h s => s.releaseHart v h := rfl

theorem releaseHart_unnamed {s : State} {v : Word} {h : Nat} (unnamed : getBits v h 1 = 0) : s.releaseHart v h = s := by
  simp [State.releaseHart, unnamed]

theorem releaseHart_rd (s : State) (v : Word) (h a : Nat) : (s.releaseHart v h).rd a = s.rd a := by
  unfold State.releaseHart
  split <;> rfl

theorem releaseHart_starts {s : State} {v : Word} {h : Nat} (named : getBits v h 1 = 1) (waiting : bit s.bolt.ctl.hartsOn h = false) :
    bit (s.releaseHart v h).bolt.ctl.hartsOn h = true ∧ Output.hartStart h 0 ∈ (s.releaseHart v h).out := by
  simp [State.releaseHart, named, waiting, bit_setBit_same]

theorem namesHart_bits : ∀ h ∈ [1, 2, 3], ∀ k ∈ [1, 2, 3],
    getBits (BitVec.ofNat 32 (2 ^ h)) k 1 = (if k = h then 1 else 0) := by decide

/-- A value that names one hart releases that one alone. -/
theorem releaseHarts_one (s : State) {h : Nat} (range : h ∈ [1, 2, 3]) :
    (s.each [1, 2, 3] fun k s => s.releaseHart (BitVec.ofNat 32 (2 ^ h)) k) = s.releaseHart (BitVec.ofNat 32 (2 ^ h)) h := by
  have unnamed (k : Nat) (s : State) (other : k ≠ h) (k' : k ∈ [1, 2, 3]) : s.releaseHart (BitVec.ofNat 32 (2 ^ h)) k = s :=
    releaseHart_unnamed (by rw [namesHart_bits h range k k', if_neg other])
  simp only [List.mem_cons, List.not_mem_nil, or_false] at range
  simp only [State.each, List.foldl]
  rcases range with rfl | rfl | rfl
  · rw [unnamed 3 _ (by decide) (by decide), unnamed 2 _ (by decide) (by decide)]
  · rw [unnamed 3 _ (by decide) (by decide), unnamed 1 _ (by decide) (by decide)]
  · rw [unnamed 2 _ (by decide) (by decide), unnamed 1 _ (by decide) (by decide)]

/-- TOP_HART_RELEASE shows the harts named, and those it showed (spec/02 R26). -/
theorem hartRelease_shown (s : State) {h : Nat} (range : h ∈ [1, 2, 3]) :
    bit ((s.written R.TOP_HART_RELEASE (BitVec.ofNat 32 (2 ^ h))).get ⟨R.TOP_HART_RELEASE, 0, 4⟩) h = true := by
  have named : (getBits (BitVec.ofNat 32 (2 ^ h)) 1 3).testBit (h - 1) = true := by
    revert h; decide
  have low : 1 ≤ h := by revert h; decide
  have high : h - 1 < 3 := by revert h; decide
  rw [State.get, bit_getBits _ _ (show h < 4 by omega), written_bolt (by decide), rd_storeWrite_same (by decide) rfl]
  simp only [List.foldl, writeField, FieldDef.f]
  rw [show 0 + h = 1 + (h - 1) by omega, getLsbD_setBits_inside _ _ high (by decide), Nat.testBit_or, named, Bool.or_true]

theorem mem_answer_out {s : State} {o : Output} (told : o ∈ s.out) (w : Requester) (st : Access) (x : Word) :
    o ∈ (s.answer w st x).out := by
  unfold State.answer
  split <;> simp [told]

/-- HART_RELEASE of a hart that does not run starts it at 0 (spec/02 R26). -/
theorem hartRelease_starts {s : State} {w : Requester} {h : Nat} (acc : s.accepts w R.TOP_HART_RELEASE) (low : 1 ≤ h) (high : h ≤ 3)
    (waiting : bit s.bolt.ctl.hartsOn h = false) :
    ∃ t : State, exec (.hartRelease w (BitVec.ofNat 32 (2 ^ h))) s = .next t ∧
      bit t.bolt.ctl.hartsOn h = true ∧ Output.hartStart h 0 ∈ t.out ∧ bit (t.get ⟨R.TOP_HART_RELEASE, 0, 4⟩) h = true := by
  have range : h ∈ [1, 2, 3] := by simp; omega
  let v : Word := BitVec.ofNat 32 (2 ^ h)
  have row : exec (.hartRelease w v) s = .next (s.hartWrite w v) := rfl
  have named : getBits v h 1 = 1 := by rw [namesHart_bits h range h range, if_pos rfl]
  have waiting' : bit (s.written R.TOP_HART_RELEASE v).bolt.ctl.hartsOn h = false := by
    rw [show (s.written R.TOP_HART_RELEASE v).bolt.ctl.hartsOn = s.bolt.ctl.hartsOn from
      congrArg (fun t => t.bolt.ctl.hartsOn) (untold_storeWrite _ _ _), waiting]
  obtain ⟨runs, told⟩ := releaseHart_starts named waiting'
  refine ⟨_, by rw [row, hartWrite_eq, command_of_accepts acc, releaseHarts_one _ range], ?runs, ?told, ?shown⟩
  case runs => rw [← runs]; exact congrArg (fun t => bit t.bolt.ctl.hartsOn h) (untold_answer ..)
  case told => exact mem_answer_out told ..
  case shown => rw [get_congr ((rd_answer ..).trans (releaseHart_rd ..))]; exact hartRelease_shown s range

/-! ### A unit's enable, check and stop -/

/-- A write of CNT's CTRL: ENABLE from 0 to 1 starts the unit's check, from 1 to 0 its stop (spec/02 R35). -/
theorem ctrlWrite_cnt (s : State) (w : Requester) (v : Word) : s.ctrlWrite w .cnt v = s.command w R.CNT_CTRL v fun t =>
    if !s.on F.CNT_CTRL_ENABLE && t.on F.CNT_CTRL_ENABLE then t.unitStarts .cnt
    else if s.on F.CNT_CTRL_ENABLE && !t.on F.CNT_CTRL_ENABLE then t.unitStops .cnt else t := by
  simp [State.ctrlWrite, State.when, HUnit.enable, HUnit.ctrl]

/-- What a write of CNT_CTRL leaves of CNT_STATUS and CNT_REFUSE, and ENABLE as written. -/
theorem rd_written_cnt (s : State) (v : Word) {a : Nat} (own : a ≠ R.CNT_CTRL) (sticky : a ≠ 0x40E00004) :
    (s.written R.CNT_CTRL v).rd a = s.rd a := by
  rw [written_bolt (by decide), rd_storeWrite_other _ _ own.symm sticky]

theorem enable_written_cnt (s : State) (v : Word) : (s.written R.CNT_CTRL v).get F.CNT_CTRL_ENABLE = getBits v 0 1 := by
  have small : getBits v 0 1 < 2 ^ 1 := BitVec.isLt _
  rw [State.get, written_bolt (by decide), rd_storeWrite_same (by decide) rfl, List.foldl_cons,
    getBits_foldl_writeField _ (by decide)]
  simp only [writeField, FieldDef.f]
  rw [clamp_getBits, getBits_setBits_same _ _ _ _ (by decide), Nat.mod_eq_of_lt small]

section Unit
variable {s : State} {w : Requester} (v : Word) (acc : s.accepts w R.CNT_CTRL)
include acc

/-- ENABLE of CNT from 0 to 1 starts the unit on the state with the value stored. -/
theorem unitEnable_cnt (off : s.on F.CNT_CTRL_ENABLE = false) :
    exec (.unitEnable w .cnt v) s = .next (((s.written R.CNT_CTRL (setBits v 0 1 1)).unitStarts .cnt).answer w .done 0) := by
  have row : exec (.unitEnable w .cnt v) s = .next (s.ctrlWrite w .cnt (setBits v 0 1 1)) := rfl
  have on : (s.written R.CNT_CTRL (setBits v 0 1 1)).on F.CNT_CTRL_ENABLE = true := by
    rw [State.on, enable_written_cnt, getBits_setBits_same _ _ _ _ (by decide)]; rfl
  rw [row, ctrlWrite_cnt, command_of_accepts acc]
  simp only [off, on]
  rfl

/-- ENABLE of CNT from 1 to 0 stops the unit. -/
theorem unitDisable_cnt (on : s.on F.CNT_CTRL_ENABLE = true) :
    exec (.unitDisable w .cnt v) s = .next (((s.written R.CNT_CTRL (setBits v 0 1 0)).unitStops .cnt).answer w .done 0) := by
  have row : exec (.unitDisable w .cnt v) s = .next (s.ctrlWrite w .cnt (setBits v 0 1 0)) := rfl
  have off : (s.written R.CNT_CTRL (setBits v 0 1 0)).on F.CNT_CTRL_ENABLE = false := by
    rw [State.on, enable_written_cnt, getBits_setBits_same _ _ _ _ (by decide)]; rfl
  rw [row, ctrlWrite_cnt, command_of_accepts acc]
  simp only [off, on]
  rfl

/-- ENABLE of CNT while it is not STOPPING: it is CHECKING (spec/02 R35). -/
theorem unitEnable_cnt_checks (off : s.on F.CNT_CTRL_ENABLE = false) (still : s.on F.CNT_STATUS_STOPPING = false) :
    ∃ t : State, exec (.unitEnable w .cnt v) s = .next t ∧ t.get F.CNT_STATUS_STATE = 1 ∧ t.get F.CNT_CTRL_ENABLE = 1 := by
  have notStopping : (s.written R.CNT_CTRL (setBits v 0 1 1)).on F.CNT_STATUS_STOPPING = false :=
    (on_congr (rd_written_cnt _ _ (by decide) (by decide))).trans still
  have starts : (s.written R.CNT_CTRL (setBits v 0 1 1)).unitStarts .cnt =
      (s.written R.CNT_CTRL (setBits v 0 1 1)).set F.CNT_STATUS_STATE 1 := by
    simp only [State.unitStarts, show HUnit.cnt.stopping = F.CNT_STATUS_STOPPING from rfl, notStopping]
    rfl
  refine ⟨_, by rw [unitEnable_cnt v acc off, starts], ?state, ?enable⟩
  case state => rw [get_congr (rd_answer ..), get_set_same _ _ _ (by decide)]; rfl
  case enable =>
    rw [get_congr (rd_answer ..), get_set_other _ _ _ _ (by decide), enable_written_cnt, getBits_setBits_same _ _ _ _ (by decide)]
    rfl

/-- ENABLE of CNT while it is STOPPING: it is REFUSED with 0x0F05 and its block ID (spec/02 R35). -/
theorem unitEnable_cnt_refused (off : s.on F.CNT_CTRL_ENABLE = false) (stopping : s.on F.CNT_STATUS_STOPPING = true) :
    ∃ t : State, exec (.unitEnable w .cnt v) s = .next t ∧ t.get F.CNT_STATUS_STATE = 3 ∧ t.get F.CNT_REFUSE_REASON = 0x0F05 ∧
      t.get F.CNT_REFUSE_DETAIL = 0x0F ∧ t.get F.CNT_CTRL_ENABLE = 0 := by
  have stopping' : (s.written R.CNT_CTRL (setBits v 0 1 1)).on F.CNT_STATUS_STOPPING = true :=
    (on_congr (rd_written_cnt _ _ (by decide) (by decide))).trans stopping
  have refused : (s.written R.CNT_CTRL (setBits v 0 1 1)).unitStarts .cnt = (s.written R.CNT_CTRL (setBits v 0 1 1)).sets
      [(F.CNT_STATUS_STATE, 3), (F.CNT_REFUSE_REASON, 0x0F05), (F.CNT_REFUSE_DETAIL, 0x0F), (F.CNT_CTRL_ENABLE, 0)] := by
    simp only [State.unitStarts, show HUnit.cnt.stopping = F.CNT_STATUS_STOPPING from rfl, stopping']
    rfl
  refine ⟨_, by rw [unitEnable_cnt v acc off, refused], ?state, ?reason, ?detail, ?enable⟩ <;>
    rw [get_congr (rd_answer ..)] <;> simp only [State.sets]
  case state =>
    rw [get_set_other _ _ _ _ (by decide), get_set_other _ _ _ _ (by decide), get_set_other _ _ _ _ (by decide),
      get_set_same _ _ _ (by decide)]; rfl
  case reason =>
    rw [get_set_other _ _ _ _ (by decide), get_set_other _ _ _ _ (by decide), get_set_same _ _ _ (by decide)]; rfl
  case detail => rw [get_set_other _ _ _ _ (by decide), get_set_same _ _ _ (by decide)]; rfl
  case enable => rw [get_set_same _ _ _ (by decide)]; rfl

/-- ENABLE of CNT cleared while it is ON: OFF and STOPPING (spec/02 R35). -/
theorem unitDisable_cnt_stops (on : s.on F.CNT_CTRL_ENABLE = true) (running : s.get F.CNT_STATUS_STATE = 2) :
    ∃ t : State, exec (.unitDisable w .cnt v) s = .next t ∧ t.get F.CNT_STATUS_STATE = 0 ∧ t.get F.CNT_STATUS_STOPPING = 1 ∧
      t.get F.CNT_CTRL_ENABLE = 0 := by
  have running' : (s.written R.CNT_CTRL (setBits v 0 1 0)).get F.CNT_STATUS_STATE = 2 :=
    (get_congr (rd_written_cnt _ _ (by decide) (by decide))).trans running
  have stops : (s.written R.CNT_CTRL (setBits v 0 1 0)).unitStops .cnt =
      (s.written R.CNT_CTRL (setBits v 0 1 0)).sets [(F.CNT_STATUS_STATE, 0), (F.CNT_STATUS_STOPPING, 1)] := by
    simp only [State.unitStops, show HUnit.cnt.state = F.CNT_STATUS_STATE from rfl, running']
    rfl
  refine ⟨_, by rw [unitDisable_cnt v acc on, stops], ?state, ?stopping, ?enable⟩ <;>
    rw [get_congr (rd_answer ..)] <;> simp only [State.sets]
  case state => rw [get_set_other _ _ _ _ (by decide), get_set_same _ _ _ (by decide)]; rfl
  case stopping => rw [get_set_same _ _ _ (by decide)]; rfl
  case enable =>
    rw [get_set_other _ _ _ _ (by decide), get_set_other _ _ _ _ (by decide), enable_written_cnt,
      getBits_setBits_same _ _ _ _ (by decide)]; rfl

end Unit

/-! ### The end of a check and of a stop -/

/-- CHECK_DONE of a unit on a die that runs ends its check. -/
theorem checkDone_of_up {s : State} {u : HUnit} (runs : (if isSpool u.ctrl then s.spool.aon else s.boltUp) = true) :
    exec (.checkDone u) s = .next (s.endCheck u) := by
  have row : exec (.checkDone u) s = execCheckDone u s := rfl
  rw [row, execCheckDone, runs]
  rfl

/-- A check that fails refuses its unit; KEY's has used a free value (spec/02 R35). -/
theorem endCheck_refused {s : State} {u : HUnit} {code detail : Nat} (notPat : u ≠ .pat) (notBaste : u ≠ .altBaste)
    (notAlarm : u ≠ .altAlarm) (checking : s.get u.state = 1) (bad : s.checkUnit u = some (code, detail)) :
    s.endCheck u = if u = .key then (s.refuseUnit u code detail).used else s.refuseUnit u code detail := by
  unfold State.endCheck
  rw [if_neg (by simp [checking])]
  split
  case h_1 => exact absurd rfl notPat
  case h_2 => exact absurd rfl notBaste
  case h_3 => exact absurd rfl notAlarm
  case h_4 => simp [bad, State.when]

/-- CNT's check that passes turns it ON with DUMP_SEQ 0 (spec/02 R35; spec/20 R436). -/
theorem endCheck_cnt_passed {s : State} (checking : s.get F.CNT_STATUS_STATE = 1) (good : s.checkCnt = none) :
    s.endCheck .cnt = (s.sets [(F.CNT_STATUS_STATE, 2), (F.CNT_REFUSE_REASON, 0), (F.CNT_REFUSE_DETAIL, 0xFFFF),
      (F.CNT_DUMP_SEQ_SEQ, 0)]).irq 0x40E00000 0 := by
  have row : s.endCheck .cnt = if s.get F.CNT_STATUS_STATE ≠ 1 then s else
      (match s.checkCnt with
        | some (code, detail) => s.refuseUnit .cnt code detail
        | none => s.passUnit .cnt) := rfl
  rw [row, if_neg (not_not.2 checking), good]
  rfl

/-- UNIT_STOPPED of CNT ends STOPPING (spec/02 R35). -/
theorem unitStopped_cnt {s : State} (live : s.boltUp = true) (stopping : s.on F.CNT_STATUS_STOPPING = true) :
    exec (.unitStopped .cnt) s = .next (s.set F.CNT_STATUS_STOPPING 0) := by
  have row : exec (.unitStopped .cnt) s = .next (if !s.boltUp || !s.on F.CNT_STATUS_STOPPING then s
      else s.set F.CNT_STATUS_STOPPING 0) := by
    show execUnitStopped .cnt s = _
    unfold execUnitStopped
    rw [show isSpool HUnit.cnt.ctrl = false by decide]
    rfl
  simp [row, live, stopping]

/-- Settles O8: the token's requests, the heartbeat, the harts, and the life of a unit (assumption logs 34, 36). -/
theorem tokenRequestsHartsAndUnits : Obligations.TokenRequestsHartsAndUnits := by
  refine ⟨fun s acc new asks => tokenRequest_spi acc new asks, fun s acc new asks => tokenRequest_pcie acc new asks,
    fun s w acc holds => tokenDeny_of_holder acc holds, fun s w p acc => hostHbBeat_period p acc,
    fun s w h acc low high waiting => hartRelease_starts acc low high waiting,
    fun s w v acc off => ⟨unitEnable_cnt_checks v acc off, unitEnable_cnt_refused v acc off⟩,
    fun s u code detail notPat notBaste notAlarm live aon checking bad => ?refused,
    fun s live checking good => ?passed,
    fun s w v acc on running => unitDisable_cnt_stops v acc on running,
    fun s live stopping => unitStopped_cnt live stopping⟩
  case refused =>
    rw [checkDone_of_up (by simp [live, aon]), endCheck_refused notPat notBaste notAlarm checking bad, State.refuseUnit]
  case passed => rw [checkDone_of_up (u := .cnt) live, endCheck_cnt_passed checking good]

end Sys2Proof.Machine
end


section
/-! The flits of the seam as they arrive (spec/02 R38, R39, R41): where the spec leaves a flit's layout or its answer open, the rows
state the model's choices (assumption logs 23, 61, 67). -/

namespace Sys2Proof.Machine

/-! ### The sequence (spec/02 R41) -/

/-- A die that has taken in the flit it expected: the expectation moves on, the flit is acknowledged. -/
def State.flitTaken (s : State) (d : Die) (f : FlitBody) : State :=
  (s.setSeamEnd d { s.seamEnd d with expect := ((s.seamEnd d).expect + 1) % 256 }).emit (.flit d 0xA 0 f.seq.toNat 0)

section Arrival
variable {s : State} {d : Die} {type : Nat} {f : FlitBody} (up : s.seamUp = true) (live : s.boltUp = true)

include up live

/-- The expected flit is acknowledged and acts. -/
theorem flitRx_expected (good : flitOk type f = true) (expected : f.seq.toNat = (s.seamEnd d).expect) (act : State → State) :
    s.flitRx d type f act = act (s.flitTaken d f) := by
  have named : f.seq.toNat % 256 = f.seq.toNat := Nat.mod_eq_of_lt f.seq.isLt
  rw [State.flitRx, if_neg (by simp [up, live]), if_neg (by simp [good]), if_pos expected, State.sendAckFlit, named]
  rfl

/-- A flit with a bad CRC is answered with NAK of the expected one. -/
theorem flitRx_bad (bad : flitOk type f = false) (act : State → State) :
    s.flitRx d type f act = s.emit (.flit d 0xB 0 ((s.seamEnd d).expect % 256) 0) := by
  rw [State.flitRx, if_neg (by simp [up, live]), if_pos (by simp [bad]), State.sendAckFlit]

theorem carryFlit_expected (good : flitOk type f = true ∧ f.seq.toNat = (s.seamEnd d).expect) :
    s.carryFlit d type f = (s.flitTaken d f).emit (.deliver d type f.ch.toNat f.data.toNat) := by
  rw [State.carryFlit, flitRx_expected up live good.1 good.2]

end Arrival

/-! ### Events (spec/02 R38, R42; spec/20 R433) -/

section Events
variable (s : State) (w blk cause : Nat)

/-- The bolt die's copy of a spool block's INT_STATUS. -/
def State.intCopied : State := { s with bolt.ctl.intCopy := putKey 0 blk w s.bolt.ctl.intCopy }

/-- Cause 0xFF tells INT_STATUS alone. -/
theorem noteEvent_copy : s.noteEvent w blk 0xFF = (s.intCopied w blk).refreshInts := by
  simp [State.noteEvent, State.intCopied]

/-- A cause below 0xC0 is an event, which is counted too. -/
theorem noteEvent_event (event : cause < 0xC0) :
    s.noteEvent w blk cause = ((s.intCopied w blk).countEvent (blk * 256 + cause)).refreshInts := by
  rw [State.noteEvent, if_neg (by omega), if_neg (by omega)]
  dsimp only
  rw [if_neg (by omega)]
  rfl

theorem noteEvent_gate (low : 0xC0 ≤ cause) (high : cause < 0xC7) :
    s.noteEvent w blk cause = { s with bolt.ctl.gateCopy := putKey 0 (cause - 0xC0) w s.bolt.ctl.gateCopy } := by
  rw [State.noteEvent, if_pos ⟨low, high⟩]

theorem noteEvent_contract (low : 0xD0 ≤ cause) (high : cause < 0xD6) :
    s.noteEvent w blk cause = { s with bolt.ctl.contractCopy := putKey 0 (cause - 0xD0) w s.bolt.ctl.contractCopy } := by
  rw [State.noteEvent, if_neg (by omega), if_pos ⟨low, high⟩]

/-- What an event tells is not part of the count of the snapshot's flits. -/
theorem noteEvent_snapLeft : (s.noteEvent w blk cause).bolt.ctl.snapLeft = s.bolt.ctl.snapLeft := by
  have refreshed (t : State) : t.refreshInts.bolt.ctl.snapLeft = t.bolt.ctl.snapLeft :=
    eq_of_untold (fun t => t.bolt.ctl.snapLeft) (untold_refreshInts t)
  have counted (t : State) (ev : Nat) : (t.countEvent ev).bolt.ctl.snapLeft = t.bolt.ctl.snapLeft :=
    eq_of_untold (fun t => t.bolt.ctl.snapLeft) (untold_countEvent t ev)
  unfold State.noteEvent
  split
  · rfl
  · split
    · rfl
    · dsimp only
      rw [refreshed]
      split
      · rfl
      · rw [counted]

/-- Outside a snapshot an event flit ends with its event. -/
theorem snapFlit_outside {s : State} (outside : s.bolt.ctl.snapLeft = 0) : s.snapFlit = s := by
  rw [State.snapFlit, if_pos outside]

/-- The last flit of a snapshot sets SNAPSHOT_DONE (spec/02 R42). -/
theorem snapFlit_last {s : State} (last : s.bolt.ctl.snapLeft = 1) :
    s.snapFlit = ({ s with bolt.ctl.snapLeft := 0 } : State).set F.SEAM_STATUS_SNAPSHOT_DONE 1 := by
  simp [State.snapFlit, last]

variable {s : State} {f : FlitBody} (up : s.seamUp = true) (live : s.boltUp = true)
  (good : flitOk 6 f = true ∧ f.seq.toNat = (s.seamEnd .bolt).expect)

include up live good

theorem eventFlit_expected : exec (.eventFlit f) s = .next ((s.flitTaken .bolt f).noteEvent (slice f.data.toNat 0 32)
    (slice f.data.toNat 32 8) (slice f.data.toNat 40 8)).snapFlit := by
  have row : exec (.eventFlit f) s = execEventFlit f s := rfl
  rw [row, execEventFlit, flitRx_expected up live good.1 good.2]

theorem eventFlit_outside (outside : s.bolt.ctl.snapLeft = 0) : exec (.eventFlit f) s =
    .next ((s.flitTaken .bolt f).noteEvent (slice f.data.toNat 0 32) (slice f.data.toNat 32 8) (slice f.data.toNat 40 8)) := by
  rw [eventFlit_expected up live good, snapFlit_outside ((noteEvent_snapLeft (s.flitTaken .bolt f) _ _ _).trans outside)]

theorem eventFlit_last (last : s.bolt.ctl.snapLeft = 1) : ∃ t : State, exec (.eventFlit f) s = .next t ∧
    t.bolt.ctl.snapLeft = 0 ∧ t.get F.SEAM_STATUS_SNAPSHOT_DONE = 1 := by
  refine ⟨_, by rw [eventFlit_expected up live good, snapFlit_last ((noteEvent_snapLeft (s.flitTaken .bolt f) _ _ _).trans last)], rfl, ?_⟩
  rw [get_set_same _ _ _ (by decide)]
  rfl

end Events

/-! ### Reads and writes of the spool registers (spec/02 R39) -/

section Accesses
variable {s : State} {f : FlitBody} (up : s.seamUp = true) (live : s.boltUp = true)

include up live

/-- REG_RESP answers the oldest read that waits (assumption log 23). -/
theorem regRespFlit_expected {r : Requester × Nat} {rest : List (Requester × Nat)} (waits : s.bolt.ctl.rdSent = r :: rest)
    (good : flitOk 3 f = true ∧ f.seq.toNat = (s.seamEnd .bolt).expect) :
    exec (.regRespFlit f) s = .next ({ s.flitTaken .bolt f with bolt.ctl.rdSent := rest }.answer r.1 .done
      (BitVec.ofNat 32 (slice f.data.toNat 0 32))) := by
  have row : exec (.regRespFlit f) s = execRegRespFlit f s := rfl
  have waits' : (s.flitTaken .bolt f).bolt.ctl.rdSent = r :: rest := waits
  rw [row, execRegRespFlit, flitRx_expected up live good.1 good.2, waits']

theorem regWrFlit_expected (good : flitOk 1 f = true ∧ f.seq.toNat = (s.seamEnd .spool).expect)
    (onSpool : isSpool (slice f.data.toNat 32 32) = true) (inBlock : rangeOf (slice f.data.toNat 32 32) = .block) :
    exec (.regWrFlit f) s = .next ({ s.flitTaken .spool f with
      bolt.ctl.wrSent := s.bolt.ctl.wrSent.erase (slice f.data.toNat 32 32) }.writeAny .hub (slice f.data.toNat 32 32)
        (BitVec.ofNat 32 (slice f.data.toNat 0 32))) := by
  have row : exec (.regWrFlit f) s = execRegWrFlit f s := rfl
  rw [row, execRegWrFlit, flitRx_expected up live good.1 good.2]
  dsimp only
  rw [if_pos (by simp [onSpool, inBlock])]
  rfl

theorem regRdFlit_expected (good : flitOk 2 f = true ∧ f.seq.toNat = (s.seamEnd .spool).expect)
    (onSpool : isSpool (slice f.data.toNat 32 32) = true) (inBlock : rangeOf (slice f.data.toNat 32 32) = .block)
    (known : assigned (slice f.data.toNat 32 32) = true) :
    let who := ((s.bolt.ctl.rdSent.find? fun r => r.2 = slice f.data.toNat 32 32).map (·.1)).getD .hub
    let read := (s.flitTaken .spool f).readReg who (slice f.data.toNat 32 32)
    exec (.regRdFlit f) s = .next (read.1.sendFlit .spool 3 f.ch.toNat read.2.toNat) := by
  have row : exec (.regRdFlit f) s = execRegRdFlit f s := rfl
  rw [row, execRegRdFlit, flitRx_expected up live good.1 good.2]
  dsimp only
  rw [if_pos (by simp [onSpool, inBlock, known])]
  rfl

end Accesses

/-- IDLE is checked and does nothing else. -/
theorem idleFlit_of_up {s : State} (up : s.seamUp = true) (live : s.boltUp = true) (d : Die) (f : FlitBody) :
    exec (.idleFlit d f) s =
      .next (if flitOk 0 f then s else s.emit (.flit d 0xB 0 ((s.seamEnd d).expect % 256) 0)) := by
  have row : exec (.idleFlit d f) s = execIdleFlit d f s := rfl
  rw [row, execIdleFlit, up, live]
  rfl

/-- Settles O9: each kind of flit, in order and with a bad CRC.  The answers' layout and the SEQ of a NAK are the model's choices
(assumption logs 23, 61, 67). -/
theorem flitsInOrderAreAcknowledgedAndAct : Obligations.FlitsInOrderAreAcknowledgedAndAct := by
  refine ⟨fun s d f up live => ⟨fun r rest waits ok => regRespFlit_expected up live waits ok, ?pd, ?usb, ?nvsReq, ?nvsData, ?switch,
    fun ok outside => ⟨fun isCopy => ?copy, fun isEvent => ?event, fun low high => ?gate, fun low high => ?contract⟩,
    fun ok last => eventFlit_last up live ok last, fun ok onSpool inBlock => regWrFlit_expected up live ok onSpool inBlock,
    fun ok onSpool inBlock known => regRdFlit_expected up live ok onSpool inBlock known⟩,
    fun s d f up live => ⟨fun ok => ?idleGood, fun bad => ?idleBad, ?_, ?_, ?_, ?_, ?_, ?_, ?_, ?_, ?_⟩⟩
  case pd | usb | nvsReq | nvsData | switch => exact fun ok => congrArg Host.Outcome.next (carryFlit_expected up live ok)
  case copy =>
    rw [eventFlit_outside up live ok outside, isCopy, noteEvent_copy]
    rfl
  case event =>
    rw [eventFlit_outside up live ok outside, noteEvent_event _ _ _ _ isEvent]
    rfl
  case gate =>
    rw [eventFlit_outside up live ok outside, noteEvent_gate _ _ _ _ low high]
    rfl
  case contract =>
    rw [eventFlit_outside up live ok outside, noteEvent_contract _ _ _ _ low high]
    rfl
  case idleGood => rw [idleFlit_of_up up live, if_pos ok]
  case idleBad => rw [idleFlit_of_up up live, bad]; rfl
  all_goals exact fun bad => congrArg Host.Outcome.next (flitRx_bad up live bad _)

end Sys2Proof.Machine
end


section
/-! Failed flits, the seam going down and coming back (spec/02 R41 to R44).  How SEAM_RETRY_CNT counts a resend and that RETRAIN shows an
automatic attempt are the model's choices (assumption logs 69, 70). -/

namespace Sys2Proof.Machine

/-! ### Acknowledgements and failures (spec/02 R41) -/

theorem setSeamEnd_own (s : State) (d : Die) : s.setSeamEnd d (s.seamEnd d) = s := by cases d <;> rfl

/-- The replay buffer sent again from its front, whose sendings are one more. -/
def State.sentAgain (s : State) (d : Die) (x : TxFlit) (rest : List TxFlit) : State :=
  let l := { x with sends := x.sends + 1 } :: rest
  ((s.setSeamEnd d { s.seamEnd d with replay := l }).sat F.SEAM_RETRY_CNT_COUNT l.length).each l
    fun y s => s.emit (.flit d y.type y.ch y.seq y.data)

section Failure
variable {s : State} {d : Die} {f : FlitBody} (up : s.seamUp = true) (live : s.boltUp = true)

/-- A failure of the flit at the front of the replay buffer: sent again with those behind it, or at its third the seam goes down. -/
theorem resendFlits_front {x : TxFlit} {rest : List TxFlit} (front : (s.seamEnd d).replay = x :: rest) :
    s.resendFlits d x.seq = if 3 ≤ x.sends then s.seamDown else s.sentAgain d x rest := by
  have whole : (x :: rest).dropWhile (fun f => f.seq != x.seq) = x :: rest := List.dropWhile_cons_of_neg (by simp)
  have own : s.setSeamEnd d { s.seamEnd d with replay := x :: rest } = s := by rw [← front]; exact setSeamEnd_own s d
  unfold State.resendFlits
  dsimp only
  rw [front, if_neg (by simp), whole]
  dsimp only
  rw [own]
  rfl

include up live

theorem ackFlit_good (good : flitOk 0xA f = true) : exec (.ackFlit d f) s =
    .next ((s.setSeamEnd d { s.seamEnd d with replay := freeFlits f.seq.toNat (s.seamEnd d).replay }).pump d 128) := by
  have row : exec (.ackFlit d f) s = execAckFlit d f s := rfl
  rw [row, execAckFlit, if_neg (by simp [up, live]), if_neg (by simp [good])]

theorem nakFlit_good (good : flitOk 0xB f = true) : exec (.nakFlit d f) s = .next (s.resendFlits d f.seq.toNat) := by
  have row : exec (.nakFlit d f) s = execNakFlit d f s := rfl
  rw [row, execNakFlit, if_neg (by simp [up, live]), if_neg (by simp [good])]

theorem flitAckTimeout_front {x : TxFlit} {rest : List TxFlit} (front : (s.seamEnd d).replay = x :: rest) :
    exec (.flitAckTimeout d) s = .next (s.resendFlits d x.seq) := by
  have row : exec (.flitAckTimeout d) s = execFlitAckTimeout d s := rfl
  rw [row, execFlitAckTimeout, if_neg (by simp [up, live]), front]

/-- The front flit fails by its ACK time or by a NAK that names it. -/
theorem frontFlit_fails {x : TxFlit} {rest : List TxFlit} {t : State} (front : (s.seamEnd d).replay = x :: rest)
    (outcome : (if 3 ≤ x.sends then s.seamDown else s.sentAgain d x rest) = t) : exec (.flitAckTimeout d) s = .next t ∧
      (flitOk 0xB f = true → f.seq.toNat = x.seq → exec (.nakFlit d f) s = .next t) := by
  refine ⟨?_, fun good names => ?_⟩
  · rw [flitAckTimeout_front up live front, resendFlits_front front, outcome]
  · rw [nakFlit_good up live good, names, resendFlits_front front, outcome]

end Failure

/-- SEAM_RX_TIMEOUT declares an up seam down. -/
theorem seamRxTimeout_of_up {s : State} (live : s.boltUp = true) (d : Die) : exec (.seamRxTimeout d) s = .next s.seamDown := by
  have row : exec (.seamRxTimeout d) s = execSeamRxTimeout d s := rfl
  rw [row, execSeamRxTimeout, if_pos live]

/-! ### Attempts to retrain (spec/02 R42) -/

section Retrain
variable {s : State} (down : s.seamUp = false)
include down

theorem seamRetrainTimer_sets (live : s.boltUp = true) (auto : s.on F.SEAM_CTRL_AUTO_RETRAIN = true) :
    exec .seamRetrainTimer s = .next (s.set F.SEAM_CTRL_RETRAIN 1) := by
  have row : exec .seamRetrainTimer s = execSeamRetrainTimer s := rfl
  rw [row, execSeamRetrainTimer, ifBolt_of_boltUp live, if_pos (by simp [down, auto])]

/-- The host's RETRAIN stands while the seam is down. -/
theorem retrain_sets {w : Requester} (acc : s.accepts w R.SEAM_CTRL) :
    ∃ t : State, exec (.retrain w) s = .next t ∧ t.get F.SEAM_CTRL_RETRAIN = 1 := by
  have row : exec (.retrain w) s = execRetrain w s := rfl
  have still : (s.written R.SEAM_CTRL (s.rd R.SEAM_CTRL ||| 2)).seamUp = false := by
    rw [seamUp_congr, down]
    rw [written_bolt (by decide), rd_storeWrite_other _ _ (by decide) (by decide)]
  refine ⟨_, by rw [row, execRetrain, command_of_accepts acc, if_neg (ne_true_of_eq_false still)], ?_⟩
  have asked : getBits (s.rd R.SEAM_CTRL ||| 2) 1 1 = 1 := by
    have bit1 (v : Word) : (v ||| 2).extractLsb' 1 1 = 1#1 := by
      ext i inside
      obtain rfl : i = 0 := by omega
      simp
    rw [getBits, bit1]
    rfl
  rw [get_congr (rd_answer ..), State.get, written_bolt (by decide), rd_storeWrite_same (by decide) rfl]
  simp only [List.foldl, writeField, FieldDef.f]
  rw [getBits_setBits_same _ _ _ _ (by decide), asked]
  simp

theorem seamRetrainDone_failed (live : s.boltUp = true) (us : Nat) :
    exec (.seamRetrainDone false us) s = .next (s.set F.SEAM_CTRL_RETRAIN 0) := by
  have row : exec (.seamRetrainDone false us) s = execSeamRetrainDone false us s := rfl
  rw [row, execSeamRetrainDone, ifBolt_of_boltUp live, if_neg (by simp [down])]
  rfl

theorem seamRetrainDone_succeeded (live : s.boltUp = true) (us : Nat) :
    exec (.seamRetrainDone true us) s = .next (s.seamBack us) := by
  have row : exec (.seamRetrainDone true us) s = execSeamRetrainDone true us s := rfl
  rw [row, execSeamRetrainDone, ifBolt_of_boltUp live, if_neg (by simp [down])]
  rfl

end Retrain

/-! ### The seam comes back (spec/02 R42 to R44) -/

/-- The seam up again: the writes lost are reported, nothing waits at either die, and the snapshot is expected. -/
def State.reconnected (s : State) : State :=
  { (s.sets [(F.SEAM_STATUS_UP, 1), (F.SEAM_STATUS_SNAPSHOT_DONE, 0), (F.LAN_STATUS_SEAM_DOWN, 0), (F.SEAM_CTRL_RETRAIN, 0)]).sets
      [(F.SEAM_LOST_WR_COUNT, min 16 s.bolt.ctl.wrSent.length), (F.SEAM_LOST_WR_ADDR_ADDR, s.bolt.ctl.wrSent.headD 0)] with
    bolt.ctl.wrSent := [], bolt.ctl.snapLeft := 20, bolt.ctl.down := false, spool.applied := 0
    bolt.held := [], bolt.heldItems := [], bolt.heldDropped := 0 }

/-- The snapshot is under way and the held records and items have gone to NVS. -/
def State.handedOver (s : State) : State :=
  s.reconnected.sendSnapshot.each (s.bolt.held ++ s.bolt.heldItems) fun op s => s.nvsPut op

/-- The record of the down period is added. -/
def State.downRecorded (s : State) (us : Nat) : State :=
  s.handedOver.boltFault 0x11 0x1101 (min us (2 ^ 32 - 1)) (s.handedOver.get F.SEAM_LOST_WR_COUNT)
    (s.handedOver.get F.SEAM_LOST_WR_ADDR_ADDR)

theorem seamRecover_of_down {s : State} (down : s.bolt.ctl.down = true) (kept : s.bolt.heldDropped = 0) (us : Nat) :
    s.seamRecover us = ((((s.downRecorded us).refreshInts).irq bSeam 1).tamperDeliver).keyResume := by
  unfold State.seamRecover
  simp only [State.sets, set_bolt, down, kept, if_true]
  rfl

/-- Records and items added to what NVS has to write. -/
def State.nvsAdded (s : State) (l : List NvsOp) : State := { s with spool.nvsQueue := s.spool.nvsQueue ++ l }

theorem each_nvsPut (s : State) (l : List NvsOp) : (s.each l fun op s => s.nvsPut op) = s.nvsAdded l := by
  unfold State.each
  induction l generalizing s with
  | nil => simp [State.nvsAdded]
  | cons op l ih =>
    rw [List.foldl_cons, ih]
    simp [State.nvsAdded, State.nvsPut]

theorem untold_nvsAdded (s : State) (l : List NvsOp) : (s.nvsAdded l).untold = s.untold.nvsAdded l := rfl

theorem rd_nvsAdded (s : State) (l : List NvsOp) (a : Nat) : (s.nvsAdded l).rd a = s.rd a := rd_congr (s := s) rfl a

theorem untold_sendSnapshot (s : State) : s.sendSnapshot.untold = s.untold := by
  unfold State.sendSnapshot
  dsimp only
  rw [each_keeps State.untold _ _ fun _ _ => untold_sendFlit .., each_keeps State.untold _ _ fun _ _ => untold_sendFlit ..,
    each_keeps State.untold _ _ fun _ _ => untold_sendFlit ..]

theorem rd_sendSnapshot (s : State) (a : Nat) : s.sendSnapshot.rd a = s.rd a := by
  unfold State.sendSnapshot
  dsimp only
  rw [rd_each _ _ _ _ fun _ _ => rd_sendFlit .., rd_each _ _ _ _ fun _ _ => rd_sendFlit ..,
    rd_each _ _ _ _ fun _ _ => rd_sendFlit ..]

theorem rd_handedOver (s : State) (a : Nat) : s.handedOver.rd a = s.reconnected.rd a := by
  rw [State.handedOver, each_nvsPut, rd_nvsAdded, rd_sendSnapshot]

/-- What recovery leaves of a register that it does not set. -/
theorem rd_reconnected (s : State) {a : Nat} (status : a ≠ R.SEAM_STATUS) (lan : a ≠ R.LAN_STATUS) (ctrl : a ≠ R.SEAM_CTRL)
    (count : a ≠ R.SEAM_LOST_WR) (addr : a ≠ R.SEAM_LOST_WR_ADDR) : s.reconnected.rd a = s.rd a := by
  show State.rd (State.sets _ _) a = _
  rw [rd_sets_other (by simp [count.symm, addr.symm]), rd_sets_other (by simp [status.symm, lan.symm, ctrl.symm])]

theorem reconnected_up (s : State) : s.reconnected.get F.SEAM_STATUS_UP = 1 := by
  show State.get (State.sets _ _) _ = _
  rw [get_sets_other (by simp)]
  simp only [State.sets]
  rw [get_set_other _ _ _ _ (by decide), get_set_other _ _ _ _ (by decide), get_set_other _ _ _ _ (by decide),
    get_set_same _ _ _ (by decide)]
  rfl

theorem reconnected_snapshotDone (s : State) : s.reconnected.get F.SEAM_STATUS_SNAPSHOT_DONE = 0 := by
  show State.get (State.sets _ _) _ = _
  rw [get_sets_other (by simp)]
  simp only [State.sets]
  rw [get_set_other _ _ _ _ (by decide), get_set_other _ _ _ _ (by decide), get_set_same _ _ _ (by decide)]
  rfl

theorem reconnected_lost (s : State) : s.reconnected.get F.SEAM_LOST_WR_COUNT = min 16 s.bolt.ctl.wrSent.length := by
  show State.get (State.sets _ _) _ = _
  simp only [State.sets]
  rw [get_set_other _ _ _ _ (by decide), get_set_same _ _ _ (by decide)]
  exact Nat.mod_eq_of_lt (show min 16 s.bolt.ctl.wrSent.length < 2 ^ 5 by omega)

theorem untold_handedOver (s : State) :
    s.handedOver.untold = (s.reconnected.nvsAdded (s.bolt.held ++ s.bolt.heldItems)).untold := by
  rw [State.handedOver, each_nvsPut]
  rw [untold_nvsAdded, untold_sendSnapshot, untold_nvsAdded]

/-- The record of a down period that ends (spec/02 R44). -/
def State.downRecord (s : State) (us : Nat) : NvsOp := .log 1 0x11 0x1101 s.cycle
  (faultPayload (min us (2 ^ 32 - 1)) (min 16 s.bolt.ctl.wrSent.length) (s.reconnected.get F.SEAM_LOST_WR_ADDR_ADDR))

section Recovery
variable {s : State} (live : s.boltUp = true)
include live

theorem downRecorded_eq (us : Nat) : s.downRecorded us = s.handedOver.nvsPut (s.downRecord us) := by
  have kept (a : Nat) (status : a ≠ R.SEAM_STATUS) (lan : a ≠ R.LAN_STATUS) (ctrl : a ≠ R.SEAM_CTRL)
      (count : a ≠ R.SEAM_LOST_WR) (addr : a ≠ R.SEAM_LOST_WR_ADDR) : s.handedOver.rd a = s.rd a :=
    (rd_handedOver ..).trans (rd_reconnected s status lan ctrl count addr)
  have up : s.handedOver.seamUp = true := by
    rw [seamUp_congr (rd_handedOver ..), State.seamUp, State.on, reconnected_up]; rfl
  have running : s.handedOver.bolt.running = s.bolt.running :=
    (eq_of_untold (fun t => t.bolt.running) (untold_handedOver s) :)
  have runs : s.handedOver.boltUp = true :=
    (boltUp_congr (kept _ (by decide) (by decide) (by decide) (by decide) (by decide)) running).trans live
  have now : s.handedOver.cycle = s.cycle := get_congr (kept _ (by decide) (by decide) (by decide) (by decide) (by decide))
  rw [State.downRecorded, boltFault_of_up runs up, now, get_congr (rd_handedOver ..), get_congr (rd_handedOver ..), reconnected_lost]
  rfl

variable (noTamper : s.on F.TMP_STATUS_PENDING = false) (down : s.bolt.ctl.down = true) (kept : s.bolt.heldDropped = 0)
  (noRun : s.bolt.keys.run = none)
include noTamper down kept noRun

/-- With no tamper response owed and no key operation under way, recovery ends with its interrupt; a lock of KEY may end. -/
theorem seamRecover_eq (us : Nat) : let told := ((s.downRecorded us).refreshInts).irq bSeam 1
    s.seamRecover us = told ∨ s.seamRecover us = told.set F.KEY_STATUS_LOCKED 0 := by
  intro told
  have notOwed : told.on F.TMP_STATUS_PENDING = false := by
    refine (on_congr ?_).trans noTamper
    rw [rd_irq _ _ _ (by decide) (by decide) (by decide), rd_refreshInts, downRecorded_eq live]
    exact (rd_handedOver ..).trans (rd_reconnected s (by decide) (by decide) (by decide) (by decide) (by decide))
  have idle : told.bolt.keys.run = none := by
    rw [eq_of_untold (fun t => t.bolt.keys.run) (untold_irq ..), eq_of_untold (fun t => t.bolt.keys.run) (untold_refreshInts ..),
      downRecorded_eq live]
    exact (eq_of_untold (fun t => t.bolt.keys.run) (untold_handedOver s)).trans noRun
  have row : s.seamRecover us = told.tamperDeliver.keyResume := seamRecover_of_down down kept us
  rw [row, tamperDeliver_of_none notOwed]
  split
  · exact .inr (by simp [State.keyResume, idle])
  · exact .inl (by simp [State.keyResume, idle])

theorem rd_seamRecover (us : Nat) {a : Nat} (key : a ≠ R.KEY_STATUS) (seam : a ≠ 0x41000008) (wrap : a ≠ R.CNT_WRAP)
    (cnt : a ≠ 0x40E00008) : (s.seamRecover us).rd a = s.reconnected.rd a := by
  have told : (((s.downRecorded us).refreshInts).irq bSeam 1).rd a = s.reconnected.rd a := by
    rw [rd_irq _ _ _ seam wrap cnt, rd_refreshInts, downRecorded_eq live]
    exact rd_handedOver ..
  rcases seamRecover_eq live noTamper down kept noRun us with h | h
  · rw [h, told]
  · rw [h, rd_set_other _ _ _ key.symm, told]

/-- Beside registers, outputs and flits, recovery reconnects and hands records and items to NVS. -/
theorem untold_seamRecover (us : Nat) : (s.seamRecover us).untold =
    (s.reconnected.nvsAdded (s.bolt.held ++ s.bolt.heldItems ++ [s.downRecord us])).untold := by
  have told : (((s.downRecorded us).refreshInts).irq bSeam 1).untold =
      (s.reconnected.nvsAdded (s.bolt.held ++ s.bolt.heldItems ++ [s.downRecord us])).untold := by
    rw [untold_irq, untold_refreshInts, downRecorded_eq live]
    rw [show (s.handedOver.nvsPut (s.downRecord us)).untold = s.handedOver.untold.nvsPut (s.downRecord us) from rfl,
      untold_handedOver, untold_nvsAdded, untold_nvsAdded]
    simp [State.nvsPut, State.nvsAdded]
  rcases seamRecover_eq live noTamper down kept noRun us with h | h
  · rw [h, told]
  · rw [h, untold_set, told]

end Recovery

/-! The rest of the return with nothing queued at the spool die (spec/02 R44). -/

/-- No event of the lantern waits. -/
def State.eventsSent (s : State) : State := (s.mapLan fun x => { x with queue := [] }).set F.LAN_STATUS_QUEUED 0

theorem lanReplay_of_none {s : State} (noEvents : s.spool.lan.queue = []) : s.lanReplay = s.eventsSent := by
  simp [State.lanReplay, State.eventsSent, noEvents]

/-- The bolt die's copy of the contacts' states replaced. -/
def State.withContacts (s : State) (c : Nat) : State := { s with bolt.stc := { s.bolt.stc with contacts := c } }

/-- The report of the contacts changes the bolt die's copy of them alone. -/
theorem contactReport_eq (s : State) : ∃ c : Nat, s.contactReport = s.withContacts c := by
  unfold State.contactReport
  split
  · exact ⟨_, rfl⟩
  · exact ⟨s.bolt.stc.contacts, rfl⟩

theorem flushUsb_of_none {s : State} (noFrames : s.spool.usb.waiting = []) : s.flushUsb = s := by
  unfold State.flushUsb
  rw [noFrames]
  split <;> rfl

theorem alarmDue_of_none {s : State} (noAlarm : s.spool.pwr.alarm = 0) : s.alarmDue = s := by simp [State.alarmDue, noAlarm]

theorem entryResume_of_none {s : State} (noEntry : s.spool.pwr.entry = 0) : s.entryResume = s := by
  simp [State.entryResume, noEntry]

/-- With nothing queued the seam's return is its recovery and the report of the contacts. -/
theorem seamBack_of_idle {s r : State} {us : Nat} (recovered : s.seamRecover us = r) (noEvents : r.spool.lan.queue = [])
    (noFrames : r.spool.usb.waiting = []) (noAlarm : r.spool.pwr.alarm = 0) (noEntry : r.spool.pwr.entry = 0) :
    ∃ c : Nat, s.seamBack us = r.eventsSent.withContacts c := by
  obtain ⟨c, reported⟩ := contactReport_eq r.eventsSent
  have frames : (r.eventsSent.withContacts c).spool.usb.waiting = [] := noFrames
  have alarm : (r.eventsSent.withContacts c).spool.pwr.alarm = 0 := noAlarm
  have entry : (r.eventsSent.withContacts c).spool.pwr.entry = 0 := noEntry
  refine ⟨c, ?_⟩
  rw [State.seamBack, recovered, lanReplay_of_none noEvents, reported,
    flushUsb_of_none frames, alarmDue_of_none alarm, entryResume_of_none entry]

/-- A successful attempt (spec/02 R42 to R44). -/
theorem seamRetrainDone_success {s : State} (us : Nat) (off : s.seamUp = false) (live : s.boltUp = true)
    (noTamper : s.on F.TMP_STATUS_PENDING = false) (noAlarm : s.spool.pwr.alarm = 0) (noEvents : s.spool.lan.queue = [])
    (noFrames : s.spool.usb.waiting = []) (noEntry : s.spool.pwr.entry = 0) (down : s.bolt.ctl.down = true)
    (kept : s.bolt.heldDropped = 0) (noRun : s.bolt.keys.run = none) :
    ∃ t : State, exec (.seamRetrainDone true us) s = .next t ∧ t.get F.SEAM_STATUS_UP = 1 ∧
      t.get F.SEAM_STATUS_SNAPSHOT_DONE = 0 ∧ t.bolt.ctl.snapLeft = 20 ∧
      t.get F.SEAM_LOST_WR_COUNT = min 16 s.bolt.ctl.wrSent.length ∧ t.bolt.ctl.wrSent = [] ∧ t.bolt.ctl.down = false ∧
      t.bolt.held = [] ∧ t.bolt.heldItems = [] ∧
      t.spool.nvsQueue = s.spool.nvsQueue ++ s.bolt.held ++ s.bolt.heldItems ++ [.log 1 0x11 0x1101 s.cycle
        (faultPayload (min us (2 ^ 32 - 1)) (min 16 s.bolt.ctl.wrSent.length) (t.get F.SEAM_LOST_WR_ADDR_ADDR))] := by
  have rest : (s.seamRecover us).untold =
      (s.reconnected.nvsAdded (s.bolt.held ++ s.bolt.heldItems ++ [s.downRecord us])).untold :=
    untold_seamRecover live noTamper down kept noRun us
  have regs {a : Nat} (key : a ≠ R.KEY_STATUS) (seam : a ≠ 0x41000008) (wrap : a ≠ R.CNT_WRAP) (cnt : a ≠ 0x40E00008) :
      (s.seamRecover us).rd a = s.reconnected.rd a := rd_seamRecover live noTamper down kept noRun us key seam wrap cnt
  generalize recovered : s.seamRecover us = r at rest regs
  obtain ⟨c, back⟩ := seamBack_of_idle recovered
    ((eq_of_untold (fun t => t.spool.lan.queue) rest :).trans noEvents)
    ((eq_of_untold (fun t => t.spool.usb.waiting) rest :).trans noFrames)
    ((eq_of_untold (fun t => t.spool.pwr.alarm) rest :).trans noAlarm)
    ((eq_of_untold (fun t => t.spool.pwr.entry) rest :).trans noEntry)
  have shown {a : Nat} (lan : a ≠ R.LAN_STATUS) (key : a ≠ R.KEY_STATUS) (seam : a ≠ 0x41000008) (wrap : a ≠ R.CNT_WRAP)
      (cnt : a ≠ 0x40E00008) : (s.seamBack us).rd a = s.reconnected.rd a := by
    rw [back]
    exact (rd_set_other (r.mapLan _) F.LAN_STATUS_QUEUED 0 lan.symm).trans (regs key seam wrap cnt)
  have ctl : (s.seamBack us).bolt.ctl = r.bolt.ctl := by rw [back]; rfl
  refine ⟨_, seamRetrainDone_succeeded off live us, ?up, ?snapshot, ?left, ?lost, ?written, ?notDown, ?held, ?items, ?queue⟩
  case up => rw [get_congr (shown (by decide) (by decide) (by decide) (by decide) (by decide)), reconnected_up]
  case snapshot => rw [get_congr (shown (by decide) (by decide) (by decide) (by decide) (by decide)), reconnected_snapshotDone]
  case lost => rw [get_congr (shown (by decide) (by decide) (by decide) (by decide) (by decide)), reconnected_lost]
  case left => rw [ctl]; exact eq_of_untold (fun t => t.bolt.ctl.snapLeft) rest
  case written => rw [ctl]; exact eq_of_untold (fun t => t.bolt.ctl.wrSent) rest
  case notDown => rw [ctl]; exact eq_of_untold (fun t => t.bolt.ctl.down) rest
  case held => rw [back]; exact eq_of_untold (fun t => t.bolt.held) rest
  case items => rw [back]; exact eq_of_untold (fun t => t.bolt.heldItems) rest
  case queue =>
    have added : (s.seamBack us).spool.nvsQueue =
        s.spool.nvsQueue ++ (s.bolt.held ++ s.bolt.heldItems ++ [s.downRecord us]) := by
      rw [back]; exact eq_of_untold (fun t => t.spool.nvsQueue) rest
    rw [get_congr (shown (by decide) (by decide) (by decide) (by decide) (by decide)), added, ← List.append_assoc,
      ← List.append_assoc]
    rfl

/-- Settles O10: acknowledgements, resends until the third failure, the seam taken down, attempts to retrain and the seam's return.  How
SEAM_RETRY_CNT counts a resend and that RETRAIN shows an automatic attempt are the model's choices (assumption logs 69, 70). -/
theorem failedFlitsAndSeamRecovery : Obligations.FailedFlitsAndSeamRecovery := by
  refine ⟨fun s d f up live => ⟨fun good => ackFlit_good up live good, fun x rest front => ⟨fun few => ?again, fun third => ?down⟩⟩,
    fun s d up live => ?timeout, fun s off live auto => seamRetrainTimer_sets off live auto,
    fun s who off acc => retrain_sets off acc, fun s us off live asked => ⟨seamRetrainDone_failed off live us,
      fun noTamper noAlarm noEvents noFrames noEntry down kept noRun =>
        seamRetrainDone_success us off live noTamper noAlarm noEvents noFrames noEntry down kept noRun⟩⟩
  case again => exact frontFlit_fails up live front (if_neg (by omega))
  case down => exact frontFlit_fails up live front (if_pos third)
  case timeout =>
    rw [seamRxTimeout_of_up live, State.seamDown, up]
    rfl

end Sys2Proof.Machine
end


section
/-! Key operations (spec/19 R404, R408 to R414, R425): what a start records, what the plans hold, how an operation ends.  The order of a
plan's checks is the model's (assumption log 16). -/

namespace Sys2Proof.Machine

/-! ### The start of an operation (spec/19 R411, R412) -/

/-- A command that starts a key operation, with its op. -/
def StartsKeyOp (w : Requester) (x : Nat × Instr) : Prop :=
  x ∈ [(1, .keyDerive w), (2, .keyGenerate w), (3, .keyAgree w), (4, .keySign w), (5, .keySeal w), (6, .keyUnseal w), (7, .keyPublic w),
    (8, .keyAttest w), (9, .keyErase w)]

/-- Each of them writes its op to KEY_OP_GO. -/
theorem exec_keyStart {w : Requester} {x : Nat × Instr} (starts : StartsKeyOp w x) (s : State) :
    exec x.2 s = .next (s.command w R.KEY_OP_GO (BitVec.ofNat 32 x.1) fun s => s.keyGo x.1) := by
  simp only [StartsKeyOp, List.mem_cons, List.not_mem_nil, or_false] at starts
  rcases starts with rfl | rfl | rfl | rfl | rfl | rfl | rfl | rfl | rfl <;> rfl

theorem exec_keyStart_of_accepts {w : Requester} {x : Nat × Instr} {s : State} (starts : StartsKeyOp w x)
    (acc : s.accepts w R.KEY_OP_GO) :
    exec x.2 s = .next (((s.written R.KEY_OP_GO (BitVec.ofNat 32 x.1)).keyGo x.1).answer w .done 0) := by
  rw [exec_keyStart starts, command_of_accepts acc]

theorem op_of_startsKeyOp {w : Requester} {x : Nat × Instr} (starts : StartsKeyOp w x) : 1 ≤ x.1 ∧ x.1 ≤ 9 := by
  simp only [StartsKeyOp, List.mem_cons, List.not_mem_nil, or_false] at starts
  rcases starts with rfl | rfl | rfl | rfl | rfl | rfl | rfl | rfl | rfl <;> simp

theorem keyCreates_iff {op : Nat} (low : 1 ≤ op) : (decide (op = 1) || decide (op = 2) || decide (op = 3)) = decide (op ≤ 3) := by
  rw [Bool.eq_iff_iff]
  simp only [Bool.or_eq_true, decide_eq_true_eq]
  omega

theorem keyLogged_iff {op : Nat} (low : 1 ≤ op) (high : op ≤ 9) : keyLogged op = true ↔ op ≤ 3 ∨ 8 ≤ op := by
  simp only [keyLogged, Bool.or_eq_true, decide_eq_true_eq]
  omega

theorem keyOpen_of_on {s : State} (isOn : s.isOn .key = true) (unlocked : s.on F.KEY_STATUS_LOCKED = false)
    (used : s.fuses.lifecycle ≠ 3) : s.keyOpen = true := by
  simp [State.keyOpen, isOn, unlocked, used]

section Start
variable {s : State} {op : Nat}

theorem keyGo_busy (busy : s.on F.KEY_OP_STATUS_BUSY = true) : s.keyGo op = s.set F.KEY_OP_STATUS_REASON 0x0E05 := by
  rw [State.keyGo, State.keyGoAs, if_pos busy]

variable (idle : s.on F.KEY_OP_STATUS_BUSY = false)
include idle

theorem keyGo_retired (retired : s.fuses.lifecycle = 3) :
    s.keyGo op = s.sets [(F.KEY_OP_STATUS_REASON, 0x0E06), (F.KEY_OP_STATUS_OP, op)] := by
  have closed : s.keyOpen = false := by simp [State.keyOpen, retired]
  rw [State.keyGo, State.keyGoAs, if_neg (ne_true_of_eq_false idle)]
  dsimp only
  rw [if_pos (by simp [closed])]

variable (isOn : s.isOn .key = true) (unlocked : s.on F.KEY_STATUS_LOCKED = false) (used : s.fuses.lifecycle ≠ 3)
  (up : s.seamUp = true)
include isOn unlocked used up

theorem keyGo_refused {c : Nat} (plan : s.planKey op = .error c) :
    s.keyGo op = s.sets [(F.KEY_OP_STATUS_REASON, 0x0E00 + c), (F.KEY_OP_STATUS_OP, op)] := by
  have opened : s.keyOpen = true := keyOpen_of_on isOn unlocked used
  rw [State.keyGo, plan, State.keyGoAs, if_neg (ne_true_of_eq_false idle)]
  simp only [opened, up]
  rfl

/-- A plan is recorded as the running operation, its progress where spec/19 R425 wants it. -/
theorem keyGo_begins {r : KeyRun} (low : 1 ≤ op) (high : op ≤ 9) (plan : s.planKey op = .ok r) :
    let made : State := if op ≤ 3 then s.setSlot r.slot { r.made with state := 1, key := [] } else s
    let begun : State := ({ made.used with bolt.keys.run := some r }).sets [(F.KEY_OP_STATUS_REASON, 0), (F.KEY_OP_STATUS_OP, op),
      (F.KEY_OP_STATUS_BUSY, 1)]
    s.keyGo op = if op ≤ 3 ∨ 8 ≤ op then begun.keyRecord op r.slot 1 0 r.made.parent r.made.mrsel 0 else begun := by
  have opened : s.keyOpen = true := keyOpen_of_on isOn unlocked used
  rw [State.keyGo, plan, State.keyGoAs, if_neg (ne_true_of_eq_false idle)]
  simp only [opened, up, keyCreates_iff low, decide_eq_true_eq, keyLogged_iff low high]
  rfl

end Start

/-! ### Plans (spec/19 R408, R410, R411) -/

section Plan
variable {s : State} (mine : bit s.bolt.pat.inForce.keySlots (s.get F.KEY_OP_CFG_SLOT) = true)
  (suits : usageOk (s.get F.KEY_OP_CFG_TYPE) (s.get F.KEY_OP_CFG_USAGE) = true)
  (notBusy : (s.slot (s.get F.KEY_OP_CFG_SLOT)).state ≠ 1) (notValid : (s.slot (s.get F.KEY_OP_CFG_SLOT)).state ≠ 2)
include mine suits notBusy notValid

/-- DERIVE from ROOT makes the KDF key of spec/19 R408. -/
theorem planKey_derive_root (reads : inSram (s.get F.KEY_OP_IN_ADDR) (s.get F.KEY_OP_LEN_LEN) = true)
    (root : s.get F.KEY_OP_CFG_PARENT = 64) (unlocked : s.on F.KEY_STATUS_BOOT_LOCK = false)
    (named : labelOk (memBytes s.bolt.sram (s.get F.KEY_OP_IN_ADDR - 0x10000000) (s.get F.KEY_OP_LEN_LEN)) = true) :
    let ty := s.get F.KEY_OP_CFG_TYPE
    let us := s.get F.KEY_OP_CFG_USAGE
    let ms := s.get F.KEY_OP_CFG_MRSEL
    s.planKey 1 = .ok (keyRunOf 1 (s.get F.KEY_OP_CFG_SLOT) ⟨2, ty, us, 64, ms,
      kdf s.fuses.root (memBytes s.bolt.sram (s.get F.KEY_OP_IN_ADDR - 0x10000000) (s.get F.KEY_OP_LEN_LEN))
        (s.keyContext ty us ms) (8 * keyBytes ty)⟩ [] (s.get F.KEY_OP_OUT_ADDR) 0) := by
  simp [State.planKey, mine, suits, notBusy, notValid, reads, root, unlocked, named]

/-- GENERATE takes a free value for its key. -/
theorem planKey_generate : s.planKey 2 = .ok (keyRunOf 2 (s.get F.KEY_OP_CFG_SLOT) ⟨2, s.get F.KEY_OP_CFG_TYPE,
    s.get F.KEY_OP_CFG_USAGE, 65, s.get F.KEY_OP_CFG_MRSEL, leBytes (keyBytes (s.get F.KEY_OP_CFG_TYPE)) s.fresh⟩ []
      (s.get F.KEY_OP_OUT_ADDR) 0) := by
  simp [State.planKey, mine, suits, notBusy, notValid]

end Plan

/-! ### The end of an operation (spec/19 R411 to R414; spec/02 R44) -/

section End
variable {s : State} {r : KeyRun}

/-- OP_DONE of a running op: it pauses at its record while the seam is down, and ends otherwise. -/
theorem opDone_running (live : s.boltUp = true) (running : s.bolt.keys.run = some r) : exec .opDone s =
    .next (if !s.seamUp && keyLogged r.op then { s with bolt.keys.run := some { r with paused := true } } else s.finishKey r) := by
  have row : exec .opDone s = execOpDone s := rfl
  rw [row, execOpDone, ifBolt_of_boltUp live, running]

theorem opDone_ends (live : s.boltUp = true) (running : s.bolt.keys.run = some r) (up : s.seamUp = true) :
    exec .opDone s = .next (s.finishKey r) := by
  rw [opDone_running live running, if_neg (by simp [up])]

variable (kept : r.abandoned = false)
include kept

theorem finishKey_erases (op : r.op = 9) : let l := (descendants s.bolt.keys.slots 64 [r.slot]).eraseDups
    s.finishKey r = (({ s with bolt.keys.run := none } : State).takeSlots l 0).endKey r [] 0 (slotMask l) := by
  simp [State.finishKey, kept, op]

variable (still : r.after = none)
include still

theorem finishKey_creates (op : r.op ≤ 3) : s.finishKey r = (s.setSlot r.slot r.made).endKey r [] 0 0 := by
  simp [State.finishKey, kept, still, op]

theorem finishKey_uses (low : 4 ≤ r.op) (high : r.op ≤ 7) : s.finishKey r = s.endKey r r.out r.reason 0 := by
  have notCreating : ¬ r.op ≤ 3 := by omega
  have notAttest : r.op ≠ 8 := by omega
  have notErase : r.op ≠ 9 := by omega
  simp [State.finishKey, kept, still, notCreating, notAttest, notErase]

theorem finishKey_attests (op : r.op = 8) (notRevoked : r.revoked = false) :
    let n := (s.get F.KEY_ATT_CNT_COUNTER + 1) % 2 ^ 32
    let counted : State := (s.set F.KEY_ATT_CNT_COUNTER n).boltNvs (.identity 0x20 (leBytes 4 n))
    s.finishKey r = counted.used.endKey r (counted.statement r.made.type r.made.usage r.slot r.made.parent r.made.mrsel
      (r.out.take 32) (if r.made.type < 2 then List.replicate 96 0 else ecPoint r.made.key)) 0 0 := by
  simp [State.finishKey, kept, still, op, notRevoked]

end End

/-- Settles O28: the starts of the nine operations, the plans of DERIVE and GENERATE, and the ends.  The order of a plan's checks is the
model's (assumption log 16). -/
theorem keyOperations : Obligations.KeyOperations := by
  refine ⟨fun s who acc x starts => ⟨fun busy => ?busy, fun r idle on unlocked used up plan => ?begins,
      fun c idle on unlocked used up plan => ?refused, fun idle retired => ?retired⟩,
    fun s mine suits notBusy notValid => ⟨planKey_derive_root mine suits notBusy notValid,
      planKey_generate mine suits notBusy notValid⟩,
    fun s r live running => ⟨fun off logged => ?paused, fun up kept still => ⟨fun op => ?creates, fun low high => ?uses,
      fun op notRevoked => ?attests, fun op => ?erases⟩⟩⟩
  case busy => rw [exec_keyStart_of_accepts starts acc, keyGo_busy busy]
  case begins =>
    obtain ⟨low, high⟩ := op_of_startsKeyOp starts
    rw [exec_keyStart_of_accepts starts acc, keyGo_begins idle on unlocked used up low high plan]
  case refused => rw [exec_keyStart_of_accepts starts acc, keyGo_refused idle on unlocked used up plan]
  case retired => rw [exec_keyStart_of_accepts starts acc, keyGo_retired idle retired]
  case paused => rw [opDone_running live running, if_pos (by simp [off, logged])]
  case creates => rw [opDone_ends live running up, finishKey_creates kept still op]
  case uses => rw [opDone_ends live running up, finishKey_uses kept still low high]
  case attests => rw [opDone_ends live running up, finishKey_attests kept still op notRevoked]
  case erases => rw [opDone_ends live running up, finishKey_erases kept op]

end Sys2Proof.Machine
end


section
/-! The pattern load (spec/03 R61 to R68): its start and its end by ENABLE, the pause for the seam, and what each of its steps does when
its work ends. -/

namespace Sys2Proof.Machine

/-! ### The start of a load and ENABLE written 0 (spec/03 R61, R66) -/

/-- The error registers as a start leaves them. -/
def State.patCleared (s : State) : State :=
  s.sets [(F.PAT_ERR_OFFSET_OFFSET, 0xFFFFFFFF), (F.PAT_UNIT_REASON_REASON, 0), (F.PAT_UNIT_REASON_DETAIL, 0xFFFF)]

theorem patStart_eq (s : State) : s.patStart = match s.patCleared.startRefused with
    | some c => s.patCleared.refuseUnit .pat (c % 256) (if c = 0x0205 then 0x0011 else 0xFFFF)
    | none => (s.patCleared.mapPat fun x => { x with
        active := true, image := [], sections := [], queued := [], abandon := false, opened := false, begun := false
        total := leAt (s.patCleared.sourceBytes 0 16) 8 4, digest := [], unowned := false }).sets
        [(F.PAT_STATUS_STATE, 1), (F.PAT_STATUS_STEP, 0), (F.PAT_STATUS_PAUSED, 0), (F.PAT_STATUS_STOPPING, 0)] := rfl

section Stop
variable {s : State} (running : s.bolt.pat.active = true)
include running

/-- Before step 5 begins ENABLE written 0 ends the load at once. -/
theorem patStop_early (closed : s.bolt.pat.opened = false) (notBegun : s.bolt.pat.begun = false)
    (early : s.get F.PAT_STATUS_STEP < 5) : s.patStop = ((s.patProgress 0xFF 0).endLoadEarly).releaseStand := by
  have before : ¬ 5 ≤ s.patStepNo := not_le.2 early
  simp [State.patStop, running, closed, notBegun, before]

/-- From step 5 on it ends at the next boundary. -/
theorem patStop_late (late : 5 ≤ s.get F.PAT_STATUS_STEP) :
    s.patStop = (s.mapPat fun x => { x with abandon := true }).set F.PAT_STATUS_STOPPING 1 := by
  have after : 5 ≤ s.patStepNo := late
  simp [State.patStop, running, after]

end Stop

section Ctrl
variable {s : State} {who : Requester} {v : Word} (acc : s.accepts who R.PAT_CTRL)
include acc

/-- PAT_LOAD_START with ENABLE 0: the write of PAT_CTRL starts a load. -/
theorem patLoadStart_starts (off : s.on F.PAT_CTRL_ENABLE = false)
    (on : (s.written R.PAT_CTRL (setBits v 0 1 1)).on F.PAT_CTRL_ENABLE = true) :
    exec (.patLoadStart who v) s = .next ((s.written R.PAT_CTRL (setBits v 0 1 1)).patStart.answer who .done 0) := by
  have row : exec (.patLoadStart who v) s = .next (s.patCtrl who (setBits v 0 1 1)) := rfl
  rw [row, State.patCtrl, command_of_accepts acc]
  simp [off, on]

/-- PAT_ABANDON with ENABLE 1: the write of PAT_CTRL ends the load. -/
theorem patAbandon_stops (on : s.on F.PAT_CTRL_ENABLE = true)
    (off : (s.written R.PAT_CTRL (setBits v 0 1 0)).on F.PAT_CTRL_ENABLE = false) :
    exec (.patAbandon who v) s = .next ((s.written R.PAT_CTRL (setBits v 0 1 0)).patStop.answer who .done 0) := by
  have row : exec (.patAbandon who v) s = .next (s.patCtrl who (setBits v 0 1 0)) := rfl
  rw [row, State.patCtrl, command_of_accepts acc]
  simp [off, on]

end Ctrl

/-! ### The pause for the seam (spec/03 R68) -/

theorem patResume_of_paused {s : State} (live : s.boltUp = true) (paused : s.on F.PAT_STATUS_PAUSED = true) (up : s.seamUp = true) :
    exec .patResume s = .next (s.set F.PAT_STATUS_PAUSED 0).landFlight := by
  have row : exec .patResume s = execPatResume s := rfl
  rw [row, execPatResume, ifBolt_of_boltUp live]
  simp [paused, up]

/-! ### Which step a completion is of -/

theorem exec_patStepComplete {s : State} (live : s.boltUp = true) (us : Nat) (bad : Bool) (landed : Option Nat) :
    exec (.patStepComplete us ⟨bad, landed⟩) s = .next (s.patNext us bad landed) := by
  have row : exec (.patStepComplete us ⟨bad, landed⟩) s = execPatStepComplete us ⟨bad, landed⟩ s := rfl
  rw [row, execPatStepComplete, ifBolt_of_boltUp live]

section Next
variable {s : State} {us : Nat} {bad : Bool} {landed : Option Nat} (running : s.bolt.pat.active = true)
include running

theorem patNext_abandoned (given : s.bolt.pat.abandon = true) (uncommitted : s.commitWritten = false) :
    s.patNext us bad landed = s.loadAbandoned := by
  simp [State.patNext, running, given, uncommitted]

variable (kept : s.bolt.pat.abandon = false) (going : s.on F.PAT_STATUS_PAUSED = false)
include kept going

theorem patNext_early (early : s.get F.PAT_STATUS_STEP < 4) : s.patNext us bad landed = s.patEarly bad := by
  have before : s.patStepNo < 4 := early
  simp only [State.patNext, running, kept, going, Bool.not_true, Bool.false_and, Bool.false_eq_true, if_false]
  split
  case h_5 => rfl
  all_goals omega

theorem patNext_applies (step : s.get F.PAT_STATUS_STEP = 4) : s.patNext us bad landed = s.patStep5 landed := by
  simp [State.patNext, running, kept, going, State.patStepNo, step]

theorem patNext_enables (step : s.get F.PAT_STATUS_STEP = 5) : s.patNext us bad landed = s.patStep6 := by
  simp [State.patNext, running, kept, going, State.patStepNo, step]

variable (written : s.warmWaits = false)
include written

theorem patNext_endsWarm (step : s.get F.PAT_STATUS_STEP = 6) : s.patNext us bad landed =
    if s.seamUp = false ∧ s.get F.PAT_CTRL_SRC ≠ 2 then s.set F.PAT_STATUS_PAUSED 1 else (s.toStep 7).issueCommit := by
  simp [State.patNext, running, kept, going, State.patStepNo, step, written, State.warmLoad]

theorem patNext_commits (step : s.get F.PAT_STATUS_STEP = 7) : s.patNext us bad landed = s.patStep8 us := by
  simp [State.patNext, running, kept, going, State.patStepNo, step, written]

end Next

/-! ### Steps 1 to 4 (spec/03 R63) -/

/-- A source that cannot be read refuses the load at steps 1 to 3. -/
theorem patEarly_unreadable {s : State} (early : s.get F.PAT_STATUS_STEP < 3) (device : s.get F.PAT_CTRL_SRC ≤ 1) :
    s.patEarly true = s.loadFails ⟨0x1E, 0xFFFF, 0xFFFFFFFF⟩ [] := by
  simp [State.patEarly, State.patStepNo, early, device]

theorem patEarly_source {s : State} (step : s.get F.PAT_STATUS_STEP = 0) : s.patEarly false = match s.readSource with
    | .error b => s.loadFails b []
    | .ok (img, l) => (s.mapPat fun x => { x with image := img, sections := l }).toStep 1 := by
  simp only [State.patEarly, State.patStepNo, step] <;> rfl

theorem patEarly_manifest {s : State} (step : s.get F.PAT_STATUS_STEP = 1) :
    s.patEarly false = match s.manifestBad s.bolt.pat.image with
    | some b => s.loadFails b []
    | none => (s.mapPat fun x => { x with
        digest := sha384 (s.bolt.pat.image.take (64 + 64 * s.bolt.pat.sections.length))
        unowned := s.ownerZero && decide (s.fuses.lifecycle ≤ 1) }).toStep 2 := by
  simp only [State.patEarly, State.patStepNo, step] <;> rfl

theorem patEarly_sections {s : State} (step : s.get F.PAT_STATUS_STEP = 2) (full : s.on F.PAT_CTRL_CHECK_ONLY = false) :
    s.patEarly false = match s.sectionsBad s.bolt.pat.image s.bolt.pat.sections true with
    | some b => s.loadFails b []
    | none => (s.mapPat fun x => { x with parsed := structureOf s.bolt.pat.image s.bolt.pat.sections }).toStep 3 := by
  simp only [State.patEarly, State.patStepNo, step, full] <;> rfl

theorem patEarly_measures {s : State} (step : s.get F.PAT_STATUS_STEP = 3) (bad : Bool) :
    s.patEarly bad = (s.extendMr 2 s.bolt.pat.digest).toStep 4 := by
  simp [State.patEarly, State.patStepNo, step]

/-! ### Step 5 (spec/03 R63, R64) -/

section Apply
variable {s : State} {landed : Option Nat}

/-- A node whose RNG is not ON announces no opening. -/
theorem patStep5_unjoined (notBegun : s.bolt.pat.begun = false) (closed : s.bolt.pat.opened = false) (apart : s.isOn .rng = false) :
    s.patStep5 landed = s.ledgerRecords.deliveryRecords.beginApply.applyOn landed := by
  simp [State.patStep5, notBegun, closed, apart]

/-- A joined node announces its opening first. -/
theorem patStep5_joined (notBegun : s.bolt.pat.begun = false) (closed : s.bolt.pat.opened = false) (joined : s.isOn .rng = true)
    (east : s.portUp 0 = true) (noOpening : s.bolt.rng.opening = none) :
    s.patStep5 landed = (s.startOpening 2).deliveryRecords.mapPat fun x => { x with opened := true } := by
  simp [State.patStep5, notBegun, closed, joined, east, noOpening]

theorem landFlight_of_none (noFlight : s.bolt.pat.flight = []) : s.landFlight = s := by
  unfold State.landFlight State.mapPat
  simp only [noFlight, List.foldl]
  rw [← noFlight]

/-- With every record written step 5 is completed. -/
theorem patStep5_written (begun : s.bolt.pat.begun = true) (noFlight : s.bolt.pat.flight = []) (noTodo : s.bolt.pat.todo = []) :
    s.patStep5 landed = ((((s.mapPat fun x => { x with todo := [] }).set HUnit.key.enable (b2n s.bolt.pat.keyEnable)).refreshBook
      (List.range 12)).toStep 5) := by
  have landedAll : (if s.seamUp then s.landFlight else s) = s := by rw [landFlight_of_none noFlight, ite_self]
  simp [State.patStep5, begun, State.applyOn, landedAll, noTodo, State.writeRecords]

end Apply

/-! ### Step 6 (spec/03 R63) -/

/-- With every request carried out and none refused the warm image is issued. -/
theorem patStep6_enabled {s t : State} (up : t.seamUp = true)
    (carried : s.enableAll ((s.bolt.pat.queued.filter fun y => !isSpool y.2.ctrl) ++ s.bolt.pat.queued.filter fun y => isSpool y.2.ctrl) =
      (t, [], none)) : s.patStep6 = (t.toStep 6).issueWarm := by
  simp [State.patStep6, carried, up]

/-- Settles O30: the writes of PAT_CTRL, PAT_RESUME, and the completion of each step.  That a node is joined where RNG is ON and a trunk
UP, and that KEY's ENABLE comes back as it was at the end of step 5, are the model's choices (assumption logs 74, 39). -/
theorem patternLoadSteps : Obligations.PatternLoadSteps := by
  refine ⟨fun s who v acc => ⟨fun off on => ⟨fun (good : (State.patCleared _).startRefused = none) => ?begins,
        fun c (refused : (State.patCleared _).startRefused = some c) => ?refused⟩,
      fun on off active => ⟨fun closed notBegun early => ?ends, fun late => ?stopping⟩⟩,
    fun s live paused up => patResume_of_paused live paused up,
    fun s us bad landed live active => ?steps⟩
  case begins => rw [patLoadStart_starts acc off on, patStart_eq, good]; rfl
  case refused => rw [patLoadStart_starts acc off on, patStart_eq, refused]; rfl
  case ends => rw [patAbandon_stops acc on off, patStop_early active closed notBegun early]
  case stopping => rw [patAbandon_stops acc on off, patStop_late active late]; rfl
  case steps =>
    simp only [exec_patStepComplete live]
    refine ⟨fun given uncommitted => ?abandoned, fun kept going => ⟨fun early device => ?unreadable, fun step => ?source,
      fun step => ?manifest, fun step full => ?sections, fun step => ?measured, fun step notBegun closed apart => ?unjoined,
      fun step notBegun closed joined east noOpening => ?opening, fun step begun noFlight noTodo => ?applied,
      fun t step carried up => ?enabled, fun step written up => ?warm, fun step written down device => ?paused,
      fun step written => ?committed⟩⟩
    case abandoned => rw [patNext_abandoned active given uncommitted]
    case unreadable => rw [patNext_early active kept going (by omega), patEarly_unreadable early device]
    case source => rw [patNext_early active kept going (by omega), patEarly_source step]; rfl
    case manifest => rw [patNext_early active kept going (by omega), patEarly_manifest step]; rfl
    case sections => rw [patNext_early active kept going (by omega), patEarly_sections step full]; rfl
    case measured => rw [patNext_early active kept going (by omega), patEarly_measures step]
    case unjoined => rw [patNext_applies active kept going step, patStep5_unjoined notBegun closed apart]
    case opening => rw [patNext_applies active kept going step, patStep5_joined notBegun closed joined east noOpening]; rfl
    case applied => rw [patNext_applies active kept going step, patStep5_written begun noFlight noTodo]; rfl
    case enabled => rw [patNext_enables active kept going step, patStep6_enabled up carried]
    case warm => rw [patNext_endsWarm active kept going written step, if_neg (by simp [up])]
    case paused => rw [patNext_endsWarm active kept going written step, if_pos ⟨down, device⟩]
    case committed => rw [patNext_commits active kept going written step]

end Sys2Proof.Machine
end


section
/-! The start of a cycle (spec/04 R81, R82, R89): the order of the work inside one boundary and the free levels of the peripheral
sources are the model's choices (assumption logs 28, 66). -/

namespace Sys2Proof.Machine

theorem exec_cycleBoundary {s : State} (live : s.boltUp = true) :
    exec .cycleBoundary s = .next (if s.isOn .clk then s.beginCycle else s).peripheralLevels :=
  congrArg _ (ifBolt_of_boltUp live _)

/-- Settles O32: with CLK ON the boundary does the work of the cycle, with CLK not ON it frees the peripheral levels alone. -/
theorem cycleBegins : Obligations.CycleBegins := by
  refine ⟨fun s live on => ?begins, fun s live off => ?idles⟩
  case begins => rw [exec_cycleBoundary live, if_pos on]; rfl
  case idles => rw [exec_cycleBoundary live, if_neg (by simp [off])]

end Sys2Proof.Machine
end


section
/-! VDD_AON and the clocks (spec/18 R386; spec/20 R440, R442, R443; spec/22 R469; spec/23 R478; spec/04 R95, R96): the hub at power-on
and at brown-out, the loss of a clock and the return of REFCLK. -/

namespace Sys2Proof.Machine

theorem ifAon_of_aon {s : State} (aon : s.spool.aon = true) (f : State → State) : s.ifAon f = f s := if_pos aon

/-! ### VDD_AON comes and goes -/

/-- The spool die out of reset, with NVS kept (spec/18 R386). -/
def State.aonFresh (s : State) (straps : BitVec 4) : State :=
  { s with regs := [], bolt := Bolt.reset, spool := { Spool.reset with nvs := s.spool.nvs, aon := true, straps := straps.toNat } }

theorem powerOn_off {s : State} (off : s.spool.aon = false) (straps : BitVec 4) : exec (.powerOn straps) s =
    .next ((((s.aonFresh straps).scanNvs.applyBootRecord.set (F.PGT_GATE_STATUS_STATE 0) 2).setBoltReq true).startGate 0) :=
  congrArg _ (if_neg (by simp [off]))

theorem powerOn_running {s : State} (aon : s.spool.aon = true) (straps : BitVec 4) : exec (.powerOn straps) s = .next s :=
  congrArg _ (if_pos aon)

/-- NVS with the words of the write in progress; no other write starts (spec/20 R440). -/
def State.nvsLanded (s : State) (words : Nat) : State :=
  match s.spool.nvsQueue.head? with
  | some op => s.nvsWrite (s.nvsPlan op).1 ((s.nvsPlan op).2.take (4 * words))
  | none => s

theorem nvsLanded_flash (s : State) (words : Nat) : (s.nvsLanded words).flash = s.flash := by
  unfold State.nvsLanded
  split <;> rfl

theorem nvsLanded_fuses (s : State) (words : Nat) : (s.nvsLanded words).fuses = s.fuses := by
  unfold State.nvsLanded
  split <;> rfl

theorem nvsLanded_of_idle {s : State} (idle : s.spool.nvsQueue = []) (words : Nat) : s.nvsLanded words = s := by
  simp [State.nvsLanded, idle]

/-- BROWN_OUT leaves the state before power-on, with NVS as the write in progress left it (spec/23 R478). -/
theorem brownOut_running {s : State} (aon : s.spool.aon = true) (words : Nat) : exec (.brownOut words) s =
    .next { s.nvsLanded words with
      regs := [], bolt := Bolt.reset, spool := { Spool.reset with nvs := (s.nvsLanded words).spool.nvs } } :=
  congrArg _ (if_neg (by simp [aon]))

/-! ### A clock is lost -/

/-- The spool die once a clock is lost: the fault record, the backup oscillator (spec/04 R95). -/
def State.onBackup (s : State) (code : Nat) : State :=
  { (s.spoolRecord 1 0x23 code 0 0 0).sets [(F.PGT_STATUS_BACKUP_CLK, 1), (F.LAN_STATUS_BACKUP_CLK, 1)] with
    spool := { (s.spoolRecord 1 0x23 code 0 0 0).spool with backupClk := true, refclk := false } }

theorem clockLost_eq (s : State) (code cause : Nat) : s.clockLost code cause =
    if (s.onBackup code).boltPowered then
      (({ s.onBackup code with spool.boltHeld := true } : State).boltReset).irq bClk cause
    else s.onBackup code := rfl

/-- A row that tells the loss of a clock, where it acts, with its fault code and its interrupt (spec/04 R95). -/
def TellsClockLoss (s : State) (code cause : Nat) (c : Instr) : Prop :=
  (c = .refclkLost ∧ s.spool.aon = true ∧ s.spool.refclk = true ∧ code = 0x0301 ∧ cause = 5) ∨
    (c = .pllUnlock ∧ s.boltUp = true ∧ code = 0x0302 ∧ cause = 6)

theorem exec_clockLoss {s : State} {code cause : Nat} {c : Instr} (tells : TellsClockLoss s code cause c) :
    exec c s = .next (s.clockLost code cause) := by
  obtain ⟨rfl, aon, present, rfl, rfl⟩ | ⟨rfl, live, rfl, rfl⟩ := tells
  · exact congrArg _ ((ifAon_of_aon aon _).trans (if_pos present))
  · exact congrArg _ (ifBolt_of_boltUp live _)

/-! ### REFCLK returns -/

/-- The spool die back on REFCLK (spec/04 R96). -/
def State.onRefclk (s : State) : State :=
  { s.sets [(F.PGT_STATUS_BACKUP_CLK, 0), (F.LAN_STATUS_BACKUP_CLK, 0)] with
    spool := { s.spool with backupClk := false, refclk := true } }

/-- The bolt die released from the reset that a clock loss holds it in. -/
def State.released (s : State) : State := ({ s.onRefclk with spool.boltHeld := false } : State).set F.CLK_STATUS_REFCLK_OK 1

theorem released_boltPowered (s : State) : s.released.boltPowered = s.onRefclk.boltPowered :=
  on_congr (f := F.PGT_STATUS_PG0_GOOD) (rd_set_other { s.onRefclk with spool.boltHeld := false } F.CLK_STATUS_REFCLK_OK 1 (by decide))

section Return
variable {s : State} (aon : s.spool.aon = true) (lost : s.spool.refclk = false)
include aon lost

theorem exec_refclkReturn : exec .refclkReturn s = .next (
    if s.spool.boltHeld then
      if s.spool.pwr.waking || !s.released.boltPowered then
        s.released.mapPwr fun x => { x with go := false, warm := false, cold := false }
      else s.released.wakeBegins 3
    else if s.spool.pwr.want && !s.spool.pwr.hold then s.onRefclk.requestBolt
    else s.onRefclk) := by
  have row : exec .refclkReturn s = execRefclkReturn s := rfl
  rw [row, execRefclkReturn, ifAon_of_aon aon, if_neg (by simp [lost])]
  rfl

/-- A bolt die held in reset starts as at a wake, with WAKE_CAUSE 3 (spec/18 R392). -/
theorem refclkReturn_held (held : s.spool.boltHeld = true) (still : s.spool.pwr.waking = false)
    (powered : s.onRefclk.boltPowered = true) : exec .refclkReturn s = .next (s.released.wakeBegins 3) := by
  have powered : s.released.boltPowered = true := (released_boltPowered s).trans powered
  rw [exec_refclkReturn aon lost, if_pos held, if_neg (by simp [still, powered])]

theorem refclkReturn_free (free : s.spool.boltHeld = false) (unwanted : s.spool.pwr.want = false) :
    exec .refclkReturn s = .next s.onRefclk := by
  rw [exec_refclkReturn aon lost, if_neg (by simp [free]), if_neg (by simp [unwanted])]

end Return

/-- Settles O46: VDD_AON's two rows, the loss of a clock by either of its rows, and REFCLK's return (that PLL unlock is treated as a
loss of REFCLK is assumption log 41). -/
theorem powerOnAndClockLoss : Obligations.PowerOnAndClockLoss := by
  refine ⟨fun s straps off => powerOn_off off straps, fun s straps aon => powerOn_running aon straps,
    fun s words aon => ⟨_, brownOut_running aon words, rfl, rfl, rfl, nvsLanded_flash s words, nvsLanded_fuses s words, fun idle => ?kept⟩,
    fun s code cause c tells => ⟨fun powered => ?reset, fun unpowered => ?stands⟩,
    fun s aon lost => ⟨refclkReturn_held aon lost, refclkReturn_free aon lost⟩⟩
  case kept => rw [nvsLanded_of_idle idle]
  case reset => rw [exec_clockLoss tells, clockLost_eq]; exact congrArg _ (if_pos powered)
  case stands => rw [exec_clockLoss tells, clockLost_eq]; exact congrArg _ (if_neg (Bool.eq_false_iff.1 unpowered))

end Sys2Proof.Machine
end


section
/-! Frames of the passive rows of the ring, the plan, the switch and the clock (spec/04 R85, R91; spec/07 R174, R185; spec/09 R220, R222;
spec/10 R235, R236, R239, R242, R243, R246, R248, R250, R252): each is put together from those of the operations it is made of. -/

namespace Sys2Proof.Machine

variable {B : List Nat} {a s : State}

/-- What a row does with the first copy of a frame alone (spec/10 R236). -/
theorem Within.onFirst (h : Within B a s) (f : Frame) {act : State → State} (k : ∀ t, Within B a t → Within B a (act t)) :
    Within B a (s.onFirst f act) := by
  unfold State.onFirst
  split
  · exact h.ite (k _ h.upd)
  · exact k _ h.upd

/-- A register of the first named block. -/
theorem baseOf_head {base x : Nat} (low : base ≤ x := by decide) (high : x < base + 0x100000 := by decide)
    (whole : base % 0x100000 = 0 := by decide) : baseOf x ∈ [base, 0x40E00000] := baseOf_mem (by simp) low high whole

/-- An interrupt of a block that is named beside CNT. -/
theorem Within.blockIrq {base : Nat} (h : Within [base, 0x40E00000] a s) (i : Nat) (whole : base % 0x100000 = 0 := by decide) :
    Within [base, 0x40E00000] a (s.irq base i) :=
  h.irq i (baseOf_head (by omega) (by omega) whole) (by simp)

/-! ### The ring (spec/10) -/

section Ring
variable (h : Within [bRng, 0x40E00000] a s)
include h

/-- The neighbour that an ANNOUNCE with HOPS 0 shows on its trunk. -/
theorem Within.neighbourShown (p n : Nat) :
    Within [bRng, 0x40E00000] a (s.set (if p = 0 then F.RNG_NEIGH_EAST else F.RNG_NEIGH_WEST) n) :=
  h.set n (by split <;> exact baseOf_head)

theorem Within.announce (p : Nat) (f : Frame) : Within [bRng, 0x40E00000] a (s.announce p f) := by
  have hops {t : State} (k : Within [bRng, 0x40E00000] a t) (he hw : List (Nat × Nat)) : Within [bRng, 0x40E00000] a
      (if t.get F.RNG_STATUS_RING ≠ 1 then t
        else if p = 0 then { t with bolt.rng.he := he } else { t with bolt.rng.hw := hw }) := k.ite (.ite k.upd k.upd)
  have census {t : State} (k : Within [bRng, 0x40E00000] a t) (n uid : Nat) : Within [bRng, 0x40E00000] a (t.censusPut n uid) := k.upd
  unfold State.announce
  dsimp -iota only
  refine h.ite (.ite ?known (census ?known _ _))
  case known => exact hops (h.ite (h.neighbourShown p _).upd) _ _

end Ring

section RingRows
variable (s : State)

theorem announceRx_within (p : Fin 2) (f : Frame) : WithinStep [bRng, 0x40E00000] s (exec (.announceRx p f) s) :=
  Within.ifBolt (Within.announce (.refl _ s) p.val f)

theorem healRx_within (f : Frame) : WithinStep [bRng, 0x40E00000] s (exec (.healRx f) s) :=
  Within.ifBolt (.ite (Within.onFirst (.refl _ s) f fun _ k => k.upd) (.refl _ s))

theorem forgetRx_within (f : Frame) : WithinStep [bRng, 0x40E00000] s (exec (.forgetRx f) s) :=
  Within.ifBolt (.ite (Within.onFirst (.refl _ s) f fun _ k => k.upd) (.refl _ s))

theorem msgRx_within (f : Frame) : WithinStep [bRng, 0x40E00000] s (exec (.msgRx f) s) :=
  Within.ifBolt (.ite (.refl _ s) (Within.onFirst (.refl _ s) f fun _ k =>
    .ite (k.sat _ baseOf_head) (Within.blockIrq k.upd 9)))

theorem edgeExpire_within : WithinStep [bRng, 0x40E00000] s (exec .edgeExpire s) :=
  Within.ifBolt (.ite (.refl _ s) (Within.blockIrq (Within.upd (.refl _ s)) 2))

theorem rollcallEnd_within : WithinStep [bRng, 0x40E00000] s (exec .rollcallEnd s) := by
  refine Within.ifBolt ?_
  split
  · exact .ite (Within.blockIrq (Within.upd (.refl _ s)) 5) (.refl _ s)
  · exact .refl _ s

theorem claimWaitExpiry_within : WithinStep [bRng, 0x40E00000] s (exec .claimWaitExpiry s) := by
  refine Within.ifBolt ?_
  split
  · exact .ite (Within.upd (.refl _ s)) (.refl _ s)
  · exact .refl _ s

theorem buddySingle_within (i : Fin 1024) : WithinStep [bRng, 0x40E00000] s (exec (.buddySingle i) s) :=
  Within.ifBolt (.ite (Within.blockIrq (Within.upd (.refl _ s)) 11) (.refl _ s))

end RingRows

/-! ### The plan (spec/09) -/

section Plan
variable (h : Within [bAlt, 0x40E00000] a s)
include h

/-- A node's bit in one of the eight registers of a map of nodes. -/
theorem Within.markNode {f : Nat → Fld} (mine : ∀ k < 8, baseOf (f k).reg ∈ [bAlt, 0x40E00000]) (node : Nat) (v : Bool) :
    Within [bAlt, 0x40E00000] a (s.markNode f node v) := by
  unfold State.markNode
  split
  · exact h
  · exact h.set _ (mine _ (by omega))

theorem Within.noteReady (arg node plan : Nat) (result : Nat × Nat) :
    Within [bAlt, 0x40E00000] a (s.noteReady arg node plan result) := by
  have marked := h.markNode (f := F.ALT_READY_NODES) (fun _ range => baseOf_array (base := bAlt) (by simp) range) node (arg = 0)
  unfold State.noteReady
  dsimp -iota only
  refine (h.sat _ baseOf_head).ite (.ite (Within.blockIrq ?noted 2) ?noted)
  case noted => exact Within.blockIrq marked.upd 1

theorem Within.noteReport (result node plan : Nat) : Within [bAlt, 0x40E00000] a (s.noteReport result node plan) := by
  have acknowledged := h.markNode (f := F.ALT_ACK_NODES) (fun _ range => baseOf_array (base := bAlt) (by simp) range) node true
  have late := h.markNode (f := F.ALT_LATE_NODES) (fun _ range => baseOf_array (base := bAlt) (by simp) range) node true
  exact (h.sat _ baseOf_head).ite ((acknowledged.blockIrq 1).ite (.ite ((late.blockIrq 1).blockIrq 5) (late.blockIrq 1)))

end Plan

theorem readyRx_within (s : State) (f : Frame) : WithinStep [bAlt, 0x40E00000] s (exec (.readyRx f) s) :=
  Within.ifBolt (.ite (.refl _ s) (Within.onFirst (.refl _ s) f fun _ k => k.noteReady _ _ _ _))

theorem reportRx_within (s : State) (f : Frame) : WithinStep [bAlt, 0x40E00000] s (exec (.reportRx f) s) :=
  Within.ifBolt (.ite (.refl _ s) (Within.onFirst (.refl _ s) f fun _ k => k.noteReport _ _ _))

/-! ### The switch (spec/07) and the clock (spec/04) -/

section SwitchAndClock
variable (s : State)

theorem creditStall_within (p k : Fin 8) : WithinStep [bSwb, 0x40E00000] s (exec (.creditStall p k) s) := by
  refine Within.ifBolt ?_
  split
  · exact .refl _ s
  · exact .ite (Within.blockIrq (Within.upd (.refl _ s)) 7) (.refl _ s)

theorem drainDone_within (i : Fin 1024) : WithinStep [bSwb, 0x40E00000] s (exec (.drainDone i) s) := by
  refine Within.ifBolt ?_
  split
  · exact Within.blockIrq (Within.upd (.refl _ s)) 5
  · exact .refl _ s

theorem holdoverLong_within : WithinStep [bClk, 0x40E00000] s (exec .holdoverLong s) :=
  Within.ifBolt (.ite (Within.set (.refl _ s) 1 baseOf_head) (.refl _ s))

theorem ppsLost_within (t : BitVec 72) : WithinStep [bClk, 0x40E00000] s (exec (.ppsLost t) s) :=
  Within.ifBolt (.ite (Within.blockIrq (Within.set (Within.upd (.refl _ s)) _ baseOf_head) 3) (.refl _ s))

end SwitchAndClock

/-- Settles O58: every row keeps to its block, each by its own frame. -/
theorem ringAndPlanRowsKeepToTheirBlock : Obligations.RingAndPlanRowsKeepToTheirBlock := by
  refine fun s c => ⟨fun ring => ?_, fun plan => ?_, fun switch => ?_, fun clock => ?_⟩
  · obtain ⟨p, f, rfl⟩ | ⟨f, rfl⟩ | ⟨f, rfl⟩ | ⟨f, rfl⟩ | rfl | rfl | rfl | ⟨i, rfl⟩ := ring
    · exact announceRx_within s p f
    · exact healRx_within s f
    · exact forgetRx_within s f
    · exact msgRx_within s f
    · exact edgeExpire_within s
    · exact rollcallEnd_within s
    · exact claimWaitExpiry_within s
    · exact buddySingle_within s i
  · obtain ⟨f, rfl⟩ | ⟨f, rfl⟩ := plan
    · exact readyRx_within s f
    · exact reportRx_within s f
  · obtain ⟨p, k, rfl⟩ | ⟨i, rfl⟩ := switch
    · exact creditStall_within s p k
    · exact drainDone_within s i
  · obtain rfl | ⟨t, rfl⟩ := clock
    · exact holdoverLong_within s
    · exact ppsLost_within s t

end Sys2Proof.Machine
end


section
/-! ROOT_PLL_LOCK (spec/04 R79, R95, R96): what it leaves of CLK_STATUS.REFCLK_OK, and a run in which REFCLK is lost before the bolt die
has power and returns before the root PLL locks. -/

namespace Sys2Proof.Machine

/-- ROOT_PLL_LOCK sets PLL_LOCK and leaves REFCLK_OK as it finds it. -/
theorem refclkOk_rootPllLock {s t : State} (row : exec .rootPllLock s = .next t) :
    t.get F.CLK_STATUS_REFCLK_OK = s.get F.CLK_STATUS_REFCLK_OK := by
  have beside : (s.set F.CLK_STATUS_PLL_LOCK 1).get F.CLK_STATUS_REFCLK_OK = s.get F.CLK_STATUS_REFCLK_OK :=
    get_set_other _ _ _ _ (by decide)
  obtain rfl := Host.Outcome.next.inj row
  split
  · dsimp only
    split <;> exact beside
  · rfl

/-- The state after a command; one that ends in no next state leaves it. -/
def State.after (s : State) (c : Instr) : State :=
  match exec c s with
  | .next t => t
  | _ => s

/-- From the state before VDD_AON: power-on with TEST_N high, REFCLK lost, PG0 started to its power-good, REFCLK returned. -/
noncomputable def lateRefclk : State :=
  [.powerOn 8, .refclkLost, .inputWindow 0 48000, .insertDone ⟨0, 3000⟩, .rampDone 0 48000 100, .refclkReturn].foldl
    State.after State.reset

/-- The bolt die has power and REFCLK is present, but REFCLK_OK is still 0: PG0_GOOD rose without REFCLK, and REFCLK_RETURN sets the
bit only for a bolt die that a clock loss holds in reset. -/
theorem lateRefclk_waitsForLock : lateRefclk.boltPowered = true ∧ lateRefclk.spool.boltHeld = false ∧ lateRefclk.spool.refclk = true ∧
    lateRefclk.bolt.running = false ∧ lateRefclk.bolt.testN = true ∧ lateRefclk.get F.CLK_STATUS_REFCLK_OK = 0 := by
  unfold lateRefclk
  decide +kernel

/-- Refutes O14: after ROOT_PLL_LOCK REFCLK_OK need not be 1, as it is 0 in `lateRefclk` and the row leaves it. -/
theorem not_ringTimeFollowsAndFallsBack : ¬ Obligations.RingTimeFollowsAndFallsBack := by
  rintro ⟨-, -, -, -, -, -, locks, -⟩
  obtain ⟨powered, free, present, waiting, testN, notOk⟩ := lateRefclk_waitsForLock
  obtain ⟨t, row, -, -, -, ok, -⟩ := locks lateRefclk powered free present waiting testN
  rw [refclkOk_rootPllLock row, notOk] at ok
  exact absurd ok (by decide)

end Sys2Proof.Machine
end


section
/-! Loss of lock at the eighth bad CHK (spec/05 R113, R115) for a number that is no lane's: the statement speaks of every number, and
the address that LANE_STATUS has for lane 8,152 is that of a register of the switch (spec/07 R169), which the end of the arriving frame
changes behind the cleared BLOCK_LOCK. -/

namespace Sys2Proof.Machine

/-- The address of one register under two names. -/
theorem laneStatus_eq_landHeld : R.LANE_STATUS 8152 = R.SWB_LAND_HELD 0 := rfl

/-- A frame of four cells in the buffer, charged to landing reserve 0, with one copy queued. -/
def landedFrame : Stored where
  frame := ⟨⟨0, 0, 0, 0, 0, 0, 0, false, false, false, false, 0, false, false, 0⟩, []⟩
  entry := 0
  gen := 0
  cells := [0, 1, 2, 3]
  domain := .landing 0 0
  cycle := 0
  atPs := 0
  ingress := 0
  complete := false
  got := 1
  need := 4
  copies := [⟨0, 0, .queued, false, 0, 0, false⟩]
  residue := none
  poisoned := false
  shaped := none
  held := false

/-- Its arrival, still under way. -/
def landingIngress : Ingress where
  hdr := landedFrame.frame.hdr
  need := 4
  got := 1
  data := []
  errored := false
  store := some 0
  waiting := false
  iv := []
  rxCls := 0
  owed := 0

/-- Landing reserve 0 holds 12 cells (binary 1100, so that bit 2, BLOCK_LOCK of "lane" 8,152, is 1); every lane has had 7 bad CHKs,
and on every port that frame is arriving. -/
def strayLane : State :=
  { State.reset.set (F.SWB_LAND_HELD_CELLS 0) 12 with
    bolt.lanes := List.replicate 8153 { LaneSt.reset with rxBad := 7 }
    bolt.ports := List.replicate 4075 { PortSt.reset with ing := some landingIngress }
    bolt.swb.frames := [(0, landedFrame)] }

theorem strayLane_beforeEighth :
    stOk ⟨0, 0⟩ = false ∧ strayLane.lockLost 8152 = false ∧ (strayLane.lane 8152).rxBad = 7 := by
  decide +kernel

/-- The lost lock leaves 1000 in the register; the discarded frame gives its four cells back, which makes it 0100, so bit 2 is 1 again. -/
theorem strayLane_keepsLock : (strayLane.lineRx 8152 ⟨0, 0⟩).lockLost 8152 = false := by
  decide +kernel

/-- Refutes O16: a lane number is not bounded where the statement says that the eighth consecutive bad CHK loses lock, and for 8,152 it
does not. -/
theorem not_stitchesAreReceived : ¬ Obligations.StitchesAreReceived := by
  rintro ⟨-, -, -, stitches, -⟩
  obtain ⟨loses, -⟩ := stitches strayLane 8152 ⟨0, 0⟩
  obtain ⟨bad, locked, seven⟩ := strayLane_beforeEighth
  have lost := loses bad locked seven
  rw [strayLane_keepsLock] at lost
  exact absurd lost (by decide)

end Sys2Proof.Machine
end


section
/-! Frames of the lane rows (spec/05 R104, R105, R117, R118, R123, R126, R128, R129): what a bring-up event of a port unit leaves of
the other port units, and what the rows of equalisers, PRBS checkers and module managers leave of the rest. -/

namespace Sys2Proof.Machine

/-! ### What a port unit's bring-up changes -/

/-- A register of LANE that is not the PORT_STATUS of a port unit other than `p`. -/
structure OwnReg (p x : Nat) : Prop where
  lane : baseOf x ∈ [bLane]
  apart : ∀ q : Fin 8, q.val ≠ p → x ≠ R.LANE_PORT_STATUS q

/-- From `a` to `b` nothing changed but registers of LANE and what the lanes and the port unit `p` hold; of the registers, no
PORT_STATUS of another port unit. -/
structure KeepsToPort (p : Nat) (a b : State) : Prop where
  within : Within [bLane] a b
  status : ∀ q : Fin 8, q.val ≠ p → b.rd (R.LANE_PORT_STATUS q) = a.rd (R.LANE_PORT_STATUS q)
  port : ∀ q : Fin 8, q.val ≠ p → b.port q = a.port q

/-- A register in the port unit's own 64 bytes. -/
theorem ownReg_port (p : Fin 8) {k : Nat} (inside : k < 0x40 := by decide) : OwnReg p (0x40301000 + k + 0x40 * p) := by
  refine ⟨baseOf_mem (base := 0x40300000) (by simp) (by omega) (by omega) rfl, fun q other => ?_⟩
  unfold R.LANE_PORT_STATUS
  omega

/-- A register of a lane. -/
theorem ownReg_lane (p : Nat) {l k : Nat} (range : l < 20) (inside : k < 0x100 := by decide) :
    OwnReg p (0x40304000 + k + 0x100 * l) := by
  refine ⟨baseOf_mem (base := 0x40300000) (by simp) (by omega) (by omega) rfl, fun q _ => ?_⟩
  unfold R.LANE_PORT_STATUS
  omega

/-- A live tap register of a lane. -/
theorem ownReg_tap (p : Nat) {l k : Nat} (range : l < 20) (tap : k < 4) : OwnReg p (R.LANE_DFE_TAP l k) := by
  have own := ownReg_lane p range (k := 0x10 + 4 * k) (by omega)
  rwa [show 0x40304000 + (0x10 + 4 * k) + 0x100 * l = R.LANE_DFE_TAP l k by unfold R.LANE_DFE_TAP; omega] at own

theorem portLanes_range : ∀ p : Fin 8, ∀ l ∈ portLanes p, l < 20 := by decide

namespace KeepsToPort

section Operations
variable {p : Nat} {a s : State}

theorem refl (p : Nat) (s : State) : KeepsToPort p s s := ⟨.refl _ s, fun _ _ => rfl, fun _ _ => rfl⟩

theorem ite {c : Prop} [Decidable c] {t : State} (h : KeepsToPort p a s) (k : KeepsToPort p a t) :
    KeepsToPort p a (if c then s else t) := by
  split <;> assumption

variable (h : KeepsToPort p a s)
include h

theorem wr {x : Nat} (w : Word) (own : OwnReg p x) : KeepsToPort p a (s.wr x w) :=
  ⟨h.within.wr w own.lane, fun q other => (rd_wr_other s (own.apart q other) w).trans (h.status q other), h.port⟩

theorem set {f : Fld} (v : Nat) (own : OwnReg p f.reg) : KeepsToPort p a (s.set f v) := h.wr _ own

theorem setLane (l : Nat) (x : LaneSt) : KeepsToPort p a (s.setLane l x) := ⟨h.within.upd, h.status, h.port⟩

theorem setPort (x : PortSt) : KeepsToPort p a (s.setPort p x) :=
  ⟨h.within.upd, h.status, fun q other => (getD_setAt_other _ _ _ (Ne.symm other)).trans (h.port q other)⟩

theorem each {α : Type} (l : List α) (f : α → State → State)
    (step : ∀ x ∈ l, ∀ t, KeepsToPort p a t → KeepsToPort p a (f x t)) : KeepsToPort p a (s.each l f) := by
  unfold State.each
  induction l generalizing s with
  | nil => exact h
  | cons x l ih =>
    exact ih (step x (List.mem_cons_self ..) _ h) fun y i => step y (List.mem_cons_of_mem _ i)

end Operations

/-! ### The operations of bring-up (spec/05 R117, R120) -/

section Bring
variable {p : Fin 8} {a s : State} (h : KeepsToPort p a s)
include h

theorem setBring (v : Nat) : KeepsToPort p a (s.setBring p v) := h.set _ (ownReg_port p (k := 4))

/-- A field of LANEn_STATUS on every lane of the port. -/
theorem setLanes {f : Nat → Fld} (status : ∀ l, (f l).reg = R.LANE_STATUS l) (v : Nat) : KeepsToPort p a (s.setLanes p f v) :=
  h.each _ _ fun l mine _ k => k.set v (by rw [status]; exact ownReg_lane p (k := 0) (portLanes_range p l mine))

theorem tryCdr : KeepsToPort p a (s.tryCdr p) := by
  have counted : KeepsToPort p a (s.sat (F.LANE_PORT_ATTEMPT_COUNT p) 1) := h.set _ (ownReg_port p (k := 12))
  exact (counted.setBring 2).ite h

theorem loadStart {l : Nat} (range : l < 20) : KeepsToPort p a (s.loadStart l) :=
  h.each _ _ fun _ tap _ k => k.wr _ (ownReg_tap p range (List.mem_range.1 tap))

theorem eqLane {l : Nat} (range : l < 20) (eyes : List Nat) : KeepsToPort p a (s.eqLane l eyes) :=
  (h.set _ (ownReg_lane p (k := 8) range)).set _ (ownReg_lane p (k := 0) range)

theorem clearDeskew : KeepsToPort p a (s.clearDeskew p) := h.setPort _

theorem clearRx : KeepsToPort p a (s.clearRx p) := by
  refine ((KeepsToPort.clearDeskew (h.each _ _ fun l mine t k => ?_)).setPort _).set _ (ownReg_port p (k := 4))
  have own := ownReg_lane p (k := 0) (portLanes_range p l mine)
  exact ((k.setLane _ _).set _ own).set _ own

theorem waitSignal : KeepsToPort p a (s.waitSignal p) :=
  have own := ownReg_port p (k := 4)
  (((h.clearRx.setLanes (fun _ => rfl) _).setLanes (fun _ => rfl) _).set _ own).set _ own

end Bring

end KeepsToPort

/-! ### The rows of bring-up -/

section BringRows
variable {s t : State} {p : Fin 8}

/-- A row of the bolt die that keeps to a port unit where it acts. -/
theorem keepsToPort_of_ifBolt {f : State → State} (acts : KeepsToPort p s (f s))
    (row : Host.Outcome.next (s.ifBolt f) = (.next t : Step)) : KeepsToPort p s t := by
  obtain rfl := Host.Outcome.next.inj row
  unfold State.ifBolt
  split
  · exact acts
  · exact .refl p s

theorem signalStable_keepsToPort (row : exec (.signalStable p) s = .next t) : KeepsToPort p s t := by
  refine keepsToPort_of_ifBolt ?_ row
  split
  · exact .refl p s
  · exact ((KeepsToPort.refl p s).setLanes (fun _ => rfl) _).tryCdr

theorem cdrLock_keepsToPort (row : exec (.cdrLock p) s = .next t) : KeepsToPort p s t := by
  refine keepsToPort_of_ifBolt ?_ row
  split
  · have locked := (KeepsToPort.refl p s).setLanes (f := F.LANE_STATUS_CDR_LOCK) (fun _ => rfl) 1
    refine (locked.each _ _ fun l mine _ k => ?_).setBring 3
    have range := portLanes_range p l mine
    exact (k.loadStart range).set _ (ownReg_lane p (k := 12) range)
  · exact .refl p s

theorem eqDone_keepsToPort {eyes : List (List Nat)} (row : exec (.eqDone p eyes) s = .next t) : KeepsToPort p s t := by
  have done := (KeepsToPort.refl p s).each ((portLanes p).zip (List.range 4)) (fun lp s => s.eqLane lp.1 (eyes.getD lp.2 []))
    fun lp mine _ k => k.eqLane (portLanes_range p lp.1 (List.of_mem_zip mine).1) _
  refine keepsToPort_of_ifBolt ?_ row
  dsimp only
  split
  · exact done.setBring 4
  · split
    · exact done
    · exact .refl p s

theorem faultRetry_keepsToPort (row : exec (.faultRetry p) s = .next t) : KeepsToPort p s t := by
  refine keepsToPort_of_ifBolt ?_ row
  split
  · exact (KeepsToPort.refl p s).waitSignal
  · exact .refl p s

end BringRows

/-- Settles O53: each of the four rows keeps to its port unit, and what that means is the statement. -/
theorem bringUpRowsKeepToTheirPort : Obligations.BringUpRowsKeepToTheirPort := by
  intro s t p c row next
  have kept : KeepsToPort p s t := by
    obtain rfl | rfl | ⟨eyes, rfl⟩ | rfl := row
    · exact signalStable_keepsToPort next
    · exact cdrLock_keepsToPort next
    · exact eqDone_keepsToPort next
    · exact faultRetry_keepsToPort next
  exact ⟨kept.within, fun q other =>
    have apart : q.val ≠ p.val := Fin.val_ne_of_ne other
    ⟨kept.status q apart, kept.port q apart⟩⟩

/-! ### Equalisers, PRBS checkers and module managers -/

/-- A frame of some blocks is one of more. -/
theorem Within.mono {A B : List Nat} {a b : State} (h : Within A a b) (more : ∀ x ∈ A, x ∈ B) : Within B a b :=
  { h with regs := fun x out => h.regs x fun named => out (more _ named) }

theorem Within.setLane {B : List Nat} {a s : State} (h : Within B a s) (l : Nat) (x : LaneSt) : Within B a (s.setLane l x) := h.upd

theorem Within.setMod {B : List Nat} {a s : State} (h : Within B a s) (t : Nat) (x : ModSt) : Within B a (s.setMod t x) := h.upd

theorem Within.when {B : List Nat} {a s : State} {c : Bool} {f : State → State} (h : Within B a s)
    (acts : ∀ t, Within B a t → Within B a (f t)) : Within B a (s.when c f) := (acts s h).ite h

section LaneAndCnt
variable {a s : State} (h : Within [bLane, 0x40E00000] a s)
include h

theorem Within.tryCdr {p : Nat} (range : p < 8) : Within [bLane, 0x40E00000] a (s.tryCdr p) :=
  h.trans ((KeepsToPort.refl p s).tryCdr (p := ⟨p, range⟩).within.mono (by simp))

theorem Within.ntLock (l : Nat) (lock : Bool) : Within [bLane, 0x40E00000] a (s.ntLock l lock) := h.upd

/-- Bits at a raw checker, each change of its lock in turn. -/
theorem Within.prbsIn {l : Nat} (range : l < 20) (n : Nat) (bits : List Bool) : Within [bLane, 0x40E00000] a (s.prbsIn l n bits) := by
  have status : baseOf (R.LANE_PRBS_STATUS l) ∈ [bLane, 0x40E00000] := baseOf_array (base := bLane) (by simp) range
  induction n generalizing s bits with
  | zero => exact h
  | succ n ih =>
    unfold State.prbsIn
    dsimp -iota only
    have counted (n e : Nat) : Within [bLane, 0x40E00000] a
        (if s.on (F.LANE_PRBS_STATUS_LOCK l) then (s.count (4 * l + 1) n).count (4 * l) e else s) :=
      ((h.count _ _ (by simp)).count _ _ (by simp)).ite h
    split
    split
    · exact (counted _ _).setLane _ _
    · refine ih (.ite ?lost ?gained) _
      case lost => exact (((((counted _ _).setLane _ _).set _ (by exact status)).blockIrq 6).ntLock _ _)
      case gained => exact ((((counted _ _).setLane _ _).set _ (by exact status)).ntLock _ _)

/-- What a poll of a module reads, shown in its STATUS. -/
theorem Within.modShow {t : Nat} (range : t < 2) (x : Bool × Nat × Nat × Nat) : Within [bLane, 0x40E00000] a (s.modShow t x) :=
  have status : baseOf (R.LANE_MOD_STATUS t) ∈ [bLane, 0x40E00000] := baseOf_array (base := bLane) (by simp) range
  (((h.set _ (by exact status)).set _ (by exact status)).set _ (by exact status)).set _ (by exact status)

theorem Within.modStart (t : Nat) (c : Nat × Bool × Nat) : Within [bLane, 0x40E00000] a (s.modStart t c) :=
  ((h.setMod _ _).emit _).emit _

theorem Within.modReady {t : Nat} (range : t < 2) (notReady : Bool) : Within [bLane, 0x40E00000] a (s.modReady t notReady) := by
  have ready : Within [bLane, 0x40E00000] a (s.set (F.LANE_MOD_STATUS_READY t) 1) :=
    h.set _ (baseOf_array (base := bLane) (by simp) range)
  exact h.ite (.ite (ready.tryCdr (by omega)) (.ite ((h.setMod _ _).blockIrq 4) (h.setMod _ _)))

end LaneAndCnt

/-- A row of a module manager stays inside its block where it acts. -/
theorem Within.ifManaged {B : List Nat} {s : State} {t : Nat} {f : State → State} (acts : Within B s (f s)) :
    WithinStep B s (.next (s.ifManaged t f)) := Within.ifBolt (acts.ite (.refl B s))

section LaneRows
variable (s : State)

theorem dfeTapStep_within (l : Fin 20) (k : Fin 12) (signs : List (Bool × Bool)) :
    WithinStep [bLane, 0x40E00000] s (exec (.dfeTapStep l k signs) s) :=
  have tap : baseOf (R.LANE_DFE_TAP l (k.val / 3)) ∈ [bLane, 0x40E00000] :=
    baseOf_array₂ (base := bLane) (n' := 4) (by simp) l.isLt (by omega)
  Within.ifBolt (.ite (.refl _ s) ((Within.setLane (.refl _ s) _ _).set _ tap))

theorem prbsRx_within (l : Fin 20) (bits : List Bool) : WithinStep [bLane, 0x40E00000] s (.next (s.prbsRx l bits)) :=
  Within.ifBolt (.ite (Within.prbsIn (.refl _ s) l.isLt _ _) (.refl _ s))

variable (t : Fin 2)

theorem modPresent_within : WithinStep [bLane, 0x40E00000] s (exec (.modPresent t) s) :=
  have status : baseOf (R.LANE_MOD_STATUS t) ∈ [bLane, 0x40E00000] := baseOf_array (base := bLane) (by simp) t.isLt
  Within.ifManaged (.ite (.refl _ s) (((Within.setMod (.refl _ s) _ _).set _ (by exact status)).emit _))

theorem modReadyPoll_within (notReady : Bool) : WithinStep [bLane, 0x40E00000] s (exec (.modReadyPoll t notReady) s) :=
  Within.ifManaged (.ite (Within.setMod (.refl _ s) _ _) (Within.modReady (.refl _ s) t.isLt _))

theorem modRemoved_within : WithinStep [bLane, 0x40E00000] s (exec (.modRemoved t) s) :=
  have status : baseOf (R.LANE_MOD_STATUS t) ∈ [bLane, 0x40E00000] := baseOf_array (base := bLane) (by simp) t.isLt
  Within.ifManaged (.ite (Within.blockIrq (((Within.setMod (.refl _ s) _ _).set _ (by exact status)).set _ (by exact status)) 4) (.refl _ s))

theorem modPoll_within (intN : Bool) (los : ModLos) (temp : BitVec 16) (more : Bool) :
    WithinStep [bLane, 0x40E00000] s (exec (.modPoll t intN los temp more) s) := by
  have shown (x : Bool × Nat × Nat × Nat) := Within.modShow (.refl [bLane, 0x40E00000] s) t.isLt x
  refine Within.ifManaged (.ite (.refl _ s) (.ite (Within.setMod (.refl _ s) _ _) ?_))
  split
  · exact (((shown _).setMod _ _).setMod _ _).modStart _ _
  · exact (shown _).setMod _ _

theorem modCmdDone_within (ack : Bool) (d : BitVec 8) : WithinStep [bLane, 0x40E00000] s (exec (.modCmdDone t ack d) s) := by
  have cmd : baseOf (R.LANE_MOD_CMD t) ∈ [bLane, 0x40E00000] := baseOf_array (base := bLane) (by simp) t.isLt
  have data : baseOf (R.LANE_MOD_DATA t) ∈ [bLane, 0x40E00000] := baseOf_array (base := bLane) (by simp) t.isLt
  refine Within.ifBolt ?_
  split
  · exact .refl _ s
  · have ended : Within [bLane, 0x40E00000] s (((s.setMod t { s.mod t with cmd := none, pollWait := none, readyWait := none }).sets
        [(F.LANE_MOD_CMD_GO t, 0), (F.LANE_MOD_DATA_NACK t, b2n (!ack))]).emit (.modSel t false)) :=
      (((Within.setMod (.refl _ s) _ _).set _ (by exact cmd)).set _ (by exact data)).emit _
    refine Within.when (Within.when (Within.blockIrq (.ite (ended.set _ ?_) ended) 5) fun _ k => k.modShow t.isLt _)
      fun _ k => k.modReady t.isLt _
    exact data

end LaneRows

/-- Settles O54: every row keeps to LANE and CNT, each by its own frame. -/
theorem laneRowsKeepToLane : Obligations.LaneRowsKeepToLane := by
  intro s c row
  obtain ⟨l, k, signs, rfl⟩ | ⟨l, first, last, rfl⟩ | ⟨l, first, last, rfl⟩ | ⟨t, rfl⟩ | ⟨t, notReady, rfl⟩ | ⟨t, rfl⟩ |
    ⟨t, intN, los, temp, more, rfl⟩ | ⟨t, ack, d, rfl⟩ := row
  · exact dfeTapStep_within s l k signs
  · exact prbsRx_within s l (first ++ last)
  · exact prbsRx_within s l (first ++ last)
  · exact modPresent_within s t
  · exact modReadyPoll_within s t notReady
  · exact modRemoved_within s t
  · exact modPoll_within s t intN los temp more
  · exact modCmdDone_within s t ack d

end Sys2Proof.Machine
end


section
/-! PRBS generators and checkers, and the module managers (spec/05 R125, R126, R128, R129): what an accepted write of LANEn_PRBS_CTRL
leaves, what a checker makes of the bits it receives, and what the rows of a module do. -/

namespace Sys2Proof.Machine

/-! ### Fields of a register that a write stores (spec/00 R6) -/

/-- A part of a field. -/
theorem getBits_part (v : Word) {l n m : Nat} (inside : l + n ≤ m) : getBits v l n = getBits v 0 m / 2 ^ l % 2 ^ n := by
  apply Nat.eq_of_testBit_eq
  intro i
  simp only [getBits, BitVec.extractLsb'_toNat, Nat.testBit_mod_two_pow, Nat.testBit_div_two_pow, Nat.testBit_shiftRight, Nat.zero_add]
  by_cases below : i < n
  · have inField : l + i < m := by omega
    simp [below, inField, Nat.add_comm i l]
  · simp [below]

theorem getBits_or (v w : Word) (l n : Nat) : getBits (v ||| w) l n = getBits v l n ||| getBits w l n := by
  simp [getBits, BitVec.extractLsb'_or]

section StoredField
variable {a l n : Nat} {acc : Acc} {r : RegDef} {ix : List Nat} {pre post : List FieldDef} (beyondHeader : 0x10 ≤ a % 0x100000)
  (found : findReg a = some (r, ix)) (fields : r.fields = pre ++ .f l n acc :: post)
  (beside : ∀ g ∈ pre ++ post, l + n ≤ g.lsb ∨ g.lsb + g.width ≤ l) (fits : l + n ≤ 32) (s : State) (v : Word)
include beyondHeader found fields beside fits

/-- A plain RW field holds what was written to it. -/
theorem get_storeWrite_rw (rw : acc = .rw) : (s.storeWrite a v).get ⟨a, l, n⟩ = getBits v l n := by
  have small : getBits v l n < 2 ^ n := BitVec.isLt _
  subst rw
  rw [State.get, rd_storeWrite_same beyondHeader found, fields, List.foldl_append, List.foldl_cons,
    getBits_foldl_writeField _ fun g mine => beside g (List.mem_append_right _ mine)]
  simp only [writeField, FieldDef.f]
  rw [clamp_getBits, getBits_setBits_same _ _ _ _ fits, Nat.mod_eq_of_lt small]

/-- A self-clearing field takes the ones written to it. -/
theorem get_storeWrite_sc (sc : acc = .sc) : (s.storeWrite a v).get ⟨a, l, n⟩ = s.get ⟨a, l, n⟩ ||| getBits v l n := by
  have small (w : Word) : getBits w l n < 2 ^ n := BitVec.isLt _
  subst sc
  rw [State.get, rd_storeWrite_same beyondHeader found, fields, List.foldl_append, List.foldl_cons,
    getBits_foldl_writeField _ fun g mine => beside g (List.mem_append_right _ mine)]
  simp only [writeField, FieldDef.f]
  rw [getBits_setBits_same _ _ _ _ fits, getBits_foldl_writeField _ fun g mine => beside g (List.mem_append_left _ mine),
    Nat.mod_eq_of_lt (Nat.or_lt_two_pow (small _) (small _))]
  rfl

end StoredField

/-! ### LANEn_PRBS_CTRL as written -/

/-- LANEn_PRBS_CTRL in the tables (R129). -/
def prbsCtrlReg : RegDef :=
  ⟨0x40304030, [(0x100, 20)], (0, []), .none, 0xC, [.f 0 1 .rw, .f 1 1 .rw, .f 2 2 .rw, .f 4 1 .sc, .f 5 1 .sc, .f 6 1 .rw]⟩

theorem findReg_prbsCtrl : ∀ l : Fin 20, findReg (R.LANE_PRBS_CTRL l) = some (prbsCtrlReg, [l.val]) := by decide

section Stored
variable (s : State) (l : Fin 20) (v : Word)

theorem prbsCtrl_beyondHeader : 0x10 ≤ R.LANE_PRBS_CTRL l % 0x100000 := by unfold R.LANE_PRBS_CTRL; omega

theorem gen_stored : (s.storeWrite (R.LANE_PRBS_CTRL l) v).get (F.LANE_PRBS_CTRL_GEN l) = getBits v 0 1 :=
  get_storeWrite_rw (pre := []) (prbsCtrl_beyondHeader l) (findReg_prbsCtrl l) rfl (by decide) (by decide) s v rfl

theorem chk_stored : (s.storeWrite (R.LANE_PRBS_CTRL l) v).get (F.LANE_PRBS_CTRL_CHK l) = getBits v 1 1 :=
  get_storeWrite_rw (pre := [.f 0 1 .rw]) (prbsCtrl_beyondHeader l) (findReg_prbsCtrl l) rfl (by decide) (by decide) s v rfl

theorem inject_stored : (s.storeWrite (R.LANE_PRBS_CTRL l) v).get (F.LANE_PRBS_CTRL_INJECT l) =
    s.get (F.LANE_PRBS_CTRL_INJECT l) ||| getBits v 4 1 :=
  get_storeWrite_sc (pre := [.f 0 1 .rw, .f 1 1 .rw, .f 2 2 .rw]) (prbsCtrl_beyondHeader l) (findReg_prbsCtrl l) rfl (by decide)
    (by decide) s v rfl

theorem clear_stored : (s.storeWrite (R.LANE_PRBS_CTRL l) v).get (F.LANE_PRBS_CTRL_CLEAR l) =
    s.get (F.LANE_PRBS_CTRL_CLEAR l) ||| getBits v 5 1 :=
  get_storeWrite_sc (pre := [.f 0 1 .rw, .f 1 1 .rw, .f 2 2 .rw, .f 4 1 .sc]) (prbsCtrl_beyondHeader l) (findReg_prbsCtrl l) rfl
    (by decide) (by decide) s v rfl

end Stored

/-! ### What follows a write of LANEn_PRBS_CTRL (spec/05 R125, R126) -/

theorem get_ite {c : Prop} [Decidable c] {t u : State} {f : Fld} {n : Nat} (yes : t.get f = n) (no : u.get f = n) :
    (if c then t else u).get f = n := by
  split <;> assumption

section Follow
variable (s : State) (l : Nat)

/-- CLEAR is done, and RAW shows GEN or CHK. -/
def State.prbsRaw : State :=
  s.sets [(F.LANE_PRBS_CTRL_CLEAR l, 0),
    (F.LANE_PRBS_STATUS_RAW l, b2n (s.on (F.LANE_PRBS_CTRL_GEN l) || s.on (F.LANE_PRBS_CTRL_CHK l)))]

/-- A checker that is off holds nothing and no LOCK. -/
def State.prbsChecked : State :=
  if s.on (F.LANE_PRBS_CTRL_CHK l) then s.prbsRaw l
  else ((s.prbsRaw l).set (F.LANE_PRBS_STATUS_LOCK l) 0).setLane l { (s.prbsRaw l).lane l with prbs := PrbsChk.reset }

/-- CLEAR zeroes the counters. -/
def State.prbsCounted : State :=
  if s.on (F.LANE_PRBS_CTRL_CLEAR l) then ((s.prbsChecked l).setCounter (4 * l) 0).setCounter (4 * l + 1) 0 else s.prbsChecked l

/-- A generator that starts or stops is put on the line or taken off it. -/
def State.prbsTold (genWas : Bool) (polyWas : Nat) : State :=
  let poly := s.get (F.LANE_PRBS_CTRL_POLY l)
  if s.on (F.LANE_PRBS_CTRL_GEN l) && (!genWas || decide (poly ≠ polyWas)) then
    (s.prbsCounted l).used.emit (.prbsOn l poly (some (setBit ((s.prbsCounted l).fresh % 2 ^ (prbsTaps poly).1) 0)))
  else if genWas && !s.on (F.LANE_PRBS_CTRL_GEN l) then (s.prbsCounted l).emit (.prbsOn l poly none)
  else s.prbsCounted l

variable (genWas : Bool) (polyWas : Nat)

/-- After these a running generator carries out INJECT. -/
theorem prbsFollow_eq : s.prbsFollow l genWas polyWas =
    if s.on (F.LANE_PRBS_CTRL_GEN l) && s.on (F.LANE_PRBS_CTRL_INJECT l) then
      ((s.prbsTold l genWas polyWas).emit (.prbsFlip l)).set (F.LANE_PRBS_CTRL_INJECT l) 0
    else s.prbsTold l genWas polyWas := rfl

/-- The counters and the line have no part in the registers. -/
theorem get_prbsTold (f : Fld) : (s.prbsTold l genWas polyWas).get f = (s.prbsChecked l).get f := by
  have counted : (s.prbsCounted l).get f = (s.prbsChecked l).get f := get_ite rfl rfl
  exact get_ite counted (get_ite counted counted)

theorem prbsStatus_ne_ctrl : R.LANE_PRBS_STATUS l ≠ R.LANE_PRBS_CTRL l := by
  unfold R.LANE_PRBS_STATUS R.LANE_PRBS_CTRL; omega

/-- A field of LANEn_PRBS_CTRL beside CLEAR stays as written until INJECT is carried out. -/
theorem get_prbsTold_ctrl {i n : Nat} (clear : i + n ≤ 5 ∨ 6 ≤ i) :
    (s.prbsTold l genWas polyWas).get ⟨R.LANE_PRBS_CTRL l, i, n⟩ = s.get ⟨R.LANE_PRBS_CTRL l, i, n⟩ := by
  have apart := prbsStatus_ne_ctrl l
  have raw : (s.prbsRaw l).get ⟨R.LANE_PRBS_CTRL l, i, n⟩ = s.get ⟨R.LANE_PRBS_CTRL l, i, n⟩ :=
    (get_set_other _ _ _ _ (.inl apart)).trans (get_set_other _ _ _ _ (.inr clear))
  exact (get_prbsTold ..).trans (get_ite raw ((get_set_other _ _ _ _ (.inl apart)).trans raw))

/-- A field beside INJECT too stays as written. -/
theorem get_prbsFollow_ctrl {i n : Nat} (beside : i + n ≤ 4 ∨ 6 ≤ i) :
    (s.prbsFollow l genWas polyWas).get ⟨R.LANE_PRBS_CTRL l, i, n⟩ = s.get ⟨R.LANE_PRBS_CTRL l, i, n⟩ := by
  have told := get_prbsTold_ctrl s l genWas polyWas (show i + n ≤ 5 ∨ 6 ≤ i by omega)
  exact get_ite ((get_set_other _ _ _ _ (.inr (show i + n ≤ 4 ∨ 5 ≤ i by omega))).trans told) told

/-- Raw mode follows GEN and CHK. -/
theorem raw_prbsFollow : (s.prbsFollow l genWas polyWas).get (F.LANE_PRBS_STATUS_RAW l) =
    b2n (s.on (F.LANE_PRBS_CTRL_GEN l) || s.on (F.LANE_PRBS_CTRL_CHK l)) := by
  have fits (b : Bool) : b2n b % 2 ^ 1 = b2n b := by cases b <;> rfl
  have raw := (get_set_same (s.set (F.LANE_PRBS_CTRL_CLEAR l) 0) (F.LANE_PRBS_STATUS_RAW l) _ (show 1 + 1 ≤ 32 by decide)).trans
    (fits (s.on (F.LANE_PRBS_CTRL_GEN l) || s.on (F.LANE_PRBS_CTRL_CHK l)))
  have told := (get_prbsTold s l genWas polyWas (F.LANE_PRBS_STATUS_RAW l)).trans
    (get_ite raw ((get_set_other _ _ _ _ (.inr (.inr (show 0 + 1 ≤ 1 by decide)))).trans raw))
  exact get_ite ((get_set_other _ _ _ _ (.inl (prbsStatus_ne_ctrl l).symm)).trans told) told

variable {s l}

theorem inject_prbsFollow_of_gen (gen : s.on (F.LANE_PRBS_CTRL_GEN l) = true) :
    (s.prbsFollow l genWas polyWas).get (F.LANE_PRBS_CTRL_INJECT l) = 0 := by
  rw [prbsFollow_eq, gen, Bool.true_and]
  split
  · exact get_set_same _ _ _ (show 4 + 1 ≤ 32 by decide)
  · rename_i none
    rw [get_prbsTold_ctrl s l _ _ (by decide)]
    simpa [State.on] using none

theorem inject_prbsFollow_of_idle (idle : s.on (F.LANE_PRBS_CTRL_GEN l) = false) :
    (s.prbsFollow l genWas polyWas).get (F.LANE_PRBS_CTRL_INJECT l) = s.get (F.LANE_PRBS_CTRL_INJECT l) := by
  rw [prbsFollow_eq, idle, Bool.false_and, if_neg Bool.false_ne_true]
  exact get_prbsTold_ctrl s l _ _ (by decide)

/-- A running generator inverts a bit. -/
theorem prbsFlip_mem_prbsFollow (gen : s.on (F.LANE_PRBS_CTRL_GEN l) = true) (inject : s.on (F.LANE_PRBS_CTRL_INJECT l) = true) :
    Output.prbsFlip l ∈ (s.prbsFollow l genWas polyWas).out := by
  rw [prbsFollow_eq, gen, inject]
  exact List.mem_cons_self

/-- CLEAR has zeroed the lane's counters of errors and bits. -/
theorem counters_prbsFollow (clear : s.on (F.LANE_PRBS_CTRL_CLEAR l) = true) :
    (s.prbsFollow l genWas polyWas).counter (4 * l) = 0 ∧ (s.prbsFollow l genWas polyWas).counter (4 * l + 1) = 0 := by
  have told : (s.prbsTold l genWas polyWas).bolt = (s.prbsCounted l).bolt := by
    unfold State.prbsTold
    dsimp only
    split
    · rfl
    · split <;> rfl
  have follow : (s.prbsFollow l genWas polyWas).bolt = (((s.prbsChecked l).setCounter (4 * l) 0).setCounter (4 * l + 1) 0).bolt := by
    have counted : s.prbsCounted l = ((s.prbsChecked l).setCounter (4 * l) 0).setCounter (4 * l + 1) 0 := if_pos clear
    rw [prbsFollow_eq, ← counted, ← told]
    split <;> rfl
  simp only [State.counter, follow, State.setCounter]
  exact ⟨(getKey_putKey_other _ _ (by omega) _ _).trans (getKey_putKey_same _ _ _ _), getKey_putKey_same _ _ _ _⟩

end Follow

/-! ### Accepted writes of LANEn_PRBS_CTRL -/

theorem counter_answer (s : State) (w : Requester) (st : Access) (x : Word) (id : Nat) : (s.answer w st x).counter id = s.counter id := by
  cases w <;> rfl

section PrbsWrite
variable {s : State} {who : Requester} {l : Fin 20} {v : Word} (acc : s.accepts who (R.LANE_PRBS_CTRL l))
include acc

/-- On a held lane a write that sets GEN or CHK is ignored. -/
theorem prbsWrite_held (held : s.laneHeld l = true) (sets : getBits v 0 2 ≠ 0) :
    s.prbsWrite who l v = (s.sticky bLane 0).answer who .done 0 := by
  obtain ⟨live, verdict⟩ := acc
  simp [State.prbsWrite, held, sets, live, verdict]

/-- Any other write is stored, and what follows from its bits is done. -/
theorem prbsWrite_taken (taken : s.laneHeld l = false ∨ getBits v 0 2 = 0) :
    s.prbsWrite who l v = ((s.storeWrite (R.LANE_PRBS_CTRL l) v).prbsFollow l (s.on (F.LANE_PRBS_CTRL_GEN l))
      (s.get (F.LANE_PRBS_CTRL_POLY l))).answer who .done 0 := by
  have notIgnored : (s.laneHeld l && getBits v 0 2 != 0) = false := by rcases taken with h | h <;> simp [h]
  have onBolt : isSpool (R.LANE_PRBS_CTRL l) = false := by simp [isSpool, R.LANE_PRBS_CTRL]; omega
  rw [State.prbsWrite, if_neg (by simp [notIgnored]), command_of_accepts acc, written_bolt onBolt]

/-- GEN and CHK set on a free lane: raw mode. -/
theorem prbsWrite_runs (free : s.laneHeld l = false) (bits : getBits v 0 6 = 3) :
    (s.prbsWrite who l v).get (F.LANE_PRBS_STATUS_RAW l) = 1 ∧ (s.prbsWrite who l v).get (F.LANE_PRBS_CTRL_GEN l) = 1 ∧
      (s.prbsWrite who l v).get (F.LANE_PRBS_CTRL_CHK l) = 1 := by
  have gen : (s.storeWrite (R.LANE_PRBS_CTRL l) v).get (F.LANE_PRBS_CTRL_GEN l) = 1 := by
    rw [gen_stored, getBits_part v (m := 6) (by decide), bits]
    rfl
  have chk : (s.storeWrite (R.LANE_PRBS_CTRL l) v).get (F.LANE_PRBS_CTRL_CHK l) = 1 := by
    rw [chk_stored, getBits_part v (m := 6) (by decide), bits]
    rfl
  simp only [prbsWrite_taken acc (.inl free), get_congr (rd_answer ..)]
  refine ⟨?raw, ?gen, ?chk⟩
  case raw => rw [raw_prbsFollow, State.on, gen]; rfl
  case gen => rw [get_prbsFollow_ctrl _ _ _ _ (by decide), gen]
  case chk => rw [get_prbsFollow_ctrl _ _ _ _ (by decide), chk]

/-- INJECT with GEN on a free lane. -/
theorem prbsWrite_injects (free : s.laneHeld l = false) (bits : getBits v 0 6 = 1) :
    Output.prbsFlip l ∈ (s.prbsWrite who l (v ||| 16)).out ∧ (s.prbsWrite who l (v ||| 16)).get (F.LANE_PRBS_CTRL_INJECT l) = 0 := by
  have gen : (s.storeWrite (R.LANE_PRBS_CTRL l) (v ||| 16)).on (F.LANE_PRBS_CTRL_GEN l) = true := by
    rw [State.on, gen_stored, getBits_or, getBits_part v (m := 6) (by decide), bits]
    rfl
  have inject : (s.storeWrite (R.LANE_PRBS_CTRL l) (v ||| 16)).on (F.LANE_PRBS_CTRL_INJECT l) = true := by
    rw [State.on, inject_stored, getBits_or, show getBits 16 4 1 = 1 by decide]
    simp
  rw [prbsWrite_taken acc (.inl free), get_congr (rd_answer ..)]
  exact ⟨mem_answer_out (prbsFlip_mem_prbsFollow _ _ gen inject) .., inject_prbsFollow_of_gen _ _ gen⟩

section NoBits
variable (bits : getBits v 0 6 = 0)
include bits

/-- INJECT without GEN waits for the next IDLE stitch. -/
theorem prbsWrite_injectWaits : (s.prbsWrite who l (v ||| 16)).get (F.LANE_PRBS_CTRL_INJECT l) = 1 := by
  have gen : (s.storeWrite (R.LANE_PRBS_CTRL l) (v ||| 16)).on (F.LANE_PRBS_CTRL_GEN l) = false := by
    rw [State.on, gen_stored, getBits_or, getBits_part v (m := 6) (by decide), bits]
    rfl
  have none : getBits (v ||| 16) 0 2 = 0 := by
    rw [getBits_or, getBits_part v (m := 6) (by decide), bits]
    rfl
  have was : s.get (F.LANE_PRBS_CTRL_INJECT l) < 2 := BitVec.isLt _
  rw [prbsWrite_taken acc (.inr none), get_congr (rd_answer ..), inject_prbsFollow_of_idle _ _ gen, inject_stored, getBits_or,
    getBits_part v (m := 6) (by decide), bits]
  generalize s.get (F.LANE_PRBS_CTRL_INJECT l) = inject at was ⊢
  revert inject
  decide

/-- CLEAR zeroes both counters of the lane. -/
theorem prbsWrite_clears : (s.prbsWrite who l (v ||| 32)).counter (4 * l) = 0 ∧
    (s.prbsWrite who l (v ||| 32)).counter (4 * l + 1) = 0 := by
  have clear : (s.storeWrite (R.LANE_PRBS_CTRL l) (v ||| 32)).on (F.LANE_PRBS_CTRL_CLEAR l) = true := by
    rw [State.on, clear_stored, getBits_or, show getBits 32 5 1 = 1 by decide]
    simp
  have none : getBits (v ||| 32) 0 2 = 0 := by
    rw [getBits_or, getBits_part v (m := 6) (by decide), bits]
    rfl
  rw [prbsWrite_taken acc (.inr none), counter_answer, counter_answer]
  exact counters_prbsFollow _ _ clear

end NoBits

end PrbsWrite

/-! ### Bits at a raw checker (spec/05 R126) -/

section Checker
variable {s : State} {l : Nat} {bits rest : List Bool} {x : PrbsChk} {n e : Nat}

theorem prbsRx_of_chk (live : s.boltUp = true) (chk : s.on (F.LANE_PRBS_CTRL_CHK l) = true) :
    s.prbsRx l bits = s.prbsIn l (bits.length + 1) (bits.map fun b => b != s.on (F.LANE_PRBS_CTRL_CHK_INV l)) := by
  rw [State.prbsRx, ifBolt_of_boltUp live, if_pos chk]

section Unlocked
variable (unlocked : s.on (F.LANE_PRBS_STATUS_LOCK l) = false)
  (ran : chkBits (s.get (F.LANE_PRBS_CTRL_POLY l)) false bits (s.lane l).prbs 0 0 = (x, n, e, rest))
include unlocked ran

theorem prbsIn_locks (run : 256 ≤ x.run) (k : Nat) : s.prbsIn l (k + 1) bits =
    (((s.setLane l { s.lane l with prbs := { x with run := 0, window := [] } }).set (F.LANE_PRBS_STATUS_LOCK l) 1).ntLock
      l true).prbsIn l k rest := by
  have gained : chkLock false x = true := decide_eq_true run
  rw [State.prbsIn, unlocked, ran]
  simp [gained]

theorem prbsIn_waits (run : x.run < 256) (k : Nat) : s.prbsIn l (k + 1) bits = s.setLane l { s.lane l with prbs := x } := by
  have same : chkLock false x = false := decide_eq_false (by omega)
  rw [State.prbsIn, unlocked, ran]
  simp [same]

end Unlocked

theorem prbsIn_losesLock (locked : s.on (F.LANE_PRBS_STATUS_LOCK l) = true)
    (ran : chkBits (s.get (F.LANE_PRBS_CTRL_POLY l)) true bits (s.lane l).prbs 0 0 = (x, n, e, rest))
    (errors : 32 < (x.window.filter id).length) (k : Nat) :
    let counted : State := (s.count (4 * l + 1) n).count (4 * l) e
    s.prbsIn l (k + 1) bits = ((((counted.setLane l { counted.lane l with prbs := PrbsChk.reset }).set
      (F.LANE_PRBS_STATUS_LOCK l) 0).irq bLane 6).ntLock l false).prbsIn l k rest := by
  have lost : chkLock true x = false := decide_eq_false (by omega)
  rw [State.prbsIn, locked, ran]
  simp [lost]

end Checker

/-! ### Rows of a managed module (spec/05 R128) -/

section Managed
variable {s : State} {t : Fin 2} (live : s.boltUp = true)
include live

section Auto
variable (qsfp : s.bolt.pat.inForce.media.getD t 0 = 0) (auto : s.on (F.LANE_MOD_CTRL_AUTO t) = true)
include qsfp auto

theorem ifManaged_of_auto (f : State → State) : s.ifManaged t f = f s := by
  rw [State.ifManaged, ifBolt_of_boltUp live, if_pos (by rw [auto, Bool.and_true]; exact decide_eq_true qsfp)]

/-- An inserted module is shown PRESENT and is reset. -/
theorem modPresent_inserts (out : (s.mod t).inserted = false) : exec (.modPresent t) s =
    .next (((s.setMod t { s.mod t with inserted := true, waitMs := 0 }).set (F.LANE_MOD_STATUS_PRESENT t) 1).emit
      (.modBus t 0 0 0)) := by
  have row : exec (.modPresent t) s = execModPresent t s := rfl
  rw [row, execModPresent, ifManaged_of_auto live qsfp auto, if_neg (by simp [out])]

/-- On a free bus the poll of readiness reads at once. -/
theorem modReadyPoll_reads (free : (s.mod t).cmd = none) (late : Bool) : exec (.modReadyPoll t late) s = .next (s.modReady t late) := by
  have row : exec (.modReadyPoll t late) s = execModReadyPoll t late s := rfl
  rw [row, execModReadyPoll, ifManaged_of_auto live qsfp auto, if_neg (by simp [free])]

variable (inside : (s.mod t).inserted = true)
include inside

theorem modRemoved_removes : exec (.modRemoved t) s = .next (((s.setMod t { s.mod t with inserted := false }).sets
    [(F.LANE_MOD_STATUS_PRESENT t, 0), (F.LANE_MOD_STATUS_READY t, 0)]).irq bLane 4) := by
  have row : exec (.modRemoved t) s = execModRemoved t s := rfl
  rw [row, execModRemoved, ifManaged_of_auto live qsfp auto, if_pos inside]

section NotReady
variable (notReady : s.on (F.LANE_MOD_STATUS_READY t) = false) (free : (s.mod t).cmd = none)
include notReady free

theorem modReadyPoll_ready : exec (.modReadyPoll t false) s = .next ((s.set (F.LANE_MOD_STATUS_READY t) 1).tryCdr t) := by
  rw [modReadyPoll_reads live qsfp auto free, State.modReady, if_neg (by simp [inside, notReady])]
  rfl

/-- The poll that completes 2 s without readiness raises MOD_CHANGE. -/
theorem modReadyPoll_late (waited : (s.mod t).waitMs = 1990) : exec (.modReadyPoll t true) s =
    .next ((s.setMod t { s.mod t with waitMs := 2000 }).irq bLane 4) := by
  rw [modReadyPoll_reads live qsfp auto free, State.modReady, if_neg (by simp [inside, notReady])]
  simp [waited]

end NotReady

variable (los : ModLos) (temp : BitVec 16) (more : Bool)

/-- A poll on a free bus is shown; a command that waits for it starts with its last byte. -/
theorem modPoll_shows (free : (s.mod t).cmd = none) (stays : more = true ∨ (s.mod t).goWait = none) :
    exec (.modPoll t true los temp more) s =
      (let shown : State := s.modShow t (true, los.rx.toNat, los.tx.toNat, temp.toNat)
       .next (shown.setMod t { shown.mod t with polling := more })) := by
  have row : exec (.modPoll t true los temp more) s = execModPoll t true los temp more s := rfl
  rw [row, execModPoll, ifManaged_of_auto live qsfp auto, if_neg (by simp [inside]), if_neg (by simp [free])]
  dsimp only
  split
  case h_1 waits => rcases stays with more | idle <;> simp_all
  case h_2 => rfl

theorem modPoll_waits (busy : (s.mod t).cmd.isSome = true) : exec (.modPoll t true los temp more) s =
    .next (s.setMod t { s.mod t with pollWait := some (true, los.rx.toNat, los.tx.toNat, temp.toNat) }) := by
  have row : exec (.modPoll t true los temp more) s = execModPoll t true los temp more s := rfl
  rw [row, execModPoll, ifManaged_of_auto live qsfp auto, if_neg (by simp [inside]), if_pos busy]

end Auto

/-- The end of a write on the bus (spec/05 R129). -/
theorem modCmdDone_write {c : Nat × Bool × Nat} (running : (s.mod t).cmd = some c) (write : c.2.1 = true) (ack : Bool) (d : BitVec 8) :
    exec (.modCmdDone t ack d) s =
      (let ended : State := (((s.setMod t { s.mod t with cmd := none, pollWait := none, readyWait := none }).sets
          [(F.LANE_MOD_CMD_GO t, 0), (F.LANE_MOD_DATA_NACK t, b2n (!ack))]).emit (.modSel t false)).irq bLane 5
       .next ((ended.when (s.mod t).pollWait.isSome fun u => u.modShow t ((s.mod t).pollWait.getD (false, 0, 0, 0))).when
        (s.mod t).readyWait.isSome fun u => u.modReady t ((s.mod t).readyWait.getD true))) := by
  obtain ⟨o, w, v⟩ := c
  obtain rfl : w = true := write
  have row : exec (.modCmdDone t ack d) s = execModCmdDone t ack d s := rfl
  rw [row, execModCmdDone, ifBolt_of_boltUp live]
  simp only [running, Bool.not_true, Bool.and_false]
  rfl

end Managed

/-! ### Commands of a module (spec/05 R128, R129) -/

section ModCommands
variable {s : State} {who : Requester} {t : Fin 2}

theorem modReset_resets (acc : s.accepts who (R.LANE_MOD_CTRL t)) (v : Word) :
    exec (.modReset who t v) s = .next (((((s.written (R.LANE_MOD_CTRL t) (v ||| 2)).set (F.LANE_MOD_CTRL_RESET t) 0).emit
      (.modBus t 0 0 0)).driveLp t).answer who .done 0) := by
  have row : exec (.modReset who t v) s = execModReset who t v s := rfl
  rw [row, execModReset, command_of_accepts acc]

/-- LANE_MODt_CMD in the tables (R129). -/
def modCmdReg : RegDef := ⟨0x40302008, [(0x40, 2)], (0, []), .none, 0x0, [.f 0 8 .rw, .f 8 1 .rw, .f 9 1 .sc]⟩

theorem findReg_modCmd : ∀ t : Fin 2, findReg (R.LANE_MOD_CMD t) = some (modCmdReg, [t.val]) := by decide

theorem modCmd_onBolt (t : Fin 2) : isSpool (R.LANE_MOD_CMD t) = false := by simp [isSpool, R.LANE_MOD_CMD]; omega

theorem offset_written (v : Word) : (s.written (R.LANE_MOD_CMD t) v).get (F.LANE_MOD_CMD_OFFSET t) = getBits v 0 8 := by
  rw [written_bolt (modCmd_onBolt t)]
  exact get_storeWrite_rw (pre := []) (by unfold R.LANE_MOD_CMD; omega) (findReg_modCmd t) rfl (by decide) (by decide) s v rfl

theorem data_written (v : Word) : (s.written (R.LANE_MOD_CMD t) v).get (F.LANE_MOD_DATA_DATA t) = s.get (F.LANE_MOD_DATA_DATA t) := by
  have own : R.LANE_MOD_CMD t ≠ R.LANE_MOD_DATA t := by unfold R.LANE_MOD_CMD R.LANE_MOD_DATA; omega
  have sticky : R.LANE_MOD_DATA t ≠ baseOf (R.LANE_MOD_CMD t) + 4 := by unfold baseOf R.LANE_MOD_CMD R.LANE_MOD_DATA; omega
  rw [written_bolt (modCmd_onBolt t)]
  exact get_congr (rd_storeWrite_other _ _ own sticky)

theorem mod_written (v : Word) : (s.written (R.LANE_MOD_CMD t) v).bolt.mods = s.bolt.mods := by
  rw [written_bolt (modCmd_onBolt t)]
  exact eq_of_untold (fun s => s.bolt.mods) (untold_storeWrite _ _ _)

/-- With the bus and the waiting places free, GO puts the command on the bus. -/
theorem modGo_starts (free : (s.mod t).cmd = none) (idle : (s.mod t).goWait = none) (still : (s.mod t).polling = false) (write : Bool) :
    s.modGo t write = s.modStart t (s.get (F.LANE_MOD_CMD_OFFSET t), write, s.get (F.LANE_MOD_DATA_DATA t)) := by
  simp [State.modGo, free, idle, still]

/-- The command on the bus after a write of LANE_MODt_CMD. -/
theorem modCommand_onBus (acc : s.accepts who (R.LANE_MOD_CMD t)) (free : (s.mod t).cmd = none) (idle : (s.mod t).goWait = none)
    (still : (s.mod t).polling = false) (both : s.bolt.mods.length = 2) (v : Word) (write : Bool) :
    ((s.command who (R.LANE_MOD_CMD t) v fun u => u.modGo t write).mod t).cmd =
      some (getBits v 0 8, write, s.get (F.LANE_MOD_DATA_DATA t)) := by
  have mods := mod_written (s := s) (t := t) v
  have same : (s.written (R.LANE_MOD_CMD t) v).mod t = s.mod t := congrArg (fun m => m.getD t.val ModSt.reset) mods
  have answered (u : State) : (u.answer who .done 0).mod t = u.mod t := eq_of_untold (fun u => u.mod t) (untold_answer ..)
  rw [command_of_accepts acc, answered, modGo_starts (same ▸ free) (same ▸ idle) (same ▸ still), offset_written, data_written]
  have stored := mod_setMod (s.written (R.LANE_MOD_CMD t) v) t
    { (s.written (R.LANE_MOD_CMD t) v).mod t with cmd := some (getBits v 0 8, write, s.get (F.LANE_MOD_DATA_DATA t)) }
    (by rw [mods, both]; exact t.isLt)
  exact congrArg ModSt.cmd stored

theorem offset_ofNat (k : Nat) (o : BitVec 8) (whole : k % 256 = 0) : getBits (BitVec.ofNat 32 (k + o.toNat)) 0 8 = o.toNat := by
  simp only [getBits, BitVec.extractLsb'_toNat, BitVec.toNat_ofNat, Nat.shiftRight_zero]
  omega

end ModCommands

/-! ### The obligation, part by part -/

/-- Settles O18: writes of LANEn_PRBS_CTRL, bits at a checker, the rows of a managed module, and the commands on its bus. -/
theorem prbsAndModules : Obligations.PrbsAndModules := by
  refine ⟨fun s who l v acc => ?writes, fun s l first last rest x n e live chk => ?checker, fun s t live qsfp auto => ?managed,
    fun s who t v acc => modReset_resets acc v, fun s who t o acc free idle still both => ?commands,
    fun s t c ack d live running write => ?done⟩
  case writes =>
    refine ⟨fun held sets => congrArg _ (prbsWrite_held acc held sets), fun free bits => ⟨_, rfl, prbsWrite_runs acc free bits⟩,
      fun free bits => ⟨_, rfl, prbsWrite_injects acc free bits⟩, fun bits => ⟨⟨_, rfl, ?_⟩, _, rfl, ?_⟩⟩
    · exact prbsWrite_injectWaits acc bits
    · exact prbsWrite_clears acc bits
  case checker =>
    have arrive := prbsRx_of_chk (bits := first ++ last) live chk
    exact ⟨fun unlocked ran => ⟨fun run => congrArg _ (arrive.trans (prbsIn_locks unlocked ran run _)),
      fun run => congrArg _ (arrive.trans (prbsIn_waits unlocked ran run _))⟩,
      fun locked ran errors => congrArg _ (arrive.trans (prbsIn_losesLock locked ran errors _))⟩
  case managed =>
    refine ⟨modPresent_inserts live qsfp auto, fun inside notReady free => ⟨?ready, ?late⟩, modRemoved_removes live qsfp auto,
      fun rx tx temp inside => ⟨fun free more stays => ?shows, fun busy more => ?waits⟩⟩
    case ready => exact modReadyPoll_ready live qsfp auto inside notReady free
    case late => exact modReadyPoll_late live qsfp auto inside notReady free
    case shows => exact modPoll_shows live qsfp auto inside _ temp more free stays
    case waits => exact modPoll_waits live qsfp auto inside _ temp more busy
  case commands =>
    have onBus := modCommand_onBus acc free idle still both
    exact ⟨⟨_, rfl, _, (onBus _ false).trans (by rw [offset_ofNat 512 o rfl])⟩,
      _, rfl, (onBus _ true).trans (by rw [offset_ofNat 768 o rfl])⟩
  case done =>
    rw [modCmdDone_write live running write]
    exact ⟨fun noPoll noRead => by rw [noPoll, noRead]; rfl, fun x polled noRead => by rw [polled, noRead]; rfl⟩

end Sys2Proof.Machine
end


section
/-! Commits of tunnel entries (spec/06 R157 to R161): an accepted commit refused or taken, the effect of a waiting invalidation, the
delivery records of the progress timer.  That INVALIDATE advances GEN and drains is the model's own choice (assumption log 44). -/

namespace Sys2Proof.Machine

/-! ### A commit refused or taken (spec/06 R157, R161) -/

/-- The words that a commit copies: the shadow words, none for INVALIDATE. -/
def State.commitWords (s : State) (i : Nat) (inv : Bool) : List Nat :=
  if inv then [] else (List.range 4).map fun k => (s.shadowWord i k).toNat

/-- TUN_COMMIT_STATUS as a commit leaves it. -/
def State.commitShown (s : State) (i reason pending : Nat) : State :=
  s.sets [(F.TUN_COMMIT_STATUS_INDEX, i), (F.TUN_COMMIT_STATUS_PENDING, 0), (F.TUN_COMMIT_STATUS_REASON, reason),
    (F.TUN_COMMIT_STATUS_PENDING, pending)]

section Shown
variable (s : State) (i reason pending : Nat)

theorem commitShown_index (small : i < 1024) : (s.commitShown i reason pending).get F.TUN_COMMIT_STATUS_INDEX = i := by
  unfold State.commitShown
  simp only [State.sets]
  rw [get_set_other _ _ _ _ (.inr (.inl (by decide))), get_set_other _ _ _ _ (.inr (.inr (by decide))),
    get_set_other _ _ _ _ (.inr (.inl (by decide))), get_set_same _ _ _ (by decide)]
  exact Nat.mod_eq_of_lt small

theorem commitShown_reason (small : reason < 65536) :
    (s.commitShown i reason pending).get F.TUN_COMMIT_STATUS_REASON = reason := by
  unfold State.commitShown
  simp only [State.sets]
  rw [get_set_other _ _ _ _ (.inr (.inl (by decide))), get_set_same _ _ _ (by decide)]
  exact Nat.mod_eq_of_lt small

theorem commitShown_pending (small : pending < 2) :
    (s.commitShown i reason pending).get F.TUN_COMMIT_STATUS_PENDING = pending := by
  unfold State.commitShown
  simp only [State.sets]
  rw [get_set_same _ _ _ (by decide)]
  exact Nat.mod_eq_of_lt small

theorem commitShown_tun : (s.commitShown i reason pending).bolt.tun = s.bolt.tun := by
  rw [State.commitShown, sets_bolt]

end Shown

section Commit
variable {s : State} {i : Nat} {inv : Bool} (atCycle : Bool)

theorem commit_refused {r : Nat} (refused : s.commitRefusal i inv (s.commitWords i inv) = some r) :
    s.commit i inv atCycle = s.commitShown i r (b2n (s.entry i).pending.isSome) := by
  unfold State.commitWords at refused
  simp only [State.commit, refused]
  rfl

theorem commit_taken (fine : s.commitRefusal i inv (s.commitWords i inv) = none) :
    s.commit i inv atCycle =
      (s.commitShown i 0 1).mapEntry i fun e => { e with pending := some (inv, atCycle, s.commitWords i inv) } := by
  unfold State.commitWords at fine
  simp only [State.commit, fine]
  rfl

end Commit

/-! ### The rows of a commit -/

@[simp] theorem answer_get (s : State) (w : Requester) (st : Access) (x : Word) (f : Fld) : (s.answer w st x).get f = s.get f :=
  get_congr (rd_answer s w st x f.reg)

@[simp] theorem answer_tun (s : State) (w : Requester) (st : Access) (x : Word) : (s.answer w st x).bolt.tun = s.bolt.tun :=
  eq_of_untold (fun s => s.bolt.tun) (untold_answer s w st x)

theorem entry_of_tun {s t : State} (same : t.bolt.tun = s.bolt.tun) (j : Nat) : t.entry j = s.entry j := by
  rw [State.entry, State.entry, same]

/-- A write of TUN_COMMIT stores its value and leaves everything that storing does not tell of. -/
theorem untold_commitWritten (s : State) (v : Word) : (s.written R.TUN_COMMIT v).untold = s.untold := by
  rw [written_bolt (by decide), untold_storeWrite]

theorem commitWritten_tun (s : State) (v : Word) : (s.written R.TUN_COMMIT v).bolt.tun = s.bolt.tun :=
  eq_of_untold (fun s => s.bolt.tun) (untold_commitWritten s v)

theorem commitWritten_words (s : State) (v : Word) (i : Nat) (inv : Bool) :
    (s.written R.TUN_COMMIT v).commitWords i inv = s.commitWords i inv :=
  eq_of_untold (fun s => s.commitWords i inv) (untold_commitWritten s v)

section Rows
variable {s : State} {who : Requester} (acc : s.accepts who R.TUN_COMMIT) (n : BitVec 10) (atCycle : Bool)
include acc

theorem exec_tunCommit : exec (.tunCommit who n atCycle) s =
    .next (((s.written R.TUN_COMMIT (commitValue n atCycle false)).commit n.toNat false atCycle).answer who .done 0) :=
  congrArg _ (command_of_accepts acc _ _)

theorem exec_invalidate : exec (.invalidate who n atCycle) s =
    .next (((s.written R.TUN_COMMIT (commitValue n atCycle true)).commit n.toNat true atCycle).answer who .done 0) :=
  congrArg _ (command_of_accepts acc _ _)

end Rows

section Told
variable {s : State} (v : Word) (who : Requester) {n : BitVec 10} {inv : Bool} (atCycle : Bool)

/-- A refused commit shows its entry and the code, and no entry changes. -/
theorem commit_refused_told {r : Nat}
    (refused : (s.written R.TUN_COMMIT v).commitRefusal n.toNat inv (s.commitWords n.toNat inv) = some r) (small : r < 65536) :
    let t : State := ((s.written R.TUN_COMMIT v).commit n.toNat inv atCycle).answer who .done 0
    t.get F.TUN_COMMIT_STATUS_INDEX = n.toNat ∧ t.get F.TUN_COMMIT_STATUS_REASON = r ∧ t.bolt.tun = s.bolt.tun := by
  rw [← commitWritten_words s v] at refused
  dsimp only
  rw [answer_get, answer_get, answer_tun, commit_refused atCycle refused]
  exact ⟨commitShown_index _ _ _ _ n.isLt, commitShown_reason _ _ _ _ small,
    (commitShown_tun ..).trans (commitWritten_tun s v)⟩

/-- A commit that is taken shows its entry and that it is pending, and waits in the entry with its words. -/
theorem commit_taken_told (fine : (s.written R.TUN_COMMIT v).commitRefusal n.toNat inv (s.commitWords n.toNat inv) = none) :
    let t : State := ((s.written R.TUN_COMMIT v).commit n.toNat inv atCycle).answer who .done 0
    t.get F.TUN_COMMIT_STATUS_INDEX = n.toNat ∧ t.get F.TUN_COMMIT_STATUS_REASON = 0 ∧ t.get F.TUN_COMMIT_STATUS_PENDING = 1 ∧
      t.entry n.toNat = { s.entry n.toNat with pending := some (inv, atCycle, s.commitWords n.toNat inv) } ∧
      ∀ j, j ≠ n.toNat → t.entry j = s.entry j := by
  have shown (j : Nat) : ((s.written R.TUN_COMMIT v).commitShown n.toNat 0 1).entry j = s.entry j :=
    entry_of_tun ((commitShown_tun ..).trans (commitWritten_tun s v)) j
  rw [← commitWritten_words s v] at fine
  dsimp only
  rw [answer_get, answer_get, answer_get, entry_of_tun (answer_tun ..), commit_taken atCycle fine, mapEntry_get, mapEntry_get,
    mapEntry_get, entry_mapEntry_same, shown, commitWritten_words]
  refine ⟨commitShown_index _ _ _ _ n.isLt, commitShown_reason _ _ _ _ (by decide), commitShown_pending _ _ _ _ (by decide), rfl,
    fun j other => ?_⟩
  rw [entry_of_tun (answer_tun ..), entry_mapEntry_other _ _ other.symm, shown]

end Told

/-! ### The effect of an invalidation (spec/06 R157) -/

theorem commitEffect_of_pending {s : State} {i : Fin 1024} {inv : Bool} {ws : List Nat} (live : s.boltUp = true)
    (waits : (s.entry i).pending = some (inv, false, ws)) : exec (.commitEffect i) s = .next (s.commitNow i) := by
  have row : exec (.commitEffect i) s = execCommitEffect i s := rfl
  rw [row, execCommitEffect, ifBolt_of_boltUp live, waits]

/-- The entry that an invalidation leaves: its words stay, GEN advances, the old generation drains. -/
def State.invalidEntry (s : State) (i : Nat) : Entry :=
  let e := s.entry i
  { Entry.reset with
    w0 := e.w0, w1 := e.w1, w2 := e.w2, w3 := e.w3, valid := false, gen := (e.gen + 1) % 4, lastGen := e.lastGen
    lastPath := e.lastPath, perBucket := s.elastic? s.cycle i
    drain := some (e.gen, [e.w0, e.w1, e.w2, e.w3], s.drainFrames i e.gen), polDrop := e.polDrop, polExcess := e.polExcess }

/-- PENDING falls where TUN_COMMIT_STATUS shows the entry. -/
def State.pendingFalls (s : State) (i : Nat) : State :=
  if s.get F.TUN_COMMIT_STATUS_INDEX = i then s.set F.TUN_COMMIT_STATUS_PENDING 0 else s

/-- The links that live on an entry are restarted (spec/13 R304). -/
def State.restartLinks (s : State) (i : Nat) : State :=
  s.each (s.linksOn.filter fun l => s.linkEntry l = i && s.linkLives l) fun l s =>
    (if s.on (F.PCB_LNK_STATUS_DEAD l) then s else s.tunnelLost l).linkRestart l

/-- An invalidation of a valid entry that holds no frame and has none unacknowledged: nothing is delivered or recorded first. -/
theorem commitNow_invalidates {s : State} {i : Nat} {atCycle : Bool} {ws : List Nat}
    (waits : (s.entry i).pending = some (true, atCycle, ws)) (noHolds : (s.entry i).holds = [])
    (acked : (s.entry i).una = (s.entry i).nxt) (valid : (s.entry i).valid = true) :
    s.commitNow i = (((((s.dropRetx i).mapEntry i fun _ => s.invalidEntry i).noteHolds.pendingFalls i).restartLinks
      i).pcbReview.showValid).irq bTun 1 := by
  unfold State.commitNow
  rw [waits]
  dsimp -zeta only
  extract_lets s0 e s1 n old s2 blank fresh worded next s3 s4 s5 s6 s7
  have delivered : s0 = s := by simp only [s0, noHolds, State.each, List.foldl_nil]
  clear_value s0
  subst delivered
  have recorded : s1 = s0 := if_neg (by simp [e, acked])
  clear_value s1
  subst recorded
  have left : next = s1.invalidEntry i := by
    have drains : old = some (e.gen, [e.w0, e.w1, e.w2, e.w3], n) := if_pos valid
    unfold next worded fresh
    rw [drains]
    rfl
  have notRefilled : s5 = s3 := rfl
  unfold s7 s6
  rw [notRefilled]
  unfold s3
  rw [left]
  rfl

/-! ### The progress timer (spec/06 R159) -/

theorem progressTimer_due {s : State} {ms : Nat} (live : s.boltUp = true) (runs : s.get F.TUN_ARQ_CFG_PROG_S ≠ 0)
    (due : s.get F.TUN_ARQ_CFG_PROG_S * 1000 ≤ ms) : exec (.progressTimer ms) s =
      .next (s.each (s.bolt.tun.filter fun e => e.2.valid && e.2.progress) fun ie s => s.deliveryRecord ie.1 4) := by
  have row : exec (.progressTimer ms) s = execProgressTimer ms s := rfl
  rw [row, execProgressTimer, ifBolt_of_boltUp live]
  exact congrArg _ (if_neg (by simp [runs, due]))

/-! ### The obligation, part by part -/

/-- Settles O20: a commit refused, taken and an invalidation taken; the effect of a waiting invalidation; the progress timer. -/
theorem tunnelCommits : Obligations.TunnelCommits := by
  refine ⟨fun s who n atCycle acc => ⟨fun r refused small => ?refused, fun fine => ?taken, fun fine => ?invalidated⟩,
    fun s i live waits noHolds acked valid => ?effect, fun s ms live runs due => progressTimer_due live runs due⟩
  case refused => exact ⟨_, exec_tunCommit acc n atCycle, commit_refused_told _ who atCycle refused small⟩
  case taken => exact ⟨_, exec_tunCommit acc n atCycle, commit_taken_told _ who atCycle fine⟩
  case invalidated =>
    obtain ⟨-, reason, -, entry, others⟩ := commit_taken_told _ who atCycle fine
    exact ⟨_, exec_invalidate acc n atCycle, reason, entry, others⟩
  case effect =>
    exact (commitEffect_of_pending live waits).trans (congrArg _ (commitNow_invalidates waits noHolds acked valid))

end Sys2Proof.Machine
end


section
/-! Display tunnels (spec/14 R312 to R319): what a receiver sends of a video frame and its lines, what a transmitter takes of a frame, its
vertical sync, black frames and hot plug.  Frames count from 0, and the link's rate and the error of an EDID read are operands of the
rows: the model's own presumptions (assumption log 48). -/

namespace Sys2Proof.Machine

/-! ### A DP quad's own state -/

theorem dpq_of_dp {s t : State} (same : t.bolt.dp = s.bolt.dp) (q : Nat) : t.dpq q = s.dpq q := by
  rw [State.dpq, State.dpq, same]

@[simp] theorem set_dpq (s : State) (f : Fld) (v q : Nat) : (s.set f v).dpq q = s.dpq q := rfl

@[simp] theorem sat_dpq (s : State) (f : Fld) (n q : Nat) : (s.sat f n).dpq q = s.dpq q := rfl

@[simp] theorem emit_dpq (s : State) (o : Output) (q : Nat) : (s.emit o).dpq q = s.dpq q := rfl

theorem mapDp_dpq {s : State} {q : Nat} (present : q < s.bolt.dp.length) (f : DpQuad → DpQuad) : (s.mapDp q f).dpq q = f (s.dpq q) :=
  getD_setAt_same _ _ _ _ present

/-- A quad that has a timing is one of the hub's. -/
theorem dp_present {s : State} {q : Nat} (timed : (s.dpq q).txTiming ≠ []) : q < s.bolt.dp.length := by
  by_contra beyond
  exact timed (congrArg DpQuad.txTiming (List.getD_eq_default _ _ (Nat.le_of_not_lt beyond)))

/-! ### The schedulers leave the quads (spec/08 R202, R204, R499) -/

@[simp] theorem activate_dp (s : State) (k : Nat) : (s.activate k).bolt.dp = s.bolt.dp := by
  unfold State.activate
  dsimp only
  split
  · rfl
  · split <;> rfl

@[simp] theorem mapStored_dp (s : State) (id : Nat) (f : Stored → Stored) : (s.mapStored id f).bolt.dp = s.bolt.dp := by
  unfold State.mapStored
  split <;> rfl

theorem giveBack_dp (s : State) (p : Nat) (pls : List Placement) : (s.giveBack p pls).bolt.dp = s.bolt.dp := by
  unfold State.giveBack
  refine each_keeps (fun s => s.bolt.dp) _ _ fun pl s => ?_
  have back : (((s.mapQueue pl.queue fun q => { q with frames := pl.frame :: q.frames, deficit := pl.deficit }).mapCopy pl.frame
      pl.queue fun c => { c with st := .queued }).activate pl.queue).bolt.dp = s.bolt.dp :=
    (activate_dp ..).trans (mapStored_dp ..)
  dsimp only
  split
  · split
    · exact (mapStored_dp ..).trans back
    · exact back
  · exact back

theorem settle_dp (s : State) (p : Nat) : (s.settle p).bolt.dp = s.bolt.dp := by
  unfold State.settle
  dsimp only
  split
  · rfl
  · exact giveBack_dp ..

theorem setRate_dp (s : State) (p r : Nat) : (s.setRate p r).bolt.dp = s.bolt.dp := by
  unfold State.setRate
  dsimp only
  split
  · exact settle_dp ..
  · rfl

theorem rateReview_dp (s : State) (ps : List Nat) : (s.rateReview ps).bolt.dp = s.bolt.dp := by
  refine each_keeps (fun s => s.bolt.dp) s ps fun p s => ?_
  split
  · rfl
  · exact setRate_dp ..

/-! ### The receiver: a video frame and its lines (spec/14 R315, R316) -/

/-- The receiver's ports at the rate to which its link has trained (spec/08 R499). -/
def State.dpLinked (s : State) (q : Nat) (t : DpTiming) : State :=
  (s.mapDp q fun x => { x with rxMbit := t.symClk * 8 * dpLanes t.lanes.val / 1000000 }).rateReview [2 + 2 * q]

/-- A video frame shown at its receiver: video, rate, size, and its timing kept. -/
def State.dpShown (s : State) (q : Nat) (t : DpTiming) : State :=
  ((s.dpLinked q t).sets [(F.DPE_DP_STATUS_VIDEO q, 1), (F.DPE_DP_DRATE_KBPS q, s.drate t),
    (F.DPE_DP_TIMING_HACTIVE q, t.hwidth.toNat), (F.DPE_DP_TIMING_VACTIVE q, t.vheight.toNat)]).mapDp q fun x => { x with
      rxTiming := timingBytes t, format := t.format.toNat }

/-- The SDPs of a video frame that are sent: the first four that are good. -/
def sdpsSent (sdps : List (Bool × List Byte)) : List (List Byte) := ((sdps.filter fun d => d.1).take 4).map (·.2)

section Receiver
variable {s : State} {q : Fin 3} {i : Nat} (live : s.boltUp = true) (runs : s.dpOn q.val = true)
include live runs

/-- A frame of the timing that the receiver knows, at a rate that fits its entry's grant: its descriptor and its SDPs go out. -/
theorem dpVideoFrame_sends {t : DpTiming} (sdps : List (Bool × List Byte)) (linked : s.on (F.DPE_DP_STATUS_RX_LINK q) = true)
    (clocked : t.nvid.toNat * t.htotal.toNat * t.vtotal.toNat ≠ 0) (timing : (s.dpq q.val).rxTiming = timingBytes t)
    (format : (s.dpq q.val).format = t.format.toNat) (entry : (s.dpShown q t).dpEntry q.val 0 0 = some i)
    (fits : s.drate t ≤ ((s.dpShown q t).bucket (s.dpShown q t).cycle i 0x0C).1) :
    let n := (s.dpq q.val).frames
    let kept : State := (s.dpShown q t).mapDp q.val fun x => { x with short := false, frames := (n + 1) % 2 ^ 32 }
    exec (.dpVideoFrame q t sdps) s = .next (((kept.sendDisplay i 1 true n (descriptor t n false)).each (sdpsSent sdps)
      fun d s => s.sendDisplay i 2 false n (bytesAt d 0 36)).sat (F.DPE_DP_CNT2_SDP_DROP q) (sdps.length - (sdpsSent sdps).length)) := by
  have row : exec (.dpVideoFrame q t sdps) s = execDpVideoFrame q t sdps s := rfl
  rw [row, execDpVideoFrame, ifBolt_of_boltUp live]
  extract_lets n kept x rate s0 s1 s2 changed s3
  have same : changed = false := by simp [changed, x, timing, format]
  have sent : s3 = s.dpShown q t := by
    unfold s3 s2 s1 s0
    rw [same, if_neg clocked, linked]
    rfl
  rw [sent, entry, runs, if_neg (by decide)]
  have notShort : decide (((s.dpShown q t).bucket (s.dpShown q t).cycle i 0x0C).1 < rate) = false :=
    decide_eq_false (Nat.not_lt.2 fits)
  dsimp -zeta only
  rw [notShort]
  rfl

/-- A line goes out in the segments of its width, each as one frame of the video frame that was sent last. -/
theorem dpLine_sends (line : BitVec 16) (comps : List Nat) (fits : (s.dpq q.val).short = false)
    (timed : (s.dpq q.val).rxTiming ≠ []) (entry : s.dpEntry q.val 0 0 = some i) :
    let x := s.dpq q.val
    exec (.dpLine q line comps) s = .next (s.each (segments x.format (leAt x.rxTiming 4 2)) fun g s =>
      s.sendDisplay i 0 false (x.frames + 2 ^ 32 - 1) (List.flatten [leBytes 2 line.toNat, leBytes 2 g.1, leBytes 2 g.2,
        leBytes 1 x.format, leBytes 1 0, packBits ((g.2 * pixComps x.format * pixBpc x.format + 7) / 8)
          (((comps.drop (g.1 * pixComps x.format)).take (g.2 * pixComps x.format)).flatMap fun c => msbBits (pixBpc x.format) c)])) := by
  have row : exec (.dpLine q line comps) s = execDpLine q line comps s := rfl
  have ready : (s.dpOn q.val && !(s.dpq q.val).short && decide ((s.dpq q.val).rxTiming ≠ [])) = true := by
    simp [runs, fits, timed]
  rw [row, execDpLine, ifBolt_of_boltUp live]
  dsimp only
  rw [ready, if_pos rfl, entry]

end Receiver

/-! ### The transmitter: a frame received (spec/14 R314, R315, R318; spec/06 R144) -/

/-- The quad of an entry's transmitter. -/
def Entry.txQuad (e : Entry) : Nat := (e.localPort - 3) / 2

/-- A frame in time at its sink, its SEQ noted among the last 1,024 of its quad. -/
def State.dpNoted (s : State) (i : Nat) (f : Frame) : State :=
  (s.streamSink i f.hdr).1.mapDp (s.entry i).txQuad fun x => { x with seen := (f.hdr.seq.toNat :: x.seen).take 1024 }

section FrameRx
variable {s : State} {i : Fin 1024} {f : Frame} (live : s.boltUp = true) (valid : (s.entry i).valid = true)
  (sink : (s.entry i).sink = true) (stream : (s.entry i).func = 0) (odd : (s.entry i).localPort % 2 = 1)
  (port : 3 ≤ (s.entry i).localPort) (runs : s.dpOn (s.entry i).txQuad = true)
include live valid sink stream odd port runs

/-- A frame of a display stream whose quad runs: one seen already is dropped, any other is judged by its time and its length. -/
theorem dpFrameRx_runs : exec (.dpFrameRx i f) s = .next (
    if (s.entry i).buddy && (s.dpq (s.entry i).txQuad).seen.contains f.hdr.seq.toNat then s
    else if !(s.streamSink i f.hdr).2 || !goodDisplay (hStreamAdapter f.hdr / 32) f.payload then (s.streamSink i f.hdr).1
    else (s.dpNoted i f).dpTake (s.entry i).txQuad (hStreamAdapter f.hdr / 32) (hStreamAdapter f.hdr % 16) f.payload) := by
  have row : exec (.dpFrameRx i f) s = execDpFrameRx i f s := rfl
  unfold State.dpNoted
  unfold Entry.txQuad at *
  have acts : ¬(!(s.entry i).valid || !(s.entry i).sink || decide ((s.entry i).func ≠ 0) || decide ((s.entry i).localPort % 2 ≠ 1) ||
      decide ((s.entry i).localPort < 3) || !s.dpOn (((s.entry i).localPort - 3) / 2)) = true := by
    simp [valid, sink, stream, odd, port, runs]
  rw [row, execDpFrameRx, ifBolt_of_boltUp live]
  refine congrArg _ ((if_neg acts).trans ?_)
  generalize s.streamSink i f.hdr = judged
  obtain ⟨told, inTime⟩ := judged
  rfl

theorem dpFrameRx_seen (buddy : (s.entry i).buddy = true)
    (seen : (s.dpq (s.entry i).txQuad).seen.contains f.hdr.seq.toNat = true) : exec (.dpFrameRx i f) s = .next s := by
  rw [dpFrameRx_runs live valid sink stream odd port runs, buddy, seen, if_pos (Bool.and_self true)]

variable (single : (s.entry i).buddy = false)
include single

theorem dpFrameRx_late (late : (s.streamSink i f.hdr).2 = false) :
    exec (.dpFrameRx i f) s = .next (s.streamSink i f.hdr).1 := by
  simp [dpFrameRx_runs live valid sink stream odd port runs, single, late]

theorem dpFrameRx_good {kind : Nat} (inTime : (s.streamSink i f.hdr).2 = true) (dkind : hStreamAdapter f.hdr / 32 = kind)
    (good : goodDisplay kind f.payload = true) : exec (.dpFrameRx i f) s =
      .next ((s.dpNoted i f).dpTake (s.entry i).txQuad kind (hStreamAdapter f.hdr % 16) f.payload) := by
  simp [dpFrameRx_runs live valid sink stream odd port runs, single, inTime, dkind, good]

end FrameRx

/-! ### The transmitter at a vertical sync (spec/14 R317, R318) -/

section Vsync
variable {s : State}

/-- The error of a vertical sync against the last descriptor's VT_NS and the playout delay (spec/14 R317). -/
def State.vsyncError (s : State) (q : Nat) (own : BitVec 64) : Int :=
  toSigned 64 ((own.toNat + 2 ^ 65 - leAt (s.dpq q).txTiming 24 8 - s.playD * 125000) % 2 ^ 64)

/-- The quad after a vertical sync with error `e` (spec/14 R317): `v` is the next frame displayed unless it is blanked. -/
def DpQuad.synced (x : DpQuad) (v : Nat) (e : Int) (lineNs frameNs : Nat) : DpQuad :=
  let trim : Int := if frameNs = 0 then 0 else (-e * 1000000000) / (frameNs : Int)
  let lines : Int := (2 * (e.natAbs : Int) + lineNs) / (2 * max 1 (lineNs : Int))
  { x with
    play := if frameNs < e.natAbs then none else some v
    segs := x.segs.filter fun g => g.1 / 2 ^ 32 = v
    trim := if trim < -500000 then -500000 else if 500000 < trim then 500000 else trim
    vAdj := if lineNs < e.natAbs then (if 0 ≤ e then -lines else lines) else 0
    noPixels := x.noPixels + 1 }

/-- The lines of the frame displayed until now, and how many of their segments were filled (spec/14 R318). -/
def DpQuad.displayed (x : DpQuad) : List (List (Option (List Byte))) × Nat :=
  match if x.black then none else x.play with
  | some v => fillFrame x.segs (segments x.txFormat (leAt x.txTiming 4 2)) v (leAt x.txTiming 12 2) 0 none
  | none => ([], 0)

/-- The transmitter's link shown as up. -/
def State.txShown (s : State) (q : Nat) : State :=
  if s.on (F.DPE_DP_STATUS_TX_LINK q) then s else (s.set (F.DPE_DP_STATUS_TX_LINK q) 1).irq bDpe 1

/-- The transmitter's port at the rate to which its link has trained (spec/08 R499). -/
def State.txLinked (s : State) (q mbit : Nat) : State :=
  ((s.txShown q).mapDp q fun x => { x with txMbit := mbit }).rateReview [3 + 2 * q]

/-- The displayed frame sent and the quad synchronised. -/
def State.vsynced (s : State) (q mbit : Nat) (e : Int) (lineNs frameNs : Nat) : State :=
  ((s.txLinked q mbit).emit (.dpVideo q (s.dpq q).displayed.1)).mapDp q fun x =>
    x.synced (leAt (s.dpq q).txTiming 32 4 % 16) e lineNs frameNs

theorem txShown_dp (q : Nat) : (s.txShown q).bolt.dp = s.bolt.dp := by
  unfold State.txShown
  split
  · rfl
  · exact eq_of_untold (fun s => s.bolt.dp) (untold_irq ..)

theorem txLinked_dp_length (q mbit : Nat) : (s.txLinked q mbit).bolt.dp.length = s.bolt.dp.length := by
  rw [State.txLinked, rateReview_dp]
  exact (List.length_set ..).trans (congrArg _ (txShown_dp q))

theorem txLinked_dpq {q : Nat} (present : q < s.bolt.dp.length) (mbit : Nat) :
    (s.txLinked q mbit).dpq q = { s.dpq q with txMbit := mbit } := by
  rw [← txShown_dp q] at present
  rw [State.txLinked, dpq_of_dp (rateReview_dp ..), mapDp_dpq present, dpq_of_dp (txShown_dp q)]

theorem vsynced_dpq {q : Nat} (present : q < s.bolt.dp.length) (mbit : Nat) (e : Int) (lineNs frameNs : Nat) :
    (s.vsynced q mbit e lineNs frameNs).dpq q =
      DpQuad.synced { s.dpq q with txMbit := mbit } (leAt (s.dpq q).txTiming 32 4 % 16) e lineNs frameNs := by
  rw [State.vsynced, mapDp_dpq ((txLinked_dp_length q mbit).symm ▸ present), emit_dpq, txLinked_dpq present]

end Vsync

/-! ### The transmitter: its rows of vertical sync, black frames, hot plug (spec/14 R317 to R319) -/

section Transmitter
variable {s : State} {q : Fin 3} (live : s.boltUp = true) (runs : s.dpOn q.val = true)
include live runs

theorem dpNoVideo_blackens (starved : 4 ≤ (s.dpq q.val).noPixels) :
    exec (.dpNoVideo q) s = .next (s.mapDp q.val fun x => { x with black := true }) := by
  have row : exec (.dpNoVideo q) s = execDpNoVideo q s := rfl
  rw [row, execDpNoVideo, ifBolt_of_boltUp live]
  exact congrArg _ (if_pos (by simp [runs, starved]))

/-- A rise of HPD keeps at most four blocks of the EDID read. -/
theorem hpdRise_rises (irqs : BitVec 8) (ok : Bool) (edid : List Byte) (low : (s.dpq q.val).hpd = false) :
    let risen : State := s.mapDp q.val fun x => { x with
      hpd := true, irqs := (x.irqs + irqs.toNat) % 256, edid := edid.take 512, edidOk := ok }
    exec (.hpdRise q true irqs ok edid) s = .next
      (if crc32 (risen.dpq q.val).edid ≠ crc32 (s.dpq q.val).edid then risen.irq bDpe 4 else risen).sampleHpd := by
  have row : exec (.hpdRise q true irqs ok edid) s = execHpdRise q true irqs ok edid s := rfl
  intro risen
  have rises : (true && !(s.dpq q.val).hpd) = true := by rw [low]; rfl
  rw [row, execHpdRise, ifBolt_of_boltUp live, runs]
  dsimp only
  rw [if_neg (by decide), rises]
  simp only [if_true]
  rfl

theorem dpTxVsync_syncs (own : BitVec 64) (lineNs frameNs : Nat) (rate : Fin 4) (lanes : Fin 3) (timed : (s.dpq q.val).txTiming ≠ []) :
    let e := s.vsyncError q own
    let t := s.vsynced q (dpLaneRate rate.val * dpLanes lanes.val) e lineNs frameNs
    exec (.dpTxVsync q own ⟨lineNs, frameNs⟩ ⟨rate, lanes⟩) s =
      .next (((if lineNs < e.natAbs then t.sat (F.DPE_DP_CNT_FRAME_ADJ q) 1 else t).sat (F.DPE_DP_CNT_LINE_REPEAT q)
        (s.dpq q.val).displayed.2).set (F.DPE_DP_ERR_E_NS q) (ofSigned 32 e)) := by
  have row : exec (.dpTxVsync q own ⟨lineNs, frameNs⟩ ⟨rate, lanes⟩) s = execDpTxVsync q own ⟨lineNs, frameNs⟩ ⟨rate, lanes⟩ s := rfl
  have acts : ¬(!s.dpOn q.val || decide ((s.dpq q.val).txTiming = [])) = true := by simp [runs, timed]
  rw [row, execDpTxVsync, ifBolt_of_boltUp live]
  refine congrArg _ ((if_neg acts).trans ?_)
  unfold State.vsynced DpQuad.displayed
  dsimp only
  generalize (if (s.dpq q.val).black = true then none else (s.dpq q.val).play) = playing
  cases playing with
  | none => rfl
  | some v =>
    dsimp only
    generalize fillFrame (s.dpq q.val).segs (segments (s.dpq q.val).txFormat (leAt (s.dpq q.val).txTiming 4 2)) v
      (leAt (s.dpq q.val).txTiming 12 2) 0 none = frame
    rfl

/-- At a vertical sync the error is shown; from it follow whether the next frame is displayed and the change of its lines. -/
theorem dpTxVsync_shows (own : BitVec 64) (lineNs frameNs : Nat) (rate : Fin 4) (lanes : Fin 3) (timed : (s.dpq q.val).txTiming ≠ []) :
    ∃ t : State, exec (.dpTxVsync q own ⟨lineNs, frameNs⟩ ⟨rate, lanes⟩) s = .next t ∧
      t.get (F.DPE_DP_ERR_E_NS q) = ofSigned 32 (s.vsyncError q own) % 2 ^ 32 ∧
      (t.dpq q.val).play = (if frameNs < (s.vsyncError q own).natAbs then none else some (leAt (s.dpq q.val).txTiming 32 4 % 16)) ∧
      ((s.vsyncError q own).natAbs ≤ lineNs → (t.dpq q.val).vAdj = 0) ∧
      (t.dpq q.val).noPixels = (s.dpq q.val).noPixels + 1 := by
  refine ⟨_, dpTxVsync_syncs live runs own lineNs frameNs rate lanes timed, get_set_same _ _ _ (Nat.le_refl 32), ?_⟩
  have counted (t : State) (c : Prop) [Decidable c] (f : Fld) : (if c then t.sat f 1 else t).dpq q.val = t.dpq q.val := by
    split <;> rfl
  rw [set_dpq, sat_dpq, counted, vsynced_dpq (dp_present timed)]
  exact ⟨rfl, fun near => if_neg (Nat.not_lt.2 near), rfl⟩

end Transmitter

/-! ### The obligation, part by part -/

/-- Settles O39: a video frame and a line sent, a frame received, black frames, vertical sync and hot plug. -/
theorem displayTunnels : Obligations.DisplayTunnels := by
  refine ⟨fun s q t sdps i live runs linked clocked timing format entry fits => ?video,
    fun s q line comps i live runs fits timed entry => ?line, fun s i f live valid sink stream odd port runs => ⟨?seen, fun single =>
      ⟨?late, fun inTime => ⟨fun sdp len => ?sdp, fun descriptor len => ?descriptor, fun pixels header len => ?pixels⟩⟩⟩,
    fun s q live runs => ⟨?black, fun own lineNs frameNs rate lanes timed => ?vsync, ?rise⟩⟩
  case video => exact dpVideoFrame_sends live runs sdps linked clocked timing format entry fits
  case line => exact dpLine_sends live runs line comps fits timed entry
  case seen => exact dpFrameRx_seen live valid sink stream odd port runs
  case late => exact dpFrameRx_late live valid sink stream odd port runs single
  case sdp => exact dpFrameRx_good live valid sink stream odd port runs single inTime sdp (decide_eq_true len)
  case descriptor => exact dpFrameRx_good live valid sink stream odd port runs single inTime descriptor (decide_eq_true len)
  case pixels =>
    have good : goodDisplay 0 f.payload = true := Bool.and_eq_true_iff.2 ⟨decide_eq_true header, decide_eq_true len⟩
    exact dpFrameRx_good live valid sink stream odd port runs single inTime pixels good
  case black => exact dpNoVideo_blackens live runs
  case vsync =>
    obtain ⟨t, row, shows⟩ := dpTxVsync_shows live runs own lineNs frameNs rate lanes timed
    exact ⟨t, row, fun e is => is ▸ shows⟩
  case rise => exact hpdRise_rises live runs

end Sys2Proof.Machine
end


section
/-! The scheduler's rows (spec/08 R194, R197, R198, R201, R202, R208; spec/07 R163, R166, R182): tokens, a placement fixed, a placement
started, a copy that waited for its threshold, and the statistics of a sampled queue cleared. -/

namespace Sys2Proof.Machine

/-! ### Tokens and placements fixed (spec/08 R197, R198, R201) -/

/-- The first placement that is not fixed, its lead within the cycle: errors of at least 3 bits in its link-memory entry lose the
queue's link memory; fewer are corrected and counted, and the frame is read. -/
theorem fixPlacement_fixes {s : State} {p : Nat} {y : Placement} (first : ((s.psch p).slots.find? fun z => !z.isFixed) = some y)
    (leads : s.absPs y.cycle y.start - s.get F.SCH_STAGE_CFG_LEAD_NS * 1000 < cyclePs) (word bits link : Nat) :
    let done : State := (s.showInstant (s.absPs y.cycle y.start - s.get F.SCH_STAGE_CFG_LEAD_NS * 1000)).mapPsch p fun x =>
      { x with slots := x.slots.map fun z => if z = y then { z with isFixed := true } else z }
    s.fixPlacement p word bits link = if 3 ≤ link then done.linkLost y word else
      (if 1 ≤ link then done.sat F.SWB_ECC_CNT_CORR 1 else done).egressRead y.frame word bits := by
  rw [State.fixPlacement, first]
  exact if_neg (Nat.not_le.2 leads)

section Running
variable {s : State} {p : Fin 12} {y : Placement} (live : s.boltUp = true)
include live

theorem tokenAdd_adds :
    let shown : State := { s.showInstant (min (cyclePs - 1) s.bolt.sch.tokNext) with bolt.sch.tokNext := s.bolt.sch.tokNext + 40960 }
    let gained : State := shown.addAllTokens.refillAll 64
    let tried : State := gained.each (gained.bolt.tun.filter fun e => !e.2.waiting.isEmpty) fun ie s => s.retryWaiting ie.1
    exec .tokenAdd s = .next (tried.placeAll).rebuilt := by
  have row : exec .tokenAdd s = execTokenAdd s := rfl
  rw [row, execTokenAdd, ifBolt_of_boltUp live]

theorem placementFixed_fixes (word bits link : Nat) : exec (.placementFixed p ⟨word, bits⟩ link) s =
    .next ((s.fixPlacement p word bits link).deadReview s) := by
  have row : exec (.placementFixed p ⟨word, bits⟩ link) s = execPlacementFixed p ⟨word, bits⟩ link s := rfl
  rw [row, execPlacementFixed, ifBolt_of_boltUp live]

/-! ### A placement's instant and a copy's threshold (spec/08 R194, R202; spec/07 R182) -/

/-- At its instant the first placement of a free wire goes back to its queue, starts, or waits for its threshold. -/
theorem placementStart_decides {rest : List Placement} {x : Stored} (slots : (s.psch p).slots = y :: rest)
    (free : (s.port p).onWire = none) (comes : s.absPs y.cycle y.start < cyclePs)
    (noneLate : ((s.psch p).late.any fun z => z.queue / 16 = y.queue / 16) = false)
    (stored : (s.showInstant (s.absPs y.cycle y.start)).stored y.frame = some x) :
    let at' : State := s.showInstant (s.absPs y.cycle y.start)
    exec (.placementStart p) s = .next (
      if !at'.mayStart p y.cls (cellsOf x.frame.hdr.length.toNat) then at'.giveBack p [y]
      else if x.complete || at'.threshold x p ≤ x.got then
        (at'.mapPsch p fun z => { z with slots := rest }).wireStart p y.frame y.queue y.cl
      else (at'.mapPsch p fun z => { z with slots := rest, late := z.late ++ [y] }).mapCopy y.frame y.queue fun c =>
        { c with st := .threshold }) := by
  have row : exec (.placementStart p) s = execPlacementStart p s := rfl
  have notPast : ¬ 2 ^ 31 * cyclePs ≤ s.absPs y.cycle y.start + cyclePs := by
    have cycle : 0 < cyclePs := by decide
    omega
  have acts : ¬ ((s.port p).onWire.isSome || 2 ^ 31 * cyclePs ≤ s.absPs y.cycle y.start + cyclePs ||
      cyclePs ≤ s.absPs y.cycle y.start || (s.psch p).late.any fun z => z.queue / 16 = y.queue / 16) = true := by
    simp only [free, notPast, Nat.not_le.2 comes, noneLate]
    decide
  rw [row, execPlacementStart, ifBolt_of_boltUp live, slots]
  dsimp only
  rw [if_neg acts, stored]

/-- A copy that waited and has its threshold starts when it still fits and may start, and spills with its charges returned otherwise. -/
theorem cutThroughStart_decides {x : Stored} (free : (s.port p).onWire = none) (waits : (s.psch p).late = [y])
    (stored : s.stored y.frame = some x) (ready : x.complete = true ∨ s.threshold x p ≤ x.got) :
    exec (.cutThroughStart p) s = .next (
      if s.fits p y.cls s.cycle s.bolt.sch.now (s.lastsPs p y.cl) && s.mayStart p y.cls (cellsOf x.frame.hdr.length.toNat) then
        (s.mapPsch p fun z => { z with late := z.late.filter fun w => w != y }).wireStart p y.frame y.queue y.cl
      else ((s.mapCopy y.frame y.queue fun c => { c with whole := true }).giveBack p [y]).sat (F.SCH_PORT_HOLD_SPILL p) 1) := by
  have row : exec (.cutThroughStart p) s = execCutThroughStart p s := rfl
  have found : ([y].find? fun z => (s.stored z.frame).any fun x => x.complete || decide (s.threshold x p ≤ x.got)) = some y :=
    List.find?_cons_of_pos (by simpa [stored] using ready)
  rw [row, execCutThroughStart, ifBolt_of_boltUp live, waits, free]
  dsimp only
  rw [if_neg (by decide), found]
  dsimp only
  rw [stored]

end Running

/-! ### Statistics of a sampled queue (spec/08 R208) -/

theorem sampCtrl_written_queueStats (s : State) (v : Word) : (s.written R.SCH_SAMP_CTRL v).bolt.queueStats = s.bolt.queueStats := by
  rw [written_bolt (by decide)]
  exact eq_of_untold (fun s => s.bolt.queueStats) (untold_storeWrite ..) fun _ => rfl

theorem sampClear_clears {s : State} {who : Requester} {v : Word} (acc : s.accepts who R.SCH_SAMP_CTRL)
    (clear : (s.written R.SCH_SAMP_CTRL v).on F.SCH_SAMP_CTRL_CLEAR = true) :
    let w := s.written R.SCH_SAMP_CTRL v
    exec (.sampClear who v) s = .next (({ w with
      bolt.queueStats := eraseKey (w.get F.SCH_ENT_SEL_INDEX * 4 + min 2 (w.get F.SCH_ENT_SEL_QUEUE)) s.bolt.queueStats }.set
        F.SCH_SAMP_CTRL_CLEAR 0).answer who .done 0) := by
  have row : exec (.sampClear who v) s = execSampClear who v s := rfl
  rw [row, execSampClear, command_of_accepts acc, if_pos clear, sampCtrl_written_queueStats]

/-! ### The obligation, part by part -/

/-- Settles O22: tokens added, a placement fixed, a placement started, cut-through at its threshold, and a queue's samples cleared (the
start of a copy that waits for its threshold is assumption log 11; that a copy starts with all its stitches but the last, the model's own
choice, log 83; that a copy that spilled goes as a stored frame, log 88). -/
theorem schedulerEvents : Obligations.SchedulerEvents := by
  refine ⟨fun s live => tokenAdd_adds live, fun s p y word bits link live first leads => ?fixed,
    fun s p y rest x live slots free comes noneLate stored => ?start, fun s p y x live free waits stored ready => ?cutThrough,
    fun s who v acc clear => ⟨_, sampClear_clears acc clear, ?shown, ?forgotten⟩⟩
  case fixed =>
    rw [placementFixed_fixes live, fixPlacement_fixes first leads]
    refine ⟨fun noErrors => ?_, fun corrected few => ?_, fun many => by rw [if_pos many]⟩
    · rw [if_neg (by omega), if_neg (by omega)]
    · rw [if_neg (by omega), if_pos corrected]
  case start =>
    have decides := placementStart_decides live slots free comes noneLate stored
    refine ⟨fun may => ⟨fun ready => ?_, fun part short => ?_⟩, fun mayNot => decides.trans (congrArg _ (if_pos (by rw [mayNot]; rfl)))⟩
    all_goals refine decides.trans (congrArg _ ((if_neg (by rw [may]; decide)).trans ?_))
    · exact if_pos (by simpa using ready)
    · exact if_neg (by simp [part, short])
  case cutThrough =>
    have decides := cutThroughStart_decides live free waits stored ready
    exact ⟨fun fits => decides.trans (congrArg _ (if_pos fits)),
      fun spills => decides.trans (congrArg _ (if_neg (Bool.eq_false_iff.1 spills)))⟩
  case shown => exact (answer_get ..).trans (get_set_same _ _ _ (by decide))
  case forgotten => exact eq_of_untold (fun s => s.bolt.queueStats) (untold_answer ..) fun _ => rfl

end Sys2Proof.Machine
end


section
/-! Allotment messages as they arrive (spec/09 R219, R220, R222, R224, R227, R228, R232; spec/10 R236): the first copy of a SEW, an alarm
SEW, an UNPICK or a POLL, a READY and a REPORT at the coordinator.  How long a first copy is remembered and that a POLL during a check is
not answered are the model's own choices (assumption log 86); a coordinator records its own READY and REPORT (log 13). -/

namespace Sys2Proof.Machine

/-! ### A ring message acted on once (spec/10 R236) -/

theorem onFirst_of_actsOnce {s t : State} {f : Frame} (once : actsOnce s f t) (act : State → State) : s.onFirst f act = act t := by
  unfold State.onFirst
  obtain ⟨fresh, rfl⟩ | ⟨x, seen, notActed, rfl⟩ := once
  · rw [fresh]
  · rw [seen]
    exact if_neg (Bool.eq_false_iff.1 notActed)

theorem onFirst_of_acted {s : State} {f : Frame} {x : Nat × Nat × Nat × Bool} (seen : s.ringSeen f = some x) (acted : x.2.2.2 = true)
    (act : State → State) : s.onFirst f act = s := by
  unfold State.onFirst
  rw [seen]
  exact if_pos acted

/-- To note that a ring message was acted on changes the ring engine's record of messages and nothing else. -/
theorem seen_of_actsOnce {s t : State} {f : Frame} (once : actsOnce s f t) :
    ∃ seen : List (Nat × Nat × Nat × Bool), t = { s with bolt.rng.seen := seen } := by
  obtain ⟨-, rfl⟩ | ⟨x, -, -, rfl⟩ := once
  · exact ⟨_, rfl⟩
  · exact ⟨_, rfl⟩

/-- What the rows of allotment messages share: they act once, while RNG is ON. -/
theorem altRow_acts {s t : State} {f : Frame} (live : s.boltUp = true) (listens : s.isOn .rng = true) (once : actsOnce s f t)
    (act : State → State) : (s.ifBolt fun s => if !s.altListens then s else s.onFirst f act) = act t := by
  have heard : ¬ (!s.altListens) = true := by rw [State.altListens, listens]; decide
  rw [ifBolt_of_boltUp live, if_neg heard, onFirst_of_actsOnce once]

/-- A message already acted on does nothing, whether RNG is ON or not. -/
theorem altRow_ignores {s : State} {f : Frame} {x : Nat × Nat × Nat × Bool} (live : s.boltUp = true) (seen : s.ringSeen f = some x)
    (acted : x.2.2.2 = true) (act : State → State) : (s.ifBolt fun s => if !s.altListens then s else s.onFirst f act) = s := by
  rw [ifBolt_of_boltUp live, onFirst_of_acted seen acted, ite_self]

/-! ### The first copy of an OP, PLAN and CYCLE (spec/09 R219) -/

/-- A message with this OP, PLAN and CYCLE is remembered. -/
def State.copyKnown (s : State) (op plan cyc : Nat) : Bool :=
  s.bolt.alt.seen.any fun x => x.1 = op && x.2.1 = plan && x.2.2.1 = cyc

/-- A message's OP, PLAN and CYCLE noted. -/
def State.noteCopy (s : State) (op plan cyc : Nat) : State :=
  { s with bolt.alt.seen := (op, plan, cyc, s.cycle) :: s.bolt.alt.seen }

theorem firstCopy_of_new {s : State} {op plan cyc : Nat} (new : s.copyKnown op plan cyc = false) :
    s.firstCopy op plan cyc = (s.noteCopy op plan cyc, true) :=
  if_neg (Bool.eq_false_iff.1 new)

theorem firstCopy_of_known {s : State} {op plan cyc : Nat} (known : s.copyKnown op plan cyc = true) :
    s.firstCopy op plan cyc = (s, false) :=
  if_pos known

section Rows
variable {s t : State} {f : Frame} (live : s.boltUp = true) (listens : s.isOn .rng = true) (once : actsOnce s f t)
include live listens once

theorem sewRx_first {r : State} (normal : aArg f = 0) (new : t.copyKnown 2 (aPlan f) (aCycle f) = false)
    (takes : (t.noteCopy 2 (aPlan f) (aCycle f)).handleSew (aPlan f) (aCycle f) (aNode f) = r) : exec (.sewRx f) s = .next r := by
  have row : exec (.sewRx f) s = execSewRx f s := rfl
  rw [row, execSewRx, altRow_acts live listens once, normal, firstCopy_of_new new, ← takes]

theorem sewRx_stale (normal : aArg f = 0) (known : t.copyKnown 2 (aPlan f) (aCycle f) = true)
    (waits : (t.bolt.alt.sew.any fun c => c.plan = aPlan f) = true) :
    exec (.sewRx f) s = .next (t.sat F.ALT_MSG_DROP_STALE 1) := by
  have row : exec (.sewRx f) s = execSewRx f s := rfl
  rw [row, execSewRx, altRow_acts live listens once, normal, firstCopy_of_known known]
  exact congrArg _ (if_pos waits)

theorem alarmSewRx_first {r : State} (new : t.copyKnown 18 (aPlan f) (aCycle f) = false)
    (takes : (t.noteCopy 18 (aPlan f) (aCycle f)).handleAlarm (aPlan f) (aCycle f) (aNode f) = r) :
    exec (.alarmSewRx f) s = .next r := by
  have row : exec (.alarmSewRx f) s = execAlarmSewRx f s := rfl
  rw [row, execAlarmSewRx, altRow_acts live listens once, firstCopy_of_new new, ← takes]

theorem unpickRx_first {r : State} (new : t.copyKnown 3 (aPlan f) (aCycle f) = false)
    (takes : (t.noteCopy 3 (aPlan f) (aCycle f)).handleUnpick (aPlan f) (aCycle f) (aNode f) = r) :
    exec (.unpickRx f) s = .next r := by
  have row : exec (.unpickRx f) s = execUnpickRx f s := rfl
  rw [row, execUnpickRx, altRow_acts live listens once, firstCopy_of_new new, ← takes]

theorem pollRx_first {r : State} (new : t.copyKnown 5 (aPlan f) (aCycle f) = false)
    (takes : (t.noteCopy 5 (aPlan f) (aCycle f)).handlePoll (aPlan f) = r) : exec (.pollRx f) s = .next r := by
  have row : exec (.pollRx f) s = execPollRx f s := rfl
  rw [row, execPollRx, altRow_acts live listens once, firstCopy_of_new new, ← takes]

theorem readyRx_notes {r : State}
    (notes : t.noteReady (aArg f) (aNode f) (aPlan f) (leAt f.payload 12 4, leAt f.payload 16 4) = r) :
    exec (.readyRx f) s = .next r :=
  congrArg _ ((altRow_acts live listens once _).trans notes)

theorem reportRx_notes {r : State} (notes : t.noteReport (aArg f) (aNode f) (aPlan f) = r) : exec (.reportRx f) s = .next r :=
  congrArg _ ((altRow_acts live listens once _).trans notes)

end Rows

/-- No row of an allotment message acts on a message twice. -/
theorem altRows_ignore {s : State} {f : Frame} {x : Nat × Nat × Nat × Bool} (live : s.boltUp = true) (seen : s.ringSeen f = some x)
    (acted : x.2.2.2 = true) {c : Instr}
    (row : c ∈ [.sewRx f, .alarmSewRx f, .unpickRx f, .readyRx f, .reportRx f, .pollRx f]) : exec c s = .next s := by
  have ignored := altRow_ignores live seen acted
  simp only [List.mem_cons, List.not_mem_nil, or_false] at row
  obtain rfl | rfl | rfl | rfl | rfl | rfl := row
  all_goals exact congrArg _ (ignored _)

/-! ### A normal SEW (spec/09 R222) -/

section Sew
variable {s : State} {plan n origin : Nat}

theorem handleSew_otherPlan (other : s.bankPlan 1 ≠ plan) : s.handleSew plan n origin = s.sat F.ALT_MSG_DROP_PLAN_MISMATCH 1 :=
  if_pos other

section Known
variable (known : s.bankPlan 1 = plan)
include known

theorem handleSew_notReady (off : s.isOn .altBaste = false) :
    s.handleSew plan n origin = (s.report origin plan 4).altRecord 0 5 plan n (s.get F.ALT_SEWN_PLAN_PLAN) := by
  simp [State.handleSew, known, off]

variable (on : s.isOn .altBaste = true)
include on

theorem handleSew_late (late : lateFor s.cycle n = true) : s.handleSew plan n origin =
    (((s.sat F.ALT_SEW_CNT_LATE 1).irq bAlt 5).report origin plan 2).altRecord 0 3 plan n (s.get F.ALT_SEWN_PLAN_PLAN) := by
  simp [State.handleSew, known, on, late]

theorem handleSew_accepted (inTime : lateFor s.cycle n = false) (notInForce : s.on F.ALT_ALARM_STATUS_IN_FORCE = false)
    (noAlarm : s.bolt.alt.alarm = none) (noSew : (s.bolt.alt.sew.any fun c => c.plan = plan) = false)
    (noUnpick : s.unpickAhead plan = none) : s.handleSew plan n origin =
      ((({ s with bolt.alt.sew := some ⟨plan, n, origin⟩ }.irq bAlt 3).report origin plan 1).altRecord 0 1 plan n
        (s.get F.ALT_SEWN_PLAN_PLAN)).changesMoved := by
  simp [State.handleSew, known, on, inTime, notInForce, noAlarm, noSew, noUnpick]

end Known

end Sew

/-! ### An alarm SEW (spec/09 R227) -/

section Alarm
variable {s : State} {plan n origin : Nat}

theorem handleAlarm_accepted (notInForce : s.on F.ALT_ALARM_STATUS_IN_FORCE = false) (noAlarm : s.bolt.alt.alarm = none)
    (known : s.bankPlan 2 = plan) (on : s.isOn .altAlarm = true) (noUnpick : s.unpickAhead plan = none) :
    s.handleAlarm plan n origin = s.acceptAlarm plan n origin := by
  simp [State.handleAlarm, notInForce, noAlarm, known, on, noUnpick]

/-- An alarm SEW whose target lies at least four cycles ahead takes effect at its target and is reported with 1. -/
theorem acceptAlarm_inTime (inTime : later ((s.cycle + 4) % 2 ^ 32) n = false) : s.acceptAlarm plan n origin =
    ((((({ (s.preemptFor plan n).ntAbandon 1 with bolt.alt.alarm := some ⟨plan, n, origin⟩ }.report origin plan 1).altRecord
      1 1 plan n (s.get F.ALT_SEWN_PLAN_PLAN)).dropSew n).dropUnpick n)).changesMoved := by
  simp only [State.acceptAlarm, inTime, Bool.false_eq_true, if_false, if_true]

end Alarm

/-! ### An UNPICK (spec/09 R224) -/

section Unpick
variable {s : State} {plan u origin : Nat} {c : Change} (notInForce : s.on F.ALT_ALARM_STATUS_IN_FORCE = false)
  (noAlarm : s.bolt.alt.alarm = none) (inTime : lateFor s.cycle u = false)
include notInForce noAlarm inTime

/-- The plan in force goes back to the previous bank at the target. -/
theorem handleUnpick_ofSewn (sewn : s.get F.ALT_SEWN_PLAN_PLAN = plan) (noSew : s.bolt.alt.sew = none)
    (prev : s.on F.ALT_BASTE_STATUS_PREV = true) : s.handleUnpick plan u origin =
      (({ s with bolt.alt.unpick := some ⟨plan, u, origin⟩ }.report origin plan 5).altRecord 2 1 plan u
        (s.get F.ALT_SEWN_PLAN_PLAN)).changesMoved := by
  have accepted : s.handleUnpick plan u origin = s.acceptUnpick 2 plan u origin := by
    simp [State.handleUnpick, notInForce, noAlarm, inTime, sewn, noSew, prev]
  rw [accepted, State.acceptUnpick, if_pos rfl]

/-- A pending sew of the plan, its target not before the UNPICK's, is cancelled. -/
theorem handleUnpick_ofPendingSew (waits : s.bolt.alt.sew = some c) (same : c.plan = plan)
    (before : later u c.target = false) : s.handleUnpick plan u origin =
      (((({ s with bolt.alt.sew := none }.altRecord 2 1 plan u (s.get F.ALT_SEWN_PLAN_PLAN)).cancelled 0 c).report
        origin plan 5)).changesMoved := by
  simp [State.handleUnpick, notInForce, noAlarm, inTime, waits, same, before, Option.filter_some]

end Unpick

/-! ### A POLL (spec/09 R220) -/

section Poll
variable {s : State} {plan : Nat}

theorem handlePoll_otherPlan (other : s.bankPlan 1 ≠ plan) : s.handlePoll plan = s.sat F.ALT_MSG_DROP_PLAN_MISMATCH 1 := if_pos other

variable (known : s.bankPlan 1 = plan)
include known

theorem handlePoll_on (on : s.get HUnit.altBaste.state = 2) : s.handlePoll plan = s.sendReady 0 := by
  simp [State.handlePoll, known, on]

theorem handlePoll_refused (refused : s.get HUnit.altBaste.state = 3) : s.handlePoll plan = s.sendReady 1 := by
  simp [State.handlePoll, known, refused]

theorem handlePoll_off (off : s.get HUnit.altBaste.state = 0) : s.handlePoll plan = s.sendReady 2 := by
  simp [State.handlePoll, known, off]

end Poll

/-! ### READY and REPORT at the coordinator (spec/09 R220, R222) -/

/-- A sender marked ready, with its REASON, DETAIL and DIGEST. -/
def State.readyMarked (s : State) (node : Nat) (result : Nat × Nat) : State :=
  { s.markNode F.ALT_READY_NODES node true with bolt.alt.reports := insertKey node result s.bolt.alt.reports }

/-- ALT_READY covers ALT_PART. -/
def State.allReady (s : State) : Bool :=
  (List.range 8).all fun k =>
    s.get (F.ALT_PART_NODES k) &&& s.get (F.ALT_READY_NODES k) = s.get (F.ALT_PART_NODES k)

theorem markNode_bolt (s : State) (r : Nat → Fld) (node : Nat) (v : Bool) : (s.markNode r node v).bolt = s.bolt := by
  unfold State.markNode
  split
  · rfl
  · exact set_bolt _ _ _

section Coordinator
variable {s : State} {plan node arg : Nat} {result : Nat × Nat}

theorem noteReady_otherPlan (other : plan ≠ s.get F.ALT_CMD_PLAN_PLAN) :
    s.noteReady arg node plan result = s.sat F.ALT_MSG_DROP_PLAN_MISMATCH 1 :=
  if_pos other

theorem noteReport_otherPlan (other : plan ≠ s.get F.ALT_CMD_PLAN_PLAN) :
    s.noteReport arg node plan = s.sat F.ALT_MSG_DROP_PLAN_MISMATCH 1 :=
  if_pos other

variable (known : plan = s.get F.ALT_CMD_PLAN_PLAN)
include known

theorem noteReady_ready (ready : arg = 0) : s.noteReady arg node plan result =
    if (s.readyMarked node result).allReady then ((s.readyMarked node result).irq bAlt 1).irq bAlt 2
    else (s.readyMarked node result).irq bAlt 1 := by
  have reports : (s.markNode F.ALT_READY_NODES node true).bolt.alt.reports = s.bolt.alt.reports := by rw [markNode_bolt]
  rw [State.noteReady, if_neg (not_not.2 known), decide_eq_true ready, State.readyMarked, ← reports]
  simp only [Bool.and_true]
  rfl

theorem noteReport_acknowledged (taken : arg = 1 ∨ arg = 5) :
    s.noteReport arg node plan = (s.markNode F.ALT_ACK_NODES node true).irq bAlt 1 := by
  rw [State.noteReport, if_neg (not_not.2 known), if_pos taken]

theorem noteReport_late (refused : arg = 2 ∨ arg = 3 ∨ arg = 4) :
    s.noteReport arg node plan = ((s.markNode F.ALT_LATE_NODES node true).irq bAlt 1).irq bAlt 5 := by
  rw [State.noteReport, if_neg (not_not.2 known), if_neg (by omega)]
  exact if_pos (by omega)

end Coordinator

/-! ### The obligation, message by message -/

/-- Settles O23: the first copies of a SEW, an alarm SEW, an UNPICK and a POLL, READY and REPORT at the coordinator, a message already
acted on. -/
theorem allotmentMessages : Obligations.AllotmentMessages := by
  refine ⟨fun s s0 f live listens once => ?messages, fun s f x live seen acted => ?again,
    fun s plan n origin inTime => acceptAlarm_inTime inTime⟩
  case messages =>
    obtain ⟨seen, rfl⟩ := seen_of_actsOnce once
    have sew {r} := sewRx_first (r := r) live listens once
    have alarm {r} := alarmSewRx_first (r := r) live listens once
    have unpick {r} := unpickRx_first (r := r) live listens once
    have poll {r} := pollRx_first (r := r) live listens once
    have ready {r} := readyRx_notes (r := r) live listens once
    have report {r} := reportRx_notes (r := r) live listens once
    refine ⟨fun normal new => ⟨fun other => ?_, fun known off => ?_, fun known on late => ?_,
        fun known on inTime ⟨notInForce, noAlarm⟩ noSew noUnpick => ?_⟩, fun normal copy waits => ?_,
      fun new ⟨notInForce, noAlarm⟩ known on noUnpick => ?_,
      fun new ⟨notInForce, noAlarm⟩ inTime => ⟨fun sewn noSew prev => ?_, fun c waits same before => ?_⟩,
      fun new => ⟨fun other => ?_, fun known => ⟨fun on => ?_, fun refused => ?_, fun off => ?_⟩⟩,
      fun known arg => ?_, fun known arg => ?_, fun known arg => ?_, fun other => ⟨?_, ?_⟩⟩
    · exact sew normal new (handleSew_otherPlan other)
    · exact sew normal new (handleSew_notReady known off)
    · exact sew normal new (handleSew_late known on late)
    · exact sew normal new (handleSew_accepted known on inTime notInForce noAlarm noSew noUnpick)
    · exact sewRx_stale live listens once normal (Bool.eq_true_of_not_eq_false copy) waits
    · exact alarm new (handleAlarm_accepted notInForce noAlarm known on noUnpick)
    · exact unpick new (handleUnpick_ofSewn notInForce noAlarm inTime sewn noSew prev)
    · exact unpick new (handleUnpick_ofPendingSew notInForce noAlarm inTime waits same before)
    · exact poll new (handlePoll_otherPlan other)
    · exact poll new (handlePoll_on known on)
    · exact poll new (handlePoll_refused known refused)
    · exact poll new (handlePoll_off known off)
    · exact ready (noteReady_ready known arg)
    · exact report (noteReport_acknowledged known arg)
    · exact report (noteReport_late known arg)
    · exact ready (noteReady_otherPlan other)
    · exact report (noteReport_otherPlan other)
  case again =>
    have ignored {c} := altRows_ignore live seen acted (c := c)
    exact ⟨ignored (by simp), ignored (by simp), ignored (by simp), ignored (by simp), ignored (by simp), ignored (by simp)⟩

end Sys2Proof.Machine
end


section
/-! The coordinator's commands (spec/09 R215, R217 to R221, R226; spec/18 R393): the plan of the commands, SEW, UNPICK, ALARM and POLL, the
end of a plan check, an alarm command that waited.  A coordinator records its own READY at once (assumption log 13). -/

namespace Sys2Proof.Machine

/-! ### ALT_CMD_PLAN (spec/09 R220) -/

/-- A field that is cleared, or was zero before, reads 0 when the other fields cleared lie in other registers. -/
theorem get_sets_zero {s : State} {l : List Fld} {f : Fld} (apart : ∀ g ∈ l, g = f ∨ g.reg ≠ f.reg) (fits : f.lsb + f.width ≤ 32)
    (zero : s.get f = 0 ∨ f ∈ l) : (s.sets (l.map fun g => (g, 0))).get f = 0 := by
  induction l generalizing s with
  | nil => exact zero.resolve_right List.not_mem_nil
  | cons g l ih =>
    rw [List.map_cons, State.sets]
    refine ih (fun h mem => apart h (List.mem_cons_of_mem _ mem)) ?_
    obtain same | other := apart g List.mem_cons_self
    · rw [same, get_set_same _ _ _ fits]
      exact .inl (Nat.zero_mod _)
    · rw [get_set_other _ _ _ _ (.inl other)]
      exact zero.imp_right fun mem => (List.mem_cons.1 mem).resolve_left fun is => other (is ▸ rfl)

/-- The fields of the report bitmaps: ALT_READY, ALT_ACK and ALT_LATE. -/
def reportMaps : List Fld := (List.range 8).flatMap fun k => [F.ALT_READY_NODES k, F.ALT_ACK_NODES k, F.ALT_LATE_NODES k]

theorem mem_reportMaps : ∀ k < 8,
    F.ALT_READY_NODES k ∈ reportMaps ∧ F.ALT_ACK_NODES k ∈ reportMaps ∧ F.ALT_LATE_NODES k ∈ reportMaps := by
  decide

theorem reportMaps_apart : ∀ f ∈ reportMaps, ∀ g ∈ reportMaps, g = f ∨ g.reg ≠ f.reg := by decide

theorem reportMaps_fit : ∀ f ∈ reportMaps, f.lsb + f.width ≤ 32 := by decide

theorem reportMaps_besidePlan : ∀ p ∈ reportMaps.map fun g => (g, 0), p.1.reg ≠ R.ALT_CMD_PLAN := by decide

/-- The report bitmaps cleared. -/
def State.clearReports (s : State) : State := s.sets (reportMaps.map fun g => (g, 0))

theorem clearReports_zero (s : State) {f : Fld} (mem : f ∈ reportMaps) : s.clearReports.get f = 0 :=
  get_sets_zero (reportMaps_apart f mem) (reportMaps_fit f mem) (.inr mem)

theorem clearReports_plan (s : State) : s.clearReports.get F.ALT_CMD_PLAN_PLAN = s.get F.ALT_CMD_PLAN_PLAN :=
  get_sets_other reportMaps_besidePlan

theorem cmdPlan_written (s : State) (v : Word) : (s.written R.ALT_CMD_PLAN v).get F.ALT_CMD_PLAN_PLAN = v.toNat := by
  rw [written_bolt (by decide), storeWrite_rw (l := 0) (n := 32) (by decide) rfl rfl, setBits_whole, State.get, rd_wr_same]
  simp [getBits]

theorem cmdPlanWrite_clears {s : State} {who : Requester} (acc : s.accepts who R.ALT_CMD_PLAN) (v : Word) :
    exec (.cmdPlanWrite who v) s = .next ((s.written R.ALT_CMD_PLAN v).clearReports.answer who .done 0) :=
  congrArg _ (command_of_accepts acc v _)

/-! ### SEW, UNPICK, ALARM and POLL (spec/09 R221, R226) -/

/-- A message sent to all nodes and kept to be resent until the cycle before its target (spec/09 R219). -/
def State.tellAll (s : State) (p : List Byte) (n : Nat) : State :=
  { s.sendAlt 255 p with bolt.alt.resend := (s.sendAlt 255 p).bolt.alt.resend ++ [(p, n)] }

section Act
variable {s : State}

theorem cmdSew_noTrunk (down : s.noTrunk = true) : s.cmdSew = s.cmdResult 0x03 0xFFFF := if_pos down

theorem cmdUnpick_noTrunk (down : s.noTrunk = true) : s.cmdUnpick = s.cmdResult 0x03 0xFFFF := if_pos down

variable (trunk : s.noTrunk = false) (lead : s.tooNear (s.get F.ALT_CMD_TARGET_CYCLE) = false)
include trunk lead

theorem cmdSew_sends (ready : s.notReady = none) (noAlarm : s.alarmOn = false) :
    let plan := s.get F.ALT_CMD_PLAN_PLAN
    let n := s.get F.ALT_CMD_TARGET_CYCLE
    s.cmdSew = (((s.cmdResult 0 0xFFFF).tellAll (altPayload 2 0 s.addr plan n 0 0 0) n).firstCopy 2 plan n).1.handleSew
      plan n s.addr := by
  rw [State.cmdSew, if_neg (Bool.eq_false_iff.1 trunk), if_neg (Bool.eq_false_iff.1 lead), ready]
  exact if_neg (Bool.eq_false_iff.1 noAlarm)

theorem cmdUnpick_sends :
    let plan := s.get F.ALT_CMD_PLAN_PLAN
    let n := s.get F.ALT_CMD_TARGET_CYCLE
    s.cmdUnpick = (((s.cmdResult 0 0xFFFF).tellAll (altPayload 3 0 s.addr plan n 0 0 0) n).firstCopy 3 plan n).1.handleUnpick
      plan n s.addr := by
  rw [State.cmdUnpick, if_neg (Bool.eq_false_iff.1 trunk), if_neg (Bool.eq_false_iff.1 lead)]
  rfl

end Act

/-- What the write of ALT_CMD with OP ALARM does (spec/09 R221, R226). -/
def State.cmdAlarm (s : State) : State :=
  if s.noTrunk then s.cmdResult 0x03 0xFFFF
  else if s.loadHolds then { s.cmdResult 0 0xFFFF with spool.pwr := { s.spool.pwr with alarm := 3 } }
  else (s.cmdResult 0 0xFFFF).alarmCommand

/-- A POLL of a plan sent to all nodes. -/
def State.pollAll (s : State) (plan : Nat) : State :=
  (s.cmdResult 0 0xFFFF).sendAlt 255 (altPayload 5 0 s.addr plan 0 0 0 0)

/-- What the write of ALT_CMD with OP POLL does (spec/09 R220, R221). -/
def State.cmdPoll (s : State) : State :=
  if s.noTrunk then s.cmdResult 0x03 0xFFFF
  else ((s.pollAll (s.get F.ALT_CMD_PLAN_PLAN)).firstCopy 5 (s.get F.ALT_CMD_PLAN_PLAN) 0).1.handlePoll (s.get F.ALT_CMD_PLAN_PLAN)

section AlarmAndPoll
variable {s : State}

theorem cmdAlarm_noTrunk (down : s.noTrunk = true) : s.cmdAlarm = s.cmdResult 0x03 0xFFFF := if_pos down

theorem cmdPoll_noTrunk (down : s.noTrunk = true) : s.cmdPoll = s.cmdResult 0x03 0xFFFF := if_pos down

variable (trunk : s.noTrunk = false)
include trunk

theorem cmdAlarm_leaves (free : s.loadHolds = false) : s.cmdAlarm = (s.cmdResult 0 0xFFFF).alarmCommand := by
  rw [State.cmdAlarm, if_neg (Bool.eq_false_iff.1 trunk), if_neg (Bool.eq_false_iff.1 free)]

theorem cmdAlarm_waits (holds : s.loadHolds = true) :
    s.cmdAlarm = { s.cmdResult 0 0xFFFF with spool.pwr := { s.spool.pwr with alarm := 3 } } := by
  rw [State.cmdAlarm, if_neg (Bool.eq_false_iff.1 trunk), if_pos holds]

theorem cmdPoll_sends :
    let plan := s.get F.ALT_CMD_PLAN_PLAN
    s.cmdPoll = ((s.pollAll plan).firstCopy 5 plan 0).1.handlePoll plan :=
  if_neg (Bool.eq_false_iff.1 trunk)

end AlarmAndPoll

section Rows
variable {s r : State} {who : Requester} (acc : s.accepts who R.ALT_CMD)
include acc

theorem altSew_acts (does : (s.written R.ALT_CMD 1).cmdSew = r) : exec (.altSew who) s = .next (r.answer who .done 0) :=
  does ▸ congrArg _ (command_of_accepts acc 1 _)

theorem altUnpick_acts (does : (s.written R.ALT_CMD 2).cmdUnpick = r) : exec (.altUnpick who) s = .next (r.answer who .done 0) :=
  does ▸ congrArg _ (command_of_accepts acc 2 _)

theorem altAlarm_acts (does : (s.written R.ALT_CMD 3).cmdAlarm = r) : exec (.altAlarm who) s = .next (r.answer who .done 0) :=
  does ▸ congrArg _ (command_of_accepts acc 3 _)

theorem altPoll_acts (does : (s.written R.ALT_CMD 4).cmdPoll = r) : exec (.altPoll who) s = .next (r.answer who .done 0) :=
  does ▸ congrArg _ (command_of_accepts acc 4 _)

end Rows

/-! ### The end of a plan check (spec/09 R215 to R220) -/

/-- What the check of the basted bank began with: the tunnel entries and their rates in the sewn bank. -/
def State.bastedBase (s : State) : CheckBase := s.bolt.alt.bases.getD 0 ⟨[], []⟩

/-- The digest of the basted bank shown. -/
def State.digestShown (s : State) : State := s.set F.ALT_BASTE_DIGEST_CRC (s.bankDigest 1)

/-- What the check of the basted bank judges: the entries that were live as it began. -/
def State.bastedView (s : State) : State := { s.digestShown with bolt.tun := s.bastedBase.entries }

/-- The digest and the results of the check kept. -/
def State.bastedKept (s : State) : State :=
  { s.digestShown with bolt.alt.checks := setAt s.bolt.alt.checks 0 (s.bastedView.checkResults 1) }

/-- The basted unit ON, its bank checked, CHECK_DONE raised. -/
def State.bastedPassed (s : State) : State :=
  { s.sets [(HUnit.altBaste.state, 2), (HUnit.altBaste.reason, 0), (HUnit.altBaste.detail, 0xFFFF)] with
    bolt.alt.checked := setAt s.bolt.alt.checked (s.role 1) true }.irq bAlt 0

/-- The basted unit as its check ends: refused with the first failure, or ON. -/
def State.bastedJudged (s : State) : State :=
  match s.bastedView.planCheck 1 s.bastedBase.rates with
  | some (code, detail) => s.bastedKept.refuseUnit .altBaste code detail
  | none => s.bastedKept.bastedPassed

/-- READY told, with ARG 0 by a unit that is ON and ARG 1 by one that is not. -/
def State.tellReady (s : State) : State := s.sendReady (if s.isOn .altBaste then 0 else 1)

section Basted
variable {s : State} {code detail : Nat} (checking : s.get HUnit.altBaste.state = 1)
include checking

theorem planDone_basted : s.planDone false = s.bastedJudged.tellReady := if_neg (not_not.2 checking)

theorem planDone_refused (fails : s.bastedView.planCheck 1 s.bastedBase.rates = some (code, detail)) :
    s.planDone false = (s.bastedKept.refuseUnit .altBaste code detail).tellReady := by
  rw [planDone_basted checking, State.bastedJudged, fails]

theorem planDone_passed (passes : s.bastedView.planCheck 1 s.bastedBase.rates = none) :
    s.planDone false = s.bastedKept.bastedPassed.tellReady := by
  rw [planDone_basted checking, State.bastedJudged, passes]

end Basted

theorem planCheckDone_ends {s t : State} {alarm : Bool} (live : s.boltUp = true) (ends : s.planDone alarm = t) :
    exec (.planCheckDone alarm) s = .next t :=
  congrArg _ ((ifBolt_of_boltUp live _).trans ends)

theorem planDone_idle {s : State} {alarm : Bool} (idle : s.get (if alarm then HUnit.altAlarm else HUnit.altBaste).state ≠ 1) :
    s.planDone alarm = s :=
  if_pos idle

/-! ### An alarm command that waited (spec/09 R226; spec/18 R393) -/

theorem alarmCmd_leaves {s : State} {ms : Nat} (aon : s.spool.aon = true) (may : s.alarmMay = true)
    (leaves : (s.spool.pwr.alarm = 1 ∧ 10 ≤ ms) ∨
      s.spool.pwr.alarm ≠ 0 ∧ (s.spool.pwr.alarm = 3 ∨ s.portUp 0 = true ∨ s.portUp 1 = true)) :
    exec (.alarmCmd ms) s = .next s.alarmNow := by
  have row : exec (.alarmCmd ms) s = execAlarmCmd ms s := rfl
  rw [row, execAlarmCmd, ifAon_of_aon aon]
  refine congrArg _ (ite_eq_left_iff.2 fun notYet => ?_)
  have due : s.spool.pwr.alarm ≠ 0 ∧ (s.spool.pwr.alarm = 3 ∨ s.portUp 0 = true ∨ s.portUp 1 = true) :=
    leaves.resolve_left fun ⟨waits, late⟩ => notYet (by simp [waits, late, may])
  exact if_pos (by simpa [may, or_assoc] using due)

/-! ### The obligation, command by command -/

/-- Settles O24: ALT_CMD_PLAN, the four commands, the end of a check, an alarm command that waited. -/
theorem allotmentCommands : Obligations.AllotmentCommands := by
  refine ⟨fun s who v acc => ⟨_, cmdPlanWrite_clears acc v, ?plan, fun k small => ?cleared⟩, fun s who acc => ?commands,
    fun s live checking => ⟨fun code detail fails => ?refused, fun passes => ?passed⟩, fun s alarm live idle => ?idle,
    fun s ms aon may => ⟨fun waits late => ?late, fun waits up => ?up, fun waits => ?held⟩⟩
  case plan => rw [answer_get, clearReports_plan, cmdPlan_written]
  case cleared =>
    obtain ⟨ready, ack, late⟩ := mem_reportMaps k small
    simp only [answer_get, clearReports_zero _ ready, clearReports_zero _ ack, clearReports_zero _ late, and_self]
  case commands =>
    refine ⟨fun down => ?_, fun down => ?_, fun down => ?_, fun down => ?_, fun trunk lead ready noAlarm => ?_,
      fun trunk lead => ?_, fun trunk => ⟨fun free => ?_, fun holds => ?_⟩, fun trunk => ?_⟩
    · exact altSew_acts acc (cmdSew_noTrunk down)
    · exact altUnpick_acts acc (cmdUnpick_noTrunk down)
    · exact altAlarm_acts acc (cmdAlarm_noTrunk down)
    · exact altPoll_acts acc (cmdPoll_noTrunk down)
    · exact altSew_acts acc (cmdSew_sends trunk lead ready noAlarm)
    · exact altUnpick_acts acc (cmdUnpick_sends trunk lead)
    · exact altAlarm_acts acc (cmdAlarm_leaves trunk free)
    · exact altAlarm_acts acc (cmdAlarm_waits trunk holds)
    · exact altPoll_acts acc (cmdPoll_sends trunk)
  case refused => exact planCheckDone_ends live (planDone_refused checking fails)
  case passed => exact planCheckDone_ends live (planDone_passed checking passes)
  case idle => exact planCheckDone_ends live (planDone_idle idle)
  case late => exact alarmCmd_leaves aon may (.inl ⟨waits, late⟩)
  case up => exact alarmCmd_leaves aon may (.inr ⟨waits, .inr up⟩)
  case held => exact alarmCmd_leaves aon may (.inr ⟨by omega, .inl waits⟩)

end Sys2Proof.Machine
end


section
/-! Ring messages as they arrive (spec/10 R235 to R248, R251, R252): forwarding, beacons, announcements, edges, claims, the roll call,
joins, heals, openings, NAKs, mail.  That every copy of an ANNOUNCE shows its direction, that a census entry of another UID stays until
its FORGET and that a BEACON of another ring goes no further are the model's own choices (assumption log 15). -/

namespace Sys2Proof.Machine

/-- A row of the bolt die's units does on a hub that runs what its operation does. -/
theorem next_ifBolt {s r : State} {act : State → State} (live : s.boltUp = true) (does : act s = r) :
    (.next (s.ifBolt act) : Step) = .next r :=
  congrArg _ ((ifBolt_of_boltUp live act).trans does)

/-! ### RING_CTRL_RX (spec/10 R235, R236, R238) -/

section Arrival
variable {s : State} {p : Nat} {f : Frame}

theorem ringRx_unknown (unknown : ringLenOk f = false) : s.ringRx p f = s.sat F.RNG_DROP2_UNKNOWN_OP 1 :=
  if_pos (by rw [unknown]; rfl)

/-- A message bound to no role is processed whatever its EPOCH. -/
theorem roleVerdict_roleFree (toAny : rToMaster f.hdr = false) (fromAny : rFromMaster f.hdr = false) : s.roleVerdict f = 0 :=
  if_pos (by rw [toAny, fromAny]; rfl)

/-- A message of an OP that RING_CTRL_RX forwards itself: a fresh one is noted, a copy counted, and both go on. -/
theorem ringRx_heard (on : s.isOn .rng = true) (known : ringLenOk f = true) (mine : s.ringMine f = true)
    (plain : rOp f.hdr ∉ [opBeacon, opClaim, opRollcall]) (holds : (s.ringNote f false).roleVerdict f = 0) :
    s.ringRx p f = (if (s.ringSeen f).isSome then s.sat F.RNG_DROP2_DUP 1 else s.ringNote f false).ringForward p f := by
  simp only [List.mem_cons, List.not_mem_nil, or_false, not_or] at plain
  simp [State.ringRx, on, known, mine, plain, holds]

end Arrival

/-! ### BEACON (spec/10 R237, R240, R245) -/

section Beacon
variable {s t : State} {p : Nat} {f : Frame} (on : s.isOn .rng = true) (op : rOp f.hdr = opBeacon) (known : ringLenOk f = true)
include on op known

theorem beacon_otherRing (other : s.sameRing f = false) : s.beacon p f = s.mismatchOn p := by
  refine (if_neg ?_).trans (if_pos ?_)
  · simp [on, op, known]
  · rw [other]; rfl

theorem beacon_follows (once : actsOnce s f t) (same : s.sameRing f = true) (holds : s.roleVerdict f = 0)
    (foreign : f.hdr.src.toNat ≠ s.addr) (member : t.isMaster = false) : s.beacon p f = t.followBeacon f := by
  refine (if_neg ?_).trans ((if_neg ?_).trans ((if_neg ?_).trans
    ((onFirst_of_actsOnce once _).trans (if_neg (Bool.eq_false_iff.1 member)))))
  · simp [on, op, known]
  · simp [same]
  · simp [holds, foreign]

end Beacon

/-! ### ANNOUNCE (spec/10 R236, R242, R246) -/

/-- The sender of an ANNOUNCE with HOPS 0 noted as the neighbour of the trunk, and as the far node of the trunk's edge. -/
def State.neighbourNoted (s : State) (p a : Nat) : State :=
  let s1 := s.set (if p = 0 then F.RNG_NEIGH_EAST else F.RNG_NEIGH_WEST) a
  { s1 with bolt.rng.own := setAt s1.bolt.rng.own p ((s1.bolt.rng.own.getD p none).map fun e : Edge => { e with far := a }) }

/-- The hops to a node noted for the direction that a trunk leads in. -/
def State.hopsNoted (s : State) (p a d : Nat) : State :=
  if p = 0 then { s with bolt.rng.he := insertKey a d s.bolt.rng.he } else { s with bolt.rng.hw := insertKey a d s.bolt.rng.hw }

/-- What an ANNOUNCE shows of the ring: the neighbour, and in a CLOSED ring the hops. -/
def State.announceShown (s : State) (p : Nat) (f : Frame) : State :=
  let s1 := if rHops f.hdr ≠ 0 then s else s.neighbourNoted p f.hdr.src.toNat
  if s1.get F.RNG_STATUS_RING ≠ 1 then s1 else s1.hopsNoted p f.hdr.src.toNat (rHops f.hdr + 1)

/-- Another UID holds the address. -/
def State.heldByOther (s : State) (a uid : Nat) : Bool := (lookupKey a s.bolt.rng.census).any fun c => c.uid != uid

section Announce
variable {s t : State} {p : Nat} {f : Frame}

theorem announceShown_of {r : State} (noted : (if rHops f.hdr ≠ 0 then s else s.neighbourNoted p f.hdr.src.toNat) = r) :
    s.announceShown p f = if r.get F.RNG_STATUS_RING ≠ 1 then r else r.hopsNoted p f.hdr.src.toNat (rHops f.hdr + 1) :=
  noted ▸ rfl

theorem announceShown_far_open (far : rHops f.hdr ≠ 0) (isOpen : s.get F.RNG_STATUS_RING = 2) : s.announceShown p f = s :=
  (announceShown_of (if_pos far)).trans (if_pos (by rw [isOpen]; decide))

theorem announceShown_near_open (near : rHops f.hdr = 0) (isOpen : s.get F.RNG_STATUS_RING = 2) :
    s.announceShown p f = s.neighbourNoted p f.hdr.src.toNat := by
  have stays : (s.neighbourNoted p f.hdr.src.toNat).get F.RNG_STATUS_RING = 2 :=
    (get_set_other _ _ _ _ (.inl (by split <;> decide))).trans isOpen
  exact (announceShown_of (if_neg (not_not.2 near))).trans (if_pos (by rw [stays]; decide))

theorem announceShown_far_closed (far : rHops f.hdr ≠ 0) (closed : s.get F.RNG_STATUS_RING = 1) :
    s.announceShown p f = s.hopsNoted p f.hdr.src.toNat (rHops f.hdr + 1) :=
  (announceShown_of (if_pos far)).trans (if_neg (not_not.2 closed))

/-- A sender whose address another UID holds stays out of the census. -/
theorem announce_heard (on : s.isOn .rng = true) (op : rOp f.hdr = opAnnounce) (known : ringLenOk f = true)
    (sent : f.hdr.src.toNat ≠ 0) (shown : s.announceShown p f = t) : s.announce p f =
      if t.heldByOther f.hdr.src.toNat (leAt f.payload 0 16) then t else t.censusPut f.hdr.src.toNat (leAt f.payload 0 16) := by
  subst shown
  exact if_neg (by simp [on, op, known, sent])

end Announce

/-! ### EDGE, CLAIM and ROLLCALL (spec/10 R239, R243, R245, R247, R248) -/

section Passing
variable {s t : State} {p : Nat} {f : Frame} (on : s.isOn .rng = true) (known : ringLenOk f = true) (once : actsOnce s f t)

include on known once in
/-- A planned edge enters the list; it starts no roll call and withdraws no heal. -/
theorem edge_planned (op : rOp f.hdr = opEdge) (sent : f.hdr.src.toNat ≠ 0) (foreign : f.hdr.src.toNat ≠ s.addr)
    (planned : leAt f.payload 1 1 = 2) : s.edge p f =
      ((t.putEdge ⟨f.hdr.src.toNat, leAt f.payload 0 1 % 2, 2, leAt f.payload 4 4, leAt f.payload 8 1, 0⟩).ntEdge
        f.hdr.src.toNat (leAt f.payload 8 1)).autoHeal := by
  have noRoll (u : State) : u.rollFor ⟨f.hdr.src.toNat, leAt f.payload 0 1 % 2, 2, leAt f.payload 4 4, leAt f.payload 8 1, 0⟩ = u :=
    if_neg (by simp)
  rw [State.edge, if_neg (by simp [on, op, known, sent, foreign])]
  simp only [planned]
  rw [if_neg (by simp)]
  refine (onFirst_of_actsOnce once _).trans ?_
  rw [if_pos (by decide), noRoll]

include on known once in
/-- A member that gave way to no claim only forwards one. -/
theorem claimIn_member (op : rOp f.hdr = opClaim) (sameRing : s.ownCause p ≠ 3) (member : t.ringRole = 1)
    (noBetter : t.bolt.rng.better = none) : s.claimIn p f = t.ringForward p f := by
  refine (if_neg (by simp [op, known])).trans ((if_neg (by simp [on])).trans ((if_neg sameRing).trans
    (congrArg (State.ringForward · p f) ((onFirst_of_actsOnce once _).trans ?_))))
  rw [member, noBetter]
  exact ite_self t

include known in
theorem rollcallIn_addressed (op : rOp f.hdr = opRollcall) (addressed : s.addr ≠ 0) : s.rollcallIn p f = s.ringForward p f :=
  (if_neg (by simp [op, known])).trans (if_pos (by simp [addressed]))

end Passing

/-- What an engine that acts on a message of an operation knows of it. -/
theorem heard_of_ringActs {s : State} {op : Nat} {f : Frame} (acts : s.ringActs op f = true) : rOp f.hdr = op ∧ ringLenOk f = true := by
  simp only [State.ringActs, Bool.and_eq_true, decide_eq_true_eq] at acts
  obtain ⟨⟨⟨⟨-, op⟩, known⟩, -⟩, -⟩ := acts
  exact ⟨op, known⟩

theorem notActed_of_actsOnce {s t : State} {f : Frame} (once : actsOnce s f t) : (s.ringSeen f).any (·.2.2.2) = false := by
  obtain ⟨fresh, -⟩ | ⟨x, seen, notActed, -⟩ := once
  · rw [fresh]; rfl
  · rw [seen]; exact notActed

/-- An unaddressed node takes the lowest address that a ROLLCALL offers (spec/10 R243). -/
theorem rollcallIn_takes {s t : State} {p i : Nat} {f : Frame} (once : actsOnce s f t) (acts : s.ringActs opRollcall f = true)
    (unaddressed : s.addr = 0) (noneTaken : s.bolt.rng.taken = none)
    (lowest : findFirst (fun i => bit (leAt f.payload 0 32) (i + 1)) 250 = some i) :
    let changed : Frame := { f with payload := leBytes 32 (clrBit (leAt f.payload 0 32) (i + 1)) ++ f.payload.drop 32 }
    let sent : State := { t.ringForward p changed with bolt.rng.taken := some (i + 1) }
    s.rollcallIn p f = sent.originate (sent.ringFrame (i + 1) opTaken f.hdr.src.toNat sent.epoch true false
      (leBytes 1 (i + 1) ++ [0, 0, 0] ++ bytesAt f.payload 32 4 ++ leBytes 16 sent.uid)) [0, 1] := by
  obtain ⟨op, known⟩ := heard_of_ringActs acts
  refine (if_neg ?_).trans ((if_neg ?_).trans ((onFirst_of_actsOnce once _).trans ?_))
  · simp [op, known]
  · simp [acts, unaddressed, noneTaken, notActed_of_actsOnce once]
  · simp only [lowest]

/-! ### Messages that are acted on once by any node they are for, or by the master -/

/-- What the rows of ring messages share: an engine that does not pass one over acts on it once. -/
theorem ringRow_acts {s t : State} {f : Frame} (live : s.boltUp = true) (once : actsOnce s f t) {deaf : State → Prop}
    [DecidablePred deaf] (hears : ¬ deaf s) (act : State → State) :
    (s.ifBolt fun s => if deaf s then s else s.onFirst f act) = act t := by
  rw [ifBolt_of_boltUp live, if_neg hears, onFirst_of_actsOnce once]

section Rows
variable {s t : State} {f : Frame} (live : s.boltUp = true) (once : actsOnce s f t)
include live once

section Master
variable (master : s.isMaster = true)
include master

theorem takenRx_answers (acts : s.ringActs opTaken f = true) :
    let a := leAt f.payload 0 1
    let running : State := { t with bolt.rng.roll := t.bolt.rng.roll.map fun r : Nat × Nat => (r.1, 0) }
    exec (.takenRx f) s = .next (if running.heldByOther a (leAt f.payload 8 16) then running.sendJoinAck a 1 (bytesAt f.payload 8 16)
      else (running.censusPut a (leAt f.payload 8 16)).sendJoinAck a 0 (bytesAt f.payload 8 16)) :=
  congrArg _ (ringRow_acts live once (by simp [acts, master]) _)

theorem joinReqRx_answers (acts : s.ringActs opJoinReq f = true) :
    let asked := leAt f.payload 16 1
    let ub := bytesAt f.payload 0 16
    exec (.joinReqRx f) s = .next (
      if leAt f.payload 20 4 ≠ t.bolt.pat.inForce.siteId then t.sendJoinAck asked 2 ub
      else if t.heldByOther asked (leAt f.payload 0 16) then
        if leAt f.payload 17 1 = 0 then (t.sendJoinAck asked 1 ub).startRoll else t.sendJoinAck asked 1 ub
      else (t.censusPut asked (leAt f.payload 0 16)).sendJoinAck asked 0 ub) :=
  congrArg _ (ringRow_acts live once (by simp [acts, master]) _)

end Master

theorem joinAckRx_mismatch (acts : s.ringActs opJoinAck f = true) (mismatch : leAt f.payload 0 1 = 2) :
    exec (.joinAckRx f) s = .next ({ t with
      bolt.rng := { t.bolt.rng with joinWait := none, taken := none, joinBlocked := true } }.irq bRng 7) := by
  refine next_ifBolt live ((if_neg (by simp [acts])).trans ((onFirst_of_actsOnce once _).trans ?_))
  exact (if_neg (by rw [mismatch]; decide)).trans ((if_neg (by rw [mismatch]; decide)).trans (if_pos mismatch))

theorem healRx_waits (acts : s.ringActs opHeal f = true) : exec (.healRx f) s = .next { t with bolt.rng.heals := t.bolt.rng.heals ++
    [⟨leAt f.payload 0 1, leAt f.payload 1 1, leAt f.payload 2 1, leAt f.payload 3 1, leAt f.payload 4 4⟩] } :=
  next_ifBolt live ((if_pos acts).trans (onFirst_of_actsOnce once _))

theorem forgetRx_erases (acts : s.ringActs opForget f = true) :
    exec (.forgetRx f) s = .next { t with bolt.rng.census := eraseKey (leAt f.payload 0 1) t.bolt.rng.census } :=
  next_ifBolt live ((if_pos acts).trans (onFirst_of_actsOnce once _))

/-- An opening announced at least four cycles ahead is listed until its effect is due (spec/10 R251). -/
theorem openingRx_early (acts : s.ringActs opOpening f = true) (foreign : f.hdr.src.toNat ≠ s.addr)
    (early : later t.cycle ((leAt f.payload 4 4 + 2 ^ 32 - 4) % 2 ^ 32) = false) : exec (.openingRx f) s = .next { t with
      bolt.rng.openings := (f.hdr.src.toNat, leAt f.payload 0 1 % 4 + 4 * (leAt f.payload 2 1 % 2), leAt f.payload 4 4, false) ::
        t.bolt.rng.openings.filter fun o => o.1 != f.hdr.src.toNat } := by
  refine next_ifBolt live ((if_neg (by simp [acts, foreign])).trans ((onFirst_of_actsOnce once _).trans ?_))
  simp only [early, Bool.false_eq_true, if_false]

/-- A NAK with a REASON other than 1 and 2, for a message that is no TAKEN, is recorded and leads to nothing more (spec/10 R238). -/
theorem nakRx_recorded (acts : s.ringActs opNak f = true) (notStale : leAt f.payload 7 1 ≠ 1) (notRole : leAt f.payload 7 1 ≠ 2)
    (notTaken : leAt f.payload 0 1 ≠ opTaken) :
    exec (.nakRx f) s = .next (((t.sat F.RNG_NAK_RECEIVED 1).sets [(F.RNG_NAK_LAST_OP, leAt f.payload 0 1),
      (F.RNG_NAK_LAST_REASON, leAt f.payload 7 1), (F.RNG_NAK_LAST_EPOCH, leAt f.payload 4 2)]).irq bRng 8) := by
  refine next_ifBolt live ((if_neg (by simp [acts])).trans ((onFirst_of_actsOnce once _).trans ?_))
  exact (if_neg (by simp [notStale])).trans ((if_neg notTaken).trans (if_neg (by simp [notStale, notRole])))

theorem msgRx_fills (acts : s.ringActs opMsg f = true) : exec (.msgRx f) s = .next (
    if 16 ≤ t.bolt.rng.mail.length then t.sat F.RNG_RX_STATUS_OVERFLOW 1
    else { t with bolt.rng.mail := t.bolt.rng.mail ++ [(⟨f.hdr.src.toNat, rToMaster f.hdr, f.payload⟩ : Mail)] }.irq bRng 9) :=
  congrArg _ (ringRow_acts live once (by simp [acts]) _)

end Rows

/-! ### The obligation, message by message -/

/-- Settles O25: the messages that pass through, then those that the engine acts on once. -/
theorem ringMessages : Obligations.RingMessages := by
  refine ⟨fun s t p f live on once => ?passing, fun s t f live once => ?acted⟩
  case passing =>
    have row {act : State → State} {r : State} := next_ifBolt (act := act) (r := r) live
    obtain ⟨seen, rfl⟩ := seen_of_actsOnce once
    refine ⟨fun unknown => row (ringRx_unknown unknown), fun known mine toAny fromAny op => ?mail,
      fun op known same holds foreign member => row (beacon_follows on op known once same holds foreign member),
      fun op known other => row (beacon_otherRing on op known other), fun op known sent => ?announce,
      fun op known sent foreign planned => row (edge_planned on known once op sent foreign planned),
      fun op known sameRing member noBetter => row (claimIn_member on known once op sameRing member noBetter),
      fun op known addressed => row (rollcallIn_addressed known op addressed),
      fun i acts unaddressed noneTaken lowest => row (rollcallIn_takes once acts unaddressed noneTaken lowest)⟩
    case mail =>
      have plain : rOp f.hdr ∉ [opBeacon, opClaim, opRollcall] := by rw [op]; decide
      have heard := ringRx_heard (p := p) on known mine plain (roleVerdict_roleFree toAny fromAny)
      refine ⟨fun fresh => row (heard.trans ?_), fun copy => row (heard.trans ?_)⟩
      · rw [fresh]; rfl
      · rw [if_pos (Option.isSome_iff_ne_none.2 copy)]
    case announce =>
      have heard {shown : State} := announce_heard (p := p) (t := shown) on op known sent
      refine ⟨fun far isOpen free => ?_, fun far isOpen held => ?_, fun near east isOpen free => ?_, fun far east closed free => ?_⟩
      · exact row ((heard (announceShown_far_open far isOpen)).trans (if_neg (Bool.eq_false_iff.1 free)))
      · exact row ((heard (announceShown_far_open far isOpen)).trans (if_pos held))
      · subst east
        exact row ((heard (announceShown_near_open near isOpen)).trans (if_neg (Bool.eq_false_iff.1 free)))
      · subst east
        exact row ((heard (announceShown_far_closed far closed)).trans (if_neg (Bool.eq_false_iff.1 free)))
  case acted =>
    obtain ⟨seen, rfl⟩ := seen_of_actsOnce once
    refine ⟨fun acts master => ⟨fun free => ?_, fun held => ?_⟩,
      fun acts master => ⟨fun other => ?_, fun same free => ?_, fun same held => ?_⟩, fun acts => joinAckRx_mismatch live once acts,
      fun acts => healRx_waits live once acts, fun acts foreign early => openingRx_early live once acts foreign early,
      fun acts notStale notRole notTaken => nakRx_recorded live once acts notStale notRole notTaken,
      fun acts room => ?_, fun acts full => ?_, fun acts => forgetRx_erases live once acts⟩
    · exact (takenRx_answers live once master acts).trans (congrArg _ (if_neg (Bool.eq_false_iff.1 free)))
    · exact (takenRx_answers live once master acts).trans (congrArg _ (if_pos held))
    · exact (joinReqRx_answers live once master acts).trans (congrArg _ (if_pos other))
    · exact (joinReqRx_answers live once master acts).trans
        (congrArg _ ((if_neg (not_not.2 same)).trans (if_neg (Bool.eq_false_iff.1 free))))
    · exact (joinReqRx_answers live once master acts).trans (congrArg _ ((if_neg (not_not.2 same)).trans (if_pos held)))
    · exact (msgRx_fills live once acts).trans (congrArg _ (if_neg (Nat.not_le.2 room)))
    · exact (msgRx_fills live once acts).trans (congrArg _ (if_pos full))

end Sys2Proof.Machine
end


section
/-! The ring engine's timers and the host's ring commands (spec/10 R235, R239, R240, R242 to R244, R248, R250 to R253, R255): what is due
at a timer, what a command does at a master and elsewhere, the mailbox, the supervision of buddy tunnels.  That DST 0 is out of range for
the mailbox and that an engine that is not ON sends nothing are the model's own choices (assumption log 15). -/

namespace Sys2Proof.Machine

/-! ### Timers -/

section Timers
variable {s : State} (live : s.boltUp = true)
include live

/-- An addressed node that leads no ring announces itself when ANNOUNCE cycles have passed (spec/10 R242). -/
theorem announceTimer_announces (on : s.isOn .rng = true) (addressed : s.addr ≠ 0) (member : s.isMaster = false)
    (due : s.get F.RNG_CFG2_ANNOUNCE ≤ s.bolt.rng.cyclesSinceAnnounce) : exec .announceTimer s =
      .next ({ s with bolt.rng.cyclesSinceAnnounce := 0 }.sendRing opAnnounce 255 false false
        (leBytes 16 s.uid ++ leBytes 1 0 ++ leBytes 1 (s.neighbour 0) ++ leBytes 1 (s.neighbour 1) ++ [0])) := by
  have stays : ({ s with bolt.rng.cyclesSinceAnnounce := 0 } : State).isMaster = false := member
  refine next_ifBolt live ?_
  rw [if_pos (by simp [on, addressed, due])]
  simp only [stays, Bool.false_eq_true, if_false]
  rfl

/-- Edges that no EDGE has refreshed for EDGE_HOLD cycles leave the list (spec/10 R248). -/
theorem edgeExpire_drops :
    let fresh := s.bolt.rng.edges.filter fun e => e.age < s.get F.RNG_CFG_EDGE_HOLD
    fresh.length ≠ s.bolt.rng.edges.length → exec .edgeExpire s = .next ({ s with bolt.rng.edges := fresh }.irq bRng 2) :=
  fun stale => next_ifBolt live (if_neg stale)

/-- A node that starts to claim with an epoch. -/
def State.candidate (s : State) (e : Nat) : State := { s with bolt.rng := { s.bolt.rng with claim := some (e, 0), better := none } }

/-- An eligible node claims the next epoch when BEACON_LOSS cycles have passed without a BEACON (spec/10 R239). -/
theorem beaconLoss_claims (on : s.isOn .rng = true) (eligible : s.eligible = true) (stands : s.bolt.rng.noStand = false)
    (notMaster : s.ringRole ≠ 2) (notCandidate : s.ringRole ≠ 3) (lost : s.get F.RNG_CFG_BEACON_LOSS ≤ s.bolt.rng.beaconAge)
    (noBetter : s.bolt.rng.better = none) :
    let e := (s.epoch + 1) % 65536
    exec .beaconLoss s = .next (((((s.candidate e).set F.RNG_STATUS_ROLE 3).irq bRng 1).irq bRng 4).sendClaim e) := by
  refine next_ifBolt live ?_
  rw [if_pos (by simp [on, eligible, stands, notMaster, notCandidate, lost, noBetter])]
  exact congrArg (fun t : State => (t.irq bRng 4).sendClaim _) (if_neg notCandidate)

/-- A claim unbeaten for CLAIM_WAIT cycles is marked for the next cycle boundary (spec/10 R239). -/
theorem claimWaitExpiry_marks {e n : Nat} (claims : s.bolt.rng.claim = some (e, n)) (waited : s.get F.RNG_CFG_CLAIM_WAIT ≤ n)
    (unmarked : n < 2 ^ 16) : exec .claimWaitExpiry s = .next { s with bolt.rng.claim := some (e, 2 ^ 16) } := by
  refine next_ifBolt live ?_
  rw [claims]
  exact if_pos (by rw [decide_eq_true waited, decide_eq_true unmarked]; rfl)

theorem rollcallEnd_ends {id n : Nat} (runs : s.bolt.rng.roll = some (id, n)) (waited : s.get F.RNG_CFG2_ROLL_WAIT ≤ n) :
    exec .rollcallEnd s = .next ({ s with bolt.rng.roll := none }.irq bRng 5) := by
  refine next_ifBolt live ?_
  rw [runs]
  exact if_pos waited

theorem joinRetry_repeats {n : Nat} (on : s.isOn .rng = true) (waits : s.bolt.rng.joinWait = some n) (waited : 16 ≤ n) :
    exec .joinRetry s = .next s.sendJoinReq :=
  next_ifBolt live (if_pos (by simp [on, waits, waited]))

/-- Both trunks closed at the end of an opening's drain (spec/10 R251). -/
def State.trunksClosed (s : State) : State := ({ s with bolt.rng.opening := none }.portClose 0).portClose 1

/-- An entry to STANDBY that waited for its trunks to close goes on, or pauses while the seam is down (spec/18 R389). -/
def State.entryOpened (s : State) : State :=
  let x := s.mapPwr fun x => { x with trunks := [0, 1] }
  if x.seamUp then x.entryStep3 else x.mapPwr fun x => { x with entry := 4 }

theorem openDrainEnd_closes {n r : Nat} {m : Bool} (opens : s.bolt.rng.opening = some (n, r, m))
    (east : s.on (F.LANE_PORT_CTRL_ENABLE 0) = true) (west : s.on (F.LANE_PORT_CTRL_ENABLE 1) = true)
    (drained : later s.cycle ((n + s.get F.RNG_CFG_OPEN_DRAIN) % 2 ^ 32) = true) : exec .openDrainEnd s =
      .next (if s.trunksClosed.spool.pwr.entry = 1 then s.trunksClosed.entryOpened else s.trunksClosed) := by
  have both : ([0, 1].filter fun p => s.on (F.LANE_PORT_CTRL_ENABLE p)) = [0, 1] := by simp [east, west]
  refine next_ifBolt live ?_
  rw [opens]
  dsimp only
  rw [if_pos drained, both]
  rfl

/-- A buddy sink whose east path has been silent for BUDDY_SINGLE cycles while the other delivered is SINGLE (spec/10 R250). -/
theorem buddySingle_marks {i : Fin 1024} (on : s.isOn .rng = true) (valid : (s.entry i).valid = true)
    (buddy : (s.entry i).buddy = true) (sink : (s.entry i).sink = true) (double : (s.entry i).single = false)
    (silent : s.get F.RNG_CFG2_BUDDY_SINGLE ≤ (s.cycle + 2 ^ 32 - (s.entry i).lastPath.getD 0 0) % 2 ^ 32)
    (other : later ((s.entry i).lastPath.getD 1 0) ((s.entry i).lastPath.getD 0 0) = true) : exec (.buddySingle i) s =
      .next ((s.mapEntry i fun e => { e with single := true, silent := 0 }).irq bRng 11) := by
  have east : (decide (s.get F.RNG_CFG2_BUDDY_SINGLE ≤ (s.cycle + 2 ^ 32 - (s.entry i).lastPath.getD 0 0) % 2 ^ 32) &&
      later ((s.entry i).lastPath.getD 1 0) ((s.entry i).lastPath.getD 0 0)) = true := by
    rw [decide_eq_true silent, other, Bool.and_self]
  refine next_ifBolt live ((if_pos ?_).trans ?_)
  · simp only [on, valid, buddy, sink, double, east, Bool.not_false, Bool.true_or, Bool.and_self]
  · exact congrArg (fun n => (s.mapEntry i fun e => { e with single := true, silent := n }).irq bRng 11) (if_pos east)

end Timers

/-! ### The host's commands (spec/10 R255) -/

/-- A write of a bolt-die register leaves the ring engine's own state as it was. -/
theorem written_rng {a : Nat} (onBolt : isSpool a = false) (s : State) (v : Word) : (s.written a v).bolt.rng = s.bolt.rng := by
  rw [written_bolt onBolt]
  exact eq_of_untold (fun s => s.bolt.rng) (untold_storeWrite ..) fun _ => rfl

section Master
variable {s : State} {act : State → State}

theorem ringResult_sent (s : State) :
    s.ringResult 0 = s.sets [(F.RNG_CMD_STATUS_REASON, 0), (F.RNG_CMD_STATUS_DETAIL, 0xFFFF)] := rfl

theorem ringResult_refused {c : Nat} (refused : c ≠ 0) :
    s.ringResult c = s.sets [(F.RNG_CMD_STATUS_REASON, 0x0900 + c), (F.RNG_CMD_STATUS_DETAIL, 0xFFFF)] :=
  congrArg (fun n => s.sets [(F.RNG_CMD_STATUS_REASON, n), (F.RNG_CMD_STATUS_DETAIL, 0xFFFF)]) (if_neg refused)

theorem asMaster_acts (master : s.isMaster = true) :
    s.asMaster act = act (s.sets [(F.RNG_CMD_STATUS_REASON, 0), (F.RNG_CMD_STATUS_DETAIL, 0xFFFF)]) :=
  (if_pos master).trans (congrArg act (ringResult_sent s))

theorem asMaster_refuses (member : s.isMaster = false) :
    s.asMaster act = s.sets [(F.RNG_CMD_STATUS_REASON, 0x0910), (F.RNG_CMD_STATUS_DETAIL, 0xFFFF)] :=
  (if_neg (Bool.eq_false_iff.1 member)).trans (ringResult_refused (by decide))

theorem openRefused_pending (pending : s.bolt.rng.opening.isSome = true) : s.openRefused = some 0x13 := if_pos pending

theorem cmdHeal_heals {e x : Edge}
    (listed : (s.allEdges.find? fun y => y.node = s.get F.RNG_CMD_ARG_ADDR && y.side = s.get F.RNG_CMD_ARG_SIDE) = some e)
    (facing : s.healable e = some x) :
    s.cmdHeal = s.sendHeal (s.get F.RNG_CMD_ARG_ADDR) (s.get F.RNG_CMD_ARG_SIDE) x.node x.side := by
  rw [State.cmdHeal, listed]
  simp only [facing]

theorem cmdForget_forgets (gone : s.live (s.get F.RNG_CMD_ARG_ADDR) = false) :
    let told := s.sendRing opForget 255 false true (leBytes 1 (s.get F.RNG_CMD_ARG_ADDR) ++ [0, 0, 0])
    s.cmdForget = { told with bolt.rng.census := eraseKey (s.get F.RNG_CMD_ARG_ADDR) told.bolt.rng.census } :=
  if_neg (Bool.eq_false_iff.1 gone)

end Master

section Rows
variable {s r : State} {who : Requester} (acc : s.accepts who R.RNG_CMD)
include acc

theorem ringRollcall_acts (does : (s.written R.RNG_CMD 1).asMaster State.startRoll = r) :
    exec (.ringRollcall who) s = .next (r.answer who .done 0) :=
  does ▸ congrArg _ (command_of_accepts acc 1 _)

theorem ringResign_acts (does : (s.written R.RNG_CMD 2).asMaster State.resign = r) :
    exec (.ringResign who) s = .next (r.answer who .done 0) :=
  does ▸ congrArg _ (command_of_accepts acc 2 _)

theorem openRing_acts (does : (s.written R.RNG_CMD 3).openRefused.elim (((s.written R.RNG_CMD 3).ringResult 0).startOpening 3)
    (s.written R.RNG_CMD 3).ringResult = r) : exec (.openRing who) s = .next (r.answer who .done 0) := by
  refine (congrArg Host.Outcome.next (command_of_accepts acc 3 _)).trans ?_
  subst does
  cases (s.written R.RNG_CMD 3).openRefused <;> rfl

theorem ringHeal_acts (does : (s.written R.RNG_CMD 4).asMaster State.cmdHeal = r) :
    exec (.ringHeal who) s = .next (r.answer who .done 0) :=
  does ▸ congrArg _ (command_of_accepts acc 4 _)

theorem ringForget_acts (does : (s.written R.RNG_CMD 5).asMaster State.cmdForget = r) :
    exec (.ringForget who) s = .next (r.answer who .done 0) :=
  does ▸ congrArg _ (command_of_accepts acc 5 _)

end Rows

/-! ### The mailbox (spec/10 R235, R255) -/

/-- What GO makes of the message in the mailbox once it is cleared. -/
def State.mailGoes (s : State) : State :=
  let n := s.get F.RNG_TX_CTRL_LEN
  if !s.isOn .rng || s.addr = 0 || n = 0 || 96 < n then s.set F.RNG_TX_STATUS_REASON 0x0915
  else if s.get F.RNG_TX_CTRL_DST = 0 then s.set F.RNG_TX_STATUS_REASON 0x0901
  else (s.sets [(F.RNG_TX_STATUS_REASON, 0), (F.RNG_TX_STATUS_SEQ, s.bolt.rng.seq)]).sendRing opMsg (s.get F.RNG_TX_CTRL_DST)
    (s.on F.RNG_TX_CTRL_TO_MASTER) false (((List.range 24).flatMap fun i => leBytes 4 (s.rd (R.RNG_TX_DATA i)).toNat).take n)

theorem mailSend_go {s : State} (go : s.on F.RNG_TX_CTRL_GO = true) : s.mailSend = (s.set F.RNG_TX_CTRL_GO 0).mailGoes :=
  if_neg (by simp [go])

section Mail
variable {s : State}

theorem mailGoes_cannot (bad : s.isOn .rng = false ∨ s.addr = 0 ∨ s.get F.RNG_TX_CTRL_LEN = 0 ∨ 96 < s.get F.RNG_TX_CTRL_LEN) :
    s.mailGoes = s.set F.RNG_TX_STATUS_REASON 0x0915 :=
  if_pos (by simpa [or_assoc] using bad)

variable (on : s.isOn .rng = true) (addressed : s.addr ≠ 0) (filled : 0 < s.get F.RNG_TX_CTRL_LEN)
  (fits : s.get F.RNG_TX_CTRL_LEN ≤ 96)
include on addressed filled fits

theorem mailGoes_nowhere (toNone : s.get F.RNG_TX_CTRL_DST = 0) : s.mailGoes = s.set F.RNG_TX_STATUS_REASON 0x0901 :=
  (if_neg (by simp [on, addressed, Nat.ne_of_gt filled, fits])).trans (if_pos toNone)

theorem mailGoes_out (toNode : s.get F.RNG_TX_CTRL_DST ≠ 0) : s.mailGoes =
    (s.sets [(F.RNG_TX_STATUS_REASON, 0), (F.RNG_TX_STATUS_SEQ, s.bolt.rng.seq)]).sendRing opMsg (s.get F.RNG_TX_CTRL_DST)
      (s.on F.RNG_TX_CTRL_TO_MASTER) false
      (((List.range 24).flatMap fun i => leBytes 4 (s.rd (R.RNG_TX_DATA i)).toNat).take (s.get F.RNG_TX_CTRL_LEN)) :=
  (if_neg (by simp [on, addressed, Nat.ne_of_gt filled, fits])).trans (if_neg toNode)

end Mail

theorem msgSend_acts {s r : State} {who : Requester} {v : Word} (acc : s.accepts who R.RNG_TX_CTRL)
    (go : (s.written R.RNG_TX_CTRL v).on F.RNG_TX_CTRL_GO = true)
    (does : ((s.written R.RNG_TX_CTRL v).set F.RNG_TX_CTRL_GO 0).mailGoes = r) :
    exec (.msgSend who v) s = .next (r.answer who .done 0) :=
  (mailSend_go go).trans does ▸ congrArg _ (command_of_accepts acc v _)

theorem answer_bolt (s : State) (w : Requester) (st : Access) (x : Word) : (s.answer w st x).bolt = s.bolt := by
  cases w <;> rfl

/-- The oldest message leaves the mailbox. -/
theorem rxPop_takes {s : State} {who : Requester} (acc : s.accepts who R.RNG_RX_POP) :
    ∃ t : State, exec (.rxPop who) s = .next t ∧ t.bolt.rng.mail = s.bolt.rng.mail.drop 1 :=
  ⟨_, congrArg Host.Outcome.next (command_of_accepts acc 1 _), by rw [answer_bolt, written_rng (by decide)]⟩

/-! ### The obligation, timer by timer and command by command -/

/-- Settles O26: the timers, the commands of RNG_CMD, the mailbox, the supervision of a buddy tunnel. -/
theorem ringTimersAndCommands : Obligations.RingTimersAndCommands := by
  refine ⟨fun s live on addressed member due => announceTimer_announces live on addressed member due,
    fun s live stale => edgeExpire_drops live stale,
    fun s live on eligible stands notMaster notCandidate lost noBetter =>
      beaconLoss_claims live on eligible stands notMaster notCandidate lost noBetter,
    fun s e n live claims waited unmarked => claimWaitExpiry_marks live claims waited unmarked,
    fun s id n live runs waited => rollcallEnd_ends live runs waited,
    fun s n live on waits waited => joinRetry_repeats live on waits waited,
    fun s n r m live opens east west drained => openDrainEnd_closes live opens east west drained,
    fun s who acc => ?commands, fun s who v acc go => ?mail, fun s who acc => rxPop_takes acc,
    fun s i live on valid buddy sink double silent other => buddySingle_marks live on valid buddy sink double silent other⟩
  case commands =>
    refine ⟨fun master => ?_, fun member => ?_, fun master => ?_, fun member => ?_, fun free => ?_, fun pending => ?_,
      fun member => ?_, fun e x master listed facing => ?_, fun master gone => ?_⟩
    · exact ringRollcall_acts acc (asMaster_acts master)
    · exact ringRollcall_acts acc (asMaster_refuses member)
    · exact ringResign_acts acc (asMaster_acts master)
    · exact ringResign_acts acc (asMaster_refuses member)
    · exact openRing_acts acc (by rw [free]; exact congrArg (State.startOpening · 3) (ringResult_sent ..))
    · have waits : (s.written R.RNG_CMD 3).openRefused = some 0x13 :=
        openRefused_pending (by rw [written_rng (by decide), pending])
      exact openRing_acts acc (by rw [waits]; exact ringResult_refused (by decide))
    · exact ringHeal_acts acc (asMaster_refuses member)
    · exact ringHeal_acts acc ((asMaster_acts master).trans (cmdHeal_heals listed facing))
    · -- Reduced first, so that the two record updates agree as they are written.
      beta_reduce at master gone ⊢
      exact ringForget_acts acc ((asMaster_acts master).trans (cmdForget_forgets gone))
  case mail =>
    have sends {r} := msgSend_acts (r := r) acc go
    refine ⟨fun bad => ?_, fun on addressed filled fits toNone => ?_, fun on addressed filled fits toNode => ?_⟩
    · exact sends (mailGoes_cannot bad)
    · exact sends (mailGoes_nowhere on addressed filled fits toNone)
    · exact sends (mailGoes_out on addressed filled fits toNode)

end Sys2Proof.Machine
end


section
/-! TDM ports (spec/11 R257, R258, R260 to R263): the frame of a master port, what a slave port makes of a frame by the index it
expects, and the loss of its frame clock. -/

namespace Sys2Proof.Machine


theorem audRuns_of_isOn {s : State} (on : s.isOn .aud = true) (awake : s.get F.PWR_STATUS_STATE ≠ 2) : s.audRuns = true := by
  simp [State.audRuns, on, awake]

/-! ### A slave port's frames by their index (spec/11 R262, R263) -/

/-- The index whose period an FSYNC edge lies in. -/
def State.fsyncIndex (s : State) (e : BitVec 72) : Nat :=
  s.sampleIx (e.toNat / 32000000) (e.toNat % 32000000 * s.samplesPer / 32000000)

/-- A port expects the index after `n`, having received `run` frames in order. -/
def State.tdmExpects (s : State) (t n run : Nat) : State :=
  { s with bolt.aud := { s.bolt.aud with
    expect := setAt s.bolt.aud.expect t (some ((n + 1) % 16384)), runs := setAt s.bolt.aud.runs t run } }

/-- A frame followed as sample `n`: the port expects the next index, reads LOCKED after 16 frames in order, plays and captures. -/
def State.tdmFollow (s : State) (t n run : Nat) (data : List (BitVec 36)) : State :=
  ((if 16 ≤ run then (s.tdmExpects t n run).set (F.AUD_TDM_STATUS_CLOCK t) 1 else s.tdmExpects t n run).playFrame t n).capture t n data

/-- What a slave port makes of a frame of index `n`. -/
def State.tdmFrame (s : State) (t n : Nat) (data : List (BitVec 36)) : State :=
  match s.bolt.aud.expect.getD t none with
  | none => (if s.get (F.AUD_TDM_STATUS_CLOCK t) = 3 then s.tdmGap t n else s).tdmFollow t n 0 data
  | some x =>
    let ahead := (n + 16384 - x) % 16384
    if ahead = 0 then s.tdmFollow t n (min 16 (s.bolt.aud.runs.getD t 0 + 1)) data
    else if ahead = 16383 then (s.playFrame t n).tdmSlip t (n + 1)
    else if ahead < 8192 then
      (s.each ((List.range (min ahead 4)).map fun j => (x + j) % 16384) fun m s => s.tdmRepeat t m).tdmFollow t n 0 data
    else (s.tdmSlip t n).tdmFollow t n 0 data

section Index
variable {s : State} {t n : Nat} (data : List (BitVec 36))

theorem tdmFrame_first (first : s.bolt.aud.expect.getD t none = none) :
    s.tdmFrame t n data = (if s.get (F.AUD_TDM_STATUS_CLOCK t) = 3 then s.tdmGap t n else s).tdmFollow t n 0 data := by
  simp only [State.tdmFrame, first]

theorem tdmFrame_inOrder (expected : s.bolt.aud.expect.getD t none = some n) :
    s.tdmFrame t n data = s.tdmFollow t n (min 16 (s.bolt.aud.runs.getD t 0 + 1)) data := by
  have aligned : (n + 16384 - n) % 16384 = 0 := by omega
  simp only [State.tdmFrame, expected, aligned, if_true]

variable (index : n < 16384)
include index

theorem tdmFrame_second (expected : s.bolt.aud.expect.getD t none = some ((n + 1) % 16384)) :
    s.tdmFrame t n data = (s.playFrame t n).tdmSlip t (n + 1) := by
  have behind : (n + 16384 - (n + 1) % 16384) % 16384 = 16383 := by omega
  simp only [State.tdmFrame, expected, behind]
  rfl

theorem tdmFrame_skip (expected : s.bolt.aud.expect.getD t none = some ((n + 16383) % 16384)) :
    s.tdmFrame t n data = (s.tdmRepeat t ((n + 16383) % 16384)).tdmFollow t n 0 data := by
  have ahead : (n + 16384 - (n + 16383) % 16384) % 16384 = 1 := by omega
  have skipped : (List.range (min 1 4)).map (fun j => ((n + 16383) % 16384 + j) % 16384) = [(n + 16383) % 16384] := by simp
  simp only [State.tdmFrame, expected, ahead, skipped]
  rfl

end Index

/-! ### The rows -/

section Port
variable {s : State} {t : Fin 16} (live : s.boltUp = true) (works : s.audRuns = true) (on : s.isOn (.audTdm t) = true)
include live works on

theorem tdmMasterFrame_runs {i : Fin 24} (data : List (BitVec 36)) (master : s.on (F.AUD_TDM_CTRL_MASTER t) = true)
    (inCycle : i.val < s.samplesPer) : exec (.tdmMasterFrame t i data) s =
      .next ((s.playFrame t (s.sampleIx s.cycle i)).capture t (s.sampleIx s.cycle i) data) := by
  have row : exec (.tdmMasterFrame t i data) s = execTdmMasterFrame t i data s := rfl
  rw [row, execTdmMasterFrame, ifBolt_of_boltUp live, if_pos (by simp [works, on, master, inCycle])]

variable (slave : s.on (F.AUD_TDM_CTRL_MASTER t) = false)
include slave

theorem tdmFsync_runs (e : BitVec 72) (data : List (BitVec 36)) :
    exec (.tdmFsync t e data) s = .next (s.tdmFrame t (s.fsyncIndex e) data) := by
  have row : exec (.tdmFsync t e data) s = execTdmFsync t e data s := rfl
  rw [row, execTdmFsync, ifBolt_of_boltUp live, if_pos (by simp [works, on, slave])]
  unfold State.fsyncIndex
  dsimp -iota only
  generalize s.sampleIx _ _ = n
  rfl

/-- The loss of the frame clock: the expectation ends, the silence begins with a gap (spec/11 R263). -/
theorem tdmLost_runs (clocked : s.get (F.AUD_TDM_STATUS_CLOCK t) ≠ 3) :
    let gap : State := s.tdmGap t ((s.bolt.aud.expect.getD t none).getD (s.sampleIx s.cycle 0))
    let lost : State := { gap with
      bolt.aud.expect := setAt s.bolt.aud.expect t.val none, bolt.aud.runs := setAt s.bolt.aud.runs t.val 0 }
    exec (.tdmLost t) s = .next (((lost.set (F.AUD_TDM_STATUS_CLOCK t) 3).sat (F.AUD_TDM_CNT_LOST t) 1).irq bAud 2) := by
  have row : exec (.tdmLost t) s = execTdmLost t s := rfl
  rw [row, execTdmLost, ifBolt_of_boltUp live, if_pos (by simp [works, on, slave, clocked])]

end Port

-- Elaborated before the text goes on, which bounds how many proofs are checked side by side and so the memory they hold together.
set_option Elab.async false in
/-- Settles O33: the master's frame, the slave's frame by its index, and the loss of the clock. -/
theorem tdmFramesAreCapturedAndPlayed : Obligations.TdmFramesAreCapturedAndPlayed := by
  intro s t live on awake port
  have works := audRuns_of_isOn on awake
  refine ⟨fun i data master inCycle => tdmMasterFrame_runs live works port data master inCycle,
    fun slave => ⟨fun e data => ?_, fun clocked => tdmLost_runs live works port slave clocked⟩⟩
  have frame := tdmFsync_runs live works port slave e data
  have index : s.fsyncIndex e < 16384 := Nat.mod_lt _ (by decide)
  refine ⟨fun first => ?_, fun expected _ => ?_, fun expected => ?_, fun expected => ?_⟩ <;> rw [frame]
  · rw [tdmFrame_first data first]
    rfl
  · rw [tdmFrame_inOrder (n := s.fsyncIndex e) data expected]
    rfl
  · rw [tdmFrame_second data index expected]
    rfl
  · rw [tdmFrame_skip data index expected]
    rfl

end Sys2Proof.Machine
end


section
/-! The audio engine's other rows (spec/11 R264 to R273, R278, R279): received frames at P8, a playout read with its concealment, a
mixed sample of every output of a mode, the end of a detector's integration. -/

namespace Sys2Proof.Machine

-- One proof after the other: proofs checked side by side hold a thread's stack each, and the memory for the whole text is bounded.
set_option Elab.async false

/-! ### Received frames (spec/11 R266 to R269) -/

/-- The entry that a frame of its GEN is received by. -/
abbrev State.rxEntry (s : State) (i : Nat) (f : Frame) : Entry := s.entryGen i f.hdr.gen.toNat

/-- How many cycles a frame comes before its playout, modulo 2^32. -/
def State.playoutAhead (s : State) (f : Frame) : Nat := (hPcycle f.hdr + 2 ^ 32 - s.cycle) % 2 ^ 32

/-- Every trio of a frame of `c` bundles stored, or discarded by its index or as a duplicate. -/
def State.storeFrame (s : State) (first c : Nat) (f : Frame) : State :=
  s.each (List.range (s.samplesPer / 3)) fun j s => s.each (List.range c) fun b s =>
    s.storeTrio (first + b) (hPcycle f.hdr) j (b2n f.hdr.path) (ofBe (bytesAt f.payload (16 * (j * c + b)) 16))

section FrameRx
variable {s : State} {i : Fin 1024} {f : Frame} (live : s.boltUp = true) (works : s.audRuns = true)
  (valid : (s.rxEntry i f).valid = true) (sink : (s.rxEntry i f).sink = true) (here : (s.rxEntry i f).localPort = 8)
  (early : 1 ≤ s.playoutAhead f) (near : s.playoutAhead f < 64)
include live works valid sink here early near

/-- A frame 1 to 63 cycles ahead of its playout is judged by its size, then by its time. -/
theorem audFrameRx_near : exec (.audFrameRx i f) s = .next (
    if f.payload.length ≠ 16 * (s.rxEntry i f).bundleCount * (s.samplesPer / 3) ||
      slice (hStreamAdapter f.hdr) 1 6 + 1 ≠ (s.rxEntry i f).bundleCount then (s.sat F.AUD_FORMAT_FRAMES 1).irq bAud 7
    else if 32 ≤ s.playoutAhead f then s.count 3152 1
    else s.storeFrame (s.rxEntry i f).bundleFirst (s.rxEntry i f).bundleCount f) := by
  have row : exec (.audFrameRx i f) s = execAudFrameRx i f s := rfl
  have acts : ¬(!s.audRuns || !(s.rxEntry i f).valid || !(s.rxEntry i f).sink || decide ((s.rxEntry i f).localPort ≠ 8)) = true := by
    simp [works, valid, sink, here]
  have inTime : ¬(decide (s.playoutAhead f = 0) || decide (64 ≤ s.playoutAhead f)) = true := by
    simp; omega
  rw [row, execAudFrameRx, ifBolt_of_boltUp live]
  exact congrArg _ ((if_neg acts).trans (if_neg inTime))

theorem audFrameRx_malformed (size : f.payload.length ≠ 16 * (s.rxEntry i f).bundleCount * (s.samplesPer / 3)) :
    exec (.audFrameRx i f) s = .next ((s.sat F.AUD_FORMAT_FRAMES 1).irq bAud 7) := by
  rw [audFrameRx_near live works valid sink here early near, if_pos (by simp [size])]

variable (size : f.payload.length = 16 * (s.rxEntry i f).bundleCount * (s.samplesPer / 3))
  (bundles : slice (hStreamAdapter f.hdr) 1 6 + 1 = (s.rxEntry i f).bundleCount)
include size bundles

theorem audFrameRx_stored (inReach : s.playoutAhead f < 32) : exec (.audFrameRx i f) s =
    .next (s.storeFrame (s.rxEntry i f).bundleFirst (s.rxEntry i f).bundleCount f) := by
  rw [audFrameRx_near live works valid sink here early near, if_neg (by simp [size, bundles]), if_neg (by omega)]

theorem audFrameRx_tooEarly (beyond : 32 ≤ s.playoutAhead f) : exec (.audFrameRx i f) s = .next (s.count 3152 1) := by
  rw [audFrameRx_near live works valid sink here early near, if_neg (by simp [size, bundles]), if_pos beyond]

end FrameRx

/-! ### A playout read (spec/11 R269 to R271) -/

/-- The trio of the playout memory that holds a sample of a cycle. -/
def State.playoutTrio (s : State) (ch pc i : Nat) : Nat := getKey 0 (trioKey ch pc (i / 3)) s.bolt.aud.trios

/-- The trio is there, is of the right index and holds the sample. -/
def State.sampleHere (s : State) (ch pc i : Nat) : Bool :=
  let w := s.playoutTrio ch pc i
  decide (w ≠ 0) && decide (trioIndex w = s.sampleIx ((pc + 2 ^ 32 - s.playD) % 2 ^ 32) (3 * (i / 3))) && decide (i % 3 < trioValid w)

/-- The channel's value for the sample, and its state after it. -/
def State.sampleRead (s : State) (ch pc i : Nat) (bad : Bool) : Int × Remote :=
  s.remoteStep (s.remote ch) (s.playoutTrio ch pc i) (i % 3) (s.sampleHere ch pc i && !bad)

/-- The value heard kept at its index, and the channel's state kept. -/
def State.sampleHeard (s : State) (ch pc i : Nat) (bad : Bool) : State :=
  let r := s.sampleRead ch pc i bad
  let kept : State := (if s.sampleHere ch pc i && bad then s.sat F.AUD_FORMAT_ECC 1 else s).setRemote ch
    { r.2 with prev := r.1, lastRead := some (pc, i) }
  { kept with bolt.aud.heard := putKey 0 (s.sampleIx pc i * 1024 + ch) (intSample r.1) kept.bolt.aud.heard }

/-- The sample is heard, and the last one of a trio uses it up. -/
theorem mixRead_hears {s : State} {ch : Fin 1024} {i : Fin 24} (live : s.boltUp = true) (works : s.audRuns = true)
    (present : ch.val < s.remoteCount) (inCycle : i.val < s.samplesPer) (cyc : BitVec 32) (bad : Bool) :
    let heard := s.sampleHeard ch cyc.toNat i bad
    exec (.mixRead ch cyc i bad) s = .next (if i.val % 3 = 2 then
      ({ heard with bolt.aud.trios := putKey 0 (trioKey ch cyc.toNat (i.val / 3)) 0 heard.bolt.aud.trios } : State) else heard) := by
  have row : exec (.mixRead ch cyc i bad) s = execMixRead ch cyc i bad s := rfl
  rw [row, execMixRead, ifBolt_of_boltUp live, if_neg (by simp [works, present, inCycle])]
  rfl

/-! ### Mixed samples (spec/11 R264, R265, R273) -/

theorem each_congr {α : Type} {s : State} {l : List α} {f g : α → State → State} (same : ∀ x t, f x t = g x t) :
    s.each l f = s.each l g := by
  rw [funext₂ same]

/-- The sample of an output of the SEND mode, marked where an input of it is silenced. -/
def State.sendOutput (s : State) (o cyc i n : Nat) : State :=
  if s.on (F.AUD_OUT_MODE o) = false then s else
    let m := s.mixOutput o cyc i none
    let v := m.2 + 2 ^ 36 * b2n ((s.feeders o).any fun t => s.silenced t)
    { m.1 with bolt.aud.sends := putKey 0 (n * 512 + o) v m.1.bolt.aud.sends }

/-- The sample of an output of the PLAY mode. -/
def State.playOutput (s : State) (o cyc i n : Nat) : State :=
  if s.on (F.AUD_OUT_MODE o) = true then s else
    let m := s.mixOutput o cyc i (some n)
    { m.1 with bolt.aud.plays := putKey 0 (n * 512 + o) m.2 m.1.bolt.aud.plays }

section Mix
variable {s : State} {i : Fin 24} (live : s.boltUp = true) (works : s.audRuns = true) (inCycle : i.val < s.samplesPer)
include live works inCycle

theorem mixSample_send :
    let r : State := s.genReview
    exec (.mixSample i true) s = .next (r.each (List.range (16 * r.slotsPer)) fun o t =>
      t.sendOutput o r.cycle i (r.sampleIx r.cycle i)) := by
  have row : exec (.mixSample i true) s = execMixSample i true s := rfl
  rw [row, execMixSample, ifBolt_of_boltUp live, if_neg (by simp [works, inCycle])]
  simp only [if_true]
  refine congrArg _ (each_congr fun o t => ?_)
  unfold State.sendOutput
  generalize t.mixOutput o _ i none = mixed
  cases t.on (F.AUD_OUT_MODE o) <;> rfl

/-- The PLAY outputs lag by the playout delay.  That every detector takes its sample first is the model's choice (assumption log 19). -/
theorem mixSample_play :
    let r : State := s.genReview
    let cyc := (r.cycle + 2 ^ 32 - r.playD) % 2 ^ 32
    let fed : State := r.feedDets cyc i (r.sampleIx r.cycle i)
    exec (.mixSample i false) s = .next (fed.each (List.range (16 * fed.slotsPer)) fun o t =>
      t.playOutput o cyc i (r.sampleIx r.cycle i)) := by
  have row : exec (.mixSample i false) s = execMixSample i false s := rfl
  rw [row, execMixSample, ifBolt_of_boltUp live, if_neg (by simp [works, inCycle])]
  simp only [Bool.false_eq_true, if_false]
  refine congrArg _ (each_congr fun o t => ?_)
  unfold State.playOutput
  generalize t.mixOutput o _ i _ = mixed
  cases t.on (F.AUD_OUT_MODE o) <;> rfl

end Mix

/-! ### Detectors (spec/11 R278, R279) -/

/-- The class of a magnitude: below the low threshold, above the high one, or between. -/
def State.detClass (s : State) (d mag : Nat) : Nat :=
  if mag / 16 < s.get (F.AUD_DET_THR_LOW_THR d) then 2 else if s.get (F.AUD_DET_THR_HIGH_THR d) < mag / 16 then 3 else 1

/-- A detector's count of integrations in a row that gave a class. -/
def Detector.agreeing (x : Detector) (cls : Nat) : Nat := if cls = x.cls then min 15 (x.agree + 1) else 1

/-- A finished integration noted, its magnitude and cycle shown. -/
def State.detShown (s : State) (d mag cls : Nat) : State :=
  let x := s.bolt.aud.dets.getD d Detector.reset
  let dets := setAt s.bolt.aud.dets d { x with xs := [], done := 0, cls := cls, agree := x.agreeing cls }
  let noted : State := { s with bolt.aud.dets := dets }
  noted.sets [(F.AUD_DET_MAG_LO_MAG d, mag), (F.AUD_DET_MAG_HI_MAG d, mag / 2 ^ 32),
    (F.AUD_DET_CYCLE_CYCLE d, (s.cycle + 2 ^ 32 - 1) % 2 ^ 32)]

/-- A new RESULT told: the class, whether it is low, and interrupt 4. -/
def State.detTold (s : State) (d cls : Nat) : State :=
  let low := if d < 32 then F.AUD_DET_LOW_LO_LOW else F.AUD_DET_LOW_HI_LOW
  let told : State := s.set (F.AUD_DET_STATUS_RESULT d) cls
  (if cls = 2 then told.setB low (d % 32) else told.clrB low (d % 32)).irq bAud 4

/-- An integration over its M cycles: shown, and told once CONFIRM agreeing classes differ from RESULT. -/
theorem detIntegrationEnd_ends {s : State} {d : Fin 64} {c m : Nat} (live : s.boltUp = true) (works : s.audRuns = true)
    (enabled : (s.bolt.aud.dets.getD d.val Detector.reset).cfg = some (c, m))
    (finished : m ≤ (s.bolt.aud.dets.getD d.val Detector.reset).done) :
    let x := s.bolt.aud.dets.getD d.val Detector.reset
    let mag := detMag (slice c 12 17) s.ringRate x.xs.reverse
    let cls := s.detClass d mag
    exec (.detIntegrationEnd d) s = .next
      (if s.get (F.AUD_DET_CFG2_CONFIRM d) ≤ x.agreeing cls && s.get (F.AUD_DET_STATUS_RESULT d) ≠ cls then
        (s.detShown d mag cls).detTold d cls else s.detShown d mag cls) := by
  have row : exec (.detIntegrationEnd d) s = execDetIntegrationEnd d s := rfl
  have ends : ¬(!s.audRuns || decide ((s.bolt.aud.dets.getD d.val Detector.reset).done < m)) = true := by
    rw [works, decide_eq_false (Nat.not_lt.2 finished)]
    decide
  rw [row, execDetIntegrationEnd, ifBolt_of_boltUp live]
  dsimp -iota only
  rw [enabled]
  refine congrArg _ ((if_neg ends).trans ?_)
  rw [← enabled]
  rfl

/-! ### The obligation, row by row -/

/-- Settles O34: received frames by their size and time, a playout read, the outputs of each mode, the end of an integration. -/
theorem audioFramesPlayoutMixAndDetectors : Obligations.AudioFramesPlayoutMixAndDetectors := by
  intro s live on awake
  have works := audRuns_of_isOn on awake
  refine ⟨fun i f valid sink here => ?frameRx, fun ch cyc i bad present inCycle => ?mixRead, fun i inCycle => ?mixSample,
    fun d c m enabled finished => ?detector⟩
  case frameRx =>
    refine ⟨fun early near size => ?_, fun size bundles => ⟨fun early inReach => ?_, fun beyond near => ?_⟩⟩
    · exact audFrameRx_malformed live works valid sink here early near size
    · exact audFrameRx_stored live works valid sink here early (by unfold State.playoutAhead; omega) size bundles inReach
    · exact audFrameRx_tooEarly live works valid sink here (by unfold State.playoutAhead; omega) near size bundles beyond
  case mixRead => exact mixRead_hears live works present inCycle cyc bad
  case mixSample => exact ⟨mixSample_send live works inCycle, mixSample_play live works inCycle⟩
  case detector => exact detIntegrationEnd_ends live works enabled finished

end Sys2Proof.Machine
end


section
/-! Frames of the audio rows (spec/11 R257, R260, R263, R266, R268 to R273, R278; spec/20 R431): each is put together from those of the
operations of the audio engine, which change the engine's own state, registers of AUD, and CNT where an event counter counts. -/

namespace Sys2Proof.Machine

-- One proof after the other: proofs checked side by side hold a thread's stack each, and the memory for the whole text is bounded.
set_option Elab.async false

/-- A state handed on beside other values, whichever way it was made. -/
theorem Within.ite_fst {α : Type} {B : List Nat} {a : State} {x y : State × α} {p : Prop} [Decidable p] (h : Within B a x.1)
    (k : Within B a y.1) : Within B a (if p then x else y).1 := by
  split <;> assumption

section Audio
variable {a s : State} (h : Within [bAud, 0x40E00000] a s)
include h

/-! ### TDM ports -/

theorem Within.putInput (n input v : Nat) : Within [bAud, 0x40E00000] a (s.putInput n input v) := h.upd

theorem Within.capture (t n : Nat) (data : List (BitVec 36)) : Within [bAud, 0x40E00000] a (s.capture t n data) := by
  unfold State.capture
  exact h.each _ _ fun _ _ _ k => k.putInput _ _ _

theorem Within.slotValue (o w x : Nat) : Within [bAud, 0x40E00000] a (s.slotValue o w x).1 := by
  unfold State.slotValue
  exact .ite_fst h (.ite (Within.upd (Within.upd h)) h)

theorem Within.playFrame (t n : Nat) : Within [bAud, 0x40E00000] a (s.playFrame t n) := by
  unfold State.playFrame
  refine .ite (Within.emit (List.foldlRecOn (motive := fun p : State × List (Option Nat) => Within [bAud, 0x40E00000] a p.1)
    _ _ h fun p k slot _ => ?_) _) (h.emit _)
  dsimp -iota only
  split
  · exact k.slotValue _ _ _
  · exact k

theorem Within.tdmGap (t n : Nat) : Within [bAud, 0x40E00000] a (s.tdmGap t n) := h.upd

theorem Within.tdmSlip {t : Nat} (range : t < 16) (n : Nat) : Within [bAud, 0x40E00000] a (s.tdmSlip t n) := by
  refine ((Within.set (Within.upd (h.tdmGap t n)) _ ?_).sat _ ?_).blockIrq 1 <;> exact baseOf_array (base := bAud) (by simp) range

theorem Within.tdmRepeat {t : Nat} (range : t < 16) (n : Nat) : Within [bAud, 0x40E00000] a (s.tdmRepeat t n) := by
  unfold State.tdmRepeat
  exact (h.each _ _ fun _ _ _ k => k.putInput _ _ _).tdmSlip range n

theorem Within.tdmFollow {t : Nat} (range : t < 16) (n run : Nat) (data : List (BitVec 36)) :
    Within [bAud, 0x40E00000] a (s.tdmFollow t n run data) := by
  have expects : Within [bAud, 0x40E00000] a (s.tdmExpects t n run) := h.upd
  have locked : Within [bAud, 0x40E00000] a ((s.tdmExpects t n run).set (F.AUD_TDM_STATUS_CLOCK t) 1) :=
    expects.set 1 (baseOf_array (base := bAud) (by simp) range)
  exact ((locked.ite expects).playFrame t n).capture t n data

theorem Within.tdmFrame {t : Nat} (range : t < 16) (n : Nat) (data : List (BitVec 36)) :
    Within [bAud, 0x40E00000] a (s.tdmFrame t n data) := by
  unfold State.tdmFrame
  split
  · exact Within.tdmFollow (.ite (h.tdmGap t n) h) range _ _ _
  · refine (h.tdmFollow range _ _ _).ite (.ite ((h.playFrame t n).tdmSlip range _) (.ite ?repeats ?slips))
    case repeats => exact (h.each _ _ fun _ _ _ k => k.tdmRepeat range _).tdmFollow range _ _ _
    case slips => exact (h.tdmSlip range n).tdmFollow range _ _ _

/-! ### Received frames -/

theorem Within.streamSink (i : Nat) (f : Hdr) : Within [bAud, 0x40E00000] a (s.streamSink i f).1 := by
  unfold State.streamSink
  exact .ite_fst (h.count _ _ (by simp)) (.ite_fst (h.count _ _ (by simp)) h)

theorem Within.setRemote (ch : Nat) (x : Remote) : Within [bAud, 0x40E00000] a (s.setRemote ch x) := h.upd

theorem Within.storeTrio (ch pc j path w : Nat) : Within [bAud, 0x40E00000] a (s.storeTrio ch pc j path w) := by
  unfold State.storeTrio
  dsimp -iota only
  refine (h.sat _ baseOf_head).ite (h.ite (.ite (Within.sat ?stored _ baseOf_head) ?stored))
  case stored => exact Within.setRemote h.upd _ _

/-! ### The mix -/

theorem Within.rampTo (key : Nat) (target : Int) : Within [bAud, 0x40E00000] a (s.rampTo key target).1 := h.upd

theorem Within.mixTerms (o cyc i : Nat) (play : Option Nat) : Within [bAud, 0x40E00000] a (s.mixTerms o cyc i play).1 := by
  refine List.foldlRecOn (motive := fun p : State × List Int × Nat × Nat => Within [bAud, 0x40E00000] a p.1) _ _ h
    fun p k u _ => ?_
  obtain ⟨t, sums, clips, bad⟩ := p
  exact .ite_fst k (k.rampTo _ _)

theorem Within.mixLayers (o : Nat) (sums : List Int) : Within [bAud, 0x40E00000] a (s.mixLayers o sums).1 :=
  List.foldlRecOn (motive := fun p : State × Int × Nat => Within [bAud, 0x40E00000] a p.1) _ _ h
    fun _ k _ _ => Within.rampTo k.upd _ _

theorem Within.pilot (o : Nat) : Within [bAud, 0x40E00000] a (s.pilot o).1 := by
  unfold State.pilot
  exact .ite_fst (.ite h h.upd) (Within.upd (.ite h.upd h))

theorem Within.mixCounts (o clips bad : Nat) : Within [bAud, 0x40E00000] a (s.mixCounts o clips bad) := by
  unfold State.mixCounts
  refine .ite ?clipped (Within.blockIrq (Within.sat ?clipped _ baseOf_head) 6)
  case clipped => exact h.ite (Within.blockIrq (Within.sat h.upd _ baseOf_head) 5)

theorem Within.mixOutput (o cyc i : Nat) (play : Option Nat) : Within [bAud, 0x40E00000] a (s.mixOutput o cyc i play).1 := by
  unfold State.mixOutput
  exact (((h.mixTerms o cyc i play).mixLayers o _).pilot o).mixCounts o _ _

/-! ### Detectors -/

/-- What a detector's registers show of an integration. -/
theorem Within.detMeasured {d : Nat} (range : d < 64) (lo hi cyc : Nat) : Within [bAud, 0x40E00000] a
    (s.sets [(F.AUD_DET_MAG_LO_MAG d, lo), (F.AUD_DET_MAG_HI_MAG d, hi), (F.AUD_DET_CYCLE_CYCLE d, cyc)]) := by
  refine ((h.set _ ?_).set _ ?_).set _ ?_ <;> exact baseOf_array (base := bAud) (by simp) range

theorem Within.detTold {d : Nat} (range : d < 64) (cls : Nat) : Within [bAud, 0x40E00000] a (s.detTold d cls) := by
  have told : Within [bAud, 0x40E00000] a (s.set (F.AUD_DET_STATUS_RESULT d) cls) :=
    h.set cls (baseOf_array (base := bAud) (by simp) range)
  have low : baseOf (if d < 32 then F.AUD_DET_LOW_LO_LOW else F.AUD_DET_LOW_HI_LOW).reg ∈ [bAud, 0x40E00000] := by
    split <;> exact baseOf_head
  exact (Within.ite (told.setB _ low) (told.clrB _ low)).blockIrq 4

end Audio

/-! ### The rows -/

section AudioRows
variable (s : State)

theorem tdmMasterFrame_within (t : Fin 16) (i : Fin 24) (data : List (BitVec 36)) :
    WithinStep [bAud, 0x40E00000] s (exec (.tdmMasterFrame t i data) s) :=
  Within.ifBolt (.ite ((Within.playFrame (.refl _ s) t _).capture t _ data) (.refl _ s))

theorem tdmFsync_within (t : Fin 16) (e : BitVec 72) (data : List (BitVec 36)) :
    WithinStep [bAud, 0x40E00000] s (exec (.tdmFsync t e data) s) := by
  have h := Within.refl [bAud, 0x40E00000] s
  exact Within.ifBolt (.ite (h.tdmFrame t.isLt _ data) h)

theorem tdmLost_within (t : Fin 16) : WithinStep [bAud, 0x40E00000] s (exec (.tdmLost t) s) := by
  refine Within.ifBolt (.ite (((Within.set (Within.upd (Within.tdmGap (.refl _ s) _ _)) _ ?_).sat _ ?_).blockIrq 2) (.refl _ s)) <;>
    exact baseOf_array (base := bAud) (by simp) t.isLt

theorem audFrameRx_within (i : Fin 1024) (f : Frame) : WithinStep [bAud, 0x40E00000] s (exec (.audFrameRx i f) s) := by
  have h := Within.refl [bAud, 0x40E00000] s
  exact Within.ifBolt (h.ite ((h.streamSink _ _).ite (((h.sat _ baseOf_head).blockIrq 7).ite ((h.count _ _ (by simp)).ite
    (h.each _ _ fun _ _ _ k => k.each _ _ fun _ _ _ k => k.storeTrio _ _ _ _ _)))))

theorem mixRead_within (ch : Fin 1024) (cyc : BitVec 32) (i : Fin 24) (bad : Bool) :
    WithinStep [bAud, 0x40E00000] s (exec (.mixRead ch cyc i bad) s) := by
  have h := Within.refl [bAud, 0x40E00000] s
  refine Within.ifBolt (h.ite (.ite (Within.upd ?heard) ?heard))
  case heard => exact Within.upd (Within.setRemote (.ite (h.sat _ baseOf_head) h) _ _)

theorem mixSample_within (i : Fin 24) (send : Bool) : WithinStep [bAud, 0x40E00000] s (exec (.mixSample i send) s) := by
  have reviewed : Within [bAud, 0x40E00000] s s.genReview := Within.upd (.refl _ s)
  refine Within.ifBolt (.ite (.refl _ s) (Within.each (.ite reviewed reviewed.upd) _ _ fun o _ t k => k.ite ?_))
  exact .ite (Within.upd (k.mixOutput _ _ _ _)) (Within.upd (k.mixOutput _ _ _ _))

theorem detIntegrationEnd_within (d : Fin 64) : WithinStep [bAud, 0x40E00000] s (exec (.detIntegrationEnd d) s) := by
  have h := Within.refl [bAud, 0x40E00000] s
  refine Within.ifBolt ?_
  dsimp -iota only
  split
  · exact h
  · refine h.ite (.ite (Within.detTold ?shown d.isLt _) ?shown)
    case shown => exact Within.detMeasured h.upd d.isLt _ _ _

end AudioRows

/-- Settles O51: every row keeps to AUD and CNT, each by its own frame. -/
theorem audioRowsKeepToAudio : Obligations.AudioRowsKeepToAudio := by
  rintro s c (⟨t, i, d, rfl⟩ | ⟨t, e, d, rfl⟩ | ⟨t, rfl⟩ | ⟨e, f, rfl⟩ | ⟨ch, n, i, bad, rfl⟩ | ⟨i, send, rfl⟩ | ⟨d, rfl⟩)
  · exact tdmMasterFrame_within s t i d
  · exact tdmFsync_within s t e d
  · exact tdmLost_within s t
  · exact audFrameRx_within s e f
  · exact mixRead_within s ch n i bad
  · exact mixSample_within s i send
  · exact detIntegrationEnd_within s d

end Sys2Proof.Machine
end

section
/-! Every row keeps what `Kept` says: the invariant, the fuses grown, the flash device and the waiting commands. -/

namespace Sys2Proof.Machine

/-- From a sound state every row keeps what its own law says it keeps. -/
theorem exec_kept {s : State} (sound : s.Inv) (c : Instr) : KeptStep s (exec c s) := by
  have h := Kept.refl sound
  cases c with
  | regWrite => exact kept_execRegWrite h _ _ _ _ _
  | loRead => exact kept_execLoRead h _ _
  | loWrite => exact kept_execLoWrite h _ _ _
  | hiWrite => exact kept_execHiWrite h _ _ _
  | hartRelease => exact kept_execHartRelease h _ _
  | tokenRelease => exact kept_execTokenRelease h _ _
  | tokenRequest => exact kept_execTokenRequest h _ _ _
  | tokenDeny => exact kept_execTokenDeny h _
  | hostHbBeat => exact kept_execHostHbBeat h _ _
  | hostHbLapse => exact kept_execHostHbLapse h _
  | spiWrite => exact kept_execSpiWrite h _ _ _
  | spiRead => exact kept_execSpiRead h _
  | pcieBarAccess => exact kept_execPcieBarAccess h _ _ _ _ _
  | unitEnable => exact kept_execUnitEnable h _ _ _
  | checkDone => exact kept_execCheckDone h _
  | unitDisable => exact kept_execUnitDisable h _ _ _
  | unitStopped => exact kept_execUnitStopped h _
  | idleFlit => exact kept_execIdleFlit h _ _
  | regWrFlit => exact kept_execRegWrFlit h _
  | regRdFlit => exact kept_execRegRdFlit h _
  | regRespFlit => exact kept_execRegRespFlit h _
  | pdMsgFlit => exact kept_execPdMsgFlit h _ _
  | usbFlit => exact kept_execUsbFlit h _ _
  | eventFlit => exact kept_execEventFlit h _
  | nvsReqFlit => exact kept_execNvsReqFlit h _
  | nvsDataFlit => exact kept_execNvsDataFlit h _ _
  | switchFlit => exact kept_execSwitchFlit h _ _
  | ackFlit => exact kept_execAckFlit h _ _
  | nakFlit => exact kept_execNakFlit h _ _
  | flitAckTimeout => exact kept_execFlitAckTimeout h _
  | seamRxTimeout d => exact kept_execSeamRxTimeout h d
  | seamRetrainTimer => exact kept_execSeamRetrainTimer h
  | retrain => exact kept_execRetrain h _
  | seamRetrainDone => exact kept_execSeamRetrainDone h _ _
  | patLoadStart => exact kept_execPatLoadStart h _ _
  | patAbandon => exact kept_execPatAbandon h _ _
  | patResume => exact kept_execPatResume h
  | rootPllLock => exact kept_execRootPllLock h
  | pcieRefCheck => exact kept_execPcieRefCheck h _ _
  | cycleBoundary => exact kept_execCycleBoundary h
  | timeRx => exact kept_execTimeRx h _ _ _
  | timeSourceLost => exact kept_execTimeSourceLost h _
  | timeFault => exact kept_execTimeFault h
  | holdoverLong => exact kept_execHoldoverLong h
  | ppsEdge => exact kept_execPpsEdge h _ _
  | ppsLost => exact kept_execPpsLost h _
  | refclkLost => exact kept_execRefclkLost h
  | pllUnlock => exact kept_execPllUnlock h
  | refclkReturn => exact kept_execRefclkReturn h
  | frameStitchRx => exact kept_execFrameStitchRx h _ _
  | idleStitchRx => exact kept_execIdleStitchRx h _ _
  | ctrlStitchRx => exact kept_execCtrlStitchRx h _
  | alignRx => exact kept_execAlignRx h _ _ _ _ _
  | keepaliveRx => exact kept_execKeepaliveRx h _
  | signalLoss => exact kept_execSignalLoss h _
  | alignTx => exact kept_execAlignTx h _
  | keepaliveTx => exact kept_execKeepaliveTx h _ _
  | idleRowTx => exact kept_execIdleRowTx h _
  | alignIntervalEnd => exact kept_execAlignIntervalEnd h _
  | signalStable => exact kept_execSignalStable h _
  | cdrLock => exact kept_execCdrLock h _
  | eqDone => exact kept_execEqDone h _ _
  | bringTimeout => exact kept_execBringTimeout h _
  | faultRetry => exact kept_execFaultRetry h _
  | closingDone => exact kept_execClosingDone h _
  | portDisable => exact kept_execPortDisable h _ _ _
  | dockWindowEnd => exact kept_execDockWindowEnd h _
  | dfeTapStep => exact kept_execDfeTapStep h _ _ _
  | dfeLoad => exact kept_execDfeLoad h _ _ _
  | prbsCtrlWrite => exact kept_execPrbsCtrlWrite h _ _ _
  | prbsInject => exact kept_execPrbsInject h _ _ _
  | prbsClear => exact kept_execPrbsClear h _ _ _
  | prbsLock => exact kept_execPrbsLock h _ _ _
  | prbsLost => exact kept_execPrbsLost h _ _ _
  | modPresent => exact kept_execModPresent h _
  | modReadyPoll => exact kept_execModReadyPoll h _ _
  | modRemoved => exact kept_execModRemoved h _
  | modPoll => exact kept_execModPoll h _ _ _ _ _
  | modReset => exact kept_execModReset h _ _ _
  | modCmdRead => exact kept_execModCmdRead h _ _ _
  | modCmdWrite => exact kept_execModCmdWrite h _ _ _
  | modCmdDone => exact kept_execModCmdDone h _ _ _
  | frameRx => exact kept_execFrameRx h _
  | reliableDataRx => exact kept_execReliableDataRx h _
  | reliableAckRx => exact kept_execReliableAckRx h _
  | retransmitTimeout => exact kept_execRetransmitTimeout h _ _
  | frayRx => exact kept_execFrayRx h _
  | datagramRx => exact kept_execDatagramRx h _
  | knotRx => exact kept_execKnotRx h _
  | knotTimeout => exact kept_execKnotTimeout h _ _
  | tunCommit => exact kept_execTunCommit h _ _ _
  | invalidate => exact kept_execInvalidate h _ _ _
  | commitEffect => exact kept_execCommitEffect h _
  | progressTimer => exact kept_execProgressTimer h _
  | readyListAdmit => exact kept_execReadyListAdmit h _ _
  | scrubRead => exact kept_execScrubRead h _ _
  | creditRx => exact kept_execCreditRx h _ _
  | creditStall => exact kept_execCreditStall h _ _
  | pauseRepeat => exact kept_execPauseRepeat h
  | pauseRx => exact kept_execPauseRx h _ _
  | copyDone => exact kept_execCopyDone h _
  | residueExpiry => exact kept_execResidueExpiry h
  | cutThroughStart => exact kept_execCutThroughStart h _
  | drainDone => exact kept_execDrainDone h _
  | eccArm => exact kept_execEccArm h _ _
  | tokenAdd => exact kept_execTokenAdd h
  | placementFixed => exact kept_execPlacementFixed h _ _ _
  | placementStart => exact kept_execPlacementStart h _
  | sampClear => exact kept_execSampClear h _ _
  | planCheckDone => exact kept_execPlanCheckDone h _
  | cmdPlanWrite => exact kept_execCmdPlanWrite h _ _
  | altSew => exact kept_execAltSew h _
  | altUnpick => exact kept_execAltUnpick h _
  | altAlarm => exact kept_execAltAlarm h _
  | altPoll => exact kept_execAltPoll h _
  | alarmCmd => exact kept_execAlarmCmd h _
  | readyRx => exact kept_execReadyRx h _
  | sewRx => exact kept_execSewRx h _
  | alarmSewRx => exact kept_execAlarmSewRx h _
  | unpickRx => exact kept_execUnpickRx h _
  | reportRx => exact kept_execReportRx h _
  | pollRx => exact kept_execPollRx h _
  | ringCtrlRx => exact kept_execRingCtrlRx h _ _
  | beaconRx => exact kept_execBeaconRx h _ _
  | announceRx => exact kept_execAnnounceRx h _ _
  | announceTimer => exact kept_execAnnounceTimer h
  | edgeRx => exact kept_execEdgeRx h _ _
  | edgeExpire => exact kept_execEdgeExpire h
  | claimRx => exact kept_execClaimRx h _ _
  | beaconLoss => exact kept_execBeaconLoss h
  | claimWaitExpiry => exact kept_execClaimWaitExpiry h
  | rollcallRx => exact kept_execRollcallRx h _ _
  | takenRx => exact kept_execTakenRx h _
  | rollcallEnd => exact kept_execRollcallEnd h
  | joinReqRx => exact kept_execJoinReqRx h _
  | joinAckRx => exact kept_execJoinAckRx h _
  | joinRetry => exact kept_execJoinRetry h
  | healRx => exact kept_execHealRx h _
  | openingRx => exact kept_execOpeningRx h _
  | openDrainEnd => exact kept_execOpenDrainEnd h
  | nakRx => exact kept_execNakRx h _
  | msgRx => exact kept_execMsgRx h _
  | forgetRx => exact kept_execForgetRx h _
  | ringRollcall => exact kept_execRingRollcall h _
  | ringResign => exact kept_execRingResign h _
  | openRing => exact kept_execOpenRing h _
  | ringHeal => exact kept_execRingHeal h _
  | ringForget => exact kept_execRingForget h _
  | msgSend => exact kept_execMsgSend h _ _
  | rxPop => exact kept_execRxPop h _
  | buddySingle => exact kept_execBuddySingle h _
  | tdmMasterFrame => exact kept_execTdmMasterFrame h _ _ _
  | tdmFsync => exact kept_execTdmFsync h _ _ _
  | tdmLost => exact kept_execTdmLost h _
  | audFrameRx => exact kept_execAudFrameRx h _ _
  | mixRead => exact kept_execMixRead h _ _ _ _
  | mixSample => exact kept_execMixSample h _ _
  | detIntegrationEnd => exact kept_execDetIntegrationEnd h _
  | valueHiWrite => exact kept_execValueHiWrite h _ _ _
  | stateRx => exact kept_execStateRx h _ _
  | stateStale => exact kept_execStateStale h _
  | cvuData => exact kept_execCvuData h _ _ _
  | cvuFeedByte => exact kept_execCvuFeedByte h _ _ _
  | cvuStart => exact kept_execCvuStart h _ _ _
  | cvuCompare => exact kept_execCvuCompare h _ _ _
  | cvuAlive => exact kept_execCvuAlive h _ _ _
  | tlpRx => exact kept_execTlpRx h _ _ _
  | tlpToTunnel => exact kept_execTlpToTunnel h _
  | pcbRecordsRx => exact kept_execPcbRecordsRx h _ _ _
  | packTimeout => exact kept_execPackTimeout h _
  | linkStateRx => exact kept_execLinkStateRx h _ _ _ _
  | pcbCreditRx => exact kept_execPcbCreditRx h _ _ _
  | appliedRx => exact kept_execAppliedRx h _ _
  | faultRx => exact kept_execFaultRx h _ _ _ _ _
  | completionTimeout => exact kept_execCompletionTimeout h _ _ _
  | pcieLinkChange => exact kept_execPcieLinkChange h _ _ _ _ _
  | downstreamReset => exact kept_execDownstreamReset h _ _ _
  | dpVideoFrame => exact kept_execDpVideoFrame h _ _ _
  | dpLine => exact kept_execDpLine h _ _ _
  | dpFrameRx => exact kept_execDpFrameRx h _ _
  | dpTxVsync => exact kept_execDpTxVsync h _ _ _ _
  | dpNoVideo => exact kept_execDpNoVideo h _
  | hpdRise => exact kept_execHpdRise h _ _ _ _ _
  | auxRequest => exact kept_execAuxRequest h _ _ _ _ _ _ _
  | auxReplyRx => exact kept_execAuxReplyRx h _ _ _
  | auxTimeout => exact kept_execAuxTimeout h _ _
  | ethRx => exact kept_execEthRx h _ _ _
  | ethAge => exact kept_execEthAge h
  | learnGo => exact kept_execLearnGo h _ _
  | drpToggle => exact kept_execDrpToggle h _
  | attach => exact kept_execAttach h _ _ _ _ _
  | detach => exact kept_execDetach h _
  | detachDeclare => exact kept_execDetachDeclare h _ _
  | moistureTest => exact kept_execMoistureTest h _ _ _
  | moistureTimer => exact kept_execMoistureTimer h _
  | requestRx => exact kept_execRequestRx h _ _ _ _
  | psRdy => exact kept_execPsRdy h _
  | sourceCapabilitiesRx => exact kept_execSourceCapabilitiesRx h _ _
  | swapRx => exact kept_execSwapRx h _ _
  | askAnswer => exact kept_execAskAnswer h _ _ _
  | waitRx => exact kept_execWaitRx h _
  | waitRetry => exact kept_execWaitRetry h _ _
  | vconnSwapRx => exact kept_execVconnSwapRx h _
  | frSwapSignal => exact kept_execFrSwapSignal h _
  | enterModeRx => exact kept_execEnterModeRx h _ _
  | exitModeRx => exact kept_execExitModeRx h _
  | discoverRx => exact kept_execDiscoverRx h _ _
  | hardResetRx => exact kept_execHardResetRx h _
  | senderResponseTimeout => exact kept_execSenderResponseTimeout h _
  | budgetCommit => exact kept_execBudgetCommit h _ _
  | tcpPortHold => exact kept_execTcpPortHold h _ _ _
  | cmdDetach => exact kept_execCmdDetach h _ _
  | prSwap => exact kept_execPrSwap h _ _
  | drSwap => exact kept_execDrSwap h _ _
  | vconnSwap => exact kept_execVconnSwap h _ _
  | hardReset => exact kept_execHardReset h _ _
  | sendCaps => exact kept_execSendCaps h _ _
  | enterMode => exact kept_execEnterMode h _ _
  | exitMode => exact kept_execExitMode h _ _
  | usbBusReset => exact kept_execUsbBusReset h
  | usbUpstreamConnect => exact kept_execUsbUpstreamConnect h
  | hostRun => exact kept_execHostRun h _ _
  | pipeGo => exact kept_execPipeGo h _ _ _
  | pipeAbort => exact kept_execPipeAbort h _ _
  | pipeDone => exact kept_execPipeDone h _ _ _ _ _
  | devSetup => exact kept_execDevSetup h _ _
  | mbxRx => exact kept_execMbxRx h _
  | mbxPop => exact kept_execMbxPop h _ _
  | txGo => exact kept_execTxGo h _ _
  | mbxTxDone => exact kept_execMbxTxDone h
  | isoOutPacket => exact kept_execIsoOutPacket h _
  | isoInPacket => exact kept_execIsoInPacket h
  | audFeedback => exact kept_execAudFeedback h _
  | startSplit => exact kept_execStartSplit h _ _ _ _ _ _ _ _ _
  | completeSplit => exact kept_execCompleteSplit h _ _ _ _ _
  | transactionRx => exact kept_execTransactionRx h _ _ _ _ _ _ _ _ _ _ _
  | resultRx => exact kept_execResultRx h _ _ _ _ _ _ _ _
  | remoteResultTimeout => exact kept_execRemoteResultTimeout h _ _ _
  | prefetchPoll => exact kept_execPrefetchPoll h _ _ _ _
  | eventRx => exact kept_execEventRx h _ _ _
  | inputWindow => exact kept_execInputWindow h _ _
  | uvRideEnd => exact kept_execUvRideEnd h _
  | insertDone => exact kept_execInsertDone h _
  | prechargeDone => exact kept_execPrechargeDone h _ _
  | preShortCheck => exact kept_execPreShortCheck h _ _ _
  | preTimeout => exact kept_execPreTimeout h _ _ _
  | rampDone => exact kept_execRampDone h _ _ _
  | rampTimeout => exact kept_execRampTimeout h _ _
  | pgoodFall => exact kept_execPgoodFall h _ _ _ _
  | frsTimeout => exact kept_execFrsTimeout h _
  | fastTrip => exact kept_execFastTrip h _ _
  | i2tUpdate => exact kept_execI2tUpdate h _ _ _
  | retryWaitEnd => exact kept_execRetryWaitEnd h _
  | pgoodHeld => exact kept_execPgoodHeld h _
  | gateRemoval => exact kept_execGateRemoval h _
  | gateCmdClear => exact kept_execGateCmdClear h _ _
  | gateDischarge => exact kept_execGateDischarge h _ _
  | gateOnWrite => exact kept_execGateOnWrite h _ _ _
  | powerOn => exact kept_execPowerOn h _
  | brownOut => exact kept_execBrownOut h _
  | pwrCmdRun => exact kept_execPwrCmdRun h _ _
  | pwrCmdQuiet => exact kept_execPwrCmdQuiet h _ _
  | pwrCmdStandby => exact kept_execPwrCmdStandby h _ _
  | pwrCmdOff => exact kept_execPwrCmdOff h _ _
  | standbyBoltOff => exact kept_execStandbyBoltOff h
  | boltOffHoldEnd => exact kept_execBoltOffHoldEnd h
  | goReady => exact kept_execGoReady h _ _
  | wakeLateReady => exact kept_execWakeLateReady h _
  | lanternCycle => exact kept_execLanternCycle h _ _
  | wakeNRelease => exact kept_execWakeNRelease h
  | wakeClear => exact kept_execWakeClear h _
  | keyDerive => exact kept_execKeyDerive h _
  | keyGenerate => exact kept_execKeyGenerate h _
  | keyAgree => exact kept_execKeyAgree h _
  | keySign => exact kept_execKeySign h _
  | keySeal => exact kept_execKeySeal h _
  | keyUnseal => exact kept_execKeyUnseal h _
  | keyPublic => exact kept_execKeyPublic h _
  | keyAttest => exact kept_execKeyAttest h _
  | keyErase => exact kept_execKeyErase h _
  | opDone => exact kept_execOpDone h
  | lcBlowOwner => exact kept_execLcBlowOwner h _
  | lcDeploy => exact kept_execLcDeploy h _
  | lcRetire => exact kept_execLcRetire h _
  | mrExtend => exact kept_execMrExtend h _ _
  | mrLock1 => exact kept_execMrLock1 h _
  | keyAgreeRx => exact kept_execKeyAgreeRx h _ _
  | keyAgreeTimeout => exact kept_execKeyAgreeTimeout h _ _
  | tamperEvent => exact kept_execTamperEvent h _ _
  | tmpClear => exact kept_execTmpClear h _ _
  | counterClear => exact kept_execCounterClear h _
  | counterLoad => exact kept_execCounterLoad h _
  | clearGroup => exact kept_execClearGroup h _ _
  | counterWrap => exact kept_execCounterWrap h _
  | samplePeriod => exact kept_execSamplePeriod h _ _
  | dumpNow => exact kept_execDumpNow h _
  | dumpDone => exact kept_execDumpDone h
  | nvsSnapshot => exact kept_execNvsSnapshot h _ _
  | fltSwRecord => exact kept_execFltSwRecord h _ _
  | nvsWriteDone => exact kept_execNvsWriteDone h
  | wipeLog => exact kept_execWipeLog h _
  | wipeProg => exact kept_execWipeProg h _
  | ntsGo => exact kept_execNtsGo h _
  | testFrameRx => exact kept_execTestFrameRx h _
  | ntsAbort => exact kept_execNtsAbort h _
  | bootRom => exact kept_execBootRom h _ _
  | bootImageValidate => exact kept_execBootImageValidate h
  | patStepComplete => exact kept_execPatStepComplete h _ _
  | ethLinkChange => exact kept_execEthLinkChange h _ _
  | swapAnswerRx => exact kept_execSwapAnswerRx h _ _
  | vdmAckRx => exact kept_execVdmAckRx h _ _ _ _ _ _ _
  | downstreamPortChange => exact kept_execDownstreamPortChange h _ _ _
  | usbSuspendResume => exact kept_execUsbSuspendResume h _
  | hubClassRequest => exact kept_execHubClassRequest h _ _ _
  | remoteResetDone => exact kept_execRemoteResetDone h _
  | remoteDisconnectTimer => exact kept_execRemoteDisconnectTimer h
  | dischargeDone => exact kept_execDischargeDone h _ _

/-- The invariant speaks of nothing that waits. -/
theorem inv_pending {s : State} (sound : s.Inv) (rest : List Instr) : State.Inv { s with pending := rest } :=
  ⟨sound.deployed, sound.regs, sound.sram, sound.nvs, sound.usb, sound.msix⟩

/-- Settles O1. -/
theorem stepRunsTheFrontCommand : Obligations.StepRunsTheFrontCommand := by
  refine fun s => ⟨fun c rest front => ?_, fun idle => ?_⟩
  · rw [step, front]
  · rw [step, idle]

/-- Settles O2: at reset every store is empty, so nothing is listed in a wrong order or with its reset value. -/
theorem resetIsSound : Obligations.ResetIsSound :=
  ⟨⟨fun deployed => absurd deployed (by decide), rfl, rfl, rfl, rfl, rfl⟩, rfl, rfl, fun _ => rfl⟩

/-- Settles O3: a step runs the front command on a state as sound, and every row keeps the invariant. -/
theorem everyStepKeepsTheInvariant : Obligations.EveryStepKeepsTheInvariant := by
  intro s t sound stepped
  cases front : s.pending with
  | nil =>
    rw [step, front] at stepped
    cases stepped
    exact sound
  | cons c rest =>
    rw [step, front] at stepped
    exact (exec_kept (inv_pending sound rest) c t stepped).inv

/-- Settles O4: what every row keeps says that the fuses have grown and the flash device and the queue stay.  A write of the peripheral
window, which stops by name (assumption log 62), answers no next state. -/
theorem fusesOnlyGrow : Obligations.FusesOnlyGrow := by
  intro s t c sound row
  have kept : Kept s t := exec_kept sound c t row
  exact ⟨kept.fuses, kept.flash, kept.pending⟩

end Sys2Proof.Machine
end

section
/-! Counters (spec/20 R429 to R434) and firmware's fault record (R445): what a write without enable-guarded fields stores, how a counter
reads after each operation on it, what telling an interrupt leaves of the counters. -/

namespace Sys2Proof.Machine

/-! ### Writes of registers without enable-guarded fields (spec/00 R6) -/

/-- Only an RWE field can refuse a write. -/
theorem foldl_writeField_refused {en : Bool} {v : Word} {fields : List FieldDef} (acc : Word × Bool)
    (unguarded : ∀ f ∈ fields, f.acc ≠ .rwe) : (fields.foldl (writeField en v) acc).2 = acc.2 := by
  induction fields generalizing acc with
  | nil => rfl
  | cons f fields ih =>
    have here : f.acc ≠ .rwe := unguarded f (by simp)
    rw [List.foldl_cons, ih _ fun g h => unguarded g (List.mem_cons_of_mem _ h)]
    unfold writeField
    cases kind : f.acc
    case rwe => exact absurd kind here
    all_goals rfl

section Unguarded
variable {a : Nat} {r : RegDef} {ix : List Nat} (beyondHeader : 0x10 ≤ a % 0x100000) (found : findReg a = some (r, ix))
  (unguarded : ∀ f ∈ r.fields, f.acc ≠ .rwe)
include beyondHeader found unguarded

/-- A register without RWE fields: a write stores its own word and nothing else. -/
theorem storeWrite_unguarded (s : State) (v : Word) : s.storeWrite a v = s.wr a ((s.storeWrite a v).rd a) := by
  rw [rd_storeWrite_same beyondHeader found, storeWrite_fields beyondHeader found, State.when,
    foldl_writeField_refused _ unguarded]
  rfl

theorem written_unguarded (s : State) (v : Word) : s.written a v = (s.countSpoolWrite a).wr a ((s.written a v).rd a) :=
  storeWrite_unguarded beyondHeader found unguarded _ v

theorem rd_written_unguarded (s : State) (v : Word) {b : Nat} (other : a ≠ b) : (s.written a v).rd b = s.rd b := by
  rw [written_unguarded beyondHeader found unguarded, rd_wr_other _ other]
  unfold State.countSpoolWrite
  split <;> rfl

theorem get_written_unguarded (s : State) (v : Word) {f : Fld} (other : a ≠ f.reg) : (s.written a v).get f = s.get f :=
  get_congr (rd_written_unguarded beyondHeader found unguarded s v other)

theorem bolt_written_unguarded (s : State) (v : Word) : (s.written a v).bolt = s.bolt := by
  rw [written_unguarded beyondHeader found unguarded, wr_bolt]
  unfold State.countSpoolWrite
  split <;> rfl

end Unguarded

/-- A row that is a write command, on an accepted write. -/
theorem next_command {s : State} {w : Requester} {a : Nat} (acc : s.accepts w a) (v : Word) (act : State → State) :
    (.next (s.command w a v act) : Step) = .next ((act (s.written a v)).answer w .done 0) :=
  congrArg _ (command_of_accepts acc v act)

/-! ### Stores under operations on other keys -/

theorem lookupKey_filter {α : Type} (p : Nat → Bool) (k : Nat) (l : List (Nat × α)) :
    lookupKey k (l.filter fun c => p c.1) = if p k then lookupKey k l else none := by
  induction l with
  | nil => simp [lookupKey]
  | cons q t ih =>
    obtain ⟨a, x⟩ := q
    by_cases same : a = k
    · subst same
      cases keeps : p a <;> simp [keeps, lookupKey, ih]
    · cases keeps : p a <;> simp [keeps, lookupKey, same, ih]

theorem filter_insertKey {α : Type} {p : Nat × α → Bool} {k : Nat} (out : ∀ v, p (k, v) = false) (v : α) (l : List (Nat × α)) :
    (insertKey k v l).filter p = l.filter p := by
  induction l with
  | nil => simp [insertKey, out]
  | cons q t ih =>
    obtain ⟨a, x⟩ := q
    simp only [insertKey]
    split
    · rw [List.filter_cons_of_neg (by simp [out])]
    · split
      · rename_i same
        subst same
        rw [List.filter_cons_of_neg (by simp [out]), List.filter_cons_of_neg (by simp [out])]
      · simp only [List.filter_cons, ih]

theorem filter_eraseKey {α : Type} {p : Nat × α → Bool} {k : Nat} (out : ∀ v, p (k, v) = false) (l : List (Nat × α)) :
    (eraseKey k l).filter p = l.filter p := by
  induction l with
  | nil => rfl
  | cons q t ih =>
    obtain ⟨a, x⟩ := q
    simp only [eraseKey]
    split
    · rename_i same
      subst same
      rw [ih, List.filter_cons_of_neg (by simp [out])]
    · simp only [List.filter_cons, ih]

theorem filter_putKey {α : Type} [DecidableEq α] {p : Nat × α → Bool} {k : Nat} (out : ∀ v, p (k, v) = false) (d v : α)
    (l : List (Nat × α)) : (putKey d k v l).filter p = l.filter p := by
  unfold putKey
  split
  · exact filter_eraseKey out l
  · exact filter_insertKey out v l

/-! ### Counters read after each operation (spec/20 R429 to R432) -/

theorem counter_setCounter_same (s : State) (id v : Nat) : (s.setCounter id v).counter id = v % 2 ^ 48 :=
  getKey_putKey_same _ _ _ _

theorem counter_setCounter_other (s : State) {id j : Nat} (v : Nat) (other : j ≠ id) :
    (s.setCounter id v).counter j = s.counter j :=
  getKey_putKey_other _ _ other.symm _ _

theorem counter_clearGroup (s : State) (g id : Nat) :
    (s.clearGroup g).counter id = if counterGroup id = g then 0 else s.counter id := by
  unfold State.counter State.clearGroup getKey
  rw [lookupKey_filter fun i => counterGroup i != g]
  by_cases mine : counterGroup id = g <;> simp [mine]

theorem counter_of_bolt {s t : State} (same : t.bolt = s.bolt) (id : Nat) : t.counter id = s.counter id := by
  rw [State.counter, same, State.counter]

/-! ### CNT_CMD (spec/20 R432) -/

section Command
variable {s : State} {who : Requester}

theorem cntCmd_written_rd (s : State) (v : Word) {b : Nat} (other : b ≠ R.CNT_CMD) : (s.written R.CNT_CMD v).rd b = s.rd b :=
  rd_written_unguarded (by decide) rfl (by decide) s v other.symm

theorem cntCmd_written_counter (s : State) (v : Word) (id : Nat) : (s.written R.CNT_CMD v).counter id = s.counter id :=
  counter_of_bolt (bolt_written_unguarded (by decide) rfl (by decide) s v) id

theorem cntCmd_written_get (s : State) (v : Word) {f : Fld} (other : f.reg ≠ R.CNT_CMD) :
    (s.written R.CNT_CMD v).get f = s.get f :=
  get_congr (cntCmd_written_rd s v other)

/-- CLEAR and LOAD put one value into the selected counter. -/
theorem setsSelected {c : Instr} {v : Word} (n : Nat)
    (row : exec c s = .next ((((s.written R.CNT_CMD v).setCounter (s.get F.CNT_SEL_ID) n)).answer who .done 0)) :
    ∃ t : State, exec c s = .next t ∧ t.counter (s.get F.CNT_SEL_ID) = n % 2 ^ 48 ∧
      (∀ id, id ≠ s.get F.CNT_SEL_ID → t.counter id = s.counter id) ∧ ∀ a, a ≠ R.CNT_CMD → t.rd a = s.rd a := by
  refine ⟨_, row, ?_, fun id other => ?_, fun a other => ?_⟩
  · rw [counter_answer, counter_setCounter_same]
  · rw [counter_answer, counter_setCounter_other _ _ other, cntCmd_written_counter]
  · rw [rd_answer]
    exact cntCmd_written_rd s v other

variable (acc : s.accepts who R.CNT_CMD)
include acc

theorem counterClear_clears : exec (.counterClear who) s =
    .next (((s.written R.CNT_CMD 1).setCounter (s.get F.CNT_SEL_ID) 0).answer who .done 0) := by
  rw [← cntCmd_written_get s 1 (f := F.CNT_SEL_ID) (by decide)]
  exact next_command acc 1 _

theorem counterLoad_loads : exec (.counterLoad who) s = .next (((s.written R.CNT_CMD 2).setCounter (s.get F.CNT_SEL_ID)
    (s.get F.CNT_LOAD_LO_VALUE + 2 ^ 32 * s.get F.CNT_LOAD_HI_VALUE)).answer who .done 0) := by
  have kept {f : Fld} (other : f.reg ≠ R.CNT_CMD) := cntCmd_written_get s 2 other
  rw [← kept (f := F.CNT_SEL_ID) (by decide), ← kept (f := F.CNT_LOAD_LO_VALUE) (by decide),
    ← kept (f := F.CNT_LOAD_HI_VALUE) (by decide)]
  exact next_command acc 2 _

theorem clearGroup_clears (g : Fin 8) : ∃ t : State, exec (.clearGroup who g) s = .next t ∧
    (∀ id, t.counter id = if counterGroup id = g.val then 0 else s.counter id) ∧ ∀ a, a ≠ R.CNT_CMD → t.rd a = s.rd a := by
  refine ⟨_, next_command acc _ _, fun id => ?_, fun a other => ?_⟩
  · rw [counter_answer, counter_clearGroup, cntCmd_written_counter]
  · rw [rd_answer]
    exact cntCmd_written_rd s _ other

end Command

/-- Settles O11: CLEAR and LOAD store one counter, CLEAR_GROUP leaves out a group. -/
theorem counterCommandsSetTheirCounters : Obligations.CounterCommandsSetTheirCounters :=
  fun _ _ acc => ⟨setsSelected 0 (counterClear_clears acc), setsSelected _ (counterLoad_loads acc), clearGroup_clears acc⟩

/-! ### What telling an interrupt leaves (spec/02 R37, R38) -/

/-- Driving the lines to the harts and looking at the interrupt sources again changes what the PLIC last saw, and sends outputs. -/
theorem refreshInts_keeps {β : Type} (view : State → β) (sends : ∀ s o, view (s.emit o) = view s)
    (seen : ∀ (s : State) (n m : Nat), view { s with bolt.ctl.pendPrev := n, bolt.ctl.lines := m } = view s) (s : State) :
    view s.refreshInts = view s := by
  have driven : view ({ s with bolt.ctl.pendPrev := s.pendingSources } : State).driveLines = view s := by
    unfold State.driveLines
    dsimp -iota only
    rw [each_keeps view _ _ fun _ _ => sends _ _]
    exact seen s _ _
  unfold State.refreshInts
  dsimp -iota only
  split
  · rw [each_keeps view _ _ fun _ _ => sends _ _, driven]
  · exact driven

theorem raise_bolt {base : Nat} (onBolt : base < 0x50000000) (s : State) (i : Nat) :
    s.raise base i = (s.wr (base + 8) (BitVec.ofNat 32 (setBit (s.rd (base + 8)).toNat i))).refreshInts := if_pos onBolt

/-- Event counters watch through the event-select registers alone (spec/20 R433). -/
theorem watchers_wr (s : State) {a : Nat} (w : Word) (out : a < R.CNT_EVSEL 0 ∨ R.CNT_EVSEL 128 ≤ a) (ev : Nat) :
    (s.wr a w).watchers ev = s.watchers ev := by
  have beside : (decide (R.CNT_EVSEL 0 ≤ a) && decide (a < R.CNT_EVSEL 128)) = false := by
    simp only [Bool.and_eq_false_iff, decide_eq_false_iff_not]
    omega
  unfold State.watchers State.wr
  rw [filter_putKey fun v => by simp only [beside, Bool.false_and]]

theorem watchers_refreshInts (s : State) (ev : Nat) : s.refreshInts.watchers ev = s.watchers ev :=
  refreshInts_keeps (fun t => t.watchers ev) (fun _ _ => rfl) (fun _ _ _ => rfl) s

theorem watchers_raise {base : Nat} (onBolt : base < 0x50000000) (beside : base + 8 < R.CNT_EVSEL 0) (s : State) (i ev : Nat) :
    (s.raise base i).watchers ev = s.watchers ev := by
  rw [raise_bolt onBolt, watchers_refreshInts, watchers_wr _ _ (.inl beside)]

/-- An event that no event-select counter watches counts nothing. -/
theorem countEvent_unwatched {s : State} {ev : Nat} (unwatched : s.watchers ev = []) : s.countEvent ev = s := by
  simp [State.countEvent, unwatched, State.each]

/-- An interrupt that no event-select counter watches only sets its bit. -/
theorem irq_unwatched {s : State} {base i : Nat} (onBolt : base < 0x50000000) (beside : base + 8 < R.CNT_EVSEL 0)
    (unwatched : s.watchers (blockId base * 256 + i) = []) : s.irq base i = s.raise base i := by
  unfold State.irq
  rw [if_pos onBolt, countEvent_unwatched ((watchers_raise onBolt beside s i _).trans unwatched)]

/-! ### A counter wraps (spec/20 R431) -/

/-- A bit of a field is set once it was set. -/
theorem bit_get_setB (s : State) (f : Fld) {i : Nat} (inside : i < f.width) (fits : f.lsb + f.width ≤ 32) :
    bit ((s.setB f i).get f) i = true := by
  rw [State.setB, get_set_same _ _ _ fits, bit_eq_testBit, Nat.testBit_mod_two_pow, ← bit_eq_testBit, bit_setBit_same]
  simp [inside]

theorem counterGroup_lt (id : Nat) : counterGroup id < 8 := by
  unfold counterGroup
  split_ifs <;> omega

section Wrap
variable {s : State} {id : Nat}

/-- The state of a counter that has passed 2^48 - 1, before its interrupt. -/
def State.wrapped (s : State) (id : Nat) : State := (s.setCounter id (2 ^ 48)).markWrap id

theorem wrapped_counter : (s.wrapped id).counter id = 0 :=
  (counter_setCounter_same s id (2 ^ 48)).trans (Nat.mod_self _)

theorem wrapped_groups : bit ((s.wrapped id).get F.CNT_WRAP_GROUPS) (counterGroup id) = true :=
  bit_get_setB (s.setCounter id (2 ^ 48)) F.CNT_WRAP_GROUPS (counterGroup_lt id) (by decide)

theorem wrapped_rd {a : Nat} (other : a ≠ R.CNT_WRAP) : (s.wrapped id).rd a = s.rd a :=
  rd_set_other (s.setCounter id (2 ^ 48)) F.CNT_WRAP_GROUPS _ other.symm

theorem wrapped_watchers (ev : Nat) : (s.wrapped id).watchers ev = s.watchers ev :=
  watchers_wr (s.setCounter id (2 ^ 48)) _ (.inl (by decide)) ev

/-- A counter at 2^48 - 1 that counts one wraps, marks its group and raises WRAP. -/
theorem count_wraps (full : s.counter id = 2 ^ 48 - 1) (unwatched : s.watchers 0x0F03 = []) :
    s.count id 1 = (s.wrapped id).raise 0x40E00000 3 := by
  have sum : s.counter id + 1 = 2 ^ 48 := by omega
  have wraps : s.addCounter id 1 = s.wrapped id := by simp [State.addCounter, sum, State.when, State.wrapped]
  have raises : (s.wrapped id).irq 0x40E00000 3 = (s.wrapped id).raise 0x40E00000 3 :=
    irq_unwatched (by decide) (by decide) ((wrapped_watchers _).trans unwatched)
  rw [State.count, sum, wraps, ← raises]
  rfl

end Wrap

theorem raise_cnt_counter (s : State) (i id : Nat) : (s.raise 0x40E00000 i).counter id = s.counter id := by
  rw [raise_bolt (by decide)]
  exact refreshInts_keeps (fun t => t.counter id) (fun _ _ => rfl) (fun _ _ _ => rfl) _

theorem raise_cnt_wrapped (s : State) (i : Nat) : (s.raise 0x40E00000 i).bolt.wrapped = s.bolt.wrapped := by
  rw [raise_bolt (by decide)]
  exact refreshInts_keeps (fun t => t.bolt.wrapped) (fun _ _ => rfl) (fun _ _ _ => rfl) _

theorem counterWrap_wraps {s : State} {id : Fin 3800} (live : s.boltUp = true) (full : s.counter id = 2 ^ 48 - 1)
    (unwatched : s.watchers 0x0F03 = []) :
    ∃ t : State, exec (.counterWrap id) s = .next t ∧ t.counter id = 0 ∧ bit (t.get F.CNT_WRAP_GROUPS) (counterGroup id) = true ∧
      t.bolt.wrapped = s.bolt.wrapped ++ [id.val] ∧ ∀ a, a ≠ R.CNT_WRAP → a ≠ 0x40E00008 → t.rd a = s.rd a := by
  have row : exec (.counterWrap id) s = execCounterWrap id s := rfl
  refine ⟨(s.wrapped id).raise 0x40E00000 3, ?_, ?_, ?_, ?_, fun a wrap status => ?_⟩
  · rw [row, execCounterWrap, if_pos (by simp [live, full]), count_wraps full unwatched]
  · rw [raise_cnt_counter, wrapped_counter]
  · rw [get_congr (rd_raise _ _ _ (by decide))]
    exact wrapped_groups
  · rw [raise_cnt_wrapped]
    rfl
  · rw [rd_raise _ _ _ status, wrapped_rd wrap]

/-! ### A hart's counter reaches a multiple of PERIOD (spec/20 R434) -/

theorem rd_count (s : State) (id n : Nat) {a : Nat} (wrap : a ≠ R.CNT_WRAP) (status : a ≠ 0x40E00008) :
    (s.count id n).rd a = s.rd a := by
  unfold State.count State.when
  split
  · rw [rd_irq _ _ _ status wrap status, rd_addCounter _ _ _ wrap]
  · exact rd_addCounter _ _ _ wrap

/-- A saturating count reads back as the saturated sum. -/
theorem get_sat_same (s : State) (f : Fld) (n : Nat) (fits : f.lsb + f.width ≤ 32) :
    (s.sat f n).get f = satAdd f.width (s.get f) n := by
  have small : satAdd f.width (s.get f) n < 2 ^ f.width := by
    have : 0 < 2 ^ f.width := Nat.two_pow_pos _
    unfold satAdd
    omega
  rw [State.sat, get_set_same _ _ _ fits, Nat.mod_eq_of_lt small]

/-- A value that fits into its field reads back whole. -/
theorem get_set_of_lt (s : State) (f : Fld) {v : Nat} (fits : f.lsb + f.width ≤ 32) (small : v < 2 ^ f.width) :
    (s.set f v).get f = v := by
  rw [get_set_same _ _ _ fits, Nat.mod_eq_of_lt small]

/-- The address of a sample in CNT_SAMP_PC. -/
def State.sampled (s : State) (h pc : Nat) : State :=
  s.sets [(F.CNT_SAMP_PC_LO_PC h, slice pc 0 32), (F.CNT_SAMP_PC_HI_PC h, slice pc 32 32)]

section Sample
variable (s : State) (h pc : Nat)

theorem slice_lt (n l w : Nat) : slice n l w < 2 ^ w := Nat.mod_lt _ (Nat.two_pow_pos _)

theorem sampled_lo : (s.sampled h pc).get (F.CNT_SAMP_PC_LO_PC h) = slice pc 0 32 := by
  have apart : R.CNT_SAMP_PC_HI h ≠ R.CNT_SAMP_PC_LO h := by unfold R.CNT_SAMP_PC_HI R.CNT_SAMP_PC_LO; omega
  rw [State.sampled, State.sets, State.sets, State.sets, get_set_other _ _ _ _ (.inl apart), 
    get_set_of_lt _ _ (by simp) (slice_lt _ _ _)]

theorem sampled_hi : (s.sampled h pc).get (F.CNT_SAMP_PC_HI_PC h) = slice pc 32 32 := by
  rw [State.sampled, State.sets, State.sets, State.sets, get_set_of_lt _ _ (by simp) (slice_lt _ _ _)]

end Sample

theorem samplePeriod_latches {s : State} {h : Fin 4} (pc : BitVec 64) (live : s.pathLive (.hart h) = true)
    (enabled : s.on (F.CNT_SAMP_CFG_EN h) = true) (period : s.get (F.CNT_SAMP_PERIOD_PERIOD h) ≠ 0)
    (counter : s.get (F.CNT_SAMP_CFG_COUNTER h) ≤ 5) :
    ∃ t : State, exec (.samplePeriod h pc) s = .next t ∧ t.get (F.CNT_SAMP_PC_LO_PC h) = slice pc.toNat 0 32 ∧
      t.get (F.CNT_SAMP_PC_HI_PC h) = slice pc.toNat 32 32 ∧ bit t.bolt.mip16 h = true ∧ bit t.bolt.sampUnread h = true ∧
      (bit s.bolt.sampUnread h = true → t.get F.CNT_SAMP_LOST_COUNT =
        satAdd F.CNT_SAMP_LOST_COUNT.width (s.get F.CNT_SAMP_LOST_COUNT) 1) := by
  have row : exec (.samplePeriod h pc) s = execSamplePeriod h pc s := rfl
  have acts : (s.pathLive (.hart h) && s.on (F.CNT_SAMP_CFG_EN h) && s.get (F.CNT_SAMP_PERIOD_PERIOD h) != 0 &&
      decide (s.get (F.CNT_SAMP_CFG_COUNTER h) ≤ 5)) = true := by simp [live, enabled, period, counter]
  rw [row, execSamplePeriod]
  refine ⟨_, congrArg _ (if_pos acts), sampled_lo _ h _, sampled_hi _ h _, bit_setBit_same _ _, bit_setBit_same _ _,
    fun unread => ?_⟩
  have apart : ∀ p ∈ [(F.CNT_SAMP_PC_LO_PC h.val, slice pc.toNat 0 32), (F.CNT_SAMP_PC_HI_PC h.val, slice pc.toNat 32 32)],
      p.1.reg ≠ R.CNT_SAMP_LOST := by
    simp [R.CNT_SAMP_PC_HI, R.CNT_SAMP_PC_LO, R.CNT_SAMP_LOST]
    omega
  refine (get_sets_other apart).trans ?_
  rw [State.when, if_pos unread, get_sat_same _ _ _ (by decide), get_congr (rd_count s _ _ (by decide) (by decide))]

/-- Settles O12: the wrap of a counter that no WRAP counter watches, and the sample of a hart's counter. -/
theorem countersWrapAndSample : Obligations.CountersWrapAndSample :=
  ⟨fun _ _ live full unwatched => counterWrap_wraps live full unwatched,
    fun _ _ pc live enabled period counter => samplePeriod_latches pc live enabled period counter⟩

end Sys2Proof.Machine
end

section
/-! Records (spec/20 R435 to R453): firmware's fault record, dumps, NVS snapshots, the end of an NVS write, the two wipes. -/

namespace Sys2Proof.Machine

/-! ### What a write command leaves -/

theorem boltUp_of_pathLive {s : State} {w : Requester} (live : s.pathLive w = true) : s.boltUp = true := by
  unfold State.pathLive at live
  exact (Bool.and_eq_true _ _ ▸ live).1

theorem answer_spool (s : State) (w : Requester) (st : Access) (x : Word) : (s.answer w st x).spool = s.spool := by
  cases w <;> rfl

theorem spool_written {a : Nat} (onBolt : isSpool a = false) (s : State) (v : Word) : (s.written a v).spool.nvsQueue = s.spool.nvsQueue := by
  rw [written_bolt onBolt]
  exact eq_of_untold (fun t => t.spool.nvsQueue) (untold_storeWrite s a v)

/-! ### Firmware's fault record (spec/20 R445) -/

theorem boltNvs_holdsLog {s : State} (down : s.seamUp = false) (room : s.bolt.held.length < 64) (type source code cycle : Nat)
    (payload : List Byte) : s.boltNvs (.log type source code cycle payload) =
      { s with bolt.held := s.bolt.held ++ [.log type source code cycle payload] } := by
  simp [State.boltNvs, down, room]

/-- The record of a code that firmware may write. -/
def State.swOp (s : State) (code : Nat) : NvsOp :=
  .log 1 0x10 code s.recCycle ((List.range 10).flatMap fun i => leBytes 4 (s.rd (R.FLT_SW i)).toNat)

theorem swRecord_refused {s : State} {code : Nat} (bad : code < 0x10F0 ∨ 0x10FF < code) :
    s.swRecord code = s.set F.FLT_SW_STATUS_REASON 0x1010 := if_pos bad

theorem swRecord_issued {s : State} {code : Nat} (low : 0x10F0 ≤ code) (high : code ≤ 0x10FF) :
    s.swRecord code = (s.boltNvs (s.swOp code)).set F.FLT_SW_STATUS_REASON 0 :=
  if_neg (not_or.2 ⟨Nat.not_lt.2 low, Nat.not_lt.2 high⟩)

section FirmwareRecord
variable (s : State) (v : Word)

theorem swCmd_written_rd {b : Nat} (other : R.FLT_SW_CMD ≠ b) : (s.written R.FLT_SW_CMD v).rd b = s.rd b :=
  rd_written_unguarded (by decide) rfl (by decide) s v other

theorem swCmd_written_bolt : (s.written R.FLT_SW_CMD v).bolt = s.bolt :=
  bolt_written_unguarded (by decide) rfl (by decide) s v

theorem swCmd_written_seamUp : (s.written R.FLT_SW_CMD v).seamUp = s.seamUp := seamUp_congr (swCmd_written_rd s v (by decide))

theorem swCmd_written_op (live : s.boltUp = true) (code : Nat) : (s.written R.FLT_SW_CMD v).swOp code =
    .log 1 0x10 code s.cycle ((List.range 10).flatMap fun i => leBytes 4 (s.rd (R.FLT_SW i)).toNat) := by
  have up : (s.written R.FLT_SW_CMD v).boltUp = true :=
    (boltUp_congr (swCmd_written_rd s v (by decide)) (by rw [swCmd_written_bolt])).trans live
  have cyc : (s.written R.FLT_SW_CMD v).cycle = s.cycle := get_congr (swCmd_written_rd s v (by decide))
  have payload : ∀ i ∈ List.range 10, leBytes 4 ((s.written R.FLT_SW_CMD v).rd (R.FLT_SW i)).toNat =
      leBytes 4 (s.rd (R.FLT_SW i)).toNat := fun i range => by
    have beside : R.FLT_SW_CMD ≠ R.FLT_SW i := by have := List.mem_range.1 range; unfold R.FLT_SW_CMD R.FLT_SW; omega
    rw [swCmd_written_rd s v beside]
  rw [State.swOp, State.recCycle, if_pos up, cyc, List.flatMap_congr payload]

end FirmwareRecord

/-- Settles O15: the record goes where the seam lets it, a refused code issues none. -/
theorem firmwareWritesItsOwnRecord : Obligations.FirmwareWritesItsOwnRecord := by
  refine fun s who code acc => ⟨fun low high => ⟨_, next_command acc _ _, ?_, fun up => ?_, fun down room => ?_⟩,
    fun bad => ⟨_, next_command acc _ _, ?_, ?_, ?_⟩⟩
  case _ => rw [answer_get, swRecord_issued low high, get_set_of_lt _ _ (by decide) (by decide)]
  case _ =>
    rw [answer_spool, swRecord_issued low high, boltNvs_of_seamUp ((swCmd_written_seamUp s _).trans up),
      swCmd_written_op s _ (boltUp_of_pathLive acc.1), set_spool, nvsPut_queue, spool_written (by decide)]
  case _ =>
    rw [answer_bolt, swRecord_issued low high, set_bolt, swCmd_written_op s _ (boltUp_of_pathLive acc.1),
      boltNvs_holdsLog ((swCmd_written_seamUp s _).trans down) (by rw [swCmd_written_bolt]; exact room), swCmd_written_bolt]
  · rw [answer_get, swRecord_refused bad, get_set_of_lt _ _ (by decide) (by decide)]
  · rw [answer_spool, swRecord_refused bad, set_spool, spool_written (by decide)]
  · rw [answer_bolt, swRecord_refused bad, set_bolt, swCmd_written_bolt]

/-! ### Dumps (spec/20 R435 to R437) -/

theorem dumpDone_writes {s : State} {sn : Snapshot} (live : s.boltUp = true) (waits : s.bolt.snapshot = some sn) :
    let slot := s.get F.CNT_DUMP_WR_SLOT
    let base := s.get F.CNT_DUMP_BASE_LO_ADDR + 2 ^ 32 * s.get F.CNT_DUMP_BASE_HI_ADDR + 36864 * slot
    let bytes := dumpBytes sn (s.get F.CNT_DUMP_SEQ_SEQ) (s.get F.RNG_ADDR_ADDR)
    let put : State := if s.on F.CNT_CTRL_DEST then s.emit (.hostWrite base bytes) else s.sramStore (base - 0x10000000) bytes
    exec .dumpDone s = .next ({ put.sets [(F.CNT_DUMP_WR_SLOT, (slot + 1) % max 1 (s.get F.CNT_DUMP_RING_SLOTS)),
      (F.CNT_STATUS_DUMPING, 0)] with bolt.snapshot := none }.irq 0x40E00000 1) := by
  have row : exec .dumpDone s = execDumpDone s := rfl
  rw [row, execDumpDone, if_pos live, State.finishDump]
  simp only [waits]

/-! ### NVS snapshots (spec/20 R438) -/

/-- A snapshot that names no counter: its record and its header are issued, in that order. -/
theorem takeSnapshot_none {s : State} (noneWaits : s.snapshotWaits = false) (up : s.seamUp = true) (live : s.boltUp = true)
    (none : s.get F.CNT_NVS_CTRL_COUNT = 0) : s.takeSnapshot =
      (s.nvsPut (.progress 10 2 0x0F s.cycle (snapshotProgress 1 (s.get F.CNT_DUMP_SEQ_SEQ) s.cycle 0))).nvsPut
        (.snapshot 0x7800 (snapshotBytes (s.get F.CNT_DUMP_SEQ_SEQ) s.cycle [])) := by
  have recorded (x : List Byte) : s.boltProgress 10 2 0x0F x = s.nvsPut (.progress 10 2 0x0F s.cycle x) := by
    rw [State.boltProgress, boltNvs_of_seamUp up, State.recCycle, if_pos live]
  have up' (op : NvsOp) : (s.nvsPut op).seamUp = true := up
  simp [State.takeSnapshot, noneWaits, up, State.snapshotIdsBad, State.writeSnapshot, State.snapshotIds, none, recorded,
    boltNvs_of_seamUp (up' _)]

section Snapshot
variable (s : State) (v : Word)

theorem nvsCtrl_written_rd {b : Nat} (other : R.CNT_NVS_CTRL ≠ b) : (s.written R.CNT_NVS_CTRL v).rd b = s.rd b :=
  rd_written_unguarded (by decide) rfl (by decide) s v other

theorem nvsCtrl_written_waits : (s.written R.CNT_NVS_CTRL v).snapshotWaits = s.snapshotWaits := by
  rw [State.snapshotWaits, spool_written (by decide), State.snapshotWaits]

theorem nvsCtrl_written_seamUp : (s.written R.CNT_NVS_CTRL v).seamUp = s.seamUp :=
  seamUp_congr (nvsCtrl_written_rd s v (by decide))

/-- GO without a counter named. -/
theorem nvsCtrl_written_none : (s.written R.CNT_NVS_CTRL 1).get F.CNT_NVS_CTRL_COUNT = 0 := by
  rw [written_bolt (by decide)]
  exact get_storeWrite_rw (pre := [.f 0 1 .sc]) (post := []) (by decide) rfl rfl (by decide) (by decide) s 1 rfl

theorem nvsCtrl_written_go : (s.written R.CNT_NVS_CTRL 1).get F.CNT_NVS_CTRL_GO = 1 := by
  have one : s.get F.CNT_NVS_CTRL_GO < 2 := BitVec.isLt _
  have taken : (s.storeWrite R.CNT_NVS_CTRL 1).get F.CNT_NVS_CTRL_GO = s.get F.CNT_NVS_CTRL_GO ||| 1 :=
    get_storeWrite_sc (pre := []) (post := [.f 1 8 .rw]) (by decide) rfl rfl (by decide) (by decide) s 1 rfl
  rw [written_bolt (by decide), taken]
  interval_cases s.get F.CNT_NVS_CTRL_GO <;> rfl

variable {s} {who : Requester} (acc : s.accepts who R.CNT_NVS_CTRL) (noneWaits : s.snapshotWaits = false)
include acc noneWaits

theorem nvsSnapshot_refused (n : BitVec 8) (down : s.seamUp = false) :
    ∃ t : State, exec (.nvsSnapshot who n) s = .next t ∧ t.get F.CNT_REFUSE_REASON = 0x0F05 ∧ t.get F.CNT_REFUSE_DETAIL = 0x11 ∧
      t.get F.CNT_NVS_CTRL_GO = 0 ∧ t.spool.nvsQueue = s.spool.nvsQueue := by
  have taken (v : Word) : (s.written R.CNT_NVS_CTRL v).takeSnapshot = (s.written R.CNT_NVS_CTRL v).sets
      [(F.CNT_NVS_CTRL_GO, 0), (F.CNT_REFUSE_REASON, 0x0F05), (F.CNT_REFUSE_DETAIL, 0x11)] := by
    simp [State.takeSnapshot, nvsCtrl_written_waits, nvsCtrl_written_seamUp, noneWaits, down]
  refine ⟨_, next_command acc _ _, ?_, ?_, ?_, ?_⟩
  · rw [answer_get, taken]
    simp only [State.sets]
    rw [get_set_other _ _ _ _ (by decide), get_set_of_lt _ _ (by decide) (by decide)]
  · rw [answer_get, taken]
    simp only [State.sets]
    rw [get_set_of_lt _ _ (by decide) (by decide)]
  · rw [answer_get, taken]
    simp only [State.sets]
    rw [get_set_other _ _ _ _ (by decide), get_set_other _ _ _ _ (by decide), get_set_of_lt _ _ (by decide) (by decide)]
  · rw [answer_spool, taken, sets_spool, spool_written (by decide)]

/-- A snapshot that names no counter: its record and its header, in that order. -/
theorem nvsSnapshot_issued {n : BitVec 8} (up : s.seamUp = true) (empty : n = 0) :
    ∃ t : State, exec (.nvsSnapshot who n) s = .next t ∧ t.spool.nvsQueue = s.spool.nvsQueue ++
      [.progress 10 2 0x0F s.cycle (snapshotProgress 1 (s.get F.CNT_DUMP_SEQ_SEQ) s.cycle 0),
       .snapshot 0x7800 (snapshotBytes (s.get F.CNT_DUMP_SEQ_SEQ) s.cycle [])] ∧ t.get F.CNT_NVS_CTRL_GO = 1 := by
  subst empty
  have up' : (s.written R.CNT_NVS_CTRL 1).seamUp = true := (nvsCtrl_written_seamUp s 1).trans up
  have live : (s.written R.CNT_NVS_CTRL 1).boltUp = true := (boltUp_congr (nvsCtrl_written_rd s 1 (by decide))
    (by rw [bolt_written_unguarded (by decide) rfl (by decide)])).trans (boltUp_of_pathLive acc.1)
  have cyc : (s.written R.CNT_NVS_CTRL 1).cycle = s.cycle := get_congr (nvsCtrl_written_rd s 1 (by decide))
  have seq : (s.written R.CNT_NVS_CTRL 1).get F.CNT_DUMP_SEQ_SEQ = s.get F.CNT_DUMP_SEQ_SEQ :=
    get_congr (nvsCtrl_written_rd s 1 (by decide))
  have taken : (s.written R.CNT_NVS_CTRL 1).takeSnapshot = ((s.written R.CNT_NVS_CTRL 1).nvsPut
      (.progress 10 2 0x0F s.cycle (snapshotProgress 1 (s.get F.CNT_DUMP_SEQ_SEQ) s.cycle 0))).nvsPut
      (.snapshot 0x7800 (snapshotBytes (s.get F.CNT_DUMP_SEQ_SEQ) s.cycle [])) := by
    rw [takeSnapshot_none ((nvsCtrl_written_waits s 1).trans noneWaits) up' live (nvsCtrl_written_none s), cyc, seq]
  refine ⟨_, next_command acc 1 _, ?_, ?_⟩
  · rw [answer_spool, taken, nvsPut_queue, nvsPut_queue, spool_written (by decide), List.append_assoc]
    rfl
  · rw [answer_get, taken]
    exact nvsCtrl_written_go s

end Snapshot

/-! ### The end of an NVS write (spec/20 R440, R449) -/

section WriteDone
variable {s : State}

theorem exec_nvsWriteDone (s : State) : exec .nvsWriteDone s = .next s.nvsStep := rfl

theorem nvsStep_idle (idle : s.spool.nvsQueue = []) : s.nvsStep = s := by
  unfold State.nvsStep
  rw [idle]

/-- The write in progress ends with nothing behind it. -/
theorem nvsStep_last {op : NvsOp} (last : s.spool.nvsQueue = [op]) :
    s.nvsStep = (({ s with spool.nvsQueue := [] } : State).applyNvs op).nvsServed op := by
  unfold State.nvsStep
  rw [last]
  rfl

/-- The write in progress ends and the order of service names the next. -/
theorem nvsStep_next {op o : NvsOp} {rest r : List NvsOp} (queue : s.spool.nvsQueue = op :: rest)
    (next : nextWrite rest = some (o, r)) :
    s.nvsStep = (({ s with spool.nvsQueue := o :: r } : State).applyNvs op).nvsServed op := by
  unfold State.nvsStep
  rw [queue]
  simp only [next]

theorem nvsServed_of_notSnapshot {op : NvsOp} (other : ∀ a bs, op ≠ .snapshot a bs) : s.nvsServed op = s := by
  cases op
  case snapshot a bs => exact absurd rfl (other a bs)
  all_goals rfl

/-- A set bit stays set while others are set. -/
theorem bit_setBit_of_bit {n i : Nat} (j : Nat) (set : bit n i = true) : bit (setBit n j) i = true := by
  unfold setBit
  split
  · exact set
  · rename_i clear
    rcases Nat.lt_trichotomy i j with below | rfl | above
    · rw [bit_eq_testBit] at set ⊢
      rw [Nat.add_comm, Nat.testBit_two_pow_add_gt below, set]
    · exact absurd set clear
    · obtain ⟨k, rfl⟩ := Nat.exists_eq_add_of_lt above
      have halves (m : Nat) : m / 2 ^ (j + k + 1) = m / 2 ^ j / 2 / 2 ^ k := by
        rw [Nat.div_div_eq_div_mul, Nat.div_div_eq_div_mul, Nat.pow_succ, Nat.pow_add, Nat.mul_assoc,
          Nat.mul_comm 2 (2 ^ k)]
      have even : ¬ n / 2 ^ j % 2 = 1 := by simpa [bit] using clear
      have carry : (n + 2 ^ j) / 2 ^ j / 2 = n / 2 ^ j / 2 := by
        rw [Nat.add_div_right _ (Nat.two_pow_pos j)]
        omega
      unfold bit at set ⊢
      rw [halves] at set ⊢
      rw [carry]
      exact set

theorem bit_ofNat {n i : Nat} (inside : i < 32) : bit (BitVec.ofNat 32 n).toNat i = bit n i := by
  rw [bit_eq_testBit, bit_eq_testBit, BitVec.toNat_ofNat, Nat.testBit_mod_two_pow]
  simp [inside]

/-- Raising a cause sets its bit and clears none. -/
theorem raise_keepsBit (s : State) (base j : Nat) {a i : Nat} (inside : i < 32) (set : bit (s.rd a).toNat i = true) :
    bit ((s.raise base j).rd a).toNat i = true := by
  by_cases own : a = base + 8
  · rw [own, rd_raise_same, bit_ofNat inside]
    exact bit_setBit_of_bit j (own ▸ set)
  · rw [rd_raise _ _ _ own, set]

theorem raise_setsBit (s : State) (base : Nat) {i : Nat} (inside : i < 32) : bit ((s.raise base i).rd (base + 8)).toNat i = true := by
  rw [rd_raise_same, bit_ofNat inside, bit_setBit_same]

theorem countEvent_keepsBit (s : State) (ev : Nat) {a i : Nat} (other : a ≠ R.CNT_WRAP) (inside : i < 32)
    (set : bit (s.rd a).toNat i = true) : bit ((s.countEvent ev).rd a).toNat i = true := by
  have counted (t : State) (l : List Nat) : (t.each l fun j s => s.addCounter (3648 + j) 1).rd a = t.rd a :=
    rd_each _ _ _ _ fun _ _ => rd_addCounter _ _ _ other
  unfold State.countEvent
  dsimp -iota only
  split
  · rw [counted]
    exact raise_keepsBit _ _ _ inside (by rw [counted, set])
  · rw [counted, set]

theorem irq_keepsBit (s : State) (base j : Nat) {a i : Nat} (other : a ≠ R.CNT_WRAP) (inside : i < 32)
    (set : bit (s.rd a).toNat i = true) : bit ((s.irq base j).rd a).toNat i = true := by
  have raised := raise_keepsBit s base j inside set
  unfold State.irq
  dsimp -iota only
  split
  · exact countEvent_keepsBit _ _ other inside raised
  · exact raised

theorem irq_setsBit (s : State) (base : Nat) {i : Nat} (other : base + 8 ≠ R.CNT_WRAP) (inside : i < 32) :
    bit ((s.irq base i).rd (base + 8)).toNat i = true := by
  have raised := raise_setsBit s base inside
  unfold State.irq
  dsimp -iota only
  split
  · exact countEvent_keepsBit _ _ other inside raised
  · exact raised

theorem boltNvs_keepsBit (s : State) (op : NvsOp) {a i : Nat} (other : a ≠ R.CNT_WRAP) (held : a ≠ R.FLT_HELD) (inside : i < 32)
    (set : bit (s.rd a).toNat i = true) : bit ((s.boltNvs op).rd a).toNat i = true := by
  unfold State.boltNvs
  split
  · exact set
  · split
    · exact set
    · exact set
    · split
      · exact set
      · refine irq_keepsBit _ _ _ other inside ?_
        rw [State.sat, rd_set_other _ _ _ held.symm]
        exact set

/-- A snapshot's end clears GO and raises NVS_DONE. -/
theorem nvsServed_snapshot (live : s.boltUp = true) (a : Nat) (bs : List Byte) :
    (s.nvsServed (.snapshot a bs)).get F.CNT_NVS_CTRL_GO = 0 ∧ bit ((s.nvsServed (.snapshot a bs)).rd 0x40E00008).toNat 4 = true := by
  have served : s.nvsServed (.snapshot a bs) = ((s.set F.CNT_NVS_CTRL_GO 0).irq 0x40E00000 4).boltProgress 10 2 0x0F
      (snapshotProgress 2 (leAt bs 4 4) (leAt bs 8 4) 0) := if_pos live
  rw [served, State.boltProgress]
  refine ⟨?_, boltNvs_keepsBit _ _ (by decide) (by decide) (by decide) (irq_setsBit _ _ (by decide) (by decide))⟩
  rw [get_congr (rd_boltNvs _ _ (by decide) (by decide) (by decide) (by decide)), get_irq _ _ _ _ (by decide) (by decide) (by decide),
    get_set_of_lt _ _ (by decide) (by decide)]

/-- Writing the snapshot leaves the bolt die's supply. -/
theorem applySnapshot_boltUp (s : State) (a : Nat) (bs : List Byte) : (s.applyNvs (.snapshot a bs)).boltUp = s.boltUp :=
  boltUp_congr (rd_set_other s F.NVS_WR_CNT_COUNT _ (by decide)) rfl

end WriteDone

/-! ### The wipes (spec/20 R453) -/

section Wipe
variable {s : State} {who : Requester}

theorem nvsCmd_written (s : State) (v : Word) : (s.written R.NVS_CMD v).fuses = s.fuses ∧
    (s.written R.NVS_CMD v).spool.nvs = s.spool.nvs := by
  rw [written_unguarded (a := R.NVS_CMD) (by decide) rfl (by decide), wr_fuses, wr_spool]
  exact ⟨rfl, rfl⟩

theorem nvsCmd_refused {log prog : Bool} : s.nvsCmd log prog 2 = s.set F.NVS_CMD_STATUS_REASON 0x2610 := rfl

theorem nvsCmd_log {lc : Nat} (open_ : lc ≠ 2) : s.nvsCmd true false lc = ({ s with
    spool.nvs := s.spool.nvs.filter fun c => decide (c.1 < 0x40000)
    spool.logNext := 0
    spool.logCount := 0 } : State).set F.NVS_CMD_STATUS_REASON 0 := if_neg open_

theorem nvsCmd_prog {lc : Nat} (open_ : lc ≠ 2) (closed : s.progInForce.any progOpen = false) : s.nvsCmd false true lc = ({ s with
    spool.nvs := s.spool.nvs.filter fun c => decide (c.1 < 0x1400) || decide (0x7800 ≤ c.1) } : State).set
      F.NVS_CMD_STATUS_REASON 0 := by
  rw [State.nvsCmd, if_neg open_, closed]
  rfl

theorem progInForce_of_nvs {s t : State} (same : t.spool.nvs = s.spool.nvs) : t.progInForce = s.progInForce := by
  unfold State.progInForce State.nvsBytes
  rw [same]

variable (acc : s.accepts who R.NVS_CMD)
include acc

theorem wipeLog_row : exec (.wipeLog who) s =
    .next (((s.written R.NVS_CMD 1).nvsCmd true false s.fuses.lifecycle).answer who .done 0) := by
  rw [← (nvsCmd_written s 1).1]
  exact next_command acc 1 _

theorem wipeProg_row : exec (.wipeProg who) s =
    .next (((s.written R.NVS_CMD 2).nvsCmd false true s.fuses.lifecycle).answer who .done 0) := by
  rw [← (nvsCmd_written s 2).1]
  exact next_command acc 2 _

omit acc in
/-- In DEPLOYED a wipe is refused and no byte changes. -/
theorem wipe_refused {c : Instr} {v : Word} {log prog : Bool} (deployed : s.fuses.lifecycle = 2)
    (row : exec c s = .next (((s.written R.NVS_CMD v).nvsCmd log prog s.fuses.lifecycle).answer who .done 0)) :
    ∃ t : State, exec c s = .next t ∧ t.get F.NVS_CMD_STATUS_REASON = 0x2610 ∧ t.spool.nvs = s.spool.nvs := by
  refine ⟨_, row, ?_, ?_⟩
  · rw [answer_get, deployed, nvsCmd_refused, get_set_of_lt _ _ (by decide) (by decide)]
  · rw [answer_spool, deployed, nvsCmd_refused, set_spool, (nvsCmd_written s v).2]

theorem wipeLog_wipes (open_ : s.fuses.lifecycle ≠ 2) : ∃ t : State, exec (.wipeLog who) s = .next t ∧
    t.get F.NVS_CMD_STATUS_REASON = 0 ∧ t.spool.logCount = 0 ∧
    t.spool.nvs = s.spool.nvs.filter (fun c => decide (c.1 < 0x40000)) := by
  refine ⟨_, wipeLog_row acc, ?_, ?_, ?_⟩
  · rw [answer_get, nvsCmd_log open_, get_set_of_lt _ _ (by decide) (by decide)]
  · rw [answer_spool, nvsCmd_log open_]
    rfl
  · rw [answer_spool, nvsCmd_log open_, ← (nvsCmd_written s 1).2]
    rfl

theorem wipeProg_wipes (open_ : s.fuses.lifecycle ≠ 2) (closed : s.progInForce.any progOpen = false) :
    ∃ t : State, exec (.wipeProg who) s = .next t ∧ t.get F.NVS_CMD_STATUS_REASON = 0 ∧
      t.spool.nvs = s.spool.nvs.filter (fun c => decide (c.1 < 0x1400) || decide (0x7800 ≤ c.1)) := by
  have closed' : (s.written R.NVS_CMD 2).progInForce.any progOpen = false := by
    rw [progInForce_of_nvs (nvsCmd_written s 2).2, closed]
  refine ⟨_, wipeProg_row acc, ?_, ?_⟩
  · rw [answer_get, nvsCmd_prog open_ closed', get_set_of_lt _ _ (by decide) (by decide)]
  · rw [answer_spool, nvsCmd_prog open_ closed', ← (nvsCmd_written s 2).2]
    rfl

end Wipe

/-- Settles O13: dumps, snapshots, the end of an NVS write, and the wipes. -/
theorem dumpsSnapshotsAndRecords : Obligations.DumpsSnapshotsAndRecords := by
  refine ⟨fun s who acc => next_command acc 1 _, fun s sn live waits => dumpDone_writes live waits,
    fun s who n acc down none => nvsSnapshot_refused acc none n down,
    fun s who n acc up none empty => nvsSnapshot_issued acc none up empty,
    fun s idle => ?idle, fun s op rest queue other => ⟨fun last => ?last, fun o r next => ?next⟩,
    fun s a bs last live => ⟨_, exec_nvsWriteDone s, ?served⟩,
    fun s who acc => ⟨wipeLog_wipes acc, wipeProg_wipes acc,
      fun deployed => ⟨wipe_refused deployed (wipeLog_row acc), wipe_refused deployed (wipeProg_row acc)⟩⟩⟩
  case idle => rw [exec_nvsWriteDone, nvsStep_idle idle]
  case last =>
    subst last
    rw [exec_nvsWriteDone, nvsStep_last queue, nvsServed_of_notSnapshot other]
  case next => rw [exec_nvsWriteDone, nvsStep_next queue next, nvsServed_of_notSnapshot other]
  case served =>
    have live' : (({ s with spool.nvsQueue := [] } : State).applyNvs (.snapshot a bs)).boltUp = true := by
      rw [applySnapshot_boltUp]
      exact live
    rw [nvsStep_last last]
    exact nvsServed_snapshot live' a bs

end Sys2Proof.Machine
end

section
/-! Key slots under an extension of a measurement register (spec/19 R406, R407, R413): the descendants of a list of slots, and what a
revocation makes of each. -/

namespace Sys2Proof.Machine

/-! ### The descendants of slots (spec/19 R413) -/

/-- Slot i is not EMPTY and names a slot of the list as its parent. -/
def ChildOf (slots : List KeySlot) (l : List Nat) (i : Nat) : Prop :=
  ∃ x, slots[i]? = some x ∧ x.state ≠ 0 ∧ x.parent < 64 ∧ x.parent ∈ l

/-- The children of a list that it does not hold yet. -/
def newChildren (slots : List KeySlot) (l : List Nat) : List Nat :=
  (List.range 64).filter fun i => !l.contains i && (match slots[i]? with
    | some x => x.state != 0 && decide (x.parent < 64) && l.contains x.parent
    | none => false)

theorem descendants_succ (slots : List KeySlot) (n : Nat) (l : List Nat) : descendants slots (n + 1) l =
    if (newChildren slots l).isEmpty then l else descendants slots n (l ++ newChildren slots l) := rfl

theorem mem_newChildren {slots : List KeySlot} {l : List Nat} {i : Nat} :
    i ∈ newChildren slots l ↔ i < 64 ∧ i ∉ l ∧ ChildOf slots l i := by
  unfold newChildren ChildOf
  cases found : slots[i]? <;> simp [found, and_assoc]

/-- A list of slots that has every slot once. -/
theorem mem_of_full {l : List Nat} (range : ∀ i ∈ l, i < 64) (once : l.Nodup) (full : 64 ≤ l.length) {i : Nat} (inRange : i < 64) :
    i ∈ l := by
  have whole : l.toFinset = Finset.range 64 := Finset.eq_of_subset_of_card_le
    (fun x mem => Finset.mem_range.2 (range x (List.mem_toFinset.1 mem)))
    (by rw [Finset.card_range, List.toFinset_card_of_nodup once]; exact full)
  exact List.mem_toFinset.1 (whole ▸ Finset.mem_range.2 inRange)

/-- With rounds enough to reach every slot, the descendants hold the list and the children of all they hold. -/
theorem descendants_closed (slots : List KeySlot) (n : Nat) {l : List Nat} (range : ∀ i ∈ l, i < 64) (once : l.Nodup)
    (rounds : 64 ≤ n + l.length) : (∀ i ∈ l, i ∈ descendants slots n l) ∧
      ∀ i < 64, ChildOf slots (descendants slots n l) i → i ∈ descendants slots n l := by
  induction n generalizing l with
  | zero => exact ⟨fun _ mem => mem, fun i inRange _ => mem_of_full range once (by omega) inRange⟩
  | succ n ih =>
    rw [descendants_succ]
    split
    · rename_i none
      refine ⟨fun _ mem => mem, fun i inRange child => Decidable.byContradiction fun out => ?_⟩
      have new : i ∈ newChildren slots l := mem_newChildren.2 ⟨inRange, out, child⟩
      rw [List.isEmpty_iff.1 none] at new
      exact List.not_mem_nil new
    · rename_i some
      have grows : 0 < (newChildren slots l).length := List.length_pos_iff.2 fun none => some (by rw [none]; rfl)
      have range' : ∀ i ∈ l ++ newChildren slots l, i < 64 := fun i mem =>
        (List.mem_append.1 mem).elim (range i) fun new => (mem_newChildren.1 new).1
      have once' : (l ++ newChildren slots l).Nodup := once.append (List.nodup_range.filter _) fun i mem new =>
        (mem_newChildren.1 new).2.1 mem
      obtain ⟨holds, closed⟩ := ih range' once' (by rw [List.length_append]; omega)
      exact ⟨fun i mem => holds i (List.mem_append_left _ mem), closed⟩

/-! ### Slots revoked (spec/19 R413) -/

/-- A slot with another state, all else as it was. -/
def State.slotTo (s : State) (v i : Nat) : State := s.setSlot i { s.slot i with state := v }

theorem slotTo_length (s : State) (v j : Nat) : (s.slotTo v j).bolt.keys.slots.length = s.bolt.keys.slots.length :=
  List.length_set ..

theorem slotTo_keepsState {s : State} {v i : Nat} (j : Nat) (there : i < s.bolt.keys.slots.length) (is : (s.slot i).state = v) :
    ((s.slotTo v j).slot i).state = v := by
  by_cases same : j = i
  · rw [same, State.slotTo, slot_setSlot _ _ _ there]
  · exact (congrArg KeySlot.state (getD_setAt_other _ _ _ same)).trans is

theorem eachSlotTo_length (s : State) (v : Nat) (l : List Nat) :
    (s.each l fun i s => s.slotTo v i).bolt.keys.slots.length = s.bolt.keys.slots.length :=
  each_keeps (fun t => t.bolt.keys.slots.length) s l fun i t => slotTo_length t v i

theorem eachSlotTo_keepsState {s : State} {v i : Nat} (l : List Nat) (there : i < s.bolt.keys.slots.length)
    (is : (s.slot i).state = v) : ((s.each l fun i s => s.slotTo v i).slot i).state = v := by
  unfold State.each
  induction l generalizing s with
  | nil => exact is
  | cons j l ih => exact ih (by rw [slotTo_length]; exact there) (slotTo_keepsState j there is)

/-- Every slot of the list takes the state. -/
theorem eachSlotTo_state {s : State} {v i : Nat} {l : List Nat} (mem : i ∈ l) (there : i < s.bolt.keys.slots.length) :
    ((s.each l fun i s => s.slotTo v i).slot i).state = v := by
  induction l generalizing s with
  | nil => exact absurd mem List.not_mem_nil
  | cons j l ih =>
    have there' : i < (s.slotTo v j).bolt.keys.slots.length := by rw [slotTo_length]; exact there
    rcases List.mem_cons.1 mem with rfl | later
    · have here : ((s.slotTo v i).slot i).state = v := by rw [State.slotTo, slot_setSlot _ _ _ there]
      exact eachSlotTo_keepsState l there' here
    · exact ih later there'

/-- The running operation marked for a revocation of some slots. -/
def KeyRun.revokedWith (l : List Nat) (r : KeyRun) : KeyRun :=
  if l.contains r.slot then { r with revoked := true, after := some 3 } else r

/-- What a revocation leaves of KEY's state: the free slots of the list REVOKED, the running operation marked. -/
def State.revokedKeys (s : State) (l : List Nat) : State :=
  let s1 := s.each (l.filter fun i => !s.bolt.keys.run.any fun r => r.slot == i) fun i s => s.slotTo 3 i
  { s1 with bolt.keys.run := s.bolt.keys.run.map (KeyRun.revokedWith l) }

theorem irq_keys (s : State) (base i : Nat) : (s.irq base i).bolt.keys = s.bolt.keys :=
  eq_of_untold (fun t => t.bolt.keys) (untold_irq ..)

theorem takeSlots_keys (s : State) (l : List Nat) : (s.takeSlots l 3).bolt.keys = (s.revokedKeys l).bolt.keys := by
  unfold State.takeSlots
  dsimp -iota only
  rw [if_pos rfl]
  simp only [decide_true, Bool.or_true]
  rw [irq_keys, sets_bolt]
  rfl

theorem boltNvs_keys (s : State) (op : NvsOp) : (s.boltNvs op).bolt.keys = s.bolt.keys := by
  unfold State.boltNvs
  split
  · rfl
  · split
    · rfl
    · rfl
    · split
      · rfl
      · exact (irq_keys ..).trans rfl

/-- A revoked slot on which no operation runs is REVOKED. -/
theorem revokedKeys_state {s : State} {l : List Nat} {i : Nat} (mem : i ∈ l) (there : i < s.bolt.keys.slots.length)
    (free : (s.bolt.keys.run.any fun r => r.slot == i) = false) : ((s.revokedKeys l).slot i).state = 3 :=
  eachSlotTo_state (List.mem_filter.2 ⟨mem, by rw [free]; rfl⟩) there

theorem revokedKeys_run (s : State) (l : List Nat) :
    (s.revokedKeys l).bolt.keys.run = s.bolt.keys.run.map (KeyRun.revokedWith l) := rfl

/-! ### The extension (spec/19 R406, R407) -/

/-- Register m with its digest taken in, before what is bound to it is revoked. -/
def State.mrExtended (s : State) (m : Nat) (digest : List Byte) : State :=
  ({ s with bolt.keys.mr := setAt s.bolt.keys.mr m (sha384 (s.mr m ++ bytesAt digest 0 48)) } : State).set ⟨R.KEY_MR_CNT, 8 * m, 8⟩
    (satAdd 8 (slice (s.get F.KEY_MR_CNT_COUNT) (8 * m) 8) 1)

/-- The VALID and PENDING slots bound to register m. -/
def State.boundTo (s : State) (m : Nat) : List Nat :=
  (List.range 64).filter fun i => ((s.slot i).state = 2 || (s.slot i).state = 1) && bit (s.slot i).mrsel m

/-- The VALID and PENDING slots that an extension of register m revokes. -/
def State.revokedBy (s : State) (m : Nat) : List Nat :=
  (descendants s.bolt.keys.slots 64 (s.boundTo m)).filter fun i => (s.slot i).state = 1 || (s.slot i).state = 2

theorem extendMr_eq (s : State) (m : Nat) (digest : List Byte) : s.extendMr m digest =
    if ((s.mrExtended m digest).revokedBy m).isEmpty then s.mrExtended m digest
    else ((s.mrExtended m digest).takeSlots ((s.mrExtended m digest).revokedBy m) 3).keyRecord 0x20 64 2 0 0 (2 ^ m)
      (slotMask ((s.mrExtended m digest).revokedBy m)) := rfl

theorem revokedBy_mrExtended (s : State) (m : Nat) (digest : List Byte) : (s.mrExtended m digest).revokedBy m = s.revokedBy m := rfl

theorem mrExtended_run (s : State) (m : Nat) (digest : List Byte) : (s.mrExtended m digest).bolt.keys.run = s.bolt.keys.run := rfl

theorem mrExtended_slots (s : State) (m : Nat) (digest : List Byte) :
    (s.mrExtended m digest).bolt.keys.slots = s.bolt.keys.slots := rfl

section Reached
variable {s : State} {m i : Nat}

/-- A slot in use stands in the list of slots. -/
theorem slot_present (used : (s.slot i).state ≠ 0) : s.bolt.keys.slots[i]? = some (s.slot i) := by
  cases found : s.bolt.keys.slots[i]? with
  | none => exact absurd (by simp [State.slot, found, KeySlot.reset]) used
  | some x => simp [State.slot, found]

theorem reached_range (reached : ReachedByExtension s m i) : i < 64 := by
  cases reached <;> assumption

/-- What an extension reaches are descendants of the slots bound to the register. -/
theorem reached_mem (reached : ReachedByExtension s m i) : i ∈ descendants s.bolt.keys.slots 64 (s.boundTo m) := by
  have range : ∀ i ∈ s.boundTo m, i < 64 := fun i mem => List.mem_range.1 (List.mem_of_mem_filter mem)
  obtain ⟨holds, closed⟩ := descendants_closed s.bolt.keys.slots 64 range (List.nodup_range.filter _) (by omega)
  induction reached with
  | bound i inRange valid mine => exact holds i (List.mem_filter.2 ⟨List.mem_range.2 inRange, by simp [valid, mine]⟩)
  | child p i parent inRange used names ih =>
    exact closed i inRange ⟨s.slot i, slot_present used, used, names ▸ reached_range parent, names ▸ ih⟩

theorem reached_revoked (valid : (s.slot i).state = 2) (reached : ReachedByExtension s m i) : i ∈ s.revokedBy m :=
  List.mem_filter.2 ⟨reached_mem reached, by simp [valid]⟩

/-- An extension that reaches a VALID slot leaves KEY as the revocation does. -/
theorem extendMr_keys (digest : List Byte) (revoked : i ∈ s.revokedBy m) :
    (s.extendMr m digest).bolt.keys = ((s.mrExtended m digest).revokedKeys (s.revokedBy m)).bolt.keys := by
  have some : ¬ (s.revokedBy m).isEmpty = true := fun none => by
    rw [List.isEmpty_iff.1 none] at revoked
    exact List.not_mem_nil revoked
  rw [extendMr_eq, revokedBy_mrExtended, if_neg some, State.keyRecord, State.boltProgress, boltNvs_keys, takeSlots_keys]

end Reached

/-- Settles O27: a reached VALID slot is among those revoked, at once where no operation runs on it, else as the operation ends. -/
theorem extensionRevokesBoundKeys : Obligations.ExtensionRevokesBoundKeys := by
  intro s m digest i inRange valid reached
  have mem := reached_revoked valid reached
  have keys := extendMr_keys digest mem
  have there : i < s.bolt.keys.slots.length := (List.getElem?_eq_some_iff.1 (slot_present (by rw [valid]; decide))).1
  refine ⟨fun free => ?_, fun r runs mine => ⟨r.revokedWith (s.revokedBy m), ?_, ?_, ?_, ?_⟩⟩
  · have idle : (s.bolt.keys.run.any fun r => r.slot == i) = false := by
      cases run : s.bolt.keys.run with
      | none => rfl
      | some r => simpa using free r run
    rw [State.slot, keys, ← State.slot]
    exact revokedKeys_state mem (by rw [mrExtended_slots]; exact there) (by rw [mrExtended_run]; exact idle)
  · rw [keys, revokedKeys_run, mrExtended_run, runs]
    rfl
  all_goals simp [KeyRun.revokedWith, mine, mem]

end Sys2Proof.Machine
end

section
/-! The lifecycle commands, the extension and lock of measurement registers, key agreement on a trunk, tamper events (spec/19 R404, R406,
R417 to R424). -/

namespace Sys2Proof.Machine

/-! ### Lifecycle commands (spec/19 R404; spec/02 R44) -/

section Lifecycle
variable {s : State}

theorem lcGuard_down (n : Nat) (f : State → State) (down : s.seamUp = false) :
    s.lcGuard n f = s.set F.KEY_LC_STATUS_REASON 0x0E05 := by
  simp [State.lcGuard, down]

theorem lcGuard_outside {n : Nat} (f : State → State) (up : s.seamUp = true) (reads : n ≠ 0)
    (outside : inSram (s.get F.KEY_OP_IN_ADDR) n = false) : s.lcGuard n f = s.set F.KEY_LC_STATUS_REASON 0x0E01 := by
  simp [State.lcGuard, up, reads, outside]

theorem lcGuard_passes {n : Nat} (f : State → State) (up : s.seamUp = true)
    (inside : n = 0 ∨ inSram (s.get F.KEY_OP_IN_ADDR) n = true) : s.lcGuard n f = f s := by
  rcases inside with none | inside
  · simp [State.lcGuard, up, none]
  · simp [State.lcGuard, up, inside]

theorem blowOwner_blows (keyed : s.fuses.lifecycle = 1) (unowned : s.ownerZero = true) :
    let begun : State := s.keyRecord 0x11 64 1 0 0 0 0
    s.blowOwner = ({ begun with fuses.owner := begun.lcInput 48 } : State).showFuses.lcResult 0x11 0 := by
  simp [State.blowOwner, keyed, unowned]

theorem blowOwner_refused (other : s.fuses.lifecycle ≠ 1) : s.blowOwner = s.lcResult 0x11 0x16 := by
  simp [State.blowOwner, other]

theorem deploy_deploys (keyed : s.fuses.lifecycle = 1) (owned : s.ownerZero = false) (structure_ : s.on F.PAT_STATUS_STRUCTURE = true)
    (patOwned : s.on F.PAT_STATUS_UNOWNED = false) :
    let begun : State := s.keyRecord 0x12 64 1 0 0 0 0
    s.deploy = ({ begun with fuses.lifecycle := 2 } : State).showFuses.lcResult 0x12 0 := by
  simp [State.deploy, keyed, owned, structure_, patOwned]

theorem deploy_refused (other : s.fuses.lifecycle ≠ 1) : s.deploy = s.lcResult 0x12 0x16 := by
  simp [State.deploy, other]

theorem retire_retires (keyed : s.fuses.lifecycle = 1 ∨ s.fuses.lifecycle = 2) (unowned : s.ownerZero = true) :
    let begun : State := (s.keyRecord 0x13 64 1 0 0 0 0).eraseAll
    s.retire = ({ begun with fuses.lifecycle := 3, bolt.keys.device := none } : State).showFuses.showDevPub.lcResult 0x13 0 := by
  have open_ : ¬ (s.fuses.lifecycle ≠ 1 ∧ s.fuses.lifecycle ≠ 2) := by omega
  simp only [State.retire, if_neg open_, unowned]
  rfl

theorem retire_refused (blank : s.fuses.lifecycle = 0) : s.retire = s.lcResult 0x13 0x16 := by
  simp [State.retire, blank]

end Lifecycle

/-- A row that is a write command, by what the accepted write does. -/
theorem command_does {s r : State} {who : Requester} {a : Nat} {v : Word} {act : State → State} (acc : s.accepts who a)
    (does : act (s.written a v) = r) : (.next (s.command who a v act) : Step) = .next (r.answer who .done 0) :=
  does ▸ next_command acc v act

section LifecycleRows
variable {s r : State} {who : Requester} (acc : s.accepts who R.KEY_LC_CMD)
include acc

theorem lcBlowOwner_row (does : (s.written R.KEY_LC_CMD 1).lcGuard 48 State.blowOwner = r) :
    exec (.lcBlowOwner who) s = .next (r.answer who .done 0) := command_does acc does

theorem lcDeploy_row (does : (s.written R.KEY_LC_CMD 2).lcGuard 0 State.deploy = r) :
    exec (.lcDeploy who) s = .next (r.answer who .done 0) := command_does acc does

/-- RETIRE of a part without an owner key reads no input. -/
theorem lcRetire_row (unowned : (s.written R.KEY_LC_CMD 3).ownerZero = true)
    (does : (s.written R.KEY_LC_CMD 3).lcGuard 0 State.retire = r) : exec (.lcRetire who) s = .next (r.answer who .done 0) := by
  refine command_does acc (act := fun s => s.lcDo 3) ?_
  rw [State.lcDo, if_pos unowned, does]

end LifecycleRows

/-! ### Measurement registers (spec/19 R406) -/

theorem mrExt_of_go {s : State} {w : Requester} (go : s.on F.KEY_MR_EXT_GO = true) : s.mrExt w =
    let shown : State := (s.set F.KEY_MR_EXT_GO 0).set F.KEY_MR_STATUS_REG (s.get F.KEY_MR_EXT_REG)
    if shown.mayExtend w (s.get F.KEY_MR_EXT_REG) then
      (shown.extendMr (s.get F.KEY_MR_EXT_REG) ((List.range 12).flatMap fun i => leBytes 4 (shown.rd (R.KEY_MR_DIGEST i)).toNat)).set
        F.KEY_MR_STATUS_REASON 0
    else shown.set F.KEY_MR_STATUS_REASON 0x0E17 := by
  simp [State.mrExt, go]

/-! ### Key agreement on a trunk (spec/19 R417, R418) -/

section Agreement
variable {s : State} {p : Fin 2} (live : s.boltUp = true) (agrees : s.bring p.val = 8)

include live agrees in
theorem keyAgreeTimeout_fails {ms : Nat} (late : s.get (F.KEY_LINK_CFG_TIMEOUT_MS p.val) ≤ ms) :
    exec (.keyAgreeTimeout p ms) s = .next (s.linkFail p.val 1 false) := by
  have row : exec (.keyAgreeTimeout p ms) s = execKeyAgreeTimeout p ms s := rfl
  rw [row, execKeyAgreeTimeout, ifBolt_of_boltUp live, if_pos (by simp [agrees, late])]

include agrees in
/-- A CONFIRM of one fragment is whole as it comes. -/
theorem agreeRx_confirm {m : Nat} (confirm : slice m 496 8 = 2) (first : slice m 488 8 = 0) (only : slice m 480 8 = 1) :
    let d := (beBytes 58 (slice m 8 464)).take (slice m 472 8)
    let x : LinkSt := { s.link p.val with frags := [], msg := 0, count := 0 }
    s.agreeRx p.val m = (s.setLink p.val x).confirmRx p.val ((List.range 1).flatMap fun i =>
      (lookupKey i (insertKey 0 d (if (s.link p.val).count = 1 && (s.link p.val).msg = 2 then (s.link p.val).frags else []))).getD []) := by
  have whole (d : List Byte) (l : List (Nat × List Byte)) :
      ((List.range 1).all fun i => (lookupKey i (insertKey 0 d l)).isSome) = true := by simp [lookupKey_insertKey_same]
  simp only [State.agreeRx, confirm, first, only, agrees, whole]
  rfl

/-- A CONFIRM that verifies brings the port UP with the link keys. -/
theorem confirmRx_verifies {s : State} {p : Nat} {d : List Byte} {ks : List (List Byte)} (keys : (s.link p).keys = some ks)
    (verifies : d.take 32 = confirmOf ks (s.link p).peerUid) :
    let kept : State := { s.setLink p LinkSt.reset with bolt.linkKeys := setAt s.bolt.linkKeys p (some (ks.take 4)) }
    s.confirmRx p d = (((kept.set (F.KEY_LINK_STATUS_STATE p) 2).sat (F.KEY_LINK_CNT_AGREED p) 1).irq bKey 3).enterUp p := by
  simp [State.confirmRx, keys, verifies]

end Agreement

/-! ### Tamper events (spec/19 R422, R423) -/

section Tamper
variable {s : State} {n : Fin 6} {present : Bool} {reading : Nat}

theorem tamperEvent_row (aon : s.spool.aon = true) : exec (.tamperEvent n ⟨present, reading⟩) s = .next (s.tamper n.val present reading) := by
  have row : exec (.tamperEvent n ⟨present, reading⟩) s = execTamperEvent n ⟨present, reading⟩ s := rfl
  rw [row, execTamperEvent, ifAon_of_aon aon]

variable (enabled : s.on F.TMP_CTRL_ENABLE = true) (watched : bit (s.get F.TMP_RESP_EN) n.val = true)
include enabled watched

theorem tamper_below (below : s.tamperMeets n.val reading = false) :
    s.tamper n.val present reading = s.set F.TMP_STATUS_ACTIVE (clrBit (s.get F.TMP_STATUS_ACTIVE) n.val) := by
  simp [State.tamper, enabled, watched, below]

/-- The phase of the bolt die in which an event falls (spec/19 R422). -/
def State.tamperPhase (s : State) : Nat :=
  if !s.boltPowered then 3 else if !s.on F.KEY_STATUS_BOOTED then 0 else if s.bolt.keys.run.isSome then 2 else 1

/-- An event recorded, counted and told (spec/19 R422). -/
def State.tamperTold (s : State) (n : Nat) (present : Bool) : State :=
  let resp := slice (s.get F.TMP_RESP_RESP) (2 * n) 2
  let act := s.get F.TMP_STATUS_ACTIVE
  let seen : State := (s.setB F.TMP_EVENTS_SENSORS n).set F.TMP_STATUS_ACTIVE (if present then setBit act n else clrBit act n)
  let noted : State := (seen.spoolRecord 4 0x25 0x2501 n (s.tamperPhase + 256 * resp) 0).sat F.TMP_CNT_EVENTS 1
  ({ noted.sets [(F.TMP_LAST_SENSOR, n), (F.TMP_LAST_PHASE, s.tamperPhase), (F.TMP_LAST_RESP, resp),
    (F.TMP_LAST_TIME_MS, noted.spool.timeMs)] with spool.tamperCount := noted.spool.tamperCount + 1 } : State).irq bTmp 1

variable (meets : s.tamperMeets n.val reading = true)
include meets

/-- OFF and RECORD: an event is told and no more. -/
theorem tamper_records (resp : slice (s.get F.TMP_RESP_RESP) (2 * n.val) 2 = 0 ∨ slice (s.get F.TMP_RESP_RESP) (2 * n.val) 2 = 3) :
    s.tamper n.val present reading = s.tamperTold n.val present := by
  simp only [State.tamper, enabled, watched, meets]
  exact if_pos resp

/-- LOCK on a running bolt die is carried out at once. -/
theorem tamper_locks (resp : slice (s.get F.TMP_RESP_RESP) (2 * n.val) 2 = 1) :
    let told := s.tamperTold n.val present
    let c := satAdd 16 (told.get F.TMP_CNT_TAMPER_CNT) 1
    let kept : State := (told.set F.TMP_CNT_TAMPER_CNT c).nvsPut (.identity 0x30 (leBytes 4 c))
    kept.boltUp = true → kept.seamUp = true → s.tamper n.val present reading = kept.tamperAct 1 := by
  intro told c kept live up
  have reached : (kept.boltUp && kept.seamUp) = true := by rw [live, up]; rfl
  have acts : ¬ (slice (s.get F.TMP_RESP_RESP) (2 * n.val) 2 = 0 ∨ slice (s.get F.TMP_RESP_RESP) (2 * n.val) 2 = 3) := by omega
  simp only [State.tamper, enabled, watched, meets]
  exact (if_neg acts).trans ((if_pos reached).trans (congrArg _ resp))

end Tamper

/-! ### TMP_CLEAR (spec/19 R424) -/

/-- Some sensor set to LOCK or ZEROISE still reports its condition. -/
def State.tamperHeld (s : State) : Bool :=
  (List.range 6).any fun n => bit (s.get F.TMP_STATUS_ACTIVE) n &&
    (slice (s.get F.TMP_RESP_RESP) (2 * n) 2 = 1 || slice (s.get F.TMP_RESP_RESP) (2 * n) 2 = 2)

theorem tamperHeld_iff (s : State) : s.tamperHeld = true ↔ ∃ n < 6, bit (s.get F.TMP_STATUS_ACTIVE) n = true ∧
    (slice (s.get F.TMP_RESP_RESP) (2 * n) 2 = 1 ∨ slice (s.get F.TMP_RESP_RESP) (2 * n) 2 = 2) := by
  simp [State.tamperHeld]

/-- The lock ended at TMP, with what was still owed to KEY. -/
def State.tamperCleared (s : State) : State :=
  { s.sets [(F.TMP_STATUS_LOCKED, 0), (F.TMP_STATUS_PENDING, 0)] with spool.pendingZero := false }

section Clear
variable {s : State} {who : Requester} (v : Word) (acc : s.accepts who R.TMP_CLEAR)
include acc

theorem tmpClear_refused (held : (s.written R.TMP_CLEAR (v ||| 1)).tamperHeld = true) :
    exec (.tmpClear who v) s = .next (((s.written R.TMP_CLEAR (v ||| 1)).set F.TMP_REFUSE_REASON 0x2512).answer who .done 0) :=
  command_does acc (if_pos held)

theorem tmpClear_clears {r : State} (free : ¬ (s.written R.TMP_CLEAR (v ||| 1)).tamperHeld = true)
    (delivers : (s.written R.TMP_CLEAR (v ||| 1)).tamperCleared.tamperDeliver = r) :
    exec (.tmpClear who v) s = .next (r.answer who .done 0) :=
  command_does acc ((if_neg free).trans delivers)

end Clear

theorem tamperDeliver_unlocks {s : State} (live : s.boltUp = true) (up : s.seamUp = true) (none : s.on F.TMP_STATUS_PENDING = false)
    (ended : s.on F.TMP_STATUS_LOCKED = false) (locked : s.on F.KEY_STATUS_LOCKED = true) :
    s.tamperDeliver = s.set F.KEY_STATUS_LOCKED 0 := by
  rw [tamperDeliver_of_none none, if_pos (by simp [live, up, ended, locked])]

theorem tamperDeliver_waits {s : State} (down : s.seamUp = false) : s.tamperDeliver = s := by
  simp [State.tamperDeliver, down]

/-! ### The obligation -/

/-- Settles O29: the lifecycle commands, the extension and lock of measurement registers, key agreement, tamper events, TMP_CLEAR.  That a
command whose input lies outside SRAM is refused with 0x0E01 is the model's reading (assumption log 93). -/
theorem lifecycleMeasurementAndTamper : Obligations.LifecycleMeasurementAndTamper := by
  refine ⟨fun s who acc => ⟨fun up inside keyed unowned => ?_, fun up inside other => ?_, fun up outside => ?_, fun down => ?_,
      fun up keyed owned structure_ patOwned => ?_, fun up other => ?_, fun up keyed unowned => ?_, fun up unowned blank => ?_⟩,
    fun s who v acc => ?measure, fun s who acc => next_command acc 2 _,
    fun s p live agrees => ⟨fun ms late => keyAgreeTimeout_fails live agrees late, fun m confirm first only => ?confirm,
      fun d ks keys verifies => confirmRx_verifies keys verifies⟩,
    fun s n present reading aon enabled watched => ⟨fun below => ?below, fun meets => ⟨fun resp => ?records, fun resp live up => ?locks⟩⟩,
    fun s who v acc => ⟨fun free => ?cleared, fun n range active resp => ?held⟩⟩
  · exact lcBlowOwner_row acc ((lcGuard_passes _ up (.inr inside)).trans (blowOwner_blows keyed unowned))
  · exact lcBlowOwner_row acc ((lcGuard_passes _ up (.inr inside)).trans (blowOwner_refused other))
  · exact lcBlowOwner_row acc (lcGuard_outside _ up (by decide) outside)
  · exact lcDeploy_row acc (lcGuard_down 0 _ down)
  · exact lcDeploy_row acc ((lcGuard_passes _ up (.inl rfl)).trans (deploy_deploys keyed owned structure_ patOwned))
  · exact lcDeploy_row acc ((lcGuard_passes _ up (.inl rfl)).trans (deploy_refused other))
  · exact lcRetire_row acc unowned ((lcGuard_passes _ up (.inl rfl)).trans (retire_retires keyed unowned))
  · exact lcRetire_row acc unowned ((lcGuard_passes _ up (.inl rfl)).trans (retire_refused blank))
  case measure =>
    intro w m shown go
    exact ⟨fun may => command_does acc ((mrExt_of_go go).trans (if_pos may)),
      fun mayNot => command_does acc ((mrExt_of_go go).trans (if_neg (Bool.eq_false_iff.1 mayNot)))⟩
  case confirm =>
    have row : exec (.keyAgreeRx p m) s = execKeyAgreeRx p m s := rfl
    rw [row, execKeyAgreeRx, ifBolt_of_boltUp live, agreeRx_confirm agrees confirm first only]
  case below => rw [tamperEvent_row aon, tamper_below enabled watched below]
  case records => exact (tamperEvent_row aon).trans (congrArg _ (tamper_records enabled watched meets resp))
  case locks => exact (tamperEvent_row aon).trans (congrArg _ (tamper_locks enabled watched meets resp live up))
  case cleared =>
    have free' : ¬ (s.written R.TMP_CLEAR (v ||| 1)).tamperHeld = true := fun held => by
      obtain ⟨n, range, active, resp⟩ := (tamperHeld_iff _).1 held
      exact resp.elim (free n range active).1 (free n range active).2
    exact ⟨fun live up none ended locked => tmpClear_clears v acc free' (tamperDeliver_unlocks live up none ended locked),
      fun down => tmpClear_clears v acc free' (tamperDeliver_waits down)⟩
  case held => exact tmpClear_refused v acc ((tamperHeld_iff _).2 ⟨n, range, active, resp⟩)

end Sys2Proof.Machine
end

section
/-! The boot ROM (spec/22 R464 to R467): its start, the copies of the image, the halt, the jump, an image delivered from outside. -/

namespace Sys2Proof.Machine

/-! ### The start (spec/22 R464, R466) -/

section Start
variable {s : State} {ta tb : Bool} (may : s.bootMay = true) (fresh : s.get F.TOP_BOOT_STATUS_STAGE = 0)
include may fresh

theorem bootRom_runs : exec (.bootRom ta tb) s = .next (s.bootRun ta tb) := by
  have row : exec (.bootRom ta tb) s = execBootRom ta tb s := rfl
  rw [row, execBootRom, if_pos (by simp [may, fresh])]

/-- Where KEY does not go ON the ROM halts. -/
theorem bootRom_noKey (off : s.isOn .key = false) (refused : (s.carryOut .key).isOn .key = false) :
    exec (.bootRom ta tb) s = .next ((s.carryOut .key).bootHalt 5) := by
  rw [bootRom_runs may fresh]
  simp [State.bootRun, off, refused]

section KeyOn
variable (on : s.isOn .key = true)
include on

theorem bootRom_flash (flash : (s.bootStage 1).get F.TOP_BOOT_STATUS_BOOT_SRC = 0) :
    exec (.bootRom ta tb) s = .next ((s.bootStage 1).bootFlash ta tb) := by
  rw [bootRom_runs may fresh]
  simp [State.bootRun, on, flash]

theorem bootRom_spi (spi : (s.bootStage 1).get F.TOP_BOOT_STATUS_BOOT_SRC = 1) :
    exec (.bootRom ta tb) s = .next ((s.bootStage 1).handOver 1) := by
  rw [bootRom_runs may fresh]
  simp [State.bootRun, on, spi, State.bootOffer]

theorem bootRom_reserved (reserved : (s.bootStage 1).get F.TOP_BOOT_STATUS_BOOT_SRC = 3) :
    exec (.bootRom ta tb) s = .next ((s.bootStage 1).bootHalt 1) := by
  rw [bootRom_runs may fresh]
  simp [State.bootRun, on, reserved]

end KeyOn

end Start

/-! ### The jump (spec/22 R466; spec/19 R406) -/

@[simp] theorem irq_pwr (s : State) (base i : Nat) : (s.irq base i).spool.pwr = s.spool.pwr :=
  eq_of_untold (fun t => t.spool.pwr) (untold_irq ..)

theorem boltNvs_pwr (s : State) (op : NvsOp) : (s.boltNvs op).spool.pwr = s.spool.pwr := by
  unfold State.boltNvs
  split
  · rfl
  · split
    · rfl
    · rfl
    · split
      · rfl
      · rw [irq_pwr]
        rfl

theorem takeSlots_pwr (s : State) (l : List Nat) : (s.takeSlots l 3).spool.pwr = s.spool.pwr := by
  unfold State.takeSlots
  dsimp -iota only
  rw [if_pos rfl, irq_pwr, sets_spool]
  exact each_keeps (fun t => t.spool.pwr) _ _ fun _ _ => rfl

theorem extendMr_pwr (s : State) (m : Nat) (digest : List Byte) : (s.extendMr m digest).spool.pwr = s.spool.pwr := by
  rw [extendMr_eq]
  split
  · rfl
  · rw [State.keyRecord, State.boltProgress, boltNvs_pwr, takeSlots_pwr]
    rfl

/-- Outside a wake the ROM starts no load. -/
theorem bootWarm_awake {s : State} (awake : s.spool.pwr.waking = false) : s.bootWarm = s := by
  simp [State.bootWarm, awake]

theorem bootJump_awake {s : State} (img : List Byte) (awake : s.spool.pwr.waking = false) :
    s.bootJump img = (((((s.set F.TOP_BOOT_STATUS_STAGE 3).extendMr 0 (sha384 (img.take (64 + imageLength img)))).sets
      [(F.KEY_MR_LOCK_MR0, 1), (F.TOP_BOOT_STATUS_ERROR, 0)]).set F.TOP_BOOT_STATUS_STAGE 4).emit
        (.hartStart 0 (0x10000000 + imageEntry img))) := by
  refine bootWarm_awake ?_
  rw [emit_spool, State.bootStage, set_spool, sets_spool, extendMr_pwr]
  exact awake

/-! ### An image delivered from outside (spec/22 R467) -/

theorem bootImageValidate_judges {s : State} (may : s.bootMay = true) (low : 1 ≤ s.get F.TOP_BOOT_STATUS_STAGE)
    (high : s.get F.TOP_BOOT_STATUS_STAGE ≤ 2) (home : s.get F.TOP_HOST_TOKEN_OWNER = 0) :
    exec .bootImageValidate s = .next (match s.imageBad s.deliveredImage with
      | none => (s.bootStage 2).bootJump s.deliveredImage
      | some e => ((s.bootStage 2).sets [(F.TOP_BOOT_STATUS_ERROR, e), (F.TOP_BOOT_IMAGE_LEN, 0)]).handOver
          (s.get F.TOP_BOOT_STATUS_BOOT_SRC)) := by
  have waits : s.bootWaits = true := by simp [State.bootWaits, may, low, high, home]
  exact congrArg Host.Outcome.next (if_pos waits)

/-- Settles O31: the start by source, KEY that does not go ON, the halt, the jump, a delivered image.  The STAGE in the halt's record is
the one reached before, and a success clears ERROR (assumption log 40). -/
theorem bootRomStarts : Obligations.BootRomStarts :=
  ⟨fun _ _ _ may fresh on => ⟨bootRom_flash may fresh on, bootRom_spi may fresh on, bootRom_reserved may fresh on⟩,
    fun _ _ _ may fresh off refused => bootRom_noKey may fresh off refused, fun _ _ => rfl,
    fun _ img awake => bootJump_awake img awake, fun _ may low high home => bootImageValidate_judges may low high home⟩

end Sys2Proof.Machine
end

section
/-! Check-value units (spec/12 R288, R290, R291): the writes of a general unit that is ON, and those of a bound unit. -/

namespace Sys2Proof.Machine

section Unit
variable {s : State} {who : Requester} {u : Fin 144}

/-- A write of a general unit that is ON acts. -/
theorem cvuWrite_general {a : Nat} {v : Word} {act : State → State} {r : State} (general : 128 ≤ u.val) (acc : s.accepts who a)
    (on : (s.written a v).isOn (.stcCvu u) = true) (does : act (s.written a v) = r) :
    (.next (s.cvuWrite who u a v act) : Step) = .next (r.answer who .done 0) := by
  have mine : Fin.ofNat 144 u.val = u := Fin.ofNat_val_eq_self u
  have unbound : ¬ u.val < 128 := Nat.not_lt.2 general
  exact command_does acc (by rw [if_neg unbound, mine, if_pos on, does])

/-- A write of a bound unit is ignored, with WRITE_IGNORED. -/
theorem cvuWrite_bound {a : Nat} {v : Word} (act : State → State) (bound : u.val < 128) (acc : s.accepts who a) :
    (.next (s.cvuWrite who u a v act) : Step) = .next (((s.written a v).sticky bStc 0).answer who .done 0) :=
  command_does acc (if_pos bound)

/-- What a write of a unit's CMD does: START, then a fed byte, then COMPARE. -/
def State.cvuActs (s : State) (u : Nat) (v : Word) : State :=
  let s1 := if getBits v 9 1 = 1 then s.cvuRestart u else s
  let s2 := if getBits v 8 1 = 1 then s1.cvuBytes u [v.extractLsb' 0 8] else s1
  if getBits v 10 1 = 1 then s2.cvuCompare u else s2

theorem cvuCmd_general {v : Word} {r : State} (general : 128 ≤ u.val) (acc : s.accepts who (R.STC_CVU_CMD u))
    (on : (s.written (R.STC_CVU_CMD u) v).isOn (.stcCvu u) = true) (does : (s.written (R.STC_CVU_CMD u) v).cvuActs u v = r) :
    (.next (s.cvuCmd who u v) : Step) = .next (r.answer who .done 0) :=
  cvuWrite_general general acc on does

end Unit

/-! ### The bits of a command -/

section Bits
variable (v : Word)

theorem feedByte_acts (s : State) (u : Nat) (noStart : getBits v 9 1 = 0) (noCompare : getBits v 10 1 = 0) :
    s.cvuActs u (v ||| 0x100) = s.cvuBytes u [v.extractLsb' 0 8] := by
  have feeds : getBits (v ||| 0x100) 8 1 = 1 := by
    have one : getBits v 8 1 < 2 := BitVec.isLt _
    rw [getBits_or]
    interval_cases getBits v 8 1 <;> rfl
  have byte : (v ||| 0x100).extractLsb' 0 8 = v.extractLsb' 0 8 := by
    rw [BitVec.extractLsb'_or]
    exact BitVec.or_zero
  have start : getBits (v ||| 0x100) 9 1 = 0 := by rw [getBits_or, noStart]; rfl
  have compare : getBits (v ||| 0x100) 10 1 = 0 := by rw [getBits_or, noCompare]; rfl
  simp only [State.cvuActs, feeds, byte, start, compare]
  rfl

theorem start_acts (s : State) (u : Nat) (noFeed : getBits v 8 1 = 0) (noCompare : getBits v 10 1 = 0) :
    s.cvuActs u (v ||| 0x200) = s.cvuRestart u := by
  have start : getBits (v ||| 0x200) 9 1 = 1 := by
    have one : getBits v 9 1 < 2 := BitVec.isLt _
    rw [getBits_or]
    interval_cases getBits v 9 1 <;> rfl
  have feeds : getBits (v ||| 0x200) 8 1 = 0 := by rw [getBits_or, noFeed]; rfl
  have compare : getBits (v ||| 0x200) 10 1 = 0 := by rw [getBits_or, noCompare]; rfl
  simp only [State.cvuActs, feeds, start, compare]
  rfl

theorem compare_acts (s : State) (u : Nat) (noFeed : getBits v 8 1 = 0) (noStart : getBits v 9 1 = 0) :
    s.cvuActs u (v ||| 0x400) = s.cvuCompare u := by
  have compare : getBits (v ||| 0x400) 10 1 = 1 := by
    have one : getBits v 10 1 < 2 := BitVec.isLt _
    rw [getBits_or]
    interval_cases getBits v 10 1 <;> rfl
  have start : getBits (v ||| 0x400) 9 1 = 0 := by rw [getBits_or, noStart]; rfl
  have feeds : getBits (v ||| 0x400) 8 1 = 0 := by rw [getBits_or, noFeed]; rfl
  simp only [State.cvuActs, feeds, start, compare]
  rfl

end Bits

/-- Settles O36: DATA, CMD and ALIVE of a general unit, DATA and ALIVE of a bound one.  That a write of a bound unit is ignored is the
model's reading (assumption log 59). -/
theorem checkValueUnits : Obligations.CheckValueUnits := by
  refine ⟨fun s who u v general => ⟨fun acc on => cvuWrite_general general acc on rfl,
      fun acc on => ⟨fun noStart noCompare => cvuCmd_general general acc (on _) (feedByte_acts v _ u noStart noCompare),
        fun noFeed noCompare => cvuCmd_general general acc (on _) (start_acts v _ u noFeed noCompare),
        fun noFeed noStart => cvuCmd_general general acc (on _) (compare_acts v _ u noFeed noStart)⟩,
      fun acc on => cvuWrite_general general acc on rfl⟩,
    fun s who u v bound => ⟨fun acc => cvuWrite_bound _ bound acc, fun acc => cvuWrite_bound _ bound acc⟩⟩

end Sys2Proof.Machine
end

section
/-! Power gates (spec/17 R372 to R379, R383): start-up, trips, retries, commands, and what a gate's timers leave alone. -/

namespace Sys2Proof.Machine

/-- What a row of the spool die does, stated of its state. -/
theorem next_ifAon {s r : State} {act : State → State} (aon : s.spool.aon = true) (does : act s = r) :
    (.next (s.ifAon act) : Step) = .next r :=
  congrArg _ ((ifAon_of_aon aon act).trans does)

section StartUp
variable {s : State} {n : Fin 7}

/-- ON or RIDE with the input inside both windows is ON. -/
theorem watchWindows_inside (on : s.gstate n = 5) (inside : s.inside n = true) : s.watchWindows n = s.setGs n 5 := by
  obtain ⟨uv, ov⟩ : (s.gate n).uvIn = true ∧ (s.gate n).ovOut = false := by simpa [State.inside] using inside
  simp [State.watchWindows, on, uv, ov]

theorem watchWindows_under (on : s.gstate n = 5) (ov : (s.gate n).ovOut = false) (uv : (s.gate n).uvIn = false) :
    s.watchWindows n = s.setGs n 9 := by
  simp [State.watchWindows, on, uv, ov]

theorem watchWindows_over (on : s.gstate n = 5) (ov : (s.gate n).ovOut = true) : s.watchWindows n = s.windowOpen' n 3 := by
  simp [State.watchWindows, on, ov]

/-- A Dock gate's INPUT_WINDOW: a waiting gate goes to INSERT, any other is held against its windows. -/
theorem inputWindow_next {vin : Nat} {r : State} (aon : s.spool.aon = true) (dock : n ≠ 0)
    (does : (if (s.measureVin n vin).gstate n = 1 && (s.measureVin n vin).inside n then (s.measureVin n vin).setGs n 2
      else (s.measureVin n vin).watchWindows n) = r) : exec (.inputWindow n vin) s = .next r :=
  next_ifAon aon (by simpa [dock] using does)

theorem inputWindow_on {vin : Nat} {r : State} (aon : s.spool.aon = true) (dock : n ≠ 0) (on : (s.measureVin n vin).gstate n = 5)
    (does : (s.measureVin n vin).watchWindows n = r) : exec (.inputWindow n vin) s = .next r :=
  inputWindow_next aon dock (by simpa [on] using does)

/-- Without TRACK an input above UV_ON and below OV_ON (and OV_OFF) is inside. -/
theorem measureVin_inside {vin : Nat} (fixed : s.on (F.PGT_GATE_CTRL_TRACK n) = false)
    (uv : 100 * vin > 10000 * s.get (F.PGT_GATE_WIN_UV_UV_ON n)) (ov : 100 * vin < 10000 * s.get (F.PGT_GATE_WIN_OV_OV_ON n))
    (off : 100 * vin ≤ 10000 * s.get (F.PGT_GATE_WIN_OV_OV_OFF n)) : s.measureVin n vin =
      (s.mapGate n fun g => { g with vin := vin, uvIn := true, ovOut := false }).set (F.PGT_GATE_VMEAS_VIN n) (min 1023 (vin / 100)) := by
  have under : ¬ 10000 * s.get (F.PGT_GATE_WIN_OV_OV_OFF n) < 100 * vin := Nat.not_lt.2 off
  simp only [State.measureVin, State.thresholds, fixed, Bool.and_false, if_neg Bool.false_ne_true, if_pos uv, if_neg under, if_pos ov]

theorem insertDone_inside (insert : s.gstate n = 2) (inside : s.inside n = true) : s.insertDone n =
    ((s.mapGate n fun g => { g with e := 0 }).set (F.PGT_GATE_IMEAS_I2T_PCT n) 0).setGs n
      (if s.on (F.PGT_GATE_CTRL_PRE_EN n) then 3 else 4) := by
  simp [State.insertDone, insert, inside]

theorem rampDone_good {vout vgs : Nat}
    (ramp : ((s.measureVout n vout).set (F.PGT_GATE_VMEAS_VGS n) (min 255 vgs)).gstate n = 4) (drive : 100 ≤ vgs)
    (near : (((s.measureVout n vout).set (F.PGT_GATE_VMEAS_VGS n) (min 255 vgs)).gate n).vin ≤ vout + 1000) :
    s.rampDone n vout vgs =
      (((((s.measureVout n vout).set (F.PGT_GATE_VMEAS_VGS n) (min 255 vgs)).setGs n 5).setPgood n true).overcurrent n false).watchWindows n :=
  if_pos (by simp [ramp, drive, near])

end StartUp

/-- Settles O44: each row by the branch its hypotheses choose. -/
theorem gateStartUp : Obligations.GateStartUp := by
  refine fun s n aon => ⟨fun gs => rfl, fun vin dock => ⟨?insert, ?stays, ?under, ?above⟩, fun vin => measureVin_inside,
    fun ms => ⟨?ride, ?rideShort, ?inserted, ?insertShort⟩,
    fun vout aUs pre => ⟨?precharged, ?short, ?noShort, fun late => ⟨?failed, ?slow⟩⟩,
    fun vout vgs aUs => ⟨fun ramp drive near => next_ifAon aon (rampDone_good ramp drive near), fun good weak => ⟨?lost, ?fell⟩⟩,
    fun ms aUs ramp late => next_ifAon aon (by simp [ramp, late])⟩
  case insert => exact fun waits inside => inputWindow_next aon dock (by simp [waits, inside])
  case stays => exact fun on inside => inputWindow_on aon dock on (watchWindows_inside on inside)
  case under => exact fun on ov uv => inputWindow_on aon dock on (watchWindows_under on ov uv)
  case above => exact fun on ov => inputWindow_on aon dock on (watchWindows_over on ov)
  case ride => exact fun ride due => next_ifAon aon (by simp [ride, due])
  case rideShort => exact fun early => next_ifAon aon (by simp [Nat.not_le.2 early])
  case inserted => exact fun insert inside due => next_ifAon aon ((if_pos due).trans (insertDone_inside insert inside))
  case insertShort => exact fun early => next_ifAon aon (if_neg (Nat.not_le.2 early))
  case precharged => exact fun near => next_ifAon aon (by simp [pre, near])
  case short => exact fun due low => next_ifAon aon (by simp [pre, due, low])
  case noShort => exact fun high => next_ifAon aon (by simp [Nat.not_lt.2 high])
  case failed => exact fun far low => next_ifAon aon (by simp [pre, Nat.not_lt.2 late, Nat.not_le.2 far, Nat.not_le.2 low])
  case slow => exact fun half => next_ifAon aon (by simp [pre, Nat.not_lt.2 late, half])
  case lost => exact fun inside => next_ifAon aon (by simp [good, Nat.not_le.2 weak, inside])
  case fell => exact fun outside => next_ifAon aon (by simp [good, Nat.not_le.2 weak, outside])

/-! ### Trips, retries and commands -/

section Trips
variable {s : State} {n : Fin 7}

/-- An update of a gate's energy leaves the limits it is held against. -/
theorem i2tTrips_i2t (i : Nat) : (s.i2t n i).i2tTrips n = decide (s.get (F.PGT_GATE_LIMIT_LIMIT n) * s.get (F.PGT_GATE_LIMIT_LIMIT n) *
    s.get (F.PGT_GATE_I2T_T_TRIP n) * 100 ≤ ((s.i2t n i).gate n).e) := by
  have kept (f : Fld) (other : ∀ g ∈ [R.PGT_GATE_IMEAS n], g ≠ f.reg) : (s.i2t n i).get f = s.get f :=
    get_sets_other (by simpa using other)
  rw [State.i2tTrips, kept _ (by simp), kept _ (by simp)]

theorem i2tUpdate_next {i aUs : Nat} {r : State} (aon : s.spool.aon = true) (conducts : s.conducts n = true)
    (does : (if (s.i2t n i).i2tTrips n then (s.i2t n i).gateTrip n 5 aUs else s.i2t n i) = r) :
    exec (.i2tUpdate n i aUs) s = .next r :=
  next_ifAon aon (by simpa [conducts] using does)

theorem gstate_clearCount (s : State) (n : Nat) : (s.set (F.PGT_GATE_ATTEMPT_COUNT n) 0).gstate n = s.gstate n :=
  get_set_other _ _ _ _ (by simp)

/-- A removal of a gate that neither waits nor is latched only clears COUNT. -/
theorem removal_running (waits : s.gstate n ≠ 6) (latched : s.gstate n ≠ 7) :
    s.removal n = s.set (F.PGT_GATE_ATTEMPT_COUNT n) 0 := by
  simp [State.removal, State.clearCount, gstate_clearCount, waits, latched]

theorem clearGate_latched (latched : s.gstate n = 7) : s.clearGate n = (s.set (F.PGT_GATE_ATTEMPT_COUNT n) 0).leaveWait n := by
  simp [State.clearGate, State.clearCount, gstate_clearCount, latched]

theorem clearGate_other (latched : s.gstate n ≠ 7) : s.clearGate n = s.set (F.PGT_GATE_ATTEMPT_COUNT n) 0 := by
  simp [State.clearGate, State.clearCount, gstate_clearCount, latched]

/-- A Dock gate that is OFF with its output charged begins to discharge. -/
theorem discharge_starts (dock : n ≠ 0) (off : s.gstate n = 0) (charged : 800 ≤ (s.gate n).vout) :
    s.discharge n = s.set (F.PGT_GATE_STATUS_DSCH n) 1 := by
  simp [State.discharge, dock, off, charged]

/-- A fast trip of PG0 without a limit on retries: RETRY_WAIT. -/
theorem gateTrip_fast (aUs : Nat)
    (unlimited : (((s.sat (F.PGT_GATE_CNT_FAST 0) 1).sat (F.PGT_GATE_ATTEMPT_COUNT 0) 1).set (F.PGT_GATE_ATTEMPT_A_US 0)
      (min aUs (2 ^ 24 - 1))).get (F.PGT_GATE_RETRY_RETRY_MAX 0) = 0) :
    s.gateTrip 0 4 aUs =
      let counted := ((s.sat (F.PGT_GATE_CNT_FAST 0) 1).sat (F.PGT_GATE_ATTEMPT_COUNT 0) 1).set (F.PGT_GATE_ATTEMPT_A_US 0)
        (min aUs (2 ^ 24 - 1))
      ((counted.set (F.PGT_GATE_WAIT_LEFT_MS 0) (min (max ((32 * aUs + 999) / 1000) (counted.get (F.PGT_GATE_RETRY_RETRY_MIN_MS 0)))
        (2 ^ 20 - 1))).openGate 0 4 6).gateEvent 0 2 := by
  simp only [Nat.reducePow, Nat.reduceSub] at unlimited
  simp [State.gateTrip, State.tripGate, State.overcurrent, unlimited]

end Trips

/-- Settles O45: each row by the branch its hypotheses choose.  That a fast role swap that times out ends in ErrorRecovery is the model's
reading (assumption log 52). -/
theorem gateTripsAndCommands : Obligations.GateTripsAndCommands := by
  refine ⟨fun s n aon => ⟨fun uV aUs conducts => ⟨?trip, ?noTrip⟩, fun i aUs conducts => ⟨⟨_, rfl⟩, ?under, ?trips⟩, ?frs, ?retry, ?held,
    ?removed, fun vout => next_ifAon aon rfl⟩, ?pg0, fun s who n => ⟨fun acc => ⟨?latched, ?clear, ?discharge⟩, fun acc => ⟨?on, ?off⟩⟩⟩
  case trip => exact fun high => next_ifAon aon (by simp [show s.conducts n = true from conducts, State.fastLevel, high])
  case noTrip => exact fun low => next_ifAon aon (by simp [State.fastLevel, Nat.not_le.2 low])
  case under => exact fun low => i2tUpdate_next aon conducts (by rw [i2tTrips_i2t, if_neg (by simpa using low)])
  case trips => exact fun high => i2tUpdate_next aon conducts (by rw [i2tTrips_i2t, if_pos (by simpa using high)])
  case frs => exact fun fast dock => next_ifAon aon (by simp [fast, dock])
  case retry => exact fun waits ended => next_ifAon aon (by simp [waits, ended, State.leaveWait, State.launch])
  case held => exact fun good => next_ifAon aon (by simp [good, State.clearCount])
  case removed => exact fun ms gone waits latched due => next_ifAon aon (by simp [due, gone, removal_running waits latched])
  case pg0 => rintro s _ _ aUs rfl rfl; exact gateTrip_fast aUs
  case latched => exact fun latched => command_does acc (clearGate_latched latched)
  case clear => exact fun latched => command_does acc (clearGate_other latched)
  case discharge => exact fun dock off charged => command_does acc (discharge_starts dock off charged)
  case on => exact fun dock turnOn => (if_neg (by simp [dock])).trans (command_does acc rfl)
  case off => rintro rfl; exact command_does acc rfl

/-! ### What a gate's timers leave alone -/

/-- From `a` to `b` no register outside PGT changed, and neither the state nor the measurements of a gate other than `n`. -/
structure KeepsToGate (n : Fin 7) (a b : State) : Prop where
  within : Within [bPgt] a b
  gstate : ∀ g : Fin 7, g ≠ n → b.gstate g = a.gstate g
  gate : ∀ g : Fin 7, g ≠ n → b.gate g = a.gate g

/-- A register in the gate's own 128 bytes. -/
def OwnGate (n x : Nat) : Prop := R.PGT_GATE_CTRL n ≤ x ∧ x < R.PGT_GATE_CTRL n + 0x80

theorem ownGate (n : Nat) {k : Nat} (inside : k < 0x80 := by decide) : OwnGate n (0x50201000 + k + 0x80 * n) := by
  unfold OwnGate R.PGT_GATE_CTRL
  omega

namespace KeepsToGate

variable {n : Fin 7} {a s : State}

theorem refl (n : Fin 7) (s : State) : KeepsToGate n s s := ⟨.refl _ s, fun _ _ => rfl, fun _ _ => rfl⟩

theorem ite {c : Prop} [Decidable c] {t : State} (h : KeepsToGate n a s) (k : KeepsToGate n a t) :
    KeepsToGate n a (if c then s else t) := by
  split <;> assumption

variable (h : KeepsToGate n a s)
include h

theorem wr {x : Nat} (w : Word) (own : OwnGate n x) : KeepsToGate n a (s.wr x w) := by
  obtain ⟨low, high⟩ := own
  unfold R.PGT_GATE_CTRL at low high
  refine ⟨h.within.wr w (baseOf_mem (base := 0x50200000) (by simp) (by omega) (by omega) rfl),
    fun g other => (get_congr (rd_wr_other s ?_ w)).trans (h.gstate g other), h.gate⟩
  have apart : g.val ≠ n.val := fun same => other (Fin.ext same)
  simp only [R.PGT_GATE_STATUS]
  omega

theorem set {f : Fld} (v : Nat) (own : OwnGate n f.reg) : KeepsToGate n a (s.set f v) := h.wr _ own

theorem emit (o : Output) : KeepsToGate n a (s.emit o) := ⟨h.within.emit o, h.gstate, h.gate⟩

theorem nvsPut (op : NvsOp) : KeepsToGate n a (s.nvsPut op) := ⟨h.within.upd, h.gstate, h.gate⟩

theorem mapGate (f : GateSt → GateSt) : KeepsToGate n a (s.mapGate n f) :=
  ⟨h.within.upd, h.gstate, fun g other => (getD_setAt_other _ _ _ (fun same => other (Fin.ext same.symm))).trans (h.gate g other)⟩

theorem dropPending (rest : List (Nat × Word)) : KeepsToGate n a { s with spool.gatePending := rest } :=
  ⟨h.within.upd, h.gstate, h.gate⟩

theorem each {α : Type} (l : List α) (f : α → State → State)
    (step : ∀ x ∈ l, ∀ t, KeepsToGate n a t → KeepsToGate n a (f x t)) : KeepsToGate n a (s.each l f) := by
  unfold State.each
  induction l generalizing s with
  | nil => exact h
  | cons x l ih => exact ih (step x (List.mem_cons_self ..) _ h) fun y i => step y (List.mem_cons_of_mem _ i)

theorem setGs (gs : Nat) : KeepsToGate n a (s.setGs n gs) :=
  have shown := h.set (f := F.PGT_GATE_STATUS_GSTATE n) gs (ownGate n (k := 4))
  ite shown (shown.emit _)

theorem measureVout (vout : Nat) : KeepsToGate n a (s.measureVout n vout) :=
  have shown := (h.mapGate fun g => { g with vout := vout }).set (f := F.PGT_GATE_VMEAS_VOUT n) (min 1023 (vout / 100))
    (ownGate n (k := 0x2C))
  ite (shown.set _ (ownGate n (k := 4))) shown

/-- The pending copy of the gate names its own registers only. -/
theorem applyPending : KeepsToGate n a (s.applyPending n) := by
  unfold State.applyPending
  have stored := h.each (s.spool.gatePending.filter fun x => R.PGT_GATE_CTRL n ≤ x.1 && x.1 < R.PGT_GATE_CTRL n + 0x80)
    (fun x s => s.wr x.1 x.2) fun x mine _ k => k.wr _ (by simpa [OwnGate] using (List.mem_filter.1 mine).2)
  have cleared := (stored.dropPending (s.spool.gatePending.filter fun x => !(R.PGT_GATE_CTRL n ≤ x.1 && x.1 < R.PGT_GATE_CTRL n + 0x80))).set
    (f := F.PGT_GATE_STATUS_PEND n) 0 (ownGate n (k := 4))
  exact h.ite ((cleared.nvsPut _).ite cleared)

theorem leaveWait : KeepsToGate n a (s.leaveWait n) :=
  have off := (h.set (f := F.PGT_GATE_WAIT_LEFT_MS n) 0 (ownGate n (k := 0x38))).setGs 0
  ite (off.applyPending.setGs _) off

theorem insertDone : KeepsToGate n a (s.insertDone n) :=
  ite (((h.mapGate _).set _ (ownGate n (k := 0x30))).setGs _) h

end KeepsToGate

/-- A row of the spool die keeps to a gate where it acts. -/
theorem keepsToGate_of_ifAon {n : Fin 7} {s t : State} {f : State → State} (acts : KeepsToGate n s (f s))
    (row : Host.Outcome.next (s.ifAon f) = (.next t : Step)) : KeepsToGate n s t := by
  cases row
  exact acts.ite (.refl n s)

/-- Settles O56: the five timers, each put together from the operations it is made of. -/
theorem gateTimersKeepToTheirGate : Obligations.GateTimersKeepToTheirGate := by
  intro s t n c row next
  have h := KeepsToGate.refl n s
  have kept : KeepsToGate n s t := by
    obtain ⟨ms, rfl⟩ | ⟨v, rfl⟩ | ⟨v, rfl⟩ | rfl | rfl := row
    · exact keepsToGate_of_ifAon (h.insertDone.ite h) next
    · have m := h.measureVout v
      refine keepsToGate_of_ifAon ?_ next
      exact (m.setGs gsRamp).ite m
    · exact keepsToGate_of_ifAon (h.measureVout v) next
    · exact keepsToGate_of_ifAon ((h.set _ (ownGate n (k := 0x34))).ite h) next
    · exact keepsToGate_of_ifAon (h.leaveWait.ite h) next
  exact ⟨kept.within, fun g other => ⟨kept.gstate g other, kept.gate g other⟩⟩

end Sys2Proof.Machine
end

section
/-! Dock ports (spec/15): attach, moisture and contracts, exchanges with the partner, commands. -/

namespace Sys2Proof.Machine

section Attach
variable {s : State} {p : Fin 6}

/-- A port whose unit is ON answers its wires. -/
theorem dockOn_of_on (on : s.get (F.TCP_PORT_STATUS_STATE p) = 2) : s.dockOn p = true := by
  simp [State.dockOn, on]

/-- A DRP port that is dry, unattached and tries no role toggles when the share of its termination is over. -/
theorem drpToggle_next {ms : Nat} {r : State} (aon : s.spool.aon = true) (on : s.dockOn p = true)
    (role : s.get (F.TCP_PORT_CTRL_POWER_ROLE p) = 2) (free : s.attached p = false) (dry : s.on (F.TCP_PORT_STATUS_WET p) = false)
    (source : s.get (F.TCP_PORT_STATUS_CC p) ≠ 5) (sink : s.get (F.TCP_PORT_STATUS_CC p) ≠ 6)
    (does : (if s.toggleDue p ms then s.toggle p 1 else s) = r) : exec (.drpToggle ⟨p, ms⟩) s = .next r :=
  next_ifAon aon (by simpa [on, role, free, dry, source, sink] using does)

/-- A test that finds a port dry that was not wet only shows its result. -/
theorem moistResult_dry {kohm pin : Nat} (dry : s.get (F.TCP_PORT_TMR2_WET_KOHM p) ≤ kohm)
    (was : s.on (F.TCP_PORT_STATUS_WET p) = false) (cc : s.get (F.TCP_PORT_STATUS_CC p) ≠ 7) : s.moistResult p kohm pin =
      s.sets [(F.TCP_PORT_MOIST_KOHM p, min 1023 kohm), (F.TCP_PORT_MOIST_PIN p, pin),
        (F.TCP_PORT_MOIST_DRY p, min 15 (s.get (F.TCP_PORT_MOIST_DRY p) + 1))] := by
  have kept (l : List (Fld × Nat)) (moist : ∀ x ∈ l, x.1.reg = R.TCP_PORT_MOIST p) :
      (s.sets l).rd (R.TCP_PORT_STATUS p) = s.rd (R.TCP_PORT_STATUS p) := rd_sets_other fun x mine => by simp [moist x mine]
  have still := kept [(F.TCP_PORT_MOIST_KOHM p, min 1023 kohm), (F.TCP_PORT_MOIST_PIN p, pin),
    (F.TCP_PORT_MOIST_DRY p, min 15 (s.get (F.TCP_PORT_MOIST_DRY p) + 1))] (by simp)
  have notWet := (on_congr (f := F.TCP_PORT_STATUS_WET p) still).trans was
  have notRecovering := (get_congr (f := F.TCP_PORT_STATUS_CC p) still).trans_ne cc
  simp only [State.moistResult, Nat.not_lt.2 dry, decide_false, Bool.false_eq_true, if_false, notWet, if_neg notRecovering]

theorem moistResult_wet {kohm pin : Nat} (wet : kohm < s.get (F.TCP_PORT_TMR2_WET_KOHM p)) : s.moistResult p kohm pin =
    (s.sets [(F.TCP_PORT_MOIST_KOHM p, min 1023 kohm), (F.TCP_PORT_MOIST_PIN p, pin), (F.TCP_PORT_MOIST_DRY p, 0)]).goWet p := by
  simp [State.moistResult, wet]

/-- A test of a port whose unit is ON: its result. -/
theorem moistureTest_next {cc1 cc2 sbu1 sbu2 : Nat} {term1 term2 : Fin 4} {r : State} (aon : s.spool.aon = true) (on : s.dockOn p = true)
    (does : s.moistResult p (s.moistLowest p cc1 cc2 sbu1 sbu2 term1 term2).1 (s.moistLowest p cc1 cc2 sbu1 sbu2 term1 term2).2 = r) :
    exec (.moistureTest p ⟨cc1, cc2, sbu1, sbu2⟩ ⟨term1, term2⟩) s = .next r :=
  next_ifAon aon ((if_pos on).trans does)

/-- An attach in a possible role of a port whose CC is not open in a transition. -/
theorem attach_next {asSink orient : Bool} {z : PinKohm} {t : CcTerms} {r : State} (aon : s.spool.aon = true)
    (closed : (s.dock p).ccOpen = false) (possible : s.canAttach p asSink = true)
    (does : (if s.triesFirst p asSink then s.tryRole p asSink
      else s.attachAs p asSink orient z.cc1 z.cc2 z.sbu1 z.sbu2 t.term1 t.term2) = r) : exec (.attach p asSink orient z t) s = .next r :=
  next_ifAon aon (by simpa [closed, possible] using does)

/-- A plain Request of a source port's partner that meets no own request of the port. -/
theorem requestRx_next {pos curr : Nat} {r : State} (aon : s.spool.aon = true) (on : s.dockOn p = true) (source : s.isSource p = true)
    (clear : s.crosses p = false)
    (does : (if s.on (F.TCP_PORT_STATUS_HELD p) || !s.seamUp || s.on (F.TCP_PORT_STATUS_TRANSITION p) || s.budgetGrows p then s.sendWait p
      else match (s.dock p).offered.find? fun o => o.1 = pos with
        | some o => if curr ≤ o.2.2 then s.acceptRequest p pos curr o.2.1 else s.pd p .reject
        | none => s.pd p .reject) = r) : exec (.requestRx p pos curr false) s = .next r :=
  next_ifAon aon (by simp only [on, source, clear, Bool.not_true, Bool.or_false, Bool.false_and, Bool.false_eq_true, if_false]; exact does)

/-- PS_RDY ends a transition that no role swap began. -/
theorem psRdy_contract {n : Nat × Nat × Nat × Bool} (aon : s.spool.aon = true) (on : s.dockOn p = true) (attached : s.attached p = true)
    (closed : (s.dock p).ccOpen = false) (swaps : (s.dock p).swapping = false) (next : (s.dock p).next = some n)
    (own : (s.dock p).own ≠ 4) :
    exec (.psRdy p) s = .next (((((s.enterContract p n).tcpEvent p 3).budgetStep).startDiscovery p).seekUfp p) :=
  next_ifAon aon (by simp [on, attached, closed, swaps, next, own])

theorem sets_cons (s : State) (f : Fld) (v : Nat) (l : List (Fld × Nat)) : s.sets ((f, v) :: l) = (s.set f v).sets l := rfl

/-- A message that is sent or not leaves the registers. -/
theorem rd_ite_pd (t : State) (sends : Bool) (m : PdMsg) (a : Nat) : (if sends then t.pd p m else t).rd a = t.rd a := by
  cases sends <;> rfl

/-- What a contract entered stores in STATUS: the words of the contract and its draw stand elsewhere. -/
theorem rd_enterContract_status (n : Nat × Nat × Nat × Bool) : (s.enterContract p n).rd (R.TCP_PORT_STATUS p) =
    (s.sets [(F.TCP_PORT_STATUS_CONTRACT p, if n.2.2.2 then 3 else 2), (F.TCP_PORT_STATUS_TRANSITION p, 0)]).rd
      (R.TCP_PORT_STATUS p) := by
  unfold State.enterContract
  refine (rd_ite_pd _ _ _ _).trans ((mapDock_rd _ _ _ _).trans ?_)
  have apart : 0x50000160 + 0x4 * p.val ≠ 0x50001004 + 0x100 * p.val := by omega
  rw [sets_cons, sets_cons, rd_sets_other (by simpa using apart), sets_cons, sets_cons]
  rfl

theorem enterContract_status (n : Nat × Nat × Nat × Bool) :
    (s.enterContract p n).get (F.TCP_PORT_STATUS_CONTRACT p) = (if n.2.2.2 then 3 else 2) ∧
      (s.enterContract p n).get (F.TCP_PORT_STATUS_TRANSITION p) = 0 := by
  have stored := rd_enterContract_status (s := s) (p := p) n
  rw [get_congr (f := F.TCP_PORT_STATUS_CONTRACT p) stored, get_congr (f := F.TCP_PORT_STATUS_TRANSITION p) stored]
  refine ⟨(get_set_other _ _ _ _ (by simp)).trans ((get_set_same _ _ _ (by simp)).trans ?_), get_set_same _ _ _ (by simp)⟩
  cases n.2.2.2 <;> rfl

end Attach

/-- Settles O41: each row by the branch its hypotheses choose.  What a try does else is the model's reading (assumption log 91), and so
are the positions of the offered objects (assumption log 50) and what a wet port does (assumption log 95). -/
theorem dockAttachAndContracts : Obligations.DockAttachAndContracts := by
  intro s p aon state
  have on := dockOn_of_on state
  refine ⟨fun ms role free dry source sink => ⟨?turns, ?waits⟩, fun asSink orient cc1 cc2 sbu1 sbu2 term1 term2 closed possible =>
      ⟨?tries, ?attaches⟩, fun attached => ⟨?ends, ?freezes⟩, fun ms isOpen due => ?declares,
    fun cc1 cc2 sbu1 sbu2 term1 term2 => ⟨?dry, ?wet⟩, fun wet => next_ifAon aon (by simp [on, wet]),
    fun pos curr source => ⟨?held, fun clear free up still grows => ⟨?accepts, ?rejects⟩⟩,
    fun n attached closed swaps next own => ⟨psRdy_contract aon on attached closed swaps next own, enterContract_status n⟩,
    fun pdos sink some => next_ifAon aon (by simp [on, sink, some])⟩
  case turns => exact fun due => drpToggle_next aon on role free dry source sink (if_pos due)
  case waits => exact fun due => drpToggle_next aon on role free dry source sink (if_neg (by simp [due]))
  case tries => exact fun tries => attach_next aon closed possible (if_pos tries)
  case attaches => exact fun tries => attach_next aon closed possible (if_neg (by simp [tries]))
  case ends => exact fun still => next_ifAon aon (by simp [attached, still])
  case freezes => exact fun source moves closed => next_ifAon aon (by simp [attached, source, moves, closed])
  case declares => exact next_ifAon aon (by simp [isOpen, due])
  case dry => exact fun dry was cc => moistureTest_next aon on (moistResult_dry dry was cc)
  case wet => exact fun wet => moistureTest_next aon on (moistResult_wet wet)
  case held => exact fun held clear => requestRx_next aon on source clear (if_pos (by simp [held]))
  case accepts =>
    exact fun o offered within => requestRx_next aon on source clear (by simp [free, up, still, grows, offered, within])
  case rejects => exact fun none => requestRx_next aon on source clear (by simp [free, up, still, grows, none])

/-! ### Exchanges with the partner -/

section Exchange
variable {s : State} {p : Fin 6}

/-- A partner's swap that nothing else answers. -/
theorem swapGuard_passes (held : s.on (F.TCP_PORT_STATUS_HELD p) = false) (dry : s.on (F.TCP_PORT_STATUS_WET p) = false)
    (up : s.seamUp = true) (still : s.on (F.TCP_PORT_STATUS_TRANSITION p) = false) (target : (s.dock p).target = none)
    (own : (s.dock p).own = 0) : s.swapGuard p = (s, false) := by
  simp [State.swapGuard, held, dry, up, still, target, State.crosses, own]

/-- What a swap that passes the guard is answered by: whether it can be carried out, then POLICY. -/
theorem swapRx_next {data : Bool} {r : State} (aon : s.spool.aon = true) (on : s.dockOn p = true) (attached : s.attached p = true)
    (passes : s.swapGuard p = (s, false))
    (does : (if !data && !s.canPrSwap p then s.pd p .reject
      else if s.get (if data then F.TCP_PORT_POLICY_DR_SWAP p else F.TCP_PORT_POLICY_PR_SWAP p) = 1 then s.acceptSwap p data
      else if s.get (if data then F.TCP_PORT_POLICY_DR_SWAP p else F.TCP_PORT_POLICY_PR_SWAP p) = 2 then
        match (s.dock p).answer with
        | some a =>
          if a.1 = (if data then 2 else 1) then
            if a.2 then ((s.mapDock p fun d => { d with answer := none }).set (F.TCP_PORT_ASK_KIND p) 0).acceptSwap p data
            else ((s.mapDock p fun d => { d with answer := none }).set (F.TCP_PORT_ASK_KIND p) 0).pd p .reject
          else ((s.set (F.TCP_PORT_ASK_KIND p) (if data then 2 else 1)).sendWait p).tcpEvent p 5
        | none =>
          if s.get (F.TCP_PORT_ASK_KIND p) = (if data then 2 else 1) then s.sendWait p
          else ((s.set (F.TCP_PORT_ASK_KIND p) (if data then 2 else 1)).sendWait p).tcpEvent p 5
      else s.pd p .reject) = r) : exec (.swapRx p data) s = .next r :=
  next_ifAon aon (by simp only [on, attached, passes, Bool.not_true, Bool.or_false, Bool.false_eq_true, if_false]; exact does)

theorem vconnSwapRx_next (aon : s.spool.aon = true) (on : s.dockOn p = true) (attached : s.attached p = true)
    (passes : s.swapGuard p = (s, false)) : exec (.vconnSwapRx p) s = .next (if s.on (F.TCP_PORT_CTRL_VCONN_SWAP p) then
      (s.pd p .accept).set (F.TCP_PORT_STATUS_VCONN p) (1 - s.get (F.TCP_PORT_STATUS_VCONN p)) else s.pd p .reject) :=
  next_ifAon aon (by simp [on, attached, passes])

/-- An own request that waits for its answer. -/
theorem crosses_of_own (own : (s.dock p).own ≠ 0) (waits : (s.dock p).retry = false) : s.crosses p = true := by
  simp [State.crosses, own, waits]

/-- A retry that is due. -/
theorem waitRetry_next {ms : Nat} {r : State} (aon : s.spool.aon = true) (retry : (s.dock p).retry = true)
    (due : s.get (F.TCP_PORT_TMR_WAIT_MS p) ≤ ms) (held : s.on (F.TCP_PORT_STATUS_HELD p) = false)
    (does : (if s.get (F.TCP_PORT_TMR_WAIT_MAX p) ≠ 0 && s.get (F.TCP_PORT_TMR_WAIT_MAX p) ≤ (s.dock p).waits &&
        !((s.dock p).own = 2 && s.on (F.TCP_PORT_CTRL_USB_UP p)) then ((s.endOwn p).tcpEvent p 9).vconnSettled p
      else s.sendOwn p (s.dock p).own) = r) : exec (.waitRetry p ms) s = .next r :=
  next_ifAon aon (by simpa [retry, Nat.not_lt.2 due, held] using does)

/-- A budget request of a source port without answer. -/
theorem senderResponseTimeout_next {v : Nat} {r : State} (aon : s.spool.aon = true) (target : (s.dock p).target = some v)
    (shrinks : v < s.get (F.TCP_BLIVE_LIVE p)) (source : s.isSource p = true) (held : (s.dock p).heldBudget = false)
    (does : (if !(s.dock p).again && !s.on (F.TCP_PORT_STATUS_HELD p) then
        ((s.mapDock p fun d => { d with again := true }).pd p .softReset).sendCaps p
      else (((((s.setLive p (s.get (F.TCP_BLIVE_DRAW p))).mapDock p fun d => { d with heldBudget := true }).set F.TCP_STATUS_HELD_BUDGET
        1).tcpEvent p 11).budgetStep)) = r) : exec (.senderResponseTimeout p) s = .next r :=
  next_ifAon aon (by simpa [target, Nat.not_le.2 shrinks, source, held] using does)

/-- The partner offers the mode: the cable is next. -/
theorem vdmAck_partner {vdo : Word} {speed : Fin 8} {a e : Bool} {r : State} (aon : s.spool.aon = true) (on : s.dockOn p = true)
    (attached : s.attached p = true) (disc : (s.dock p).disc = 1) (offers : getBits vdo 28 4 = 1)
    (does : (s.wr (R.TCP_PORT_PARTNER_VDO p) vdo).discoverCable p = r) : exec (.vdmAckRx p 0 true vdo speed a e) s = .next r :=
  next_ifAon aon (by simpa [on, attached, disc, offers] using does)

end Exchange

/-- Settles O42: each row by the branch its hypotheses choose.  When a PR_Swap is rejected and that SWAP_ANSWER_RX answers every own
request are the model's readings (assumption log 51); that messages are named outputs is too (assumption log 52). -/
theorem dockExchanges : Obligations.DockExchanges := by
  intro s p aon state held dry up attached
  have on := dockOn_of_on state
  refine ⟨fun still target own => ?swaps, fun own waits => ?answers, fun ms retry due => ⟨?again, ?givesUp⟩, fun sink frs runs => ?fast,
    fun half ufp => ⟨?enters, ?declines⟩, fun alt => next_ifAon aon (by simp [on, alt, held]),
    fun offers => ⟨next_ifAon aon (by simp [on, attached, offers]), next_ifAon aon (by simp [on, attached, offers])⟩,
    fun offers => next_ifAon aon (by simp [on, attached, offers]), next_ifAon aon (by simp [on, attached]),
    fun v target shrinks source budget => ⟨?soft, ?holds⟩, fun vdo speed a e => ⟨?entered, fun disc offers => ⟨?cable, ?vconn, ?half⟩⟩⟩
  case swaps =>
    have passes := swapGuard_passes held dry up still target own
    refine ⟨fun accepts => ?_, fun rejects => ?_, fun cannot => ?_, fun can asks answer kind => ?_, vconnSwapRx_next aon on attached passes⟩
    · exact swapRx_next aon on attached passes (by simp [accepts])
    · exact swapRx_next aon on attached passes (by simp [rejects])
    · exact swapRx_next aon on attached passes (by simp [cannot])
    · exact swapRx_next aon on attached passes (by simp [can, asks, answer, kind])
  case answers =>
    have crosses := crosses_of_own own waits
    refine ⟨next_ifAon aon (by simp [crosses]), fun pr => ?_, fun dr => ?_, fun vconn => ?_⟩
    · exact next_ifAon aon (by simp [crosses, pr])
    · exact next_ifAon aon (by simp [crosses, dr])
    · exact next_ifAon aon (by simp [crosses, vconn])
  case again => exact fun none => waitRetry_next aon retry due held (by simp [none])
  case givesUp => exact fun some max own => waitRetry_next aon retry due held (by simp [some, max, own])
  case fast =>
    exact next_ifAon aon (by simp only [on, sink, frs, held, dry, runs, Bool.not_true, Bool.or_false, Bool.false_eq_true, if_false])
  case enters => exact fun offers => next_ifAon aon (by simp [on, attached, ufp, held, up, offers, dry])
  case declines => exact fun offers => next_ifAon aon (by simp [on, attached, ufp, held, up, offers])
  case soft => exact fun again => senderResponseTimeout_next aon target shrinks source budget (by simp [again, held])
  case holds => exact fun again => senderResponseTimeout_next aon target shrinks source budget (by simp [again])
  case entered => exact fun disc => next_ifAon aon (by simp [on, attached, disc])
  case cable => exact fun source => vdmAck_partner aon on attached disc offers (by simp [State.discoverCable, State.readCable, source])
  case vconn => exact fun sink swap own => vdmAck_partner aon on attached disc offers (by simp [State.discoverCable, sink, swap, own])
  case half => exact fun sink swap => vdmAck_partner aon on attached disc offers (by
    simp [State.discoverCable, State.readCable, sink, swap])

/-! ### Commands -/

section Commands
variable {s : State} {who : Requester} {p : Fin 6}

/-- A port command in a state it is valid in. -/
theorem portCmd_valid {op : Nat} {ok : State → Bool} {act : State → State} {r : State} (acc : s.accepts who (R.TCP_PORT_CMD p))
    (on : (s.written (R.TCP_PORT_CMD p) (BitVec.ofNat 32 op)).dockOn p = true)
    (valid : ok (s.written (R.TCP_PORT_CMD p) (BitVec.ofNat 32 op)) = true)
    (does : act ((s.written (R.TCP_PORT_CMD p) (BitVec.ofNat 32 op)).sets
      [(F.TCP_PORT_CMD_STATUS_REASON p, 0), (F.TCP_PORT_CMD_STATUS_DETAIL p, 0xFFFF)]) = r) :
    (.next (s.portCmd who p op ok act) : Step) = .next (r.answer who .done 0) :=
  command_does acc ((if_pos (by simp [on, valid])).trans does)

/-- A port command in another state is refused with 0x2013. -/
theorem portCmd_refused {op : Nat} {ok : State → Bool} {act : State → State} (acc : s.accepts who (R.TCP_PORT_CMD p))
    (other : ok (s.written (R.TCP_PORT_CMD p) (BitVec.ofNat 32 op)) = false) :
    (.next (s.portCmd who p op ok act) : Step) = .next (((s.written (R.TCP_PORT_CMD p) (BitVec.ofNat 32 op)).sets
      [(F.TCP_PORT_CMD_STATUS_REASON p, 0x2013), (F.TCP_PORT_CMD_STATUS_DETAIL p, 0xFFFF)]).answer who .done 0) :=
  command_does acc (if_neg (by simp [other]))

/-- ENABLE of a port that is ON cleared. -/
theorem holdPort_on (on : (s.set (F.TCP_PORT_CTRL_ENABLE p) 0).get (F.TCP_PORT_STATUS_STATE p) = 2) : s.holdPort p =
    let w := s.set (F.TCP_PORT_CTRL_ENABLE p) 0
    if w.attached p then (w.mapDock p fun d => { d with heldWords := w.portWords p }).set (F.TCP_PORT_STATUS_HELD p) 1
    else (w.sets [(F.TCP_PORT_STATUS_STATE p, 0), (F.TCP_PORT_STATUS_CC p, 0)]).typec p .openCc := by
  simp [State.holdPort, on, dockOn_of_on on]

/-- No sink-only port is given an allotment. -/
theorem find_sinkOnly_none {n : Nat} (may : ∀ p < n, s.get (F.TCP_BSTAGE_UNITS p) = 0 ∨ s.get (F.TCP_PORT_CTRL_POWER_ROLE p) ≠ 1) :
    ((List.range n).find? fun p => s.get (F.TCP_BSTAGE_UNITS p) != 0 && s.get (F.TCP_PORT_CTRL_POWER_ROLE p) = 1) = none := by
  refine List.find?_eq_none.2 fun p mine => ?_
  have may := may p (List.mem_range.1 mine)
  simpa [← or_iff_not_imp_left] using may

end Commands

/-- Settles O43: each command by the branch its hypotheses choose. -/
theorem dockCommands : Obligations.DockCommands := by
  refine ⟨fun s who p => ⟨fun v acc go kind => command_does acc (if_pos (by simp [go, kind])),
      fun v acc on => ⟨fun attached => command_does acc ((holdPort_on on).trans (if_pos attached)),
        fun free => command_does acc ((holdPort_on on).trans (if_neg (by simp [free])))⟩,
      fun acc => ⟨fun on attached => portCmd_valid acc on attached rfl, ?pr, ?dr, ?vconn, ?hard, ?caps, ?enter, ?exit,
        fun free => portCmd_refused acc free⟩⟩,
    fun s who v acc commit => ⟨fun above => command_does acc ?_, fun fits may => ⟨fun still => command_does acc ?_,
      fun moves held => command_does acc ?_⟩⟩⟩
  case pr => exact fun on free explicit can dry => portCmd_valid acc on (by simp [free, explicit, can, dry]) rfl
  case dr => exact fun on free explicit dry => portCmd_valid acc on (by simp [free, explicit, dry]) (apply_ite (State.sendOwn · p 2) _ _ _)
  case vconn => exact fun on free explicit swap => portCmd_valid acc on (by simp [free, explicit, swap]) rfl
  case hard => exact fun on attached held => portCmd_valid acc on (by simp [attached, held]) rfl
  case caps => exact fun on source held still => portCmd_valid acc on (by simp [source, held, still]) rfl
  case enter => exact fun on free explicit offers dry alt dfp vdo => portCmd_valid acc on (by
    simp [free, explicit, offers, dry, alt, dfp, vdo]) rfl
  case exit => exact fun on alt held => portCmd_valid acc on (by simp [alt, held]) rfl
  · simp [commit, above]
  · simp [commit, Nat.not_lt.2 fits, find_sinkOnly_none may, still]
  · simp [commit, Nat.not_lt.2 fits, find_sinkOnly_none may, moves, held]

end Sys2Proof.Machine
end

section
/-! USB (spec/16): the internal host, the device function, remote ports. -/

namespace Sys2Proof.Machine

/-! ### The internal host and the device function -/

section Host
variable {s : State}

/-- The upstream connection is made as its conditions hold. -/
theorem usbReview_connects (wants : s.wantsUpstream = true) (apart : s.on F.USB_STATUS_CONNECTED = false) :
    s.usbReview = ((s.set F.USB_STATUS_CONNECTED 1).usbOut (.pull true)).irq bUsb 1 := by
  simp [State.usbReview, wants, apart]

/-- A control IN transfer without a SETUP stage ends, neither aborted nor with a toggle that moves. -/
theorem pipeDone_controlIn {p : Fin 16} {r : Fin 4} {data : List Byte} (aon : s.spool.aon = true)
    (busy : s.on (F.USB_PIPE_STATUS_BUSY p) = true) (runs : s.hostRuns = true) (plain : s.spool.usb.setups.getD p.val false = false)
    (whole : s.spool.usb.aborts.getD p.val false = false) (control : s.get (F.USB_PIPE_CFG_TYPE p) = 0)
    (isIn : s.on (F.USB_PIPE_CFG_DIR p) = true) : exec (.pipeDone p r 0 data []) s =
      .next (((((s.mapUsb fun u =>
        { u with mem := memPut u.mem (s.get (F.USB_PIPE_BUF_OFFSET p)) (data.take (s.get (F.USB_PIPE_BUF_LEN p))) }).sets [(F.USB_PIPE_STATUS_BUSY p, 0), (F.USB_PIPE_STATUS_RESULT p, r.val),
          (F.USB_PIPE_STATUS_BYTES p, min data.length (s.get (F.USB_PIPE_BUF_LEN p))), (F.USB_PIPE_STATUS_TOGGLE p, 0)]).mapUsb
            fun u => { u with aborts := setAt u.aborts p.val false }).irq bUsb 5)) :=
  next_ifAon aon (by
    simp only [busy, runs, plain, whole, control, isIn, Bool.not_true, Bool.or_false, Bool.false_eq_true, if_false, if_true, Bool.false_and,
      Nat.sub_zero, Nat.add_zero, decide_true, Bool.true_or])

/-- A SETUP waits for its status stage; one before it is abandoned. -/
theorem devSetup_waits {setup : List Byte} {r : State} (aon : s.spool.aon = true) (on : s.isOn .usb = true)
    (connected : s.on F.USB_STATUS_CONNECTED = true)
    (does : (if leAt setup 0 1 = 0x80 && leAt setup 1 1 = 6 && leAt setup 2 2 = 0x100 then
      ((if s.spool.usb.ctrl.isSome then s.sat F.USB_DEV_CNT_ABANDONED 1 else s).mapUsb fun u => { u with ctrl := some setup }).usbOut
        (.ids (s.get F.USB_ID_VID) (s.get F.USB_ID2_DEV_PID) (s.get F.USB_ID2_BCD))
      else (if s.spool.usb.ctrl.isSome then s.sat F.USB_DEV_CNT_ABANDONED 1 else s).mapUsb fun u => { u with ctrl := some setup }) = r) :
    exec (.devSetup setup false) s = .next r :=
  next_ifAon aon (by simpa only [State.usbOn, on, connected, Bool.not_true, Bool.or_false, Bool.false_eq_true, if_false, Bool.not_false,
    if_true] using does)

/-- The state from which a feedback report is made: its mark taken, the frame number followed with a Dock upstream. -/
def State.feedbackSeen (s : State) (frame : Nat) : State :=
  let t := s.mapUsb fun u => { u with marks := (s.ringSample :: u.marks).take 128 }
  if s.upstream = 0 then t else t.sets [(F.USB_FRAME_UFRAME, 0), (F.USB_FRAME_FRAME, frame)]

theorem upstream_feedbackSeen (s : State) (frame : Nat) : (s.feedbackSeen frame).upstream = s.upstream := by
  unfold State.feedbackSeen
  split
  · rfl
  · exact get_sets_other (by simp)

theorem audFeedback_next {frame : Fin 2048} (aon : s.spool.aon = true) (on : s.isOn .usb = true)
    (connected : s.on F.USB_STATUS_CONNECTED = true) {r : State}
    (does : (if (s.feedbackSeen frame).get F.USB_DEV_STATUS_ALT_OUT = 0 then s.feedbackSeen frame
      else ((s.feedbackSeen frame).set F.USB_AUD_FB_FB (if s.upstream = 0 then (s.feedbackSeen frame).samplesPer * 2 ^ 16
        else ofSigned 32 ((s.countedSamples * 64 : Nat) + (2 * ((s.feedbackSeen frame).samplesPer : Int) -
          ((s.feedbackSeen frame).spool.usb.outFifo.length : Nat)) * 16))).usbOut (.feedback (if s.upstream = 0 then
            (s.feedbackSeen frame).samplesPer * 2 ^ 16 else ofSigned 32 ((s.countedSamples * 64 : Nat) +
              (2 * ((s.feedbackSeen frame).samplesPer : Int) - ((s.feedbackSeen frame).spool.usb.outFifo.length : Nat)) * 16)))) = r) :
    exec (.audFeedback frame) s = .next r := by
  rw [← upstream_feedbackSeen s frame] at does
  exact next_ifAon aon ((if_neg (by simp [State.usbOn, on, connected])).trans does)

/-- A pipe with a valid configuration starts a transfer without a SETUP stage. -/
theorem pipeGo_plain {p : Fin 16} (free : s.on (F.USB_PIPE_STATUS_BUSY p) = false) (ok : s.pipeOk p false = true) : s.pipeGo p false =
    ((s.sets [(F.USB_PIPE_STATUS_BUSY p, 1), (F.USB_PIPE_STATUS_RESULT p, 0), (F.USB_PIPE_STATUS_BYTES p, 0)]).mapUsb fun u => { u with
      setups := setAt u.setups p.val false, aborts := setAt u.aborts p.val false }).usbOut
      (.pipe p (s.rd (R.USB_PIPE_CFG p)) (s.rd (R.USB_PIPE_CFG2 p)) [] (if s.on (F.USB_PIPE_CFG_DIR p) then [] else
        memBytes s.spool.usb.mem (s.get (F.USB_PIPE_BUF_OFFSET p)) (s.get (F.USB_PIPE_BUF_LEN p)))) := by
  simp [State.pipeGo, free, ok]

end Host

/-- Settles O49: each row by the branch its hypotheses choose.  That S samples stand for every micro-frame until 1,024 have passed is
the model's reading (assumption log 92). -/
theorem usbHostAndDevice : Obligations.UsbHostAndDevice := by
  refine ⟨fun s aon => ⟨?reset, ?connects, fun p r data busy on host run plain whole control isIn => ?piped,
      fun setup on connected => ⟨?waits, fun b waiting => ?status, ?abandons⟩, fun bytes runs room short => ?received,
      fun bs reply runs => ?sent, fun on configured => ⟨fun samples alt loud few => ?isoOut, fun alt => ⟨fun silent => ?silence,
        fun loud => ?isoIn⟩⟩, fun frame on connected => ⟨?noFeedback, ?feedback⟩⟩,
    fun s who => ⟨fun v acc => ⟨?refused, ?runs⟩, fun p acc => ⟨?go, ?abort⟩, fun v acc pop => command_does acc (if_pos pop),
      fun v acc go free => command_does acc (by simp [go, free])⟩⟩
  case reset => exact fun on connected => next_ifAon aon (if_pos (by simp [State.usbOn, on, connected]))
  case connects => exact fun wants apart => next_ifAon aon (usbReview_connects wants apart)
  case piped =>
    exact pipeDone_controlIn aon busy (by simp [State.hostRuns, State.usbOn, on, host, run]) plain whole control isIn
  case waits => exact fun none => devSetup_waits aon on connected (by simp only [none, Option.isSome_none, Bool.false_eq_true, if_false])
  case status => exact next_ifAon aon (by simp [State.usbOn, on, connected, waiting])
  case abandons => exact fun some other => devSetup_waits aon on connected (by simp [some, other])
  case received => exact next_ifAon aon (if_neg (by simp [runs, Nat.not_le.2 room, Nat.not_lt.2 short]))
  case sent => exact next_ifAon aon (by simp [reply, runs])
  case isoOut => exact next_ifAon aon (if_neg (by simp [State.usbOn, on, configured, alt, loud, few]))
  case silence => exact next_ifAon aon (by simp [State.usbOn, on, configured, alt, silent])
  case isoIn => exact next_ifAon aon (by simp [State.usbOn, on, configured, alt, loud])
  case noFeedback => exact fun none => audFeedback_next aon on connected (if_pos none)
  case feedback => exact fun some => audFeedback_next aon on connected (if_neg some)
  case refused => exact fun run dock => command_does acc (if_pos (by simp [run, dock]))
  case runs => exact fun host => command_does acc (if_neg (by simp [host]))
  case go => exact fun free ok => command_does acc (pipeGo_plain free ok)
  case abort => exact fun busy => command_does acc (if_pos busy)

/-! ### Remote ports -/

section Near
variable {s : State} {k : Fin 6} {addr : Fin 128} {ep : Fin 16} {pid : Fin 3}

/-- Settles O48: the near translator works, and an isochronous start-split is counted. -/
theorem isochronousSplitsGoUnanswered : Obligations.IsochronousSplitsGoUnanswered := by
  intro s k addr ep pid low toggle data eps aon on connected remote enabled
  have works : s.nearWorks (k.val + 1) = true := by
    simp [State.nearWorks, State.usbOn, State.remotePort, on, connected, remote, enabled, Nat.succ_le_of_lt k.isLt]
  exact ⟨_, next_ifAon aon (by simp [works]), rfl, rfl⟩

/-- A start-split of a bulk endpoint: NAK, or a transaction. -/
theorem startSplit_bulk {low toggle : Bool} {data : List Byte} {eps : List (Fin 16)} {r : State} (aon : s.spool.aon = true)
    (works : s.nearWorks (k.val + 1) = true)
    (does : (if 2 ≤ (s.near (k.val + 1)).txs.length || !s.seamUp || !s.windowOpen (s.nearEntry (k.val + 1)) then
        s.usbOut (.split (k.val + 1) 1 false [])
      else (((if pid = 0 && toggleRequest data ≠ 0 then s.nearGen (k.val + 1) data eps else s).mapNear (k.val + 1) fun x =>
        { x with txs := x.txs ++ [⟨x.tag, addr, ep, pid, none⟩] }).sendTransaction (k.val + 1) pid addr ep 2 low toggle data).usbOut
          (.split (k.val + 1) 0 false [])) = r) : exec (.startSplit k addr ep 2 pid low toggle data eps) s = .next r :=
  next_ifAon aon ((if_neg (by simp [works])).trans does)

/-- A complete-split of a bulk endpoint whose transaction waits. -/
theorem completeSplit_bulk {t : UsbTx} {r : State} (aon : s.spool.aon = true) (works : s.nearWorks (k.val + 1) = true)
    (waits : (s.near (k.val + 1)).txs.find? (fun t => t.addr = addr.val && t.ep = ep.val && t.pid = pid.val) = some t)
    (does : (match t.result with
      | none => s.usbOut (.split (k.val + 1) 4 false [])
      | some r => (s.mapNear (k.val + 1) fun x => { x with txs := x.txs.erase t }).usbOut (.split (k.val + 1) r.1 r.2.1 r.2.2)) = r) :
    exec (.completeSplit k addr ep 2 pid) s = .next r :=
  next_ifAon aon ((if_neg (by simp [works])).trans (by simp only [waits]; exact does))

end Near

section Ports
variable {s : State} {k : Fin 6}

/-- A RESULT at a remote port of a hub that is ON. -/
theorem resultRx_next {tag : BitVec 16} {ep : Fin 16} {hs : Fin 4} {toggle prefetch : Bool} {gen : Byte} {data : List Byte} {r : State}
    (aon : s.spool.aon = true) (on : s.isOn .usb = true) (remote : s.remotePort (k.val + 1) = true)
    (does : (if prefetch then
        if gen.toNat ≠ (s.near (k.val + 1)).gen then s.sat (F.USB_PORT_CNT_STALE (k.val + 1)) 1
        else s.mapNear (k.val + 1) fun x => { x with cache := insertKey ep.val (toggle, data) x.cache }
      else if (s.near (k.val + 1)).outs.any fun o => o.1 = tag.toNat then
        s.mapNear (k.val + 1) fun x => { x with
          outs := x.outs.filter fun o => o.1 != tag.toNat
          late := if 2 ≤ hs.val then insertKey ep.val hs.val x.late else x.late }
      else if (s.near (k.val + 1)).txs.any fun t => t.tag = tag.toNat && t.result.isNone then
        s.mapNear (k.val + 1) fun x => { x with
          txs := x.txs.map fun t => if t.tag = tag.toNat then { t with result := some (hs.val, toggle, data) } else t }
      else s.sat (F.USB_PORT_CNT_STALE (k.val + 1)) 1) = r) : exec (.resultRx k tag ep hs toggle prefetch gen data) s = .next r :=
  next_ifAon aon ((if_neg (by simp [State.usbOn, on, remote])).trans does)

/-- A suspend or a resume of the connected hub that changes something. -/
theorem suspendResume_next {b : Bool} {r : State} (aon : s.spool.aon = true) (on : s.isOn .usb = true)
    (connected : s.on F.USB_STATUS_CONNECTED = true) (other : s.on F.USB_STATUS_SUSPENDED ≠ b)
    (does : (let t := s.sets [(F.USB_STATUS_SUSPENDED, b2n b), (F.USB_DEV_STATUS_SUSPENDED, b2n b)]
      t.each ((List.range 7).filter fun k => t.remotePort k && t.on (F.USB_PORT_STATUS_ENABLED k) &&
        !t.on (F.USB_PORT_STATUS_SUSPEND k)) fun k s => s.nearEvent k (if b then 7 else 8)) = r) :
    exec (.usbSuspendResume b) s = .next r :=
  next_ifAon aon ((if_neg (by simp [State.usbOn, on, connected, other])).trans does)

theorem farPort_usbOut (o : UsbOut) (j : Nat) : (s.usbOut o).farPort j = s.farPort j := rfl

/-- An interrupt IN endpoint is polled while the host has consumed the packet before. -/
theorem prefetchPoll_next {j : Fin 6} {ep : Fin 16} {data : List Byte} {i : Nat} (aon : s.spool.aon = true) (on : s.isOn .usb = true)
    (entry : s.farEntry j = some i) (still : (s.farPort j).resetting = false) (held : (s.farPort j).held.contains ep.val = false)
    (ones : (s.farPort j).ones.contains ep.val = false) : exec (.prefetchPoll j ep false data) s = .next ((s.mapFar j fun x =>
      { x with held := x.held ++ [ep.val], ones := x.ones ++ [ep.val] }).sendRecord i
        (resultRecord 0 (s.farPort j).gen ep 0 false true data)) :=
  next_ifAon aon (by
    simp only [entry]
    exact if_neg (by simp only [State.usbOn, on, still, held, ones]; decide))

end Ports

/-- Settles O50: each row by the branch its hypotheses choose.  That a local port's reset ends in the step of the request is the
model's choice (assumption log 25). -/
theorem usbRemotePorts : Obligations.UsbRemotePorts := by
  refine ⟨fun s k addr ep pid aon works => ⟨fun low toggle data eps => ⟨?full, ?sends⟩, fun t waits => ⟨?nyet, ?answers⟩⟩,
    fun s aon usb => ⟨fun j tag addr ep pid toggle rtoggle data rdata hs i entry => ⟨?runs, ?polls⟩,
      fun k tag ep hs toggle gen data remote => ⟨?stale, ?fetched, ?result⟩, fun k tag ms due waits => ?times,
      fun n remote => ⟨?connects, ?gone, ?resetDone⟩, fun n => ⟨?resumes, ?resets, ?farChange, ?nearChange⟩,
      fun connected => ⟨fun b other => suspendResume_next aon usb connected other rfl, fun set => ?hubWake,
        fun k port => ⟨?unpower, ?reset, ?suspend⟩⟩⟩,
    fun s j aon resetting => next_ifAon aon (if_pos resetting), fun s aon down => next_ifAon aon (if_neg (by simp [down])),
    fun s h bitNo => rfl⟩
  case full => exact fun full => startSplit_bulk aon works (if_pos (by simp [full]))
  case sends => exact fun room up credit pid => startSplit_bulk aon works (by simp [Nat.not_le.2 room, up, credit, pid])
  case nyet => exact fun none => completeSplit_bulk aon works waits (by simp only [none])
  case answers => exact fun r result => completeSplit_bulk aon works waits (by simp only [result])
  case runs => exact fun setup => next_ifAon aon (by simp [entry, State.usbOn, usb, setup, farPort_usbOut])
  case polls => exact fun still held ones => prefetchPoll_next aon usb entry still held ones
  case stale => exact fun other => resultRx_next aon usb remote (by simp [other])
  case fetched => exact fun same => resultRx_next aon usb remote (by simp [same])
  case result => exact fun out waits => resultRx_next aon usb remote (by simp only [out, waits, Bool.false_eq_true, if_false, if_true])
  case times => exact next_ifAon aon (if_pos (by simp only [due, waits, decide_true, Bool.and_true]))
  case connects => exact next_ifAon aon (by simp [State.usbOn, usb, remote])
  case gone => exact next_ifAon aon (by simp [State.usbOn, usb, remote])
  case resetDone => exact fun reset => next_ifAon aon (by simp [State.usbOn, usb, remote, reset])
  case resumes => exact next_ifAon aon (by simp [State.usbOn, usb])
  case resets => exact next_ifAon aon (by simp [State.usbOn, usb])
  case farChange => exact fun some => next_ifAon aon (by simp [State.usbOn, usb, some])
  case nearChange => exact fun remote upstream => next_ifAon aon (by simp [State.usbOn, usb, remote, upstream])
  case hubWake => exact next_ifAon aon (by simp [State.usbOn, usb, connected])
  case unpower => exact fun other => next_ifAon aon (by simp [State.usbOn, usb, connected, port, other])
  case reset => exact next_ifAon aon (by simp [State.usbOn, usb, connected, port])
  case suspend => exact next_ifAon aon (by simp [State.usbOn, usb, connected, port])

end Sys2Proof.Machine
end

section
/-! Power states, the lantern and the night test's commands (spec/18 R385 to R400; spec/21 R457 to R461). -/

namespace Sys2Proof.Machine

/-! ### TARGET as the bolt die loses its power (spec/18 R389) -/

/-- What is kept beside the registers does not show in one. -/
theorem rd_spool (s : State) (x : Spool) (a : Nat) : ({ s with spool := x } : State).rd a = s.rd a := rfl

theorem rd_irq_pwr (s : State) {b : Nat} (i : Nat) (other : R.PWR_STATUS ≠ b + 8) : (s.irq b i).rd R.PWR_STATUS = s.rd R.PWR_STATUS :=
  rd_irq _ _ _ other (by decide) (by decide)

theorem rd_when_pwr {s : State} {c : Bool} {f : State → State} (kept : ∀ t : State, (f t).rd R.PWR_STATUS = t.rd R.PWR_STATUS) :
    (s.when c f).rd R.PWR_STATUS = s.rd R.PWR_STATUS := by
  unfold State.when
  split
  · exact kept s
  · rfl

/-- An NVS write that is made leaves what PWR shows. -/
theorem rd_applyNvs_pwr (s : State) (op : NvsOp) : (s.applyNvs op).rd R.PWR_STATUS = s.rd R.PWR_STATUS := by
  have written (bs : Nat × List Byte) : ((s.sat F.NVS_WR_CNT_COUNT 1).nvsWrite bs.1 bs.2).rd R.PWR_STATUS = s.rd R.PWR_STATUS :=
    rd_set_other _ _ _ (by decide)
  cases op
  case log type source code cycle payload =>
    unfold State.applyNvs
    dsimp only
    rw [rd_when_pwr fun t => ?told, rd_when_pwr fun t => ?wrapped, rd_spool]
    · exact written _
    case told => rw [rd_irq_pwr _ _ (by decide), rd_sets_other (by simp)]
    case wrapped => exact rd_irq_pwr _ _ (by decide)
  case progress slot copies source cycle payload => exact (rd_spool _ _ _).trans (written _)
  all_goals exact written _

theorem rd_nvsServed_pwr (s : State) (op : NvsOp) : (s.nvsServed op).rd R.PWR_STATUS = s.rd R.PWR_STATUS := by
  cases op
  case snapshot a bs =>
    unfold State.nvsServed State.boltProgress
    dsimp only
    split
    · rw [rd_boltNvs _ _ (by decide) (by decide) (by decide) (by decide), rd_irq_pwr _ _ (by decide), rd_set_other _ _ _ (by decide)]
    · rfl
  all_goals rfl

theorem rd_nvsStep_pwr (s : State) : s.nvsStep.rd R.PWR_STATUS = s.rd R.PWR_STATUS := by
  unfold State.nvsStep
  split
  · rfl
  · exact (rd_nvsServed_pwr _ _).trans ((rd_applyNvs_pwr _ _).trans (rd_spool _ _ _))

theorem rd_drainNvs_pwr (s : State) (n : Nat) : (s.drainNvs n).rd R.PWR_STATUS = s.rd R.PWR_STATUS := by
  induction n generalizing s with
  | zero => rfl
  | succ n ih => exact (ih _).trans (rd_nvsStep_pwr s)

/-- The reset of the bolt die leaves what PWR shows. -/
theorem rd_boltReset_pwr (s : State) : s.boltReset.rd R.PWR_STATUS = s.rd R.PWR_STATUS := by
  unfold State.boltReset
  dsimp only
  rw [rd_sets_other (by simp)]
  unfold State.rd getKey
  rw [lookupKey_filter fun a => decide (0x50000000 ≤ a)]
  rfl

theorem get_setBoltReq_target (s : State) (b : Bool) : (s.setBoltReq b).get F.PWR_STATUS_TARGET = s.get F.PWR_STATUS_TARGET :=
  (get_set_other _ _ _ _ (by decide)).trans (get_set_other _ _ _ _ (by decide))

theorem boltReq_setBoltReq (s : State) : (s.setBoltReq false).boltReq = false :=
  (on_congr (rd_set_other _ F.PWR_STATUS_BOLT_REQ _ (by decide))).trans (on_set_zero s F.PGT_STATUS_BOLT_REQ (by decide))

theorem target_pg0Fall (s : State) : s.pg0Fall.pwrTarget = s.pwrTarget := by
  have fallen : (((s.set F.PGT_STATUS_PG0_GOOD 0).boltReset.setB F.PGT_EVENT_GATES_GATES 0).irq 0x50200000 6).rd R.PWR_STATUS =
      s.rd R.PWR_STATUS := by
    rw [rd_irq_pwr _ _ (by decide), State.setB, rd_set_other _ _ _ (by decide), rd_boltReset_pwr, rd_set_other _ _ _ (by decide)]
  exact (get_congr (rd_spool _ _ _)).trans ((get_setBoltReq_target _ _).trans (get_congr fallen))

/-- With the request withdrawn PG0_GOOD falls, or was low: the target stands. -/
theorem target_withdrawn (s : State) : (s.setBoltReq false).drivePg0.pwrTarget = s.pwrTarget := by
  unfold State.drivePg0
  simp only [boltReq_setBoltReq, Bool.and_false, Bool.false_eq_true, if_false]
  split
  · exact get_setBoltReq_target s false
  · exact (target_pg0Fall _).trans (get_setBoltReq_target s false)

/-- STANDBY_BOLT_OFF with the entry at its end, no snapshot asked for and STANDBY as target. -/
theorem standbyBoltOff_standby {s : State} (aon : s.spool.aon = true) (entry : s.spool.pwr.entry = 2) (up : s.seamUp = true)
    (auto : s.on F.CNT_CTRL_NVS_AUTO = false) (target : s.pwrTarget = 3) : exec .standbyBoltOff s =
      .next (((((s.drainNvs (s.spool.nvsQueue.length + 2)).setBoltReq false).drivePg0.mapPwr fun x =>
        { x with entry := 0, trunks := [], want := false }).setPwrState 3)) := by
  have still : ((((s.drainNvs (s.spool.nvsQueue.length + 2)).setBoltReq false).drivePg0.mapPwr fun x =>
      { x with entry := 0, trunks := [], want := false }).pwrTarget) = 3 :=
    (target_withdrawn _).trans ((get_congr (rd_drainNvs_pwr _ _)).trans target)
  refine next_ifAon aon ((if_neg (by simp [entry, up])).trans ?_)
  simp only [entry, auto, if_true, Bool.and_false, Bool.false_and, Bool.false_eq_true, if_false]
  exact if_neg (by rw [still]; decide)

/-! ### The commands -/

section Commands
variable {s : State} {who : Requester}

/-- A host power command that nothing refuses. -/
theorem hostPwr_starts {code st : Nat} {cores : Bool} (acc : s.accepts who R.PWR_CMD)
    (free : (s.written R.PWR_CMD (BitVec.ofNat 32 (code + 8 * b2n cores))).pwrRefusal st (b2n cores) = none) :
    (.next (s.hostPwr who code st cores) : Step) = .next (((((s.written R.PWR_CMD (BitVec.ofNat 32 (code + 8 * b2n cores))).sets
      [(F.PWR_CMD_STATUS_REASON, 0), (F.PWR_CMD_STATUS_DETAIL, 0xFFFF)]).ntAbandon 3).moveTo st (b2n cores) 1).answer who .done 0) :=
  command_does acc (by simp only [free])

/-- One that would change nothing is refused. -/
theorem hostPwr_same {code st : Nat} {cores : Bool} (acc : s.accepts who R.PWR_CMD)
    (same : (s.written R.PWR_CMD (BitVec.ofNat 32 (code + 8 * b2n cores))).pwrRefusal st (b2n cores) = some (0x2310, 0xFFFF)) :
    (.next (s.hostPwr who code st cores) : Step) = .next ((((s.written R.PWR_CMD (BitVec.ofNat 32 (code + 8 * b2n cores))).sets
      [(F.PWR_CMD_STATUS_REASON, 0x2310), (F.PWR_CMD_STATUS_DETAIL, 0xFFFF)]).sat F.PWR_CNT_REFUSED 1 |>.irq bPwr 1).answer who .done 0) :=
  command_does acc (by simp only [same])

theorem pwrRefusal_same {st cores : Nat} (load : s.fullLoad = false) (still : s.on F.PWR_STATUS_MOVING = false) (state : st = s.pwrState)
    (same : cores = s.get F.PWR_STATUS_CORES) : s.pwrRefusal st cores = some (0x2310, 0xFFFF) := by
  simp [State.pwrRefusal, load, still, ← state, ← same]

/-- GO while a wake runs ends it where the load has committed. -/
theorem goReady_waking {us : Nat} (acc : s.accepts who R.PWR_READY) (waking : (s.written R.PWR_READY 1).spool.pwr.waking = true) :
    exec (.goReady who us) s =
      let gone : State := (s.written R.PWR_READY 1).mapPwr fun x => { x with go := true }
      .next ((if gone.spool.pwr.warm then gone.finishWake us else gone).answer who .done 0) := by
  have ready (t : State) (w : t.spool.pwr.waking = true) : (t.mapPwr fun x => { x with go := true }).wakeReady = t.spool.pwr.warm := by
    simp [State.wakeReady, State.mapPwr, w]
  exact command_does acc (by simp only [waking, Bool.not_true, Bool.false_eq_true, if_false, ready _ waking]; rfl)

/-- The registers stored beside it leave the run that begins. -/
theorem sets_begun (t : State) (l : List (Fld × Nat)) (run : Option NightRun) :
    ({ t.sets l with bolt.nts.run := run } : State) = { t.sets l with bolt.nts := { t.bolt.nts with run := run } } := by
  simp only [sets_bolt]

/-- GO of the night test, in RUN with NTS ON, none running and its START ahead. -/
theorem ntGo_starts (on : s.isOn .nts = true) (free : s.bolt.nts.run = none) (run : s.get F.PWR_STATUS_STATE = 1)
    (ahead : later ((s.cycle + 2) % 2 ^ 32) (s.get F.NTS_START_CYCLE) = false) : s.ntGo =
      let cleared : State := (s.sets [(F.NTS_CMD_STATUS_REASON, 0), (F.NTS_CMD_STATUS_DETAIL, 0xFFFF)]).each (List.range 32)
        fun i s => s.ntResult i 0 0 0 0
      { cleared.sets [(F.NTS_STATUS_RUNNING, 1), (F.NTS_STATUS_STEP, 0)] with
        bolt.nts := { cleared.bolt.nts with run := some (NightRun.reset (s.get F.NTS_START_CYCLE) 0) } } := by
  simp only [State.ntGo, on, free, run, ahead, Bool.not_true, Option.isSome_none, Bool.or_false, Bool.false_eq_true, if_false, ne_eq,
    not_true_eq_false]
  exact sets_begun _ _ _

end Commands

/-- The first TEST frame of a checking step that it awaits. -/
theorem testFrame_first {s : State} {f : Frame} {r : NightRun} (up : s.boltUp = true) (run : s.bolt.nts.run = some r)
    (live : r.live = true) (path : s.ntKind r.step = nkPath) (checks : s.ntArg r.step 10 1 = 1)
    (step : (f.hdr.svc.extractLsb' 34 5).toNat = r.step) (kind : f.hdr.kind.toNat = kTest)
    (number : (f.hdr.svc.extractLsb' 26 8).toNat = s.get F.NTS_RUN_STATUS_RUN % 256) (first : r.lastSeq = none) :
    exec (.testFrameRx f) s = .next (s.mapNight fun r => { r with
      frames := r.frames + 1
      errs := r.errs + popCount (8 * f.payload.length) (ofBe f.payload ^^^ ofBe (testPayload f.hdr.seq.toNat f.payload.length))
      gaps := r.gaps, lastSeq := some f.hdr.seq.toNat }) :=
  next_ifBolt up (by
    simp only [run]
    rw [if_neg (by simp [live, path, checks, step, kind, number])]
    simp [first])

/-- Settles O47: each row by the branch its hypotheses choose. -/
theorem powerStatesAndLantern : Obligations.PowerStatesAndLantern := by
  refine ⟨fun s who cores acc x mine => ?commands, fun s aon => ⟨fun entry _ up auto target =>
      standbyBoltOff_standby aon entry up auto target, fun hold off => next_ifAon aon (if_neg (by simp [hold, off])),
      fun us waking power cold late => next_ifAon aon (if_pos (by simp [waking, power, cold, late])),
      fun adc ohms => ⟨_, next_ifAon aon rfl, rfl⟩, fun asserted over' => next_ifAon aon (if_pos (by simp [asserted, over']))⟩,
    fun s who => ⟨fun us acc waking => goReady_waking acc waking, fun acc => command_does acc rfl,
      fun acc => ⟨fun on free run ahead => command_does acc (ntGo_starts on free run ahead), command_does acc rfl⟩⟩,
    fun s f r up run live path checks step kind number first => testFrame_first up run live path checks step kind number first⟩
  simp only [List.mem_cons, List.not_mem_nil, or_false] at mine
  obtain rfl | rfl | rfl | rfl := mine
  all_goals exact ⟨fun free => hostPwr_starts acc free,
    fun load still state same => hostPwr_same acc (pwrRefusal_same load still state same)⟩

end Sys2Proof.Machine
end

section
/-! The PCIe bridge (spec/13 R298 to R305): TLPs into the tunnel, records out of it, credits, ledger faults, completion timeouts. -/

namespace Sys2Proof.Machine

section Tunnel
variable {s : State} {l : Fin 32}

/-- A TLP of a quad that is ON that breaks no rule of PCIe. -/
theorem tlpRx_next {q : Fin 3} {t : Tlp} {r : State} (live : s.boltUp = true) (on : s.isOn (.pcbQuad q) = true) (good : t.bad = false)
    (does : (if !s.linkOn l || s.linkQuad l ≠ q.val || !s.linkLives l then
        if t.kind = 1 then
          (s.emit (.tlp q 2 t.req.toNat t.tag.toNat true (bytesAt (Config.completion t.req.toNat t.tag.toNat 1 t.asks) 0 12))).sat
            (F.PCB_LNK_CNT2_UR_SENT l) 1
        else s
      else if s.upQuad q && t.lockRead && (s.linksOf q).any fun k => k ≠ l.val &&
          (s.on (F.PCB_LNK_STATUS_LOCKED k) || (s.blink k).out.any fun w => w.tlp.lockRead) then
        (s.answerLocal l t.req.toNat t.tag.toNat 1 t.asks).sat (F.PCB_LNK_CNT2_LOCK_REFUSED l) 1
      else if t.kind = 2 then
        (s.mapBlink l fun x => { x with out := x.out ++ [⟨t, false, false⟩] }).mapBlink l fun x => { x with
          fromFar := x.fromFar.filter fun r => !(t.ends && r.req = t.req.toNat && r.tag = t.tag.toNat) }
      else s.mapBlink l fun x => { x with out := x.out ++ [⟨t, false, false⟩] }) = r) : exec (.tlpRx q l t) s = .next r :=
  next_ifBolt live (by simp only [on, good, Bool.not_true, Bool.false_eq_true, if_false]; exact does)

/-- With nothing in the queue nothing is picked. -/
theorem pickTlp_empty (empty : (s.blink l).out = []) : s.pickTlp l (s.blink l).out.length = (s, none) := by
  rw [empty]; rfl

/-- The head of the queue that may go and waits for nothing is picked. -/
theorem pickTlp_head {w : WaitTlp} {ws : List WaitTlp} (queue : (s.blink l).out = w :: ws) (may : s.mayGo l [] w.tlp = true)
    (free : s.tlpWaits l w.tlp = 0) : s.pickTlp l (s.blink l).out.length = (s, some 0) := by
  have first : (s.blink l).out.length = ws.length + 1 := by rw [queue]; rfl
  rw [first, State.pickTlp, first]
  simp [queue, may, free]

/-- A link whose control records have all gone: the next TLP enters the tunnel. -/
theorem tlpToTunnel_next {r : State} (live : s.boltUp = true) (on : s.isOn (.pcbLink l) = true) (lives : s.linkLives l = true)
    (ctl : (s.blink l).ctl = [])
    (does : (match s.pickTlp l (s.blink l).out.length with
      | (s1, none) => s1
      | (s1, some k) =>
        match (s1.blink l).out[k]? with
        | none => s1
        | some w =>
          let other := match (s1.blink l).frame with
            | some (sub, bs, _) => (s1.blink l).closed || sub != w.tlp.kind.val ||
                decide ((s1.entry (s1.linkEntry l)).maxLen < bs.length + 4 + w.tlp.bytes.length)
            | none => false
          let s2 := if other then s1.closeFrame l else s1
          if other && (s2.blink l).frame.isSome then s2 else s2.enterTunnel l k w.tlp) = r) : exec (.tlpToTunnel l) s = .next r := by
  have flushed : s.flushCtl l = s := by simp [State.flushCtl, ctl, State.each]
  refine next_ifBolt live ((if_neg (by simp [linkOn_of_isOn on, lives])).trans ?_)
  rw [flushed]
  exact does

end Tunnel

section Records
variable {s : State} {entry : Fin 1024} {f : Frame} {tlps : List Tlp} {l : Nat}

/-- The contents of the records, on the TLPs that they stand for. -/
def recordTlps (rs : List (Nat × List Byte)) (tlps : List Tlp) : List Tlp := (rs.zip tlps).map fun p => { p.2 with bytes := p.1.2 }

/-- Posted records counted as received and disposed of. -/
def State.countPosted (s : State) (l n : Nat) : State := s.mapBlink l fun x => { x with
  pRecv := (x.pRecv + n) % 2 ^ 32, pDisp := (x.pDisp + n) % 2 ^ 32 }

/-- What the posted records of a frame do, in order or out of it. -/
def State.postedFrame (s : State) (l led : Nat) (ts : List Tlp) : State :=
  if led ≠ (s.blink l).pRecv then
    let a := ((ts.head?).map fun t : Tlp => t.addr.toNat).getD 0
    (((s.countPosted l ts.length).each ts fun t s => s.grantBack l 0 (unitsOf t)).bridgeFault l 4 led a).sendFault l 4 led ts.length a
  else
    let r := s.postedAll l (s.blink l).pRecv ts
    (r.1.countPosted l ts.length).each (faultRuns r.2 none) fun r s => s.sendFault l r.1 r.2.1 r.2.2.1 r.2.2.2

/-- A frame of a bridge entry whose payload parses: a wrong kind, a control frame, or records by sub-channel. -/
theorem pcbRecordsRx_next {rs : List (Nat × List Byte)} {r : State} (live : s.boltUp = true)
    (mine : s.linksOn.find? (fun l => s.linkEntry l = entry.val) = some l) (parses : parseRecords f.payload.length f.payload = some rs)
    (does : (if 4 ≤ hSubch f.hdr || rs.any fun r => r.1 ≠ b2n (hSubch f.hdr = 3) then
        (s.sat (F.PCBQ_ERR_MALFORMED (s.linkQuad l)) 1).irq bPcb 7
      else if hSubch f.hdr = 3 then s.each rs fun r s => s.emit (.pcbControl l r.2)
      else (match hSubch f.hdr with
        | 0 => s.postedFrame l (hRelAdapter f.hdr / 16) (recordTlps rs tlps)
        | 1 => s.each (recordTlps rs tlps) fun t s => s.requestIn l t
        | _ => s.each (recordTlps rs tlps) fun t s => s.completionIn l t).showLink l) = r) :
    exec (.pcbRecordsRx entry f tlps) s = .next r :=
  next_ifBolt live (by simp only [mine, parses]; exact does)

end Records

/-- A credit record of the far end, taken by a link unit that is ON. -/
theorem pcbCreditRx_next {s : State} {l : Fin 32} (live : s.boltUp = true) (on : s.isOn (.pcbLink l) = true) (r0 r1 : BitVec 32) :
    exec (.pcbCreditRx l r0 r1) s = .next (s.takeCredit l [r0.toNat, r1.toNat]) :=
  next_ifBolt live (if_pos (linkOn_of_isOn on))

/-- Settles O37: each row by the branch its hypotheses choose.  That the credit of a failed posted record goes back, and that credits
arrive as rows of their own, are the model's readings (assumption log 21, 47). -/
theorem bridgeRecordsAndCredits : Obligations.BridgeRecordsAndCredits := by
  refine ⟨fun s q l t live on => ⟨fun bad => ?malformed, fun good request dead => ?refused, fun good link quad lives plain kind => ?queued⟩,
    fun s l live => ⟨next_ifBolt live rfl, fun on lives ctl => ⟨?nothing, ?enters⟩⟩,
    fun s entry f tlps l live mine => ⟨?unparsed, fun rs parses => ⟨?reserved, ?kinds, ?control, ?completions, ?requests,
      fun sub kinds => ⟨?inOrder, ?outOfOrder⟩⟩⟩,
    fun s l live on => ⟨pcbCreditRx_next live on, fun n => next_ifBolt live (if_pos (linkOn_of_isOn on)),
      fun cause first count addr => next_ifBolt live (if_pos (linkOn_of_isOn on)), fun req tag r waits => ?times⟩⟩
  case malformed => exact next_ifBolt live (by simp [on, bad])
  case refused => exact tlpRx_next live on good (by simp [request, dead])
  case queued => exact tlpRx_next live on good (by simp [linkOn_of_isOn link, quad, lives, plain, kind, State.mapBlink])
  case nothing => exact fun empty => tlpToTunnel_next live on lives ctl (by rw [pickTlp_empty empty])
  case enters => exact fun w ws queue open' may free => tlpToTunnel_next live on lives ctl (by
    rw [pickTlp_head queue may free]
    simp [queue, open'])
  case unparsed => exact fun none => next_ifBolt live (by simp only [mine, none])
  case reserved => exact fun high => pcbRecordsRx_next live mine parses (if_pos (by simp [high]))
  case kinds => exact fun low wrong => pcbRecordsRx_next live mine parses (if_pos (by
    simpa [show hSubch f.hdr ≠ 3 by omega, b2n] using Or.inr (by simpa using wrong)))
  case control => exact fun sub kinds => pcbRecordsRx_next live mine parses (by
    rw [sub, if_neg (by simpa [b2n] using kinds), if_pos rfl])
  case completions => exact fun sub kinds => pcbRecordsRx_next live mine parses (by
    rw [sub, if_neg (by simpa [b2n] using kinds), if_neg (by decide)]; rfl)
  case requests => exact fun sub kinds => pcbRecordsRx_next live mine parses (by
    rw [sub, if_neg (by simpa [b2n] using kinds), if_neg (by decide)]; rfl)
  case inOrder => exact fun next => pcbRecordsRx_next live mine parses (by
    rw [sub, if_neg (by simpa [b2n] using kinds), if_neg (by decide)]
    exact congrArg (State.showLink · l) (if_neg (not_not.2 next)))
  case outOfOrder => exact fun other => pcbRecordsRx_next live mine parses (by
    rw [sub, if_neg (by simpa [b2n] using kinds), if_neg (by decide)]
    exact congrArg (State.showLink · l) (if_pos other))
  case times => exact next_ifBolt live (by simp only [waits])

end Sys2Proof.Machine
end

section
/-! AUX and Ethernet (spec/14 R313, R320 to R325): requests and replies, frames received, the learning table, a MAC's link. -/

namespace Sys2Proof.Machine

section Aux
variable {s : State} {q : Fin 3} {native write : Bool} {addr : BitVec 20} {offset : BitVec 9} {len : BitVec 5} {raw : List Byte}

/-- A request at a quad that runs: the own link's DPCD, the EDID cache, a wait, or the AUX tunnel. -/
theorem auxRequest_next {r : State} (live : s.boltUp = true) (on : s.dpOn q.val = true)
    (does : (if native && (addr.toNat ≤ 0x2FF || addr.toNat = 0x600) then s.emit (.aux q.val 3 raw)
      else if !native && !write && addr.toNat = 0x50 then
        s.emit (.aux q.val 0 (bytesAt (s.dpq q.val).cache offset.toNat len.toNat))
      else if (s.dpq q.val).auxWait || (s.dpq q.val).refill.isSome then s.emit (.aux q.val 1 [])
      else ((s.mapDp q.val fun x => { x with auxWait := true }).sendAux q.val 0 raw).emit (.aux q.val 1 [])) = r) :
    exec (.auxRequest q native write addr offset len raw) s = .next r :=
  next_ifBolt live ((if_neg (by simp [on])).trans does)

/-- A frame of a valid AUX entry of a quad that runs. -/
theorem auxReplyRx_next {entry : Fin 1024} {f : Frame} {reply : List Byte} {r : State} (live : s.boltUp = true)
    (valid : (s.entry entry.val).valid = true) (func : (s.entry entry.val).func = 1) (port : 2 ≤ (s.entry entry.val).localPort)
    (on : s.dpOn (((s.entry entry.val).localPort - 2) / 2) = true)
    (does : (if (s.entry entry.val).localPort % 2 = 1 then
        (s.emit (.aux (((s.entry entry.val).localPort - 2) / 2) 4 f.payload)).sendAux (((s.entry entry.val).localPort - 2) / 2) 1 reply
      else if (s.dpq (((s.entry entry.val).localPort - 2) / 2)).refill.isSome then
        (s.refillCache (((s.entry entry.val).localPort - 2) / 2) f.payload).hpdReview (((s.entry entry.val).localPort - 2) / 2)
      else if (s.dpq (((s.entry entry.val).localPort - 2) / 2)).auxWait then
        (s.mapDp (((s.entry entry.val).localPort - 2) / 2) fun x => { x with auxWait := false }).emit
          (.aux (((s.entry entry.val).localPort - 2) / 2) 0 f.payload)
      else s) = r) : exec (.auxReplyRx entry f reply) s = .next r :=
  next_ifBolt live ((if_neg (by simp [valid, func, Nat.not_lt.2 port, on])).trans does)

end Aux

section Ethernet
variable {s : State} {m : Fin 12}

/-- A MAC that runs takes frames. -/
structure MacRuns (s : State) (m : Fin 12) : Prop where
  quad : s.ethOn (m.val / 4) = true
  runs : s.dpeRuns = true
  mine : (s.macsOf (m.val / 4)).contains (m.val % 4) = true
  link : bit (s.get (F.DPE_ETH_STATUS_LINK (m.val / 4))) (m.val % 4) = true

theorem MacRuns.takes (mac : MacRuns s m) : (!s.ethOn (m.val / 4) || !s.dpeRuns || !(s.macsOf (m.val / 4)).contains (m.val % 4) ||
    !bit (s.get (F.DPE_ETH_STATUS_LINK (m.val / 4))) (m.val % 4)) = false := by
  simp only [mac.quad, mac.runs, mac.mine, mac.link, Bool.not_true, Bool.or_false]

theorem isTag_notPause {t : Nat} (tag : isTag t = true) : t ≠ 0x8808 := by
  rintro rfl
  exact absurd tag (by decide)

/-- A good frame that is no PAUSE goes by its tag, or as the MAC's DEFAULT says. -/
theorem ethRx_next {frame : List Byte} {fcs : BitVec 32} {r : State} (live : s.boltUp = true) (mac : MacRuns s m)
    (good : frame ++ leBytes 4 fcs.toNat = withFcs ((frame ++ leBytes 4 fcs.toNat).take ((frame ++ leBytes 4 fcs.toNat).length - 4)))
    (long : 64 ≤ (frame ++ leBytes 4 fcs.toNat).length) (short : (frame ++ leBytes 4 fcs.toNat).length ≤ 9216)
    (data : ofBe (bytesAt (frame ++ leBytes 4 fcs.toNat) 12 2) ≠ 0x8808)
    (does : (let bs := frame ++ leBytes 4 fcs.toNat
      let tci := ofBe (bytesAt bs 14 2)
      if isTag (ofBe (bytesAt bs 12 2)) then
        match (s.maps (m.val / 4)).find? fun v => v.2.1 = m.val % 4 && v.2.2.1 = tci % 4096 with
        | none => s.sat (F.DPE_MAC_CNT_NOMAP_DROP m) 1
        | some v => s.wrapEth m.val v.2.2.2.1 (tci % 4096) tci v.2.2.2.2 true bs
      else if s.on (F.DPE_MAC_DEFAULT_EN m) then s.wrapEth m.val (s.get (F.DPE_MAC_DEFAULT_ENTRY m)) 0 0 false false bs
      else s) = r) : exec (.ethRx m frame fcs) s = .next r := by
  refine next_ifBolt live ?_
  dsimp only
  rw [if_neg (by rw [mac.takes]; decide), if_neg (by rw [bne_iff_ne]; exact not_not.2 good),
    if_neg (by simp only [Nat.not_lt.2 long, Nat.not_lt.2 short]; decide), if_neg (by simp [data])]
  exact does

/-- A change of the link of a MAC of a quad that is ON. -/
theorem ethLinkChange_next {up : Bool} {r : State} (live : s.boltUp = true) (on : s.ethOn (m.val / 4) = true)
    (mine : (s.macsOf (m.val / 4)).contains (m.val % 4) = true) (was : bit (s.get (F.DPE_ETH_STATUS_LINK (m.val / 4))) (m.val % 4) ≠ up)
    (does : ((if up then s.setB (F.DPE_ETH_STATUS_LINK (m.val / 4)) (m.val % 4)
      else (s.clrB (F.DPE_ETH_STATUS_LINK (m.val / 4)) (m.val % 4)).setMac m.val ⟨0, []⟩).irq bDpe 5) = r) :
    exec (.ethLinkChange m up) s = .next r :=
  next_ifBolt live ((if_neg (by simp only [on, mine]; decide)).trans ((if_neg was).trans does))

end Ethernet

/-- Settles O40: each row by the branch its hypotheses choose.  That an FCS is recomputed and which types mark a tag
are the model's readings (assumption log 22), and so are the raw AUX payloads and the offset of an EDID read (assumption log 48). -/
theorem auxAndEthernet : Obligations.AuxAndEthernet := by
  refine ⟨fun s q native write addr offset len raw live on => ⟨?own, ?cache, fun isNative high => ⟨?waits, ?sends⟩, ?times⟩,
    fun s entry f reply live => ?replies, fun s m frame fcs live quad runs mine link => ⟨?badFcs, fun good long short =>
      ⟨fun tag => ⟨?mapped, ?unmapped⟩, ?untagged⟩⟩, fun s live on age => ?ages, fun s who v acc => ?flushes,
    fun s m live on mine => ⟨?up, ?down⟩⟩
  case own => exact fun isNative low => auxRequest_next live on (if_pos (by simp [isNative, low]))
  case cache => exact fun i2c read edid => auxRequest_next live on (by simp [i2c, read, edid])
  case waits => exact fun waits => auxRequest_next live on (by
    simp [isNative, waits, show ¬ addr.toNat ≤ 767 by omega, show addr.toNat ≠ 1536 by omega])
  case sends => exact fun free full => auxRequest_next live on (by
    simp [isNative, free, full, show ¬ addr.toNat ≤ 767 by omega, show addr.toNat ≠ 1536 by omega])
  case times => exact fun ms waits due => next_ifBolt live (if_pos (by simp [waits, due]))
  case replies =>
    intro e q valid func port on
    exact ⟨fun odd => auxReplyRx_next live valid func port on (if_pos odd), fun even full waits =>
      auxReplyRx_next live valid func port on (by simp [even, full, waits, q, e])⟩
  case badFcs => exact fun bad => next_ifBolt live ((if_neg (by rw [MacRuns.takes ⟨quad, runs, mine, link⟩]; decide)).trans
    (if_pos (bne_iff_ne.2 bad)))
  case mapped => exact fun v map => ethRx_next live ⟨quad, runs, mine, link⟩ good long short (isTag_notPause tag) (by
    simp only [tag, if_true, map])
  case unmapped => exact fun none => ethRx_next live ⟨quad, runs, mine, link⟩ good long short (isTag_notPause tag) (by
    simp only [tag, if_true, none])
  case untagged => exact fun plain data on => ethRx_next live ⟨quad, runs, mine, link⟩ good long short data (by
    simp only [plain, Bool.false_eq_true, if_false, on, if_true])
  case ages => exact next_ifBolt live (by simp [on, age, State.showLearn])
  case flushes => exact fun go => command_does acc (by simp [go, State.showLearn])
  case up => exact fun was => ethLinkChange_next live on mine (by rw [was]; decide) rfl
  case down => exact fun was => ethLinkChange_next live on mine (by rw [was]; decide) rfl

end Sys2Proof.Machine
end


section
/-! Frames of the bridge's rows (spec/13), of the display's and Ethernet's (spec/14), of a display's transmitter, whose rate the schedulers
follow (spec/08 R202, R204, R499). -/

namespace Sys2Proof.Machine

set_option Elab.async false

section Scheduler
variable {B : List Nat} {a s : State} (h : Within B a s)
include h

theorem Within.mapQueue (k : Nat) (f : Queue → Queue) : Within B a (s.mapQueue k f) := h.upd

theorem Within.mapPsch (p : Nat) (f : PortSched → PortSched) : Within B a (s.mapPsch p f) := h.upd

theorem Within.mapEntry (i : Nat) (f : Entry → Entry) : Within B a (s.mapEntry i f) := h.upd

theorem Within.mapStored (id : Nat) (f : Stored → Stored) : Within B a (s.mapStored id f) := by
  unfold State.mapStored
  split
  · exact h.upd
  · exact h

theorem Within.activate (k : Nat) : Within B a (s.activate k) := by
  unfold State.activate
  exact .ite ((h.mapQueue _ _).mapPsch _ _) (h.ite ((h.mapQueue _ _).mapPsch _ _))

theorem Within.giveBack (p : Nat) (pls : List Placement) : Within B a (s.giveBack p pls) := by
  unfold State.giveBack
  refine Within.each (h.mapPsch _ _) _ _ fun pl _ t k => ?_
  have back : Within B a (((t.mapQueue pl.queue fun q => { q with frames := pl.frame :: q.frames, deficit := pl.deficit }).mapCopy
      pl.frame pl.queue fun c => { c with st := .queued }).activate pl.queue) := ((k.mapQueue _ _).mapStored _ _).activate _
  dsimp only
  split
  · exact ((back.mapStored _ _).mapEntry _ _).ite back
  · exact back

theorem Within.settle {p : Nat} (range : p < 12) (sch : bSch ∈ B) : Within B a (s.settle p) := by
  unfold State.settle
  exact .ite (h.mapPsch _ _) (((h.mapPsch _ _).giveBack _ _).sat _ (baseOf_array sch range))

theorem Within.setRate {p : Nat} (range : p < 12) (sch : bSch ∈ B) (r : Nat) : Within B a (s.setRate p r) := by
  have rated : Within B a (s.set (F.SCH_PORT_RATE_RATE p) r) := h.set _ (baseOf_array sch range)
  exact ((rated.mapPsch _ _).settle range sch).ite rated

theorem Within.rateReview {ps : List Nat} (range : ∀ p ∈ ps, p < 12) (sch : bSch ∈ B) : Within B a (s.rateReview ps) :=
  h.each _ _ fun p mine _ k => k.ite (k.setRate (range p mine) sch _)

end Scheduler

/-! ### The bridge -/

section Bridge
variable {a s : State} {l : Nat}

theorem Within.showLink (h : Within [bPcb, 0x40E00000] a s) (range : l < 32) : Within [bPcb, 0x40E00000] a (s.showLink l) := by
  refine h.sets _ fun p mine => ?_
  simp only [List.mem_cons, List.not_mem_nil, or_false] at mine
  obtain rfl | rfl | rfl | rfl := mine <;> exact baseOf_array (base := bPcb) (by simp) range

theorem Within.setBlink {B : List Nat} (h : Within B a s) (l : Nat) (x : BridgeLink) : Within B a (s.setBlink l x) := h.upd

theorem Within.answerLocal {B : List Nat} (h : Within B a s) (l req tag status left : Nat) :
    Within B a (s.answerLocal l req tag status left) := h.emit _

theorem Within.unlock (h : Within [bPcb, 0x40E00000] a s) (range : l < 32) : Within [bPcb, 0x40E00000] a (s.unlock l) :=
  h.set _ (baseOf_array (base := bPcb) (by simp) range)

end Bridge

section BridgeRows
variable (s : State) (l : Fin 32)

theorem tlpRx_within (q : Fin 3) (t : Tlp) : WithinStep [bPcb, 0x40E00000] s (exec (.tlpRx q l t) s) := by
  have h := Within.refl [bPcb, 0x40E00000] s
  have queued := h.setBlink l { s.blink l with out := (s.blink l).out ++ [⟨t, false, false⟩] }
  refine Within.ifBolt (h.ite (.ite ?malformed (.ite (.ite ?refused h) (.ite ?lockRefused (.ite (queued.setBlink _ _) queued)))))
  case malformed =>
    have counted : Within [bPcb, 0x40E00000] s (s.sat (F.PCBQ_ERR_MALFORMED q) 1) :=
      h.sat _ (baseOf_array (base := bPcb) (by simp) q.isLt)
    exact counted.blockIrq 7
  case refused => exact (h.emit _).sat _ (baseOf_array (base := bPcb) (by simp) l.isLt)
  case lockRefused => exact (h.answerLocal _ _ _ _ _).sat _ (baseOf_array (base := bPcb) (by simp) l.isLt)

theorem linkStateRx_within (flags speed width : BitVec 8) : WithinStep [bPcb, 0x40E00000] s (exec (.linkStateRx l flags speed width) s) := by
  have h := Within.refl [bPcb, 0x40E00000] s
  have shown (up : Nat) : Within [bPcb, 0x40E00000] s (s.sets [(F.PCB_LNK_STATUS_FAR_UP l, up), (F.PCB_LNK_STATUS_FAR_SPEED l, speed.toNat),
      (F.PCB_LNK_STATUS_FAR_WIDTH l, width.toNat)]) := by
    refine h.sets _ fun p mine => ?_
    simp only [List.mem_cons, List.not_mem_nil, or_false] at mine
    obtain rfl | rfl | rfl := mine <;> exact baseOf_array (base := bPcb) (by simp) l.isLt
  have told := (shown (b2n (bit flags.toNat 0))).ite (p := bit flags.toNat 0 = true) ((shown (b2n (bit flags.toNat 0))).unlock l.isLt)
  have held : Within [bPcb, 0x40E00000] s (((s.mapBlink l fun x => { x with
      reset := bit flags.toNat 1, disable := bit flags.toNat 2 }).irq bPcb 2).emit
        (.pcieHold (s.linkQuad l) (bit flags.toNat 1) (bit flags.toNat 2))) := ((h.setBlink _ _).blockIrq 2).emit _
  exact Within.ifBolt (h.ite (.ite (.ite (told.blockIrq 2) ((told.blockIrq 2).emit _)) ((held.unlock l.isLt).ite held)))

theorem pcbCreditRx_within (r0 r1 : BitVec 32) : WithinStep [bPcb, 0x40E00000] s (exec (.pcbCreditRx l r0 r1) s) :=
  have h := Within.refl [bPcb, 0x40E00000] s
  Within.ifBolt (.ite ((h.setBlink _ _).showLink l.isLt) h)

theorem appliedRx_within (n : BitVec 32) : WithinStep [bPcb, 0x40E00000] s (exec (.appliedRx l n) s) :=
  have h := Within.refl [bPcb, 0x40E00000] s
  Within.ifBolt (.ite (h.set _ (baseOf_array (base := bPcb) (by simp) l.isLt)) h)

theorem completionTimeout_within (req : BitVec 16) (tag : BitVec 10) :
    WithinStep [bPcb, 0x40E00000] s (exec (.completionTimeout l req tag) s) := by
  have h := Within.refl [bPcb, 0x40E00000] s
  refine Within.ifBolt ?_
  dsimp only
  split
  · exact h
  · refine Within.showLink (Within.blockIrq (Within.sat ((h.setBlink _ _).answerLocal _ _ _ _ _) _ ?_) 3) l.isLt
    exact baseOf_array (base := bPcb) (by simp) l.isLt

end BridgeRows

/-! ### Display and Ethernet -/

section Display
variable {B : List Nat} {a s : State}

theorem Within.mapDp (h : Within B a s) (q : Nat) (f : DpQuad → DpQuad) : Within B a (s.mapDp q f) := h.upd

theorem Within.setMac (h : Within B a s) (m : Nat) (x : MacSt) : Within B a (s.setMac m x) := h.upd

theorem Within.dpTake (h : Within B a s) (q kind frame : Nat) (payload : List Byte) : Within B a (s.dpTake q kind frame payload) := by
  unfold State.dpTake
  split
  · exact h.mapDp _ _
  · exact h.mapDp _ _
  · exact h.emit _

/-- A STREAM frame at its adapter is counted at most. -/
theorem Within.streamCounted (h : Within B a s) (cnt : 0x40E00000 ∈ B) (i : Nat) (f : Hdr) : Within B a (s.streamSink i f).1 := by
  unfold State.streamSink
  exact .ite_fst (h.count _ _ cnt) (.ite_fst (h.count _ _ cnt) h)

theorem Within.showLearn (h : Within [bDpe, 0x40E00000] a s) : Within [bDpe, 0x40E00000] a s.showLearn := h.set _ baseOf_head

end Display

section DisplayRows
variable (s : State)

theorem dpFrameRx_within (i : Fin 1024) (f : Frame) : WithinStep [bDpe, 0x40E00000] s (exec (.dpFrameRx i f) s) := by
  have h := Within.refl [bDpe, 0x40E00000] s
  have counted := h.streamCounted (by simp) i f.hdr
  refine Within.ifBolt (.ite h (.ite h ?_))
  dsimp -iota only
  split
  · next taken =>
    rw [taken] at counted
    exact .ite counted ((counted.mapDp _ _).dpTake _ _ _ _)

theorem dpNoVideo_within (q : Fin 3) : WithinStep [bDpe, 0x40E00000] s (exec (.dpNoVideo q) s) :=
  have h := Within.refl [bDpe, 0x40E00000] s
  Within.ifBolt ((h.mapDp _ _).ite h)

theorem hpdRise_within (q : Fin 3) (high : Bool) (irqs : BitVec 8) (ok : Bool) (edid : List Byte) :
    WithinStep [bDpe, 0x40E00000] s (exec (.hpdRise q high irqs ok edid) s) := by
  have h := Within.refl [bDpe, 0x40E00000] s
  have read := h.mapDp q fun x => { x with
    hpd := high, irqs := (x.irqs + irqs.toNat) % 256
    edid := if high && !(s.dpq q.val).hpd then edid.take 512 else (s.dpq q.val).edid
    edidOk := if high && !(s.dpq q.val).hpd then ok else x.edidOk }
  exact Within.ifBolt (h.ite (Within.upd ((read.blockIrq 4).ite read)))

theorem auxTimeout_within (q : Fin 3) (ms : Nat) : WithinStep [bDpe, 0x40E00000] s (exec (.auxTimeout q ms) s) := by
  have h := Within.refl [bDpe, 0x40E00000] s
  exact Within.ifBolt (.ite (((h.mapDp _ _).emit _).sat _ (baseOf_array (base := bDpe) (by simp) q.isLt)) h)

theorem ethLinkChange_within (m : Fin 12) (up : Bool) : WithinStep [bDpe, 0x40E00000] s (exec (.ethLinkChange m up) s) := by
  have h := Within.refl [bDpe, 0x40E00000] s
  have quad : m.val / 4 < 3 := by omega
  have link : baseOf (R.DPE_ETH_STATUS (m.val / 4)) ∈ [bDpe, 0x40E00000] := baseOf_array (base := bDpe) (by simp) quad
  have shown : Within [bDpe, 0x40E00000] s (if up = true then s.setB (F.DPE_ETH_STATUS_LINK (m.val / 4)) (m.val % 4)
      else (s.clrB (F.DPE_ETH_STATUS_LINK (m.val / 4)) (m.val % 4)).setMac m.val ⟨0, []⟩) :=
    .ite (h.setB _ link) ((h.clrB (f := F.DPE_ETH_STATUS_LINK (m.val / 4)) _ link).setMac _ _)
  have told := shown.blockIrq 5
  refine Within.ifBolt (.ite h ?_)
  dsimp -iota only
  exact .ite h told

theorem ethAge_within : WithinStep [bDpe, 0x40E00000] s (exec .ethAge s) := by
  have h := Within.refl [bDpe, 0x40E00000] s
  exact Within.ifBolt (h.ite (.sat (Within.showLearn h.upd) _ baseOf_head))

/-- The rate of the display's slot follows its link: the scheduler's block beside the adapter's. -/
theorem dpTxVsync_within (q : Fin 3) (own : BitVec 64) (video : TxVideo) (link : DpTrained) :
    WithinStep [bDpe, bSch, 0x40E00000] s (exec (.dpTxVsync q own video link) s) := by
  have h := Within.refl [bDpe, bSch, 0x40E00000] s
  have linked : Within [bDpe, bSch, 0x40E00000] s (s.set (F.DPE_DP_STATUS_TX_LINK q) 1) :=
    h.set _ (baseOf_array (base := bDpe) (by simp) q.isLt)
  have told := linked.irq (b := bDpe) 1 (baseOf_mem (base := bDpe) (by simp) (by decide) (by decide) rfl) (by simp)
  have trained : Within [bDpe, bSch, 0x40E00000] s (if s.on (F.DPE_DP_STATUS_TX_LINK q) then s
      else (s.set (F.DPE_DP_STATUS_TX_LINK q) 1).irq bDpe 1) :=
    .ite h told
  have slot : ∀ p ∈ [3 + 2 * q.val], p < 12 := by simp; omega
  refine Within.ifBolt (.ite h ?_)
  dsimp -iota only
  split
  have sent (o : Output) (x y : DpQuad → DpQuad) :=
    (((trained.mapDp q.val x).rateReview slot (by simp)).emit o).mapDp q.val y
  refine Within.set (Within.sat (.ite (.sat (sent _ _ _) _ ?_) (sent _ _ _)) _ ?_) _ ?_
  · exact baseOf_array (base := bDpe) (by simp) q.isLt
  · exact baseOf_array (base := bDpe) (by simp) q.isLt
  · exact baseOf_array (base := bDpe) (by simp) q.isLt

end DisplayRows

/-- Settles O55, by each row's frame. -/
theorem bridgeAndDisplayRowsKeepToTheirBlock : Obligations.BridgeAndDisplayRowsKeepToTheirBlock := by
  intro s c
  refine ⟨fun row => ?_, fun row => ?_, fun q own video link row => ?_⟩
  · obtain ⟨q, l, t, rfl⟩ | ⟨l, flags, x, y, rfl⟩ | ⟨l, x, y, rfl⟩ | ⟨l, d, rfl⟩ | ⟨l, r, t, rfl⟩ := row
    · exact tlpRx_within s l q t
    · exact linkStateRx_within s l flags x y
    · exact pcbCreditRx_within s l x y
    · exact appliedRx_within s l d
    · exact completionTimeout_within s l r t
  · obtain ⟨e, f, rfl⟩ | ⟨q, rfl⟩ | ⟨q, high, irqs, ok, edid, rfl⟩ | ⟨q, ms, rfl⟩ | ⟨m, up, rfl⟩ | rfl := row
    · exact dpFrameRx_within s e f
    · exact dpNoVideo_within s q
    · exact hpdRise_within s q high irqs ok edid
    · exact auxTimeout_within s q ms
    · exact ethLinkChange_within s m up
    · exact ethAge_within s
  · rw [row]
    exact dpTxVsync_within s q own video link

end Sys2Proof.Machine
end

section
/-! Frames of the Dock ports' rows (spec/15) and of the USB device's and remote ports' rows (spec/16). -/

namespace Sys2Proof.Machine

set_option Elab.async false

/-! ### The Dock ports -/

section DockOps
variable {a s : State} (h : Within [bTcp] a s)
include h

theorem Within.mapDock (p : Nat) (f : DockPort → DockPort) : Within [bTcp] a (s.mapDock p f) := h.upd

theorem Within.pd (p : Nat) (m : PdMsg) : Within [bTcp] a (s.pd p m) := h.emit _

theorem Within.typec (p : Nat) (x : TypecAct) : Within [bTcp] a (s.typec p x) := h.emit _

theorem Within.advertise (p : Nat) : Within [bTcp] a (s.advertise p) := by
  unfold State.advertise
  split
  · exact h.typec _ _
  · exact h.typec _ _

theorem Within.sendCaps (p : Nat) : Within [bTcp] a (s.sendCaps p) := by
  have cancelled : Within [bTcp] a (s.cancelRetry p) := .ite (h.mapDock _ _) h
  have offered := cancelled.mapDock p fun d => { d with offered := (s.caps p).2 }
  unfold State.sendCaps
  exact .ite h (.ite offered (offered.pd _ _))

theorem Within.endOwn (p : Nat) : Within [bTcp] a (s.endOwn p) := h.mapDock _ _

theorem Within.sendOwn (p own : Nat) : Within [bTcp] a (s.sendOwn p own) := by
  have kept := h.mapDock p fun d => { d with own := own, retry := false }
  unfold State.sendOwn
  dsimp only
  split
  · exact kept.pd _ _
  · exact kept.pd _ _
  · exact kept.pd _ _
  · split
    · exact kept.pd _ _
    · exact kept
  · exact kept

theorem Within.tcpEvent (p cause : Nat) : Within [bTcp] a (s.tcpEvent p cause) :=
  (h.setB p (baseOf_mem (base := bTcp) (by simp) (by decide) (by decide) rfl)).spoolIrq cause
    (baseOf_mem (base := bTcp) (by simp) (by decide) (by decide) rfl) (by decide)

theorem Within.sendEnter (p : Nat) (marked : Bool) : Within [bTcp] a (s.sendEnter p marked) := by
  unfold State.sendEnter
  split
  · exact (h.mapDock _ _).pd _ _
  · exact h.mapDock _ _

theorem Within.vconnSettled (p : Nat) : Within [bTcp] a (s.vconnSettled p) := by
  have read : Within [bTcp] a (s.readCable p) := .ite (h.pd _ _) (h.sendEnter _ _)
  exact .ite read h

variable {p : Nat} (range : p < 6)
include range

theorem Within.toggle (cc : Nat) : Within [bTcp] a (s.toggle p cc) := by
  have presents := (h.mapDock p fun d => { d with presentRp := !(s.dock p).presentRp && (s.rpCode p).isSome }).set
    (f := F.TCP_PORT_STATUS_CC p) cc (baseOf_array (base := bTcp) (by simp) range)
  exact .ite (presents.advertise p) (presents.typec _ _)

theorem Within.sendWait : Within [bTcp] a (s.sendWait p) := (h.pd _ _).sat _ (baseOf_array (base := bTcp) (by simp) range)

theorem Within.acceptRequest (pos curr v50 : Nat) : Within [bTcp] a (s.acceptRequest p pos curr v50) := by
  have accepted := (h.pd p .accept).mapDock p fun d => { d with next := some (pos, curr, v50, decide (8 ≤ pos)) }
  have moves := ((accepted.mapDock p fun d => { d with vold := (s.dock p).vset, vset := 50 * v50 }).set
    (f := F.TCP_PORT_STATUS_TRANSITION p) 1 (baseOf_array (base := bTcp) (by simp) range)).typec p (.regulator (50 * v50))
  exact .ite accepted moves

theorem Within.swapGuard : Within [bTcp] a (s.swapGuard p).1 := by
  have counted : Within [bTcp] a (s.sat (F.TCP_PORT_CNT4_COLLISION p) 1) := h.sat _ (baseOf_array (base := bTcp) (by simp) range)
  have told : Within [bTcp] a (if s.isSource p then s.sendCaps p else s) := .ite (h.sendCaps _) h
  have retried := counted.mapDock p fun d => { d with retry := true }
  unfold State.swapGuard
  exact .ite_fst (h.sendWait range) (.ite_fst (h.pd _ _) (.ite_fst (h.sendWait range) (.ite_fst (told.sendWait range)
    (.ite_fst (.ite_fst (counted.sendWait range) retried) h))))

end DockOps

section DockRows
variable (s : State) (p : Fin 6)

theorem requestRx_within (pos curr : Nat) (epr : Bool) : WithinStep [bTcp] s (exec (.requestRx p pos curr epr) s) := by
  have h := Within.refl [bTcp] s
  have epr' : Within [bTcp] s (s.enterEpr p) := .ite ((h.mapDock _ _).sendCaps _) h
  have entered : Within [bTcp] s (if epr && s.seamUp && !s.on (F.TCP_PORT_STATUS_HELD p) then s.enterEpr p else s) := .ite epr' h
  have collided := (entered.sat (f := F.TCP_PORT_CNT4_COLLISION p) 1 (baseOf_array (base := bTcp) (by simp) p.isLt)).sendWait p.isLt
  refine Within.ifAon (.ite h ?_)
  dsimp -iota only
  refine .ite collided (.ite (entered.sendWait p.isLt) ?_)
  split
  · exact .ite (entered.acceptRequest p.isLt _ _ _) (entered.pd _ _)
  · exact entered.pd _ _

theorem sourceCapabilitiesRx_within (pdos : List Word) : WithinStep [bTcp] s (exec (.sourceCapabilitiesRx p pdos) s) :=
  have h := Within.refl [bTcp] s
  Within.ifAon (.ite h (((h.endOwn _).mapDock _ _).sendOwn _ _))

theorem waitRx_within : WithinStep [bTcp] s (exec (.waitRx p) s) := by
  have h := Within.refl [bTcp] s
  have counted := h.sat (f := F.TCP_PORT_CNT2_WAIT_RX p) 1 (baseOf_array (base := bTcp) (by simp) p.isLt)
  exact Within.ifAon (.ite h (counted.mapDock _ _))

theorem waitRetry_within (ms : Nat) : WithinStep [bTcp] s (exec (.waitRetry p ms) s) :=
  have h := Within.refl [bTcp] s
  Within.ifAon (.ite h (.ite (((h.endOwn _).tcpEvent _ _).vconnSettled _) (h.sendOwn _ _)))

theorem vconnSwapRx_within : WithinStep [bTcp] s (exec (.vconnSwapRx p) s) := by
  have h := Within.refl [bTcp] s
  have guarded := h.swapGuard p.isLt
  refine Within.ifAon (.ite h ?_)
  dsimp -iota only
  exact .ite guarded (.ite ((guarded.pd _ _).set _ (baseOf_array (base := bTcp) (by simp) p.isLt)) (guarded.pd _ _))

theorem discoverRx_within (what : Fin 3) : WithinStep [bTcp] s (exec (.discoverRx p what) s) :=
  have h := Within.refl [bTcp] s
  Within.ifAon (.ite h (.ite (h.pd _ _) (.ite (h.pd _ _) (h.pd _ _))))

theorem drpToggle_within (x : PortMs) : WithinStep [bTcp] s (exec (.drpToggle x) s) :=
  have h := Within.refl [bTcp] s
  Within.ifAon (.ite (.ite (h.toggle x.port.isLt _) (.ite (h.toggle x.port.isLt _) h)) h)

theorem moistureTimer_within : WithinStep [bTcp] s (exec (.moistureTimer p) s) :=
  have h := Within.refl [bTcp] s
  Within.ifAon (.ite (h.typec _ _) h)

end DockRows

/-! ### USB -/

theorem baseOf_devStatus : baseOf R.USB_DEV_STATUS ∈ [bUsb] := by decide

theorem baseOf_frame : baseOf R.USB_FRAME ∈ [bUsb] := by decide

section UsbOps
variable {a s : State} (h : Within [bUsb] a s)
include h

/-- The hub's state changes, its packet memory does not. -/
theorem Within.mapUsb {f : Usb → Usb} (mem : (f s.spool.usb).mem = s.spool.usb.mem) : Within [bUsb] a (s.mapUsb f) :=
  h.upd (u := mem)

theorem Within.mapNear (k : Nat) (f : NearPort → NearPort) : Within [bUsb] a (s.mapNear k f) := h.mapUsb (by rfl)

theorem Within.mapFar (j : Nat) (f : FarPort → FarPort) : Within [bUsb] a (s.mapFar j f) := h.mapUsb (by rfl)

theorem Within.usbOut (o : UsbOut) : Within [bUsb] a (s.usbOut o) := h.emit _

theorem Within.usbIrq (i : Nat) : Within [bUsb] a (s.irq bUsb i) := h.spoolIrq i (by decide) (by decide)

theorem Within.flipToggle (k packets : Nat) : Within [bUsb] a (s.flipToggle k packets) := .ite h (h.mapUsb (by rfl))

theorem Within.showFill : Within [bUsb] a s.showFill := (h.set _ (by decide)).set _ (by decide)

theorem Within.usbSlip : Within [bUsb] a s.usbSlip := by
  have counted := (h.sat (f := F.USB_AUD_CNT_SLIP) 1 (by decide)).usbIrq 6
  exact .ite counted counted.upd

theorem Within.portChange (k bitNo : Nat) : Within [bUsb] a (s.portChange k bitNo) := (h.mapUsb (by rfl)).usbIrq 2

theorem Within.wakeUp : Within [bUsb] a s.wakeUp := .ite (h.usbOut _) h

theorem Within.farGen (j : Nat) (hit : Nat → Bool) : Within [bUsb] a (s.farGen j hit) := h.mapFar _ _

theorem Within.deviceReset : Within [bUsb] a s.deviceReset := by
  have abandoned : Within [bUsb] a (if s.spool.usb.ctrl.isSome then s.sat F.USB_DEV_CNT_ABANDONED 1 else s) :=
    .ite (h.sat _ (by decide)) h
  have shown := abandoned.sets [(F.USB_DEV_STATUS_ADDR, 0), (F.USB_DEV_STATUS_CONFIGURED, 0), (F.USB_DEV_STATUS_ALT_OUT, 0),
    (F.USB_DEV_STATUS_ALT_IN, 0), (F.USB_DEV_STATUS_SUSPENDED, 0), (F.USB_DEV_STATUS_WAKE_EN, 0)] (by decide)
  unfold State.deviceReset
  dsimp -iota only
  exact .ite ((shown.mapUsb (by rfl)).sets _ (by decide)) (shown.mapUsb (by rfl))

/-- A request of the host to the device function changes USB's block at most. -/
theorem Within.devRequest (b : List Byte) : Within [bUsb] a (s.devRequest b) := by
  have configured : Within [bUsb] a (s.sets [(F.USB_DEV_STATUS_CONFIGURED, leAt b 2 2), (F.USB_DEV_STATUS_ALT_OUT, 0),
      (F.USB_DEV_STATUS_ALT_IN, 0)]) := h.sets _ fun _ mine => by fin_cases mine <;> exact baseOf_devStatus
  unfold State.devRequest
  dsimp -iota only
  split
  · exact h.set _ (by decide)
  split
  · exact .ite (h.usbOut _) (configured.mapUsb (by rfl))
  split
  · exact .ite ((h.set _ (by decide)).mapUsb (by rfl)) (.ite ((h.set _ (by decide)).mapUsb (by rfl)) (.ite (h.mapUsb (by rfl)) (.ite h (h.usbOut _))))
  split
  · split
    · exact h.mapUsb (by rfl)
    · exact h
  · exact .ite (h.set _ (by decide)) h

variable {k : Nat} (range : k < 8)
include range

theorem Within.portConnect (speed : Nat) : Within [bUsb] a (s.portConnect k speed) := by
  have shown : Within [bUsb] a (s.sets [(F.USB_PORT_STATUS_CONNECT k, b2n (speed ≠ 0)), (F.USB_PORT_STATUS_SPEED k, speed),
      (F.USB_PORT_STATUS_ENABLED k, 0), (F.USB_PORT_STATUS_SUSPEND k, 0), (F.USB_PORT_STATUS_RESET k, 0)]) := by
    refine h.sets _ fun p mine => ?_
    simp only [List.mem_cons, List.not_mem_nil, or_false] at mine
    obtain rfl | rfl | rfl | rfl | rfl := mine <;> exact baseOf_array (base := bUsb) (by simp) range
  unfold State.portConnect
  exact .ite h (.ite h (shown.portChange _ _))

theorem Within.nearGone : Within [bUsb] a (s.nearGone k) := (h.mapNear _ _).portConnect range _

end UsbOps

theorem Within.hubReset {a s : State} (h : Within [bUsb] a s) : Within [bUsb] a s.hubReset := by
  have ports := (h.set (f := F.USB_STATUS_SUSPENDED) 0 (by decide)).each [1, 2, 3, 4, 5, 6] (fun k s =>
    (s.sets [(F.USB_PORT_STATUS_ENABLED k, 0), (F.USB_PORT_STATUS_SUSPEND k, 0), (F.USB_PORT_STATUS_RESET k, 0)]).mapNear k
      fun x => { x with txs := [], cache := [], outs := [], late := [] }) fun k mine t kept => by
    have range : k < 7 := by fin_cases mine <;> decide
    refine Within.mapNear (kept.sets _ fun p listed => ?_) _ _
    simp only [List.mem_cons, List.not_mem_nil, or_false] at listed
    obtain rfl | rfl | rfl := listed <;> exact baseOf_array (base := bUsb) (by simp) range
  exact (ports.mapUsb (by rfl)).deviceReset

section UsbRows
variable (s : State)

theorem usbBusReset_within : WithinStep [bUsb] s (exec .usbBusReset s) :=
  have h := Within.refl [bUsb] s
  Within.ifAon (.ite (h.sat _ (by decide)).hubReset h)

theorem devSetup_within (setup : List Byte) (status : Bool) : WithinStep [bUsb] s (exec (.devSetup setup status) s) := by
  have h := Within.refl [bUsb] s
  have abandoned : Within [bUsb] s (if s.spool.usb.ctrl.isSome then s.sat F.USB_DEV_CNT_ABANDONED 1 else s) :=
    .ite (h.sat _ (by decide)) h
  refine Within.ifAon (.ite h (.ite (.ite ((abandoned.mapUsb (by rfl)).usbOut _) (abandoned.mapUsb (by rfl))) ?_))
  split
  · exact h
  · exact (h.mapUsb (by rfl)).devRequest _

theorem mbxRx_within (bytes : List Byte) : WithinStep [bUsb] s (exec (.mbxRx bytes) s) := by
  have h := Within.refl [bUsb] s
  have taken : Within [bUsb] s (s.mapUsb fun u => { u with mbx := u.mbx ++ [bytes] }) := h.mapUsb (by rfl)
  exact Within.ifAon (.ite h (((taken.showMbx (by simp)).flipToggle _ _).usbIrq 3))

theorem mbxTxDone_within : WithinStep [bUsb] s (exec .mbxTxDone s) := by
  have h := Within.refl [bUsb] s
  have sent : Within [bUsb] s (s.mapUsb fun u => { u with reply := none }) := h.mapUsb (by rfl)
  refine Within.ifAon ?_
  dsimp -iota only
  split
  · exact h
  · exact .ite h ((((sent.sets _ (by decide)).flipToggle _ _).flipToggle _ _).usbIrq 4)

theorem isoOutPacket_within (samples : List (List Nat)) : WithinStep [bUsb] s (exec (.isoOutPacket samples) s) := by
  have h := Within.refl [bUsb] s
  have filled : Within [bUsb] s (s.mapUsb fun u => { u with
      outFifo := (s.spool.usb.outFifo ++ samples).take (4 * s.samplesPer) }).showFill := (h.mapUsb (by rfl)).showFill
  exact Within.ifAon (.ite h (.ite filled.usbSlip filled))

theorem isoInPacket_within : WithinStep [bUsb] s (exec .isoInPacket s) := by
  have h := Within.refl [bUsb] s
  have taken : Within [bUsb] s (s.mapUsb fun u => { u with inFifo := u.inFifo.drop (s.samplesPer + 1) }).showFill :=
    (h.mapUsb (by rfl)).showFill
  exact Within.ifAon (.ite h (.ite (h.usbOut _) (taken.usbOut _)))

theorem audFeedback_within (frame : Fin 2048) : WithinStep [bUsb] s (exec (.audFeedback frame) s) := by
  have h := Within.refl [bUsb] s
  have marked : Within [bUsb] s (s.mapUsb fun u => { u with marks := (s.ringSample :: u.marks).take 128 }) := h.mapUsb (by rfl)
  have followed := marked.sets [(F.USB_FRAME_UFRAME, 0), (F.USB_FRAME_FRAME, frame)] fun _ mine => by
    fin_cases mine <;> exact baseOf_frame
  refine Within.ifAon (.ite h ?_)
  dsimp -iota only
  have kept := Within.ite (p := (s.mapUsb fun u => { u with marks := (s.ringSample :: u.marks).take 128 }).upstream = 0) marked followed
  exact .ite kept ((kept.set _ (by decide)).usbOut _)

theorem resultRx_within (k : Fin 6) (tag : BitVec 16) (ep : Fin 16) (hs : Fin 4) (toggle prefetch : Bool) (gen : Byte)
    (data : List Byte) : WithinStep [bUsb] s (exec (.resultRx k tag ep hs toggle prefetch gen data) s) := by
  have h := Within.refl [bUsb] s
  have range : k.val + 1 < 8 := by omega
  have stale : Within [bUsb] s (s.sat (F.USB_PORT_CNT_STALE (k.val + 1)) 1) := h.sat _ (baseOf_array (base := bUsb) (by simp) range)
  exact Within.ifAon (.ite h (.ite (.ite stale (h.mapNear _ _)) (.ite (h.mapNear _ _) (.ite (h.mapNear _ _) stale))))

theorem remoteResultTimeout_within (k : Fin 6) (tag : BitVec 16) (ms : Nat) :
    WithinStep [bUsb] s (exec (.remoteResultTimeout k tag ms) s) := by
  have h := Within.refl [bUsb] s
  have range : k.val + 1 < 8 := by omega
  have late := (h.mapNear (k.val + 1) fun x => { x with txs := x.txs.filter fun t => t.tag != tag.toNat }).sat
    (f := F.USB_PORT_CNT_TIMEOUT (k.val + 1)) 1 (baseOf_array (base := bUsb) (by simp) range)
  exact Within.ifAon (.ite (late.usbIrq 7) h)

theorem eventRx_within (far : Bool) (n : Fin 6) (ev : Fin 9) : WithinStep [bUsb] s (exec (.eventRx far n ev) s) := by
  have h := Within.refl [bUsb] s
  have range : n.val + 1 < 8 := by omega
  refine Within.ifAon (.ite h (.ite ?far (.ite h ?near)))
  case far =>
    split
    · exact ((h.farGen _ _).mapFar _ _).usbOut _
    · exact h.usbOut _
    · exact h.usbOut _
    · exact h
  case near =>
    split
    · exact (h.mapNear _ _).portConnect range _
    · exact (h.mapNear _ _).portConnect range _
    · exact h.nearGone range
    · have resumed : Within [bUsb] s (s.set (F.USB_PORT_STATUS_SUSPEND (n.val + 1)) 0) :=
        h.set _ (baseOf_array (base := bUsb) (by simp) range)
      have early : Within [bUsb] s (s.sat (F.USB_PORT_CNT2_WAKE_LATE (n.val + 1)) 1) :=
        h.sat _ (baseOf_array (base := bUsb) (by simp) range)
      exact .ite (resumed.portChange _ _).wakeUp (.ite h.wakeUp early)
    · have ended : Within [bUsb] s (s.sets [(F.USB_PORT_STATUS_RESET (n.val + 1), 0), (F.USB_PORT_STATUS_ENABLED (n.val + 1), 1)]) := by
        refine h.sets _ fun p mine => ?_
        simp only [List.mem_cons, List.not_mem_nil, or_false] at mine
        obtain rfl | rfl := mine <;> exact baseOf_array (base := bUsb) (by simp) range
      exact .ite (ended.portChange _ _) h
    · exact h

end UsbRows

/-- Settles O57, by each row's frame. -/
theorem dockAndUsbRowsKeepToTheirBlock : Obligations.DockAndUsbRowsKeepToTheirBlock := by
  intro s c
  constructor
  · rintro (⟨p, x, y, e, rfl⟩ | ⟨p, l, rfl⟩ | ⟨p, rfl⟩ | ⟨p, m, rfl⟩ | ⟨p, rfl⟩ | ⟨p, w, rfl⟩ | ⟨x, rfl⟩ | ⟨p, rfl⟩)
    · exact requestRx_within s p x y e
    · exact sourceCapabilitiesRx_within s p l
    · exact waitRx_within s p
    · exact waitRetry_within s p m
    · exact vconnSwapRx_within s p
    · exact discoverRx_within s p w
    · exact drpToggle_within s x
    · exact moistureTimer_within s p
  · rintro (rfl | ⟨b, st, rfl⟩ | ⟨b, rfl⟩ | rfl | ⟨l, rfl⟩ | rfl | ⟨n, rfl⟩ | ⟨k, g, e, hs, t, p, n, d, rfl⟩ | ⟨k, g, m, rfl⟩ | ⟨f, n, e, rfl⟩)
    · exact usbBusReset_within s
    · exact devSetup_within s b st
    · exact mbxRx_within s b
    · exact mbxTxDone_within s
    · exact isoOutPacket_within s l
    · exact isoInPacket_within s
    · exact audFeedback_within s n
    · exact resultRx_within s k g e hs t p n d
    · exact remoteResultTimeout_within s k g m
    · exact eventRx_within s f n e

end Sys2Proof.Machine
end
